-- ==== Sys2Proof/Word.lean ====
section
/-! DEFINITION. The word types of the EQ9640: bytes, 32-bit register words (R4) and 48-bit stamps (R18). -/
namespace Sys2Proof

/-- One byte; the hub is byte-addressed and little-endian (R4). -/
abbrev Byte := BitVec 8
/-- A register, a FIFO data word, a sample word (R4). -/
abbrev Word := BitVec 32
/-- A stamp: a 48-bit count of BUSCLK ticks that wraps (R18). -/
abbrev Stamp := BitVec 48

end Sys2Proof
end

