-- ==== Sys2Proof/Syntax.lean ====
section
/-! DEFINITION. The commands of the hub: one constructor per row of the command table, with the row's operands. A command
is a register access by one of the six accessors (R41), a frame or transaction on a port, an edge on a pin, or the word
that the edge of an event inside the hub has come; analog values and outcomes that no rule computes are operands. -/
namespace Sys2Proof

/-- Who makes an access (R41). -/
inductive Accessor where
  | a0 | a1 | vane | host | twoWire | debug
  deriving DecidableEq, Repr

/-- A value wider than 32 bits that is read low word first (R38), and the snapshots that follow its rule. -/
inductive WideValue where
  | stamp
  | members (n : Fin 16)
  | accumulator (p : Fin 68)
  | position
  | captureStamp
  | oldest
  | uid
  | hostSync
  | twSync
  | alarm
  | lastEvent
  | packet (b : Fin 2)
  deriving DecidableEq, Repr

/-- A wide value that can be written (R38). -/
inductive WideInput where
  | position | alarm
  deriving DecidableEq, Repr

/-- A per-accessor select register (R37, R43). -/
inductive SelectName where
  | lanes | drives | timers | profiles | channels
  | actuators (b : Fin 2)
  deriving DecidableEq, Repr

/-- A factory trim register (R112). -/
inductive TrimName where
  | reference | temperature | vrc | drawbar | sets
  deriving DecidableEq, Repr

/-- What the checks of a carriage find while an instruction executes (R146, R147): nothing; `n` residue mismatches whose
repeats match; a mismatch whose repeat mismatches; a store or a micro-program parity error. -/
inductive CarCheck where
  | clean | corrected (n : Nat) | residue | storeParity | programParity
  deriving DecidableEq, Repr

/-- Where a coupling or row-bus word goes: an input port of a position, or an outlet stream of a train. -/
inductive CoupDest where
  | port (p : Fin 68) (k : Fin 4)
  | outlet (n : Fin 16) (i : Fin 4)
  deriving DecidableEq, Repr

/-- Where a command of a drive slot comes from (R201, R204): a register write by an accessor to its selected slot, the
slot's task input, or resident service `n + 1`, which owns the slot. -/
inductive SlotVia where
  | register (a : Accessor)
  | task (d : Fin 32)
  | service (n : Fin 3) (d : Fin 32)
  deriving DecidableEq, Repr

/-- What Flap Homing starts by itself (R232): one slot that gained DOUBT, or the mask's slots after boot. -/
inductive AutoHoming where
  | slot (d : Fin 32)
  | boot
  deriving DecidableEq, Repr

/-- How the second watch captures a reception (R307): its sync with `matching` of 16 symbols and its level, or the lowest
total level of the last 8 symbols. -/
inductive CaptureCase where
  | sync (matching level : Nat)
  | level (lowest : Nat)
  deriving DecidableEq, Repr

/-- What one symbol gives the timing tracker (R297): whether the tone changed, and the energies of the winning tone in
the early, late and main windows. -/
structure TrackIn where
  changed : Bool
  early : Nat
  late : Nat
  main : Nat
  deriving DecidableEq, Repr

/-- A Teril frame as the host shifts it (R354, R382). The row gives the OP; `extra` counts the HSCK sampling edges after
the last whole word or slot (R353). `direct`: ARG0, word 1, the words after it. `chain`: ARG0 field, CRC8 field and DATA of
the slot that this hub latches. -/
inductive HostFrame where
  | direct (arg0 : BitVec 24) (word1 : Word) (rest : List Word) (extra : Nat)
  | chain (arg0 : BitVec 20) (crc : BitVec 8) (data : Word) (extra : Nat)
  deriving DecidableEq, Repr

/-- How the controller takes a two-wire read (R390, R397, R399): data bytes after the count byte that are acknowledged in
the sense of R390, whether it took a PEC, and bytes it clocked past the end. -/
structure TwTake where
  acked : Nat
  pec : Bool
  extra : Nat
  deriving DecidableEq, Repr

/-- How an attempt to send a Host Notify ends (R410). -/
inductive NotifyEnd where
  | sent | arb | nack
  deriving DecidableEq, Repr

/-- A binding entry of the selected channel (R440). -/
inductive RouteEntry where
  | pub (k : Fin 4)
  | sub (k : Fin 8)
  deriving DecidableEq, Repr

/-- Where a timer action comes from (R449 to R451): TM_CMD of the accessor's selected timer, or the task input. -/
inductive TimerVia where
  | register (a : Accessor)
  | task (n : Fin 16)
  deriving DecidableEq, Repr

/-- Where a capture comes from (R461): as an action, or an edge of pin TIOn. -/
inductive CaptureVia where
  | register (a : Accessor)
  | task (n : Fin 16)
  | pin (n : Fin 16) (rising : Bool)
  deriving DecidableEq, Repr

/-- Why an application core takes a fault reset by itself (R474): an uncorrectable error of its data TCM, or a lockup. -/
inductive CoreFault where
  | tcm (addr : Word)
  | lockup
  deriving DecidableEq, Repr

/-- A wake source whose edge sets an asynchronous latch (R488). -/
inductive WakeLatch where
  | pin (k : Fin 4)
  | hostSelect
  deriving DecidableEq, Repr

/-- What trips the enclave (R557, R617): a known-answer test, the key store, or a fault sensor. -/
inductive EncTrip where
  | aes | sha | ecdsa | keyStore | supply | clock | temperature
  deriving DecidableEq, Repr

/-- A command. -/
inductive Instr where
  /-- STAMP_HIGH_CHANGE (R246): Stamp bits [47:32] change at stamp B; the merger starts the epoch barrier and holds
  records stamped at or after B. -/
  | stampHighChange
  /-- EPOCH_WRITE (R246): Once every class front has passed B, the merger writes EPOCH stamped B and then releases the
  held records. -/
  | epochWrite
  /-- STAMP_HANDOVER (R23): On the first BUSCLK edge after the exit X32 increment, the BUSCLK counter loads the Vane
  counter and becomes the stamp source again. -/
  | stampHandover
  /-- WIDE_VALUE_READ (R38): A low-word read of a wide value snapshots every word of that value into the accessor's
  holding register. -/
  | wideValueRead (a : Accessor) (w : WideValue)
  /-- WIDE_VALUE_WRITE (R38): A low-word write commits the staged high words and the low word on one BUSCLK edge. -/
  | wideValueWrite (a : Accessor) (w : WideInput) (v : Word)
  /-- SELECT_WRITE (R43): A write of a per-accessor select register; a value out of range is ignored. -/
  | selectWrite (a : Accessor) (q : SelectName) (v : Word)
  /-- REGISTER_WRITE (R40): A write to a register that has no row of its own; it takes effect at its accepting edge
  under the field's access type. -/
  | registerWrite (a : Accessor) (addr : Word) (size : Nat) (v : Word)
  /-- STALLED_ACCESS_COMPLETE (R35): An access stalled on a domain that was off completes once that domain is ready.
  -/
  | stalledAccessComplete (a : Accessor)
  /-- LANE_ENABLE (R71): A write of 1 to an LN_ENABLE bit that is 0 starts the lane's first scan cycle. -/
  | laneEnable (a : Accessor) (mask : BitVec 16)
  /-- LANE_STOP (R71): A write of 0 to an LN_ENABLE bit stops the lane and discards its partial word, with no GAP. -/
  | laneStop (a : Accessor) (mask : BitVec 16)
  /-- LANE_COMMIT (R70): LN_CMD.COMMIT marks the shadow scan list for loading at the next scan-cycle start. -/
  | laneCommit (a : Accessor)
  /-- LANE_RESTART (R72): LN_CMD.RESTART abandons the present cycle and starts a new one at entry 0 on the same edge.
  -/
  | laneRestart (a : Accessor)
  /-- LANE_TESTNOW (R77): LN_CMD.TESTNOW makes the lane run its next reference test at the next boundary, without
  waiting for its lane timer. -/
  | laneTestnow (a : Accessor)
  /-- SCAN_CYCLE_START (R68): A scan cycle starts on its start condition: free running, the period schedule, or a
  trigger event. -/
  | scanCycleStart (k : Fin 16) (trigger : Bool)
  /-- SETTLE_END (R67): LN_SETTLE cycles after a visit's switch, the lane begins that visit's conversions. -/
  | settleEnd (k : Fin 16)
  /-- CONVERSION_COMPLETE (R56): A 24-cycle conversion ends and its code passes to the decimator. -/
  | conversionComplete (k : Fin 16) (code : BitVec 16) (consistent : Bool) (cmOut : Bool)
  /-- WITHHELD_WORD_RELEASE (R76): A withheld word is released after 11 further conversions pass with no second
  inconsistency. -/
  | withheldWordRelease (k : Fin 16)
  /-- LANE_SUBST_COMPLETE (R82): The spare has taken over the logical lane; the merger takes GAP and LANE_SUBST and
  resumes the stream. -/
  | laneSubstComplete (k : Fin 16)
  /-- LANE_TIMER_TICK (R77): A lane timer expires every 96,000 ticks and makes a reference test due. -/
  | laneTimerTick (p : Fin 18)
  /-- REFERENCE_TEST_START (R77): A due reference test starts at the first boundary, idle time or word end. -/
  | referenceTestStart (p : Fin 18)
  /-- REFERENCE_TEST_DONE (R78): A reference test conversion ends and is compared with its expected value. -/
  | referenceTestDone (p : Fin 18) (value : BitVec 24) (consistent : Bool)
  /-- LANE_RETEST (R88): LN_PCMD.RETEST starts an 18-conversion retest of a fenced physical lane. -/
  | laneRetest (a : Accessor)
  /-- LANE_RETEST_DONE (R88): A retest ends; on a pass the lane joins LN_POOL, and on a failure it stays fenced with
  CAUSE 4. -/
  | laneRetestDone (p : Fin 18) (values : List (BitVec 24)) (consistent : Bool)
  /-- TEMPERATURE_READING (R96): Every 1 ms the temperature monitor writes CA_TEMP. -/
  | temperatureReading (t : BitVec 16)
  /-- CAL_RUN_REQUEST (R97): A write of 1 to a CA_RUN bit makes that lane pending. -/
  | calRunRequest (a : Accessor) (mask : BitVec 16)
  /-- CAL_LANE_SELECT (R98): When the engine is idle, it selects the lowest pending lane and decides between a loan
  and a hold. -/
  | calLaneSelect
  /-- CAL_RUN_START (R104): A run starts at t0, the first word end or idle point at least 24 µs after selection. -/
  | calRunStart
  /-- CAL_RUN_END (R101): At t0 + 180 µs the engine folds the measured codes into the sets, releases the DAC and emits
  CAL_DONE. -/
  | calRunEnd (codes : List Int) (verify : Int) (consistent : Bool)
  /-- LOAN_END (R105): At the first word end after t0 + 180 µs + settle, the home lane takes over and the spare
  returns to the pool. -/
  | loanEnd (k : Fin 16)
  /-- STALE_WORD_DUE (R106): During a hold, a scheduled word falls due and is released with STALE set. -/
  | staleWordDue (k : Fin 16)
  /-- HOLD_RESUME (R106): At the first scheduled word start after settling, conversion resumes and STALE_END is
  emitted. -/
  | holdResume (k : Fin 16)
  /-- CAL_SETS_WRITE (R113): A write to CA_SETS is ignored with SETBUSY during a run of that lane; otherwise it
  applies at the next visit. -/
  | calSetsWrite (a : Accessor) (j : Fin 400) (v : Word)
  /-- DAC_CODE_WRITE (R115): A write of CA_DACVAL is held while the engine owns the DAC. -/
  | dacCodeWrite (a : Accessor) (v : Word)
  /-- TRIM_WRITE (R112): A secure owner's write of a factory trim register takes effect at the next BUSCLK edge. -/
  | trimWrite (a : Accessor) (which : TrimName) (v : Word)
  /-- NOP (R120): Carriage operation 0x00 does nothing for one cycle. -/
  | nop (p : Fin 68) (chk : CarCheck)
  /-- WAIT (R125): Takes the next data word from a port into X or ACC, consuming stamp and GAP marks. -/
  | wait (p : Fin 68) (chk : CarCheck)
  /-- MOVE (R613): Copies SRC to DST; from an input port it takes the next word as WAIT does. -/
  | move (p : Fin 68) (chk : CarCheck)
  /-- SCALE (R612): Multiplies X by an immediate, shifts and saturates. -/
  | scale (p : Fin 68) (chk : CarCheck)
  /-- FIR (R611): Runs a FIR filter of LEN taps with decimation on X. -/
  | fir (p : Fin 68) (chk : CarCheck)
  /-- BIQ (R611): Runs a cascade of biquad sections on X. -/
  | biq (p : Fin 68) (chk : CarCheck)
  /-- CIC (R612): Runs a CIC decimator of order 1 to 4. -/
  | cic (p : Fin 68) (chk : CarCheck)
  /-- RECT (R124): Sets X to abs(X), saturated. -/
  | rect (p : Fin 68) (chk : CarCheck)
  /-- ENV (R612): Rectifies X and smooths it with a one-pole filter. -/
  | env (p : Fin 68) (chk : CarCheck)
  /-- THR (R124): Compares X with the stored thresholds and sets or clears a flag with hysteresis. -/
  | thr (p : Fin 68) (chk : CarCheck)
  /-- CNT (R610): Counts rising edges of a flag into a store word. -/
  | cnt (p : Fin 68) (chk : CarCheck)
  /-- PEAK (R611): Tracks the maximum and its index over a window of inputs. -/
  | peak (p : Fin 68) (chk : CarCheck)
  /-- LUT (R612): Looks X up in a table, with linear interpolation. -/
  | lut (p : Fin 68) (chk : CarCheck)
  /-- REC (R126): Steps the 16-state recogniser from its table and may publish or clear a count. -/
  | recStep (p : Fin 68) (chk : CarCheck)
  /-- SQ (R124): Adds X × X to ACC. -/
  | sq (p : Fin 68) (chk : CarCheck)
  /-- SQRT (R612): Sets X to the integer square root of the shifted ACC. -/
  | sqrt (p : Fin 68) (chk : CarCheck)
  /-- DLY (R611): Emits X delayed by LEN inputs through a circular store line. -/
  | dly (p : Fin 68) (chk : CarCheck)
  /-- EVT (R144): Publishes on a train event output, which reaches the router at the next BUSCLK edge. -/
  | evt (p : Fin 68) (chk : CarCheck)
  /-- JMP (R124): Continues execution at an immediate entry. -/
  | jmp (p : Fin 68) (chk : CarCheck)
  /-- CLR (R124): Clears ACC, and optionally RS and the flags. -/
  | clr (p : Fin 68) (chk : CarCheck)
  /-- INVALID_OPERATION (R120): OP 0x3F declares the carriage faulty with cause 3. -/
  | invalidOperation (p : Fin 68)
  /-- EMIT_AFTER_STALL (R124): An instruction stalled for room at a receiving port emits its word once room exists. -/
  | emitAfterStall (p : Fin 68)
  /-- COUPLING_WORD_ARRIVE (R135): A word on a coupling or row bus enters the receiving FIFO and its parity is
  checked. -/
  | couplingWordArrive (d : CoupDest) (parityError : Bool)
  /-- CARRIAGE_SUBST_COMPLETE (R150): The spare has loaded from the cache and the train has restarted; the merger
  takes GAP and CARRIAGE_SUBST. -/
  | carriageSubstComplete (n : Fin 16)
  /-- OUTLET_WORD_RELEASE (R143): The outlet releases a word to the merger as MEASURE and/or to drive slots. -/
  | outletWordRelease (n : Fin 16) (o : Fin 4)
  /-- TRAIN_START (R140): A CW_TSTART bit starts a READY or STOPPED train; its carriages clear their state and reload
  state words. -/
  | trainStart (a : Accessor) (mask : BitVec 16)
  /-- TRAIN_START_COMPLETE (R140): When the last carriage has finished its start, taps pass words and the train is
  WARMING or RUNNING. -/
  | trainStartComplete (n : Fin 16)
  /-- TRAIN_STOP (R142): A CW_TSTOP bit stops the taps and makes the train DRAINING. -/
  | trainStop (a : Accessor) (mask : BitVec 16)
  /-- TRAIN_DRAINED (R142): When all FIFOs are empty and every carriage waits, the train becomes STOPPED. -/
  | trainDrained (n : Fin 16)
  /-- DRAIN_CUT (R142): 100 µs after a stop the train becomes STOPPED, discards its words, and gets GAPs with CAUSE
  10. -/
  | drainCut (n : Fin 16)
  /-- SPARE_BIST_ROUND (R149): A free spare's built-in test round ends; a failure fences the spare. -/
  | spareBistRound (k : Fin 4) (pass : Bool)
  /-- CARRIAGE_RETEST (R157): CW_PCMD.RETEST starts a retest of a fenced position. -/
  | carriageRetest (a : Accessor) (p : Fin 68)
  /-- CARRIAGE_RETEST_DONE (R157): A retest ends; the position becomes free spare or recovered, or returns to fenced
  with CAUSE 6. -/
  | carriageRetestDone (p : Fin 68) (pass : Bool)
  /-- DIAGNOSTIC_WRITE (R160): A diagnostic store write is ignored with DIAGWR in a running train, and otherwise
  applied. -/
  | diagnosticWrite (a : Accessor) (p : Fin 68) (w : Fin 512) (v : Word)
  /-- CONSIST_VERIFY (R181): CW_LDCMD CMD 1 locks the staging buffer and checks the staged image up to BADSECT. -/
  | consistVerify (a : Accessor)
  /-- APPLY_FULL_IMAGE (R182): CW_LDCMD CMD 2 checks or rechecks the staged full image and starts the full load. -/
  | applyFullImage (a : Accessor)
  /-- APPLY_SHUNT_IMAGE (R182): CW_LDCMD CMD 3 checks the staged shunt image and starts an in-place shunt or a
  handover. -/
  | applyShuntImage (a : Accessor) (handover : Bool)
  /-- APPLY_SLOT (R180): CW_LDCMD CMD 4 checks and applies a consist slot as a full image. -/
  | applySlot (a : Accessor) (slot : Fin 2)
  /-- CONSIST_ABORT (R615): CW_LDCMD CMD 5 aborts a verify, a check or a handover before E, or ends the lock. -/
  | consistAbort (a : Accessor)
  /-- CONSIST_CHECK_DONE (R174): The image check ends with a result code, and the image is staged or applied. -/
  | consistCheckDone
  /-- FULL_LOAD_TRAINS_STOPPED (R186): Once every train is STOPPED, all trains become EMPTY and the loader writes the
  new consist. -/
  | fullLoadTrainsStopped
  /-- FULL_LOAD_WRITTEN (R186): Loading ends; the trains are READY, the active registers update, and autostart or lane
  enables follow. -/
  | fullLoadWritten
  /-- IN_PLACE_SHUNT_STOPPED (R189): The shunted trains are STOPPED, become EMPTY and are rewritten. -/
  | inPlaceShuntStopped
  /-- IN_PLACE_SHUNT_LOADED (R189): The shunted trains are READY and start if AUTOSTART is 1. -/
  | inPlaceShuntLoaded
  /-- HANDOVER_STAGING_LOADED (R190): The staging train is written and started with its outputs suppressed. -/
  | handoverStagingLoaded
  /-- HANDOVER_OLD_STOPPED (R190): The old carriage set has passed Sw on every stream, or 100 µs have passed; it
  becomes EMPTY. -/
  | handoverOldStopped
  /-- HANDOVER_TIMEOUT (R191): E has not come within CW_SHCTRL.LIMIT; the handover ends with TIMEOUT. -/
  | handoverTimeout
  /-- STAGING_CONFIG_WRITE (R194): A write of CW_STGBASE or CW_STGLEN is ignored if staged, busy or out of range. -/
  | stagingConfigWrite (a : Accessor) (length : Bool) (v : Word)
  /-- SLOT_FWD (R201): A FWD command or task input moves the slot from IDLE or COAST to RUN_FWD. -/
  | slotFwd (via : SlotVia)
  /-- SLOT_REV (R201): A REV command or task input moves the slot from IDLE or COAST to RUN_REV. -/
  | slotRev (via : SlotVia)
  /-- SLOT_OFF (R201): An OFF command or task input releases a driven slot into COAST. -/
  | slotOff (via : SlotVia)
  /-- SLOT_SPEED (R201): A SPEED command performs the path action with VALUE. -/
  | slotSpeed (via : SlotVia) (value : BitVec 16)
  /-- SLOT_CLEAR (R201): A CLEAR command returns a TRIPPED slot to IDLE. -/
  | slotClear (via : SlotVia)
  /-- SLOT_PINCH (R215): The PINCH task input reverses a driven slot, or publishes OFF. -/
  | slotPinch (d : Fin 32)
  /-- COAST_END (R202): STILL ms without motion evidence ends COAST; the slot adds the coast estimate and becomes
  IDLE. -/
  | coastEnd (d : Fin 32)
  /-- REVERSE_END (R215): After BACK counts, or on TREV expiry, the slot publishes OFF and enters COAST. -/
  | reverseEnd (d : Fin 32)
  /-- REPORT_TICK (R222): The DS_REPORT period expires and the slot's periodic MEASURE reports fall due. -/
  | reportTick (d : Fin 32)
  /-- POSITION_WRITE (R208): A write of DS_POSL sets the position, VALID and DIRTY, and clears DOUBT and CORR. -/
  | positionWrite (a : Accessor) (v : Word)
  /-- COOLANT_ENABLE (R225): A write of DS_CLCTL.EN starts or ends Coolant Loop and its ownership of its slots. -/
  | coolantEnable (a : Accessor) (v : Word)
  /-- COOLANT_STEP (R226): Every PERIOD ms the loop computes the demand and sends pump and fan speeds. -/
  | coolantStep
  /-- DRY_RESTART (R227): WAIT seconds after a dry stop the loop restarts the pump at rpm_min. -/
  | dryRestart (k : Fin 2)
  /-- SERVICE_REQUEST_TAKEN (R225): A resident service takes a pending request within 100 µs and clears its GO. -/
  | serviceRequestTaken (homing : Bool)
  /-- RECALL_GO (R229): DS_PRCTL.GO starts a Position Recall of memory MEM. -/
  | recallGo (a : Accessor) (mem : Fin 4)
  /-- RECALL_STOP (R229): DS_PRCTL.STOP aborts the recall and sends OFF to its moving slots. -/
  | recallStop (a : Accessor)
  /-- RECALL_SAVE (R230): DS_PRCTL.SAVE copies valid slot positions into memory MEM. -/
  | recallSave (a : Accessor) (mem : Fin 4)
  /-- RECALL_TIMEOUT (R229): TMO × 0.1 s without DONE aborts the recall. -/
  | recallTimeout
  /-- HOMING_GO (R231): DS_FHCTL.GO starts homing of the slots in DS_FHMASK. -/
  | homingGo (a : Accessor)
  /-- HOMING_STOP (R231): DS_FHCTL.STOP aborts homing. -/
  | homingStop (a : Accessor)
  /-- HOMING_TIMEOUT (R231): A slot that reaches no end stop within TMO fails homing. -/
  | homingTimeout (d : Fin 32)
  /-- AUTO_HOMING_START (R232): A masked slot that gained DOUBT is homed once it is IDLE and unowned. -/
  | autoHomingStart (which : AutoHoming)
  /-- RECORD_ARRIVE (R244): A record reaches the merger and is judged against its class front. -/
  | recordArrive
  /-- RECORD_WRITE (R243): Held records below their front are numbered and written into the batch queue. -/
  | recordWrite
  /-- OVERFLOW_EXIT (R255): Free space reaches RK_OVFREE; the merger writes OVERFLOW and an all-sources GAP with CAUSE
  7. -/
  | overflowExit
  /-- CURSOR_ENABLE (R250): A write of RK_CnCTRL.EN sets the cursor to the queue head, or disables it. -/
  | cursorEnable (a : Accessor) (c : Fin 4) (v : Word)
  /-- CURSOR_ACK (R253): A write to RK_CnACK delivers words on cursor 2 or 3, or sets ACKERR. -/
  | cursorAck (a : Accessor) (c : Fin 4) (v : Word)
  /-- SW_RECORD_COMMIT (R277): RK_SWHDR commits a firmware SERVICE record, or sets SWREJ. -/
  | swRecordCommit (a : Accessor) (v : Word)
  /-- HORIZON_WRITE (R248): A valid RK_HORIZON write moves the acquisition front at once. -/
  | horizonWrite (a : Accessor) (v : Word)
  /-- ALMANAC_WRITE (R268): An almanac entry is written at AL_WIDX, which then advances. -/
  | almanacWrite
  /-- ALMANAC_LOG_COMMIT (R269): AL_LOGH commits a firmware almanac entry from the holding registers. -/
  | almanacLogCommit (a : Accessor) (v : Word)
  /-- WATCHDOG_ENABLE (R273): Setting AL_WDCTLn.EN starts the watchdog. -/
  | watchdogEnable (a : Accessor) (n : Fin 3) (v : Word)
  /-- WATCHDOG_KICK (R273): A write of AL_WDKICKn by the watched processor restarts its timeout. -/
  | watchdogKick (a : Accessor) (n : Fin 3) (v : Word)
  /-- WATCHDOG_EXPIRE (R273): A watchdog expires and resets its processor. -/
  | watchdogExpire (n : Fin 3)
  /-- XTAL_FAIL (R274): Loss of the 16 MHz crystal moves the PLL to the internal RC. -/
  | xtalFail
  /-- PLL_FAIL (R274): BUSCLK outside ±3 % resets the hub with cause CLKFAIL. -/
  | pllFail (measured : BitVec 16)
  /-- VRC_FAIL (R274): VRC outside ±15 % sets the VRC fault flag. -/
  | vrcFail (measured : BitVec 16)
  /-- X32_FAIL (R274): No X32 edge in 4 periods stops the RTC and the Lull stamps. -/
  | x32Fail
  /-- LOCKSTEP_MISMATCH (R274): A Vane lockstep mismatch resets the Vane. -/
  | lockstepMismatch (pc : Word)
  /-- FAULT_PIN_RELEASE (R275): FAULT_N is released once no condition holds and 1 ms has passed. -/
  | faultPinRelease
  /-- FAULT_READY (R275): A write of AL_FCTL.READY marks boot complete. -/
  | faultReady (a : Accessor) (v : Word)
  /-- SOFTWARE_FAULT (R275): A write of AL_FCTL.SWFAULT sets AL_FSTAT.SW. -/
  | softwareFault (a : Accessor) (v : Word)
  /-- PHY_ENABLE (R312): Setting DB_PHYCFG.EN puts the receiver in LISTEN. -/
  | phyEnable (a : Accessor) (b : Fin 2) (v : Word)
  /-- PHY_DISABLE (R312): Clearing DB_PHYCFG.EN ramps the driver down and puts the receiver in OFF. -/
  | phyDisable (a : Accessor) (b : Fin 2) (v : Word)
  /-- CANDIDATE_FOUND (R301): Eight symbols that match the preamble above DETTHR start a candidate in SYNC. -/
  | candidateFound (b : Fin 2) (matching : Nat) (level : Nat) (clipped : Bool)
  /-- SYNC_FOUND (R302): The sync word matches with SYNCTHR symbols, and the receiver enters HEADER. -/
  | syncFound (b : Fin 2) (matching : Nat) (level : Nat) (rival : Option Nat) (clipped : Bool)
  /-- SYNC_DEADLINE (R302): No sync by symbol 48 abandons the candidate and counts it in FALSE. -/
  | syncDeadline (b : Fin 2)
  /-- HEADER_DECODED (R303): The header's bits are available; it is accepted, or rejected back to LISTEN. -/
  | headerDecoded (b : Fin 2) (h : Word) (clipped : Bool)
  /-- RECEPTION_COMPLETE (R303): The body is decoded and passes to the protocol layer for the CRC, tag and match
  checks. -/
  | receptionComplete (b : Fin 2) (bytes : List Byte) (track : List TrackIn) (clipped : Bool)
  /-- CAPTURE (R307): A stronger packet captures the reception in progress. -/
  | capture (b : Fin 2) (how : CaptureCase)
  /-- TRANSMISSION_END (R282): The last symbol of a transmission ends, and the receiver is blanked. -/
  | transmissionEnd (b : Fin 2)
  /-- BLANK_END (R279): 16 µs after the last symbol, the receiver returns to LISTEN. -/
  | blankEnd (b : Fin 2)
  /-- TX_OVERCURRENT (R284): The driver current limit trips; the transmission ends and TXOC is set. -/
  | txOvercurrent (b : Fin 2)
  /-- LISTENER_DETECT (R310): The B0 listener detects carrier energy for TIME periods and raises a wake. -/
  | listenerDetect
  /-- EXCHANGE_START (R326): A slot's exchange starts at its boundary, or 100 µs after the previous exchange. -/
  | exchangeStart (b : Fin 2)
  /-- RESPONSE_TIMEOUT (R326): No sync by te + 700 µs fails the try with cause 1. -/
  | responseTimeout (b : Fin 2)
  /-- COMMAND_COMMIT (R330): A DB_ACMDH write queues a command, or refuses it. -/
  | commandCommit (a : Accessor) (b : Fin 2) (v : Word)
  /-- TIMETABLE_RUN (R324): Setting DB_LCFG.RUN makes entry 0 take the next boundary. -/
  | timetableRun (a : Accessor) (b : Fin 2) (v : Word)
  /-- TIMETABLE_HALT (R324): Clearing DB_LCFG.RUN ends the timetable after the exchange in progress. -/
  | timetableHalt (a : Accessor) (b : Fin 2) (v : Word)
  /-- ENUM_GO (R340): DB_ENCTL.GO starts an enumeration walk. -/
  | enumGo (a : Accessor) (b : Fin 2) (v : Word)
  /-- ENUM_STOP (R340): DB_ENCTL.STOP ends the walk at the present step. -/
  | enumStop (a : Accessor) (b : Fin 2) (v : Word)
  /-- STORED_COMMAND_TRIGGER (R336): An event on drawbar task input k commits stored command k as urgent. -/
  | storedCommandTrigger (b : Fin 2) (k : Fin 8)
  /-- AUID_WRITE (R349): A DB_AUID write makes the selected address free or expected. -/
  | auidWrite (a : Accessor) (b : Fin 2) (v : Word)
  /-- FRAME_SELECT (R359): A falling HSEL_N starts a frame and loads the status byte. -/
  | frameSelect
  /-- STATUS_POLL (R354): A one-word frame returns word 0 and changes nothing. -/
  | statusPoll
  /-- HELLO (R361): Agrees the Teril version and returns the device identity. -/
  | hello (f : HostFrame)
  /-- READ_REG (R364): Reads COUNT words through the host window. -/
  | readReg (f : HostFrame)
  /-- WRITE_REG (R366): Writes COUNT words through the host window, in ascending order. -/
  | writeReg (f : HostFrame)
  /-- READ_BATCH (R369): Returns records of cursor 0 or 1, or repeats the last response. -/
  | readBatch (f : HostFrame)
  /-- LOAD_CONSIST_CHUNK (R372): Writes an image chunk into the staging buffer. -/
  | loadConsistChunk (f : HostFrame)
  /-- LOAD_CONSIST_VERIFY (R373): Issues CW_LDCMD verify as a long command. -/
  | loadConsistVerify (f : HostFrame)
  /-- LOAD_CONSIST_APPLY (R373): Issues a full-image apply as a long command. -/
  | loadConsistApply (f : HostFrame)
  /-- SHUNT (R373): Issues a shunt apply as a long command. -/
  | shunt (f : HostFrame)
  /-- STORE (R374): Starts a settings store as a long command. -/
  | store (f : HostFrame) (vddOk : Bool)
  /-- POWER_REQ (R375): Passes a power-state request to power control. -/
  | powerReq (f : HostFrame)
  /-- SYNC (R376): Records the stamp of the closing HSEL_N edge in HP_SYNCL and HP_SYNCH. -/
  | sync (f : HostFrame) (since : Fin 4)
  /-- ALMANAC_READ (R377): Returns COUNT almanac entries by index. -/
  | almanacRead (f : HostFrame)
  /-- NOTIFY_CFG (R378): Writes HP_NMASK. -/
  | notifyCfg (f : HostFrame)
  /-- SESSION_OPEN (R379): Exchanges nonces and opens a secure session. -/
  | sessionOpen (f : HostFrame)
  /-- SESSION_CLOSE (R381): Closes the session and erases its key. -/
  | sessionClose (f : HostFrame)
  /-- NO_OPERATION (R385): Chain-mode OP 0 does nothing. -/
  | noOperation (f : HostFrame)
  /-- LONG_COMMAND_DONE (R374): A long command completes; OUTCOME is recorded and DONE is set. -/
  | longCommandDone
  /-- HOST_SWIRQ (R378): A write of HP_SWIRQ sets HP_NSRC.SW. -/
  | hostSwirq (a : Accessor) (v : Word)
  /-- HOST_PORT_CONFIG (R350): A write of HP_CFG enables or disables the port; a clear of EN closes any session. -/
  | hostPortConfig (a : Accessor) (v : Word)
  /-- TW_STATUS (R395): Returns the status byte and the last result. -/
  | twStatus (k : TwTake)
  /-- TW_HELLO (R395): Returns the HELLO words and clears TW_NSRC.NEW. -/
  | twHello (k : TwTake)
  /-- TW_POINTER (R398): Sets TW_PTR. -/
  | twPointer (bytes : List Byte)
  /-- TW_READ_REG (R398): Reads WORDS words from the pointer through the window. -/
  | twReadReg (k : TwTake)
  /-- TW_WRITE_REG (R398): Writes words at the pointer through the window. -/
  | twWriteReg (bytes : List Byte)
  /-- TW_READ_BATCH (R400): Reads a block of cursor 1. -/
  | twReadBatch (k : TwTake)
  /-- TW_BATCH_AGAIN (R402): Returns the undelivered block again. -/
  | twBatchAgain (k : TwTake)
  /-- TW_LOAD_CONSIST_CHUNK (R403): Writes an image chunk into the staging buffer. -/
  | twLoadConsistChunk (bytes : List Byte)
  /-- TW_LOAD_CONSIST_VERIFY (R403): Issues a consist verify as a long command. -/
  | twLoadConsistVerify (bytes : List Byte)
  /-- TW_LOAD_CONSIST_APPLY (R403): Issues a consist apply as a long command. -/
  | twLoadConsistApply (bytes : List Byte)
  /-- TW_SHUNT (R403): Issues a shunt as a long command. -/
  | twShunt (bytes : List Byte)
  /-- TW_STORE (R403): Starts a settings store as a long command. -/
  | twStore (bytes : List Byte) (vddOk : Bool)
  /-- TW_POWER_REQ (R395): Passes a power-state request to power control. -/
  | twPowerReq (bytes : List Byte)
  /-- TW_SYNC (R404): Records the stamp of the STOP condition. -/
  | twSync (bytes : List Byte) (since : Fin 4)
  /-- TW_SYNC_READ (R404): Returns the SYNC stamp and count. -/
  | twSyncRead (k : TwTake)
  /-- TW_ALMANAC_PTR (R395): Sets the almanac first index and count. -/
  | twAlmanacPtr (bytes : List Byte)
  /-- TW_ALMANAC_READ (R405): Returns almanac entries and advances the index. -/
  | twAlmanacRead (k : TwTake)
  /-- TW_NOTIFY_CFG (R395): Writes TW_NMASK. -/
  | twNotifyCfg (bytes : List Byte)
  /-- TW_LONG_DONE (R403): A two-wire long command completes and sets TW_STAT.DONE. -/
  | twLongDone
  /-- STRETCH_TIMEOUT (R392): A stretch reaching 25 ms releases SCL and voids the transaction. -/
  | stretchTimeout (code : BitVec 8)
  /-- BUS_TIMEOUT (R393): SCL low for 35 ms abandons the transaction. -/
  | busTimeout
  /-- ADDRESS_MATCH (R406): In Lull the matcher ACKs its address, holds SCL and raises a wake. -/
  | addressMatch
  /-- TW_TAKEOVER (R406): The port takes over the held transaction and releases SCL. -/
  | twTakeover
  /-- MATCHER_RELEASE (R406): 60 µs without takeover releases SCL and sets STRETCHOUT. -/
  | matcherRelease
  /-- CALM_ADDRESS_WAKE (R407): In Calm an address match starts a wake, without ACK. -/
  | calmAddressWake
  /-- HOST_NOTIFY (R410): On an idle bus the hub sends a Host Notify to address 0x08. -/
  | hostNotify (e : NotifyEnd)
  /-- TW_SWIRQ_SET (R409): A write of TW_SWIRQ sets TW_NSRC.SW. -/
  | twSwirqSet (a : Accessor) (v : Word)
  /-- PROFILE_TRIGGER (R416): A trigger event makes a sensor profile pending, or is missed while it is busy. -/
  | profileTrigger (k : Fin 16)
  /-- PROFILE_GO (R416): SP_PCMD.GO makes the selected profile pending. -/
  | profileGo (a : Accessor)
  /-- SENSOR_FRAME_START (R417): The idle port starts a pending flash operation or the lowest pending profile. -/
  | sensorFrameStart
  /-- SENSOR_FRAME_END (R417): A frame's end edge takes the reading and delivers records, memory, slots and DONE. -/
  | sensorFrameEnd (data : List Byte)
  /-- WINDOW_READ (R420): A flash-window read is served from the cache or fetches a line. -/
  | windowRead (a : Accessor) (off : BitVec 26) (size : Nat)
  /-- WINDOW_WRITE (R421): A flash-window write collects into the page buffer. -/
  | windowWrite (a : Accessor) (off : BitVec 26) (size : Nat) (v : Word)
  /-- PAGE_BUFFER_IDLE (R421): 50 µs without a write programs the page buffer. -/
  | pageBufferIdle
  /-- FLASH_STATUS_POLL (R422): Every INT µs a status poll checks WIPBIT and ends the operation when clear. -/
  | flashStatusPoll (status : Byte)
  /-- FLASH_OPERATION_TIMEOUT (R422): Polling beyond TMO ends the operation with TIMEOUT. -/
  | flashOperationTimeout
  /-- FLASH_ERASE_SECTOR (R423): SP_FCMD OP 1 erases a 4 KiB sector. -/
  | flashEraseSector (a : Accessor) (addr : BitVec 26)
  /-- FLASH_ERASE_BLOCK (R423): SP_FCMD OP 2 erases a 64 KiB block. -/
  | flashEraseBlock (a : Accessor) (addr : BitVec 26)
  /-- FLASH_ERASE_DEVICE (R423): SP_FCMD OP 3 erases the whole device. -/
  | flashEraseDevice (a : Accessor)
  /-- FLASH_PROGRAM_BUFFER (R421): SP_FCMD OP 4 programs the page buffer. -/
  | flashProgramBuffer (a : Accessor)
  /-- CACHE_INVALIDATE (R423): SP_FCMD OP 5 invalidates the read cache. -/
  | cacheInvalidate (a : Accessor)
  /-- MODE_FAULT (R424): SMM_N low releases the port's outputs and abandons the frame or flash operation. -/
  | modeFault (low : Bool)
  /-- PROFILE_BUFFER_WRITE (R419): A write of SP_PBUF or SP_PPHASE is ignored if the buffer would leave allowed SRAM.
  -/
  | profileBufferWrite (a : Accessor) (phase : Bool) (v : Word)
  /-- EVENT_DELIVERY (R431): At a delivery edge the router runs the hop check, gate changes and gate judgement, then
  delivers. -/
  | eventDelivery
  /-- SOFTWARE_PUBLISH (R439): A write to EV_SWPUBL or EV_SWPUBH publishes on owned channels. -/
  | softwarePublish (a : Accessor) (high : Bool) (v : Word)
  /-- GATE_WRITE (R434): A write of EV_GATE opens or closes group gates. -/
  | gateWrite (a : Accessor) (v : Word)
  /-- ROUTE_ENTRY_WRITE (R440): A write of EV_PUBk or EV_SUBk changes a router binding. -/
  | routeEntryWrite (a : Accessor) (e : RouteEntry) (v : Word)
  /-- TIMER_START (R449): A START task input or TM_CMD.START starts the timer. -/
  | timerStart (via : TimerVia)
  /-- TIMER_GROUP_START (R449): A TM_GSTART write starts several timers on one edge. -/
  | timerGroupStart (a : Accessor) (mask : BitVec 16)
  /-- TIMER_STOP (R450): A STOP task input or TM_CMD.STOP stops the timer. -/
  | timerStop (via : TimerVia)
  /-- TIMER_CLEAR (R451): CLEAR zeroes the counter and fired flags and applies a pending RELOAD. -/
  | timerClear (via : TimerVia)
  /-- TIMER_CAPTURE (R462): A capture latches the count and the 48-bit stamp. -/
  | timerCapture (via : CaptureVia)
  /-- TIMER_COUNT_EVENT (R448): A COUNT task delivery advances an event-counting timer. -/
  | timerCountEvent (n : Fin 16)
  /-- TIMER_WRAP (R447): The counter passes RELOAD to 0; flags clear, actions apply and WRAP publishes. -/
  | timerWrap (n : Fin 16)
  /-- COMPARE_FIRE (R453): The count reaches CMPA or CMPB; the compare fires and publishes. -/
  | compareFire (n : Fin 16)
  /-- COMPARE_WRITE (R454): A write of TM_CMPA or TM_CMPB is judged against the present count. -/
  | compareWrite (a : Accessor) (second : Bool) (v : Word)
  /-- RELOAD_WRITE (R458): A RELOAD write is buffered or applied at once, possibly causing a SHORT wrap. -/
  | reloadWrite (a : Accessor) (v : Word)
  /-- TIMER_CONFIG_WRITE (R469): A TM_CFG or TM_CNT write is ignored with CFGREJ while the timer runs. -/
  | timerConfigWrite (a : Accessor) (count : Bool) (v : Word)
  /-- OUTPUT_LEVEL_WRITE (R464): A TM_OUT write sets the level and the actions. -/
  | outputLevelWrite (a : Accessor) (v : Word)
  /-- CAPTURE_READ (R463): A read of TM_CAP clears CAPFULL. -/
  | captureRead (a : Accessor)
  /-- INTERRUPT_ROUTE (R480): A pending source is routed to the eligible processor with the lowest running level. -/
  | interruptRoute
  /-- INTERRUPT_CLAIM (R483): A read of IC_CLAIMx takes the highest routed source into service. -/
  | interruptClaim (a : Accessor) (x : Fin 3)
  /-- INTERRUPT_COMPLETE (R484): A write of IC_COMPLETEx ends service of a source. -/
  | interruptComplete (a : Accessor) (x : Fin 3) (v : Word)
  /-- SOFTWARE_INTERRUPT_SET (R485): IC_SWSET sets software source latches. -/
  | softwareInterruptSet (a : Accessor) (v : Word)
  /-- SOURCE_CONFIG_WRITE (R486): A write of IC_SRCn changes priority or target. -/
  | sourceConfigWrite (a : Accessor) (n : Fin 160) (v : Word)
  /-- CORE_ACCEPT_WRITE (R481): A write of IC_CPUCTLx.ACCEPT lets a core take sources. -/
  | coreAcceptWrite (a : Accessor) (x : Fin 3) (v : Word)
  /-- CORE_RESET_REQUEST (R474): A write of IC_CPUCTLx.RESET causes a fault reset with cause 4. -/
  | coreResetRequest (a : Accessor) (x : Fin 3) (v : Word)
  /-- CORE_FAULT_RESET (R475): A core fault stops the core, ends its services and latches its reset source. -/
  | coreFaultReset (x : Fin 2) (why : CoreFault)
  /-- CORE_RESTART (R475): 32 BUSCLK cycles after a fault, the core leaves reset at the boot ROM. -/
  | coreRestart (x : Fin 3)
  /-- WAKE_LATCH_SET (R488): A wake-source edge sets its asynchronous latch. -/
  | wakeLatchSet (w : WakeLatch)
  /-- CORE_WFI (R493): WFI halts the core, or stops it when the floor is Breeze. -/
  | coreWfi (x : Fin 3)
  /-- CORE_WAKE (R494): A stopped core resumes 5 µs after a source is routed to it. -/
  | coreWake (x : Fin 3)
  /-- FENCE_I (R472): FENCE.I invalidates the instruction cache. -/
  | fenceI (x : Fin 3)
  /-- REQUEST_GALE (R493): A Gale request sets the floor and starts accepting cores. -/
  | requestGale (a : Accessor)
  /-- REQUEST_BREEZE (R493): A Breeze request sets the floor to Breeze. -/
  | requestBreeze (a : Accessor)
  /-- REQUEST_LULL (R499): A Lull request starts the handshake. -/
  | requestLull (a : Accessor)
  /-- REQUEST_CALM (R499): A Calm request starts the handshake, or exits Lull first. -/
  | requestCalm (a : Accessor)
  /-- VANE_WAKE_REQUEST (R505): VN_CTRL.WAKE decides an exit from Lull. -/
  | vaneWakeRequest (a : Accessor) (v : Word)
  /-- VANE_CALM_REQUEST (R498): VN_CTRL.CALM requests Calm. -/
  | vaneCalmRequest (a : Accessor) (v : Word)
  /-- HANDSHAKE_COMMIT (R501): Every block answers ACK, and the entry commits at EC. -/
  | handshakeCommit
  /-- HANDSHAKE_REFUSE (R501): A block answers REFUSE and the entry aborts. -/
  | handshakeRefuse
  /-- HANDSHAKE_TIMEOUT (R501): No commit within HSTMO aborts the entry. -/
  | handshakeTimeout
  /-- LULL_ENTERED (R502): At EB, after signing, the stamp source passes to the Vane counter and domains switch off.
  -/
  | lullEntered
  /-- LULL_EXIT (R505): A wake decides an exit; the Vane starts the PLL and raises MAIN. -/
  | lullExit
  /-- PLL_LOCKED (R504): BUSCLK gives its first edge, and the retention checks begin. -/
  | pllLocked
  /-- BREEZE_REACHED (R504): At ER the hub is in Breeze and parked blocks resume. -/
  | breezeReached
  /-- CALM_ENTERED (R506): After compaction and signing, VANE switches off and Calm is reached. -/
  | calmEntered
  /-- CALM_WAKE (R507): A wake in Calm powers VANE and boots through Lull. -/
  | calmWake
  /-- DOMAIN_IDLE_OFF (R495): An AUTO domain idle for IDLE × 10 µs switches off. -/
  | domainIdleOff (d : Fin 5)
  /-- DOMAIN_WAKE (R495): An access that needs an off domain switches it on. -/
  | domainWake (d : Fin 5)
  /-- RETENTION_CHECK_DONE (R514): A bank's signature check ends and unblocks the bank. -/
  | retentionCheckDone (bank : Fin 16) (ok : Bool) (canary : Bool)
  /-- PAD_RELEASE (R511): PW_PADREL releases latched pad groups. -/
  | padRelease (a : Accessor) (groups : BitVec 3)
  /-- CLOCK_SOURCE_WRITE (R521): PW_CLK.SRC moves the PLL to the new reference. -/
  | clockSourceWrite (a : Accessor) (v : Word)
  /-- MONITOR_SCAN (R518): Every PERIOD X32 edges the Lull monitor converts and filters its channels. -/
  | monitorScan (codes : Vector (BitVec 12) 8)
  /-- VANE_CAPTURE_EDGE (R519): An edge on TIO0 to TIO3 counts and may set the capture latch. -/
  | vaneCaptureEdge (n : Fin 4) (rising : Bool)
  /-- WAKE_PIN_CHANGE (R509): A debounced WAKE pin change sets the latch or asserts the level. -/
  | wakePinChange (k : Fin 4) (level : Bool)
  /-- RTC_ALARM (R510): The stamp reaches the alarm value, and the alarm asserts. -/
  | rtcAlarm
  /-- POWER_ON_RESET (R522): Supplies rise above threshold; the whole hub resets and boots. -/
  | powerOnReset (strap : Fin 9)
  /-- BROWN_OUT_RESET (R522): VDD33 or VDDA falls below threshold for 2 µs; a system reset follows. -/
  | brownOutReset
  /-- PIN_RESET (R523): RESET_N low for 1 µs causes a system reset. -/
  | pinReset (low : Nat)
  /-- SOFTWARE_RESET (R522): A write of 0x0000_C3A5 to NV_SYSRST causes a system reset. -/
  | softwareReset (a : Accessor)
  /-- ENCLAVE_RESET (R522): The enclave requests a system reset. -/
  | enclaveReset
  /-- BOOT_COMPLETE (R526): After verification and consist load, A0 and the Vane leave reset. -/
  | bootComplete
  /-- A1_START (R529): A write of NV_A1START by A0 releases A1. -/
  | a1Start (a : Accessor) (v : Word)
  /-- NVM_OPEN (R533): Erases a bank's marker and opens the bank. -/
  | nvmOpen (a : Accessor) (b : Fin 2)
  /-- NVM_ERASE (R533): Erases an 8 KiB sector of an open bank. -/
  | nvmErase (a : Accessor)
  /-- NVM_PROGRAM (R533): Programs a 16-byte unit. -/
  | nvmProgram (a : Accessor)
  /-- NVM_COMMIT (R534): Verifies a bank and writes its marker. -/
  | nvmCommit (a : Accessor) (b : Fin 2)
  /-- NVM_STORE (R538): Stores the dirty settings pages. -/
  | nvmStore (a : Accessor) (vddOk : Bool)
  /-- NVM_CLOSE (R533): Closes the bank. -/
  | nvmClose (a : Accessor) (b : Fin 2)
  /-- NVM_OPERATION_DONE (R533): An NVM operation ends with a result in NV_STAT. -/
  | nvmOperationDone (readBackOk : Bool)
  /-- STORE_PAGE_WRITTEN (R538): A page's new copy is programmed and verified. -/
  | storePageWritten (readBackOk : Bool) (vddOk : Bool)
  /-- SETTINGS_WRITE (R537): A write to a settings image page sets its NV_DIRTY bit. -/
  | settingsWrite (a : Accessor) (page : Fin 32) (off : Fin 2048) (size : Nat) (v : Word)
  /-- HASH (R561): Mailbox SHA-256 of a buffer. -/
  | hash (a : Accessor) (slot : Fin 32) (len : BitVec 16)
  /-- VERIFY (R561): Mailbox ECDSA verification of a digest. -/
  | verify (a : Accessor) (slot : Fin 32) (len : BitVec 16)
  /-- CMAC (R561): Mailbox AES-CMAC tag. -/
  | cmac (a : Accessor) (slot : Fin 32) (len : BitVec 16)
  /-- CTR (R561): Mailbox AES-CTR encryption. -/
  | ctr (a : Accessor) (slot : Fin 32) (len : BitVec 16)
  /-- RANDOM (R561): Mailbox random bytes from the entropy source. -/
  | random (a : Accessor) (slot : Fin 32) (len : BitVec 16)
  /-- KEY_INSTALL (R552): Installs a key record into a slot. -/
  | keyInstall (a : Accessor) (slot : Fin 32) (len : BitVec 16)
  /-- KEY_REVOKE (R552): Revokes a key slot. -/
  | keyRevoke (a : Accessor) (slot : Fin 32) (len : BitVec 16)
  /-- KEY_INFO (R561): Returns type, origin and usage of a slot. -/
  | keyInfo (a : Accessor) (slot : Fin 32) (len : BitVec 16)
  /-- SETMIN (R553): Raises the minimum firmware or consist serial. -/
  | setmin (a : Accessor) (slot : Fin 32) (len : BitVec 16)
  /-- WINSET (R554): Stores a new window table and writes HP_WIN. -/
  | winset (a : Accessor) (slot : Fin 32) (len : BitVec 16)
  /-- ADVANCE (R549): Moves the lifecycle from PROVISION to SECURED and resets. -/
  | advance (a : Accessor) (slot : Fin 32) (len : BitVec 16)
  /-- DECOMMISSION (R549): Moves the lifecycle to DECOMMISSIONED on a signed record and resets. -/
  | decommission (a : Accessor) (slot : Fin 32) (len : BitVec 16)
  /-- MAILBOX_DONE (R561): A mailbox command completes with DONE or ERR and a result. -/
  | mailboxDone (storeOk : Bool)
  /-- SECLOCK_SET (R546): A0 sets SECLOCK and stops being a secure accessor. -/
  | seclockSet (a : Accessor) (v : Word)
  /-- SECDBG_CHALLENGE (R550): The enclave offers a debug challenge over SECDBG. -/
  | secdbgChallenge
  /-- SECDBG_RESPONSE (R550): A matching token opens the debug port; failures count. -/
  | secdbgResponse (slot : Fin 32) (mac : BitVec 128)
  /-- ENTROPY_FAIL (R556): A health test failure stops the entropy source. -/
  | entropyFail (repetition : Bool)
  /-- ENCLAVE_SENSOR_TRIP (R557): A fault sensor trip erases enclave RAM and requests a reset. -/
  | enclaveSensorTrip (t : EncTrip)
  /-- READ_CLEAR_ACCESS (R7): A processor or port read of an RC field returns the field and clears it. -/
  | readClearAccess (a : Accessor) (addr : Word) (size : Nat)
  /-- SECOND_WATCH_CANDIDATE (R305): The second-watch correlator finds its own preamble candidate while the main path
  is in SYNC, HEADER or BODY. -/
  | secondWatchCandidate (b : Fin 2) (matching : Nat) (level : Nat)
  /-- SECOND_WATCH_SYNC (R307): The second watch finds sync; below L_cap, or with CAPEN at 0 during HEADER or BODY,
  the sync is dropped and counted in WEAK. -/
  | secondWatchSync (b : Fin 2) (matching : Nat) (level : Nat)
  /-- SECOND_WATCH_DEADLINE (R302): The second watch's candidate reaches its 48-symbol deadline without sync and is
  abandoned, so the watch can seek again. -/
  | secondWatchDeadline (b : Fin 2)
  /-- BADOP_FRAME (R363): A host-port command frame with an OP that the table does not list, or that chain mode does
  not carry, ends with BADOP and sets CMDERR. -/
  | badopFrame (op : BitVec 8) (f : HostFrame)
  /-- TW_UNKNOWN_CODE (R395): A two-wire transaction with an unlisted command code is NACKed and sets TW_STAT.CMDERR.
  -/
  | twUnknownCode (code : BitVec 8)
  /-- CRYSTAL_RUNNING (R589): The 16 MHz crystal oscillator reaches oscillation within 2 ms after PW_CLK.XEN, and
  PW_CLK.XRUN becomes 1. -/
  | crystalRunning
  /-- X32_START (R589): The 32.768 kHz oscillator starts, up to 1.5 s after power-on, and X32 edges begin to drive the
  RTC and the Vane counter. -/
  | x32Start
  deriving DecidableEq, Repr

end Sys2Proof
end

