-- ==== Sys2Proof/Decode.lean ====
section
/-! DEFINITION. The command that a word spells by the command table's bits. The table gives none of its rows any bits, so
no word spells a command. -/
namespace Sys2Proof

/-- The command that a word of `nbits` bits spells: none, since the table has no bits. -/
def decodeTableWord (_nbits _w : Nat) : Option Instr := none

end Sys2Proof
end

