-- ==== Sys2Proof/Config.lean ====
section
/-! DEFINITION. What one implementation fixes and the spec leaves open: free values and the cryptographic functions,
all opaque, so that no proof can lean on a value. -/
namespace Sys2Proof.Config

/-- The `n`-th free value of width `w` (log entry 2). -/
opaque freeValue (w n : Nat) : BitVec w

/-- AES-128 CMAC of a message under a key, 16 bytes (R344, R380, R561; log entry 5). -/
opaque cmac (key msg : List Byte) : BitVec 128

/-- AES-128 CTR key stream: `n` bytes from a key and a counter block (R345, R561; log entry 5). -/
opaque ctrStream (key iv : List Byte) (n : Nat) : List Byte

/-- SHA-256 of a message, 32 bytes, the first byte lowest (R561; log entry 5). -/
opaque sha256 (msg : List Byte) : BitVec 256

/-- ECDSA P-256 verification of a 32-byte digest (R173, R560; log entry 5). -/
opaque ecdsaOk (pub digest sig : List Byte) : Bool

/-- AES-128 decryption of one block (R552; log entry 5). -/
opaque aesDecrypt (key block : List Byte) : BitVec 128

end Sys2Proof.Config
end

