-- ==== Sys2Proof/Machine/Bits.lean ====
section
/-! DEFINITION. Bit fields, sign extension, saturation, stamp order and byte order: the small helpers that every
block's meaning uses. -/
namespace Sys2Proof.Machine

/-- Field `[hi:lo]` of a word, as a number. -/
def fld {n : Nat} (w : BitVec n) (hi lo : Nat) : Nat := w.toNat / 2 ^ lo % 2 ^ (hi + 1 - lo)

/-- Bit `i` of a word. -/
def bit {n : Nat} (w : BitVec n) (i : Nat) : Bool := w.getLsbD i

/-- The mask of bits `[hi:lo]`. -/
def maskOf (hi lo : Nat) : Word := BitVec.ofNat 32 (2 ^ (hi + 1) - 2 ^ lo)

/-- `w` with field `[hi:lo]` replaced by `v`. -/
def putFld (w : Word) (hi lo v : Nat) : Word :=
  (w &&& ~~~(maskOf hi lo)) ||| (BitVec.ofNat 32 (v * 2 ^ lo) &&& maskOf hi lo)

/-- `w` with bit `i` at `b`. -/
def putBit (w : Word) (i : Nat) (b : Bool) : Word :=
  if b then w ||| BitVec.ofNat 32 (2 ^ i) else w &&& ~~~(BitVec.ofNat 32 (2 ^ i))

/-- A value in field position `lo`, for composing words. -/
def at_ (v lo : Nat) : Word := BitVec.ofNat 32 (v * 2 ^ lo)

/-- 1 or 0. -/
def b2n (b : Bool) : Nat := if b then 1 else 0

/-- Word whose bit `i` is `f i`, for `i < n`. -/
def bitsOf (n : Nat) (f : Nat → Bool) : Word :=
  BitVec.ofNat 32 ((List.range n).foldl (fun acc i => acc + b2n (f i) * 2 ^ i) 0)

/-- The low `n` bits of a number read as two's complement. -/
def sext (n : Nat) (v : Nat) : Int :=
  let m := v % 2 ^ n
  if m < 2 ^ (n - 1) then (m : Int) else (m : Int) - (2 ^ n : Nat)

/-- A word read as a signed number. -/
def sInt (w : Word) : Int := w.toInt

/-- Clamp into `[lo, hi]`. -/
def clampInt (lo hi x : Int) : Int := if x < lo then lo else if x > hi then hi else x

/-- Saturating signed 32-bit result. -/
def sat32 (x : Int) : Int := clampInt (-2147483648) 2147483647 x

/-- Saturating signed 64-bit result. -/
def sat64 (x : Int) : Int := clampInt (-9223372036854775808) 9223372036854775807 x

/-- Add to a counter that saturates at `top`. -/
def satAdd (top a b : Nat) : Nat := if a + b > top then top else a + b

/-- Stamp order. The count wraps (R18), so `a` is before `b` when the 48-bit difference `a - b` is negative.
DESIGN CHOICE: log entry 3. -/
def stLt (a b : Stamp) : Bool := (a - b).msb

/-- `a` at or before `b`. -/
def stLe (a b : Stamp) : Bool := !(stLt b a)

/-- The later of two stamps. -/
def stMax (a b : Stamp) : Stamp := if stLt a b then b else a

/-- The earlier of two stamps. -/
def stMin (a b : Stamp) : Stamp := if stLt b a then b else a

/-- `t` plus a number of ticks. -/
def stAdd (t : Stamp) (n : Nat) : Stamp := t + BitVec.ofNat 48 n

/-- `t` minus a number of ticks. -/
def stSub (t : Stamp) (n : Nat) : Stamp := t - BitVec.ofNat 48 n

/-- Ticks from `a` to `b`. -/
def ticks (a b : Stamp) : Nat := (b - a).toNat

/-- Stamp bits [31:0] (R26). -/
def stLo (t : Stamp) : Word := t.setWidth 32

/-- Stamp bits [47:32] (R26). -/
def stHi (t : Stamp) : Nat := t.toNat / 2 ^ 32

/-- BUSCLK ticks in a number of microseconds (96 MHz). -/
def us (n : Nat) : Nat := 96 * n

/-- BUSCLK ticks in a number of milliseconds. -/
def ms (n : Nat) : Nat := 96000 * n

/-- Byte `i` of a word, little-endian (R4). -/
def byteOf (w : Word) (i : Nat) : Byte := BitVec.ofNat 8 (w.toNat / 2 ^ (8 * i))

/-- The four bytes of a word, lowest address first (R4). -/
def wordBytes (w : Word) : List Byte := [byteOf w 0, byteOf w 1, byteOf w 2, byteOf w 3]

/-- A number from bytes, lowest address first (R4). -/
def leNat : List Byte → Nat
  | [] => 0
  | b :: bs => b.toNat + 256 * leNat bs

/-- The little-endian bytes of a number. -/
def leBytes (n : Nat) : Nat → List Byte
  | 0 => []
  | k + 1 => BitVec.ofNat 8 n :: leBytes (n / 256) k

/-- The 32 bytes of a SHA-256 digest, first byte first. -/
def digest (msg : List Byte) : List Byte := leBytes (Config.sha256 msg).toNat 32

/-- A word from up to four bytes, lowest address first. -/
def bytesWord (bs : List Byte) : Word := BitVec.ofNat 32 (leNat bs)

/-- Group bytes into little-endian words; a last short group is padded with zero bytes. `fuel` bounds the words. -/
def packWords : Nat → List Byte → List Word
  | 0, _ => []
  | _ + 1, [] => []
  | k + 1, b :: bs => bytesWord ((b :: bs).take 4) :: packWords k ((b :: bs).drop 4)

/-- Bytes packed four to a word, little-endian. -/
def toWords (bs : List Byte) : List Word := packWords bs.length bs

/-- The bytes of a list of words. -/
def ofWords (ws : List Word) : List Byte := ws.flatMap wordBytes

/-- The least element of a list of numbers below a bound that satisfies `p`. -/
def firstIdx (n : Nat) (p : Nat → Bool) : Option Nat := (List.range n).find? p

/-- Set element `i` of a vector through a function. -/
def upd {α : Type} {n : Nat} (v : Vector α n) (i : Fin n) (f : α → α) : Vector α n := v.set i.val (f v[i.val]) i.isLt

/-- Number `i` as an index below `n`, wrapping; used on fields whose width is that of the index. -/
def ix (n : Nat) [NeZero n] (i : Nat) : Fin n := Fin.ofNat n i

end Sys2Proof.Machine
end

