-- ==== Sys2Proof/Machine/DrawbarCode.lean ====
section
/-! DEFINITION. What a drawbar packet is on the wire: header, CRC-16, tag, whitener, convolutional code, puncturing,
tones and airtime; the receiver's soft metrics and timing tracker (chapters 08 and 09). -/
namespace Sys2Proof.Machine

/-! ### CRC-16 (R110, R318) -/

/-- One bit of the CRC-16 with polynomial x^16 + x^12 + x^5 + 1, no reflection. -/
def crc16Bit (c : BitVec 16) (b : Bool) : BitVec 16 :=
  let top := c.getLsbD 15
  let c := c <<< 1
  if top != b then c ^^^ 0x1021 else c

/-- One byte, most significant bit first. -/
def crc16Byte (c : BitVec 16) (b : Byte) : BitVec 16 :=
  [7, 6, 5, 4, 3, 2, 1, 0].foldl (fun c i => crc16Bit c (b.getLsbD i)) c

/-- CRC-16 with initial value 0xFFFF and no final XOR. -/
def crc16 (bs : List Byte) : BitVec 16 := bs.foldl crc16Byte 0xFFFF

/-- The CRC bytes in order of transmission, high byte first (R318). -/
def crc16Bytes (bs : List Byte) : List Byte :=
  let c := crc16 bs
  [BitVec.ofNat 8 (c.toNat / 256), BitVec.ofNat 8 c.toNat]

/-! ### Packets -/

/-- The header word H (R315). -/
def packHeader (addr typ len seq ver : Nat) (tag : Bool) : Word :=
  at_ addr 27 ||| at_ typ 24 ||| at_ len 18 ||| at_ seq 14 ||| at_ ver 12 ||| at_ (b2n tag) 11

/-- A header announces a tag only when VER is 0b10 or 0b11 and TAG is 1 (R316). -/
def hasTag (h : Word) : Bool := bit h 11 && decide (2 ≤ fld h 13 12)

/-- Body bytes B of a header (R286). -/
def bodyBytes (h : Word) : Nat := fld h 23 18 + 2 + 4 * b2n (hasTag h)

/-- VER asks for the punctured rate 2/3 (R287). -/
def rate23 (h : Word) : Bool := fld h 13 12 == 3

/-- Body symbols: 8B + 6 at rate 1/2, 6B + 5 at rate 2/3. -/
def bodySymbols (b : Nat) (r23 : Bool) : Nat := if r23 then 6 * b + 5 else 8 * b + 6

/-- Airtime of a packet in ticks: 86 symbols and the body, 768 ticks each (R281). -/
def airtime (len : Nat) (tag r23 : Bool) : Nat := 768 * (86 + bodySymbols (len + 2 + 4 * b2n tag) r23)

/-- The 4-byte tag of R344. -/
def drawbarTag (key : List Byte) (dir : Nat) (nonce fc : Nat) (h : Word) (payload : List Byte) : List Byte :=
  (leBytes (Config.cmac key ([BitVec.ofNat 8 dir] ++ leBytes nonce 4 ++ leBytes fc 4 ++ wordBytes h ++ payload)).toNat
    16).take 4

/-! ### Coding -/

/-- Bits of a byte, least significant first (R288). -/
def lsbBits (b : Byte) : List Bool := [0, 1, 2, 3, 4, 5, 6, 7].map (fun i => b.getLsbD i)

/-- The whitener x^7 + x^4 + 1 (R288): the whitened bits and the state it ends in. -/
def whiten : BitVec 7 → List Bool → List Bool × BitVec 7
  | s, [] => ([], s)
  | s, b :: bs =>
    let w := s.getLsbD 6 != s.getLsbD 3
    let s := (s <<< 1) ||| (if w then 1 else 0)
    let (r, t) := whiten s bs
    ((b != w) :: r, t)

/-- Parity of a 7-bit window. -/
def parity7 (x : BitVec 7) : Bool := [0, 1, 2, 3, 4, 5, 6].foldl (fun p i => p != x.getLsbD i) false

/-- The convolutional encoder (R289): one pair of coded bits for each input bit. -/
def encode2 : BitVec 6 → List Bool → List (Bool × Bool)
  | _, [] => []
  | st, b :: bs =>
    let r : BitVec 7 := (if b then 64 else 0) ||| st.setWidth 7
    (parity7 (r &&& 0x79), parity7 (r &&& 0x5b)) :: encode2 ((r >>> 1).setWidth 6) bs

/-- Both coded bits of every input bit (rate 1/2). -/
def flatPairs : List (Bool × Bool) → List Bool
  | [] => []
  | (a, b) :: r => a :: b :: flatPairs r

/-- Puncturing to rate 2/3 (R290): c1 of every second input bit is dropped; one 0 bit fills the last symbol. -/
def puncture : List (Bool × Bool) → List Bool
  | [] => [false]
  | [(a, b)] => [a, b]
  | (a, b) :: (c, _) :: r => a :: b :: c :: puncture r

/-- The tone of a coded bit pair (R280): 00, 01, 11, 10 for tones 0 to 3. -/
def toneOf (hi lo : Bool) : Nat :=
  match hi, lo with
  | false, false => 0
  | false, true => 1
  | true, true => 2
  | true, false => 3

/-- Coded bits as tones (R291). -/
def tonesOf : List Bool → List Nat
  | a :: b :: r => toneOf a b :: tonesOf r
  | _ => []

/-- The preamble: tones 0 and 3 alternating, 32 symbols. -/
def preamble : List Nat := (List.range 32).map (fun i => if i % 2 = 0 then 0 else 3)

/-- The sync word (R285). -/
def syncWord : List Nat := [3, 3, 0, 1, 2, 0, 3, 2, 1, 1, 0, 2, 3, 0, 2, 1]

/-- The six tail bits of a block. -/
def tailBits : List Bool := List.replicate 6 false

/-- The tones of a whole packet (R285 to R291): preamble, sync word, header block at rate 1/2, body block. -/
def frameTones (h : Word) (body : List Byte) : List Nat :=
  let (hw, st) := whiten 0x7f ((wordBytes h).flatMap lsbBits)
  let (bw, _) := whiten st (body.flatMap lsbBits)
  let hb := flatPairs (encode2 0 (hw ++ tailBits))
  let bp := encode2 0 (bw ++ tailBits)
  preamble ++ syncWord ++ tonesOf hb ++ tonesOf (if rate23 h then puncture bp else flatPairs bp)

/-! ### Receiver arithmetic -/

/-- Soft metrics of a symbol's two coded bits from its four band energies (R295); none when no band holds energy. -/
def softMetrics (e0 e1 e2 e3 : Nat) : Option (Nat × Nat) :=
  let dHi : Int := (max e2 e3 : Nat) - (max e0 e1 : Nat)
  let dLo : Int := (max e1 e2 : Nat) - (max e0 e3 : Nat)
  let esum : Int := (e0 + e1 + e2 + e3 : Nat)
  if esum = 0 then none
  else some ((clampInt 0 15 (8 + (8 * dHi).tdiv esum)).toNat, (clampInt 0 15 (8 + (8 * dLo).tdiv esum)).toNat)

/-- The timing tracker's state (R297). -/
structure Tracker where
  phase : Int
  rate : Int
  steps : Int
  deriving DecidableEq, Repr

/-- Take whole steps of 1/16 symbol out of the phase (R297). `fuel` bounds the steps of one symbol. -/
def trackSteps : Nat → Tracker → Tracker
  | 0, t => t
  | k + 1, t =>
    if t.phase ≥ 16 then trackSteps k { t with phase := t.phase - 16, steps := t.steps + 1 }
    else if t.phase ≤ -16 then trackSteps k { t with phase := t.phase + 16, steps := t.steps - 1 }
    else t

/-- One symbol of the tracker (R297). -/
def trackOne (t : Tracker) (i : TrackIn) : Tracker :=
  let t :=
    if i.changed then
      let diff : Int := (i.early : Int) - i.late
      let e : Int := if diff.natAbs * 8 > i.main then diff.sign else 0
      { t with phase := t.phase - 8 * e, rate := clampInt (-6) 6 (t.rate - e) }
    else t
  trackSteps 4 { t with phase := t.phase + t.rate }

/-- Net steps over a reception (DB_DRIFT.STEPS). -/
def trackAll (is : List TrackIn) : Int := (is.foldl trackOne { phase := 0, rate := 0, steps := 0 }).steps

end Sys2Proof.Machine
end

