-- ==== Sys2Proof/Machine/RegName.lean ====
section
/-! DEFINITION. The names of the hub's registers, one constructor per register or register array of a block map
(R33 and the block maps of every chapter). -/
namespace Sys2Proof.Machine

/-- Power, clock and reset: PW_ registers. -/
inductive PwReg where
  | REQ | STAT | CTRL | CLK | HOLD | ACKED | DELAYED | DOMCTL | DOMSTAT | RETCFG | RETSTAT | RETBUSY | WAKE
  | PADREL | PADSTAT | BIAS | STAMPL | STAMPH
  deriving DecidableEq, Repr

/-- Acquisition lanes: LN_ registers. -/
inductive LnReg where
  | SEL | ENABLE | POOL | FENCED | LOAN | FAULTS | CTRL | STAT | MAP | PERIOD | SETTLE | CMD | LAST | ICNT
  | SCAN | PSTAT | PCMD | PTEST
  deriving DecidableEq, Repr

/-- Calibration: CA_ registers. -/
inductive CaReg where
  | CTRL | DTEMP | MAXINT | SPARE | RUN | STAT | TEMP | DACVAL | TRIMSTAT | TRIMREF | TRIMTS | TRIMVRC
  | TRIMDB | SETINIT | LTEMP | SETS
  deriving DecidableEq, Repr

/-- Coachwork and consist: CW_ registers. -/
inductive CwReg where
  | CTRL | STAT | TSTART | TSTOP | TRUN | TWARM | TFAULT | TAPOVR | SPOOL | RETRY | NSUBST | PCMD | TRAIN
  | TMEML | TMEMH | MAP | CSTAT | ACCL | ACCH | LDCMD | LDSTAT | STGBASE | STGLEN | ACTID | ACTSER | ACTSRC
  | SHCTRL | SHSTAT | SHSTAMP | CACHE
  deriving DecidableEq, Repr

/-- Drive slots and services: DS_ registers. -/
inductive DsReg where
  | CFG | TRAINS | QUANT | ACT | SPEED | RIPCFG | POSMIN | POSMAX | STALL | PINCH | DRY | DRYTHR | IMBAL
  | IMBTHR | REPORT | CMD | STAT | POSL | POSH | RIPSTAT | PERIOD | VAL | VALFLG | SEL | MOVING | DEGRADED
  | EVENTS | DIRTY | SVCSTAT | CLCTL | CLTEMP | CLDRV | CLSET | CLGAIN | CLRPM | CLFAN | CLDRY | CLOUT
  | PRCTL | PRSLOT | PRPAR | PRSTAT | PRMEM | FHCTL | FHMASK | FHPAR | FHDONE | FHFAIL
  deriving DecidableEq, Repr

/-- Records: RK_ registers. -/
inductive RkReg where
  | CTRL | HORIZON | STAT | LATE | HEAD | FREE | OVFREE | OVCNT | OLDL | OLDH | SWHDR | SWD2 | SWD3 | CnCTRL
  | CnWMARK | CnSTAT | CnPTR | CnAVAIL | CnACK | CnHIGH
  deriving DecidableEq, Repr

/-- Drawbar: DB_ registers. -/
inductive DbReg where
  | PHYCFG | RXCFG | CAPCFG | LSNCFG | PHYSTAT | RXLEVEL | PHYFLG | DRIFT | CNT | LCFG | LSTAT | ENCTL
  | ENSTAT | QFREE | PRESENT | ALARM | LOST | TT | STCMD | ASEL | AUID | ACFG | ASTAT | ACMD | ACMDH | AR
  | ACNT
  deriving DecidableEq, Repr

/-- Host port: HP_ registers. -/
inductive HpReg where
  | CFG | STAT | VER | RESULT | LONG | NMASK | NSRC | SWIRQ | SYNCL | SYNCH | SESS | FRAMES | WIN
  deriving DecidableEq, Repr

/-- Two-wire port: TW_ registers. -/
inductive TwReg where
  | CFG | STAT | ADDR | TSU | THD | NCLK | NMASK | NSRC | SWIRQ | NOTIFYLOST | RESULT | LONG | PTR | BCFG
  | APTR | SYNCL | SYNCH
  deriving DecidableEq, Repr

/-- Sensor port: SP_ registers. -/
inductive SpReg where
  | CFG | STAT | PEND | SEL | FCFG | FPROG | FERASE | FPOLL | FCMD | FSTAT | FCCNT | PCFG | PPHASE | PCMDV
  | PADDR | PBUF | PAXIS | PEVT | PCMD | PSTAT | PCNT
  deriving DecidableEq, Repr

/-- Event router: EV_ registers. -/
inductive EvReg where
  | SEL | CTRL | STAT | GATE | SEENL | SEENH | SWPUBL | SWPUBH | MISSL | MISSH | COINL | COINH | LOOPL
  | LOOPH | SPMISS | CCFG | CSTAT | CCNT | LASTST | LASTINF | PUB | SUB
  deriving DecidableEq, Repr

/-- Timers: TM_ registers. -/
inductive TmReg where
  | SEL | GSTART | RUN | CFG | CMD | STAT | IEN | CNT | RELOAD | CMPA | CMPB | CAP | CAPSTL | CAPSTH | OUT
  deriving DecidableEq, Repr

/-- Interrupt controller: IC_ registers. -/
inductive IcReg where
  | STAT | PEND | INSVC | SWSET | THRx | CLAIMx | COMPLETEx | LEVELx | CPUCTLx | CPUSTATx | SRC
  deriving DecidableEq, Repr

/-- Reset, boot and storage: NV_ registers. -/
inductive NvReg where
  | DEVID | UIDL | UIDH | RSTCAUSE | BOOTSTAT | SYSRST | A1START | CMD | ADDR | WDATA | STAT | BANKSTAT
  | DIRTY | PVALA | PVALB | PCUR
  deriving DecidableEq, Repr

/-- Enclave mailbox: SE_ registers. -/
inductive SeReg where
  | CMD | BUFA | DEST | ARG | STAT | LIFE | SECCTL | MINFW | MINCON | SLOTS
  deriving DecidableEq, Repr

/-- Almanac and safety: AL_ registers. -/
inductive AlReg where
  | FSTAT | FMASK | FCTL | CLKSTAT | WDCTL | WDKICK | WIDX | COUNT | LOGH | LOGD0 | LOGD1
  deriving DecidableEq, Repr

/-- Vane peripherals: VN_ registers. -/
inductive VnReg where
  | CTRL | WAKEEN | WSTAT | WAKECFG | ALARML | ALARMH | IEN | MONCFG | MONSTAT | LOGIDX | CH | THR | VAL
  | CAPCFG | CAPCNT
  deriving DecidableEq, Repr

/-- Any register of the hub. -/
inductive Reg where
  | pw (r : PwReg)
  | ln (r : LnReg)
  | ca (r : CaReg)
  | cw (r : CwReg)
  | ds (r : DsReg)
  | rk (r : RkReg)
  | db (r : DbReg)
  | hp (r : HpReg)
  | tw (r : TwReg)
  | sp (r : SpReg)
  | ev (r : EvReg)
  | tm (r : TmReg)
  | ic (r : IcReg)
  | nv (r : NvReg)
  | se (r : SeReg)
  | al (r : AlReg)
  | vn (r : VnReg)
  deriving DecidableEq, Repr

end Sys2Proof.Machine
end

