-- ==== Sys2Proof/Machine/RegTable.lean ====
section
/-! DEFINITION. The register tables of every chapter's block map: where each register lies, which access type each of its
bits has (R7), and what its stored bits hold after reset. Bits that only show other state (read-only views) are no
stored bits: the block's read gives them. -/
namespace Sys2Proof.Machine

/-- One row of a block map. `rw`, `w1c`, `w1s`, `rws` and `rc` are the bits of those access types. -/
structure RegInfo where
  off : Nat
  stride : Nat
  count : Nat
  rw : Nat
  w1c : Nat
  w1s : Nat
  rws : Nat
  rc : Nat
  reset : Nat
  deriving DecidableEq, Repr

/-- The PW_ registers: offset, stride, count; the bits of each access type (R7); the reset value of the stored bits. -/
def PwReg.info : PwReg → RegInfo
  | .REQ => ⟨0x0, 4, 1, 0x0, 0x0, 0x0, 0x0, 0x0, 0x0⟩
  | .STAT => ⟨0x4, 4, 1, 0x0, 0xE, 0x0, 0x0, 0x0, 0x0⟩
  | .CTRL => ⟨0x8, 4, 1, 0x800000FF, 0x0, 0x0, 0x0, 0x0, 0x14⟩
  | .CLK => ⟨0xC, 4, 1, 0x3, 0x0, 0x0, 0x0, 0x0, 0x0⟩
  | .HOLD => ⟨0x10, 4, 1, 0x3, 0x0, 0x0, 0x0, 0x0, 0x0⟩
  | .ACKED => ⟨0x14, 4, 1, 0x0, 0x0, 0x0, 0x0, 0x0, 0x0⟩
  | .DELAYED => ⟨0x18, 4, 1, 0x0, 0x0, 0x0, 0x0, 0x0, 0x0⟩
  | .DOMCTL => ⟨0x20, 4, 1, 0xFF1F, 0x0, 0x0, 0x0, 0x0, 0x6400⟩
  | .DOMSTAT => ⟨0x24, 4, 1, 0x0, 0x0, 0x0, 0x0, 0x0, 0x0⟩
  | .RETCFG => ⟨0x30, 4, 1, 0x3F0FFF, 0x0, 0x0, 0x0, 0x0, 0xCC0⟩
  | .RETSTAT => ⟨0x34, 4, 1, 0x0, 0xFFFFFFFF, 0x0, 0x0, 0x0, 0x0⟩
  | .RETBUSY => ⟨0x38, 4, 1, 0x0, 0x0, 0x0, 0x0, 0x0, 0x0⟩
  | .WAKE => ⟨0x40, 4, 1, 0x0, 0x3FFFF, 0x0, 0x0, 0x0, 0x0⟩
  | .PADREL => ⟨0x44, 4, 1, 0x0, 0x0, 0x0, 0x0, 0x0, 0x0⟩
  | .PADSTAT => ⟨0x48, 4, 1, 0x0, 0x0, 0x0, 0x0, 0x0, 0x0⟩
  | .BIAS => ⟨0x50, 4, 1, 0x0, 0x0, 0x0, 0x0, 0x0, 0x0⟩
  | .STAMPL => ⟨0x60, 4, 1, 0x0, 0x0, 0x0, 0x0, 0x0, 0x0⟩
  | .STAMPH => ⟨0x64, 4, 1, 0x0, 0x0, 0x0, 0x0, 0x0, 0x0⟩

/-- Every PW_ register. -/
def PwReg.all : List PwReg :=
  [.REQ, .STAT, .CTRL, .CLK, .HOLD, .ACKED, .DELAYED, .DOMCTL, .DOMSTAT, .RETCFG, .RETSTAT, .RETBUSY,
   .WAKE, .PADREL, .PADSTAT, .BIAS, .STAMPL, .STAMPH]

/-- The LN_ registers: offset, stride, count; the bits of each access type (R7); the reset value of the stored bits. -/
def LnReg.info : LnReg → RegInfo
  | .SEL => ⟨0x0, 4, 1, 0x3F, 0x0, 0x0, 0x0, 0x0, 0x0⟩
  | .ENABLE => ⟨0x4, 4, 1, 0xFFFF, 0x0, 0x0, 0x0, 0x0, 0x0⟩
  | .POOL => ⟨0x8, 4, 1, 0x0, 0x0, 0x0, 0x0, 0x0, 0x0⟩
  | .FENCED => ⟨0xC, 4, 1, 0x0, 0x0, 0x0, 0x0, 0x0, 0x0⟩
  | .LOAN => ⟨0x10, 4, 1, 0x0, 0x0, 0x0, 0x0, 0x0, 0x0⟩
  | .FAULTS => ⟨0x14, 4, 1, 0x0, 0xFFFF, 0x0, 0x0, 0x0, 0x0⟩
  | .CTRL => ⟨0x100, 4, 1, 0xFF870000, 0x0, 0x0, 0x0, 0x0, 0x0⟩
  | .STAT => ⟨0x104, 4, 1, 0x0, 0xDE, 0x0, 0x0, 0x0, 0x0⟩
  | .MAP => ⟨0x108, 4, 1, 0x0, 0x0, 0x0, 0x0, 0x0, 0x0⟩
  | .PERIOD => ⟨0x10C, 4, 1, 0xFFFFFFFF, 0x0, 0x0, 0x0, 0x0, 0x0⟩
  | .SETTLE => ⟨0x110, 4, 1, 0xFF, 0x0, 0x0, 0x0, 0x0, 0x18⟩
  | .CMD => ⟨0x114, 4, 1, 0x0, 0x0, 0x0, 0x0, 0x0, 0x0⟩
  | .LAST => ⟨0x118, 4, 1, 0x0, 0x0, 0x0, 0x0, 0x0, 0x0⟩
  | .ICNT => ⟨0x11C, 4, 1, 0x0, 0x0, 0x0, 0x0, 0xFFFF, 0x0⟩
  | .SCAN => ⟨0x120, 4, 8, 0xFFFFFFFF, 0x0, 0x0, 0x0, 0x0, 0x0⟩
  | .PSTAT => ⟨0x200, 4, 1, 0x0, 0x0, 0x0, 0x0, 0x0, 0x0⟩
  | .PCMD => ⟨0x204, 4, 1, 0x0, 0x0, 0x0, 0x0, 0x0, 0x0⟩
  | .PTEST => ⟨0x208, 4, 1, 0x0, 0x0, 0x0, 0x0, 0x0, 0x0⟩

/-- Every LN_ register. -/
def LnReg.all : List LnReg :=
  [.SEL, .ENABLE, .POOL, .FENCED, .LOAN, .FAULTS, .CTRL, .STAT, .MAP, .PERIOD, .SETTLE, .CMD, .LAST, .ICNT,
   .SCAN, .PSTAT, .PCMD, .PTEST]

/-- The CA_ registers: offset, stride, count; the bits of each access type (R7); the reset value of the stored bits. -/
def CaReg.info : CaReg → RegInfo
  | .CTRL => ⟨0x0, 4, 1, 0x1, 0x0, 0x0, 0x0, 0x0, 0x1⟩
  | .DTEMP => ⟨0x4, 4, 1, 0x1F, 0x0, 0x0, 0x0, 0x0, 0x8⟩
  | .MAXINT => ⟨0x8, 4, 1, 0x3FF, 0x0, 0x0, 0x0, 0x0, 0x3C⟩
  | .SPARE => ⟨0xC, 4, 1, 0x3, 0x0, 0x0, 0x0, 0x0, 0x1⟩
  | .RUN => ⟨0x10, 4, 1, 0x0, 0x0, 0xFFFF, 0x0, 0x0, 0x0⟩
  | .STAT => ⟨0x14, 4, 1, 0x0, 0x1E, 0x0, 0x0, 0x0, 0x0⟩
  | .TEMP => ⟨0x18, 4, 1, 0x0, 0x0, 0x0, 0x0, 0x0, 0x0⟩
  | .DACVAL => ⟨0x1C, 4, 1, 0xFFF, 0x0, 0x0, 0x0, 0x0, 0x800⟩
  | .TRIMSTAT => ⟨0x20, 4, 1, 0x0, 0xF0000, 0x0, 0x0, 0x0, 0x0⟩
  | .TRIMREF => ⟨0x24, 4, 1, 0x0, 0x0, 0x0, 0xFF, 0x0, 0x80⟩
  | .TRIMTS => ⟨0x28, 4, 1, 0x0, 0x0, 0x0, 0x3FF, 0x0, 0x200⟩
  | .TRIMVRC => ⟨0x2C, 4, 1, 0x0, 0x0, 0x0, 0xFF, 0x0, 0x80⟩
  | .TRIMDB => ⟨0x30, 4, 1, 0x0, 0x0, 0x0, 0x3F3F, 0x0, 0x0⟩
  | .SETINIT => ⟨0x34, 4, 1, 0x0, 0x0, 0x0, 0x0, 0x0, 0x0⟩
  | .LTEMP => ⟨0x40, 4, 16, 0x0, 0x0, 0x0, 0x0, 0x0, 0x0⟩
  | .SETS => ⟨0x400, 4, 400, 0x3F3F3F3F, 0x0, 0x0, 0x0, 0x0, 0x0⟩

/-- Every CA_ register. -/
def CaReg.all : List CaReg :=
  [.CTRL, .DTEMP, .MAXINT, .SPARE, .RUN, .STAT, .TEMP, .DACVAL, .TRIMSTAT, .TRIMREF, .TRIMTS, .TRIMVRC,
   .TRIMDB, .SETINIT, .LTEMP, .SETS]

/-- The CW_ registers: offset, stride, count; the bits of each access type (R7); the reset value of the stored bits. -/
def CwReg.info : CwReg → RegInfo
  | .CTRL => ⟨0x0, 4, 1, 0x1, 0x0, 0x0, 0x0, 0x0, 0x1⟩
  | .STAT => ⟨0x4, 4, 1, 0x0, 0x1FF, 0x0, 0x0, 0x0, 0x0⟩
  | .TSTART => ⟨0x8, 4, 1, 0x0, 0x0, 0x0, 0x0, 0x0, 0x0⟩
  | .TSTOP => ⟨0xC, 4, 1, 0x0, 0x0, 0x0, 0x0, 0x0, 0x0⟩
  | .TRUN => ⟨0x10, 4, 1, 0x0, 0x0, 0x0, 0x0, 0x0, 0x0⟩
  | .TWARM => ⟨0x14, 4, 1, 0x0, 0x0, 0x0, 0x0, 0x0, 0x0⟩
  | .TFAULT => ⟨0x18, 4, 1, 0x0, 0xFFFF, 0x0, 0x0, 0x0, 0x0⟩
  | .TAPOVR => ⟨0x1C, 4, 1, 0x0, 0xFFFF, 0x0, 0x0, 0x0, 0x0⟩
  | .SPOOL => ⟨0x20, 4, 1, 0x0, 0x0, 0x0, 0x0, 0x0, 0x0⟩
  | .RETRY => ⟨0x24, 4, 1, 0x0, 0x0, 0x0, 0x0, 0xFFFF, 0x0⟩
  | .NSUBST => ⟨0x28, 4, 1, 0x0, 0x0, 0x0, 0x0, 0x0, 0x0⟩
  | .PCMD => ⟨0x2C, 4, 1, 0x0, 0x0, 0x0, 0x0, 0x0, 0x0⟩
  | .TRAIN => ⟨0x100, 4, 16, 0x0, 0x0, 0x0, 0x0, 0x0, 0x0⟩
  | .TMEML => ⟨0x200, 8, 16, 0x0, 0x0, 0x0, 0x0, 0x0, 0x0⟩
  | .TMEMH => ⟨0x204, 8, 16, 0x0, 0x0, 0x0, 0x0, 0x0, 0x0⟩
  | .MAP => ⟨0x300, 4, 16, 0x0, 0x0, 0x0, 0x0, 0x0, 0x0⟩
  | .CSTAT => ⟨0x400, 4, 68, 0x0, 0x0, 0x0, 0x0, 0x0, 0x0⟩
  | .ACCL => ⟨0x800, 8, 68, 0x0, 0x0, 0x0, 0x0, 0x0, 0x0⟩
  | .ACCH => ⟨0x804, 8, 68, 0x0, 0x0, 0x0, 0x0, 0x0, 0x0⟩
  | .LDCMD => ⟨0x1000, 4, 1, 0x0, 0x0, 0x0, 0x0, 0x0, 0x0⟩
  | .LDSTAT => ⟨0x1004, 4, 1, 0x0, 0xE, 0x0, 0x0, 0x0, 0x0⟩
  | .STGBASE => ⟨0x1008, 4, 1, 0xFFFFF000, 0x0, 0x0, 0x0, 0x0, 0x20080000⟩
  | .STGLEN => ⟨0x100C, 4, 1, 0x7FFFF, 0x0, 0x0, 0x0, 0x0, 0x0⟩
  | .ACTID => ⟨0x1010, 4, 1, 0x0, 0x0, 0x0, 0x0, 0x0, 0x0⟩
  | .ACTSER => ⟨0x1014, 4, 1, 0x0, 0x0, 0x0, 0x0, 0x0, 0x0⟩
  | .ACTSRC => ⟨0x1018, 4, 1, 0x0, 0x0, 0x0, 0x0, 0x0, 0x0⟩
  | .SHCTRL => ⟨0x101C, 4, 1, 0xFFFF0001, 0x0, 0x0, 0x0, 0x0, 0x3E80001⟩
  | .SHSTAT => ⟨0x1020, 4, 1, 0x0, 0x0, 0x0, 0x0, 0x0, 0x0⟩
  | .SHSTAMP => ⟨0x1024, 4, 1, 0x0, 0x0, 0x0, 0x0, 0x0, 0x0⟩
  | .CACHE => ⟨0x1028, 4, 1, 0x0, 0x2, 0x0, 0x0, 0x0, 0x0⟩

/-- Every CW_ register. -/
def CwReg.all : List CwReg :=
  [.CTRL, .STAT, .TSTART, .TSTOP, .TRUN, .TWARM, .TFAULT, .TAPOVR, .SPOOL, .RETRY, .NSUBST, .PCMD, .TRAIN,
   .TMEML, .TMEMH, .MAP, .CSTAT, .ACCL, .ACCH, .LDCMD, .LDSTAT, .STGBASE, .STGLEN, .ACTID, .ACTSER,
   .ACTSRC, .SHCTRL, .SHSTAT, .SHSTAMP, .CACHE]

/-- The DS_ registers: offset, stride, count; the bits of each access type (R7); the reset value of the stored bits. -/
def DsReg.info : DsReg → RegInfo
  | .CFG => ⟨0x0, 4, 1, 0xFFC00000, 0x0, 0x0, 0x0, 0x0, 0x0⟩
  | .TRAINS => ⟨0x4, 4, 1, 0x8F8F0000, 0x0, 0x0, 0x0, 0x0, 0x0⟩
  | .QUANT => ⟨0x8, 4, 1, 0xFFFFFFFF, 0x0, 0x0, 0x0, 0x0, 0x0⟩
  | .ACT => ⟨0xC, 4, 1, 0xFFF00000, 0x0, 0x0, 0x0, 0x0, 0x0⟩
  | .SPEED => ⟨0x10, 4, 1, 0xFFFFFFFF, 0x0, 0x0, 0x0, 0x0, 0x14⟩
  | .RIPCFG => ⟨0x14, 4, 1, 0xFFFFFFFF, 0x0, 0x0, 0x0, 0x0, 0x8183828⟩
  | .POSMIN => ⟨0x18, 4, 1, 0xFFFFFFFF, 0x0, 0x0, 0x0, 0x0, 0x0⟩
  | .POSMAX => ⟨0x1C, 4, 1, 0xFFFFFFFF, 0x0, 0x0, 0x0, 0x0, 0x0⟩
  | .STALL => ⟨0x20, 4, 1, 0xFFFFFFF0, 0x0, 0x0, 0x0, 0x0, 0x3C0⟩
  | .PINCH => ⟨0x24, 4, 1, 0xFFFFFFFF, 0x0, 0x0, 0x0, 0x0, 0xC8012C⟩
  | .DRY => ⟨0x28, 4, 1, 0xFFFFFFFF, 0x0, 0x0, 0x0, 0x0, 0x3201F4⟩
  | .DRYTHR => ⟨0x2C, 4, 1, 0xFFFFFFFF, 0x0, 0x0, 0x0, 0x0, 0x73334CCD⟩
  | .IMBAL => ⟨0x30, 4, 1, 0x8FFFFFFF, 0x0, 0x0, 0x0, 0x0, 0x400064⟩
  | .IMBTHR => ⟨0x34, 4, 1, 0xFFFFFFFF, 0x0, 0x0, 0x0, 0x0, 0x40002666⟩
  | .REPORT => ⟨0x38, 4, 1, 0xFFFFFFFF, 0x0, 0x0, 0x0, 0x0, 0x0⟩
  | .CMD => ⟨0x40, 4, 1, 0x0, 0x0, 0x0, 0x0, 0x0, 0x0⟩
  | .STAT => ⟨0x44, 4, 1, 0x0, 0x3E, 0x0, 0x0, 0x0, 0x0⟩
  | .POSL => ⟨0x48, 4, 1, 0xFFFFFFFF, 0x0, 0x0, 0x0, 0x0, 0x0⟩
  | .POSH => ⟨0x4C, 4, 1, 0x0, 0x0, 0x0, 0x0, 0x0, 0x0⟩
  | .RIPSTAT => ⟨0x50, 4, 1, 0x0, 0x0, 0x0, 0x0, 0xFFFFFFFF, 0x0⟩
  | .PERIOD => ⟨0x54, 4, 1, 0x0, 0x0, 0x0, 0x0, 0x0, 0x0⟩
  | .VAL => ⟨0x58, 4, 8, 0x0, 0x0, 0x0, 0x0, 0x0, 0x0⟩
  | .VALFLG => ⟨0x78, 4, 1, 0x0, 0x0, 0x0, 0x0, 0x0, 0x0⟩
  | .SEL => ⟨0x100, 4, 1, 0x1F, 0x0, 0x0, 0x0, 0x0, 0x0⟩
  | .MOVING => ⟨0x104, 4, 1, 0x0, 0x0, 0x0, 0x0, 0x0, 0x0⟩
  | .DEGRADED => ⟨0x108, 4, 1, 0x0, 0x0, 0x0, 0x0, 0x0, 0x0⟩
  | .EVENTS => ⟨0x10C, 4, 1, 0x0, 0xFFFFFFFF, 0x0, 0x0, 0x0, 0x0⟩
  | .DIRTY => ⟨0x110, 4, 1, 0x0, 0x0, 0x0, 0x0, 0x0, 0x0⟩
  | .SVCSTAT => ⟨0x200, 4, 1, 0x0, 0x0, 0x0, 0x0, 0x0, 0x0⟩
  | .CLCTL => ⟨0x210, 4, 1, 0xC0000000, 0x0, 0x0, 0x0, 0x0, 0x0⟩
  | .CLTEMP => ⟨0x214, 4, 1, 0xFFFFFFFF, 0x0, 0x0, 0x0, 0x0, 0x0⟩
  | .CLDRV => ⟨0x218, 4, 1, 0xFFFFFFFF, 0x0, 0x0, 0x0, 0x0, 0x0⟩
  | .CLSET => ⟨0x21C, 4, 1, 0xFFFFFFFF, 0x0, 0x0, 0x0, 0x0, 0xDAC0064⟩
  | .CLGAIN => ⟨0x220, 4, 1, 0xFFFFFFFF, 0x0, 0x0, 0x0, 0x0, 0xC80014⟩
  | .CLRPM => ⟨0x224, 4, 1, 0xFFFFFFFF, 0x0, 0x0, 0x0, 0x0, 0x119403E8⟩
  | .CLFAN => ⟨0x228, 4, 1, 0xFFFFFFFF, 0x0, 0x0, 0x0, 0x0, 0x2580190⟩
  | .CLDRY => ⟨0x22C, 4, 1, 0xFFFF00FF, 0x0, 0x0, 0x0, 0x0, 0x1E0003⟩
  | .CLOUT => ⟨0x230, 4, 1, 0x0, 0x0, 0x0, 0x0, 0x0, 0x0⟩
  | .PRCTL => ⟨0x240, 4, 1, 0x30000000, 0x0, 0xC8000000, 0x0, 0x0, 0x0⟩
  | .PRSLOT => ⟨0x244, 4, 2, 0xFFFFFFFF, 0x0, 0x0, 0x0, 0x0, 0x0⟩
  | .PRPAR => ⟨0x24C, 4, 1, 0xFFF0FFFF, 0x0, 0x0, 0x0, 0x0, 0x8200064⟩
  | .PRSTAT => ⟨0x250, 4, 1, 0x0, 0x100, 0x0, 0x0, 0x0, 0x0⟩
  | .PRMEM => ⟨0x280, 4, 32, 0xFFFFFFFF, 0x0, 0x0, 0x0, 0x0, 0x0⟩
  | .FHCTL => ⟨0x300, 4, 1, 0x30000000, 0x0, 0xC0000000, 0x0, 0x0, 0x0⟩
  | .FHMASK => ⟨0x304, 4, 1, 0xFFFFFFFF, 0x0, 0x0, 0x0, 0x0, 0x0⟩
  | .FHPAR => ⟨0x308, 4, 1, 0xFFFFFFFF, 0x0, 0x0, 0x0, 0x0, 0x3220C8⟩
  | .FHDONE => ⟨0x30C, 4, 1, 0x0, 0x0, 0x0, 0x0, 0x0, 0x0⟩
  | .FHFAIL => ⟨0x310, 4, 1, 0x0, 0x0, 0x0, 0x0, 0x0, 0x0⟩

/-- Every DS_ register. -/
def DsReg.all : List DsReg :=
  [.CFG, .TRAINS, .QUANT, .ACT, .SPEED, .RIPCFG, .POSMIN, .POSMAX, .STALL, .PINCH, .DRY, .DRYTHR, .IMBAL,
   .IMBTHR, .REPORT, .CMD, .STAT, .POSL, .POSH, .RIPSTAT, .PERIOD, .VAL, .VALFLG, .SEL, .MOVING, .DEGRADED,
   .EVENTS, .DIRTY, .SVCSTAT, .CLCTL, .CLTEMP, .CLDRV, .CLSET, .CLGAIN, .CLRPM, .CLFAN, .CLDRY, .CLOUT,
   .PRCTL, .PRSLOT, .PRPAR, .PRSTAT, .PRMEM, .FHCTL, .FHMASK, .FHPAR, .FHDONE, .FHFAIL]

/-- The RK_ registers: offset, stride, count; the bits of each access type (R7); the reset value of the stored bits. -/
def RkReg.info : RkReg → RegInfo
  | .CTRL => ⟨0x0, 4, 1, 0x8000003F, 0x0, 0x0, 0x0, 0x0, 0x10⟩
  | .HORIZON => ⟨0x4, 4, 1, 0x3FFFF, 0x0, 0x0, 0x0, 0x0, 0x2580⟩
  | .STAT => ⟨0x8, 4, 1, 0x0, 0xFC, 0x0, 0x0, 0x0, 0x0⟩
  | .LATE => ⟨0xC, 4, 1, 0x0, 0x0, 0x0, 0x0, 0xFFFF, 0x0⟩
  | .HEAD => ⟨0x10, 4, 1, 0x0, 0x0, 0x0, 0x0, 0x0, 0x0⟩
  | .FREE => ⟨0x14, 4, 1, 0x0, 0x0, 0x0, 0x0, 0x0, 0x0⟩
  | .OVFREE => ⟨0x18, 4, 1, 0x1FFFF, 0x0, 0x0, 0x0, 0x0, 0x2000⟩
  | .OVCNT => ⟨0x1C, 4, 1, 0x0, 0x0, 0x0, 0x0, 0x0, 0x0⟩
  | .OLDL => ⟨0x20, 4, 1, 0x0, 0x0, 0x0, 0x0, 0x0, 0x0⟩
  | .OLDH => ⟨0x24, 4, 1, 0x0, 0x0, 0x0, 0x0, 0x0, 0x0⟩
  | .SWHDR => ⟨0x30, 4, 1, 0x0, 0x0, 0x0, 0x0, 0x0, 0x0⟩
  | .SWD2 => ⟨0x34, 4, 1, 0x0, 0x0, 0x0, 0x0, 0x0, 0x0⟩
  | .SWD3 => ⟨0x38, 4, 1, 0x0, 0x0, 0x0, 0x0, 0x0, 0x0⟩
  | .CnCTRL => ⟨0x100, 32, 4, 0x80007FFF, 0x0, 0x0, 0x0, 0x0, 0x0⟩
  | .CnWMARK => ⟨0x104, 32, 4, 0x1FFFF, 0x0, 0x0, 0x0, 0x0, 0x0⟩
  | .CnSTAT => ⟨0x108, 32, 4, 0x0, 0xA0000000, 0x0, 0x0, 0x0, 0x0⟩
  | .CnPTR => ⟨0x10C, 32, 4, 0x0, 0x0, 0x0, 0x0, 0x0, 0x0⟩
  | .CnAVAIL => ⟨0x110, 32, 4, 0x0, 0x0, 0x0, 0x0, 0x0, 0x0⟩
  | .CnACK => ⟨0x114, 32, 4, 0x0, 0x0, 0x0, 0x0, 0x0, 0x0⟩
  | .CnHIGH => ⟨0x118, 32, 4, 0x0, 0x0, 0x0, 0x0, 0x0, 0x0⟩

/-- Every RK_ register. -/
def RkReg.all : List RkReg :=
  [.CTRL, .HORIZON, .STAT, .LATE, .HEAD, .FREE, .OVFREE, .OVCNT, .OLDL, .OLDH, .SWHDR, .SWD2, .SWD3,
   .CnCTRL, .CnWMARK, .CnSTAT, .CnPTR, .CnAVAIL, .CnACK, .CnHIGH]

/-- The DB_ registers: offset, stride, count; the bits of each access type (R7); the reset value of the stored bits. -/
def DbReg.info : DbReg → RegInfo
  | .PHYCFG => ⟨0x0, 4, 1, 0xCF000003, 0x0, 0x0, 0x0, 0x0, 0xF000000⟩
  | .RXCFG => ⟨0x4, 4, 1, 0xFF1F00, 0x0, 0x0, 0x0, 0x0, 0x280E00⟩
  | .CAPCFG => ⟨0x8, 4, 1, 0x8000000F, 0x0, 0x0, 0x0, 0x0, 0x80000006⟩
  | .LSNCFG => ⟨0xC, 4, 1, 0x8000FFFF, 0x0, 0x0, 0x0, 0x0, 0x2808⟩
  | .PHYSTAT => ⟨0x10, 4, 1, 0x0, 0x0, 0x0, 0x0, 0x0, 0x0⟩
  | .RXLEVEL => ⟨0x14, 4, 1, 0x0, 0x0, 0x0, 0x0, 0x0, 0x0⟩
  | .PHYFLG => ⟨0x18, 4, 1, 0x0, 0xE, 0x0, 0x0, 0x0, 0x0⟩
  | .DRIFT => ⟨0x1C, 4, 1, 0x0, 0x0, 0x0, 0x0, 0x0, 0x0⟩
  | .CNT => ⟨0x20, 4, 4, 0x0, 0x0, 0x0, 0x0, 0xFFFFFFFF, 0x0⟩
  | .LCFG => ⟨0x100, 4, 1, 0x8F3F0003, 0x0, 0x0, 0x0, 0x0, 0x2⟩
  | .LSTAT => ⟨0x104, 4, 1, 0x0, 0x1FE, 0x0, 0x0, 0x0, 0x0⟩
  | .ENCTL => ⟨0x108, 4, 1, 0x30000000, 0x0, 0xC0000000, 0x0, 0x0, 0x0⟩
  | .ENSTAT => ⟨0x10C, 4, 1, 0x0, 0x0, 0x0, 0x0, 0x0, 0x0⟩
  | .QFREE => ⟨0x110, 4, 1, 0x0, 0x0, 0x0, 0x0, 0x0, 0x0⟩
  | .PRESENT => ⟨0x114, 4, 1, 0x0, 0x0, 0x0, 0x0, 0x0, 0x0⟩
  | .ALARM => ⟨0x118, 4, 1, 0x0, 0xFFFFFFFE, 0x0, 0x0, 0x0, 0x0⟩
  | .LOST => ⟨0x11C, 4, 1, 0x0, 0xFFFFFFFE, 0x0, 0x0, 0x0, 0x0⟩
  | .TT => ⟨0x120, 4, 16, 0xFFFFFFFF, 0x0, 0x0, 0x0, 0x0, 0x0⟩
  | .STCMD => ⟨0x160, 4, 8, 0x9FFFFFFF, 0x0, 0x0, 0x0, 0x0, 0x0⟩
  | .ASEL => ⟨0x200, 4, 1, 0x1F, 0x0, 0x0, 0x0, 0x0, 0x1⟩
  | .AUID => ⟨0x204, 4, 1, 0xFFFFFFFF, 0x0, 0x0, 0x0, 0x0, 0x0⟩
  | .ACFG => ⟨0x208, 4, 1, 0xFC1FFF3F, 0x0, 0x0, 0x0, 0x0, 0x74000302⟩
  | .ASTAT => ⟨0x20C, 4, 1, 0x0, 0x0, 0x0, 0x0, 0x0, 0x0⟩
  | .ACMD => ⟨0x210, 4, 8, 0x0, 0x0, 0x0, 0x0, 0x0, 0x0⟩
  | .ACMDH => ⟨0x230, 4, 1, 0x0, 0x0, 0x0, 0x0, 0x0, 0x0⟩
  | .AR => ⟨0x234, 4, 10, 0x0, 0x0, 0x0, 0x0, 0x0, 0x0⟩
  | .ACNT => ⟨0x260, 4, 1, 0x0, 0x0, 0x0, 0x0, 0xFFFFFFFF, 0x0⟩

/-- Every DB_ register. -/
def DbReg.all : List DbReg :=
  [.PHYCFG, .RXCFG, .CAPCFG, .LSNCFG, .PHYSTAT, .RXLEVEL, .PHYFLG, .DRIFT, .CNT, .LCFG, .LSTAT, .ENCTL,
   .ENSTAT, .QFREE, .PRESENT, .ALARM, .LOST, .TT, .STCMD, .ASEL, .AUID, .ACFG, .ASTAT, .ACMD, .ACMDH, .AR,
   .ACNT]

/-- The HP_ registers: offset, stride, count; the bits of each access type (R7); the reset value of the stored bits. -/
def HpReg.info : HpReg → RegInfo
  | .CFG => ⟨0x0, 4, 1, 0xE0000000, 0x0, 0x0, 0x0, 0x0, 0x0⟩
  | .STAT => ⟨0x4, 4, 1, 0x0, 0x1FF, 0x0, 0x0, 0x0, 0x0⟩
  | .VER => ⟨0x8, 4, 1, 0x0, 0x0, 0x0, 0x0, 0x0, 0x1⟩
  | .RESULT => ⟨0xC, 4, 1, 0x0, 0x0, 0x0, 0x0, 0x0, 0x0⟩
  | .LONG => ⟨0x10, 4, 1, 0x0, 0x0, 0x0, 0x0, 0x0, 0x0⟩
  | .NMASK => ⟨0x14, 4, 1, 0x7F, 0x0, 0x0, 0x0, 0x0, 0x20⟩
  | .NSRC => ⟨0x18, 4, 1, 0x0, 0x40, 0x0, 0x0, 0x0, 0x20⟩
  | .SWIRQ => ⟨0x1C, 4, 1, 0x0, 0x0, 0x1, 0x0, 0x0, 0x0⟩
  | .SYNCL => ⟨0x20, 4, 1, 0x0, 0x0, 0x0, 0x0, 0x0, 0x0⟩
  | .SYNCH => ⟨0x24, 4, 1, 0x0, 0x0, 0x0, 0x0, 0x0, 0x0⟩
  | .SESS => ⟨0x28, 4, 1, 0x0, 0x0, 0x0, 0x0, 0x0, 0x0⟩
  | .FRAMES => ⟨0x2C, 4, 1, 0x0, 0x0, 0x0, 0x0, 0xFFFFFFFF, 0x0⟩
  | .WIN => ⟨0x40, 4, 8, 0x0, 0x0, 0x0, 0xFFFF1FFF, 0x0, 0x0⟩

/-- Every HP_ register. -/
def HpReg.all : List HpReg :=
  [.CFG, .STAT, .VER, .RESULT, .LONG, .NMASK, .NSRC, .SWIRQ, .SYNCL, .SYNCH, .SESS, .FRAMES, .WIN]

/-- The TW_ registers: offset, stride, count; the bits of each access type (R7); the reset value of the stored bits. -/
def TwReg.info : TwReg → RegInfo
  | .CFG => ⟨0x0, 4, 1, 0xF0000000, 0x0, 0x0, 0x0, 0x0, 0x80000000⟩
  | .STAT => ⟨0x4, 4, 1, 0x0, 0xFF9, 0x0, 0x0, 0x0, 0x0⟩
  | .ADDR => ⟨0x8, 4, 1, 0x0, 0x0, 0x0, 0x0, 0x0, 0x0⟩
  | .TSU => ⟨0xC, 4, 1, 0xFF, 0x0, 0x0, 0x0, 0x0, 0x24⟩
  | .THD => ⟨0x10, 4, 1, 0x1F, 0x0, 0x0, 0x0, 0x0, 0xB⟩
  | .NCLK => ⟨0x14, 4, 1, 0xFFFFFFFF, 0x0, 0x0, 0x0, 0x0, 0x1E001E0⟩
  | .NMASK => ⟨0x18, 4, 1, 0x7F, 0x0, 0x0, 0x0, 0x0, 0x20⟩
  | .NSRC => ⟨0x1C, 4, 1, 0x0, 0x40, 0x0, 0x0, 0x0, 0x20⟩
  | .SWIRQ => ⟨0x20, 4, 1, 0x0, 0x0, 0x1, 0x0, 0x0, 0x0⟩
  | .NOTIFYLOST => ⟨0x24, 4, 1, 0x0, 0x0, 0x0, 0x0, 0xFFFFFFFF, 0x0⟩
  | .RESULT => ⟨0x28, 4, 1, 0x0, 0x0, 0x0, 0x0, 0x0, 0x0⟩
  | .LONG => ⟨0x2C, 4, 1, 0x0, 0x0, 0x0, 0x0, 0x0, 0x0⟩
  | .PTR => ⟨0x30, 4, 1, 0x0, 0x0, 0x0, 0x0, 0x0, 0x4000000⟩
  | .BCFG => ⟨0x34, 4, 1, 0xFF, 0x0, 0x0, 0x0, 0x0, 0xFC⟩
  | .APTR => ⟨0x38, 4, 1, 0x0, 0x0, 0x0, 0x0, 0x0, 0x1000⟩
  | .SYNCL => ⟨0x3C, 4, 1, 0x0, 0x0, 0x0, 0x0, 0x0, 0x0⟩
  | .SYNCH => ⟨0x40, 4, 1, 0x0, 0x0, 0x0, 0x0, 0x0, 0x0⟩

/-- Every TW_ register. -/
def TwReg.all : List TwReg :=
  [.CFG, .STAT, .ADDR, .TSU, .THD, .NCLK, .NMASK, .NSRC, .SWIRQ, .NOTIFYLOST, .RESULT, .LONG, .PTR, .BCFG,
   .APTR, .SYNCL, .SYNCH]

/-- The SP_ registers: offset, stride, count; the bits of each access type (R7); the reset value of the stored bits. -/
def SpReg.info : SpReg → RegInfo
  | .CFG => ⟨0x0, 4, 1, 0xC000FFFF, 0x0, 0x0, 0x0, 0x0, 0x202⟩
  | .STAT => ⟨0x4, 4, 1, 0x0, 0x6, 0x0, 0x0, 0x0, 0x0⟩
  | .PEND => ⟨0x8, 4, 1, 0x0, 0x0, 0x0, 0x0, 0x0, 0x0⟩
  | .SEL => ⟨0xC, 4, 1, 0xF, 0x0, 0x0, 0x0, 0x0, 0x0⟩
  | .FCFG => ⟨0x10, 4, 1, 0xFFFFC00F, 0x0, 0x0, 0x0, 0x0, 0x3000001⟩
  | .FPROG => ⟨0x14, 4, 1, 0xFFFFFF07, 0x0, 0x0, 0x0, 0x0, 0x2060500⟩
  | .FERASE => ⟨0x18, 4, 1, 0xFFFFFF, 0x0, 0x0, 0x0, 0x0, 0x20D8C7⟩
  | .FPOLL => ⟨0x1C, 4, 1, 0xFFFFFFFF, 0x0, 0x0, 0x0, 0x0, 0xA01F4⟩
  | .FCMD => ⟨0x20, 4, 1, 0x0, 0x0, 0x0, 0x0, 0x0, 0x0⟩
  | .FSTAT => ⟨0x24, 4, 1, 0x0, 0xD, 0x0, 0x0, 0x0, 0x0⟩
  | .FCCNT => ⟨0x28, 4, 1, 0x0, 0x0, 0x0, 0x0, 0xFFFFFFFF, 0x0⟩
  | .PCFG => ⟨0x100, 4, 1, 0xFFFFFC00, 0x0, 0x0, 0x0, 0x0, 0x0⟩
  | .PPHASE => ⟨0x104, 4, 1, 0xFFFF1FFF, 0x0, 0x0, 0x0, 0x0, 0x0⟩
  | .PCMDV => ⟨0x108, 4, 1, 0xFFFF, 0x0, 0x0, 0x0, 0x0, 0x0⟩
  | .PADDR => ⟨0x10C, 4, 1, 0xFFFFFFFF, 0x0, 0x0, 0x0, 0x0, 0x0⟩
  | .PBUF => ⟨0x110, 4, 1, 0xFFFFFFFC, 0x0, 0x0, 0x0, 0x0, 0x0⟩
  | .PAXIS => ⟨0x114, 4, 1, 0x1FFF, 0x0, 0x0, 0x0, 0x0, 0x0⟩
  | .PEVT => ⟨0x118, 4, 1, 0xBFBF0000, 0x0, 0x0, 0x0, 0x0, 0x0⟩
  | .PCMD => ⟨0x11C, 4, 1, 0x0, 0x0, 0x0, 0x0, 0x0, 0x0⟩
  | .PSTAT => ⟨0x120, 4, 1, 0x0, 0xE, 0x0, 0x0, 0x0, 0x0⟩
  | .PCNT => ⟨0x124, 4, 1, 0x0, 0x0, 0x0, 0x0, 0xFFFFFFFF, 0x0⟩

/-- Every SP_ register. -/
def SpReg.all : List SpReg :=
  [.CFG, .STAT, .PEND, .SEL, .FCFG, .FPROG, .FERASE, .FPOLL, .FCMD, .FSTAT, .FCCNT, .PCFG, .PPHASE, .PCMDV,
   .PADDR, .PBUF, .PAXIS, .PEVT, .PCMD, .PSTAT, .PCNT]

/-- The EV_ registers: offset, stride, count; the bits of each access type (R7); the reset value of the stored bits. -/
def EvReg.info : EvReg → RegInfo
  | .SEL => ⟨0x0, 4, 1, 0x3F, 0x0, 0x0, 0x0, 0x0, 0x0⟩
  | .CTRL => ⟨0x4, 4, 1, 0x7, 0x0, 0x0, 0x0, 0x0, 0x4⟩
  | .STAT => ⟨0x8, 4, 1, 0x0, 0xF, 0x0, 0x0, 0x0, 0x0⟩
  | .GATE => ⟨0xC, 4, 1, 0xFF, 0x0, 0x0, 0x0, 0x0, 0xFF⟩
  | .SEENL => ⟨0x10, 4, 1, 0x0, 0xFFFFFFFF, 0x0, 0x0, 0x0, 0x0⟩
  | .SEENH => ⟨0x14, 4, 1, 0x0, 0xFFFFFFFF, 0x0, 0x0, 0x0, 0x0⟩
  | .SWPUBL => ⟨0x18, 4, 1, 0x0, 0x0, 0x0, 0x0, 0x0, 0x0⟩
  | .SWPUBH => ⟨0x1C, 4, 1, 0x0, 0x0, 0x0, 0x0, 0x0, 0x0⟩
  | .MISSL => ⟨0x20, 4, 1, 0x0, 0x0, 0x0, 0x0, 0x0, 0x0⟩
  | .MISSH => ⟨0x24, 4, 1, 0x0, 0x0, 0x0, 0x0, 0x0, 0x0⟩
  | .COINL => ⟨0x28, 4, 1, 0x0, 0x0, 0x0, 0x0, 0x0, 0x0⟩
  | .COINH => ⟨0x2C, 4, 1, 0x0, 0x0, 0x0, 0x0, 0x0, 0x0⟩
  | .LOOPL => ⟨0x30, 4, 1, 0x0, 0x0, 0x0, 0x0, 0x0, 0x0⟩
  | .LOOPH => ⟨0x34, 4, 1, 0x0, 0x0, 0x0, 0x0, 0x0, 0x0⟩
  | .SPMISS => ⟨0x38, 4, 1, 0x0, 0xFFFF, 0x0, 0x0, 0x0, 0x0⟩
  | .CCFG => ⟨0x100, 4, 1, 0xFFFF, 0x0, 0x0, 0x0, 0x0, 0x0⟩
  | .CSTAT => ⟨0x104, 4, 1, 0x0, 0xE, 0x0, 0x0, 0x0, 0x0⟩
  | .CCNT => ⟨0x108, 4, 1, 0x0, 0x0, 0x0, 0x0, 0xFFFFFFFF, 0x0⟩
  | .LASTST => ⟨0x10C, 4, 1, 0x0, 0x0, 0x0, 0x0, 0x0, 0x0⟩
  | .LASTINF => ⟨0x110, 4, 1, 0x0, 0x0, 0x0, 0x0, 0x0, 0x0⟩
  | .PUB => ⟨0x120, 4, 4, 0x80FFFFFF, 0x0, 0x0, 0x0, 0x0, 0x0⟩
  | .SUB => ⟨0x140, 4, 8, 0x80FFFFFF, 0x60000000, 0x0, 0x0, 0x0, 0x0⟩

/-- Every EV_ register. -/
def EvReg.all : List EvReg :=
  [.SEL, .CTRL, .STAT, .GATE, .SEENL, .SEENH, .SWPUBL, .SWPUBH, .MISSL, .MISSH, .COINL, .COINH, .LOOPL,
   .LOOPH, .SPMISS, .CCFG, .CSTAT, .CCNT, .LASTST, .LASTINF, .PUB, .SUB]

/-- The TM_ registers: offset, stride, count; the bits of each access type (R7); the reset value of the stored bits. -/
def TmReg.info : TmReg → RegInfo
  | .SEL => ⟨0x0, 4, 1, 0xF, 0x0, 0x0, 0x0, 0x0, 0x0⟩
  | .GSTART => ⟨0x4, 4, 1, 0x0, 0x0, 0x0, 0x0, 0x0, 0x0⟩
  | .RUN => ⟨0x8, 4, 1, 0x0, 0x0, 0x0, 0x0, 0x0, 0x0⟩
  | .CFG => ⟨0x100, 4, 1, 0xFCFF0000, 0x0, 0x0, 0x0, 0x0, 0x0⟩
  | .CMD => ⟨0x104, 4, 1, 0x0, 0x0, 0x0, 0x0, 0x0, 0x0⟩
  | .STAT => ⟨0x108, 4, 1, 0x0, 0xFF, 0x0, 0x0, 0x0, 0x0⟩
  | .IEN => ⟨0x10C, 4, 1, 0xFF, 0x0, 0x0, 0x0, 0x0, 0x0⟩
  | .CNT => ⟨0x110, 4, 1, 0xFFFFFFFF, 0x0, 0x0, 0x0, 0x0, 0x0⟩
  | .RELOAD => ⟨0x114, 4, 1, 0xFFFFFFFF, 0x0, 0x0, 0x0, 0x0, 0xFFFFFFFF⟩
  | .CMPA => ⟨0x118, 4, 1, 0xFFFFFFFF, 0x0, 0x0, 0x0, 0x0, 0xFFFFFFFF⟩
  | .CMPB => ⟨0x11C, 4, 1, 0xFFFFFFFF, 0x0, 0x0, 0x0, 0x0, 0xFFFFFFFF⟩
  | .CAP => ⟨0x120, 4, 1, 0x0, 0x0, 0x0, 0x0, 0x0, 0x0⟩
  | .CAPSTL => ⟨0x124, 4, 1, 0x0, 0x0, 0x0, 0x0, 0x0, 0x0⟩
  | .CAPSTH => ⟨0x128, 4, 1, 0x0, 0x0, 0x0, 0x0, 0x0, 0x0⟩
  | .OUT => ⟨0x12C, 4, 1, 0x800003FF, 0x0, 0x0, 0x0, 0x0, 0x0⟩

/-- Every TM_ register. -/
def TmReg.all : List TmReg :=
  [.SEL, .GSTART, .RUN, .CFG, .CMD, .STAT, .IEN, .CNT, .RELOAD, .CMPA, .CMPB, .CAP, .CAPSTL, .CAPSTH, .OUT]

/-- The IC_ registers: offset, stride, count; the bits of each access type (R7); the reset value of the stored bits. -/
def IcReg.info : IcReg → RegInfo
  | .STAT => ⟨0x0, 4, 1, 0x0, 0x1, 0x0, 0x0, 0x0, 0x0⟩
  | .PEND => ⟨0x10, 4, 5, 0x0, 0x0, 0x0, 0x0, 0x0, 0x0⟩
  | .INSVC => ⟨0x30, 4, 5, 0x0, 0x0, 0x0, 0x0, 0x0, 0x0⟩
  | .SWSET => ⟨0x50, 4, 1, 0x0, 0x0, 0xFFFF, 0x0, 0x0, 0x0⟩
  | .THRx => ⟨0x100, 32, 3, 0xF, 0x0, 0x0, 0x0, 0x0, 0x0⟩
  | .CLAIMx => ⟨0x104, 32, 3, 0x0, 0x0, 0x0, 0x0, 0x8FF000FF, 0x0⟩
  | .COMPLETEx => ⟨0x108, 32, 3, 0x0, 0x0, 0x0, 0x0, 0x0, 0x0⟩
  | .LEVELx => ⟨0x10C, 32, 3, 0x0, 0x0, 0x0, 0x0, 0x0, 0x0⟩
  | .CPUCTLx => ⟨0x110, 32, 3, 0x80000000, 0x0, 0x1, 0x0, 0x0, 0x0⟩
  | .CPUSTATx => ⟨0x114, 32, 3, 0x0, 0x0, 0x0, 0x0, 0x0, 0x0⟩
  | .SRC => ⟨0x400, 4, 160, 0x70F, 0x0, 0x0, 0x0, 0x0, 0x100⟩

/-- Every IC_ register. -/
def IcReg.all : List IcReg :=
  [.STAT, .PEND, .INSVC, .SWSET, .THRx, .CLAIMx, .COMPLETEx, .LEVELx, .CPUCTLx, .CPUSTATx, .SRC]

/-- The NV_ registers: offset, stride, count; the bits of each access type (R7); the reset value of the stored bits. -/
def NvReg.info : NvReg → RegInfo
  | .DEVID => ⟨0x0, 4, 1, 0x0, 0x0, 0x0, 0x0, 0x0, 0x0⟩
  | .UIDL => ⟨0x4, 4, 1, 0x0, 0x0, 0x0, 0x0, 0x0, 0x0⟩
  | .UIDH => ⟨0x8, 4, 1, 0x0, 0x0, 0x0, 0x0, 0x0, 0x0⟩
  | .RSTCAUSE => ⟨0x10, 4, 1, 0x0, 0x37F, 0x0, 0x0, 0x0, 0x0⟩
  | .BOOTSTAT => ⟨0x14, 4, 1, 0x0, 0x0, 0x0, 0x0, 0x0, 0x0⟩
  | .SYSRST => ⟨0x18, 4, 1, 0x0, 0x0, 0x0, 0x0, 0x0, 0x0⟩
  | .A1START => ⟨0x1C, 4, 1, 0x0, 0x0, 0x0, 0x0, 0x0, 0x0⟩
  | .CMD => ⟨0x20, 4, 1, 0x0, 0x0, 0x0, 0x0, 0x0, 0x0⟩
  | .ADDR => ⟨0x24, 4, 1, 0x1FFFFF, 0x0, 0x0, 0x0, 0x0, 0x0⟩
  | .WDATA => ⟨0x28, 4, 4, 0xFFFFFFFF, 0x0, 0x0, 0x0, 0x0, 0x0⟩
  | .STAT => ⟨0x38, 4, 1, 0x0, 0x3, 0x0, 0x0, 0x0, 0x0⟩
  | .BANKSTAT => ⟨0x3C, 4, 1, 0x0, 0x0, 0x0, 0x0, 0x0, 0x0⟩
  | .DIRTY => ⟨0x40, 4, 1, 0x0, 0x0, 0x0, 0x0, 0x0, 0x0⟩
  | .PVALA => ⟨0x44, 4, 1, 0x0, 0x0, 0x0, 0x0, 0x0, 0x0⟩
  | .PVALB => ⟨0x48, 4, 1, 0x0, 0x0, 0x0, 0x0, 0x0, 0x0⟩
  | .PCUR => ⟨0x4C, 4, 1, 0x0, 0x0, 0x0, 0x0, 0x0, 0x0⟩

/-- Every NV_ register. -/
def NvReg.all : List NvReg :=
  [.DEVID, .UIDL, .UIDH, .RSTCAUSE, .BOOTSTAT, .SYSRST, .A1START, .CMD, .ADDR, .WDATA, .STAT, .BANKSTAT,
   .DIRTY, .PVALA, .PVALB, .PCUR]

/-- The SE_ registers: offset, stride, count; the bits of each access type (R7); the reset value of the stored bits. -/
def SeReg.info : SeReg → RegInfo
  | .CMD => ⟨0x0, 4, 1, 0x0, 0x0, 0x0, 0x0, 0x0, 0x0⟩
  | .BUFA => ⟨0x4, 4, 1, 0xFFFFFFFC, 0x0, 0x0, 0x0, 0x0, 0x0⟩
  | .DEST => ⟨0x8, 4, 1, 0xFFFFFFFC, 0x0, 0x0, 0x0, 0x0, 0x0⟩
  | .ARG => ⟨0xC, 4, 1, 0xFFFFFFFF, 0x0, 0x0, 0x0, 0x0, 0x0⟩
  | .STAT => ⟨0x10, 4, 1, 0x0, 0x16, 0x0, 0x0, 0x0, 0x0⟩
  | .LIFE => ⟨0x14, 4, 1, 0x0, 0x0, 0x0, 0x0, 0x0, 0x0⟩
  | .SECCTL => ⟨0x18, 4, 1, 0x0, 0x0, 0x80000000, 0x0, 0x0, 0x0⟩
  | .MINFW => ⟨0x1C, 4, 1, 0x0, 0x0, 0x0, 0x0, 0x0, 0x0⟩
  | .MINCON => ⟨0x20, 4, 1, 0x0, 0x0, 0x0, 0x0, 0x0, 0x0⟩
  | .SLOTS => ⟨0x24, 4, 1, 0x0, 0x0, 0x0, 0x0, 0x0, 0x0⟩

/-- Every SE_ register. -/
def SeReg.all : List SeReg :=
  [.CMD, .BUFA, .DEST, .ARG, .STAT, .LIFE, .SECCTL, .MINFW, .MINCON, .SLOTS]

/-- The AL_ registers: offset, stride, count; the bits of each access type (R7); the reset value of the stored bits. -/
def AlReg.info : AlReg → RegInfo
  | .FSTAT => ⟨0x0, 4, 1, 0x0, 0xFFFF, 0x0, 0x0, 0x0, 0x0⟩
  | .FMASK => ⟨0x4, 4, 1, 0xFFFF, 0x0, 0x0, 0x0, 0x0, 0xFFFF⟩
  | .FCTL => ⟨0x8, 4, 1, 0x2, 0x0, 0x5, 0x0, 0x0, 0x0⟩
  | .CLKSTAT => ⟨0x10, 4, 1, 0x0, 0x0, 0x0, 0x0, 0x0, 0xF⟩
  | .WDCTL => ⟨0x20, 4, 3, 0xFFFF, 0x0, 0x80000000, 0x0, 0x0, 0x3E8⟩
  | .WDKICK => ⟨0x30, 4, 3, 0x0, 0x0, 0x0, 0x0, 0x0, 0x0⟩
  | .WIDX => ⟨0x100, 4, 1, 0x0, 0x0, 0x0, 0x0, 0x0, 0x0⟩
  | .COUNT => ⟨0x104, 4, 1, 0x0, 0x0, 0x0, 0x0, 0x0, 0x0⟩
  | .LOGH => ⟨0x110, 4, 1, 0x0, 0x0, 0x0, 0x0, 0x0, 0x0⟩
  | .LOGD0 => ⟨0x114, 4, 1, 0x0, 0x0, 0x0, 0x0, 0x0, 0x0⟩
  | .LOGD1 => ⟨0x118, 4, 1, 0x0, 0x0, 0x0, 0x0, 0x0, 0x0⟩

/-- Every AL_ register. -/
def AlReg.all : List AlReg :=
  [.FSTAT, .FMASK, .FCTL, .CLKSTAT, .WDCTL, .WDKICK, .WIDX, .COUNT, .LOGH, .LOGD0, .LOGD1]

/-- The VN_ registers: offset, stride, count; the bits of each access type (R7); the reset value of the stored bits. -/
def VnReg.info : VnReg → RegInfo
  | .CTRL => ⟨0x0, 4, 1, 0x20000000, 0x0, 0xC0000000, 0x0, 0x0, 0x0⟩
  | .WAKEEN => ⟨0x4, 4, 1, 0x1F5F, 0x0, 0x0, 0x0, 0x0, 0xFF⟩
  | .WSTAT => ⟨0x8, 4, 1, 0x0, 0x1FFF, 0x0, 0x0, 0x0, 0x0⟩
  | .WAKECFG => ⟨0xC, 4, 1, 0xFFFFFFFF, 0x0, 0x0, 0x0, 0x0, 0x0⟩
  | .ALARML => ⟨0x10, 4, 1, 0xFFFFFFFF, 0x0, 0x0, 0x0, 0x0, 0xFFFFFFFF⟩
  | .ALARMH => ⟨0x14, 4, 1, 0x8000FFFF, 0x0, 0x0, 0x0, 0x0, 0xFFFF⟩
  | .IEN => ⟨0x18, 4, 1, 0x1FFF, 0x0, 0x0, 0x0, 0x0, 0x0⟩
  | .MONCFG => ⟨0x20, 4, 1, 0xC0FFFFFF, 0x0, 0x0, 0x0, 0x0, 0x10020⟩
  | .MONSTAT => ⟨0x24, 4, 1, 0x0, 0x6, 0x0, 0x0, 0x0, 0x0⟩
  | .LOGIDX => ⟨0x28, 4, 1, 0x0, 0x0, 0x0, 0x0, 0x0, 0x0⟩
  | .CH => ⟨0x40, 4, 8, 0x870FF003, 0x0, 0x0, 0x0, 0x0, 0x0⟩
  | .THR => ⟨0x60, 4, 8, 0xFFF0FFF, 0x0, 0x0, 0x0, 0x0, 0xFFF0000⟩
  | .VAL => ⟨0x80, 4, 8, 0x0, 0x0, 0x0, 0x0, 0x0, 0x0⟩
  | .CAPCFG => ⟨0xA0, 4, 4, 0xB000FFFF, 0x0, 0x0, 0x0, 0x0, 0x0⟩
  | .CAPCNT => ⟨0xB0, 4, 4, 0x0, 0x0, 0x0, 0x0, 0x0, 0x0⟩

/-- Every VN_ register. -/
def VnReg.all : List VnReg :=
  [.CTRL, .WAKEEN, .WSTAT, .WAKECFG, .ALARML, .ALARMH, .IEN, .MONCFG, .MONSTAT, .LOGIDX, .CH, .THR, .VAL,
   .CAPCFG, .CAPCNT]

/-- The map row of any register. -/
def Reg.info : Reg → RegInfo
  | .pw r => r.info
  | .ln r => r.info
  | .ca r => r.info
  | .cw r => r.info
  | .ds r => r.info
  | .rk r => r.info
  | .db r => r.info
  | .hp r => r.info
  | .tw r => r.info
  | .sp r => r.info
  | .ev r => r.info
  | .tm r => r.info
  | .ic r => r.info
  | .nv r => r.info
  | .se r => r.info
  | .al r => r.info
  | .vn r => r.info

/-- A number for each register: block times 64 plus place in the block. -/
def Reg.code : Reg → Nat
  | .pw r => 0 * 64 + r.ctorIdx
  | .ln r => 1 * 64 + r.ctorIdx
  | .ca r => 2 * 64 + r.ctorIdx
  | .cw r => 3 * 64 + r.ctorIdx
  | .ds r => 4 * 64 + r.ctorIdx
  | .rk r => 5 * 64 + r.ctorIdx
  | .db r => 6 * 64 + r.ctorIdx
  | .hp r => 7 * 64 + r.ctorIdx
  | .tw r => 8 * 64 + r.ctorIdx
  | .sp r => 9 * 64 + r.ctorIdx
  | .ev r => 10 * 64 + r.ctorIdx
  | .tm r => 11 * 64 + r.ctorIdx
  | .ic r => 12 * 64 + r.ctorIdx
  | .nv r => 13 * 64 + r.ctorIdx
  | .se r => 14 * 64 + r.ctorIdx
  | .al r => 15 * 64 + r.ctorIdx
  | .vn r => 16 * 64 + r.ctorIdx

/-- What a register's stored bits hold after reset. Some arrays differ by unit: RK_CnCTRL (cursor 0 is enabled, Note 1
of the RK_ map), DB_LSNCFG (B0 only), IC_CPUCTLx (A1 does not accept, Note 1 of the IC_ map), the channel sources that
are reserved (R478), CA_SETS, whose fifth word holds two codes, and the holding copies of VN_ALARMH, which are 0 before
a snapshot (R38). The spec gives no value for the trims and the lane sets
("loaded at boot"): DESIGN CHOICE, log entry 30. -/
def Reg.resetVal (r : Reg) (u : Nat) : Word :=
  match r with
  | .rk .CnCTRL => if u = 0 then 0x80000000 else 0
  | .db .LSNCFG => if u = 0 then 0x00002808 else 0
  | .ic .CPUCTLx => if u = 1 then 0 else 0x80000000
  | .ic .SRC => if (55 ≤ u ∧ u ≤ 63) ∨ 96 ≤ u then 0 else 0x100
  | .ca .SETS => if u % 5 = 4 then 0x00002020 else 0x20202020
  | .vn .ALARMH => if u = 0 then 0x0000FFFF else 0
  | _ => BitVec.ofNat 32 r.info.reset

/-- The key of a register's unit `u` in the register file: every register has a residue modulo 17 × 64 of its own, so no
two units share a key. -/
def Reg.key (r : Reg) (u : Nat) : Nat := u * 1088 + r.code

/-- Every register. -/
def Reg.all : List Reg :=
  PwReg.all.map .pw ++
  LnReg.all.map .ln ++
  CaReg.all.map .ca ++
  CwReg.all.map .cw ++
  DsReg.all.map .ds ++
  RkReg.all.map .rk ++
  DbReg.all.map .db ++
  HpReg.all.map .hp ++
  TwReg.all.map .tw ++
  SpReg.all.map .sp ++
  EvReg.all.map .ev ++
  TmReg.all.map .tm ++
  IcReg.all.map .ic ++
  NvReg.all.map .nv ++
  SeReg.all.map .se ++
  AlReg.all.map .al ++
  VnReg.all.map .vn

/-- What a key of the register file reads as when it is not listed: the reset value of its register. -/
def regDefault (k : Nat) : Word :=
  match Reg.all.find? (fun r => r.code == k % 1088) with
  | some r => r.resetVal (k / 1088)
  | none => 0

end Sys2Proof.Machine
end

