-- ==== Sys2Proof/Machine/Sparse.lean ====
section
/-! DEFINITION. Sparse tables in one canonical form: keys strictly rising, and no entry equal to what an unlisted key
reads as. The memory and the register file are such tables, so equal tables are equal lists. -/
namespace Sys2Proof.Machine.Sparse

variable {α : Type}

/-- What key `k` reads as: its entry, or the default of the key. -/
def get (d : Nat → α) : List (Nat × α) → Nat → α
  | [], k => d k
  | (j, v) :: rest, k => if j = k then v else get d rest k

/-- The table without key `k`. -/
def erase : List (Nat × α) → Nat → List (Nat × α)
  | [], _ => []
  | (j, v) :: rest, k => if j = k then rest else (j, v) :: erase rest k

/-- The table with key `k` at `v`, keys kept in rising order. -/
def insert : List (Nat × α) → Nat → α → List (Nat × α)
  | [], k, v => [(k, v)]
  | (j, w) :: rest, k, v =>
    if k < j then (k, v) :: (j, w) :: rest
    else if k = j then (k, v) :: rest
    else (j, w) :: insert rest k v

/-- Write `v` at `k`; the default is not listed. -/
def set [DecidableEq α] (d : Nat → α) (m : List (Nat × α)) (k : Nat) (v : α) : List (Nat × α) :=
  if v = d k then erase m k else insert m k v

/-- Keys strictly rising from `lo` on, no default listed. -/
def wfFrom [DecidableEq α] (d : Nat → α) : Nat → List (Nat × α) → Bool
  | _, [] => true
  | lo, (j, v) :: rest => decide (lo ≤ j) && decide (v ≠ d j) && wfFrom d (j + 1) rest

/-- Keys strictly rising from `lo` on. -/
def risingFrom : Nat → List (Nat × α) → Bool
  | _, [] => true
  | lo, (j, _) :: rest => decide (lo ≤ j) && risingFrom (j + 1) rest

/-- Keys strictly rising. -/
def rising (m : List (Nat × α)) : Bool := risingFrom 0 m

/-- The canonical form. -/
def wf [DecidableEq α] (d : Nat → α) (m : List (Nat × α)) : Bool := wfFrom d 0 m

/-- The table without the keys that satisfy `p`: they read as their defaults again. -/
def clear (p : Nat → Bool) (m : List (Nat × α)) : List (Nat × α) := m.filter (fun e => !p e.1)

end Sys2Proof.Machine.Sparse
end

