-- ==== Sys2Proof/Machine/State.lean ====
section
/-! DEFINITION. The state of the hub: plain data, one structure per block, the register file, the memory and the queue
of waiting commands. Every register bit that software sees has one home: the register file `regs` when it is a stored
bit, or a named field here that the block's read shows as a view. -/
namespace Sys2Proof.Machine

/-! ### Clocks and stamp (chapter 01) -/

/-- Which counter is the stamp source (R19). -/
inductive StampSource where
  | bus | vane
  deriving DecidableEq, Repr

/-- The clock root and the two stamp counters. -/
structure Clock where
  /-- BUSCLK stamp counter (R18, R19). -/
  bus : Stamp
  /-- Vane stamp counter (R19, R21). -/
  vane : Stamp
  /-- 4-bit fractional accumulator of the Vane counter (R21). -/
  acc : Nat
  source : StampSource
  /-- BUSCLK edges since the divider chain was released (R14): even edges are LANECLK edges, multiples of 3 LINKCLK. -/
  edge : Nat
  /-- Nominal phase of X32 against BUSCLK, in sixteenths of a tick, 0 to 46,874 (R21; log entry 4). -/
  x32phase : Nat
  /-- BUSCLK runs. -/
  busOn : Bool
  /-- Step 3 of R23 has happened, so the next BUSCLK edge hands the stamp over. -/
  handoverDue : Bool
  /-- X32 edges occur: the oscillator runs (R17, R589). -/
  x32On : Bool
  deriving DecidableEq, Repr

/-! ### Accessors (chapter 01) -/

/-- What an accessor's last access answered. -/
inductive Answer where
  | none | done | data (w : Word) | bytes (b : List Byte) | busError | stalled
  deriving DecidableEq, Repr

/-- An access that waits for a power domain (R35). -/
structure Access where
  addr : Nat
  size : Nat
  /-- `none` for a read. -/
  write : Option Word
  deriving DecidableEq, Repr

/-- Per-accessor state: the last answer and an access stalled on a domain that was off (R35). Select registers and
holding registers of R37 and R38 are in the register file, one unit per accessor. -/
structure AccessorState where
  answer : Answer
  stalled : Option Access
  deriving DecidableEq, Repr

/-! ### Merger, batch queue and almanac (chapter 07) -/

/-- Record class (R235, R242). -/
inductive RecClass where
  | acq | link | sys
  deriving DecidableEq, Repr

/-- A record on its way to the queue: words 2 onwards in `body`; SEQ is given when it is written (R237). -/
structure Rec where
  cls : RecClass
  typ : Nat
  source : Nat
  stamp : Stamp
  body : List Word
  /-- A late record's GAP, written at the edge of the judgement (R244). -/
  now : Bool
  deriving DecidableEq, Repr

/-- One recovery hold of R245. -/
structure RecoveryHold where
  source : Nat
  stream : Nat
  /-- The GAP's stamp word, fixed at the declaration. -/
  stamp : Stamp
  start : Stamp
  moved : Bool
  needGap : Bool
  needSubst : Bool
  deriving DecidableEq, Repr

/-- An overflow in progress (R255). -/
structure Overflow where
  records : Nat
  words : Nat
  lo : Stamp
  hi : Stamp
  cursors : Nat
  deriving DecidableEq, Repr

/-- A cursor's position (R250): the record it is reading and a byte offset within it. EN is in RK_CnCTRL. -/
structure Cursor where
  index : Nat
  offset : Nat
  /-- Words of records not yet delivered. -/
  avail : Nat
  /-- High stamp bits in force at the cursor. -/
  high : Nat
  /-- Number of the next read EPOCH (R252). -/
  readSeq : Nat
  deriving DecidableEq, Repr

structure Merger where
  /-- Records that have reached the merger and are not judged yet. -/
  arriving : List Rec
  /-- Judged records that wait for their front, in order of arrival. -/
  held : List Rec
  holds : List RecoveryHold
  /-- The epoch barrier's stamp B (R246). -/
  barrier : Option Stamp
  /-- The first records after a reset are still to be written (R258). -/
  restartDue : Bool
  /-- An EPOCH of R27 is due at the next write, with the stamp of its handover. -/
  epochDue : Option Stamp
  /-- STAMPH of the last EPOCH made, stored or discarded in overflow. -/
  highDone : Nat
  /-- Next number per source (R237); sources not listed are at 0. -/
  seqs : List (Nat × Nat)
  head : Nat
  /-- STAMPH of the last stored EPOCH. -/
  epochHigh : Nat
  overflow : Option Overflow
  /-- Stamp of the newest record written (R259). -/
  newest : Stamp
  cursors : Vector Cursor 4
  deriving DecidableEq, Repr

/-- An almanac entry that waits for the writer (R267, R268). -/
structure AlmEntry where
  stamp : Stamp
  code : Nat
  cls : Nat
  source : Nat
  data : Nat
  deriving DecidableEq, Repr

/-- Almanac writer, watchdogs and FAULT_N (R268 to R275). AL_ registers are in the register file. -/
structure Safety where
  pending : List AlmEntry
  /-- Per watchdog: the stamp of the last kick or of the start. -/
  kick : Vector Stamp 3
  /-- Per watchdog: it has been kicked since it was enabled, so the next kick may come too early. -/
  kicked : Vector Bool 3
  /-- FAULT_N is driven low. -/
  pinLow : Bool
  /-- When FAULT_N went low. -/
  lowSince : Stamp
  deriving DecidableEq, Repr

/-! ### Event router (chapter 13) -/

/-- A publication in flight (R429 to R432). -/
structure Publication where
  /-- The channel of a block-held or software publication, or of one already served; an output bound by EV_PUB entries is
  matched at its delivery edge (R440). -/
  channel : Option (Fin 64)
  /-- Publishing edge E. -/
  edge : Nat
  /-- The producer is clocked by BUSCLK. -/
  busClass : Bool
  hop : Nat
  sw : Bool
  producer : Nat
  inst : Nat
  output : Nat
  /-- Place in the naming order of R430: EV_PUB0 to 3, then block-held (4), then software (5). -/
  order : Nat
  /-- The BUSCLK consumers have been served; a LINKCLK consumer is still due at E + 2. -/
  busServed : Bool
  deriving DecidableEq, Repr

/-- The last delivery to a producer instance (R432): edge and hop. -/
structure LastTask where
  edge : Nat
  hop : Nat
  deriving DecidableEq, Repr

structure Router where
  inflight : List Publication
  /-- A write of EV_GATE at an edge whose delivery is still to come: value and groups (R434). -/
  gateHeld : Option (Nat × Nat)
  /-- Keyed by producer code times 64 plus instance. -/
  last : List (Nat × LastTask)
  deriving DecidableEq, Repr

/-! ### Acquisition lanes (chapter 02) -/

/-- The scan list a lane has loaded (R70). -/
structure ScanList where
  entries : Vector Word 8
  nent : Nat
  period : Nat
  settle : Nat
  deriving DecidableEq, Repr

/-- What the sequencer of a logical lane is doing. -/
inductive LanePhase where
  | off | idle | settling | converting | connecting | stopped
  deriving DecidableEq, Repr

/-- A finished sample word that waits (R76). -/
structure LaneWord where
  word : Word
  stamp : Stamp
  phys : Fin 18
  /-- Ticks between successive words of its visit, D × 48. -/
  step : Nat
  /-- Its conversions have been cleared: 11 further ones without a second inconsistency. -/
  clear : Bool
  /-- It is the last word of its visit. -/
  last : Bool
  deriving DecidableEq, Repr

/-- An open SAMPLES record (R240). -/
structure OpenSamples where
  entry : Fin 8
  phys : Fin 18
  step : Nat
  words : List Word
  stamp : Stamp
  deriving DecidableEq, Repr

/-- A substitution in progress (R82), from step 1 to step 5. -/
structure LaneSubst where
  fenced : Fin 18
  spare : Fin 18
  cause : Nat
  fromLoan : Bool
  /-- Stamp of the LANE_SUBST record. -/
  chosen : Stamp
  /-- First tick of the lost interval; `none` when no word was due (R608). -/
  gapStart : Option Stamp
  /-- The lane was idle between cycles when its serving lane was declared faulty. -/
  idle : Bool
  /-- First word released by the substitute. -/
  firstWord : Option Stamp
  /-- The stream stopped is that of a loan cut short (R108): GAP cause 5 and no LANE_SUBST. -/
  loanCut : Bool
  deriving DecidableEq, Repr

/-- What calibration does to the lane's stream (R104 to R106). -/
inductive LaneCal where
  | none
  /-- The lane repeats its last values. -/
  | hold
  /-- Physical lane `home` is measured while the serving spare works on loan. -/
  | loan (home : Fin 18)
  deriving DecidableEq, Repr

/-- One logical lane. EN is in LN_ENABLE, the shadow list in LN_CTRL, LN_PERIOD, LN_SETTLE and LN_SCAN. -/
structure Lane where
  phase : LanePhase
  entry : Fin 8
  /-- Edge at which the visit in progress began. -/
  visitAt : Stamp
  list : ScanList
  commit : Bool
  serving : Fin 18
  /-- Parity of the next visit of each entry (R63). -/
  parity : Vector Bool 8
  /-- Parity of the visit in progress. -/
  vpar : Bool
  sum : Int
  count : Nat
  clip : Bool
  /-- A contributing conversion was inconsistent (R76). -/
  dirty : Bool
  wordsLeft : Nat
  first : Bool
  withheld : List LaneWord
  /-- Stamp of the last released word since the stream start (R607). -/
  lastStamp : Option Stamp
  streamStart : Stamp
  /-- E of the period schedule (R68). -/
  schedE : Stamp
  heldStart : Bool
  heldRestart : Bool
  open_ : Option OpenSamples
  subst : Option LaneSubst
  cal : LaneCal
  /-- Edge at which the run of a hold or loan ended (R105, R106). -/
  calEnd : Option Stamp
  /-- Last fresh VALUE of each entry (R106). -/
  lastFresh : Vector (Option Word) 8
  /-- The eighteen trim codes in use (R95). -/
  codes : Vector Nat 18
  /-- Parked by a power handshake (R73). -/
  parked : Bool
  deriving DecidableEq, Repr

/-- Condition of a physical lane (R45). -/
inductive PhysCond where
  | inService (k : Fin 16) | free | loan (k : Fin 16) | fenced | retesting
  deriving DecidableEq, Repr

/-- A reference test being run (R78). -/
structure RefTest where
  /-- Odd-numbered test of source 30 with this gain code, or an even-numbered one of source 29. -/
  gain : Option Nat
  /-- This is the repeat of a failed test (R79). -/
  again : Bool
  deriving DecidableEq, Repr

/-- One physical lane. -/
structure PhysLane where
  cond : PhysCond
  cause : Nat
  /-- Last reference-test value and outcome (LN_PTEST). -/
  testValue : Int
  testPass : Bool
  testDue : Bool
  test : Option RefTest
  /-- Tests counted from reset (R78). -/
  tests : Nat
  /-- Odd-numbered tests made as a free spare (R78). -/
  oddFree : Nat
  /-- Conversions since the last inconsistent one, while fewer than 11 (R75). -/
  since : Option Nat
  deriving DecidableEq, Repr

/-! ### Calibration engine (chapter 03) -/

inductive CalPhase where
  | idle | waiting | running
  deriving DecidableEq, Repr

/-- The engine (R98 to R109). Pending bits are CA_RUN; the sets are CA_SETS. -/
structure CalEngine where
  phase : CalPhase
  lane : Fin 16
  /-- CA_STAT.MODE: 0 none, 1 hold, 2 loan, 3 lane not enabled. -/
  mode : Nat
  phys : Fin 18
  spare : Option (Fin 18)
  /-- Start edge of the run; the selection edge while it waits. -/
  t0 : Stamp
  /-- CA_TEMP at the start of the run. -/
  temp : Word
  /-- Code of the self-test DAC outside runs (R115). -/
  dac : Nat
  /-- T_ref per lane: CA_TEMP at the start of the most recent run (R97). -/
  tref : Vector (Option Word) 16
  /-- Start edge of the most recent run per lane (R97). -/
  lastRun : Vector (Option Stamp) 16
  /-- First valid reading after boot, and its edge (R97). -/
  firstTemp : Word
  firstValid : Stamp
  deriving DecidableEq, Repr

/-! ### Timers (chapter 14) -/

/-- One timer. TM_CFG, TM_IEN, TM_RELOAD (last value written), TM_CMPA, TM_CMPB, TM_CAP, TM_OUT (with the output level)
and the flags of TM_STAT[7:0] are in the register file. -/
structure Timer where
  run : Bool
  count : Word
  /-- BUSCLK edges, or COUNT deliveries, since the last count edge (R448). -/
  pre : Nat
  /-- RELOAD in force (R458). -/
  reload : Word
  pend : Bool
  aFired : Bool
  bFired : Bool
  full : Bool
  capStamp : Stamp
  /-- A CAP publication is due at the next edge (R466). -/
  capDue : Bool
  /-- The count edge of the present BUSCLK edge is still to be applied (R452). -/
  due : Bool
  deriving DecidableEq, Repr

/-! ### Drawbar links (chapters 08 and 09) -/

/-- Receiver states (R300). -/
inductive PhyState where
  | off | listen | sync | header | body | transmit | blank
  deriving DecidableEq, Repr

/-- The second-watch correlator's candidate (R305). -/
structure Watch where
  level : Nat
  /-- When it was found, eight symbols after its first one began. -/
  foundAt : Stamp
  deriving DecidableEq, Repr

/-- Modem, driver and receiver of one bus. -/
structure Phy where
  state : PhyState
  /-- DB_PHYSTAT.SYMS at the edge `symsAt`; it counts on from there while a packet is received or sent. -/
  syms : Nat
  symsAt : Stamp
  watch : Option Watch
  /-- DB_PHYCFG in force: CHAN, AMP and LOOP written in a busy state are held until LISTEN (R312). -/
  cfg : Word
  /-- Stamps of driver trips within 100 ms (R284). -/
  trips : List Stamp
  heldOff : Bool
  /-- Stamp of the sync of the reception in progress (R298). -/
  syncStamp : Stamp
  /-- The accepted header (R303). -/
  head : Option Word
  /-- The tones of the transmission in progress, in order (R280 to R291). -/
  tones : List Nat
  /-- The driver is active. -/
  driving : Bool
  deriving DecidableEq, Repr

/-- A queued command (R330). -/
structure DbCmd where
  urgent : Bool
  poll : Bool
  payload : List Byte
  commit : Stamp
  /-- SEQ and frame counter once its first try has been sent. -/
  seq : Option Nat
  fc : Nat
  tries : Nat
  /-- The stored command it came from (R336, R442). -/
  stored : Option Nat
  deriving DecidableEq, Repr

/-- What a slot carries (R325). -/
inductive DbWork where
  | command (addr : Nat)
  | poll (addr : Nat)
  | contention
  | probe (p : Nat) (m : Nat)
  | release
  | assign
  deriving DecidableEq, Repr

/-- An exchange in progress (R326). -/
structure Exchange where
  work : DbWork
  addr : Nat
  ptype : Nat
  seq : Nat
  ver : Nat
  tag : Bool
  fc : Nat
  tries : Nat
  /-- An answer is expected. -/
  answered : Bool
  /-- End of the hub's last symbol. -/
  te : Option Stamp
  /-- A candidate has been found since te (R340). -/
  candidate : Bool
  deriving DecidableEq, Repr

/-- An ASSIGN that waits for an ENUM entry (R341). -/
structure DbAssign where
  uid : Nat
  addr : Nat
  version : Nat
  rate23 : Bool
  tags : Bool
  nonce : Word
  seq : Nat
  tries : Nat
  deriving DecidableEq, Repr

/-- The hub's record of one address (DB_ASTAT and the counters of R345). UID and DB_ACFG are in the register file. -/
structure Actuator where
  state : Nat
  ver : Nat
  rate23 : Bool
  tags : Bool
  caps : Nat
  misses : Nat
  seq : Nat
  alseq : Nat
  fc : Nat
  nonce : Word
  /-- The next POLL slot polls it before any command (R338). -/
  pollFirst : Bool
  queue : List DbCmd
  /-- The last valid packet, ten words (R349). -/
  last : List Word
  deriving DecidableEq, Repr

/-- One bus: modem and protocol. -/
structure Drawbar where
  phy : Phy
  acts : Vector Actuator 32
  /-- Entry that takes the next boundary, and the entry of the present slot. -/
  ttNext : Nat
  ttIdx : Nat
  /-- The next slot is the second of an ENUM entry (R325). -/
  enumTail : Bool
  /-- What the present slot carries and has not started yet. -/
  slot : Option DbWork
  exch : Option Exchange
  /-- End of the previous exchange (R328). -/
  exchEnd : Option Stamp
  /-- Address acknowledged by the next contention poll (R337). -/
  ackAddr : Nat
  walk : Bool
  stack : List (Nat × Nat)
  releaseDue : Bool
  enState : Nat
  found : Nat
  dupUid : Bool
  assigns : List DbAssign
  deriving DecidableEq, Repr

/-! ### Key store (chapter 18) -/

/-- A key slot (R551): TYPE 0 empty, 1 ECDSA public key, 2 AES-128 key. -/
structure KeySlot where
  typ : Nat
  usage : Nat
  origin : Nat
  key : List Byte
  deriving DecidableEq, Repr

/-! ### Drive slots and services (chapter 06) -/

/-- Motion states (R200). -/
inductive MState where
  | idle | runFwd | runRev | coast | reverse | tripped | degraded
  deriving DecidableEq, Repr

/-- Persistence of a dry-run or imbalance decision (R218, R219). -/
structure Persist where
  declared : Bool
  /-- Stamp of the word that began the present run above ON, or below OFF once declared. -/
  since : Option Stamp
  deriving DecidableEq, Repr

/-- One drive slot. The configuration, DS_VALn, DS_VALFLG, DS_RIPSTAT and the flags of DS_STAT are in the register
file. -/
structure Slot where
  mstate : MState
  /-- OWNER: 0 none, 1 Coolant Loop, 2 Position Recall, 3 Flap Homing. -/
  owner : Nat
  pos : Word
  valid : Bool
  doubt : Bool
  /-- DOUBT was gained while no service owned the slot (R232). -/
  freeDoubt : Bool
  dirty : Bool
  /-- A store has taken the position and it has not changed since (R210). -/
  taken : Bool
  corr : Nat
  /-- Ripple counting (R205). -/
  first : Bool
  k : Nat
  sLast : Word
  pAvg : Nat
  /-- RIPPLE words since the last FWD or REV (R206). -/
  words : Nat
  /-- Direction of the last drive is reverse. -/
  backward : Bool
  /-- p_avg at the OFF edge, and ripples counted during COAST (R206). -/
  offPavg : Nat
  coastM : Nat
  /-- Stamp of the last motion evidence, or of the edge that began the drive or the coast (R202, R212). -/
  motion : Stamp
  /-- POT position against which a change of 2 counts is judged (R212). -/
  motionPos : Word
  pinchPos : Word
  pinchAt : Stamp
  speed : Word
  dry : Persist
  imb : Persist
  /-- Readings, maximum and minimum of the present imbalance window (R219). -/
  winCount : Nat
  winMax : Int
  winMin : Int
  /-- Quantities whose periodic report waits for its next word (R241). -/
  due : Nat
  reportAt : Stamp
  /-- Edge and rank of the last cause applied (R203). -/
  actEdge : Nat
  actRank : Nat
  deriving DecidableEq, Repr

/-- A pump under Coolant Loop (R227). -/
structure PumpState where
  stopped : Bool
  retries : Nat
  fault : Bool
  at_ : Stamp
  deriving DecidableEq, Repr

/-- Coolant Loop (R226 to R228). -/
structure CoolantLoop where
  iAcc : Int
  u : Int
  tmax : Int
  lost : Nat
  sensorLost : Bool
  fansOn : Bool
  /-- Last speed sent: pumps 0 and 1, fans 0 and 1. -/
  sent : Vector (Option Nat) 4
  pumps : Vector PumpState 2
  /-- U at the last STEP record. -/
  stepU : Int
  stepAt : Stamp
  deriving DecidableEq, Repr

/-- Progress of one recall entry (R229). -/
inductive RecallPhase where
  | none | waiting | moving | done
  deriving DecidableEq, Repr

/-- Position Recall (R229). -/
structure Recall where
  /-- PRSTAT.STATE. -/
  state : Nat
  code : Nat
  mem : Nat
  phase : Vector RecallPhase 8
  tries : Vector Nat 8
  started : Stamp
  deriving DecidableEq, Repr

/-- Progress of one slot of a homing run (R231). -/
inductive HomePhase where
  | none | waiting | seeking | backing | done | failed
  deriving DecidableEq, Repr

/-- Flap Homing (R231, R232). -/
structure Homing where
  running : Bool
  phase : Vector HomePhase 32
  /-- Stamp and position at which the slot's search, or back-off, began. -/
  since : Vector Stamp 32
  from_ : Vector Word 32
  deriving DecidableEq, Repr


/-! ### Coachwork (chapter 04) -/

/-- Hidden state of a micro-program entry (R610). -/
structure Hidden where
  /-- FIR and CIC: inputs since the last output. -/
  phase : Nat
  /-- CNT: the counted flag at the previous execution. -/
  flag : Bool
  /-- BIQ: input history of the first section. -/
  x1 : Word
  x2 : Word
  deriving DecidableEq, Repr

/-- Kind of a stream word (R127). -/
inductive Side where
  | data (qual : Bool) (delta : Nat)
  | stamp
  | mark
  deriving DecidableEq, Repr

/-- A word with its sideband. -/
structure PortWord where
  side : Side
  word : Word
  deriving DecidableEq, Repr

/-- A word on a coupling or row bus. -/
structure Flight where
  dst : CoupDest
  word : PortWord
  sender : Fin 68
  deriving DecidableEq, Repr

/-- An emission that waits for room (R124): DST code and value. -/
structure Emission where
  dst : Nat
  value : Word
  deriving DecidableEq, Repr

/-- Condition of a position, as PSTATE (R118). -/
inductive CarCond where
  | serving | idle | spare | fenced | retesting | recovered
  deriving DecidableEq, Repr

/-- One physical carriage. Its store is in memory at 0x3000_0000 + position × 0x800. -/
structure Carriage where
  cond : CarCond
  logical : Fin 64
  train : Fin 16
  cause : Nat
  sat : Bool
  x : Word
  /-- SX; `none` until a data word has been taken since the train started (R130). -/
  sx : Option Word
  acc : BitVec 64
  flags : BitVec 4
  rs : Fin 16
  pc : Fin 64
  /-- Micro-program; entries beyond the list are OP 0x3F (R166). -/
  prog : List (BitVec 64)
  hidden : List (Nat × Hidden)
  fifo : Vector (List PortWord) 4
  /-- Stamp of the last data word taken per input port, and emitted per output port (R128). -/
  inStamp : Vector Word 4
  outStamp : Vector (Option Word) 2
  /-- QUAL owed on the next emission of each output port (R131). -/
  owed : Vector Bool 2
  stalled : Option Emission
  deriving DecidableEq, Repr

/-- Train state (R139). -/
inductive TState where
  | empty | loading | ready | running | warming | draining | stopped | faulted
  deriving DecidableEq, Repr

/-- One carriage of a substitution (R150). -/
structure CarSubst where
  logical : Fin 64
  fenced : Fin 68
  spare : Fin 68
  cause : Nat
  /-- Stamp of step 2. -/
  chosen : Stamp
  deriving DecidableEq, Repr

/-- A substitution of a train in progress (R150 to R156, R614). -/
structure TrainSubst where
  parts : List CarSubst
  /-- START of the GAP of each stream that gets one. -/
  starts : Vector (Option Stamp) 4
  /-- First word released after the restart. -/
  firsts : Vector (Option Stamp) 4
  /-- The load of step 4 has ended. -/
  loaded : Bool
  /-- Stamp of the CW_TSTOP edge: of R614, or of the drain (R156). -/
  stopAt : Option Stamp
  deriving DecidableEq, Repr

/-- One train-table entry (R138, R139). -/
structure Train where
  state : TState
  head : Fin 64
  settle : Nat
  members : List (Fin 64)
  outlets : Vector Word 4
  evouts : Vector Word 4
  wleft : Nat
  /-- A start is in progress (R140), and a CW_TSTOP bit held in that time. -/
  starting : Bool
  stopHeld : Bool
  /-- Edge of the stop; a stop by the loader gets no GAP (R186, R189). -/
  drainAt : Stamp
  quiet : Bool
  /-- Edge at which the taps began to pass words in the present run (R609). -/
  runStart : Stamp
  /-- Stamp of the last word released per outlet stream in the present run. -/
  lastRel : Vector (Option Stamp) 4
  /-- Words that have arrived at the outlet, and the stamp of the last data word per stream. -/
  outq : Vector (List PortWord) 4
  outStamp : Vector Word 4
  /-- Edge of the last EVT of each event output (R144). -/
  evtEdge : Vector (Option Nat) 4
  subst : Option TrainSubst
  deriving DecidableEq, Repr

/-- One lane tap (R132, R170) and its sending state. -/
structure Tap where
  num : Nat
  lane : Fin 16
  entry : Fin 8
  train : Fin 16
  slots : Nat
  row : Nat
  last : Option Word
  /-- A GAP mark goes before the next word that fits. -/
  markDue : Bool
  deriving DecidableEq, Repr

/-- One port binding of ROUTES (R167). -/
structure Route where
  car : Fin 64
  port : Nat
  kind : Nat
  dir : Nat
  slots : Nat
  deriving DecidableEq, Repr

/-! ### Consist (chapter 05) -/

/-- A DRIVES entry (R171). -/
structure DriveEntry where
  slot : Fin 32
  words : List Word
  deriving DecidableEq, Repr

/-- A LANES entry (R169): LN_CTRL, LN_PERIOD, LN_SETTLE, LN_SCAN0 to 7. -/
structure LaneEntry where
  lane : Fin 16
  enable : Bool
  words : List Word
  deriving DecidableEq, Repr

/-- A CARRIAGE section (R165). -/
structure CarImage where
  car : Fin 64
  prog : List (BitVec 64)
  store : List Word
  mask : List Byte
  deriving DecidableEq, Repr

/-- A TRAIN section (R168). -/
structure TrainImage where
  num : Fin 16
  head : Nat
  settle : Nat
  members : Nat
  outlets : List Word
  evouts : List Word
  deriving DecidableEq, Repr

/-- An unpacked consist image. -/
structure Image where
  full : Bool
  autostart : Bool
  ident : Word
  serial : Word
  baseId : Word
  trainMask : Nat
  startMask : Nat
  cars : List CarImage
  routes : List Route
  trains : List TrainImage
  lanes : List LaneEntry
  taps : List Tap
  drives : List DriveEntry
  events : List Word
  deriving DecidableEq, Repr

/-- A handover (R190): target train `n`, staging train `m`. -/
structure Handover where
  n : Fin 16
  m : Fin 16
  e0 : Stamp
  /-- E has come; Sw and the edge E. -/
  passed : Bool
  sw : Stamp
  atE : Stamp
  oldDone : Vector Bool 4
  deriving DecidableEq, Repr

/-- What the loader is doing. -/
inductive LdPhase where
  | idle | checking | stopping | loading | handover
  deriving DecidableEq, Repr

/-- The consist loader. CW_STGBASE, CW_STGLEN, CW_ACTID, CW_ACTSER, CW_ACTSRC, CW_SHCTRL, CW_SHSTAMP and the flags are in
the register file. -/
structure Loader where
  phase : LdPhase
  /-- Whose command runs: 0 a register write's, 1 the host port's, 2 the two-wire port's (R374, R403). -/
  port : Nat
  /-- CMD in progress, its SLOT and HANDOVER fields, and its start. -/
  cmd : Nat
  slot : Nat
  byHandover : Bool
  started : Stamp
  /-- The staging buffer is locked (R182), and its image verified (with KIND). -/
  locked : Bool
  staged : Bool
  kind : Nat
  /-- CW_LDSTAT.RESULT. -/
  result : Nat
  /-- The image being applied. -/
  image : Option Image
  /-- Source code that CW_ACTSRC takes: 1 slot 0, 2 slot 1, 3 staging buffer. -/
  source : Nat
  hand : Option Handover
  /-- Lanes to enable when the last of these train starts completes (R186 step 4). -/
  startsLeft : List (Fin 16)
  enables : List (Fin 16)
  /-- CW_CACHE.VALID. -/
  cacheValid : Bool
  /-- CRC-32 of each carriage record (R183). -/
  crcs : Vector (Option Word) 64
  deriving DecidableEq, Repr

structure Coach where
  cars : Vector Carriage 68
  /-- Position that serves each logical carriage, and the position CW_MAP names (R152). -/
  serve : Vector (Option (Fin 68)) 64
  shown : Vector (Fin 68) 64
  trains : Vector Train 16
  taps : List Tap
  routes : List Route
  flights : List Flight
  /-- Store words whose parity bit is wrong, by position × 512 + word (R147, R160). -/
  badPar : List (Nat × Bool)
  loader : Loader
  deriving DecidableEq, Repr

/-! ### Sensor port (chapter 12) -/

/-- What a sensor-port frame does (R417, R420 to R423). -/
inductive SpWork where
  | profile (k : Fin 16)
  | lineFill (line : Nat)
  | enable
  | command
  | poll
  deriving DecidableEq, Repr

/-- A frame in progress (R414): its work, the bytes it drives out, its end edge and the edge of step 5. -/
structure SpFrame where
  work : SpWork
  out : List Byte
  endAt : Stamp
  selHigh : Stamp
  deriving DecidableEq, Repr

/-- Bytes collected for one page (R421). -/
structure PageBuf where
  start : Nat
  bytes : List Byte
  last : Stamp
  deriving DecidableEq, Repr

/-- Steps of a program or erase (R421 to R423). -/
inductive FlashStep where
  | enable | command | polling
  deriving DecidableEq, Repr

/-- A program (code 1) or erase (2 to 4) of the external flash. -/
structure FlashOp where
  code : Nat
  addr : Nat
  bytes : List Byte
  step : FlashStep
  /-- Start of polling and edge of the next poll. -/
  pollStart : Stamp
  nextPoll : Stamp
  deriving DecidableEq, Repr

/-- A line of the read cache. -/
structure CacheLine where
  line : Nat
  bytes : List Byte
  deriving DecidableEq, Repr

/-- Sensor port. SP_ registers are in the register file. -/
structure SensorPort where
  pend : Vector Bool 16
  frame : Option SpFrame
  /-- Profile of the last frame: it stays busy until its select goes high. -/
  lastProf : Option (Fin 16)
  selHigh : Stamp
  /-- SCSA0 to SCSA3. -/
  scsa : Nat
  /-- Synchronised SMM_N is low. -/
  smmLow : Bool
  buf : Option PageBuf
  /-- The buffer is to be programmed as soon as the operation that runs has ended. -/
  bufDue : Bool
  op : Option FlashOp
  /-- An erase that waits for the program of the buffer (R423). -/
  after : Option FlashOp
  /-- Cached lines, most recently used first. -/
  cache : List CacheLine
  deriving DecidableEq, Repr

/-! ### Interrupts and processors (chapter 15) -/

/-- One interrupt source. Priority and target are in IC_SRC; a level source requests while its condition holds. -/
structure IntSource where
  /-- Request latch of event, software, edge-mode wake and fault-reset sources (R477). -/
  latch : Bool
  /-- The processor that holds it in service, and its claim priority (R483). -/
  service : Option (Fin 3)
  prio : Nat
  /-- 4-bit arrival counter (R487). -/
  arrivals : Nat
  /-- The processor it is routed to since the last routing edge (R480). -/
  routed : Option (Fin 3)
  deriving DecidableEq, Repr

/-- One processor: A0, A1, Vane. What it executes is outside the block. -/
structure Core where
  /-- In reset, and the edge at which it leaves reset (R475); `none` until something releases it. -/
  inReset : Bool
  restartAt : Option Stamp
  /-- Halted in WFI while its clock runs (R493). -/
  wfi : Bool
  /-- Stopped by power control, and the edge at which it resumes (R493, R494). -/
  stopped : Bool
  wakeAt : Option Stamp
  /-- When it stopped: its watchdog pauses meanwhile (R273). -/
  stoppedAt : Stamp
  /-- The instruction cache may hold lines (R472). -/
  icache : Bool
  /-- Address the boot ROM jumps to when the core leaves reset; 0 while it stays in the boot ROM (R475, R526, R529). -/
  entry : Word
  deriving DecidableEq, Repr

structure IntCtl where
  sources : Vector IntSource 160
  cores : Vector Core 3
  /-- Last address written to NV_A1START (R529). -/
  a1Entry : Word
  deriving DecidableEq, Repr

/-! ### Power states and the Vane (chapter 16) -/

/-- The hub's state (R491). Gale and Breeze are both `on`: which of them holds follows from the cores and the floor
(R493). -/
inductive HubState where
  | on | lull | calm | off
  deriving DecidableEq, Repr

/-- Progress of a Lull or Calm request (PW_STAT.PHASE). -/
inductive PwPhase where
  | idle | handshake | committed
  deriving DecidableEq, Repr

/-- Progress of an exit from Lull (R504): none; the PLL starts; BUSCLK runs, before ER. -/
inductive ExitPhase where
  | none | pll | clocks
  deriving DecidableEq, Repr

/-- One channel of the Lull monitor (R518). -/
structure MonChan where
  state : Bool
  valid : Bool
  y : Nat
  cnt : Nat
  deriving DecidableEq, Repr

/-- The Lull monitor and its log (R518, R520). -/
structure Monitor where
  run : Bool
  chans : Vector MonChan 8
  /-- Scans since the last logged scan. -/
  scans : Nat
  logIdx : Nat
  /-- Stamp bits [47:32] of the last high-stamp entry of this Lull. -/
  high : Option Nat
  /-- Entries written and not read since. -/
  unread : List Nat
  deriving DecidableEq, Repr

/-- Latched pads (R511): groups in PW_PADSTAT's bits, and the levels held. -/
structure PadLatch where
  groups : Nat
  hirqLow : Bool
  tio : Nat
  scsa : Nat
  deriving DecidableEq, Repr

/-- An accepted write whose work waits (R495, R499): `tag` is the code of a parked block, or 32 plus a domain. -/
structure Waiting where
  tag : Nat
  acc : Accessor
  /-- The accessor's select register at the write. -/
  sel : Word
  access : Access
  deriving DecidableEq, Repr

/-- Power control. PW_ and VN_ bits that software stores are in the register file. -/
structure PowerSt where
  hub : HubState
  vaneOn : Bool
  /-- The floor is Breeze; the floor in force before E0 (R501). -/
  floorBreeze : Bool
  floorBefore : Bool
  phase : PwPhase
  target : Nat
  e0 : Stamp
  /-- Blocks parked, and blocks whose answer to the present request is ACK, by the codes of R499 (entry 0 unused). A
  replaced request leaves blocks parked while they answer again (R497). -/
  parked : Vector Bool 19
  acked : Vector Bool 19
  queued : Option Nat
  /-- EC (R501). -/
  ec : Stamp
  exit : ExitPhase
  /-- Wakes that have asserted and that an exit is still to act on (R503, R505), as PW_WAKE bits. -/
  wakeDue : Nat
  /-- A request that acts at ER: a Calm request made in Lull, or a queued request (R497, R498). -/
  after : Option Nat
  /-- Writes that wait: for the release of a parked block (R499), or for an on-demand domain (R495). -/
  waiting : List Waiting
  /-- On-demand domains that are on (R495), and when each was last busy. -/
  dom : Vector Bool 5
  busyAt : Vector Stamp 5
  pads : PadLatch
  /-- Banks that the retention guard blocks, in PW_RETBUSY's order (R514). -/
  blocked : Vector Bool 16
  /-- Banks switched off in this Lull; retained Vane banks that a Vane access made active again (R514). -/
  bankOff : Vector Bool 16
  bankWoken : Vector Bool 16
  /-- Debounced level of WAKE0 to WAKE3, level of the two-wire match and of the listener (R508). -/
  wakePin : Vector Bool 4
  twMatch : Bool
  listener : Bool
  mon : Monitor
  deriving DecidableEq, Repr

/-! ### Reset, boot and storage (chapter 17) -/

/-- The factory block (R526): trims with their check words, lane sets with theirs, identity, and the wrapping key KDU. -/
structure Factory where
  trims : Vector Word 4
  trimCrc : Vector (BitVec 16) 4
  sets : List Word
  setCrc : Vector (BitVec 16) 16
  qs : Bool
  uid : BitVec 64
  kdu : List Byte
  deriving DecidableEq, Repr

/-- An NVM operation in progress (R533): OP, BANK, address, unit, and for a store the pages left. `port` is who gets
the outcome: 0 NV_CMD only, 1 the host port, 2 the two-wire port. -/
structure NvOp where
  op : Nat
  bank : Nat
  addr : Nat
  data : List Word
  start : Stamp
  pages : List Nat
  /-- Image bytes of the page being written (R538 step 1). -/
  buffer : List Byte
  bad : Bool
  port : Nat
  deriving DecidableEq, Repr

structure Nvm where
  op : Option NvOp
  open_ : Vector Bool 2
  booted : Option (Fin 2)
  /-- DS_PRMEM has been written or saved since page 31 was last stored (R537). -/
  prDirty : Bool
  /-- The store in progress has taken the memories' change (R537). -/
  prTaken : Bool
  /-- AON flags of R539. -/
  storeAct : Bool
  commitAct : Bool
  /-- Boot runs (R526), and the reset that started it was the exit from Calm. -/
  booting : Bool
  fromCalm : Bool
  /-- The reset that started the boot was CLKFAIL: AL_FSTAT.PLL is set after boot (R274). -/
  pllFault : Bool
  factory : Factory
  deriving DecidableEq, Repr

/-! ### Security enclave (chapter 18) -/

/-- A mailbox command in progress (R561). -/
structure EncJob where
  cmd : Nat
  slot : Nat
  len : Nat
  buf : Nat
  dest : Nat
  arg : Word
  by_ : Accessor
  start : Stamp
  deriving DecidableEq, Repr

structure Enclave where
  slots : Vector KeySlot 32
  /-- Lifecycle state (R548). -/
  life : Nat
  job : Option EncJob
  /-- OWNER and RESULT of SE_STAT. -/
  owner : Nat
  result : Nat
  minFw : Word
  minCon : Word
  win : Vector Word 8
  entFail : Bool
  dbgOpen : Bool
  /-- Step 4 of R526 has ended since the last reset (R558). -/
  checked : Bool
  challenge : Option (List Byte)
  dbgFails : Nat
  /-- Known-answer tests that failed in a row at boots (R557). -/
  katFails : Nat
  deriving DecidableEq, Repr

/-! ### Host port (chapter 10) -/

/-- An open session (R379). -/
structure Session where
  slot : Nat
  key : List Byte
  ctr : Nat
  deriving DecidableEq, Repr

/-- A sent and unacknowledged batch response (R370), or an undelivered two-wire block (R402). -/
structure Unacked where
  bytes : List Byte
  /-- Queue bytes it delivers. -/
  queued : Nat
  /-- It begins with a read EPOCH. -/
  epoch : Bool
  deriving DecidableEq, Repr

structure HostPort where
  /-- HSEL_N is low. -/
  selected : Bool
  /-- Word 0, or the chain slot, that HSDO carries in this frame (R354, R383). -/
  word0 : BitVec 64
  session : Option Session
  fails : Nat
  sent : Vector (Option Unacked) 2
  /-- DATA of the previous chain command's outcome, and its accepting edge (R383, R385). -/
  chainData : Word
  chainAt : Option Stamp
  /-- The long command that runs has ended with this outcome (R374). -/
  longOut : Option Nat
  /-- The long command waits for its block (R499) or its domain (R495): the loader command, or 0 for a store. -/
  issue : Option Word
  /-- Words HSDO carried in the last command frame. -/
  out : List Word
  deriving DecidableEq, Repr

/-! ### Two-wire port (chapter 11) -/

structure TwoWire where
  /-- A transaction is in progress (TW_STAT.BUSY). -/
  busy : Bool
  /-- A Host Notify is pending or being sent, and its failed attempts (R409, R410). -/
  notify : Bool
  tries : Nat
  /-- The matcher holds SCL since this stamp (R406). -/
  held : Option Stamp
  sent : Option Unacked
  /-- The long command that runs has ended with this outcome, or waits, as for the host port (R403). -/
  longOut : Option Nat
  issue : Option Word
  /-- Bytes the hub transmitted in the last transaction. -/
  out : List Byte
  deriving DecidableEq, Repr

/-! ### The machine -/

/-- Why a step stops with a fault. The hub reports every error of the spec through a register or a bus error, which are
answers and not stops. -/
inductive Fault where
  /-- No command of this model raises it: kept so that the type has a name. Safe. -/
  | none
  deriving DecidableEq, Repr

/-- Why a command is refused. -/
inductive Refusal where
  /-- Raised by an arm of `exec` whose command has no meaning yet; the string is its mnemonic. Safe. -/
  | notModelled (mnemonic : String)
  deriving DecidableEq, Repr

/-- The hub. `pending` is the queue of commands that wait, first in, first out. -/
structure State where
  /-- Stored register bits, by `Reg.key`. -/
  regs : List (Nat × Word)
  /-- Memory of the address map (R32), and the two data TCMs (R471). -/
  mem : List Host.Cell
  acc : Vector AccessorState 6
  /-- The model's own field: how many free values have been drawn (log entry 2). -/
  freeCount : Nat
  clk : Clock
  merger : Merger
  safety : Safety
  router : Router
  timers : Vector Timer 16
  drawbar : Vector Drawbar 2
  slots : Vector Slot 32
  loop : CoolantLoop
  prRun : Recall
  homing : Homing
  lanes : Vector Lane 16
  phys : Vector PhysLane 18
  cal : CalEngine
  coach : Coach
  sensor : SensorPort
  ic : IntCtl
  power : PowerSt
  nvm : Nvm
  enclave : Enclave
  host : HostPort
  tw : TwoWire
  pending : List Instr
  deriving DecidableEq, Repr

/-- What a byte of memory that nothing has written reads as: erased flash reads 0xFF (R533, R536: blank units), every
other byte 0 (log entry 1). -/
def memDefault (a : Nat) : Byte := if 0x08000000 ≤ a ∧ a < 0x08820000 then 0xFF else 0

/-- The canonical form of a memory (log entry 1). -/
abbrev Memory.wf (m : List Host.Cell) : Prop := Sparse.wf memDefault m = true

/-- The canonical form of a register file (log entry 1). -/
abbrev RegFile.wf (m : List (Nat × Word)) : Prop := Sparse.wf regDefault m = true


/-! ### Reset values

What each part holds after a reset. A value the spec gives is cited; every other value is the model's choice
(log entry 31). -/

/-- Counters at the start of a power-on reset (R524: the stamp starts at 0); BUSCLK runs from step 2 of R526. -/
def Clock.reset : Clock :=
  { bus := 0, vane := 0, acc := 0, source := .bus, edge := 0, x32phase := 0, busOn := true, handoverDue := false,
    x32On := false }

def Cursor.reset : Cursor := { index := 0, offset := 0, avail := 0, high := 0, readSeq := 0 }

/-- The queue is empty and the first records of R258 are due. -/
def Merger.reset : Merger :=
  { arriving := [], held := [], holds := [], barrier := none, restartDue := true, epochDue := none, highDone := 0,
    seqs := [], head := 0, epochHigh := 0, overflow := none, newest := 0, cursors := Vector.replicate 4 Cursor.reset }

/-- FAULT_N is low from every reset (R275). -/
def Safety.reset : Safety :=
  { pending := [], kick := Vector.replicate 3 0, kicked := Vector.replicate 3 false, pinLow := true, lowSince := 0 }

def Timer.reset : Timer :=
  { run := false, count := 0, pre := 0, reload := 0xFFFFFFFF, pend := false, aFired := false, bFired := false,
    full := false, capStamp := 0, capDue := false, due := false }

/-- The modem is off until DB_PHYCFG.EN (R312). -/
def Phy.reset : Phy :=
  { state := .off, syms := 0, symsAt := 0, watch := none, cfg := 0x0F000000, trips := [], heldOff := false, syncStamp := 0,
    head := none, tones := [], driving := false }

def Actuator.reset : Actuator :=
  { state := 0, ver := 0, rate23 := false, tags := false, caps := 0, misses := 0, seq := 0, alseq := 0, fc := 0,
    nonce := 0, pollFirst := false, queue := [], last := List.replicate 10 0 }

def Drawbar.reset : Drawbar :=
  { phy := Phy.reset, acts := Vector.replicate 32 Actuator.reset, ttNext := 0, ttIdx := 0, enumTail := false,
    slot := none, exch := none, exchEnd := none, ackAddr := 0, walk := false, stack := [], releaseDue := false,
    enState := 0, found := 0, dupUid := false, assigns := [] }

def Persist.reset : Persist := { declared := false, since := none }

def Slot.reset : Slot :=
  { mstate := .idle, owner := 0, pos := 0, valid := false, doubt := false, freeDoubt := false, dirty := false, taken := false,
    corr := 0, first := true,
    k := 0, sLast := 0, pAvg := 0, words := 0, backward := false, offPavg := 0, coastM := 0, motion := 0,
    motionPos := 0, pinchPos := 0, pinchAt := 0, speed := 0, dry := Persist.reset, imb := Persist.reset,
    winCount := 0, winMax := 0, winMin := 0, due := 0, reportAt := 0, actEdge := 0, actRank := 0 }

def CoolantLoop.reset : CoolantLoop :=
  { iAcc := 0, u := 0, tmax := 0, lost := 0, sensorLost := false, fansOn := false, sent := Vector.replicate 4 none,
    pumps := Vector.replicate 2 { stopped := false, retries := 0, fault := false, at_ := 0 }, stepU := 0, stepAt := 0 }

def Recall.reset : Recall :=
  { state := 0, code := 0, mem := 0, phase := Vector.replicate 8 .none, tries := Vector.replicate 8 0, started := 0 }

def Homing.reset : Homing :=
  { running := false, phase := Vector.replicate 32 .none, since := Vector.replicate 32 0,
    from_ := Vector.replicate 32 0 }

/-- LN_SETTLE is 24 after reset; lane k is served by its home lane (R44). -/
def Lane.reset (k : Fin 16) : Lane :=
  { phase := .off, entry := 0, visitAt := 0,
    list := { entries := Vector.replicate 8 0, nent := 0, period := 0, settle := 24 }, commit := false,
    serving := Fin.ofNat 18 k.val, parity := Vector.replicate 8 false, vpar := false, sum := 0, count := 0,
    clip := false, dirty := false, wordsLeft := 0, first := false, withheld := [], lastStamp := none,
    streamStart := 0, schedE := 0, heldStart := false, heldRestart := false, open_ := none, subst := none,
    cal := .none, calEnd := none, lastFresh := Vector.replicate 8 none, codes := Vector.replicate 18 32,
    parked := false }

/-- Physical lanes 0 to 15 serve their logical lanes; 16 and 17 are free spares (R44). -/
def PhysLane.reset (p : Fin 18) : PhysLane :=
  { cond := if p.val < 16 then .inService (Fin.ofNat 16 p.val) else .free, cause := 0, testValue := 0,
    testPass := false, testDue := false, test := none, tests := 0, oddFree := 0, since := none }

def CalEngine.reset : CalEngine :=
  { phase := .idle, lane := 0, mode := 0, phys := 0, spare := none, t0 := 0, temp := 0, dac := 0x800,
    tref := Vector.replicate 16 none, lastRun := Vector.replicate 16 none, firstTemp := 0, firstValid := 0 }

/-- Positions 0 to 63 are idle at their home carriages; 64 to 67 are free spares (R117, R118). -/
def Carriage.reset (p : Fin 68) : Carriage :=
  { cond := if p.val < 64 then .idle else .spare, logical := Fin.ofNat 64 p.val, train := 0, cause := 0, sat := false,
    x := 0, sx := none, acc := 0, flags := 0, rs := 0, pc := 0, prog := [], hidden := [],
    fifo := Vector.replicate 4 [], inStamp := Vector.replicate 4 0, outStamp := Vector.replicate 2 none,
    owed := Vector.replicate 2 false, stalled := none }

def Train.reset : Train :=
  { state := .empty, head := 0, settle := 0, members := [], outlets := Vector.replicate 4 0,
    evouts := Vector.replicate 4 0, wleft := 0, starting := false, stopHeld := false, drainAt := 0, quiet := false,
    runStart := 0, lastRel := Vector.replicate 4 none, outq := Vector.replicate 4 [],
    outStamp := Vector.replicate 4 0, evtEdge := Vector.replicate 4 none, subst := none }

/-- No consist, and no valid cache (R183, R187). -/
def Loader.reset : Loader :=
  { phase := .idle, port := 0, cmd := 0, slot := 0, byHandover := false, started := 0, locked := false, staged := false,
    kind := 0, result := 0, image := none, source := 0, hand := none, startsLeft := [], enables := [],
    cacheValid := false, crcs := Vector.replicate 64 none }

def Coach.reset : Coach :=
  { cars := Vector.ofFn Carriage.reset, serve := Vector.ofFn (fun (k : Fin 64) => some (Fin.ofNat 68 k.val)),
    shown := Vector.ofFn (fun (k : Fin 64) => Fin.ofNat 68 k.val), trains := Vector.replicate 16 Train.reset,
    taps := [], routes := [], flights := [], badPar := [], loader := Loader.reset }

/-- The sensor port idles with SCSA at 0 (R412, R414). -/
def SensorPort.reset : SensorPort :=
  { pend := Vector.replicate 16 false, frame := none, lastProf := none, selHigh := 0, scsa := 0, smmLow := false,
    buf := none, bufDue := false, op := none, after := none, cache := [] }

def IntSource.reset : IntSource := { latch := false, service := none, prio := 0, arrivals := 0, routed := none }

/-- A core that a system reset holds: A0 and the Vane until step 6 of R526, A1 until NV_A1START (R529). -/
def Core.reset : Core :=
  { inReset := true, restartAt := none, wfi := false, stopped := false, wakeAt := none, stoppedAt := 0, icache := false,
    entry := 0 }

def IntCtl.reset : IntCtl :=
  { sources := Vector.replicate 160 IntSource.reset, cores := Vector.replicate 3 Core.reset, a1Entry := 0 }

def MonChan.reset : MonChan := { state := false, valid := false, y := 0, cnt := 0 }

def Monitor.reset : Monitor :=
  { run := false, chans := Vector.replicate 8 MonChan.reset, scans := 0, logIdx := 0, high := none, unread := [] }

/-- The floor is Gale after every reset (R493); every domain is on (PW_DOMSTAT). -/
def PowerSt.reset : PowerSt :=
  { hub := .on, vaneOn := true, floorBreeze := false, floorBefore := false, phase := .idle, target := 0, e0 := 0,
    parked := Vector.replicate 19 false, acked := Vector.replicate 19 false, queued := none, ec := 0, exit := .none,
    wakeDue := 0, after := none, waiting := [], dom := Vector.replicate 5 true, busyAt := Vector.replicate 5 0,
    pads := { groups := 0, hirqLow := false, tio := 0, scsa := 0 }, blocked := Vector.replicate 16 false,
    bankOff := Vector.replicate 16 false, bankWoken := Vector.replicate 16 false, wakePin := Vector.replicate 4 false, twMatch := false, listener := false,
    mon := Monitor.reset }

/-- One step of the CRC-16 of R110: polynomial x¹⁶ + x¹² + x⁵ + 1, most significant bit first. -/
def factoryCrcBit (c : BitVec 16) : BitVec 16 := if c.msb then (c <<< 1) ^^^ 0x1021 else c <<< 1

/-- The CRC-16 of R110 over bytes, initial value 0xFFFF. -/
def factoryCrc (bs : List Byte) : BitVec 16 :=
  bs.foldl (fun c b => Nat.repeat factoryCrcBit 8 (c ^^^ ((b.setWidth 16 : BitVec 16) <<< (8 : Nat)))) 0xFFFF

/-- Bytes of the words of a trim or of a lane's sets, little-endian (R110). -/
def factoryBytes (ws : List Word) : List Byte := ws.flatMap wordBytes

/-- The words of one lane's five sets with every code at 32. -/
def nominalSets : List Word := (List.replicate 5 [0x20202020, 0x20202020, 0x20202020, 0x20202020, 0x00002020]).flatten

/-- The factory block of the modelled part: an EQ9640-QS whose trims are the values of R110's table and whose lane sets are
the nominal codes, all with good check words. The spec gives no contents: DESIGN CHOICE, log entry 30. -/
def Factory.reset : Factory :=
  { trims := #v[0x80, 0x200, 0x80, 0],
    trimCrc := #v[factoryCrc (factoryBytes [0x80]), factoryCrc (factoryBytes [0x200]), factoryCrc (factoryBytes [0x80]),
                  factoryCrc (factoryBytes [0])],
    sets := (List.replicate 16 nominalSets).flatten,
    setCrc := Vector.replicate 16 (factoryCrc (factoryBytes nominalSets)), qs := true, uid := 0,
    kdu := List.replicate 16 0 }

def Nvm.reset : Nvm :=
  { op := none, open_ := Vector.replicate 2 false, booted := none, prDirty := false, prTaken := false, storeAct := false,
    commitAct := false, booting := true, fromCalm := false, pllFault := false, factory := Factory.reset }

def KeySlot.reset : KeySlot := { typ := 0, usage := 0, origin := 0, key := [] }

/-- An EQ9640-QS ships SECURED with Lambiex's root key in slot 0 (R548, R551); the key itself is a choice
(log entry 30). -/
def Enclave.reset : Enclave :=
  { slots := (Vector.replicate 32 KeySlot.reset).set 0 { typ := 1, usage := 8, origin := 0, key := List.replicate 64 0 },
    life := 2, job := none, owner := 0, result := 0, minFw := 0, minCon := 0, win := Vector.replicate 8 0,
    entFail := false, dbgOpen := false, checked := false, challenge := none, dbgFails := 0, katFails := 0 }

def HostPort.reset : HostPort :=
  { selected := false, word0 := 0, session := none, fails := 0, sent := Vector.replicate 2 none, chainData := 0,
    chainAt := none, longOut := none, issue := none, out := [] }

def TwoWire.reset : TwoWire :=
  { busy := false, notify := false, tries := 0, held := none, sent := none, longOut := none, issue := none, out := [] }

/-- The machine right after a power-on reset, at the end of step 3 of R526: the factory block is loaded, no bank has been
verified, and A0 waits for BOOT_COMPLETE. NV_RSTCAUSE.POR is set (R525); the strap code is 0 (log entry 32). -/
def State.reset : State :=
  { regs := Sparse.set regDefault
      (Sparse.set regDefault [] (Reg.key (.tw .ADDR) 0) 0x00000038) (Reg.key (.nv .RSTCAUSE) 0) 1,
    mem := [], acc := Vector.replicate 6 { answer := .none, stalled := none }, freeCount := 0, clk := Clock.reset,
    merger := Merger.reset, safety := Safety.reset, router := { inflight := [], gateHeld := none, last := [] },
    timers := Vector.replicate 16 Timer.reset, drawbar := Vector.replicate 2 Drawbar.reset,
    slots := Vector.replicate 32 Slot.reset, loop := CoolantLoop.reset, prRun := Recall.reset,
    homing := Homing.reset, lanes := Vector.ofFn Lane.reset, phys := Vector.ofFn PhysLane.reset,
    cal := CalEngine.reset, coach := Coach.reset, sensor := SensorPort.reset, ic := IntCtl.reset,
    power := PowerSt.reset, nvm := Nvm.reset, enclave := Enclave.reset, host := HostPort.reset, tw := TwoWire.reset,
    pending := [] }

end Sys2Proof.Machine
end

