-- ==== Sys2Proof/Machine/Ops.lean ====
section
/-! DEFINITION. The shared operations: memory, the register file with the access types of R7, per-accessor answers, and
the stamp. -/
namespace Sys2Proof.Machine

/-! ### Memory -/

/-- Read one byte. -/
def State.readByte (s : State) (a : Nat) : Byte := Sparse.get memDefault s.mem a

/-- Write one byte. -/
def State.writeByte (s : State) (a : Nat) (b : Byte) : State := { s with mem := Sparse.set memDefault s.mem a b }

/-- Read `n` bytes, lowest address first. -/
def State.readBytes (s : State) (a n : Nat) : List Byte := (List.range n).map (fun i => s.readByte (a + i))

/-- Write bytes from address `a` up. -/
def State.writeBytes (s : State) (a : Nat) : List Byte → State
  | [] => s
  | b :: bs => (s.writeByte a b).writeBytes (a + 1) bs

/-- Read a little-endian word (R4). -/
def State.readWord (s : State) (a : Nat) : Word := bytesWord (s.readBytes a 4)

/-- Write a little-endian word (R4). -/
def State.writeWord (s : State) (a : Nat) (w : Word) : State := s.writeBytes a (wordBytes w)

/-- Write words from address `a` up. -/
def State.writeWords (s : State) (a : Nat) : List Word → State
  | [] => s
  | w :: ws => (s.writeWord a w).writeWords (a + 4) ws

/-- `n` words from address `a`. -/
def State.readWords (s : State) (a n : Nat) : List Word := (List.range n).map (fun i => s.readWord (a + 4 * i))

/-- Every byte of `[a, a + n)` reads as its default again. -/
def State.eraseRange (s : State) (a n : Nat) : State :=
  { s with mem := Sparse.clear (fun k => decide (a ≤ k) && decide (k < a + n)) s.mem }

/-- The bytes of `[a, a + n)` become 0 whatever their default. -/
def State.zeroRange (s : State) (a n : Nat) : State :=
  if memDefault a = 0 then s.eraseRange a n else s.writeBytes a (List.replicate n 0)

/-! ### The register file -/

/-- The stored bits of unit `u` of a register. -/
def State.reg (s : State) (r : Reg) (u : Nat := 0) : Word :=
  Sparse.get (fun _ => r.resetVal u) s.regs (r.key u)

/-- Set the stored bits of unit `u` of a register. -/
def State.setReg (s : State) (r : Reg) (u : Nat) (w : Word) : State :=
  { s with regs := Sparse.set (fun _ => r.resetVal u) s.regs (r.key u) w }

/-- Clear stored bits. -/
def State.clrReg (s : State) (r : Reg) (u : Nat) (m : Nat) : State :=
  s.setReg r u (s.reg r u &&& ~~~(BitVec.ofNat 32 m))

/-- Field `[hi:lo]` of a register. -/
def State.rfld (s : State) (r : Reg) (u hi lo : Nat) : Nat := fld (s.reg r u) hi lo

/-- Bit `i` of a register. -/
def State.rbit (s : State) (r : Reg) (u i : Nat) : Bool := bit (s.reg r u) i

/-! ### The stamp -/

/-- The stamp now: the value of the counter that is the stamp source (R19). -/
def State.now (s : State) : Stamp :=
  match s.clk.source with
  | .bus => s.clk.bus
  | .vane => s.clk.vane

/-! ### What a raised flag reaches: interrupt requests, FAULT_N and the notify levels -/

/-- The interrupt source that flags of unit `u` of a register feed, and which of its bits do (R477). -/
def flagSource (s : State) (r : Reg) (u : Nat) : Option (Nat × Nat) :=
  match r with
  | .tm .STAT => some (16 + u, ((s.reg (.tm .IEN) u) &&& 0xFF).toNat)
  | .ln .FAULTS => some (32, 0xFFFF)
  | .ca .TRIMSTAT => some (33, 0xF0000)
  | .ca .STAT => some (34, 0xC)
  | .cw .TFAULT => some (35, 0xFFFF)
  | .cw .TAPOVR => some (35, 0xFFFF)
  | .cw .STAT => some (35, 0x20)
  | .cw .LDSTAT => some (36, 0xE)
  | .ds .EVENTS => some (37, 0xFFFFFFFF)
  | .ds .PRCTL => some (38, 0x80000000)
  | .ds .FHCTL => some (38, 0x80000000)
  | .rk .STAT => some (39, 0x70)
  | .rk .CnSTAT => if u = 2 ∨ u = 3 then some (38 + u, 0x80000000) else none
  | .db .ALARM => some (42 + 2 * u, 0xFFFFFFFF)
  | .db .LOST => some (42 + 2 * u, 0xFFFFFFFF)
  | .db .LSTAT => some (42 + 2 * u, 0xF8)
  | .db .PHYFLG => some (43 + 2 * u, 0xC)
  | .hp .STAT => some (46, 0x1FE)
  | .tw .STAT => some (47, 0xFF8)
  | .sp .STAT => some (48, 0x6)
  | .sp .FSTAT => some (48, 0xD)
  | .ev .STAT => some (49, 0xC)
  | .al .FSTAT => some (50, 0xFFFF)
  | .nv .STAT => some (51, 0x3)
  | .se .STAT => some (52, 0x6)
  | .pw .STAT => some (53, 0x6)
  | .pw .RETSTAT => some (54, 0xFFFF)
  | .vn .WSTAT => some (76, ((s.reg (.vn .IEN)) &&& 0x1FFF).toNat)
  | _ => none

/-- The flag registers that feed a level source. -/
def sourceFlags (n : Nat) : List (Reg × Nat) :=
  if 16 ≤ n ∧ n ≤ 31 then [(.tm .STAT, n - 16)]
  else match n with
    | 32 => [(.ln .FAULTS, 0)]
    | 33 => [(.ca .TRIMSTAT, 0)]
    | 34 => [(.ca .STAT, 0)]
    | 35 => [(.cw .TFAULT, 0), (.cw .TAPOVR, 0), (.cw .STAT, 0)]
    | 36 => [(.cw .LDSTAT, 0)]
    | 37 => [(.ds .EVENTS, 0)]
    | 38 => [(.ds .PRCTL, 0), (.ds .FHCTL, 0)]
    | 39 => [(.rk .STAT, 0)]
    | 40 => [(.rk .CnSTAT, 2)]
    | 41 => [(.rk .CnSTAT, 3)]
    | 42 => [(.db .ALARM, 0), (.db .LOST, 0), (.db .LSTAT, 0)]
    | 43 => [(.db .PHYFLG, 0)]
    | 44 => [(.db .ALARM, 1), (.db .LOST, 1), (.db .LSTAT, 1)]
    | 45 => [(.db .PHYFLG, 1)]
    | 46 => [(.hp .STAT, 0)]
    | 47 => [(.tw .STAT, 0)]
    | 48 => [(.sp .STAT, 0), (.sp .FSTAT, 0)]
    | 49 => [(.ev .STAT, 0)]
    | 50 => [(.al .FSTAT, 0)]
    | 51 => [(.nv .STAT, 0)]
    | 52 => [(.se .STAT, 0)]
    | 53 => [(.pw .STAT, 0)]
    | 54 => [(.pw .RETSTAT, 0)]
    | 76 => [(.vn .WSTAT, 0)]
    | _ => []

/-- Flags of one register that are set and feed its source. -/
def flagsUp (s : State) (r : Reg) (u : Nat) : Bool :=
  match flagSource s r u with
  | some (_, m) => (s.reg r u &&& BitVec.ofNat 32 m) != 0
  | none => false

/-- WAKE pin `k` is enabled and asserts its chosen level (R508, R509). -/
def wakeLevel (s : State) (k : Fin 4) : Bool :=
  let c := s.rfld (.vn .WAKECFG) 0 (8 * k.val + 7) (8 * k.val)
  decide (128 ≤ c) && (s.power.wakePin[k] != (c / 32 % 2 == 1))

/-- WAKE pin `k` is in level mode. -/
def wakeIsLevel (s : State) (k : Fin 4) : Bool := s.rfld (.vn .WAKECFG) 0 (8 * k.val + 6) (8 * k.val + 6) == 1

/-- The alarm stamp (R510). -/
def alarmStamp (s : State) : Nat := s.rfld (.vn .ALARMH) 0 15 0 * 2 ^ 32 + (s.reg (.vn .ALARML)).toNat

/-- The RTC alarm is asserted (R510). -/
def alarmUp (s : State) : Bool := s.rbit (.vn .ALARMH) 0 31 && decide (alarmStamp s ≤ s.now.toNat)

/-- The level of wake source `n`, for 64 to 69 and 71 (R477, R488). -/
def wakeRequest (s : State) (n : Nat) : Bool :=
  if n < 68 then wakeIsLevel s (ix 4 (n - 64)) && wakeLevel s (ix 4 (n - 64))
  else match n with
    | 68 => alarmUp s
    | 69 => s.power.twMatch
    | 71 => s.power.listener
    | _ => false

/-- Source `n` requests (R477): its condition holds, or its latch is set. -/
def requests (s : State) (n : Fin 160) : Bool :=
  s.ic.sources[n].latch || (sourceFlags n.val).any (fun x => flagsUp s x.1 x.2) ||
  (decide (64 ≤ n.val ∧ n.val ≤ 71) && wakeRequest s n.val)

/-- Source `n` is pending: it requests and is not in service (R477, R483). -/
def isPending (s : State) (n : Fin 160) : Bool := requests s n && s.ic.sources[n].service.isNone

/-- Change source `n`. -/
def updSource (n : Fin 160) (f : IntSource → IntSource) (s : State) : State :=
  { s with ic := { s.ic with sources := upd s.ic.sources n f } }

/-- An arrival strobe: it counts while the source is pending or in service in `before` (R487). -/
def arrive (before : State) (n : Fin 160) (s : State) : State :=
  if isPending before n || before.ic.sources[n].service.isSome then
    updSource n (fun x => { x with arrivals := satAdd 15 x.arrivals 1 }) s
  else s

/-- Set the latch of a latched source, or count the arrival (R477, R485, R487). -/
def setLatch (n : Fin 160) (s : State) : State := arrive s n (updSource n (fun x => { x with latch := true }) s)

/-- FAULT_N is to be low (R275). -/
def faultCond (s : State) : Bool :=
  !(s.rbit (.al .FCTL) 0 0) || (s.reg (.al .FSTAT) &&& s.reg (.al .FMASK) &&& 0xFFFF) != 0 || s.rbit (.al .FCTL) 0 1

/-- FAULT_N goes low when a condition of R275 comes to hold; its release is FAULT_PIN_RELEASE. -/
def faultPin (s : State) : State :=
  if faultCond s && !s.safety.pinLow then { s with safety := { s.safety with pinLow := true, lowSince := s.now } } else s

/-- TW_NSRC (R409): SW and NEW are stored, the other bits follow their sources. -/
def twSources (s : State) : Word :=
  (s.reg (.tw .NSRC) &&& 0x60) ||| at_ (b2n (s.reg (.ds .EVENTS) != 0)) 4 ||| at_ (b2n (s.rbit (.tw .STAT) 0 0)) 3 |||
  at_ (b2n s.safety.pinLow) 2 ||| at_ (b2n (s.rbit (.rk .CnSTAT) 1 31 && !(s.rbit (.hp .CFG) 0 29))) 1 |||
  at_ (b2n (s.rbit (.rk .CnSTAT) 0 31)) 0

/-- TW_NSRC AND TW_NMASK is not 0. -/
def twLevel (s : State) : Bool := (twSources s &&& s.reg (.tw .NMASK) &&& 0x7F) != 0

/-- Host Notify becomes pending when the two-wire notify level has risen since `before` (R409). -/
def twNotice (before s : State) : State :=
  if s.rbit (.tw .CFG) 0 30 && !(twLevel before) && twLevel s && !s.tw.notify then
    { s with tw := { s.tw with notify := true, tries := 0 } }
  else s

/-- Set stored bits, as the hub does when it raises a flag: FAULT_N, the notify level and the arrival counter of the
source that the flag feeds follow (R275, R409, R487). A hub setting wins over a clear at the same edge (R9), because the
clear is applied first. -/
def State.orReg (s : State) (r : Reg) (u : Nat) (m : Nat) : State :=
  let t := twNotice s (faultPin (s.setReg r u (s.reg r u ||| BitVec.ofNat 32 m)))
  match flagSource s r u with
  | some (n, mask) => if m &&& mask = 0 then t else arrive s (ix 160 n) t
  | none => t

/-- Set AL_FSTAT bits (R276). -/
def fstat (m : Nat) (s : State) : State := s.orReg (.al .FSTAT) 0 m

/-- Set field `[hi:lo]` of a register. -/
def State.setFld (s : State) (r : Reg) (u hi lo v : Nat) : State := s.setReg r u (putFld (s.reg r u) hi lo v)

/-- A counter field of a register plus `n`, saturating at the field's maximum. -/
def State.countFld (s : State) (r : Reg) (u hi lo n : Nat) : State :=
  s.setFld r u hi lo (satAdd (2 ^ (hi + 1 - lo) - 1) (s.rfld r u hi lo) n)

/-- What a write of `v` leaves in stored bits `old`, by the access types of R7: RW bits take the value, W1C bits are
cleared by 1, W1S bits are set by 1, RWS bits take the value from a secure owner, and every other bit keeps its value
(R6, R8). -/
def applyWrite (i : RegInfo) (secure : Bool) (old v : Word) : Word :=
  let rw : Word := BitVec.ofNat 32 (if secure then i.rw ||| i.rws else i.rw)
  let w1c : Word := BitVec.ofNat 32 i.w1c
  let w1s : Word := BitVec.ofNat 32 i.w1s
  (((old &&& ~~~rw) ||| (v &&& rw)) &&& ~~~(v &&& w1c)) ||| (v &&& w1s)

/-- A write that only follows the access types. -/
def State.plainWrite (s : State) (secure : Bool) (r : Reg) (u : Nat) (v : Word) : State :=
  s.setReg r u (applyWrite r.info secure (s.reg r u) v)

/-- The read-clear of R7: the RC bits of the register become 0. The debug port clears nothing (R10). -/
def State.readClear (s : State) (a : Accessor) (r : Reg) (u : Nat) : State :=
  if a = .debug then s else s.clrReg r u r.info.rc

/-! ### Accessors -/


/-- Number of an accessor, in the order of R41. -/
def accIx : Accessor → Fin 6
  | .a0 => 0 | .a1 => 1 | .vane => 2 | .host => 3 | .twoWire => 4 | .debug => 5

/-- The accessor's unit in a register that exists once per accessor (R37, R38). -/
def accU (a : Accessor) : Nat := (accIx a).val

/-- Record the answer of an accessor's access. -/
def State.answer (s : State) (a : Accessor) (w : Answer) : State :=
  { s with acc := upd s.acc (accIx a) (fun x => { x with answer := w }) }

/-- An access that waits for a domain (R35). -/
def State.stall (s : State) (a : Accessor) (x : Access) : State :=
  { s with acc := upd s.acc (accIx a) (fun _ => { answer := .stalled, stalled := some x }) }

/-! ### Free values -/

/-- Draw a free value: a value the spec leaves open and that nothing in the model constrains. The counter of draws
advances, so that every draw is another value. -/
def State.free (w : Nat) (s : State) : BitVec w × State :=
  (Config.freeValue w s.freeCount, { s with freeCount := s.freeCount + 1 })

/-- BUSCLK runs, so blocks clocked by it work (R13). -/
def State.busRuns (s : State) : Bool := s.clk.busOn

end Sys2Proof.Machine
end

