-- ==== Sys2Proof/Machine/Access.lean ====
section
/-! DEFINITION. Who may reach which block: the Vane's view (R36), blocks whose power domain is off (R35), secure
accessors (R546), and the select and holding registers that exist once per accessor (R37, R38, R43). -/
namespace Sys2Proof.Machine

/-- The accessor is a secure accessor (R546): the Vane always, A0 until SECLOCK is set. -/
def secure (a : Accessor) (s : State) : Bool :=
  match a with
  | .vane => true
  | .a0 => !(s.rbit (.se .SECCTL) 0 31)
  | _ => false

/-- The block is in the Vane domain: its AL_ and VN_ registers work in Lull (R36, R492). -/
def inVaneDomain : Reg → Bool
  | .al _ => true
  | .vn _ => true
  | _ => false

/-- The Vane sees the block in Gale and Breeze (R36). -/
def vaneSees : Reg → Bool
  | .pw _ => true
  | .ev _ => true
  | .tm _ => true
  | .ic _ => true
  | .rk _ => true
  | .ds _ => true
  | .db _ => true
  | .se _ => true
  | .al _ => true
  | .vn _ => true
  | _ => false

/-- On-demand domains, in the bit order of PW_DOMCTL.AUTO (R495). -/
def domNvm : Fin 5 := 0
def domEnc : Fin 5 := 1
def domFab : Fin 5 := 2
def domLink (b : Nat) : Fin 5 := if b = 0 then 3 else 4

/-- The on-demand domain that a register write needs (R495): an NV_ command that reaches the flash, or a write to the
SE_ mailbox. A loader command or a DB_PHYCFG.EN write does not stall. -/
def needsDomain : Reg → Option (Fin 5)
  | .nv .CMD => some domNvm
  | .se _ => some domEnc
  | _ => none

/-- What stands between an accessor and a register. -/
inductive Gate where
  | ok | busError | stall
  deriving DecidableEq, Repr

/-- The Vane outside its view gets a bus error (R36); a block whose domain is off stalls the accessor (R35). -/
def gate (a : Accessor) (r : Reg) (isWrite : Bool) (s : State) : Gate :=
  if a = .vane ∧ !(vaneSees r) then .busError
  else if inVaneDomain r then (if s.power.vaneOn then .ok else .stall)
  else if a = .vane ∧ !s.clk.busOn then .busError
  else if !s.clk.busOn then .stall
  else match (if isWrite then needsDomain r else none) with
    | some d => if s.power.dom[d] then .ok else .stall
    | none => .ok

/-- The part of an accepted write whose work waits, with the tag of what it waits for (R495, R499): new work of a parked
block, or a loader command while the Coachwork domain is off. The rest of the write acts at once. Log entry 42. -/
def postponed (r : Reg) (v : Word) (s : State) : Nat × Word :=
  let park (code : Nat) (work : Word) : Nat × Word := (code, if (s.power.parked)[code]! then work else 0)
  match r with
  | .ln .CMD => park 1 (v &&& 6)
  | .ln .PCMD => park 1 v
  | .cw .TSTART => park 3 v
  | .cw .PCMD => park 3 v
  | .cw .LDCMD =>
    if fld v 3 0 = 5 then (3, 0)
    else if (s.power.parked)[3] then (3, v)
    else (32 + domFab.val, if s.power.dom[domFab] then 0 else v)
  | .ds .CMD => park 4 (if fld v 31 28 = 1 ∨ fld v 31 28 = 2 ∨ fld v 31 28 = 4 then v else 0)
  | .sp .PCMD => park 10 v
  | .sp .FCMD => park 10 (if fld v 31 28 = 5 then 0 else v)
  | .tm .CMD => park 12 (if bit v 1 then 0 else v &&& 1)
  | .tm .GSTART => park 12 v
  | .nv .CMD => park 14 (if fld v 31 28 = 6 then 0 else v)
  | .se .CMD => park 15 v
  | _ => (0, 0)

/-- The select register that a register's set is reached through. -/
def selectReg : Reg → Option Reg
  | .ln _ => some (.ln .SEL)
  | .ds _ => some (.ds .SEL)
  | .tm _ => some (.tm .SEL)
  | .sp _ => some (.sp .SEL)
  | .ev _ => some (.ev .SEL)
  | _ => none

/-- Put a write on the waiting list, with the select register as it stands. -/
def postpone (a : Accessor) (r : Reg) (tag : Nat) (x : Access) (s : State) : State :=
  let sel : Word := match selectReg r with
    | some q => s.reg q (accU a)
    | none => 0
  { s with power := { s.power with waiting := s.power.waiting ++ [{ tag := tag, acc := a, sel := sel, access := x }] } }

/-- A register write by an accessor: `eff` is the block's meaning of a written value. A bus error has no effect; a write to
a domain that is off waits (`x` is the access that STALLED_ACCESS_COMPLETE performs). -/
def regWrite (a : Accessor) (r : Reg) (x : Access) (eff : Word → State → State) (s : State) : State :=
  let v := x.write.getD 0
  match gate a r true s with
  | .ok =>
    let (tag, later) := postponed r v s
    if later = 0 then (eff v s).answer a .done
    else
      let rest := v &&& ~~~later
      let s := postpone a r tag { x with write := some later } s
      ((if rest = 0 then s else eff rest s)).answer a .done
  | .busError => s.answer a .busError
  | .stall => s.stall a x

/-- A register read by an accessor: `eff` gives the value and the state after the read's own effects. -/
def regRead (a : Accessor) (r : Reg) (x : Access) (eff : State → Word × State) (s : State) : State :=
  match gate a r false s with
  | .ok => let (w, t) := eff s; t.answer a (.data w)
  | .busError => s.answer a .busError
  | .stall => s.stall a x

/-- Base address of each block (R33); the drawbar blocks are `0x10000` apart. -/
def blockBase (r : Reg) (bus : Nat) : Nat :=
  match r with
  | .pw _ => 0x40000000
  | .ln _ => 0x40010000
  | .ca _ => 0x40020000
  | .cw _ => 0x40030000
  | .ds _ => 0x40038000
  | .rk _ => 0x40040000
  | .db _ => 0x40050000 + 0x10000 * bus
  | .hp _ => 0x40070000
  | .tw _ => 0x40080000
  | .sp _ => 0x40090000
  | .ev _ => 0x400A0000
  | .tm _ => 0x400B0000
  | .ic _ => 0x400C0000
  | .nv _ => 0x400D0000
  | .se _ => 0x400E0000
  | .al _ => 0x400F0000
  | .vn _ => 0x40100000

/-- Address of entry `i` of a register. -/
def regAddr (r : Reg) (i : Nat := 0) (bus : Nat := 0) : Nat := blockBase r bus + r.info.off + r.info.stride * i

/-- The access record of a 32-bit write. -/
def wr (r : Reg) (v : Word) (i : Nat := 0) (bus : Nat := 0) : Access :=
  { addr := regAddr r i bus, size := 4, write := some v }

/-- The access record of a 32-bit read. -/
def rd (r : Reg) (i : Nat := 0) (bus : Nat := 0) : Access := { addr := regAddr r i bus, size := 4, write := none }

/-! ### Selects and holding registers -/

/-- The accessor's own copy of a select register (R37). -/
def selOf (r : Reg) (a : Accessor) (s : State) : Nat := (s.reg r (accU a)).toNat

/-- A write of a select register: a field value outside `[lo, hi]` is ignored (R43); reserved bits are ignored (R6). -/
def writeSel (r : Reg) (a : Accessor) (lo hi : Nat) (v : Word) (s : State) : State :=
  let w := v &&& BitVec.ofNat 32 r.info.rw
  if lo ≤ w.toNat ∧ w.toNat ≤ hi then s.setReg r (accU a) w else s

/-- Snapshot a high word into the accessor's holding register (R38). -/
def snapshot (r : Reg) (a : Accessor) (w : Word) (s : State) : State := s.setReg r (accU a) w

/-- Unit of an accessor's holding copy beside a register whose unit 0 is the register itself. -/
def holdU (a : Accessor) : Nat := 8 + accU a

/-- Every unit of the register file that belongs to one accessor: its select and holding registers (R37, R38, R475). -/
def accessorUnits (a : Accessor) : List (Reg × Nat) :=
  let u := accU a
  [(.ln .SEL, u), (.ds .SEL, u), (.tm .SEL, u), (.sp .SEL, u), (.ev .SEL, u), (.db .ASEL, u), (.db .ASEL, 6 + u),
   (.cw .TMEMH, u), (.cw .ACCH, u), (.ds .POSH, u), (.tm .CAPSTH, u), (.ev .LASTINF, 64 + u), (.rk .OLDH, u),
   (.rk .SWD2, u), (.rk .SWD3, u), (.al .LOGD0, u), (.al .LOGD1, u), (.pw .STAMPH, u), (.nv .UIDH, u),
   (.hp .SYNCH, holdU a), (.tw .SYNCH, holdU a), (.vn .ALARMH, holdU a)] ++
  (List.range 2).flatMap (fun b =>
    (List.range 8).map (fun i => ((Reg.db .ACMD), (b * 6 + u) * 8 + i)) ++
    (List.range 16).map (fun i => ((Reg.db .AR), (b * 6 + u) * 16 + i)))

/-- An accessor's select and holding registers take their reset values (R475). -/
def resetAccessor (a : Accessor) (s : State) : State :=
  (accessorUnits a).foldl (fun s x => s.setReg x.1 x.2 (x.1.resetVal x.2)) s

end Sys2Proof.Machine
end

