-- ==== Sys2Proof/Machine/Merger.lean ====
section
/-! DEFINITION. Records: how a block hands a record to the merger, the class fronts, the recovery hold, the batch queue
and its cursors (chapter 07). -/
namespace Sys2Proof.Machine

/-! ### Record bodies -/

/-- Source codes of R236. -/
def srcTrain (n : Nat) : Nat := 0x20 + n
def srcSlot (n : Nat) : Nat := 0x40 + n
def srcBus (b : Nat) : Nat := 0x60 + b
def srcRecords : Nat := 0x70
def srcChannel (c : Nat) : Nat := 0x80 + c
def srcProfile (p : Nat) : Nat := 0xC0 + p
def srcAll : Nat := 0xFF

/-- Record type codes of R235. -/
def tSamples : Nat := 0x01
def tMeasure : Nat := 0x02
def tEvent : Nat := 0x03
def tGap : Nat := 0x04
def tEpoch : Nat := 0x05
def tLaneSubst : Nat := 0x06
def tCarriageSubst : Nat := 0x07
def tStaleBegin : Nat := 0x08
def tStaleEnd : Nat := 0x09
def tCalDone : Nat := 0x0A
def tLinkMsg : Nat := 0x0B
def tLinkLost : Nat := 0x0C
def tOverflow : Nat := 0x0D
def tService : Nat := 0x0E

/-- Words 2 to 5 of a GAP (R239). END equals START when OPEN is set. -/
def gapBody (cause stream : Nat) (isOpen moved : Bool) (start stop : Stamp) : List Word :=
  let e := if isOpen then start else stop
  [at_ cause 28 ||| at_ stream 26 ||| at_ (b2n isOpen) 25 ||| at_ (b2n moved) 24,
   stLo start, stLo e, at_ (stHi start) 16 ||| at_ (stHi e) 0]

/-- A record reaches the merger (R243). -/
def emit (cls : RecClass) (typ source : Nat) (stamp : Stamp) (body : List Word) (s : State) : State :=
  { s with merger := { s.merger with arriving := s.merger.arriving ++
      [{ cls := cls, typ := typ, source := source, stamp := stamp, body := body, now := false }] } }

/-! ### Almanac entries -/

/-- Codes of almanac SOURCE beyond the record sources (R267). -/
def almVane : Nat := 0xE2
def almEnclave : Nat := 0xE3
def almPower : Nat := 0xE4
def almNvm : Nat := 0xE5
def almSafety : Nat := 0xE6
def almRecords : Nat := 0xE7

/-- The hub makes an almanac entry, stamped at the edge of its event (R268); the writer takes it later. -/
def almanac (code cls source data : Nat) (s : State) : State :=
  { s with safety := { s.safety with pending := s.safety.pending ++
      [{ stamp := s.now, code := code, cls := cls, source := source, data := data }] } }

/-! ### Fronts and recovery holds -/

/-- The acquisition front before the recovery hold: T minus RK_HORIZON.TICKS (R242). -/
def plainFront (s : State) : Stamp := stSub s.now (s.rfld (.rk .HORIZON) 0 17 0)

/-- The acquisition front, held at or below the stamp of every recovery hold (R242, R245). -/
def acqFront (s : State) : Stamp := s.merger.holds.foldl (fun f h => stMin f h.stamp) (plainFront s)

/-- The front of a class (R242). -/
def front (s : State) : RecClass → Stamp
  | .acq => acqFront s
  | .link => stSub s.now 384000
  | .sys => s.now

/-- Declare a recovery (R245): its GAP's stamp word is fixed at the later of START and the present front, and the
acquisition front is held there until the GAP, and the substitution record where there is one, has arrived. -/
def declareHold (source stream : Nat) (start : Stamp) (withSubst : Bool) (s : State) : State :=
  let f := acqFront s
  let moved := stLt start f
  let h : RecoveryHold := { source := source, stream := stream, stamp := stMax start f, start := start, moved := moved,
                            needGap := true, needSubst := withSubst }
  let s := { s with merger := { s.merger with holds := s.merger.holds ++ [h] } }
  if moved then s.orReg (.rk .STAT) 0 (2 ^ 3) else s

/-- Emit the GAP of a declared recovery, with the stamp word its hold fixed (R245). Without a hold it is stamped at
START. -/
def emitGap (cause source stream : Nat) (isOpen : Bool) (start stop : Stamp) (s : State) : State :=
  match s.merger.holds.find? (fun h => h.source == source && h.stream == stream && h.needGap) with
  | some h => emit .acq tGap source h.stamp (gapBody cause stream isOpen h.moved h.start stop) s
  | none => emit .acq tGap source start (gapBody cause stream isOpen false start stop) s

/-- Drop a declared recovery that turns out to lose nothing (R108). -/
def dropHold (source stream : Nat) (s : State) : State :=
  { s with merger := { s.merger with
      holds := s.merger.holds.filter (fun h => !(h.source == source && h.stream == stream)) } }

/-- What the arrival of a record does to the recovery holds: its GAP or its substitution record satisfies them. -/
def satisfyHolds (r : Rec) (hs : List RecoveryHold) : List RecoveryHold :=
  let hit (h : RecoveryHold) : RecoveryHold :=
    if h.source != r.source then h
    else if r.typ == tGap && h.stream == fld (r.body.headD 0) 27 26 then { h with needGap := false }
    else if r.typ == tLaneSubst || r.typ == tCarriageSubst then { h with needSubst := false }
    else h
  (hs.map hit).filter (fun h => h.needGap || h.needSubst)

/-! ### Judgement and writing -/

/-- The outlet stream a record names, for train sources; 0 otherwise (R239). -/
def streamOf (r : Rec) : Nat :=
  if 0x20 ≤ r.source ∧ r.source ≤ 0x2F then
    (if r.typ = tMeasure then fld (r.body.headD 0) 31 30 else fld (r.body.headD 0) 27 26)
  else 0

/-- Judge one arriving record against its class's front (R244). A late acquisition or link record is dropped and
counted, and a GAP with CAUSE 6, stamped at the front, takes its place. -/
def judge (r : Rec) (s : State) : State :=
  let f := front s r.cls
  let s := { s with merger := { s.merger with holds := satisfyHolds r s.merger.holds } }
  if r.cls ≠ .sys ∧ stLt r.stamp f then
    let g : Rec := { cls := r.cls, typ := tGap, source := r.source, stamp := f, now := true,
                     body := gapBody 6 (streamOf r) false false r.stamp (stAdd r.stamp 1) }
    let s := { s with merger := { s.merger with held := s.merger.held ++ [g] } }
    (s.countFld (.rk .LATE) 0 15 0 1).orReg (.rk .STAT) 0 (2 ^ 4)
  else { s with merger := { s.merger with held := s.merger.held ++ [r] } }

/-- Base address of the batch queue ring and its length in words (R249). -/
def queueBase : Nat := 0x200C0000
def queueWords : Nat := 65536

/-- Cursor `c` is enabled (RK_CnCTRL.EN). -/
def cursorOn (s : State) (c : Fin 4) : Bool := s.rbit (.rk .CnCTRL) c.val 31

/-- Free words of the queue: what the slowest enabled cursor leaves (R250). -/
def queueFree (s : State) : Nat :=
  queueWords - (List.finRange 4).foldl (fun m c => if cursorOn s c then max m s.merger.cursors[c].avail else m) 0

/-- The header word of a record (R234). -/
def header (typ len source seq : Nat) : Word := at_ typ 26 ||| at_ len 20 ||| at_ source 12 ||| at_ (seq % 4096) 0

/-- Next number of a source (R237). -/
def seqOf (s : State) (source : Nat) : Nat := Sparse.get (fun _ => 0) s.merger.seqs source

/-- Enabled cursors whose unread words are the most: they hold the queue full (OVERFLOW.CURSORS). -/
def fullCursors (s : State) : Nat :=
  (List.finRange 4).foldl (fun m c =>
    m + b2n (cursorOn s c && queueWords - s.merger.cursors[c].avail == queueFree s) * 2 ^ c.val) 0

/-- Write ring words from index `i` (the ring wraps). -/
def State.writeQueue (s : State) (i : Nat) : List Word → State
  | [] => s
  | w :: ws => (s.writeWord (queueBase + 4 * (i % queueWords)) w).writeQueue (i + 1) ws

/-- Discard a record that falls due in overflow (R255 steps 1 and 2). -/
def discardRec (r : Rec) (s : State) : State :=
  let n := r.body.length + 2
  let o : Overflow := match s.merger.overflow with
    | some o => { o with records := satAdd (2 ^ 32 - 1) o.records 1, words := satAdd (2 ^ 28 - 1) o.words n,
                         lo := stMin o.lo r.stamp, hi := stMax o.hi r.stamp, cursors := o.cursors ||| fullCursors s }
    | none => { records := 1, words := n, lo := r.stamp, hi := r.stamp, cursors := fullCursors s }
  let s := { s with merger := { s.merger with overflow := some o } }
  let s := s.setReg (.rk .OVCNT) 0 (BitVec.ofNat 32 (satAdd (2 ^ 32 - 1) (s.reg (.rk .OVCNT)).toNat 1))
  s.orReg (.rk .STAT) 0 (2 ^ 5)

/-- Number a record and write it into the batch queue; every enabled cursor has its words unread (R237, R243). -/
def putRec (r : Rec) (s : State) : State :=
  let n := r.body.length + 2
  let q := seqOf s r.source
  let s := s.writeQueue s.merger.head (header r.typ n r.source q :: stLo r.stamp :: r.body)
  let cs := (List.finRange 4).foldl (fun v c =>
    if cursorOn s c then upd v c (fun x => { x with avail := x.avail + n }) else v) s.merger.cursors
  { s with merger := { s.merger with
      seqs := Sparse.set (fun _ => 0) s.merger.seqs r.source ((q + 1) % 4096)
      head := (s.merger.head + n) % queueWords
      newest := r.stamp
      epochHigh := if r.typ == tEpoch then fld (r.body.headD 0) 15 0 else s.merger.epochHigh
      cursors := cs } }

/-- Write one due record, or discard it in overflow (R255). The flag says whether it was written. -/
def writeRec (r : Rec) (s : State) : Bool × State :=
  if s.merger.overflow.isSome || decide (queueFree s < r.body.length + 2) then (false, discardRec r s)
  else (true, putRec r s)

/-- Which of two held records is written first: by stamp, then by source code, then by arrival (R243). -/
def recBefore (a b : Rec) : Bool :=
  stLt a.stamp b.stamp || (a.stamp == b.stamp && decide (a.source < b.source))

/-- Insert into a list in writing order, behind its equals. -/
def insRec (r : Rec) : List Rec → List Rec
  | [] => [r]
  | x :: xs => if recBefore r x then r :: x :: xs else x :: insRec r xs

/-- Records in writing order (R243). -/
def sortRecs (rs : List Rec) : List Rec := rs.foldl (fun acc r => insRec r acc) []

/-- A held record is kept behind the epoch barrier (R246). -/
def behindBarrier (s : State) (r : Rec) : Bool :=
  match s.merger.barrier with
  | some b => stLe b r.stamp
  | none => false

/-- A held record is due (R242, R243): below its class's front; a system record at once; a late record's GAP now. -/
def dueRec (s : State) (r : Rec) : Bool :=
  !behindBarrier s r && (r.now || r.cls == .sys || stLt r.stamp (front s r.cls))

/-- Write a list of records in turn, collecting the types written. -/
def writeAll : List Rec → State → List Nat × State
  | [], s => ([], s)
  | r :: rs, s =>
    let (w, s) := writeRec r s
    let (ts, s) := writeAll rs s
    (if w then r.typ :: ts else ts, s)

/-- The EPOCH record with the high bits of a stamp (R26, R239). -/
def epochRec (t : Stamp) : Rec :=
  { cls := .sys, typ := tEpoch, source := srcRecords, stamp := t, body := [at_ (stHi t) 0], now := false }

/-- An all-sources GAP (R236). -/
def allGap (cause : Nat) (t start stop : Stamp) : Rec :=
  { cls := .sys, typ := tGap, source := srcAll, stamp := t, body := gapBody cause 0 false false start stop, now := false }

/-- The cursors that have a note event after an edge that wrote records of the given types (R254). -/
def noteCursors (s : State) (types : List Nat) : List (Fin 4) :=
  (List.finRange 4).filter (fun c =>
    !types.isEmpty && cursorOn s c &&
    ((s.rfld (.rk .CnWMARK) c.val 16 0 != 0 && s.merger.cursors[c].avail ≥ s.rfld (.rk .CnWMARK) c.val 16 0) ||
     types.any (fun t => decide (t ≤ 14) && s.rbit (.rk .CnCTRL) c.val t)))

/-- Set NOTE of the cursors that have a note event (R254). -/
def setNotes (cs : List (Fin 4)) (s : State) : State := cs.foldl (fun s c => s.orReg (.rk .CnSTAT) c.val (2 ^ 31)) s

/-! ### Cursors -/

/-- The queue word at ring index `i`. -/
def queueWord (s : State) (i : Nat) : Word := s.readWord (queueBase + 4 * (i % queueWords))

/-- Length in words of the record at ring index `i`. -/
def recLen (s : State) (i : Nat) : Nat := fld (queueWord s i) 25 20

/-- High bits in force after the record at index `i` (R247). -/
def highAfter (s : State) (i high : Nat) : Nat :=
  if fld (queueWord s i) 31 26 == tEpoch then fld (queueWord s (i + 2)) 15 0 else high

/-- Acknowledge `n` bytes at a cursor (R251): whole records are passed, and the rest is the offset in the record that
follows. `fuel` bounds the records passed. -/
def advance (s : State) : Nat → Nat → Cursor → Cursor
  | 0, _, c => c
  | fuel + 1, n, c =>
    if c.avail = 0 then c
    else
      let len := recLen s c.index
      if len = 0 then c
      else if 4 * len ≤ c.offset + n then
        advance s fuel (c.offset + n - 4 * len)
          { c with index := (c.index + len) % queueWords, offset := 0, avail := c.avail - len,
                   high := highAfter s c.index c.high }
      else { c with offset := c.offset + n }

/-- Acknowledge `n` bytes on cursor `c`. -/
def ackBytes (c : Fin 4) (n : Nat) (s : State) : State :=
  { s with merger := { s.merger with cursors := upd s.merger.cursors c (advance s (queueWords + 1) n) } }

/-- Set an enabled cursor to the queue head with offset 0 (R250). -/
def cursorToHead (c : Fin 4) (s : State) : State :=
  { s with merger := { s.merger with cursors := upd s.merger.cursors c (fun x =>
      { x with index := s.merger.head, offset := 0, avail := 0, high := s.merger.epochHigh }) } }

/-- A number of words from a cursor's position ends at a record boundary (R253). -/
def endsAtRecord (s : State) : Nat → Nat → Nat → Bool
  | _, _, 0 => true
  | 0, _, _ => false
  | fuel + 1, i, n =>
    let len := recLen s i
    if len = 0 || decide (n < len) then false else endsAtRecord s fuel (i + len) (n - len)

/-- The stamp of the oldest record unread by any enabled cursor (RK_OLDL, RK_OLDH); 0 when nothing is unread. -/
def oldestUnread (s : State) : Stamp :=
  let slow := (List.finRange 4).foldl (fun (m : Option Cursor) c =>
    if cursorOn s c && s.merger.cursors[c].avail != 0 then
      match m with
      | none => some s.merger.cursors[c]
      | some x => if x.avail < s.merger.cursors[c].avail then some s.merger.cursors[c] else m
    else m) none
  match slow with
  | none => 0
  | some c =>
    BitVec.ofNat 48 (highAfter s c.index c.high * 2 ^ 32 + (queueWord s (c.index + 1)).toNat)

/-- Every cursor that is enabled has unread records on at least one of them (R257). -/
def anyUnread (s : State) : Bool :=
  (List.finRange 4).any (fun c => cursorOn s c && s.merger.cursors[c].avail != 0)

end Sys2Proof.Machine
end

