-- ==== Sys2Proof/Machine/Router.lean ====
section
/-! DEFINITION. Publishing on the event router: publishing edge, hop count, and the publication in flight (R427 to
R432, R439, R441). Delivery is in Delivery.lean. -/
namespace Sys2Proof.Machine

/-- Producer codes of R441. -/
def prLane : Nat := 1
def prTrain : Nat := 2
def prSlot : Nat := 3
def prTimer : Nat := 4
def prBus : Nat := 5
def prProfile : Nat := 6
def prRecords : Nat := 7

/-- The producer's clock is BUSCLK (R441): all but trains (FABCLK) and drawbar buses (LINKCLK). -/
def busProducer (code : Nat) : Bool := code != prTrain && code != prBus

/-- Hop count of an output of a producer instance published now (R432). Trains have no task inputs. -/
def hopOf (code inst : Nat) (s : State) : Nat :=
  if code = prTrain then 0
  else match s.router.last.find? (fun e => e.1 == code * 64 + inst) with
    | some (_, l) => if s.clk.edge - l.edge ≤ 4 then l.hop + 1 else 0
    | none => 0

/-- Entry EV_PUBk of channel `c`, enabled and naming this output. -/
def pubMatches (s : State) (c : Fin 64) (k code inst output : Nat) : Bool :=
  let w := s.reg (.ev .PUB) (c.val * 8 + k)
  bit w 31 && fld w 23 16 == code && fld w 15 8 == inst && fld w 7 0 == output

/-- Add a publication in flight with E at the present edge. -/
def enqueuePub (p : Publication) (s : State) : State :=
  { s with router := { s.router with inflight := s.router.inflight ++ [p] } }

/-- The publication of an output, on channel `c` where the block holds the binding. -/
def mkPub (c : Option (Fin 64)) (code inst output order : Nat) (s : State) : Publication :=
  { channel := c, edge := s.clk.edge, busClass := busProducer code, hop := hopOf code inst s, sw := false,
    producer := code, inst := inst, output := output, order := order, busServed := false }

/-- The channels and entries whose router publisher is this output. -/
def pubEntries (s : State) (code inst output : Nat) : List (Fin 64 × Nat) :=
  (List.finRange 64).flatMap (fun c =>
    ((List.range 4).filter (fun k => pubMatches s c k code inst output)).map (fun k => (c, k)))

/-- A producer asserts an output: at its delivery edge every router publisher entry that names it publishes on its
channel (R440). -/
def publish (code inst output : Nat) (s : State) : State := enqueuePub (mkPub none code inst output 0 s) s

/-- A block-held publisher publishes on one channel (R427). -/
def publishOn (c : Fin 64) (code inst output : Nat) (s : State) : State :=
  enqueuePub (mkPub (some c) code inst output 4 s) s

/-- A software publication: hop 0, no producer (R439). -/
def publishSw (c : Fin 64) (s : State) : State :=
  enqueuePub { channel := some c, edge := s.clk.edge, busClass := true, hop := 0, sw := true, producer := 0, inst := 0,
               output := 0, order := 5, busServed := false } s

/-- The consumer that a channel owner code names: 0 A0, 1 A1, 2 the Vane, 3 the enclave (EV_CCFG.OWNER). -/
def isOwner (a : Accessor) (code : Nat) : Bool :=
  match a with
  | .a0 => code == 0
  | .a1 => code == 1
  | .vane => code == 2
  | _ => false

/-- The accessor may write the channel's registers, clear its SEEN bit and publish on it (R438, R547). -/
def mayWriteChannel (a : Accessor) (c : Fin 64) (s : State) : Bool :=
  let w := s.reg (.ev .CCFG) c.val
  isOwner a (fld w 31 30) && (!(bit w 29) || secure a s)

/-- Set EV_STAT.OWNERR (R438). -/
def ownErr (s : State) : State := s.orReg (.ev .STAT) 0 1

end Sys2Proof.Machine
end

