-- ==== Sys2Proof/Machine/Timers.lean ====
section
/-! DEFINITION. Timers and capture (chapter 14): counting, compares, reload, capture, output and events. A wrap's slot
boundary (R324) is added in Drawbar.lean. -/
namespace Sys2Proof.Machine

/-- Change timer `n`. -/
def updTimer (n : Fin 16) (f : Timer → Timer) (s : State) : State := { s with timers := upd s.timers n f }

/-- Set flag bits of TM_STAT[7:0]. -/
def timerFlag (n : Fin 16) (m : Nat) (s : State) : State := s.orReg (.tm .STAT) n.val m

/-- Apply one output action: 0 none, 1 set, 2 clear, 3 toggle (R464). -/
def outAction (n : Fin 16) (act : Nat) (s : State) : State :=
  let w := s.reg (.tm .OUT) n.val
  match act with
  | 1 => s.setReg (.tm .OUT) n.val (putBit w 31 true)
  | 2 => s.setReg (.tm .OUT) n.val (putBit w 31 false)
  | 3 => s.setReg (.tm .OUT) n.val (putBit w 31 (!(bit w 31)))
  | _ => s

/-- P, the prescale of a timer (R448). -/
def prescale (s : State) (n : Fin 16) : Nat := s.rfld (.tm .CFG) n.val 23 16 + 1

/-- Compare A fires: its flag, its action and its publication (R453, R464, R466). -/
def fireA (n : Fin 16) (s : State) : State :=
  let s := timerFlag n (2 ^ 4) (updTimer n (fun t => { t with aFired := true }) s)
  publish prTimer n.val 0 (outAction n (s.rfld (.tm .OUT) n.val 7 6) s)

/-- Compare B fires. -/
def fireB (n : Fin 16) (s : State) : State :=
  let s := timerFlag n (2 ^ 5) (updTimer n (fun t => { t with bFired := true }) s)
  publish prTimer n.val 1 (outAction n (s.rfld (.tm .OUT) n.val 5 4) s)

/-- Judge the value of compare A against the present count, as a compare write of a running timer (R454). -/
def judgeA (n : Fin 16) (s : State) : State :=
  let t := s.timers[n]
  let v := s.reg (.tm .CMPA) n.val
  if !t.run || t.aFired then s
  else if v ≤ t.count then fireA n s
  else if t.reload < v then timerFlag n (2 ^ 1) s
  else s

/-- Judge compare B (R454). -/
def judgeB (n : Fin 16) (s : State) : State :=
  let t := s.timers[n]
  let v := s.reg (.tm .CMPB) n.val
  if !t.run || t.bFired then s
  else if v ≤ t.count then fireB n s
  else if t.reload < v then timerFlag n (2 ^ 1) s
  else s

/-- RELOAD takes a value; UNREACH if a compare lies above it (R455). -/
def takeReload (n : Fin 16) (v : Word) (s : State) : State :=
  let s := updTimer n (fun t => { t with reload := v, pend := false }) s
  if v < s.reg (.tm .CMPA) n.val ∨ v < s.reg (.tm .CMPB) n.val then timerFlag n (2 ^ 1) s else s

/-- Apply a pending buffered RELOAD (R451, R458). -/
def applyPending (n : Fin 16) (s : State) : State :=
  if s.timers[n].pend then takeReload n (s.reg (.tm .RELOAD) n.val) s else s

/-- CLEAR (R451). -/
def timerClear (n : Fin 16) (s : State) : State :=
  applyPending n (updTimer n (fun t => { t with count := 0, pre := 0, aFired := false, bFired := false, due := false }) s)

/-- START (R449, R456): both compares are judged with the held count, then the START action applies. -/
def timerStart (n : Fin 16) (s : State) : State :=
  if s.timers[n].run then s
  else
    let s := judgeB n (judgeA n (updTimer n (fun t => { t with run := true, pre := 0, due := false }) s))
    outAction n (s.rfld (.tm .OUT) n.val 3 2) s

/-- STOP (R450). -/
def timerStop (n : Fin 16) (s : State) : State :=
  if s.timers[n].run then
    let s := updTimer n (fun t => { t with run := false }) s
    outAction n (s.rfld (.tm .OUT) n.val 1 0) s
  else s

/-- A capture (R461, R462): count and stamp latch; CAP publishes at the next edge (R466). Sources that capture at the same
edge make one capture. -/
def timerCapture (n : Fin 16) (s : State) : State :=
  let t := s.timers[n]
  if t.capDue ∧ t.capStamp = s.now then s
  else
  let s := s.setReg (.tm .CAP) n.val t.count
  let s := timerFlag n (2 ^ 7 + b2n t.full) s
  updTimer n (fun t => { t with full := true, capStamp := s.now, capDue := true }) s

/-- The counter passes RELOAD to 0 (R447): flags clear, a pending RELOAD applies, the WRAP action, then compares of 0
fire (R453); WRAP publishes (R466). -/
def timerWrapCore (n : Fin 16) (s : State) : State :=
  let s := updTimer n (fun t => { t with count := 0, pre := 0, aFired := false, bFired := false }) s
  let s := timerFlag n (2 ^ 6) (applyPending n s)
  let s := publish prTimer n.val 2 (outAction n (s.rfld (.tm .OUT) n.val 9 8) s)
  let s := if s.reg (.tm .CMPA) n.val = 0 then fireA n s else s
  if s.reg (.tm .CMPB) n.val = 0 then fireB n s else s

/-- The next count edge is a wrap: the count is at RELOAD, or above it after a SHORT (R447, R459, R460). -/
def wrapNext (s : State) (n : Fin 16) : Bool := s.timers[n].run && decide (s.timers[n].reload ≤ s.timers[n].count)

/-- Compares whose natural match is the present count fire (R453). -/
def matchCompares (n : Fin 16) (s : State) : State :=
  let s := if s.timers[n].run && !s.timers[n].aFired && s.timers[n].count == s.reg (.tm .CMPA) n.val
    then fireA n s else s
  if s.timers[n].run && !s.timers[n].bFired && s.timers[n].count == s.reg (.tm .CMPB) n.val then fireB n s else s

/-- A count edge that is no wrap (R447). -/
def timerCountUp (n : Fin 16) (s : State) : State := updTimer n (fun t => { t with count := t.count + 1, pre := 0 }) s

end Sys2Proof.Machine
end

