-- ==== Sys2Proof/Machine/Drawbar.lean ====
section
/-! DEFINITION. The drawbar links: receiver states, capture, command queues, timetable, exchanges, alarms, enumeration
and authentication (chapters 08 and 09). -/
namespace Sys2Proof.Machine

/-! ### Access to one bus -/

/-- Change bus `b`. -/
def updBus (b : Fin 2) (f : Drawbar → Drawbar) (s : State) : State := { s with drawbar := upd s.drawbar b f }

/-- Change the modem of bus `b`. -/
def updPhy (b : Fin 2) (f : Phy → Phy) (s : State) : State := updBus b (fun d => { d with phy := f d.phy }) s

/-- Change the record of address `a` on bus `b`. -/
def updAct (b : Fin 2) (a : Fin 32) (f : Actuator → Actuator) (s : State) : State :=
  updBus b (fun d => { d with acts := upd d.acts a f }) s

/-- Register-file unit of a per-actuator register. -/
def actU (b : Fin 2) (a : Nat) : Nat := b.val * 32 + a

/-- DB_ACFG fields of an address. -/
def acfg (s : State) (b : Fin 2) (a hi lo : Nat) : Nat := s.rfld (.db .ACFG) (actU b a) hi lo

/-- Bus almanac DATA: bit 0 names the bus, [12:8] the address (R347). -/
def busData (b : Fin 2) (a : Nat) : Nat := b.val + a * 2 ^ 8

/-- RETRY of an address; address 0 follows address 1 (log entry 14). -/
def retryOf (s : State) (b : Fin 2) (a : Nat) : Nat := acfg s b (if a = 0 then 1 else a) 29 28

/-- Set bits of DB_LSTAT. -/
def lstat (b : Fin 2) (m : Nat) (s : State) : State := s.orReg (.db .LSTAT) b.val m

/-- AES key of a slot that has usage DRAWBAR (R551). -/
def drawbarKey (s : State) (slot : Nat) : Option (List Byte) :=
  let k := s.enclave.slots[ix 32 slot]
  if k.typ = 2 ∧ bit (BitVec.ofNat 16 k.usage) 6 then some k.key else none

/-! ### Receiver (R300 to R314) -/

/-- STATE 2 to 6, in which writes of CHAN, AMP and LOOP are held (R312). -/
def phyBusy (p : Phy) : Bool :=
  match p.state with
  | .off => false
  | .listen => false
  | _ => true

/-- STATE code (R300). -/
def phyCode : PhyState → Nat
  | .off => 0 | .listen => 1 | .sync => 2 | .header => 3 | .body => 4 | .transmit => 5 | .blank => 6

/-- A reception is in progress: SYNC, HEADER or BODY. -/
def receiving (p : Phy) : Bool := p.state == .sync || p.state == .header || p.state == .body

/-- LOOP is in force (R313). -/
def looped (p : Phy) : Bool := bit p.cfg 30

/-- DB_PHYSTAT.SYMS: symbols since the candidate or the first transmitted symbol, 768 ticks each (R281); it stands still
when the packet has ended. -/
def symsNow (p : Phy) (now : Stamp) : Nat :=
  if receiving p || p.state == .transmit then min 511 (p.syms + ticks p.symsAt now / 768) else p.syms

/-- The symbol count stands still from this edge on. -/
def stopSyms (now : Stamp) (p : Phy) : Phy := { p with syms := symsNow p now, symsAt := now }

/-- The main path enters LISTEN: held CHAN, AMP and LOOP take effect (R312) and the second watch stops (R305). -/
def toListen (b : Fin 2) (s : State) : State :=
  updPhy b (fun p => { stopSyms s.now p with
    state := .listen, watch := none, head := none, cfg := s.reg (.db .PHYCFG) b.val }) s

/-- A candidate of the main path (R301): seven of the last eight decisions match and their level reaches DETTHR. -/
def candidateFound (b : Fin 2) (matching level : Nat) (s : State) : State :=
  let p := s.drawbar[b].phy
  if p.state = .listen ∧ 7 ≤ matching ∧ s.rfld (.db .RXCFG) b.val 23 16 ≤ level then
    let s := updBus b (fun d => { d with
      phy := { d.phy with state := .sync, syms := 8, symsAt := s.now }
      exch := d.exch.map (fun x => { x with candidate := true }) }) s
    s.countFld (.db .CNT) (b.val * 4) 31 16 1
  else s

/-- Sync on the main path (R302, R298, R299): at least SYNCTHR of sixteen decisions match. -/
def enterHeader (b : Fin 2) (level : Nat) (stamp : Stamp) (s : State) : State :=
  let s := updPhy b (fun p => { p with state := .header, watch := none, head := none, syncStamp := stamp }) s
  let s := s.countFld (.db .CNT) (b.val * 4) 15 0 1
  s.setFld (.db .RXLEVEL) b.val 7 0 level

/-- SYNCTHR (R302). -/
def syncThr (s : State) (b : Fin 2) : Nat := s.rfld (.db .RXCFG) b.val 12 8

/-- The main path's sync deadline (R302). -/
def syncDeadline (b : Fin 2) (s : State) : State :=
  if s.drawbar[b].phy.state = .sync then toListen b (s.countFld (.db .CNT) (b.val * 4 + 1) 31 16 1) else s

/-- L_cap (R307). -/
def captureLevel (s : State) (b : Fin 2) : Nat :=
  s.rfld (.db .RXLEVEL) b.val 7 0 + 2 * s.rfld (.db .CAPCFG) b.val 3 0

/-- CAPEN (R307). -/
def capEn (s : State) (b : Fin 2) : Bool := s.rbit (.db .CAPCFG) b.val 31

/-! ### Command queues (R327, R330 to R332) -/

/-- Commands queued on a bus. -/
def poolUsed (d : Drawbar) : Nat := (List.finRange 32).foldl (fun n a => n + d.acts[a].queue.length) 0

/-- Slot length in ticks: the period of timer DB_LCFG.TMR (R324). -/
def slotLength (s : State) (b : Fin 2) : Nat :=
  let n := ix 16 (s.rfld (.db .LCFG) b.val 27 24)
  (s.timers[n].reload.toNat + 1) * prescale s n

/-- VER sent to an address: its chosen version and rate; 0b01 to address 0, which every actuator understands (R343; log
entry 12). -/
def verOf (d : Drawbar) (a : Fin 32) : Nat :=
  if a = 0 then 1
  else if d.acts[a].ver = 2 then (if d.acts[a].rate23 then 3 else 2) else 1

/-- A packet of `len` payload bytes to address `a` fits the slot (R327). -/
def fits (s : State) (b : Fin 2) (a : Fin 32) (len : Nat) : Bool :=
  let d := s.drawbar[b]
  let v := verOf d a
  let tag := a ≠ 0 ∧ d.acts[a].tags
  if a = 0 then airtime len false false + us 100 ≤ slotLength s b
  else airtime len tag (v == 3) + us 300 + airtime (acfg s b a.val 5 0) tag (v == 3) + us 100 ≤ slotLength s b

/-- Commit a command to address `a` (R330, R332). Refusals set CMDREJ, TOOLONG or QFULL; a drive-slot or stored
command refused for a full queue also makes almanac entry 0x605. -/
def commit (b : Fin 2) (a : Fin 32) (urgent poll : Bool) (payload : List Byte) (stored : Option Nat) (logFull : Bool)
    (s : State) : State :=
  let d := s.drawbar[b]
  let st := d.acts[a].state
  if 32 < payload.length ∨ (payload = [] ∧ !poll) ∨ (a ≠ 0 ∧ st ≠ 2 ∧ st ≠ 3) then lstat b (2 ^ 8) s
  else if !(fits s b a payload.length) then lstat b (2 ^ 5) s
  else if 8 ≤ d.acts[a].queue.length ∨ 64 ≤ poolUsed d then
    let s := lstat b (2 ^ 6) s
    if logFull then
      almanac 0x605 1 (srcBus b.val) (busData b a.val + (payload.headD 0).toNat * 2 ^ 16) s
    else s
  else
    let c : DbCmd := { urgent := urgent, poll := poll, payload := payload, commit := s.now, seq := none, fc := 0,
                       tries := 0, stored := stored }
    updAct b a (fun x => { x with queue := x.queue ++ [c] }) s

/-- The payload of a stored or slot command: the code, and VALUE for codes 0x04 and 0x80 to 0xEF (R320, R336). -/
def cmdPayload (code value : Nat) : List Byte :=
  if code = 0x04 ∨ (0x80 ≤ code ∧ code ≤ 0xEF) then BitVec.ofNat 8 code :: leBytes value 2 else [BitVec.ofNat 8 code]

/-- A drive slot on path 2 commits FWD, REV or OFF as urgent and SPEED as normal (R330). -/
def slotCommit (b : Fin 2) (a : Fin 32) (code value : Nat) (s : State) : State :=
  commit b a (code != 4) false (cmdPayload code value) none true s

/-- Stored command `k` is triggered by drawbar task input `k` (R336). -/
def storedTrigger (b : Fin 2) (k : Nat) (s : State) : State :=
  let w := s.reg (.db .STCMD) (b.val * 8 + k)
  if bit w 31 then commit b (ix 32 (fld w 28 24)) true false (cmdPayload (fld w 23 16) (fld w 15 0)) (some k) true s
  else s

/-- Task input `k` is busy: the previous command it committed is still queued or in its exchange (R442). -/
def storedBusy (s : State) (b : Fin 2) (k : Nat) : Bool :=
  (List.finRange 32).any (fun a => s.drawbar[b].acts[a].queue.any (fun c => c.stored == some k))

/-! ### Choosing what a slot carries (R325, R329, R333) -/

/-- Entry `j` of the timetable (DB_TTk). -/
def ttEntry (s : State) (b : Fin 2) (j : Nat) : Nat := fld (s.reg (.db .TT) (b.val * 16 + j / 4)) (8 * (j % 4) + 7) (8 * (j % 4))

/-- The exchange in progress is with address `a`. -/
def inExchange (d : Drawbar) (a : Nat) : Bool :=
  match d.exch with
  | some x => x.addr == a
  | none => false

/-- Of two candidate queues, the one whose deciding command was committed first; the first wins ties. -/
def earlier (x y : Option (Nat × Stamp)) : Option (Nat × Stamp) :=
  match x, y with
  | none, y => y
  | x, none => x
  | some (a, t), some (c, u) => if stLt u t then some (c, u) else some (a, t)

/-- The address whose head command was committed earliest; ties to the lower address (R325). -/
def earliestHead (d : Drawbar) : Option (Nat × Stamp) :=
  (List.finRange 32).foldl (fun m a => earlier m (d.acts[a].queue.head?.map (fun c => (a.val, c.commit)))) none

/-- The address that takes an urgent boundary: its queue holds an urgent command and no exchange of it is in progress;
earliest urgent commit first, ties to the lower address (R329, R331). -/
def urgentAddr (d : Drawbar) : Option (Nat × Stamp) :=
  (List.finRange 32).foldl (fun m a =>
    if inExchange d a.val then m
    else earlier m ((d.acts[a].queue.find? (fun c => c.urgent)).map (fun c => (a.val, c.commit)))) none

/-- The work of one ENUM entry (R340): a pending ASSIGN, the RELEASE that opens a walk, or a probe. An idle walk under
AUTO restarts at (0, 0). -/
def enumWork (s : State) (b : Fin 2) : Option DbWork :=
  let d := s.drawbar[b]
  if !d.assigns.isEmpty then some .assign
  else if d.walk then
    if d.releaseDue then some .release
    else match d.stack with
      | (p, m) :: _ => some (.probe p m)
      | [] => none
  else if s.rbit (.db .ENCTL) b.val 29 then some (.probe 0 0)
  else none

/-- What an entry would carry, no urgent command considered (R325). -/
def entryWork (s : State) (b : Fin 2) (e : Nat) : Option DbWork :=
  let d := s.drawbar[b]
  let a := ix 32 (e % 32)
  match e / 32 with
  | 1 =>
    let x := d.acts[a]
    if x.state ≠ 2 ∧ x.state ≠ 3 then none
    else if !x.queue.isEmpty && !x.pollFirst then some (.command a.val)
    else if fits s b a 0 then some (.poll a.val) else none
  | 2 => (earliestHead d).map (fun x => .command x.1)
  | 3 => some .contention
  | 4 => enumWork s b
  | _ => none

/-- A slot boundary (R324, R325, R329): the next entry takes the slot; an urgent command displaces it. An exchange
that has not started when the next boundary comes is skipped (R328). -/
def slotBoundary (b : Fin 2) (s : State) : State :=
  let d := s.drawbar[b]
  let len := s.rfld (.db .LCFG) b.val 21 16 + 1
  let j := d.ttNext % len
  let e := ttEntry s b j
  let natural := if d.enumTail then none else entryWork s b e
  let urgent := (urgentAddr d).map (fun x => DbWork.command x.1)
  let work := match urgent with
    | some u => some u
    | none => natural
  let displaced := urgent.isSome && natural.isSome && natural != urgent
  let isEnum := !d.enumTail && e / 32 == 4 && !displaced
  let late := d.exch.isSome || (match d.exchEnd with
    | some t => decide (ticks t s.now < us 100)
    | none => false)
  let s := updBus b (fun d => { d with ttIdx := j, ttNext := (j + 1) % len, enumTail := isEnum, slot := work }) s
  let s := if displaced then lstat b (2 ^ 3) s else s
  if work.isSome && late then lstat b (2 ^ 4) s else s

/-- A wrap of timer `n` is a slot boundary of every bus whose timetable runs on it (R324). -/
def wrapBoundaries (n : Fin 16) (s : State) : State :=
  (List.finRange 2).foldl (fun s b =>
    if s.rbit (.db .LCFG) b.val 31 && s.rfld (.db .LCFG) b.val 27 24 == n.val && !(s.power.parked)[6 + b.val]! then
      slotBoundary b s
    else s) s

/-- A timer wrap with everything it does (R447, R324). -/
def timerWrap (n : Fin 16) (s : State) : State := wrapBoundaries n (timerWrapCore n s)

/-- A count edge of timer `n` (R447, R452): a wrap, or a count with its compares. -/
def countEdge (n : Fin 16) (s : State) : State :=
  if wrapNext s n then timerWrap n s else matchCompares n (timerCountUp n s)

/-- A delivery on the COUNT task input (R448): every P-th one is a count edge. -/
def timerCountEvent (n : Fin 16) (s : State) : State :=
  if !(s.timers[n].run && s.rbit (.tm .CFG) n.val 30) then s
  else if s.timers[n].pre + 1 < prescale s n then updTimer n (fun t => { t with pre := t.pre + 1 }) s
  else countEdge n s

/-! ### Exchanges (R326) -/

/-- Word 2 of a LINK_MSG (R239). -/
def linkWord (dir addr ptype seq ver : Nat) (auth : Bool) (plen try_ : Nat) : Word :=
  at_ dir 31 ||| at_ addr 26 ||| at_ ptype 23 ||| at_ seq 19 ||| at_ ver 17 ||| at_ (b2n auth) 16 ||| at_ plen 10 |||
  at_ try_ 8

/-- DB_ACFG.REC that governs an address: packets to address 0 follow address 1 (R346). -/
def recOf (s : State) (b : Fin 2) (a : Nat) : Nat := acfg s b (if a = 0 then 1 else a) 31 30

/-- ENUM, ASSIGN and ALARM traffic is recorded whatever REC holds (R346). -/
def alwaysRecorded (ptype : Nat) : Bool := ptype == 3 || ptype == 4 || ptype == 5

/-- LINK_MSG of a packet sent (REC 2, or always for ENUM and ASSIGN), stamped at its first preamble symbol (R298,
R346). -/
def recordSent (b : Fin 2) (x : Exchange) (payload : List Byte) (s : State) : State :=
  if recOf s b x.addr = 2 ∨ alwaysRecorded x.ptype then
    emit .link tLinkMsg (srcBus b.val) s.now
      (linkWord 1 x.addr x.ptype x.seq x.ver false payload.length x.tries :: toWords payload) s
  else s

/-- Put a packet on the wire (R282, R304): a reception in progress is abandoned, except in loopback (R313). -/
def transmit (b : Fin 2) (h : Word) (body : List Byte) (s : State) : State :=
  let p := s.drawbar[b].phy
  let s := if receiving p && !looped p then s.countFld (.db .CNT) (b.val * 4 + 3) 31 16 1 else s
  updPhy b (fun p => { p with
    state := if looped p then p.state else .transmit
    syms := if looped p then p.syms else 0
    symsAt := if looped p then p.symsAt else s.now
    watch := if looped p then p.watch else none
    tones := frameTones h body, driving := true }) s

/-- Start an exchange with a packet built from its fields; the tag follows the CRC (R286, R344). Nothing is sent while the
driver is held off (R284). -/
def sendPacket (b : Fin 2) (x : Exchange) (payload : List Byte) (s : State) : State :=
  let h := packHeader x.addr x.ptype payload.length x.seq x.ver x.tag
  let act := s.drawbar[b].acts[ix 32 x.addr]
  let key := (drawbarKey s (acfg s b x.addr 20 16)).getD []
  let tag := if x.tag then drawbarTag key 0 act.nonce.toNat x.fc h payload else []
  let body := payload ++ crc16Bytes (wordBytes h ++ payload) ++ tag
  let s := updBus b (fun d => { d with exch := some x, slot := none }) s
  if s.drawbar[b].phy.heldOff then s else transmit b h body (recordSent b x payload s)

/-- FC and SEQ of a new packet to an address (R345): with tags FC is incremented and SEQ is its low four bits; without
tags a new command takes the next SEQ. -/
def nextSeq (x : Actuator) : Nat × Nat :=
  if x.tags then ((x.fc + 1) % 2 ^ 32, (x.fc + 1) % 16) else (x.fc, (x.seq + 1) % 16)

/-- Start the exchange of the head command of address `a`. -/
def startCommand (b : Fin 2) (a : Fin 32) (s : State) : State :=
  let x := s.drawbar[b].acts[a]
  match x.queue with
  | [] => updBus b (fun d => { d with slot := none }) s
  | c :: rest =>
    let (fc, seq) := match c.seq with
      | some q => (c.fc, q)
      | none => nextSeq x
    let e : Exchange :=
      { work := .command a.val, addr := a.val, ptype := if c.poll then 0 else 1, seq := seq,
        ver := verOf s.drawbar[b] a, tag := decide (a ≠ 0) && x.tags, fc := fc, tries := c.tries,
        answered := decide (a ≠ 0), te := none, candidate := false }
    let s := updAct b a (fun x => { x with
      seq := seq, fc := fc, queue := { c with seq := some seq, fc := fc } :: rest }) s
    sendPacket b e c.payload s

/-- Start a POLL with no payload (R325). Without tags its SEQ is not a command's and the spec gives none, so it is a
free value (log entry 13). -/
def startPoll (b : Fin 2) (a : Fin 32) (s : State) : State :=
  let x := s.drawbar[b].acts[a]
  let (v, s) := s.free 4
  let fc := if x.tags then (x.fc + 1) % 2 ^ 32 else x.fc
  let seq := if x.tags then fc % 16 else v.toNat
  let e : Exchange :=
    { work := .poll a.val, addr := a.val, ptype := 0, seq := seq, ver := verOf s.drawbar[b] a, tag := x.tags, fc := fc,
      tries := 0, answered := true, te := none, candidate := false }
  sendPacket b e [] (updAct b a (fun x => { x with fc := fc, pollFirst := false }) s)

/-- A packet to address 0 that the link itself sends, always VER 0b01 (R343). -/
def linkPacket (b : Fin 2) (work : DbWork) (ptype : Nat) (payload : List Byte) (answered : Bool) (seq tries : Nat)
    (s : State) : State :=
  sendPacket b { work := work, addr := 0, ptype := ptype, seq := seq, ver := 1, tag := false, fc := 0, tries := tries,
                 answered := answered, te := none, candidate := false } payload s

/-- Bits of ASSIGN byte 5: version, rate 2/3, tags (R341). -/
def assignOptions (g : DbAssign) : Nat := g.version + 4 * b2n g.rate23 + 8 * b2n g.tags

/-- A LINK_LOST (R239, R333): its record, DB_LOST, DB_LSTAT.LOST and the LOST output. -/
def linkLost (b : Fin 2) (addr ptype seq cause tries : Nat) (s : State) : State :=
  let s := emit .link tLinkLost (srcBus b.val) s.now
    [at_ addr 27 ||| at_ ptype 24 ||| at_ seq 20 ||| at_ cause 16 ||| at_ tries 14] s
  let s := lstat b (2 ^ 1) (if addr = 0 then s else s.orReg (.db .LOST) b.val (2 ^ addr))
  publish prBus b.val 1 s

/-- An ASSIGN that cannot be sent because the entropy source has stopped counts as a failed try (R556). The spec names no
CAUSE for a LINK_LOST that ends it: `cause` is a free value. -/
def assignUnsent (b : Fin 2) (cause : Nat) (s : State) : State :=
  match s.drawbar[b].assigns with
  | [] => s
  | g :: rest =>
    if g.tries < retryOf s b g.addr then
      updBus b (fun d => { d with assigns := { g with tries := g.tries + 1 } :: rest }) s
    else linkLost b g.addr 5 g.seq cause g.tries (updBus b (fun d => { d with assigns := rest }) s)

/-- Start the work of a slot (EXCHANGE_START). Link packets to address 0 take a free SEQ: the spec gives none (log entry
13). -/
def startWork (b : Fin 2) (w : DbWork) (s : State) : State :=
  let d := s.drawbar[b]
  let (v, s) := s.free 4
  match w with
  | .command a => startCommand b (ix 32 a) s
  | .poll a => startPoll b (ix 32 a) s
  | .contention =>
    linkPacket b w 0 [BitVec.ofNat 8 d.ackAddr] true v.toNat 0 (updBus b (fun d => { d with ackAddr := 0 }) s)
  | .probe p m =>
    let s := if d.walk then s else updBus b (fun d => { d with walk := true, stack := [(0, 0)], enState := 1, found := 0 }) s
    linkPacket b w 4 (BitVec.ofNat 8 m :: leBytes p 4) true v.toNat 0 s
  | .release =>
    linkPacket b w 1 [0xF0] false v.toNat 0 (updBus b (fun d => { d with releaseDue := false }) s)
  | .assign =>
    match d.assigns with
    | [] => updBus b (fun d => { d with slot := none }) s
    | g :: rest =>
      if s.enclave.entFail then assignUnsent b v.toNat (updBus b (fun d => { d with slot := none }) s)
      else
      let seq := if g.tries = 0 then v.toNat else g.seq
      let s := updBus b (fun d => { d with assigns := { g with seq := seq } :: rest }) s
      linkPacket b w 5 (leBytes g.uid 4 ++ [BitVec.ofNat 8 g.addr, BitVec.ofNat 8 (assignOptions g)] ++
        leBytes g.nonce.toNat 4) true seq g.tries s

/-- The exchange ends at this edge (R328). Clearing RUN ends the timetable at the end of the exchange (R324). -/
def endExchange (b : Fin 2) (s : State) : State :=
  updBus b (fun d => { d with exch := none, exchEnd := some s.now }) s

/-! ### Misses, loss and ASSIGN (R333, R334, R341, R342) -/

/-- The nonce of an ASSIGN comes from the entropy source (R341): a free value. -/
def mkAssign (b : Fin 2) (uid addr caps : Nat) (s : State) : DbAssign × State :=
  let (n, s) := s.free 32
  let version := min (caps % 4) (s.rfld (.db .LCFG) b.val 1 0)
  let v2 := version == 2
  ({ uid := uid, addr := addr, version := version,
     rate23 := v2 && bit (BitVec.ofNat 4 caps) 2 && acfg s b addr 26 26 == 1,
     tags := v2 && bit (BitVec.ofNat 4 caps) 3 && acfg s b addr 27 27 == 1 && (drawbarKey s (acfg s b addr 20 16)).isSome,
     nonce := n, seq := 0, tries := 0 }, s)

/-- A failed exchange counts in MISSES; at MISSMAX the actuator becomes absent, and an authenticated one is sent an
ASSIGN at the next ENUM entry (R334, R345). -/
def countMiss (b : Fin 2) (a : Fin 32) (s : State) : State :=
  let x := s.drawbar[b].acts[a]
  let m := satAdd 255 x.misses 1
  let s := s.countFld (.db .ACNT) (actU b a.val) 31 24 1
  let s := updAct b a (fun x => { x with misses := m }) s
  if x.state = 2 ∧ acfg s b a.val 15 8 ≤ m then
    let s := almanac 0x602 1 (srcBus b.val) (busData b a.val) (updAct b a (fun x => { x with state := 3 }) s)
    if x.tags then
      let (g, s) := mkAssign b (s.reg (.db .AUID) (actU b a.val)).toNat a.val x.caps s
      updBus b (fun d => { d with assigns := d.assigns ++ [g] }) s
    else s
  else s

/-- The walk's top subtree is done; an empty stack ends the walk with STATE 2 (R340). -/
def walkPop (b : Fin 2) (s : State) : State :=
  updBus b (fun d =>
    let st := d.stack.tail
    { d with stack := st, walk := !st.isEmpty, enState := if st.isEmpty then 2 else d.enState }) s

/-- A probe with several answers splits its prefix (R340). -/
def walkSplit (b : Fin 2) (p m : Nat) (s : State) : State :=
  if m = 32 then walkPop b (updBus b (fun d => { d with dupUid := true }) s)
  else updBus b (fun d => { d with stack := (p, m + 1) :: (p ||| 2 ^ (31 - m), m + 1) :: d.stack.tail }) s

/-- The try in progress fails with a cause (R326, R333, R334). -/
def failTry (b : Fin 2) (cause : Nat) (s : State) : State :=
  match s.drawbar[b].exch with
  | none => s
  | some x =>
    let s := endExchange b s
    let a := ix 32 x.addr
    match x.work with
    | .command _ =>
      let s := countMiss b a s
      match s.drawbar[b].acts[a].queue with
      | c :: rest =>
        if !c.poll && decide (c.tries < retryOf s b a.val) then
          updAct b a (fun y => { y with queue := { c with tries := c.tries + 1 } :: rest }) s
        else linkLost b a.val x.ptype x.seq cause c.tries (updAct b a (fun y => { y with queue := rest }) s)
      | [] => s
    | .poll _ => linkLost b a.val 0 x.seq cause 0 (countMiss b a s)
    | .probe p m => if x.candidate || cause != 1 then walkSplit b p m s else walkPop b s
    | .assign =>
      match s.drawbar[b].assigns with
      | g :: rest =>
        if g.tries < retryOf s b g.addr then
          updBus b (fun d => { d with assigns := { g with tries := g.tries + 1 } :: rest }) s
        else linkLost b g.addr 5 x.seq cause g.tries (updBus b (fun d => { d with assigns := rest }) s)
      | [] => s
    | .contention => s
    | .release => s

/-- The address an ASSIGN gives to a UID: the one bound to it, else the lowest free one (R341). -/
def assignAddr (s : State) (b : Fin 2) (uid : Nat) : Option Nat :=
  match (List.range 32).find? (fun a => a != 0 && (s.reg (.db .AUID) (actU b a)).toNat == uid) with
  | some a => some a
  | none => (List.range 32).find? (fun a => a != 0 && s.drawbar[b].acts[ix 32 a].state == 0)

/-- A valid ENUM reply (R340 to R342): an ASSIGN is prepared, or no address is free. -/
def enumReply (b : Fin 2) (uid caps : Nat) (s : State) : State :=
  match assignAddr s b uid with
  | none => walkPop b (lstat b (2 ^ 7) (almanac 0x604 1 (srcBus b.val) (b.val + uid * 2 ^ 16) s))
  | some addr =>
    let a := ix 32 addr
    let (g, s) := mkAssign b uid addr caps s
    let refused := acfg s b addr 27 27 == 1 && !g.tags && (!(bit (BitVec.ofNat 4 caps) 3) ||
      (drawbarKey s (acfg s b addr 20 16)).isNone)
    let s := s.setReg (.db .AUID) (actU b addr) (BitVec.ofNat 32 uid)
    let s := updAct b a (fun x => { x with
      state := if refused then 4 else 2, ver := g.version, rate23 := g.rate23, tags := g.tags, caps := caps, fc := 0,
      nonce := g.nonce, misses := 0, seq := 0 }) s
    let s := if refused then almanac 0x606 1 (srcBus b.val) (busData b addr + uid * 2 ^ 16) s else s
    updBus b (fun d => { d with assigns := d.assigns ++ [g] }) s

/-- The ASSIGN at the head of the list has been answered (R341): entry 0x603, and the address is in use. -/
def assignDone (b : Fin 2) (s : State) : State :=
  match s.drawbar[b].assigns with
  | [] => s
  | g :: rest =>
    let s := updBus b (fun d => { d with assigns := rest, found := satAdd 63 d.found 1 }) s
    let s := updAct b (ix 32 g.addr) (fun x => { x with
      state := if x.state = 4 then 4 else 2, ver := g.version, rate23 := g.rate23, tags := g.tags, nonce := g.nonce,
      fc := 0, misses := 0 }) s
    almanac 0x603 0 (srcBus b.val) (busData b g.addr + g.version * 2 ^ 13 + g.uid * 2 ^ 16) s

/-! ### The end of a transmission (R279, R326, R335) -/

/-- A packet that expects no answer is over at te (R326, R335): a broadcast CMD is sent RETRY + 1 times. -/
def broadcastDone (b : Fin 2) (x : Exchange) (s : State) : State :=
  let s := endExchange b s
  match x.work with
  | .command a =>
    let i := ix 32 a
    match s.drawbar[b].acts[i].queue with
    | c :: rest =>
      if c.tries < retryOf s b a then updAct b i (fun y => { y with queue := { c with tries := c.tries + 1 } :: rest }) s
      else updAct b i (fun y => { y with queue := rest }) s
    | [] => s
  | _ => s

/-- The hub's last symbol has ended: te, and the blanking of R279; in loopback the receiver goes on. -/
def transmissionEnd (b : Fin 2) (s : State) : State :=
  if s.drawbar[b].phy.driving then
    let s := updPhy b (fun p =>
      let p := if looped p then p else { stopSyms s.now p with state := .blank }
      { p with driving := false, tones := [] }) s
    let s := updBus b (fun d => { d with exch := d.exch.map (fun x => { x with te := some s.now }) }) s
    match s.drawbar[b].exch with
    | some x => if x.answered then s else broadcastDone b x s
    | none => s
  else s

/-! ### Receptions (R326, R338, R343 to R346) -/

/-- A packet whose checks have ended. -/
structure RxPacket where
  addr : Nat
  ptype : Nat
  seq : Nat
  ver : Nat
  auth : Bool
  payload : List Byte
  stamp : Stamp
  deriving DecidableEq, Repr

/-- LINK_MSG of a valid packet received (R346). -/
def recordRx (b : Fin 2) (r : RxPacket) (try_ : Nat) (s : State) : State :=
  if 1 ≤ recOf s b r.addr ∨ alwaysRecorded r.ptype then
    emit .link tLinkMsg (srcBus b.val) r.stamp
      (linkWord 0 r.addr r.ptype r.seq r.ver r.auth r.payload.length try_ :: toWords r.payload) s
  else s

/-- The ten words of DB_ARINFO to DB_ARESP7 (R349). -/
def rxWords (r : RxPacket) : List Word :=
  let w := toWords r.payload
  (at_ r.payload.length 26 ||| at_ r.ptype 23 ||| at_ r.seq 19 ||| at_ r.ver 17 ||| at_ (b2n r.auth) 16) ::
    stLo r.stamp :: (w ++ List.replicate (8 - w.length) 0)

/-- What every valid packet does: last packet, RX output, record; a valid answer clears MISSES and ends absence. -/
def acceptPacket (b : Fin 2) (r : RxPacket) (try_ : Nat) (s : State) : State :=
  let s := recordRx b r try_ s
  let s := if r.addr = 0 then s else updAct b (ix 32 r.addr) (fun x => { x with last := rxWords r }) s
  publish prBus b.val 2 s

/-- An answer to address `a` was valid (R334). -/
def validAnswer (b : Fin 2) (a : Fin 32) (s : State) : State :=
  updAct b a (fun x => { x with misses := 0, state := if x.state = 3 then 2 else x.state }) s

/-- A valid ALARM (R338). An actuator has an address from 1 to 31. -/
def acceptAlarm (b : Fin 2) (r : RxPacket) (s : State) : State :=
  let a := ix 32 r.addr
  if r.addr = 0 then s
  else
    let s := lstat b (2 ^ 2) (s.orReg (.db .ALARM) b.val (2 ^ r.addr))
    let s := updBus b (fun d => { d with ackAddr := r.addr }) s
    let s := updAct b a (fun x => { x with alseq := r.seq, pollFirst := x.pollFirst || acfg s b r.addr 27 27 == 1 }) s
    publish prBus b.val 0 s

/-- The exchange's answer is complete (R331): the command leaves its queue, the probe or ASSIGN goes on. -/
def answerDone (b : Fin 2) (x : Exchange) (r : RxPacket) (s : State) : State :=
  let s := endExchange b s
  let a := ix 32 x.addr
  match x.work with
  | .command _ => validAnswer b a (updAct b a (fun y => { y with queue := y.queue.tail }) s)
  | .poll _ => validAnswer b a s
  | .probe _ _ => enumReply b (leNat (r.payload.take 4)) ((r.payload.getD 4 0).toNat % 16) s
  | .assign => assignDone b s
  | .contention => s
  | .release => s

/-- The packet is the one the exchange waits for (R326 step 5). An ASSIGN is answered from its new address. -/
def matchesExchange (d : Drawbar) (x : Exchange) (r : RxPacket) : Bool :=
  match x.work with
  | .contention => r.ptype == 3
  | .probe _ _ => r.ptype == 4 && r.addr == 0 && r.seq == x.seq
  | .assign => r.ptype == 2 && r.seq == x.seq && some r.addr == (d.assigns.head?.map (fun g => g.addr))
  | _ => r.ptype == 2 && r.addr == x.addr && r.seq == x.seq

/-- The checks of a completed reception in the order CRC, tag, match (R326 step 5, R317, R318, R343, R344). -/
def receivePacket (b : Fin 2) (h : Word) (bytes : List Byte) (stamp : Stamp) (s : State) : State :=
  let d := s.drawbar[b]
  let len := fld h 23 18
  let addr := fld h 31 27
  let payload := bytes.take len
  let crc := (bytes.drop len).take 2
  let tag := (bytes.drop (len + 2)).take 4
  let waiting := match d.exch with
    | some x => if x.answered && x.te.isSome then some x else none
    | none => none
  if crc16 (wordBytes h ++ payload ++ crc) ≠ 0 then (if waiting.isSome then failTry b 3 s else s)
  else if 6 ≤ fld h 26 24 then
    let s := if addr = 0 then s else s.countFld (.db .ACNT) (actU b addr) 7 0 1
    if waiting.isSome then failTry b 1 s else s
  else
    let act := d.acts[ix 32 addr]
    let fc := match waiting with
      | some x => x.fc
      | none => act.fc
    let key := (drawbarKey s (acfg s b addr 20 16)).getD []
    let auth := hasTag h && tag == drawbarTag key 1 act.nonce.toNat fc h payload
    let r : RxPacket := { addr := addr, ptype := fld h 26 24, seq := fld h 17 14, ver := fld h 13 12, auth := auth,
                          payload := payload, stamp := stamp }
    match waiting with
    | some x =>
      if r.ptype ≠ 3 ∧ x.addr = addr ∧ ((x.tag ∧ !(hasTag h)) ∨ (hasTag h ∧ !auth)) then
        failTry b 4 (s.countFld (.db .ACNT) (actU b addr) 23 16 1)
      else if matchesExchange d x r then
        let s := if r.ver ≠ x.ver ∧ addr ≠ 0 then s.countFld (.db .ACNT) (actU b addr) 15 8 1 else s
        let s := acceptPacket b r x.tries s
        let s := if r.ptype = 3 then acceptAlarm b r s else s
        answerDone b x r s
      else
        let s := acceptPacket b r 0 s
        let s := if r.ptype = 3 then acceptAlarm b r s else s
        failTry b 1 s
    | none =>
      let s := acceptPacket b r 0 s
      if r.ptype = 3 then acceptAlarm b r s else s

/-- The main path takes over the second watch's candidate, in SYNC (R307 case 2, R309). -/
def takeWatch (b : Fin 2) (w : Watch) (s : State) : State :=
  updPhy b (fun p => { p with state := .sync, syms := 8, symsAt := w.foundAt, watch := none, head := none }) s

/-- The main path ends a reception (R309): it takes over a candidate that the second watch holds, or listens. A watch that
finds sync at this very edge is a candidate that SYNC_FOUND then takes into HEADER. -/
def afterReception (b : Fin 2) (s : State) : State :=
  match s.drawbar[b].phy.watch with
  | none => toListen b s
  | some w => takeWatch b w s

/-! ### Registers -/

/-- The bus's interrupt requests: link (R349) and physical layer (R314). -/
def linkIrq (s : State) (b : Nat) : Bool :=
  s.reg (.db .ALARM) b != 0 || s.reg (.db .LOST) b != 0 || s.rfld (.db .LSTAT) b 7 3 != 0

def phyIrq (s : State) (b : Nat) : Bool := s.rfld (.db .PHYFLG) b 3 2 != 0

/-- The actuator that the accessor's DB_ASEL of this bus selects. -/
def asel (a : Accessor) (b : Fin 2) (s : State) : Fin 32 := ix 32 (s.reg (.db .ASEL) (b.val * 6 + accU a)).toNat

/-- The driver is enabled: the modem listens (R312). -/
def phyEnable (b : Fin 2) (s : State) : State :=
  if s.drawbar[b].phy.state = .off then toListen b s else s

/-- EN is cleared: the driver ramps down, which ends a transmission, a reception is abandoned, and the main path is OFF
(R312; log entry 54). -/
def phyDisable (b : Fin 2) (s : State) : State :=
  updPhy b (fun p => { stopSyms s.now p with state := .off, watch := none, head := none }) (transmissionEnd b s)

/-- A write of DB_PHYCFG (R312). A write that sets EN while the link domain is off acts when the domain is on (R495). -/
def writePhyCfg (b : Fin 2) (v : Word) (s : State) : State :=
  let was := s.rbit (.db .PHYCFG) b.val 31
  let s := s.plainWrite false (.db .PHYCFG) b.val v
  let s := if phyBusy s.drawbar[b].phy then s
    else updPhy b (fun p => { p with cfg := s.reg (.db .PHYCFG) b.val }) s
  if bit v 31 && !was then (if s.power.dom[domLink b.val] then phyEnable b s else s)
  else if !(bit v 31) && was then phyDisable b s
  else s

/-- Start a walk (R340). -/
def enumGo (b : Fin 2) (s : State) : State :=
  let len := s.rfld (.db .LCFG) b.val 21 16 + 1
  let hasEnum := (List.range len).any (fun j => ttEntry s b j / 32 == 4)
  if s.drawbar[b].walk then s
  else if hasEnum then
    updBus b (fun d => { d with walk := true, stack := [(0, 0)], releaseDue := s.rbit (.db .ENCTL) b.val 28, enState := 1,
                                found := 0, dupUid := false }) s
  else updBus b (fun d => { d with enState := 3 }) s

/-- End a walk at the present step (R340). -/
def enumStop (b : Fin 2) (s : State) : State :=
  updBus b (fun d => { d with walk := false, stack := [], releaseDue := false, enState := if d.walk then 0 else d.enState }) s

/-- A write of DB_ENCTL: AUTO and RELEASE are stored; STOP and GO act. -/
def writeEnCtl (b : Fin 2) (v : Word) (s : State) : State :=
  let s := s.setReg (.db .ENCTL) b.val (v &&& 0x30000000)
  let s := if bit v 30 then enumStop b s else s
  if bit v 31 then enumGo b s else s

/-- A write of DB_LCFG: VMAX outside 1 to 2 is ignored (R349). Setting RUN makes entry 0 take the next boundary; clearing
it ends the timetable (R324). -/
def writeLCfg (b : Fin 2) (v : Word) (s : State) : State :=
  if fld v 1 0 = 0 ∨ fld v 1 0 = 3 then s
  else
    let was := s.rbit (.db .LCFG) b.val 31
    let s := s.plainWrite false (.db .LCFG) b.val v
    if bit v 31 && !was then updBus b (fun d => { d with ttNext := 0, enumTail := false, slot := none }) s
    else if !(bit v 31) && was then updBus b (fun d => { d with slot := none, enumTail := false }) s
    else s

/-- A write of DB_AUID: only while the address is free or expected (R349). -/
def writeAuid (b : Fin 2) (a : Fin 32) (v : Word) (s : State) : State :=
  if 2 ≤ s.drawbar[b].acts[a].state then s
  else updAct b a (fun x => { x with state := if v = 0 then 0 else 1 }) (s.setReg (.db .AUID) (actU b a.val) v)

/-- A write of DB_ACMDH commits the accessor's payload bytes (R330, R332). -/
def writeAcmdh (acc : Accessor) (b : Fin 2) (v : Word) (s : State) : State :=
  let len := fld v 5 0
  let bytes := (List.range 8).flatMap (fun i => wordBytes (s.reg (.db .ACMD) ((b.val * 6 + accU acc) * 8 + i)))
  let a := if bit v 29 then 0 else asel acc b s
  if 32 < len then lstat b (2 ^ 8) s else commit b a (bit v 31) (bit v 30) (bytes.take len) none false s

/-- Words of the last valid packet; low word first snapshots all ten (R349, R38). -/
def readAr (acc : Accessor) (b : Fin 2) (i : Nat) (s : State) : Word × State :=
  let base := (b.val * 6 + accU acc) * 16
  if i = 0 then
    let ws := s.drawbar[b].acts[asel acc b s].last
    (ws.getD 0 0, (List.range 10).foldl (fun s j => s.setReg (.db .AR) (base + j) (ws.getD j 0)) s)
  else (s.reg (.db .AR) (base + i), s)

/-- A read of a DB_ register of bus `b`, entry `i`. -/
def dbRead (acc : Accessor) (b : Fin 2) (r : DbReg) (i : Nat) (s : State) : Word × State :=
  let d := s.drawbar[b]
  let a := asel acc b s
  let x := d.acts[a]
  match r with
  | .PHYCFG => (s.reg (.db .PHYCFG) b.val, s)
  | .RXCFG => (s.reg (.db .RXCFG) b.val, s)
  | .CAPCFG => (s.reg (.db .CAPCFG) b.val, s)
  | .LSNCFG => (s.reg (.db .LSNCFG) b.val, s)
  | .PHYSTAT => (at_ (phyCode d.phy.state) 28 ||| at_ (b2n d.phy.watch.isSome) 27 ||| at_ (symsNow d.phy s.now) 0, s)
  | .RXLEVEL => (putFld (s.reg (.db .RXLEVEL) b.val) 23 16 (match d.phy.watch with | some w => w.level | none => 0), s)
  | .PHYFLG => (s.reg (.db .PHYFLG) b.val, s)
  | .DRIFT => (s.reg (.db .DRIFT) b.val, s)
  | .CNT => (s.reg (.db .CNT) (b.val * 4 + i), s.readClear acc (.db .CNT) (b.val * 4 + i))
  | .LCFG => (s.reg (.db .LCFG) b.val, s)
  | .LSTAT => (at_ d.ttIdx 26 ||| s.reg (.db .LSTAT) b.val, s)
  | .ENCTL => (s.reg (.db .ENCTL) b.val ||| at_ (b2n d.walk) 31, s)
  | .ENSTAT => (at_ d.enState 30 ||| at_ (b2n d.dupUid) 29 ||| at_ d.found 0, s)
  | .QFREE => (at_ (64 - poolUsed d) 0, s)
  | .PRESENT => (bitsOf 32 (fun j => j != 0 && d.acts[ix 32 j].state == 2), s)
  | .ALARM => (s.reg (.db .ALARM) b.val, s)
  | .LOST => (s.reg (.db .LOST) b.val, s)
  | .TT => (s.reg (.db .TT) (b.val * 16 + i), s)
  | .STCMD => (s.reg (.db .STCMD) (b.val * 8 + i), s)
  | .ASEL => (s.reg (.db .ASEL) (b.val * 6 + accU acc), s)
  | .AUID => (s.reg (.db .AUID) (actU b a.val), s)
  | .ACFG => (s.reg (.db .ACFG) (actU b a.val), s)
  | .ASTAT => (at_ x.state 29 ||| at_ x.ver 27 ||| at_ (b2n x.rate23) 26 ||| at_ (b2n x.tags) 25 ||| at_ x.caps 21 |||
               at_ x.queue.length 16 ||| at_ x.misses 8 ||| at_ x.seq 4 ||| at_ x.alseq 0, s)
  | .ACMD => (0, s)
  | .ACMDH => (0, s)
  | .AR => readAr acc b i s
  | .ACNT => (s.reg (.db .ACNT) (actU b a.val), s.readClear acc (.db .ACNT) (actU b a.val))

/-- A write of a DB_ register of bus `b`, entry `i`. -/
def dbWrite (acc : Accessor) (b : Fin 2) (r : DbReg) (i : Nat) (v : Word) (s : State) : State :=
  let a := asel acc b s
  match r with
  | .PHYCFG => writePhyCfg b v s
  | .RXCFG => if fld v 12 8 < 12 ∨ 16 < fld v 12 8 then s else s.plainWrite false (.db .RXCFG) b.val v
  | .CAPCFG => if fld v 3 0 < 3 ∨ 12 < fld v 3 0 then s else s.plainWrite false (.db .CAPCFG) b.val v
  | .LSNCFG =>
    if b ≠ 0 ∨ fld v 7 0 < 1 ∨ 32 < fld v 7 0 then s else s.plainWrite false (.db .LSNCFG) b.val v
  | .PHYFLG =>
    let s := s.plainWrite false (.db .PHYFLG) b.val v
    if bit v 3 then updPhy b (fun p => { p with heldOff := false, trips := [] }) s else s
  | .LCFG => writeLCfg b v s
  | .LSTAT => s.plainWrite false (.db .LSTAT) b.val v
  | .ENCTL => writeEnCtl b v s
  | .ALARM => s.plainWrite false (.db .ALARM) b.val v
  | .LOST => s.plainWrite false (.db .LOST) b.val v
  | .TT => s.plainWrite false (.db .TT) (b.val * 16 + i) v
  | .STCMD => s.plainWrite false (.db .STCMD) (b.val * 8 + i) v
  | .ASEL => if fld v 4 0 = 0 then s else s.setReg (.db .ASEL) (b.val * 6 + accU acc) (at_ (fld v 4 0) 0)
  | .AUID => writeAuid b a v s
  | .ACFG => s.plainWrite false (.db .ACFG) (actU b a.val) v
  | .ACMD => s.setReg (.db .ACMD) ((b.val * 6 + accU acc) * 8 + i) v
  | .ACMDH => writeAcmdh acc b v s
  | .PHYSTAT => s
  | .RXLEVEL => s
  | .DRIFT => s
  | .CNT => s
  | .ENSTAT => s
  | .QFREE => s
  | .PRESENT => s
  | .ASTAT => s
  | .AR => s
  | .ACNT => s

end Sys2Proof.Machine
end

