-- ==== Sys2Proof/Machine/TimerRegs.lean ====
section
/-! DEFINITION. The count edge of the present BUSCLK edge, and the TM_ registers (R448, R452, R454 to R464, R469). -/
namespace Sys2Proof.Machine

/-- The count edge that the present BUSCLK edge gives a running timer with CNTEV at 0, once (R448, R452). -/
def settle (n : Fin 16) (s : State) : State :=
  let t := s.timers[n]
  if !t.due then s
  else
    let s := updTimer n (fun t => { t with due := false }) s
    if !t.run || s.rbit (.tm .CFG) n.val 30 then s
    else if t.pre + 1 < prescale s n then updTimer n (fun t => { t with pre := t.pre + 1 }) s
    else countEdge n s

/-- A write of CMPA by software or a drive slot (R454, R457). -/
def writeCmpA (n : Fin 16) (v : Word) (s : State) : State := judgeA n ((settle n s).setReg (.tm .CMPA) n.val v)

/-- A write of CMPB (R454). -/
def writeCmpB (n : Fin 16) (v : Word) (s : State) : State := judgeB n ((settle n s).setReg (.tm .CMPB) n.val v)

/-- A write of RELOAD (R458 to R460). -/
def writeReload (n : Fin 16) (v : Word) (s : State) : State :=
  let s := settle n s
  let t := s.timers[n]
  let s := s.setReg (.tm .RELOAD) n.val v
  if t.run && !(s.rbit (.tm .CFG) n.val 31) then updTimer n (fun t => { t with pend := true }) s
  else
    let s := takeReload n v s
    if v < t.count then timerFlag n (2 ^ 2) s else s

/-- A write of TM_CMD (R449 to R452, R461): CLEAR, START, STOP, then CAPTURE. -/
def writeTmCmd (n : Fin 16) (v : Word) (s : State) : State :=
  let s := if bit v 2 then timerClear n s else s
  let s := if bit v 0 then timerStart n s else s
  let s := if bit v 1 then timerStop n s else s
  if bit v 3 then timerCapture n (settle n s) else s

/-- A write of TM_GSTART (R449). -/
def writeGStart (v : Word) (s : State) : State :=
  (List.finRange 16).foldl (fun s n => if bit v n.val then timerStart n s else s) s

/-- A write of TM_CFG: ignored with CFGREJ while the timer runs, ignored with TIOMODE 3 or EDGE 3 (R469). -/
def writeTmCfg (n : Fin 16) (v : Word) (s : State) : State :=
  if s.timers[n].run then timerFlag n (2 ^ 3) s
  else if fld v 29 28 = 3 ∨ fld v 27 26 = 3 then s
  else s.plainWrite false (.tm .CFG) n.val v

/-- A write of TM_CNT (R469). -/
def writeTmCnt (n : Fin 16) (v : Word) (s : State) : State :=
  if s.timers[n].run then timerFlag n (2 ^ 3) s else updTimer n (fun t => { t with count := v }) s

/-- A read of TM_CAP clears CAPFULL, never for the debug port (R463). -/
def readTmCap (a : Accessor) (n : Fin 16) (s : State) : Word × State :=
  (s.reg (.tm .CAP) n.val, if a = .debug then s else updTimer n (fun t => { t with full := false }) s)

/-- The timer that the accessor's TM_SEL selects (R37). -/
def selTimer (a : Accessor) (s : State) : Fin 16 := ix 16 (selOf (.tm .SEL) a s)

/-- A read of a TM_ register. -/
def tmRead (a : Accessor) (r : TmReg) (s : State) : Word × State :=
  let n := selTimer a s
  let t := s.timers[n]
  match r with
  | .SEL => (s.reg (.tm .SEL) (accU a), s)
  | .GSTART => (0, s)
  | .RUN => (bitsOf 16 (fun i => s.timers[ix 16 i].run), s)
  | .CMD => (0, s)
  | .STAT => (at_ (b2n t.run) 31 ||| at_ (b2n t.pend) 30 ||| at_ (b2n t.full) 29 ||| at_ (b2n t.aFired) 28 |||
              at_ (b2n t.bFired) 27 ||| s.reg (.tm .STAT) n.val, s)
  | .CNT => (t.count, s)
  | .CAP => readTmCap a n s
  | .CAPSTL => (stLo t.capStamp, snapshot (.tm .CAPSTH) a (at_ (stHi t.capStamp) 0) s)
  | .CAPSTH => (s.reg (.tm .CAPSTH) (accU a), s)
  | .CFG => (s.reg (.tm .CFG) n.val, s)
  | .IEN => (s.reg (.tm .IEN) n.val, s)
  | .RELOAD => (s.reg (.tm .RELOAD) n.val, s)
  | .CMPA => (s.reg (.tm .CMPA) n.val, s)
  | .CMPB => (s.reg (.tm .CMPB) n.val, s)
  | .OUT => (s.reg (.tm .OUT) n.val, s)

/-- A write of a TM_ register. -/
def tmWrite (a : Accessor) (r : TmReg) (v : Word) (s : State) : State :=
  let n := selTimer a s
  match r with
  | .SEL => writeSel (.tm .SEL) a 0 15 v s
  | .GSTART => writeGStart v s
  | .CMD => writeTmCmd n v s
  | .CFG => writeTmCfg n v s
  | .CNT => writeTmCnt n v s
  | .RELOAD => writeReload n v s
  | .CMPA => writeCmpA n v s
  | .CMPB => writeCmpB n v s
  | .OUT => s.plainWrite false (.tm .OUT) n.val v
  | .IEN => s.plainWrite false (.tm .IEN) n.val v
  | .STAT => s.plainWrite false (.tm .STAT) n.val v
  | .RUN => s
  | .CAP => s
  | .CAPSTL => s
  | .CAPSTH => s

/-- The interrupt request of timer `n` (R467). -/
def timerIrq (s : State) (n : Nat) : Bool :=
  (s.reg (.tm .STAT) n &&& s.reg (.tm .IEN) n &&& 0xFF) != 0

end Sys2Proof.Machine
end

