-- ==== Sys2Proof/Machine/Slots.lean ====
section
/-! DEFINITION. Drive slots: motion states and commands, ripple counting, position, and the actions and records of a
slot (chapter 06, R195 to R223). The detections that a word makes are in SlotWords.lean. -/
namespace Sys2Proof.Machine

/-- Change slot `d`. -/
def updSlot (d : Fin 32) (f : Slot → Slot) (s : State) : State := { s with slots := upd s.slots d f }

/-- A field of a slot's configuration register. -/
def dsf (s : State) (r : DsReg) (d : Fin 32) (hi lo : Nat) : Nat := s.rfld (.ds r) d.val hi lo

/-- DS_CFG.EN (R195). -/
def slotOn (s : State) (d : Fin 32) : Bool := s.rbit (.ds .CFG) d.val 31

/-- DS_CFG.KIND (R196). -/
def slotKind (s : State) (d : Fin 32) : Nat := dsf s .CFG d 30 28

/-- Set bits of DS_STAT. -/
def dsFlag (d : Fin 32) (m : Nat) (s : State) : State := s.orReg (.ds .STAT) d.val m

/-- MSTATE code (R200). -/
def mstateCode : MState → Nat
  | .idle => 0 | .runFwd => 1 | .runRev => 2 | .coast => 3 | .reverse => 4 | .tripped => 5 | .degraded => 6

/-- The idle motion states (R200). -/
def idleMotion (m : MState) : Bool := m == .idle || m == .tripped || m == .degraded

/-- Driven: RUN_FWD, RUN_REV or REVERSE. -/
def driven (m : MState) : Bool := m == .runFwd || m == .runRev || m == .reverse

/-- Kinds 0 to 2 keep a position (R196). -/
def keepsPosition (s : State) (d : Fin 32) : Bool := decide (slotKind s d ≤ 2)

/-! ### Records and outputs -/

/-- A slot EVENT record (R223), with DS_EVENTS and ALERT where the code alerts. A slot that is not enabled emits and
publishes nothing (R195). -/
def slotEvent (d : Fin 32) (code data : Nat) (alert : Bool) (stamp : Stamp) (s : State) : State :=
  if slotOn s d then
    let x := s.slots[d]
    let s := emit .acq tEvent (srcSlot d.val) stamp
      [at_ d.val 27 ||| at_ code 20 ||| at_ (mstateCode x.mstate) 16 ||| at_ (data % 65536) 0,
       if keepsPosition s d then x.pos else 0] s
    if alert then publish prSlot d.val 3 (s.orReg (.ds .EVENTS) 0 (2 ^ d.val)) else s
  else s

/-- A slot MEASURE record (R222). -/
def slotMeasure (d : Fin 32) (q : Nat) (qual warm : Bool) (value : Word) (stamp : Stamp) (s : State) : State :=
  if slotOn s d then
    emit .acq tMeasure (srcSlot d.val) stamp
      [at_ d.val 27 ||| at_ q 23 ||| at_ (b2n qual) 22 ||| at_ (b2n warm) 21 |||
        at_ (b2n (q == 15 && s.slots[d].doubt)) 20, value] s
  else s

/-- The POSITION record of R222. -/
def positionRecord (d : Fin 32) (stamp : Stamp) (s : State) : State :=
  slotMeasure d 15 false false s.slots[d].pos stamp s

/-- A motion change publishes on FWD (0), REV (1) or OFF (2), and on path 2 queues the matching drive command (R199). -/
def slotOut (d : Fin 32) (output : Nat) (s : State) : State :=
  if slotOn s d then
    let s := publish prSlot d.val output s
    if dsf s .ACT d 31 30 = 2 then
      slotCommit (ix 2 (dsf s .ACT d 29 29)) (ix 32 (dsf s .ACT d 28 24)) (output + 1) 0 s
    else s
  else s

/-- The path action of a SPEED command (R199, R457). -/
def slotSpeedOut (d : Fin 32) (value : Nat) (s : State) : State :=
  if slotOn s d then
    match dsf s .ACT d 31 30 with
    | 1 => writeCmpA (ix 16 (dsf s .ACT d 23 20)) (BitVec.ofNat 32 value) s
    | 2 => slotCommit (ix 2 (dsf s .ACT d 29 29)) (ix 32 (dsf s .ACT d 28 24)) 4 value s
    | _ => s
  else s

/-! ### Position (R205 to R208) -/

/-- The position takes a value by counting; a slot with KEEP becomes DIRTY (R208). -/
def movePos (d : Fin 32) (p : Word) (s : State) : State :=
  updSlot d (fun x => { x with
    pos := p
    dirty := x.dirty || (s.rbit (.ds .CFG) d.val 27 && p != x.pos)
    taken := x.taken && p == x.pos }) s

/-- A write of DS_POSL (R208). DIRTY is set only with KEEP. -/
def writePosition (d : Fin 32) (p : Word) (s : State) : State :=
  updSlot d (fun x => { x with
    pos := p
    valid := true
    doubt := false
    corr := 0
    taken := false
    dirty := x.dirty || s.rbit (.ds .CFG) d.val 27 }) s

/-- Set DOUBT (R209). -/
def setDoubt (d : Fin 32) (s : State) : State :=
  updSlot d (fun x => { x with doubt := true, freeDoubt := if x.doubt then x.freeDoubt else x.owner == 0 }) s

/-- Direction of counting: −1 in RUN_REV and REVERSE, the direction of the last drive in COAST (R205). -/
def countDir (x : Slot) : Int :=
  match x.mstate with
  | .runFwd => 1
  | .runRev => -1
  | .reverse => -1
  | .coast => if x.backward then -1 else 1
  | _ => 0

/-- The coast estimate c (R206) for ripple rate 96,000,000 / p: 0 with fewer than two RIPPLE words. A p of 0 has no
rate: the estimate is then a free value (log entry 15). -/
def coastEst (d : Fin 32) (p m : Nat) (s : State) : Nat × State :=
  if slotKind s d ≠ 0 ∨ s.slots[d].words < 2 then (0, s)
  else
    let t := dsf s .RIPCFG d 10 0
    if p = 0 then let (v, s) := s.free 16; (v.toNat, s)
    else ((2 * 48000 * t + p) / (2 * p) - m, s)

/-- Entering a drive restarts the interval count (R205) and the time without motion (R212). -/
def startDrive (d : Fin 32) (m : MState) (backward : Bool) (s : State) : State :=
  updSlot d (fun x => { x with mstate := m, backward := backward, first := true, k := 0, words := 0, coastM := 0,
                               motion := s.now, motionPos := x.pos }) s

/-- Entering COAST (R202, R206). -/
def enterCoast (d : Fin 32) (s : State) : State :=
  updSlot d (fun x => { x with mstate := .coast, offPavg := x.pAvg, coastM := 0, motion := s.now }) s

/-! ### Commands (R201 to R204) -/

/-- Where a command comes from (R203, R223): a register, a task input, or a service by its number. -/
inductive CmdSource where
  | register | task | service (n : Nat)
  deriving DecidableEq, Repr

/-- The source code in EVENT DATA (R223). -/
def sourceCode : CmdSource → Nat
  | .register => 0 | .task => 1 | .service _ => 2

/-- Rank of a cause in R203; a smaller number ranks higher. -/
def rankOf : CmdSource → Nat
  | .task => 6 | .register => 7 | .service _ => 8

/-- A cause of this rank may act now: none of higher rank has acted on the slot at this edge (R203). -/
def mayAct (s : State) (d : Fin 32) (rank : Nat) : Bool :=
  !(s.slots[d].actEdge == s.clk.edge && decide (s.slots[d].actRank < rank) && s.slots[d].actRank != 0)

/-- Note that a cause of this rank has acted at this edge; the highest rank of the edge is kept. -/
def acted (d : Fin 32) (rank : Nat) (s : State) : State :=
  if s.slots[d].actEdge = s.clk.edge ∧ s.slots[d].actRank ≠ 0 ∧ s.slots[d].actRank < rank then s
  else updSlot d (fun x => { x with actEdge := s.clk.edge, actRank := rank }) s

/-- A command may act (R203). Of several task inputs at one edge the first in the order of R203 acts; EVENT_DELIVERY takes
them in that order. A service's command answers an event at a later edge than the event, so it is not ranked against the
cause it answers (log entry 17). -/
def cmdMayAct (s : State) (d : Fin 32) (src : CmdSource) : Bool :=
  match src with
  | .service _ => true
  | .task => mayAct s d 6 && !(s.slots[d].actEdge == s.clk.edge && s.slots[d].actRank == 6)
  | .register => mayAct s d 7

/-- Set CMDREJ (R201). -/
def rejectCmd (d : Fin 32) (s : State) : State := dsFlag d (2 ^ 5) s

/-- A service owns the slot and the command is not its own (R204). -/
def ownedByOther (s : State) (d : Fin 32) (src : CmdSource) : Bool :=
  s.slots[d].owner != 0 && (match src with | .service n => n != s.slots[d].owner | _ => true)

/-- FWD or REV (R201). -/
def slotDrive (d : Fin 32) (back : Bool) (src : CmdSource) (s : State) : State :=
  let m := s.slots[d].mstate
  if ownedByOther s d src || !(cmdMayAct s d src) || !(m == .idle || m == .coast) then rejectCmd d s
  else
    let s := acted d (rankOf src) (startDrive d (if back then .runRev else .runFwd) back s)
    slotEvent d (if back then 2 else 1) (sourceCode src) false s.now (slotOut d (b2n back) s)

/-- OFF (R201): never rejected for the state the slot is in. -/
def slotOffCore (d : Fin 32) (src : CmdSource) (s : State) : State :=
  if !(cmdMayAct s d src) then rejectCmd d s
  else
    let s0 := acted d (rankOf src) s
    if driven s.slots[d].mstate then
      slotEvent d 3 (sourceCode src) false s.now (slotOut d 2 (enterCoast d s0))
    else s0

/-- SPEED (R201). -/
def slotSpeed (d : Fin 32) (value : Nat) (src : CmdSource) (s : State) : State :=
  if ownedByOther s d src || !(cmdMayAct s d src) || s.slots[d].mstate == .degraded then rejectCmd d s
  else slotSpeedOut d value (acted d (rankOf src) s)

/-- CLEAR (R201). -/
def slotClear (d : Fin 32) (src : CmdSource) (s : State) : State :=
  if ownedByOther s d src || !(cmdMayAct s d src) || s.slots[d].mstate != .tripped then rejectCmd d s
  else acted d (rankOf src) (updSlot d (fun x => { x with mstate := .idle }) s)

/-! ### Trips, end stops and failures -/

/-- Publish OFF and become TRIPPED, with the flag and event of the cause. -/
def tripSlot (d : Fin 32) (rank flag : Nat) (s : State) : State :=
  dsFlag d flag (slotOut d 2 (acted d rank (updSlot d (fun x => { x with mstate := .tripped }) s)))

/-- The position is re-referenced at an end stop (R213): set to the limit, VALID, DOUBT and CORR clear. -/
def rereference (d : Fin 32) (atMax : Bool) (s : State) : State :=
  updSlot d (fun x => { x with valid := true, doubt := false, corr := 0 })
    (movePos d (s.reg (.ds (if atMax then .POSMAX else .POSMIN)) d.val) s)

/-- A bound train has failed (R220): OFF, DEGRADED, DOUBT, EVENT DEGRADED. -/
def degradeSlot (d : Fin 32) (train : Nat) (s : State) : State :=
  if s.slots[d].mstate = .degraded then s
  else
    let s := acted d 1 (setDoubt d (updSlot d (fun x => { x with mstate := .degraded }) s))
    slotEvent d 15 train true s.now (slotOut d 2 s)

/-- A bound train leaves RUNNING or WARMING on request (R221, R209). -/
def slotTrainStopped (d : Fin 32) (s : State) : State :=
  let m := s.slots[d].mstate
  if driven m then setDoubt d (slotOut d 2 (acted d 1 (enterCoast d s)))
  else if m = .idle then s
  else setDoubt d s

/-- The slot names train `n` as TRA or TRB (R195). -/
def slotUsesTrain (s : State) (d : Fin 32) (n : Nat) : Bool :=
  slotOn s d &&
  ((s.rbit (.ds .TRAINS) d.val 31 && dsf s .TRAINS d 27 24 == n) ||
   (s.rbit (.ds .TRAINS) d.val 23 && dsf s .TRAINS d 19 16 == n))

/-- Every slot bound to train `n` degrades (R220). -/
def degradeTrainSlots (n : Nat) (s : State) : State :=
  (List.finRange 32).foldl (fun s d => if slotUsesTrain s d n then degradeSlot d n s else s) s

/-- Every slot bound to train `n` sees it stop on request (R221). -/
def stopTrainSlots (n : Nat) (s : State) : State :=
  (List.finRange 32).foldl (fun s d => if slotUsesTrain s d n then slotTrainStopped d s else s) s

/-- A load rewrites a slot's configuration: it leaves DEGRADED (R220). -/
def slotReconfigured (d : Fin 32) (s : State) : State :=
  updSlot d (fun x => { x with mstate := if x.mstate = .degraded then .idle else x.mstate, reportAt := s.now, due := 0 }) s

end Sys2Proof.Machine
end

