-- ==== Sys2Proof/Machine/Services.lean ====
section
/-! DEFINITION. The resident services: Coolant Loop, Position Recall and Flap Homing, as the hub's firmware runs them
(chapter 06, R224 to R232). -/
namespace Sys2Proof.Machine

/-- RUNNER of a SERVICE record: 2 for the reduced loop on the Vane, 1 for A1 after an A0 fault reset, else 0 (R224). -/
def svcRunner (s : State) (service : Nat) : Nat :=
  if service = 1 ∧ s.rbit (.ds .CLCTL) 0 30 then 2
  else if s.rfld (.ic .CPUSTATx) 0 31 28 ≠ 0 then 1 else 0

/-- A SERVICE record (R224): system class, stamped when it reaches the merger. -/
def svcRecord (service code slot : Nat) (data : Word) (s : State) : State :=
  emit .sys tService (0x70 + service) s.now
    [at_ service 28 ||| at_ code 20 ||| at_ (svcRunner s service) 16 ||| at_ slot 11, data] s

/-- A signed number as a word. -/
def iw (x : Int) : Word := BitVec.ofInt 32 x

/-! ### Coolant Loop (R226 to R228) -/

/-- Change the loop. -/
def updLoop (f : CoolantLoop → CoolantLoop) (s : State) : State := { s with loop := f s.loop }

/-- Byte `k` of DS_CLTEMP or DS_CLDRV: the slot, if enabled. -/
def clSlot (s : State) (r : DsReg) (k : Nat) : Option (Fin 32) :=
  let b := fld (s.reg (.ds r)) (8 * k + 7) (8 * k)
  if 128 ≤ b then some (ix 32 (b % 32)) else none

/-- The latest TEMP of a slot with QUAL and WARM at 0 (R226), if a stream of it carries one. -/
def slotTemp (s : State) (d : Fin 32) : Option Int :=
  ((List.range 8).find? (fun i =>
    fld (s.reg (.ds .QUANT) d.val) (4 * i + 3) (4 * i) == 10 &&
    fld (s.reg (.ds .VALFLG) d.val) (4 * i + 2) (4 * i) == 1)).map
    (fun i => sInt (s.reg (.ds .VAL) (d.val * 8 + i)))

/-- The hottest temperature of the enabled temperature slots (R226). -/
def hottest (s : State) : Option Int :=
  (List.range 4).foldl (fun m k =>
    match clSlot s .CLTEMP k with
    | some d => (match slotTemp s d, m with
      | some t, some x => some (max t x)
      | some t, none => some t
      | none, m => m)
    | none => m) none

/-- speed(): a SPEED command, sent only when its value differs from the last one sent (R226). -/
def loopSpeed (i : Nat) (d : Fin 32) (v : Nat) (s : State) : State :=
  if s.loop.sent[ix 4 i] = some v then s
  else slotSpeed d v (.service 1) (updLoop (fun l => { l with sent := upd l.sent (ix 4 i) (fun _ => some v) }) s)

/-- The apply part of a step: pumps, then fans (R226, R227). -/
def loopApply (s : State) : State :=
  let mn := dsf s .CLRPM 0 15 0
  let mx := dsf s .CLRPM 0 31 16
  let u := s.loop.u.toNat
  let fansOn := if s.loop.fansOn then decide (dsf s .CLFAN 0 15 0 < u) else decide (dsf s .CLFAN 0 31 16 ≤ u)
  let s := [0, 1].foldl (fun s k =>
    match clSlot s .CLDRV k with
    | some d => if s.loop.pumps[ix 2 k].stopped then s else loopSpeed k d (mn + (mx - mn) * u / 1000) s
    | none => s) (updLoop (fun l => { l with fansOn := fansOn }) s)
  [2, 3].foldl (fun s k =>
    match clSlot s .CLDRV k with
    | some d => loopSpeed k d (if fansOn then u else 0) s
    | none => s) s

/-- One step of Coolant Loop (R226); in the reduced loop i_acc stays 0 (R228). -/
def loopStep (s : State) : State :=
  let l := s.loop
  let s := match hottest s with
    | none =>
      let lost := l.lost + 1
      let s := updLoop (fun l => { l with lost := lost, stepAt := s.now }) s
      if 3 ≤ lost then
        svcRecord 1 6 0 (iw lost) (updLoop (fun l => { l with u := 1000, sensorLost := true }) s)
      else s
    | some t =>
      let e := t - sext 16 (dsf s .CLSET 0 31 16)
      let up := (Int.tdiv ((dsf s .CLGAIN 0 31 16 : Int) * e) 100)
      let di := if s.rbit (.ds .CLCTL) 0 30 then 0
        else Int.tdiv ((dsf s .CLGAIN 0 15 0 : Int) * e * (dsf s .CLSET 0 15 0 : Int)) 100
      let u := up + Int.tdiv (l.iAcc + di) 1000
      let iAcc := if (u < 1000 ∨ di < 0) ∧ (u > 0 ∨ di > 0) then l.iAcc + di else l.iAcc
      updLoop (fun l => { l with
        lost := 0, sensorLost := false, tmax := t, iAcc := iAcc, stepAt := s.now,
        u := clampInt 0 1000 (up + Int.tdiv iAcc 1000) }) s
  let s := if 3 ≤ s.loop.lost ∨ s.loop.lost = 0 then loopApply s else s
  if (s.loop.u - s.loop.stepU).natAbs ≥ 10 then
    svcRecord 1 2 0 (at_ s.loop.u.toNat 16 ||| (iw s.loop.tmax &&& 0xFFFF)) (updLoop (fun l => { l with stepU := l.u }) s)
  else s

/-- The index of a pump slot in DS_CLDRV, while the loop runs. -/
def pumpIndex (s : State) (d : Fin 32) : Option (Fin 2) :=
  if !(s.rbit (.ds .CLCTL) 0 31) then none
  else if clSlot s .CLDRV 0 = some d then some 0
  else if clSlot s .CLDRV 1 = some d then some 1
  else none

/-- A pump slot declares dry-run (R227): OFF and DRY_STOP; after RETRY restarts DRY_FAULT. -/
def pumpDry (d : Fin 32) (s : State) : State :=
  match pumpIndex s d with
  | none => s
  | some k =>
    let p := s.loop.pumps[k]
    let limit := dsf s .CLDRY 0 7 0
    let s := slotOffCore d (.service 1) s
    let s := svcRecord 1 3 d.val (iw p.retries) (updLoop (fun l => { l with
      pumps := upd l.pumps k (fun p => { p with stopped := true, at_ := s.now, fault := decide (limit ≤ p.retries) })
      sent := upd l.sent (ix 4 k.val) (fun _ => none) }) s)
    if limit ≤ p.retries ∧ !(s.rbit (.ds .CLCTL) 0 30) then svcRecord 1 5 d.val (iw p.retries) s else s

/-- Restart a dry pump (R227); the reduced loop never restarts (R228). -/
def pumpRestart (k : Fin 2) (s : State) : State :=
  match clSlot s .CLDRV k.val with
  | none => s
  | some d =>
    let p := s.loop.pumps[k]
    if p.stopped && !p.fault && !(s.rbit (.ds .CLCTL) 0 30) && s.rbit (.ds .CLCTL) 0 31 &&
       decide (ms 1000 * dsf s .CLDRY 0 31 16 ≤ ticks p.at_ s.now) then
      let s := updLoop (fun l => { l with
        pumps := upd l.pumps k (fun p => { p with stopped := false, retries := p.retries + 1 }) }) s
      let s := loopSpeed k.val d (dsf s .CLRPM 0 15 0) (slotDrive d false (.service 1) s)
      svcRecord 1 4 d.val (iw (p.retries + 1)) s
    else s

/-- The slots named in DS_CLDRV. -/
def loopSlots (s : State) : List (Fin 32) := (List.range 4).filterMap (clSlot s .CLDRV)

/-- EN is set: the loop owns its slots and starts (R225). -/
def loopStart (s : State) : State :=
  let s := (loopSlots s).foldl (fun s d =>
    updSlot d (fun x => { x with owner := if x.owner = 0 then 1 else x.owner }) s) s
  let s := updLoop (fun _ =>
    { iAcc := 0, u := 0, tmax := 0, lost := 0, sensorLost := false, fansOn := false, sent := Vector.replicate 4 none,
      pumps := Vector.replicate 2 { stopped := false, retries := 0, fault := false, at_ := s.now }, stepU := 0,
      stepAt := s.now }) s
  svcRecord 1 1 0 (at_ (dsf s .CLSET 0 31 16) 0) s

/-- EN is cleared (R225). -/
def loopStop (s : State) : State :=
  let s := (List.finRange 32).foldl (fun s d => updSlot d (fun x => { x with owner := if x.owner = 1 then 0 else x.owner }) s) s
  svcRecord 1 7 0 0 s

/-- A write of DS_CLCTL: RUNNER is ignored while EN is 1 (R225, R228). -/
def writeClCtl (v : Word) (s : State) : State :=
  let was := s.rbit (.ds .CLCTL) 0 31
  let v := if was then putBit v 30 (s.rbit (.ds .CLCTL) 0 30) else v
  let s := s.plainWrite false (.ds .CLCTL) 0 v
  if bit v 31 && !was then loopStart s else if !(bit v 31) && was then loopStop s else s

/-! ### Position Recall (R229, R230) -/

/-- Change the recall. -/
def updRecall (f : Recall → Recall) (s : State) : State := { s with prRun := f s.prRun }

/-- Slot of entry `k` (DS_PRSLOT0, DS_PRSLOT1), if enabled. -/
def recallSlot (s : State) (k : Nat) : Option (Fin 32) :=
  let b := fld (s.reg (.ds .PRSLOT) (k / 4)) (8 * (k % 4) + 7) (8 * (k % 4))
  if 128 ≤ b then some (ix 32 (b % 32)) else none

/-- Enabled entries and their slots. -/
def prEntries (s : State) : List (Fin 8 × Fin 32) :=
  (List.finRange 8).filterMap (fun k => (recallSlot s k.val).map (fun d => (k, d)))

/-- Target of entry `k` in the memory of the recall. -/
def prTarget (s : State) (k : Fin 8) : Int := sInt (s.reg (.ds .PRMEM) (s.prRun.mem * 8 + k.val))

/-- Record a service code of the recall (PRSTAT.CODE). -/
def recallRecord (code slot : Nat) (data : Word) (s : State) : State :=
  svcRecord 2 code slot data (updRecall (fun r => { r with code := code }) s)

/-- Slots of the recall that move now. -/
def recallMoving (s : State) : Nat :=
  (List.finRange 8).foldl (fun n k => n + b2n (s.prRun.phase[k] == .moving)) 0

/-- Set the phase of an entry. -/
def setRecall (k : Fin 8) (p : RecallPhase) (s : State) : State :=
  updRecall (fun r => { r with phase := upd r.phase k (fun _ => p) }) s

/-- The recall ends: the slots are free again. -/
def recallRelease (s : State) : State :=
  (List.finRange 32).foldl (fun s d => updSlot d (fun x => { x with owner := if x.owner = 2 then 0 else x.owner }) s) s

/-- Entry `k` is done (R229). -/
def recallDone (k : Fin 8) (d : Fin 32) (s : State) : State :=
  recallRecord 2 d.val (iw (prTarget s k - sInt s.slots[d].pos)) (setRecall k .done s)

/-- Start entry `k` (R229). -/
def recallStart (k : Fin 8) (d : Fin 32) (s : State) : State :=
  let err := prTarget s k - sInt s.slots[d].pos
  if err.natAbs ≤ dsf s .PRPAR 0 31 24 then recallDone k d s
  else slotDrive d (decide (err < 0)) (.service 2) (setRecall k .moving s)

/-- Start waiting entries in order while fewer than CONC slots move; end with DONE when every entry is done (R229). -/
def recallAdvance (s : State) : State :=
  let s := (prEntries s).foldl (fun s e =>
    if s.prRun.phase[e.1] = .waiting ∧ recallMoving s < dsf s .PRPAR 0 23 20 then recallStart e.1 e.2 s else s) s
  if (prEntries s).all (fun e => s.prRun.phase[e.1] == .done) then
    recallRelease (recallRecord 3 0 (iw s.prRun.mem) (updRecall (fun r => { r with state := 2 }) s))
  else s

/-- The recall ends with an ABORT code: OFF to every moving slot (R229). A pinch reversal under way completes. -/
def recallAbort (code : Nat) (d : Fin 32) (s : State) : State :=
  if s.prRun.state ≠ 1 then s
  else
    let s := (prEntries s).foldl (fun s e =>
      if s.prRun.phase[e.1] = .moving ∧ s.slots[e.2].mstate ≠ .reverse then slotOffCore e.2 (.service 2) s else s) s
    recallRelease (recallRecord code d.val s.slots[d].pos (updRecall (fun r => { r with state := 3 }) s))

/-- The service takes a recall request (R229): refused with BUSY, refused for DOUBT, or started. -/
def recallTake (s : State) : State :=
  let s := s.clrReg (.ds .PRCTL) 0 (2 ^ 31)
  let es := prEntries s
  match es.find? (fun e => s.slots[e.2].owner != 0 && s.slots[e.2].owner != 2) with
  | some e => recallRecord 9 e.2.val (iw s.slots[e.2].owner) s
  | none =>
    match es.find? (fun e => !s.slots[e.2].valid || s.slots[e.2].doubt) with
    | some e => recallRecord 8 e.2.val 0 (updRecall (fun r => { r with state := 4 }) s)
    | none =>
      let mem := dsf s .PRCTL 0 29 28
      let s := updRecall (fun r => { r with
        state := 1, mem := mem, started := s.now, tries := Vector.replicate 8 0
        phase := es.foldl (fun v e => upd v e.1 (fun _ => RecallPhase.waiting)) (Vector.replicate 8 .none) }) s
      let s := es.foldl (fun s e => updSlot e.2 (fun x => { x with owner := 2 }) s) s
      recallAdvance (recallRecord 1 0 (iw mem) s)

/-- DS_PRMEM has been written or saved, so the positions page is dirty (R537). -/
def memoriesChanged (s : State) : State := { s with nvm := { s.nvm with prDirty := true } }

/-- Save positions into memory MEM (R230). -/
def recallSave (s : State) : State :=
  if s.prRun.state = 1 then s
  else
    let mem := dsf s .PRCTL 0 29 28
    (prEntries s).foldl (fun s e =>
      let x := s.slots[e.2]
      if !x.valid || x.doubt then s.orReg (.ds .PRSTAT) 0 (2 ^ 8)
      else memoriesChanged (s.setReg (.ds .PRMEM) (mem * 8 + e.1.val) x.pos)) s

/-- The entry of a moving slot of the recall. -/
def recallEntry (s : State) (d : Fin 32) : Option (Fin 8) :=
  if s.prRun.state ≠ 1 then none
  else ((prEntries s).find? (fun e => e.2 == d && s.prRun.phase[e.1] == .moving)).map (fun e => e.1)

/-- While an entry moves: OFF once the rest of the way is within the coast estimate and half the tolerance (R229). -/
def recallOnPosition (d : Fin 32) (s : State) : State :=
  match recallEntry s d with
  | none => s
  | some k =>
    if s.slots[d].mstate = .runFwd ∨ s.slots[d].mstate = .runRev then
      let (c, s) := coastEst d s.slots[d].pAvg 0 s
      if (prTarget s k - sInt s.slots[d].pos).natAbs ≤ c + dsf s .PRPAR 0 31 24 / 2 then slotOffCore d (.service 2) s else s
    else s

/-- COAST_END of a moving entry: once more, or done (R229). -/
def recallOnCoastEnd (d : Fin 32) (s : State) : State :=
  match recallEntry s d with
  | none => s
  | some k =>
    let err := (prTarget s k - sInt s.slots[d].pos).natAbs
    let n := s.prRun.tries[k]
    let s := updRecall (fun r => { r with tries := upd r.tries k (· + 1) }) s
    recallAdvance (if dsf s .PRPAR 0 31 24 < err ∧ n < 2 then recallStart k d s else recallDone k d s)

/-! ### Flap Homing (R231, R232) -/

/-- Change the homing run. -/
def updHoming (f : Homing → Homing) (s : State) : State := { s with homing := f s.homing }

/-- Set the phase of a slot. -/
def setHome (d : Fin 32) (p : HomePhase) (s : State) : State :=
  updHoming (fun h => { h with phase := upd h.phase d (fun _ => p) }) s

/-- Slots being homed now. -/
def homingActive (s : State) : Nat :=
  (List.finRange 32).foldl (fun n d => n + b2n (s.homing.phase[d] == .seeking || s.homing.phase[d] == .backing)) 0

/-- Start homing one slot: DOUBT, and drive towards POSMIN or POSMAX (R231 step 1). -/
def homeStart (d : Fin 32) (s : State) : State :=
  let s := updHoming (fun h => { h with
    since := upd h.since d (fun _ => s.now), from_ := upd h.from_ d (fun _ => s.slots[d].pos) }) (setHome d .seeking s)
  let s := updSlot d (fun x => { x with freeDoubt := false }) (setDoubt d s)
  slotDrive d (!(s.rbit (.ds .CFG) d.val 25)) (.service 3) s

/-- Mask of the slots in a phase. -/
def homeMask (s : State) (p : HomePhase) : Word := bitsOf 32 (fun i => s.homing.phase[ix 32 i] == p)

/-- Start waiting slots in slot order, at most CONC at once; end with DONE (R231). -/
def homingAdvance (s : State) : State :=
  let s := (List.finRange 32).foldl (fun s d =>
    if s.homing.phase[d] = .waiting ∧ homingActive s < dsf s .FHPAR 0 15 12 then homeStart d s else s) s
  if s.homing.running && decide (homingActive s = 0) && (List.finRange 32).all (fun d => s.homing.phase[d] != .waiting) then
    let s := (List.finRange 32).foldl (fun s d => updSlot d (fun x => { x with owner := if x.owner = 3 then 0 else x.owner }) s) s
    svcRecord 3 3 0 (homeMask s .failed) (updHoming (fun h => { h with running := false }) s)
  else s

/-- A slot fails its homing: OFF, SLOT_FAILED, and the run goes on (R231). -/
def homeFail (d : Fin 32) (why : Nat) (s : State) : State :=
  if s.homing.phase[d] = .seeking ∨ s.homing.phase[d] = .backing then
    homingAdvance (svcRecord 3 4 d.val (iw why) (slotOffCore d (.service 3) (setHome d .failed s)))
  else s

/-- Begin a run over the slots of a mask (R231). -/
def homingBegin (mask : Word) (s : State) : State :=
  let s := (List.finRange 32).foldl (fun s d =>
    if bit mask d.val then updSlot d (fun x => { x with owner := 3 }) s else s) s
  let s := updHoming (fun h => { h with
    running := true, phase := Vector.ofFn (fun d : Fin 32 => if bit mask d.val then HomePhase.waiting else .none) }) s
  homingAdvance (svcRecord 3 1 0 mask s)

/-- The service takes a homing request (R225, R231). -/
def homingTake (s : State) : State :=
  let s := s.clrReg (.ds .FHCTL) 0 (2 ^ 31)
  let mask := s.reg (.ds .FHMASK)
  match (List.finRange 32).find? (fun d => bit mask d.val && s.slots[d].owner != 0 && s.slots[d].owner != 3) with
  | some d => svcRecord 3 9 d.val (iw s.slots[d].owner) s
  | none => homingBegin mask s

/-- DS_FHCTL.STOP, or a host OFF on a slot of the run (R204, R231). -/
def homingAbort (s : State) : State :=
  if !s.homing.running then s
  else
    let s := (List.finRange 32).foldl (fun s d =>
      let s := if s.homing.phase[d] = .seeking ∨ s.homing.phase[d] = .backing then
        slotOffCore d (.service 3) (setHome d .failed s) else s
      updSlot d (fun x => { x with owner := if x.owner = 3 then 0 else x.owner }) s) s
    svcRecord 3 5 0 0 (updHoming (fun h => { h with running := false }) s)

/-- The end stop of a slot being homed (R231 steps 2 and 3): back off BACK counts. -/
def homingOnEndStop (d : Fin 32) (s : State) : State :=
  if s.homing.phase[d] = .seeking then
    let s := updHoming (fun h => { h with from_ := upd h.from_ d (fun _ => s.slots[d].pos) }) (setHome d .backing s)
    slotDrive d (s.rbit (.ds .CFG) d.val 25) (.service 3) s
  else s

/-- A position word of a slot being homed: the back-off is complete, or too many counts have been travelled (R231). -/
def homingOnPosition (d : Fin 32) (s : State) : State :=
  let far := (sInt s.slots[d].pos - sInt s.homing.from_[d]).natAbs
  match s.homing.phase[d] with
  | .backing =>
    if dsf s .FHPAR 0 31 16 ≤ far then
      homingAdvance (svcRecord 3 2 d.val (iw far) (slotOffCore d (.service 3) (setHome d .done s)))
    else s
  | .seeking =>
    let span := (sInt (s.reg (.ds .POSMAX) d.val) - sInt (s.reg (.ds .POSMIN) d.val)).natAbs
    if 5 * span < 4 * far then homeFail d 2 s else s
  | _ => s

/-! ### What services see of the slots -/

/-- A pinch, stall or blocked reversal on a slot ends its recall, and a pinch its homing (R229, R231). -/
def serviceOnTrouble (d : Fin 32) (recallCode : Nat) (s : State) : State :=
  let s := if s.slots[d].owner = 2 then recallAbort recallCode d s else s
  if s.slots[d].owner = 3 ∧ recallCode = 4 then homeFail d 4 s else s

/-- A slot that a service uses is degraded (R231). -/
def serviceOnDegraded (d : Fin 32) (s : State) : State :=
  if s.slots[d].owner = 3 then homeFail d 3 s else s

/-- OFF from any source; on a slot that Position Recall or Flap Homing owns, another source's OFF ends the service's use of
it as a host stop (R204). -/
def slotOff (d : Fin 32) (src : CmdSource) (s : State) : State :=
  let owner := s.slots[d].owner
  let other := ownedByOther s d src && cmdMayAct s d src
  let s := slotOffCore d src s
  if other then
    (if owner = 2 then recallAbort 7 d s else if owner = 3 then homingAbort s
     else updSlot d (fun x => { x with owner := 0 }) s)
  else s

end Sys2Proof.Machine
end

