-- ==== Sys2Proof/Machine/SlotWords.lean ====
section
/-! DEFINITION. What a drive slot does with a word of a bound train, with a sensor reading and with its own times: counting,
stall and end stop, soft limit, pinch, dry-run, imbalance, coast end and reports; and the DS_ registers (chapter 06). -/
namespace Sys2Proof.Machine

/-- Ticks from `a` to `b`, 0 when `b` is before `a`. -/
def sinceTicks (a b : Stamp) : Nat := if stLt b a then 0 else ticks a b

/-- Motion evidence with this stamp (R196, R202, R212). -/
def motionAt (d : Fin 32) (stamp : Stamp) (s : State) : State :=
  updSlot d (fun x => { x with motion := stamp, motionPos := x.pos }) s

/-! ### Counting (R205 to R207) -/

/-- Add `n` counts in the direction of counting, with `ins` of them inserted ones. -/
def addCounts (d : Fin 32) (n ins : Nat) (s : State) : State :=
  let x := s.slots[d]
  let s := movePos d (x.pos + BitVec.ofInt 32 (countDir x * n)) s
  let s := s.countFld (.ds .RIPSTAT) d.val 31 16 ins
  updSlot d (fun y => { y with corr := satAdd 0xFFFF y.corr ins, coastM := if y.mstate = .coast then y.coastM + n else y.coastM }) s

/-- dt / p_avg, or a free value where p_avg is 0 (log entry 15). `half` is 1 for the rounded quotient. -/
def perAvg (dt p half : Nat) (s : State) : Nat × State :=
  if p = 0 then let (v, s) := s.free 32; (v.toNat, s)
  else if half = 1 then ((2 * dt + p) / (2 * p), s) else (dt / p, s)

/-- p_avg + (dt - p_avg) / 8, truncated toward 0 (R205). -/
def blend (p dt : Nat) : Nat := ((p : Int) + Int.tdiv ((dt : Int) - p) 8).toNat

/-- The interval is accepted with `n` ripples: p_avg, k and s_last advance (R205). -/
def acceptInterval (d : Fin 32) (p : Nat) (low : Word) (s : State) : State :=
  updSlot d (fun y => { y with pAvg := p, k := y.k + 1, sLast := low }) s

/-- One interval of the procedure of R205 with `dt` ticks. -/
def countInterval (d : Fin 32) (corr : Bool) (dt : Nat) (stamp : Stamp) (s : State) : State :=
  let x := s.slots[d]
  let p := x.pAvg
  if x.k < 4 || !corr then
    addCounts d 1 0 (acceptInterval d (if x.k = 0 then dt else blend p dt) (stLo stamp) s)
  else if dt < p * dsf s .RIPCFG d 31 24 / 16 then s.countFld (.ds .RIPSTAT) d.val 15 8 1
  else if p * dsf s .RIPCFG d 23 16 / 16 < dt then
    let (n, s) := perAvg dt p 1 s
    if dsf s .RIPCFG d 15 12 + 1 < n then
      let (r, s) := perAvg dt p 0 s
      let s := slotEvent d 16 (min r 0xFFFF) true stamp (setDoubt d s)
      addCounts d 1 0 (acceptInterval d (blend p dt) (stLo stamp) s)
    else addCounts d n (n - 1) (acceptInterval d (blend p (if n = 0 then 0 else dt / n)) (stLo stamp) s)
  else addCounts d 1 0 (acceptInterval d (blend p dt) (stLo stamp) s)

/-- A RIPPLE word of kind 0 or a HALL word of kind 2 (R205, R207, R209). Counts of the value beyond 1 add a further ±1
each; a discarded word adds nothing. -/
def countWord (d : Fin 32) (corr : Bool) (value : Word) (stamp : Stamp) (s : State) : State :=
  let x := s.slots[d]
  if idleMotion x.mstate then s.countFld (.ds .RIPSTAT) d.val 7 0 1
  else
    let was := s.slots[d].sLast
    let s := updSlot d (fun y => { y with words := y.words + 1 }) s
    let s' :=
      if x.first then addCounts d 1 0 (updSlot d (fun y => { y with first := false, sLast := stLo stamp }) s)
      else countInterval d corr (stLo stamp - was).toNat stamp s
    let s' := motionAt d stamp s'
    if 1 < value.toNat ∧ (x.first ∨ s'.slots[d].k ≠ x.k) then addCounts d (value.toNat - 1) 0 s' else s'

/-- A POT word of kind 1: its value is the position (R207); a change of 2 counts is motion evidence (R212). -/
def potWord (d : Fin 32) (value : Word) (stamp : Stamp) (s : State) : State :=
  let s := updSlot d (fun x => { x with valid := true }) (movePos d value s)
  if 2 ≤ (sInt value - sInt s.slots[d].motionPos).natAbs then motionAt d stamp s else s

/-! ### Detections -/

/-- A stall is an end stop (R213); kinds that keep no position have none (log entry 16). -/
def isEndStop (s : State) (d : Fin 32) : Bool :=
  let x := s.slots[d]
  let limit := s.reg (.ds (if x.mstate = .runFwd then .POSMAX else .POSMIN)) d.val
  keepsPosition s d &&
  (decide ((sInt limit - sInt x.pos).natAbs ≤ dsf s .SPEED d 31 16) || !x.valid || x.doubt)

/-- An end stop (R213): OFF, IDLE, no coast; the position is re-referenced with REREF or under Flap Homing. -/
def endStop (d : Fin 32) (stamp : Stamp) (s : State) : State :=
  let fwd := s.slots[d].mstate = .runFwd
  let ref := s.rbit (.ds .CFG) d.val 26 || s.slots[d].owner == 3
  let s := acted d 3 (updSlot d (fun x => { x with mstate := .idle }) s)
  let s := dsFlag d (2 ^ 2) (slotOut d 2 s)
  let s := if ref then rereference d fwd s else s
  let s := slotEvent d (if fwd then 7 else 6) (b2n ref) false stamp s
  homingOnEndStop d (if ref then positionRecord d s.now s else s)

/-- A CURRENT word (R212, R213). -/
def currentWord (d : Fin 32) (value : Word) (stamp : Stamp) (s : State) : State :=
  let x := s.slots[d]
  let level := (sInt value).natAbs / 256
  let ithr := dsf s .STALL d 31 16
  if ithr ≠ 0 ∧ ithr ≤ level ∧ slotKind s d ≤ 4 ∧ (x.mstate = .runFwd ∨ x.mstate = .runRev) ∧
     ms (dsf s .STALL d 15 4) ≤ sinceTicks x.motion stamp ∧ mayAct s d 3 then
    if isEndStop s d then endStop d stamp s
    else serviceOnTrouble d 5 (slotEvent d 5 (min level 0xFFFF) true stamp (tripSlot d 3 (2 ^ 3) s))
  else s

/-- The soft limit at a position word (R214). -/
def softLimit (d : Fin 32) (stamp : Stamp) (s : State) : State :=
  let x := s.slots[d]
  if s.rbit (.ds .CFG) d.val 24 ∧ (x.mstate = .runFwd ∨ x.mstate = .runRev) ∧ mayAct s d 4 then
    let (c, s) := coastEst d x.pAvg 0 s
    let hit := if x.mstate = .runFwd then decide (sInt (s.reg (.ds .POSMAX) d.val) ≤ sInt x.pos + c)
      else decide (sInt x.pos - c ≤ sInt (s.reg (.ds .POSMIN) d.val))
    if hit then slotEvent d 8 0 true stamp (slotOut d 2 (enterCoast d (acted d 4 s))) else s
  else s

/-- Counts between the position and the position at the PINCH edge. -/
def backedOff (s : State) (d : Fin 32) : Nat := (sInt s.slots[d].pos - sInt s.slots[d].pinchPos).natAbs

/-- The back-off of R215 step 3 ends at BACK counts: OFF and COAST. -/
def reverseByCount (d : Fin 32) (s : State) : State :=
  if s.slots[d].mstate = .reverse ∧ dsf s .PINCH d 29 16 ≤ backedOff s d then slotOut d 2 (enterCoast d (acted d 2 s)) else s

/-- The end of a reversal by count or by TREV (R215 step 3). -/
def reverseEnd (d : Fin 32) (s : State) : State :=
  if s.slots[d].mstate ≠ .reverse then s
  else if dsf s .PINCH d 29 16 ≤ backedOff s d then slotOut d 2 (enterCoast d (acted d 2 s))
  else if ms (dsf s .PINCH d 15 0) ≤ sinceTicks s.slots[d].pinchAt s.now then
    let n := backedOff s d
    let s := slotOut d 2 (enterCoast d (acted d 2 s))
    serviceOnTrouble d 4 (slotEvent d 10 (min n 0xFFFF) true s.now s)
  else s

/-- Entry to REVERSE (R205, R215 steps 1 and 2). -/
def enterReverse (d : Fin 32) (s : State) : State :=
  let wasFwd := s.slots[d].mstate = .runFwd
  let s := updSlot d (fun x => { x with mstate := .reverse, backward := true, first := true, k := 0, pinchPos := x.pos,
                                        pinchAt := s.now }) s
  slotOut d (if wasFwd then 1 else 0) s

/-- The PINCH task input (R215). With EN at 0 a driven slot enters COAST with the OFF it publishes (log entry 16). -/
def slotPinch (d : Fin 32) (s : State) : State :=
  let m := s.slots[d].mstate
  let running := m = .runFwd ∨ m = .runRev
  let en := s.rbit (.ds .PINCH) d.val 31
  let guarded := if s.rbit (.ds .PINCH) d.val 30 then MState.runRev else .runFwd
  if !(mayAct s d 2) then rejectCmd d s
  else if m = .reverse then s
  else
    let s := acted d 2 s
    let s :=
      if en = true ∧ m = guarded then slotEvent d 9 0 true s.now (dsFlag d (2 ^ 4) (enterReverse d s))
      else if en = true ∧ running then
        slotEvent d 9 2 true s.now (dsFlag d (2 ^ 4) (slotOut d 2 (enterCoast d s)))
      else slotEvent d 9 1 true s.now (slotOut d 2 (if running then enterCoast d s else s))
    serviceOnTrouble d 4 s

/-- The next persistence of a decision for one counted score (R218): `active` is the level test of the side that is not in
force, `t` the persistence in ticks. The flag says that the decision changes at this word. -/
def persist (p : Persist) (active : Bool) (t : Nat) (stamp : Stamp) : Persist × Bool :=
  if active then
    match p.since with
    | none => ({ p with since := some stamp }, decide (t = 0))
    | some b => (p, decide (t ≤ sinceTicks b stamp))
  else ({ p with since := none }, false)

/-- One DRYSCORE word (R218). -/
def dryWord (d : Fin 32) (marked : Bool) (value : Word) (stamp : Stamp) (s : State) : State :=
  let p := s.slots[d].dry
  let t := ms 100 * dsf s .DRY d 31 16
  let stop := s.rbit (.ds .CFG) d.val 23
  let put (q : Persist) (s : State) : State := updSlot d (fun x => { x with dry := q }) s
  if p.declared then
    if marked then s
    else
      let (q, done) := persist p (decide (value.toNat < dsf s .DRYTHR d 15 0)) t stamp
      if done then slotEvent d 12 (value.toNat / 65536) false stamp (put { declared := false, since := none } s)
      else put q s
  else if marked then put { p with since := none } s
  else
    let fast := dsf s .DRY d 15 0 ≤ s.slots[d].speed.toNat
    let above := dsf s .DRYTHR d 31 16 ≤ value.toNat
    let (q, done) := persist p (decide above && (p.since.isSome || decide fast)) t stamp
    if done then
      if stop && !(mayAct s d 5) then put q s
      else
        let s := put { declared := true, since := none } s
        let s := if stop && s.slots[d].mstate != .degraded then tripSlot d 5 (2 ^ 1) s else s
        pumpDry d (slotEvent d 11 (value.toNat / 65536) true stamp s)
    else put q s

/-- One imbalance score (R219). -/
def imbScore (d : Fin 32) (marked : Bool) (value : Word) (stamp : Stamp) (s : State) : State :=
  let p := s.slots[d].imb
  let t := ms 100 * dsf s .IMBAL d 15 0
  let stop := s.rbit (.ds .CFG) d.val 22
  let put (q : Persist) (s : State) : State := updSlot d (fun x => { x with imb := q }) s
  if p.declared then
    if marked then s
    else
      let (q, done) := persist p (decide (value.toNat < dsf s .IMBTHR d 15 0)) t stamp
      if done then slotEvent d 14 (value.toNat / 65536) false stamp (put { declared := false, since := none } s)
      else put q s
  else if marked then put { p with since := none } s
  else
    let (q, done) := persist p (decide (dsf s .IMBTHR d 31 16 ≤ value.toNat)) t stamp
    if done then
      if stop && !(mayAct s d 5) then put q s
      else
        let s := put { declared := true, since := none } s
        let s := if stop && s.slots[d].mstate != .degraded then tripSlot d 5 (2 ^ 1) s else s
        slotEvent d 13 (value.toNat / 65536) true stamp s
    else put q s

/-- A reading of a sensor profile (R219): each full window gives one score, maximum minus minimum. -/
def slotReading (d : Fin 32) (profile : Nat) (axis : Int) (stamp : Stamp) (s : State) : State :=
  if slotOn s d && s.rbit (.ds .IMBAL) d.val 31 && dsf s .IMBAL d 27 24 == profile then
    let x := s.slots[d]
    let n := x.winCount + 1
    let hi := if x.winCount = 0 then axis else max x.winMax axis
    let lo := if x.winCount = 0 then axis else min x.winMin axis
    if dsf s .IMBAL d 23 16 ≤ n then
      imbScore d false (BitVec.ofInt 32 (hi - lo)) stamp (updSlot d (fun x => { x with winCount := 0 }) s)
    else updSlot d (fun x => { x with winCount := n, winMax := hi, winMin := lo }) s
  else s

/-- A SPEED word: the latest speed; below MINSPD it ends an undecided dry-run run, else it is motion evidence of kinds 3
and 4 (R212, R218). -/
def speedWord (d : Fin 32) (value : Word) (stamp : Stamp) (s : State) : State :=
  let s := updSlot d (fun x => { x with speed := value }) s
  if value.toNat < dsf s .DRY d 15 0 then
    updSlot d (fun x => { x with dry := if x.dry.declared then x.dry else { x.dry with since := none } }) s
  else if 3 ≤ slotKind s d ∧ slotKind s d ≤ 4 then motionAt d stamp s else s

/-- What follows each position word: end of a reversal, soft limit, and the services (R214, R215, R229, R231). -/
def afterPosition (d : Fin 32) (stamp : Stamp) (s : State) : State :=
  homingOnPosition d (recallOnPosition d (softLimit d stamp (reverseByCount d s)))

/-! ### Words (R197) -/

/-- The action of a word by its quantity code (R197). -/
def quantityWord (d : Fin 32) (q : Nat) (marked : Bool) (value : Word) (stamp : Stamp) (s : State) : State :=
  let s := if (q = 1 ∨ q = 2) ∧ marked = true then setDoubt d s else s
  match q with
  | 1 => if slotKind s d = 0 then afterPosition d stamp (countWord d (s.rbit (.ds .RIPCFG) d.val 11) value stamp s) else s
  | 2 => if slotKind s d = 2 then afterPosition d stamp (countWord d false value stamp s) else s
  | 3 => currentWord d value stamp s
  | 5 => if slotKind s d = 1 then afterPosition d stamp (potWord d value stamp s) else s
  | 6 => speedWord d value stamp s
  | 7 => dryWord d marked value stamp s
  | 8 => if s.rbit (.ds .IMBAL) d.val 31 then s else imbScore d marked value stamp s
  | _ => s

/-- Slot stream `i` takes a word (R197, R241). Codes 0 and 15 take none from a train. -/
def slotWord (d : Fin 32) (i : Nat) (qual warm : Bool) (value : Word) (stamp : Stamp) (s : State) : State :=
  let q := fld (s.reg (.ds .QUANT) d.val) (4 * i + 3) (4 * i)
  if q = 0 ∨ q = 15 then s
  else
    let s := s.setReg (.ds .VAL) (d.val * 8 + i) value
    let s := s.setFld (.ds .VALFLG) d.val (4 * i + 2) (4 * i) (1 + 2 * b2n qual + 4 * b2n warm)
    let s := if bit (BitVec.ofNat 16 s.slots[d].due) q then
      slotMeasure d q qual warm value stamp (updSlot d (fun x => { x with due := x.due - 2 ^ q }) s) else s
    quantityWord d q (qual || warm) value stamp s

/-- A train's outlet releases a word to the drive slots (R143, R197). -/
def trainWordToSlots (n stream : Nat) (qual warm : Bool) (value : Word) (stamp : Stamp) (s : State) : State :=
  (List.finRange 32).foldl (fun s d =>
    if slotOn s d then
      let w := s.reg (.ds .TRAINS) d.val
      let s := if bit w 31 && fld w 27 24 == n then slotWord d stream qual warm value stamp s else s
      if bit w 23 && fld w 19 16 == n then slotWord d (4 + stream) qual warm value stamp s else s
    else s) s

/-! ### Times -/

/-- The end of COAST (R202, R206): STILL milliseconds without motion evidence. -/
def coastEnd (d : Fin 32) (s : State) : State :=
  let x := s.slots[d]
  if x.mstate = .coast ∧ ms (dsf s .SPEED d 15 0) ≤ sinceTicks x.motion s.now ∧ mayAct s d 9 then
    let (c, s) := coastEst d x.offPavg x.coastM s
    let s := movePos d (x.pos + BitVec.ofInt 32 (countDir x * c)) s
    let s := acted d 9 (updSlot d (fun y => { y with mstate := .idle }) s)
    recallOnCoastEnd d (positionRecord d s.now (slotEvent d 4 c false s.now s))
  else s

/-- The report period of a slot expires (R222, R241). -/
def reportTick (d : Fin 32) (s : State) : State :=
  let p := dsf s .REPORT d 31 16
  if slotOn s d ∧ p ≠ 0 ∧ ms p ≤ sinceTicks s.slots[d].reportAt s.now then
    let mask := dsf s .REPORT d 15 0
    let s := updSlot d (fun x => { x with reportAt := stAdd x.reportAt (ms p), due := mask % 2 ^ 15 }) s
    if 2 ^ 15 ≤ mask then positionRecord d s.now s else s
  else s

/-! ### Registers -/

/-- A bound train of the slot is WARMING. -/
def slotWarming (s : State) (d : Fin 32) (warming : Nat → Bool) : Bool :=
  (s.rbit (.ds .TRAINS) d.val 31 && warming (dsf s .TRAINS d 27 24)) ||
  (s.rbit (.ds .TRAINS) d.val 23 && warming (dsf s .TRAINS d 19 16))

/-- The values a slot configuration register may hold (R196, R197, R233). -/
def dsInRange (r : DsReg) (v : Word) : Bool :=
  match r with
  | .CFG => decide (fld v 30 28 ≤ 5)
  | .QUANT => (List.range 8).all (fun i => decide (fld v (4 * i + 3) (4 * i) ≤ 10 ∨ fld v (4 * i + 3) (4 * i) = 15))
  | .ACT => decide (fld v 31 30 ≤ 2 ∧ ¬(fld v 31 30 = 2 ∧ fld v 28 24 = 0))
  | .SPEED => decide (1 ≤ fld v 15 0)
  | .RIPCFG => decide (1 ≤ fld v 31 24 ∧ fld v 31 24 ≤ 15 ∧ 17 ≤ fld v 23 16 ∧ fld v 23 16 ≤ 63 ∧
                       1 ≤ fld v 15 12 ∧ fld v 15 12 ≤ 7)
  | .STALL => decide (1 ≤ fld v 15 4)
  | .PINCH => decide (1 ≤ fld v 15 0)
  | .DRY => decide (1 ≤ fld v 31 16)
  | .DRYTHR => decide (fld v 15 0 < fld v 31 16)
  | .IMBAL => decide (2 ≤ fld v 23 16 ∧ 1 ≤ fld v 15 0)
  | .IMBTHR => decide (fld v 15 0 < fld v 31 16)
  | .CLSET => decide (20 ≤ fld v 15 0 ∧ fld v 15 0 ≤ 1000)
  | .CLRPM => decide (fld v 15 0 < fld v 31 16)
  | .CLFAN => decide (fld v 15 0 < fld v 31 16)
  | .CLDRY => decide (1 ≤ fld v 31 16 ∧ fld v 31 16 ≤ 3600 ∧ fld v 7 0 ≤ 10)
  | .PRPAR => decide (1 ≤ fld v 23 20 ∧ fld v 23 20 ≤ 8 ∧ 1 ≤ fld v 15 0)
  | .FHPAR => decide (1 ≤ fld v 15 12 ∧ fld v 15 12 ≤ 8 ∧ 1 ≤ fld v 11 0)
  | _ => true

/-- The slot that the accessor's DS_SEL selects (R37). -/
def selSlot (a : Accessor) (s : State) : Fin 32 := ix 32 (selOf (.ds .SEL) a s)

/-- A write of DS_CFG: clearing KEEP clears DIRTY (R208). -/
def writeDsCfg (d : Fin 32) (v : Word) (s : State) : State :=
  updSlot d (fun x => { x with dirty := x.dirty && bit v 27 }) (s.plainWrite false (.ds .CFG) d.val v)

/-- A write of DS_REPORT restarts the report period at this edge. -/
def writeReport (d : Fin 32) (v : Word) (s : State) : State :=
  updSlot d (fun x => { x with reportAt := s.now, due := 0 }) (s.plainWrite false (.ds .REPORT) d.val v)

/-- A write of DS_CMD (R201). -/
def writeDsCmd (d : Fin 32) (v : Word) (s : State) : State :=
  match fld v 31 28 with
  | 1 => slotDrive d false .register s
  | 2 => slotDrive d true .register s
  | 3 => slotOff d .register s
  | 4 => slotSpeed d (fld v 15 0) .register s
  | 5 => slotClear d .register s
  | _ => s

/-- DS_PRCTL.STOP: a host stop of the recall (R229). -/
def recallStop (s : State) : State :=
  let d := match (prEntries s).find? (fun e => s.prRun.phase[e.1] == .moving) with
    | some e => e.2
    | none => 0
  recallAbort 7 d (s.clrReg (.ds .PRCTL) 0 (2 ^ 31))

/-- A write of DS_PRCTL (R229, R230): MEM, then SAVE, STOP and GO. -/
def writePrCtl (v : Word) (s : State) : State :=
  let s := s.setFld (.ds .PRCTL) 0 29 28 (fld v 29 28)
  let s := if bit v 27 then recallSave s else s
  let s := if bit v 30 then recallStop s else s
  if bit v 31 then s.orReg (.ds .PRCTL) 0 (2 ^ 31) else s

/-- A write of DS_FHCTL (R231). -/
def writeFhCtl (v : Word) (s : State) : State :=
  let s := s.setFld (.ds .FHCTL) 0 29 28 (fld v 29 28)
  let s := if bit v 30 then homingAbort (s.clrReg (.ds .FHCTL) 0 (2 ^ 31)) else s
  if bit v 31 then s.orReg (.ds .FHCTL) 0 (2 ^ 31) else s

/-- DS_POSH of a slot (R208). -/
def posHigh (x : Slot) : Word := at_ (b2n x.valid) 31 ||| at_ (b2n x.doubt) 30 ||| at_ (b2n x.dirty) 29 ||| at_ x.corr 0

/-- DS_SVCSTAT. -/
def svcStat (s : State) : Word :=
  let cl := if !(s.rbit (.ds .CLCTL) 0 31) then 0 else if s.loop.sensorLost then 3
    else if s.rbit (.ds .CLCTL) 0 30 then 2 else 1
  at_ cl 28 ||| at_ (b2n (s.prRun.state == 1)) 24 ||| at_ (b2n s.homing.running) 20

/-- A read of a DS_ register, array entry `i`; `warming` says which trains are WARMING. -/
def dsRead (a : Accessor) (warming : Nat → Bool) (r : DsReg) (i : Nat) (s : State) : Word × State :=
  let d := selSlot a s
  let x := s.slots[d]
  match r with
  | .CMD => (0, s)
  | .STAT => (at_ (mstateCode x.mstate) 28 ||| at_ x.owner 26 ||| at_ (b2n (slotWarming s d warming)) 25 |||
              at_ (b2n x.dry.declared) 24 ||| at_ (b2n x.imb.declared) 23 ||| s.reg (.ds .STAT) d.val, s)
  | .POSL => (x.pos, snapshot (.ds .POSH) a (posHigh x) s)
  | .POSH => (s.reg (.ds .POSH) (accU a), s)
  | .RIPSTAT => (s.reg (.ds .RIPSTAT) d.val, s.readClear a (.ds .RIPSTAT) d.val)
  | .PERIOD => (BitVec.ofNat 32 x.pAvg, s)
  | .VAL => (s.reg (.ds .VAL) (d.val * 8 + i), s)
  | .VALFLG => (s.reg (.ds .VALFLG) d.val, s)
  | .SEL => (s.reg (.ds .SEL) (accU a), s)
  | .MOVING => (bitsOf 32 (fun j => !idleMotion s.slots[ix 32 j].mstate), s)
  | .DEGRADED => (bitsOf 32 (fun j => s.slots[ix 32 j].mstate == .degraded), s)
  | .EVENTS => (s.reg (.ds .EVENTS), s)
  | .DIRTY => (bitsOf 32 (fun j => s.slots[ix 32 j].dirty), s)
  | .SVCSTAT => (svcStat s, s)
  | .CLOUT => (at_ s.loop.u.toNat 16 ||| (iw s.loop.tmax &&& 0xFFFF), s)
  | .PRSTAT => (at_ s.prRun.state 28 ||| at_ s.prRun.code 20 ||| s.reg (.ds .PRSTAT) |||
                bitsOf 8 (fun k => s.prRun.phase[ix 8 k] == .done), s)
  | .PRSLOT => (s.reg (.ds .PRSLOT) i, s)
  | .PRMEM => (s.reg (.ds .PRMEM) i, s)
  | .FHDONE => (homeMask s .done, s)
  | .FHFAIL => (homeMask s .failed, s)
  | .CLCTL => (s.reg (.ds .CLCTL), s)
  | .CLTEMP => (s.reg (.ds .CLTEMP), s)
  | .CLDRV => (s.reg (.ds .CLDRV), s)
  | .CLSET => (s.reg (.ds .CLSET), s)
  | .CLGAIN => (s.reg (.ds .CLGAIN), s)
  | .CLRPM => (s.reg (.ds .CLRPM), s)
  | .CLFAN => (s.reg (.ds .CLFAN), s)
  | .CLDRY => (s.reg (.ds .CLDRY), s)
  | .PRCTL => (s.reg (.ds .PRCTL), s)
  | .PRPAR => (s.reg (.ds .PRPAR), s)
  | .FHCTL => (s.reg (.ds .FHCTL), s)
  | .FHMASK => (s.reg (.ds .FHMASK), s)
  | .FHPAR => (s.reg (.ds .FHPAR), s)
  | .CFG => (s.reg (.ds .CFG) d.val, s)
  | .TRAINS => (s.reg (.ds .TRAINS) d.val, s)
  | .QUANT => (s.reg (.ds .QUANT) d.val, s)
  | .ACT => (s.reg (.ds .ACT) d.val, s)
  | .SPEED => (s.reg (.ds .SPEED) d.val, s)
  | .RIPCFG => (s.reg (.ds .RIPCFG) d.val, s)
  | .POSMIN => (s.reg (.ds .POSMIN) d.val, s)
  | .POSMAX => (s.reg (.ds .POSMAX) d.val, s)
  | .STALL => (s.reg (.ds .STALL) d.val, s)
  | .PINCH => (s.reg (.ds .PINCH) d.val, s)
  | .DRY => (s.reg (.ds .DRY) d.val, s)
  | .DRYTHR => (s.reg (.ds .DRYTHR) d.val, s)
  | .IMBAL => (s.reg (.ds .IMBAL) d.val, s)
  | .IMBTHR => (s.reg (.ds .IMBTHR) d.val, s)
  | .REPORT => (s.reg (.ds .REPORT) d.val, s)

/-- A configuration register of the selected slot, or a global one, taken under its ranges (R233). -/
def dsPlain (r : DsReg) (u : Nat) (v : Word) (s : State) : State :=
  if dsInRange r v then s.plainWrite false (.ds r) u v else s

/-- A write of a DS_ register, array entry `i`. -/
def dsWrite (a : Accessor) (r : DsReg) (i : Nat) (v : Word) (s : State) : State :=
  let d := selSlot a s
  match r with
  | .CFG => if dsInRange .CFG v then writeDsCfg d v s else s
  | .REPORT => writeReport d v s
  | .CMD => writeDsCmd d v s
  | .POSL => writePosition d v s
  | .SEL => writeSel (.ds .SEL) a 0 31 v s
  | .CLCTL => writeClCtl v s
  | .PRCTL => writePrCtl v s
  | .FHCTL => writeFhCtl v s
  | .STAT => s.plainWrite false (.ds .STAT) d.val v
  | .EVENTS => s.plainWrite false (.ds .EVENTS) 0 v
  | .PRSTAT => s.plainWrite false (.ds .PRSTAT) 0 v
  | .PRSLOT => s.plainWrite false (.ds .PRSLOT) i v
  | .PRMEM => memoriesChanged (s.plainWrite false (.ds .PRMEM) i v)
  | .CLTEMP => dsPlain .CLTEMP 0 v s
  | .CLDRV => dsPlain .CLDRV 0 v s
  | .CLSET => dsPlain .CLSET 0 v s
  | .CLGAIN => dsPlain .CLGAIN 0 v s
  | .CLRPM => dsPlain .CLRPM 0 v s
  | .CLFAN => dsPlain .CLFAN 0 v s
  | .CLDRY => dsPlain .CLDRY 0 v s
  | .PRPAR => dsPlain .PRPAR 0 v s
  | .FHMASK => dsPlain .FHMASK 0 v s
  | .FHPAR => dsPlain .FHPAR 0 v s
  | .TRAINS => dsPlain .TRAINS d.val v s
  | .QUANT => dsPlain .QUANT d.val v s
  | .ACT => dsPlain .ACT d.val v s
  | .SPEED => dsPlain .SPEED d.val v s
  | .RIPCFG => dsPlain .RIPCFG d.val v s
  | .POSMIN => dsPlain .POSMIN d.val v s
  | .POSMAX => dsPlain .POSMAX d.val v s
  | .STALL => dsPlain .STALL d.val v s
  | .PINCH => dsPlain .PINCH d.val v s
  | .DRY => dsPlain .DRY d.val v s
  | .DRYTHR => dsPlain .DRYTHR d.val v s
  | .IMBAL => dsPlain .IMBAL d.val v s
  | .IMBTHR => dsPlain .IMBTHR d.val v s
  | .POSH => s
  | .RIPSTAT => s
  | .PERIOD => s
  | .VAL => s
  | .VALFLG => s
  | .MOVING => s
  | .DEGRADED => s
  | .DIRTY => s
  | .SVCSTAT => s
  | .CLOUT => s
  | .FHDONE => s
  | .FHFAIL => s

/-- The drive-slot interrupt request (R233). -/
def slotIrq (s : State) : Bool := s.reg (.ds .EVENTS) != 0

/-- The service interrupt request (R233). -/
def serviceIrq (s : State) : Bool := s.rbit (.ds .PRCTL) 0 31 || s.rbit (.ds .FHCTL) 0 31

end Sys2Proof.Machine
end

