-- ==== Sys2Proof/Machine/Coach.lean ====
section
/-! DEFINITION. Carriages: micro-instructions, input ports, emission over couplings and row buses, lane taps, and the
operation set (chapter 04, R116 to R137, R610 to R613). -/
namespace Sys2Proof.Machine

/-- Change Coachwork. -/
def updCoach (f : Coach → Coach) (s : State) : State := { s with coach := f s.coach }

/-- Change position `p`. -/
def updCar (p : Fin 68) (f : Carriage → Carriage) (s : State) : State :=
  updCoach (fun c => { c with cars := upd c.cars p f }) s

/-- Change train `n`. -/
def updTrain (n : Fin 16) (f : Train → Train) (s : State) : State :=
  updCoach (fun c => { c with trains := upd c.trains n f }) s

/-- Change the loader. -/
def updLoader (f : Loader → Loader) (s : State) : State := updCoach (fun c => { c with loader := f c.loader }) s

/-! ### Store -/

/-- Address of store word `i` of position `p` (R119). -/
def carAddr (p : Fin 68) (i : Nat) : Nat := 0x30000000 + p.val * 0x800 + 4 * i

/-- Store word `i`. -/
def carWord (s : State) (p : Fin 68) (i : Nat) : Word := s.readWord (carAddr p i)

/-- Store word `i` as a signed number. -/
def carInt (s : State) (p : Fin 68) (i : Nat) : Int := sInt (carWord s p i)

/-- The parity bit of store word `i` is wrong (R147, R160). -/
def parityBad (s : State) (p : Fin 68) (i : Nat) : Bool := Sparse.get (fun _ => false) s.coach.badPar (p.val * 512 + i)

/-- Mark the parity of a store word. -/
def setParity (p : Fin 68) (i : Nat) (bad : Bool) (s : State) : State :=
  updCoach (fun c => { c with badPar := Sparse.set (fun _ => false) c.badPar (p.val * 512 + i) bad }) s

/-- The carriage writes a store word, with its parity. -/
def setCarWord (p : Fin 68) (i : Nat) (v : Word) (s : State) : State :=
  setParity p i false (s.writeWord (carAddr p i) v)

/-! ### Micro-instructions (R122) -/

/-- The fields of a micro-instruction. LEN 0 means 128. -/
structure Micro where
  op : Nat
  src : Nat
  dst : Nat
  base : Nat
  len : Nat
  cond : Nat
  imm : Word
  deriving DecidableEq, Repr

/-- Read the fields (R122). -/
def decodeMicro (w : BitVec 64) : Micro :=
  { op := fld w 63 58, src := fld w 57 55, dst := fld w 54 52, base := fld w 51 43,
    len := if fld w 42 36 = 0 then 128 else fld w 42 36, cond := fld w 35 32, imm := w.setWidth 32 }

/-- The fill of R166: OP 0x3F. -/
def invalidMicro : BitVec 64 := 0xFC00000000000000

/-- Entry `i` of a position's micro-program. -/
def entryAt (c : Carriage) (i : Fin 64) : Micro := decodeMicro (c.prog.getD i.val invalidMicro)

/-- SH (R121). -/
def shOf (m : Micro) : Nat := fld m.imm 29 24

/-- COND holds (R122). -/
def condTrue (c : Carriage) (m : Micro) : Bool :=
  let f := c.flags.getLsbD (m.cond % 4)
  if m.cond < 8 then true else if m.cond < 12 then f else !f

/-- Hidden state of entry `i` (R610). -/
def hiddenAt (c : Carriage) (i : Fin 64) : Hidden :=
  Sparse.get (fun _ => { phase := 0, flag := false, x1 := 0, x2 := 0 }) c.hidden i.val

/-- Change the hidden state of the entry in execution. -/
def setHidden (p : Fin 68) (f : Hidden → Hidden) (s : State) : State :=
  updCar p (fun c => { c with hidden :=
    (Sparse.set (fun _ => { phase := 0, flag := false, x1 := 0, x2 := 0 }) c.hidden c.pc.val (f (hiddenAt c c.pc))) }) s

/-! ### Arithmetic (R121, R612) -/

/-- Shift right by `sh`, rounding half up: the floor of the shifted value plus one half. -/
def shiftRound (x : Int) (sh : Nat) : Int := (2 * x + (2 ^ sh : Nat)) / (2 ^ (sh + 1) : Nat)

/-- ACC shifted for X (R121). -/
def accToX (acc : BitVec 64) (sh : Nat) : Int := sat32 (shiftRound acc.toInt sh)

/-- A signed number in ACC, saturated; the flag says that it saturated. -/
def accOf (x : Int) : BitVec 64 × Bool := (BitVec.ofInt 64 (sat64 x), decide (sat64 x ≠ x))

/-- Write ACC, setting SAT when the sum saturated (R121). -/
def setAcc (p : Fin 68) (x : Int) (s : State) : State :=
  updCar p (fun c => { c with acc := (accOf x).1, sat := c.sat || (accOf x).2 }) s

/-- Add products to ACC one by one, saturating at each write (R121). -/
def macAll (p : Fin 68) (start : Int) (ps : List Int) (s : State) : State :=
  ps.foldl (fun s x => setAcc p (s.coach.cars[p].acc.toInt + x) s) (setAcc p start s)

/-- |X|, saturated. -/
def absSat (x : Int) : Int := sat32 x.natAbs

/-- Largest `r` with `r * r ≤ n`, by halving steps `fuel` times. -/
def isqrtFrom : Nat → Nat → Nat → Nat
  | 0, _, r => r
  | k + 1, n, r => let t := r + 2 ^ k; isqrtFrom k n (if t * t ≤ n then t else r)

/-- Floor of the square root of a number below 2 ^ 32. -/
def isqrt (n : Nat) : Nat := isqrtFrom 16 n 0

/-! ### Streams (R127 to R131) -/

/-- The queue behind GAP marks at its front (R131). -/
def dropMarks : List PortWord → List PortWord
  | [] => []
  | w :: rest => match w.side with
    | .mark => dropMarks rest
    | _ => w :: rest

/-- The next data word with its stamp and QUAL, and what is left (R128, R129). -/
def takeData (last : Word) (q : List PortWord) : Option (Word × Word × Bool × List PortWord) :=
  match q with
  | [] => none
  | w :: rest => match w.side with
    | .data qual d => some (w.word, last + BitVec.ofNat 32 (48 * d), qual, rest)
    | .mark => none
    | .stamp => match rest with
      | [] => none
      | v :: rest2 => match v.side with
        | .data qual _ => some (v.word, w.word, qual, rest2)
        | _ => none

/-- An input port holds a data word behind its marks. -/
def portReady (c : Carriage) (k : Fin 4) : Bool := (takeData c.inStamp[k] (dropMarks c.fifo[k])).isSome

/-- The words that carry `v` with stamp `t` after a data word stamped `last` (R128, R129). -/
def wordsFor (last : Option Word) (t v : Word) (qual : Bool) : List PortWord :=
  let full : List PortWord := [{ side := .stamp, word := t }, { side := .data qual 0, word := v }]
  match last with
  | none => full
  | some l =>
    let d := (t - l).toNat
    if d % 48 = 0 ∧ 48 ≤ d ∧ d ≤ 3024 then [{ side := .data qual (d / 48), word := v }] else full

/-! ### Couplings and row buses (R134 to R137) -/

/-- Neighbour of a logical carriage: 0 north, 1 east, 2 south, 3 west (R167). -/
def neighbour (k : Fin 64) (dir : Nat) : Option (Fin 64) :=
  match dir with
  | 0 => if 8 ≤ k.val then some (k - 8) else none
  | 1 => if k.val % 8 < 7 then some (k + 1) else none
  | 2 => if k.val < 56 then some (k + 8) else none
  | 3 => if 0 < k.val % 8 then some (k - 1) else none
  | _ => none

/-- Ports of carriage `k` in `[lo, hi]` bound toward direction `dir`, in rising order. -/
def boundPorts (rs : List Route) (k : Fin 64) (lo hi dir : Nat) : List Nat :=
  (List.range (hi + 1)).filter (fun q =>
    decide (lo ≤ q) && rs.any (fun r => r.car == k && r.port == q && r.kind == 1 && r.dir == dir))

/-- The neighbour input port that output port `out` (0 or 1) of `k` feeds: the neighbour's ports bound toward `k` pair
with `k`'s outputs bound toward it in rising order (R134). -/
def nearDest (rs : List Route) (k : Fin 64) (out : Nat) : Option (Fin 64 × Nat) :=
  match rs.find? (fun r => r.car == k && r.port == 4 + out && r.kind == 1) with
  | none => none
  | some r => match neighbour k r.dir with
    | none => none
    | some m =>
      let i := ((boundPorts rs k 4 5 r.dir).takeWhile (fun q => q != 4 + out)).length
      ((boundPorts rs m 0 3 ((r.dir + 2) % 4))[i]?).map (fun q => (m, q))

/-- The row-bus slot in which a word leaves: the first due one of a set (R136). The frame position follows the BUSCLK edge
count, two FABCLK cycles to an edge (log entry 18). -/
def dueSlot (s : State) (mask : Nat) : Option Nat :=
  ((List.range 16).map (fun i => (2 * s.clk.edge + i) % 16)).find? (fun i => mask.testBit i)

/-- Logical input ports of a row that read a slot. -/
def busReaders (rs : List Route) (row slot : Nat) : List (Fin 64 × Nat) :=
  (rs.filter (fun r => decide (r.port ≤ 3) && r.kind == 2 && r.car.val / 8 == row && r.slots.testBit slot)).map
    (fun r => (r.car, r.port))

/-- The input port of the position that serves a logical carriage. -/
def servedPort (s : State) (q : Fin 64 × Nat) : Option CoupDest :=
  (s.coach.serve[q.1]).map (fun p => CoupDest.port p (ix 4 q.2))

/-- The outlet streams fed by output port `out` of carriage `k` (R168). -/
def outletsOf (s : State) (k : Fin 64) (out : Nat) : List CoupDest :=
  (List.finRange 16).flatMap (fun n => ((List.finRange 4).filter (fun i =>
    let w := s.coach.trains[n].outlets[i]
    bit w 31 && fld w 29 24 == k.val && fld w 23 23 == out)).map (fun i => CoupDest.outlet n i))

/-- Every destination of an emission on output port `out` of logical carriage `k` (R134). -/
def destsOf (s : State) (k : Fin 64) (out : Nat) : List CoupDest :=
  let rs := s.coach.routes
  let near := match nearDest rs k out with
    | some q => (servedPort s q).toList
    | none => []
  let bus := match rs.find? (fun r => r.car == k && r.port == 4 + out && r.kind == 2) with
    | some r => match dueSlot s r.slots with
      | some t => (busReaders rs (k.val / 8) t).filterMap (servedPort s) ++ outletsOf s k out
      | none => []
    | none => []
  near ++ bus

/-- Words in an input port's FIFO and on their way to it. -/
def portLoad (s : State) (p : Fin 68) (k : Fin 4) : Nat :=
  (s.coach.cars[p].fifo[k]).length + (s.coach.flights.filter (fun f => f.dst == CoupDest.port p k)).length

/-- Every input port that words go to has room for all of them; the FIFO holds four (R134). -/
def roomFor (s : State) (fs : List Flight) : Bool :=
  fs.all (fun f => match f.dst with
    | .port p k => decide (portLoad s p k + (fs.filter (fun g => g.dst == f.dst)).length ≤ 4)
    | .outlet _ _ => true)

/-- The words of a stream on their way to each of its destinations. -/
def toEach (sender : Fin 68) (ws : List PortWord) (ds : List CoupDest) : List Flight :=
  ds.flatMap (fun d => ws.map (fun w => { dst := d, word := w, sender := sender }))

/-- Output ports of a DST code (R122). -/
def outPorts (dst : Nat) : List (Fin 2) :=
  match dst with
  | 0 => [0]
  | 1 => [1]
  | 4 => [0, 1]
  | _ => []

/-- The stamp of an emission (R130). -/
def emitStamp (s : State) (c : Carriage) : Word := c.sx.getD (stLo s.now)

/-- The words that an emission of `v` on the ports of a DST code sends (R124, R134). -/
def emission (s : State) (p : Fin 68) (dst : Nat) (v : Word) : List Flight :=
  let c := s.coach.cars[p]
  (outPorts dst).flatMap (fun o =>
    toEach p (wordsFor c.outStamp[o] (emitStamp s c) v c.owed[o]) (destsOf s c.logical o.val))

/-- Put words on their way. -/
def sendAll (fs : List Flight) (s : State) : State := updCoach (fun c => { c with flights := c.flights ++ fs }) s

/-- Emit on the ports of a DST code, or `none` while a destination has no room (R124, R134). -/
def tryEmit (p : Fin 68) (dst : Nat) (v : Word) (s : State) : Option State :=
  let fs := emission s p dst v
  let t := emitStamp s (s.coach.cars[p])
  if roomFor s fs then
    some (updCar p (fun c => { c with
      outStamp := (outPorts dst).foldl (fun x o => upd x o (fun _ => some t)) c.outStamp
      owed := (outPorts dst).foldl (fun x o => upd x o (fun _ => false)) c.owed }) (sendAll fs s))
  else none

/-- Emit, or stall until room exists (R124). -/
def emitOrStall (p : Fin 68) (dst : Nat) (v : Word) (s : State) : State :=
  match tryEmit p dst v s with
  | some t => t
  | none => updCar p (fun c => { c with stalled := some { dst := dst, value := v } }) s

/-! ### Taps (R132, R133) -/

/-- The destinations of a tap's words in its slots. -/
def tapDests (s : State) (t : Tap) : List CoupDest :=
  match dueSlot s t.slots with
  | some k => (busReaders s.coach.routes t.row k).filterMap (servedPort s)
  | none => []

/-- The train's taps pass words: it is RUNNING or WARMING, and no substitution holds it (R133, R150). -/
def tapsPass (t : Train) : Bool :=
  (t.state == .running || t.state == .warming) && !t.starting &&
  (match t.subst with
   | none => true
   | some x => x.loaded && x.stopAt.isNone)

/-- Change the tap at place `i`. -/
def updTap (i : Nat) (f : Tap → Tap) (s : State) : State :=
  updCoach (fun c => { c with taps := c.taps.modify i f }) s

/-- One tap takes a sample word: VALUE sign-extended, stamp, QUAL; it is dropped where a receiving port has no room. -/
def tapOne (i : Nat) (t : Tap) (value : Word) (qual : Bool) (stamp : Stamp) (s : State) : State :=
  if tapsPass s.coach.trains[t.train] then
    let ws := wordsFor t.last (stLo stamp) value qual
    let ws := if t.markDue then { side := .mark, word := 1 } :: ws else ws
    let fs := toEach 0 ws (tapDests s t)
    if roomFor s fs then updTap i (fun t => { t with last := some (stLo stamp), markDue := false }) (sendAll fs s)
    else updTap i (fun t => { t with markDue := true }) (s.orReg (.cw .TAPOVR) 0 (2 ^ t.train.val))
  else s

/-- A released sample word enters the taps of its lane and entry (R132). -/
def tapWord (lane : Fin 16) (entry : Nat) (value : Word) (qual : Bool) (stamp : Stamp) (s : State) : State :=
  s.coach.taps.zipIdx.foldl (fun s (t, i) =>
    if t.lane = lane ∧ t.entry.val = entry then tapOne i t value qual stamp s else s) s

/-- A GAP in a lane's stream: one mark before the next word of each of its taps (R132). -/
def tapGap (lane : Fin 16) (s : State) : State :=
  updCoach (fun c => { c with taps := c.taps.map (fun t => if t.lane = lane then { t with markDue := true } else t) }) s

/-! ### The operation set (R124, R610 to R613, R126) -/

/-- The carriage executes: it serves a train that runs, drains or warms, and no substitution holds the train. -/
def carRuns (s : State) (p : Fin 68) : Bool :=
  let c := s.coach.cars[p]
  let t := s.coach.trains[c.train]
  c.cond == .serving && (t.state == .running || t.state == .warming || t.state == .draining) && !t.starting &&
  (match t.subst with
   | none => true
   | some x => x.loaded)

/-- The instruction takes the next data word of an input port: WAIT, or MOVE from a port (R613). -/
def takesWord (m : Micro) : Bool := (m.op == 1 || m.op == 2) && decide (m.src ≤ 3)

/-- Multiply-accumulate operations, in which a residue mismatch can occur (R145, R146). -/
def isMac (op : Nat) : Bool := [0x03, 0x04, 0x05, 0x08, 0x0C, 0x0E, 0x0F].contains op

/-- The FIR execution completes a decimation period. -/
def firOut (c : Carriage) (m : Micro) : Bool := decide (max 1 (fld m.imm 11 0) ≤ (hiddenAt c c.pc).phase + 1)

/-- The CIC execution completes a decimation period. -/
def cicOut (c : Carriage) (m : Micro) : Bool := decide (fld m.imm 15 4 ≤ (hiddenAt c c.pc).phase + 1)

/-- X plus 2 ^ 31 times LEN: interval and remainder of LUT (R612). -/
def lutPos (x : Word) (len : Nat) : Nat × Nat :=
  let f := (sInt x + 2147483648).toNat * len
  (f / 2 ^ 32, f % 2 ^ 32)

/-- The store words that an execution reads (R147). -/
def storeReads (s : State) (p : Fin 68) (m : Micro) : List Nat :=
  let c := s.coach.cars[p]
  let b := m.base
  match m.op with
  | 0x04 =>
    let iw := b + 2 * m.len
    if firOut c m then
      let new := b + m.len + ((carWord s p iw).toNat + 1) % m.len
      ((List.range (2 * m.len + 1)).map (b + ·)).filter (fun i => i != new)
    else [iw]
  | 0x05 => (List.range (7 * m.len)).map (b + ·)
  | 0x06 =>
    let n := fld m.imm 3 0
    (List.range (if cicOut c m then 2 * n else n)).map (b + ·)
  | 0x08 => [b]
  | 0x09 => [b, b + 1]
  | 0x0A => [b]
  | 0x0B => if carWord s p (b + 2) = 0 then [b + 2] else [b, b + 2]
  | 0x0C => let i := (lutPos c.x m.len).1; [b + i, b + i + 1]
  | 0x0D => [b + (16 * c.rs.val + c.flags.toNat) / 4]
  | 0x10 => [b + m.len, b + (carWord s p (b + m.len)).toNat % m.len]
  | _ => []

/-- A store read meets a parity error. -/
def readsBad (s : State) (p : Fin 68) (m : Micro) : Bool := (storeReads s p m).any (parityBad s p)

/-- Set X. -/
def setX (p : Fin 68) (v : Int) (s : State) : State := updCar p (fun c => { c with x := BitVec.ofInt 32 v }) s

/-- Set the entry that executes next. -/
def setPc (p : Fin 68) (i : Fin 64) (s : State) : State := updCar p (fun c => { c with pc := i }) s

/-- Take the next data word of input port `k` (R128 to R131, R613): marks go first, SX takes the stamp, and QUAL is owed
on both output ports. The word is `none` when the port is empty. -/
def takePort (p : Fin 68) (k : Fin 4) (s : State) : Option Word × State :=
  let c := s.coach.cars[p]
  let q := dropMarks c.fifo[k]
  match takeData c.inStamp[k] q with
  | some (v, t, qual, rest) =>
    (some v, updCar p (fun c => { c with
      fifo := upd c.fifo k (fun _ => rest), inStamp := upd c.inStamp k (fun _ => t), sx := some t,
      owed := if qual then Vector.replicate 2 true else c.owed }) s)
  | none => (none, updCar p (fun c => { c with fifo := upd c.fifo k (fun _ => q) }) s)

/-- The value of SRC 4 or 5: X, or ACC shifted (R121). -/
def srcValue (c : Carriage) (m : Micro) : Int := if m.src = 4 then sInt c.x else accToX c.acc (shOf m)

/-- Write a result to DST 2 or 3; output ports are served by the caller (R122). -/
def toDst (p : Fin 68) (m : Micro) (v : Int) (s : State) : State :=
  match m.dst with
  | 2 => setX p v s
  | 3 => setAcc p v s
  | _ => s

/-- FIR (R611, R612). -/
def opFir (p : Fin 68) (m : Micro) (s : State) : Option Int × State :=
  let c := s.coach.cars[p]
  let iw := m.base + 2 * m.len
  let i := ((carWord s p iw).toNat + 1) % m.len
  let done := firOut c m
  let start := if bit m.imm 31 then c.acc.toInt else 0
  let s := setCarWord p (m.base + m.len + i) c.x (setCarWord p iw (BitVec.ofNat 32 i) s)
  let s := setHidden p (fun h => { h with phase := if done then 0 else h.phase + 1 }) s
  if done then
    let s := macAll p start ((List.range m.len).map (fun t =>
      carInt s p (m.base + t) * carInt s p (m.base + m.len + (i + m.len - t) % m.len))) s
    (some (accToX s.coach.cars[p].acc (shOf m)), s)
  else (none, s)

/-- One biquad section: input and its history in, output and the outputs' history out (R611). -/
def biqSection (p : Fin 68) (m : Micro) (k : Nat) (x x1 x2 : Int) (s : State) : (Int × Int × Int) × State :=
  let b := m.base + 7 * k
  let y1 := carInt s p (b + 5)
  let y2 := carInt s p (b + 6)
  let s := macAll p 0 [carInt s p b * x, carInt s p (b + 1) * x1, carInt s p (b + 2) * x2,
                       -(carInt s p (b + 3) * y1), -(carInt s p (b + 4) * y2)] s
  let y := accToX s.coach.cars[p].acc (shOf m)
  ((y, y1, y2), setCarWord p (b + 6) (BitVec.ofInt 32 y1) (setCarWord p (b + 5) (BitVec.ofInt 32 y) s))

/-- BIQ (R611): sections 0 to LEN - 1, each taking the previous one's output and history. -/
def opBiq (p : Fin 68) (m : Micro) (s : State) : Int × State :=
  let c := s.coach.cars[p]
  let h := hiddenAt c c.pc
  let (r, s) := (List.range m.len).foldl (fun (a : (Int × Int × Int) × State) k =>
    biqSection p m k a.1.1 a.1.2.1 a.1.2.2 a.2) ((sInt c.x, sInt h.x1, sInt h.x2), s)
  (r.1, setHidden p (fun h => { h with x1 := c.x, x2 := h.x1 }) s)

/-- CIC (R611, R612): arithmetic modulo 2 ^ 32. -/
def opCic (p : Fin 68) (m : Micro) (s : State) : Option Int × State :=
  let c := s.coach.cars[p]
  let n := fld m.imm 3 0
  let done := cicOut c m
  let (v, s) := (List.range n).foldl (fun (a : Word × State) i =>
    let w := carWord a.2 p (m.base + i) + a.1
    (w, setCarWord p (m.base + i) w a.2)) (c.x, s)
  let s := setHidden p (fun h => { h with phase := if done then 0 else h.phase + 1 }) s
  if done then
    let (v, s) := (List.range n).foldl (fun (a : Word × State) i =>
      let prev := carWord a.2 p (m.base + n + i)
      (a.1 - prev, setCarWord p (m.base + n + i) a.1 a.2)) (v, s)
    (some (shiftRound (sInt v) (shOf m)), s)
  else (none, s)

/-- ENV (R612). -/
def opEnv (p : Fin 68) (m : Micro) (s : State) : Int × State :=
  let y := carInt s p m.base
  let r := shiftRound ((absSat (sInt s.coach.cars[p].x) - y) * (fld m.imm 15 0 : Int)) 16
  let v := sat32 (y + r)
  (v, setCarWord p m.base (BitVec.ofInt 32 v) s)

/-- THR: the flag sets above the upper threshold and clears below the lower one. -/
def opThr (p : Fin 68) (m : Micro) (s : State) : State :=
  let x := sInt s.coach.cars[p].x
  let f : BitVec 4 := BitVec.ofNat 4 (2 ^ fld m.imm 1 0)
  if carInt s p m.base < x then updCar p (fun c => { c with flags := c.flags ||| f }) s
  else if x < carInt s p (m.base + 1) then updCar p (fun c => { c with flags := c.flags &&& ~~~f }) s
  else s

/-- CNT: rising edges of a flag (R610). -/
def opCnt (p : Fin 68) (m : Micro) (s : State) : Int × State :=
  let c := s.coach.cars[p]
  let f := c.flags.getLsbD (fld m.imm 1 0)
  let s := if f && !(hiddenAt c c.pc).flag then setCarWord p m.base (carWord s p m.base + 1) s else s
  (carInt s p m.base, setHidden p (fun h => { h with flag := f }) s)

/-- PEAK: maximum and index over a window of LEN inputs (R611). -/
def opPeak (p : Fin 68) (m : Micro) (s : State) : Option Int × State :=
  let x := s.coach.cars[p].x
  let n := (carWord s p (m.base + 2)).toNat
  let s := if n = 0 ∨ carInt s p m.base < sInt x then
    setCarWord p (m.base + 1) (BitVec.ofNat 32 n) (setCarWord p m.base x s) else s
  if m.len ≤ n + 1 then (some (carInt s p m.base), setCarWord p (m.base + 2) 0 s)
  else (none, setCarWord p (m.base + 2) (BitVec.ofNat 32 (n + 1)) s)

/-- LUT: linear interpolation over the full X range (R612). -/
def opLut (p : Fin 68) (m : Micro) (s : State) : Int :=
  let (i, r) := lutPos s.coach.cars[p].x m.len
  let a := carInt s p (m.base + i)
  let b := carInt s p (m.base + i + 1)
  sat32 (a + shiftRound ((b - a) * r) 32)

/-- The next CNT in program order after entry `i`, counting on past entry 63 (R126). -/
def nextCnt (c : Carriage) (i : Fin 64) : Option Micro :=
  (((List.range 64).map (fun k => entryAt c (i + Fin.ofNat 64 (k + 1)))).find? (fun m => m.op == 0x0A))

/-- An event output of train `n` asserts: it reaches the router at the next BUSCLK edge; two within one BUSCLK period
publish once (R144). -/
def trainEvent (n : Fin 16) (i : Fin 4) (s : State) : State :=
  if s.coach.trains[n].evtEdge[i] = some s.clk.edge then s.orReg (.cw .STAT) 0 (2 ^ 8)
  else
    let s := updTrain n (fun t => { t with evtEdge := upd t.evtEdge i (fun _ => some s.clk.edge) }) s
    enqueuePub { mkPub none prTrain n.val i.val 0 s with edge := s.clk.edge + 1 } s

/-- REC (R126). -/
def opRec (p : Fin 68) (m : Micro) (s : State) : State :=
  let c := s.coach.cars[p]
  let b := 16 * c.rs.val + c.flags.toNat
  let e := byteOf (carWord s p (m.base + b / 4)) (b % 4)
  let s := updCar p (fun c => { c with rs := ix 16 (fld e 7 4) }) s
  let s := if bit e 2 then match nextCnt c c.pc with
      | some k => setCarWord p k.base 0 s
      | none => s
    else s
  if bit e 3 then trainEvent c.train (ix 4 (fld e 1 0)) s else s

/-- DLY: X delayed by LEN inputs (R611). -/
def opDly (p : Fin 68) (m : Micro) (s : State) : Int × State :=
  let i := (carWord s p (m.base + m.len)).toNat % m.len
  let v := carInt s p (m.base + i)
  (v, setCarWord p (m.base + m.len) (BitVec.ofNat 32 ((i + 1) % m.len))
        (setCarWord p (m.base + i) s.coach.cars[p].x s))

/-- Where X takes the result beside DST: SCALE, RECT, ENV and SQRT. -/
def alsoX (op : Nat) : Bool := op == 0x03 || op == 0x07 || op == 0x08 || op == 0x0F

/-- What an operation does, and its result for DST where it has one. The next entry and the ports are served by the
caller. `word` is the word that WAIT or MOVE took from its port. -/
def opEffect (p : Fin 68) (m : Micro) (word : Option Word) (s : State) : Option Int × State :=
  let c := s.coach.cars[p]
  let taken : Int := match word with
    | some v => sInt v
    | none => srcValue c m
  match m.op with
  | 0x01 => (some (if m.dst = 3 then taken * (2 ^ shOf m : Nat) else taken), s)
  | 0x02 => (some taken, s)
  | 0x03 => (some (sat32 (shiftRound (sInt c.x * sext 24 (fld m.imm 23 0)) (shOf m))), s)
  | 0x04 => opFir p m s
  | 0x05 => let (v, s) := opBiq p m s; (some v, s)
  | 0x06 => opCic p m s
  | 0x07 => (some (absSat (sInt c.x)), s)
  | 0x08 => let (v, s) := opEnv p m s; (some v, s)
  | 0x09 => (none, opThr p m s)
  | 0x0A => let (v, s) := opCnt p m s; (some v, s)
  | 0x0B => opPeak p m s
  | 0x0C => (some (opLut p m s), s)
  | 0x0D => (none, opRec p m s)
  | 0x0E => (none, setAcc p (c.acc.toInt + sInt c.x * sInt c.x) s)
  | 0x0F => (some (isqrt (accToX c.acc (shOf m)).toNat), s)
  | 0x10 => let (v, s) := opDly p m s; (some v, s)
  | 0x11 => (none, trainEvent c.train (ix 4 (fld m.imm 1 0)) s)
  | 0x13 => (none, updCar p (fun c =>
      if bit m.imm 31 then { c with acc := 0, rs := 0, flags := 0 } else { c with acc := 0 }) s)
  | _ => (none, s)

/-- Execute the present instruction with its COND true: the effect, the next entry, then the result to DST (R120,
R124). -/
def execMicro (p : Fin 68) (m : Micro) (word : Option Word) (s : State) : State :=
  let pc := s.coach.cars[p].pc
  let (r, s) := opEffect p m word s
  let s := setPc p (if m.op = 0x12 then ix 64 (fld m.imm 5 0) else pc + 1) s
  match r with
  | none => s
  | some v =>
    let s := if alsoX m.op then setX p v s else s
    let s := if m.dst = 3 ∧ (m.op = 0x04 ∨ m.op = 0x05) then s else toDst p m v s
    if (outPorts m.dst).isEmpty then s else emitOrStall p m.dst (BitVec.ofInt 32 v) s

end Sys2Proof.Machine
end

