-- ==== Sys2Proof/Machine/ConsistApply.lean ====
section
/-! DEFINITION. What the loader writes when an image's DRIVES, EVENTS, LANES, CARRIAGE and TRAIN entries take effect, and
the consist cache (chapters 05 and 13). -/
namespace Sys2Proof.Machine

/-! ### Event bindings (R172, R427) -/

/-- A channel becomes unbound (R428): no publishers or subscribers, owner A0, no secure attribute, empty gate masks. -/
def unbindChannel (c : Nat) (s : State) : State :=
  let s := (List.range 4).foldl (fun s k => s.setReg (.ev .PUB) (c * 8 + k) 0) s
  let s := (List.range 8).foldl (fun s k => s.setReg (.ev .SUB) (c * 8 + k) 0) s
  s.setReg (.ev .CCFG) c 0

/-- The lowest-numbered inactive entry of a channel's EV_PUB or EV_SUB registers. -/
def freeEntry (s : State) (r : EvReg) (n c : Nat) : Option Nat :=
  firstIdx n (fun k => !(s.rbit (.ev r) (c * 8 + k) 31))

/-- A binding takes the lowest-numbered free entry (R427). -/
def bindEntry (r : EvReg) (n c : Nat) (w : Word) (s : State) : State :=
  match freeEntry s r n c with
  | some k => s.setReg (.ev r) (c * 8 + k) (w ||| 0x80000000)
  | none => s

/-- The event outputs of train `n` connect (R427). -/
def connectTrain (n : Fin 16) (s : State) : State :=
  (List.finRange 4).foldl (fun s i =>
    let w := s.coach.trains[n].evouts[i]
    if bit w 31 then bindEntry .PUB 4 (fld w 5 0) (at_ prTrain 16 ||| at_ n.val 8 ||| at_ i.val 0) s else s) s

/-- An EV_PUB word holds an event output of train `n`. -/
def holdsTrain (w : Word) (n : Nat) : Bool := bit w 31 && fld w 23 16 == prTrain && fld w 15 8 == n

/-- The event outputs of train `n` disconnect: their entries become free (R427). -/
def disconnectTrain (n : Fin 16) (s : State) : State :=
  (List.range 64).foldl (fun s c => (List.range 4).foldl (fun s k =>
    if holdsTrain (s.reg (.ev .PUB) (c * 8 + k)) n.val then s.setReg (.ev .PUB) (c * 8 + k) 0 else s) s) s

/-- One EVENTS entry takes effect (R172, R427). A sensor profile's outputs and trigger and a lane's trigger are fields of
those blocks. -/
def applyEvent (w : Word) (s : State) : State :=
  let c := fld w 29 24
  let code := fld w 23 16
  let inst := fld w 15 8
  match fld w 31 30 with
  | 0 => s.setReg (.ev .CCFG) c ((s.reg (.ev .CCFG) c &&& 0x0000FFFF) ||| at_ (fld w 23 22) 30 ||| at_ (fld w 21 21) 29)
  | 1 =>
    if code = prProfile then
      let lo := if fld w 7 0 = 0 then 24 else 16
      (s.setFld (.sp .PEVT) inst (lo + 5) lo c).setFld (.sp .PEVT) inst (lo + 7) (lo + 7) 1
    else bindEntry .PUB 4 c (w &&& 0x00FFFFFF) s
  | 2 =>
    if code = 1 then (s.setFld (.ln .CTRL) inst 28 23 c).setFld (.ln .CTRL) inst 29 29 1
    else if code = 6 then (s.setFld (.sp .PCFG) inst 18 13 c).setFld (.sp .PCFG) inst 19 19 1
    else bindEntry .SUB 8 c (w &&& 0x00FFFFFF) s
  | _ => s.orReg (.ev .CCFG) c (2 ^ ((if fld w 23 23 = 1 then 0 else 8) + fld w 18 16))

/-- The bindings of a full image: every channel unbound, gates open, train outputs, then the entries in order (R186,
R427, R434). -/
def applyEventsFull (trains : List (Fin 16)) (ws : List Word) (s : State) : State :=
  let s := (List.range 64).foldl (fun s c => unbindChannel c s) s
  let s := s.setReg (.ev .GATE) 0 0xFF
  ws.foldl (fun s w => applyEvent w s) (trains.foldl (fun s n => connectTrain n s) s)

/-- The bindings of a shunt image: its channels are bound anew, its trains' outputs connect (R189, R190, R427). -/
def applyEventsShunt (trains : List (Fin 16)) (ws : List Word) (s : State) : State :=
  let s := (List.range 64).foldl (fun s c => if ws.any (fun w => fld w 29 24 == c) then unbindChannel c s else s) s
  ws.foldl (fun s w => applyEvent w s) (trains.foldl (fun s n => connectTrain n s) s)

/-! ### Drive slots and lanes -/

/-- The fifteen configuration registers, in offset order (R171, R195). -/
def dsConfigRegs : List DsReg :=
  [.CFG, .TRAINS, .QUANT, .ACT, .SPEED, .RIPCFG, .POSMIN, .POSMAX, .STALL, .PINCH, .DRY, .DRYTHR, .IMBAL, .IMBTHR, .REPORT]

/-- A DRIVES entry takes effect (R171, R208, R220); a value out of its field's range is ignored (R233). -/
def applyDrive (e : DriveEntry) (s : State) : State :=
  let s := (dsConfigRegs.zip e.words).foldl (fun s x =>
    if dsInRange x.1 x.2 then s.plainWrite false (.ds x.1) e.slot.val x.2 else s) s
  let keep := s.rbit (.ds .CFG) e.slot.val 27
  slotReconfigured e.slot (updSlot e.slot (fun x => { x with dirty := x.dirty && keep }) s)

/-- A slot without an entry in a full image takes the reset configuration (log entry 19). -/
def resetDrive (d : Fin 32) (s : State) : State :=
  applyDrive { slot := d, words := dsConfigRegs.map (fun r => (Reg.ds r).resetVal 0) } s

/-- Write a lane's shadow registers and mark them for loading (R169, R186). -/
def applyLane (k : Fin 16) (ws : List Word) (s : State) : State :=
  let s := s.plainWrite false (.ln .CTRL) k.val (ws.getD 0 0)
  let s := s.plainWrite false (.ln .PERIOD) k.val (ws.getD 1 0)
  let s := s.plainWrite false (.ln .SETTLE) k.val (ws.getD 2 0)
  let s := (List.range 8).foldl (fun s i => s.plainWrite false (.ln .SCAN) (k.val * 8 + i) (ws.getD (3 + i) 0)) s
  { s with lanes := upd s.lanes k (fun l => { l with commit := true }) }

/-! ### The consist cache (R183 to R185) -/

/-- One bit of the reflected CRC-32 (polynomial 0x04C1_1DB7). -/
def crc32Bit (c : BitVec 32) : BitVec 32 := if c.getLsbD 0 then (c >>> 1) ^^^ 0xEDB88320 else c >>> 1

/-- One byte of the CRC-32. -/
def crc32Byte (c : BitVec 32) (b : Byte) : BitVec 32 :=
  [0, 1, 2, 3, 4, 5, 6, 7].foldl (fun c (_ : Nat) => crc32Bit c) (c ^^^ b.setWidth 32)

/-- CRC-32: initial value and final XOR 0xFFFF_FFFF (R183). -/
def crc32 (bs : List Byte) : Word := (bs.foldl crc32Byte 0xFFFFFFFF) ^^^ 0xFFFFFFFF

/-- Address of the cache record of a logical carriage: 64 micro-instructions, 512 store words, the state mask (log entry
20 for the place of each record). -/
def cacheAddr (k : Fin 64) : Nat := 0x20140000 + 2624 * k.val

/-- The record's bytes. -/
def cacheBytes (s : State) (k : Fin 64) : List Byte := s.readBytes (cacheAddr k) 2624

/-- The record passes its CRC-32 check (R185). -/
def cacheOk (s : State) (k : Fin 64) : Bool := s.coach.loader.crcs[k] == some (crc32 (cacheBytes s k))

/-- A 64-bit micro-instruction's bytes. -/
def microBytes (w : BitVec 64) : List Byte := leBytes w.toNat 8

/-- Write the cache record of a carriage and its CRC (R166, R183). -/
def writeCache (c : CarImage) (s : State) : State :=
  let prog := c.prog ++ List.replicate (64 - c.prog.length) invalidMicro
  let store := c.store ++ List.replicate (512 - c.store.length) 0
  let bs := prog.flatMap microBytes ++ ofWords store ++ c.mask
  updLoader (fun l => { l with crcs := upd l.crcs c.car (fun _ => some (crc32 bs)) }) (s.writeBytes (cacheAddr c.car) bs)

/-- Store word `i` of a cache record, and its state mark (R140, R165). -/
def cacheStore (s : State) (k : Fin 64) (i : Nat) : Word := s.readWord (cacheAddr k + 512 + 4 * i)
def cacheMark (s : State) (k : Fin 64) (i : Nat) : Bool := (s.readByte (cacheAddr k + 2560 + i / 8)).getLsbD (i % 8)

/-- Load a position with the program and store of logical carriage `k` from its cache record. -/
def loadCarriage (p : Fin 68) (k : Fin 64) (s : State) : State :=
  let prog := (List.range 64).map (fun i => BitVec.ofNat 64 (leNat (s.readBytes (cacheAddr k + 8 * i) 8)))
  let words := (List.range 512).map (cacheStore s k)
  let s := s.writeWords (carAddr p 0) words
  updCoach (fun c => { c with badPar := Sparse.clear (fun x => x / 512 == p.val) c.badPar })
    (updCar p (fun c => { c with prog := prog, hidden := [] }) s)

/-- The start of one carriage (R140): registers, hidden state, ports and SAT clear; state words are rewritten. -/
def startCar (p : Fin 68) (k : Fin 64) (s : State) : State :=
  let s := updCar p (fun c => { c with
    x := 0, sx := none, acc := 0, flags := 0, rs := 0, pc := 0, sat := false, hidden := [],
    fifo := Vector.replicate 4 [], inStamp := Vector.replicate 4 0, outStamp := Vector.replicate 2 none,
    owed := Vector.replicate 2 false, stalled := none }) s
  (List.range 512).foldl (fun s i => if cacheMark s k i then setCarWord p i (cacheStore s k i) s else s) s

end Sys2Proof.Machine
end

