-- ==== Sys2Proof/Machine/Trains.lean ====
section
/-! DEFINITION. Trains: start, stop and drain, the outlet, faults and spare substitution, and the end of a handover
(chapter 04, R138 to R158, R614; chapter 05, R190 to R192). -/
namespace Sys2Proof.Machine

/-! ### Small views -/

/-- The train is the staging train of a handover whose edge E has not come (R190). -/
def isStaging (s : State) (n : Fin 16) : Bool :=
  match s.coach.loader.hand with
  | some h => !h.passed && h.m == n
  | none => false

/-- The entry holds the old carriage set of a handover past E. -/
def isOldSet (s : State) (n : Fin 16) : Bool :=
  match s.coach.loader.hand with
  | some h => h.passed && h.m == n
  | none => false

/-- RUNNING or WARMING. -/
def trainLive (t : Train) : Bool := t.state == .running || t.state == .warming

/-- Outlet stream `i` delivers to the merger (R168, R609). -/
def mergerStream (t : Train) (i : Fin 4) : Bool := bit t.outlets[i] 31 && bit t.outlets[i] 16

/-- START of a GAP on a stream (R151, R609): one tick after the last released word, or the start of the run. -/
def gapStart (t : Train) (i : Fin 4) : Stamp :=
  match t.lastRel[i] with
  | some x => stAdd x 1
  | none => t.runStart

/-- The streams of a train that get a GAP: those that deliver to the merger; none for a staging train (R192) and none
for the old set of a handover (R190). -/
def gapStreams (s : State) (n : Fin 16) : List (Fin 4) :=
  if isStaging s n || isOldSet s n then []
  else (List.finRange 4).filter (fun i => mergerStream s.coach.trains[n] i)

/-- CW_SPOOL. -/
def spoolWord (s : State) : Word := bitsOf 4 (fun k => (s.coach.cars[ix 68 (64 + k)]).cond == .spare)

/-- The spare for a logical carriage (R150 step 2): the free one beside its home row, else the lowest-numbered free
one. -/
def chooseSpare (s : State) (k : Fin 64) : Option (Fin 68) :=
  let beside := k.val / 16
  let order := beside :: List.range 4
  (order.map (fun j => ix 68 (64 + j))).find? (fun p => (s.coach.cars[p]).cond == .spare)

/-- The 48-bit stamp of a word from its low 32 bits: the latest one at or before now (log entry 21). -/
def extendStamp (now : Stamp) (low : Word) : Stamp := now - (stLo now - low).setWidth 48

/-! ### Words inside a train -/

/-- A destination belongs to train `n`. -/
def destOfTrain (s : State) (n : Fin 16) (d : CoupDest) : Bool :=
  match d with
  | .port p _ => (s.coach.cars[p]).cond == .serving && (s.coach.cars[p]).train == n
  | .outlet m _ => m == n

/-- Discard every word inside a train. -/
def discardWords (n : Fin 16) (s : State) : State :=
  let s := updCoach (fun c => { c with flights := c.flights.filter (fun f => !destOfTrain s n f.dst) }) s
  let s := updCoach (fun c => { c with cars := c.cars.map (fun x =>
    if x.cond = .serving ∧ x.train = n then { x with fifo := Vector.replicate 4 [], stalled := none } else x) }) s
  updTrain n (fun t => { t with outq := Vector.replicate 4 [] }) s

/-- The carriage waits on an empty port (R142). -/
def carWaits (c : Carriage) : Bool :=
  let m := entryAt c c.pc
  takesWord m && condTrue c m && !portReady c (ix 4 m.src) && c.stalled.isNone

/-- The train is quiet in the sense of R142: no word in a FIFO or on the way, every carriage waiting on an empty port. -/
def trainQuiet (s : State) (n : Fin 16) : Bool :=
  s.coach.flights.all (fun f => !destOfTrain s n f.dst) &&
  (s.coach.trains[n]).outq.all (fun q => q.isEmpty) &&
  s.coach.cars.all (fun c => !(c.cond == .serving && c.train == n) || (c.fifo.all (fun q => q.isEmpty) && carWaits c))

/-! ### Emptying and faulting -/

/-- A train becomes EMPTY and its carriages idle; its taps and its ports' routes go (R186, R189, R190). -/
def emptyTrain (n : Fin 16) (s : State) : State :=
  let members := s.coach.trains[n].members
  let s := discardWords n s
  let s := updCoach (fun c => { c with
    cars := c.cars.map (fun x => if x.cond = .serving ∧ x.train = n then { x with cond := .idle, train := 0 } else x)
    taps := c.taps.filter (fun t => t.train != n)
    routes := c.routes.filter (fun r => !members.contains r.car) }) s
  updTrain n (fun t => { t with
    state := .empty, members := [], outlets := Vector.replicate 4 0, evouts := Vector.replicate 4 0, head := 0,
    settle := 0, wleft := 0, starting := false, stopHeld := false, subst := none,
    lastRel := Vector.replicate 4 none }) s

/-- A long command of a port has ended (R374, R403): `port` 1 is the host port, 2 the two-wire port. -/
def longOutcome (port out : Nat) (s : State) : State :=
  match port with
  | 1 => { s with host := { s.host with longOut := some out } }
  | 2 => { s with tw := { s.tw with longOut := some out } }
  | _ => s

/-- The loader's command ends with a result (R174, R182, R615): DONE or FAIL; lock and STAGED end, but not at the end of
an apply of a slot image. -/
def loaderFinish (code : Nat) (s : State) : State :=
  let s := longOutcome s.coach.loader.port code s
  let s := updLoader (fun l => { l with
    phase := .idle, port := 0, locked := l.locked && l.cmd == 4, staged := l.staged && l.cmd == 4, result := code, image := none, hand := none, startsLeft := [],
    enables := [] }) s
  s.orReg (.cw .LDSTAT) 0 (if code = 0 then 2 else 4)

/-- A handover ends before E (R191): the staging train becomes EMPTY. -/
def handoverEnd (code : Nat) (s : State) : State :=
  match s.coach.loader.hand with
  | some h => if h.passed then s else loaderFinish code (emptyTrain h.m s)
  | none => s

/-- Recoveries of a source no longer wait for a substitution record. -/
def holdsWithoutSubst (source : Nat) (s : State) : State :=
  { s with merger := { s.merger with holds := (s.merger.holds.map (fun h =>
      if h.source = source then { h with needSubst := false } else h)).filter (fun h => h.needGap || h.needSubst) } }

/-- A train becomes FAULTED (R86, R155, R185): OPEN GAPs with CAUSE 4 where words flowed, TFAULT, its drive slots
DEGRADED. A staging train ends its handover instead (R191). -/
def faultTrain (n : Fin 16) (s : State) : State :=
  let t := s.coach.trains[n]
  let flowed := trainLive t || t.state == .draining
  let gaps := if flowed then gapStreams s n else []
  let s := holdsWithoutSubst (srcTrain n.val) s
  let s := gaps.foldl (fun s i =>
    let start := match t.subst with
      | some x => x.starts[i].getD (gapStart t i)
      | none => gapStart t i
    let s := if t.subst.isNone then declareHold (srcTrain n.val) i.val start false s else s
    emitGap 4 (srcTrain n.val) i.val true start start s) s
  let staging := isStaging s n
  let s := discardWords n s
  let s := updTrain n (fun t => { t with state := .faulted, starting := false, stopHeld := false, subst := none }) s
  let s := s.orReg (.cw .TFAULT) 0 (2 ^ n.val)
  if staging then handoverEnd 13 s else degradeTrainSlots n.val s

/-- No spare for a carriage of a train (R155). -/
def trainNoSpare (n : Fin 16) (k : Fin 64) (s : State) : State :=
  let s := fstat (2 ^ 11) (s.orReg (.cw .STAT) 0 (2 ^ 6))
  let s := almanac 0x302 3 (srcTrain n.val) (k.val + n.val * 2 ^ 24) s
  faultTrain n s

/-! ### Substitution (R150 to R156) -/

/-- A CARRIAGE_SUBST record (R239). -/
def substRecord (part : CarSubst) (train : Option (Fin 16)) (staging noStream : Bool) (s : State) : State :=
  let n := match train with
    | some n => n.val
    | none => 0
  emit .acq tCarriageSubst (match train with | some n => srcTrain n.val | none => 0x30) part.chosen
    [at_ part.logical.val 26 ||| at_ part.fenced.val 19 ||| at_ part.spare.val 12 ||| at_ n 8 ||| at_ part.cause 4 |||
       at_ (b2n staging) 3 ||| at_ (b2n noStream) 2, spoolWord s] s

/-- The end of one carriage's substitution (R152): CW_MAP, counters, flags and almanac. -/
def substDone (part : CarSubst) (train : Option (Fin 16)) (s : State) : State :=
  let n := match train with
    | some n => n.val
    | none => 0
  let s := updCoach (fun c => { c with shown := upd c.shown part.logical (fun _ => part.spare) }) s
  let s := (s.countFld (.cw .NSUBST) 0 7 0 1).orReg (.cw .STAT) 0 1
  let s := match train with
    | some n => s.orReg (.cw .TFAULT) 0 (2 ^ n.val)
    | none => s
  almanac 0x301 2 (match train with | some n => srcTrain n.val | none => 0x30)
    (part.logical.val + part.fenced.val * 2 ^ 8 + part.spare.val * 2 ^ 16 + n * 2 ^ 24 + part.cause * 2 ^ 28) s

/-- A spare takes over a logical carriage: it leaves the pool and serves it (R150 step 1). -/
def reserveSpare (k : Fin 64) (q : Fin 68) (train : Option (Fin 16)) (s : State) : State :=
  let s := updCar q (fun c => { c with cond := if train.isSome then .serving else .idle, logical := k,
                                       train := train.getD 0, cause := 0 }) s
  updCoach (fun c => { c with serve := upd c.serve k (fun _ => some q) }) s

/-- The cache record of a train's carriage fails its check (R185). -/
def cacheFault (n : Fin 16) (onReturn : Bool) (s : State) : State :=
  almanac 0x403 3 (srcTrain n.val) (n.val + b2n onReturn * 2 ^ 4) (fstat (2 ^ 13) (s.orReg (.cw .LDSTAT) 0 (2 ^ 3)))

/-- The exchange at E of a handover (R190 steps 3 and 4): the two train-table entries change places, the new train's event
outputs connect, and the image's DRIVES and EVENTS entries take effect. -/
def handoverExchange (sw : Stamp) (s : State) : State :=
  match s.coach.loader.hand with
  | none => s
  | some h =>
    let new := s.coach.trains[h.m]
    let old := s.coach.trains[h.n]
    let swap (x : Fin 16) : Fin 16 := if x = h.n then h.m else if x = h.m then h.n else x
    let s := disconnectTrain h.n s
    let s := updCoach (fun c => { c with
      cars := c.cars.map (fun x => if x.cond = .serving then { x with train := swap x.train } else x)
      taps := c.taps.map (fun t => { t with train := swap t.train })
      flights := c.flights.map (fun f => match f.dst with
        | .outlet n i => { f with dst := .outlet (swap n) i }
        | .port _ _ => f) }) s
    let s := updTrain h.n (fun _ => { new with state := .running, lastRel := old.lastRel, runStart := old.runStart }) s
    let s := updTrain h.m (fun _ => { old with
      state := if old.state = .faulted then .faulted else .draining, drainAt := s.now, quiet := true }) s
    let s := match s.coach.loader.image with
      | none => connectTrain h.n s
      | some im => im.drives.foldl (fun s e => applyDrive e s) (applyEventsShunt [h.n] im.events s)
    let s := match s.coach.loader.image with
      | none => s
      | some im => ((s.setReg (.cw .ACTID) 0 im.ident).setReg (.cw .ACTSER) 0 im.serial).orReg (.cw .ACTSRC) 0 (2 ^ 31)
    updLoader (fun l => { l with hand := some { h with passed := true, sw := sw, atE := s.now } })
      (s.setReg (.cw .SHSTAMP) 0 (stLo sw))

/-- A start or restart of train `n` completes (R140, R150 step 4): carriages start, taps pass words. -/
def startTrain (n : Fin 16) (s : State) : State :=
  let t := s.coach.trains[n]
  let s := discardWords n s
  let s := t.members.foldl (fun s k => match s.coach.serve[k] with
    | some p => startCar p k s
    | none => s) s
  let s := updCoach (fun c => { c with taps := c.taps.map (fun x =>
    if x.train = n then { x with last := none, markDue := false } else x) }) s
  updTrain n (fun t => { t with
    state := if t.settle = 0 then .running else .warming, wleft := t.settle, starting := false, stopHeld := false,
    runStart := s.now, lastRel := Vector.replicate 4 none, evtEdge := Vector.replicate 4 none }) s

/-- E comes at once for a staging train with SETTLE 0: Sw is the stamp of E minus 1 (R190 step 2). -/
def stagingStarted (n : Fin 16) (s : State) : State :=
  if isStaging s n && (s.coach.trains[n]).settle == 0 then handoverExchange (stSub s.now 1) s else s

/-- The end of the load of step 4 (R150, R156, R614): every spare takes its cache record, and the train restarts, or
becomes STOPPED after a stop. -/
def substLoad (n : Fin 16) (x : TrainSubst) (s : State) : State :=
  if x.parts.any (fun part => !cacheOk s part.logical) then faultTrain n (cacheFault n false s)
  else
    let s := x.parts.foldl (fun s part => loadCarriage part.spare part.logical s) s
    let mark (s : State) : State := updTrain n (fun t => { t with subst := some { x with loaded := true } }) s
    match x.stopAt with
    | some _ =>
      let live := trainLive s.coach.trains[n]
      let s := mark (updTrain n (fun t => { t with state := .stopped }) (discardWords n s))
      if live then stopTrainSlots n.val s else s
    | none => stagingStarted n (mark (startTrain n s))

/-- Step 5 (R150, R151, R609): the merger takes the GAP of each stream and the CARRIAGE_SUBST records. -/
def substFinish (n : Fin 16) (x : TrainSubst) (s : State) : State :=
  let staging := isStaging s n
  let s := (List.finRange 4).foldl (fun s i => match x.starts[i] with
    | none => s
    | some start => match x.stopAt, x.firsts[i] with
      | some e, _ => emitGap 3 (srcTrain n.val) i.val false start e s
      | none, some e => emitGap 3 (srcTrain n.val) i.val false start e s
      | none, none => emitGap 3 (srcTrain n.val) i.val true start start s) s
  let s := x.parts.foldl (fun s part => substDone part (some n) (substRecord part (some n) staging false s)) s
  updTrain n (fun t => { t with subst := none }) s

/-- A carriage of a train whose words flow, or that drains, is faulty (R150, R154, R156). -/
def trainCarFault (n : Fin 16) (k : Fin 64) (p : Fin 68) (cause : Nat) (s : State) : State :=
  match chooseSpare s k with
  | none => trainNoSpare n k s
  | some q =>
    let t := s.coach.trains[n]
    let part : CarSubst := { logical := k, fenced := p, spare := q, cause := cause, chosen := s.now }
    let s := reserveSpare k q (some n) s
    let gaps := gapStreams s n
    match t.subst with
    | some x =>
      let s := discardWords n s
      updTrain n (fun t => { t with
        state := if trainLive t then .warming else t.state, wleft := t.settle,
        subst := some { x with parts := x.parts ++ [part], loaded := false, firsts := Vector.replicate 4 none,
                               stopAt := x.stopAt.or (if t.state = .draining then some t.drainAt else none) } }) s
    | none =>
      let s := gaps.foldl (fun s i => declareHold (srcTrain n.val) i.val (gapStart t i) true s) s
      let s := discardWords n s
      updTrain n (fun t => { t with
        state := if trainLive t then .warming else t.state, wleft := t.settle,
        subst := some { parts := [part],
                        starts := Vector.ofFn (fun i => if gaps.contains i then some (gapStart t i) else none),
                        firsts := Vector.replicate 4 none, loaded := false,
                        stopAt := if t.state = .draining then some t.drainAt else none } }) s

/-- A carriage of a READY, STOPPED or LOADING train, or of no train, is replaced and loaded at once (R156). -/
def quietCarFault (train : Option (Fin 16)) (k : Fin 64) (p : Fin 68) (cause : Nat) (s : State) : State :=
  match chooseSpare s k with
  | none => match train with
    | some n => trainNoSpare n k s
    | none => updCoach (fun c => { c with serve := upd c.serve k (fun _ => none) }) s
  | some q =>
    let part : CarSubst := { logical := k, fenced := p, spare := q, cause := cause, chosen := s.now }
    let s := reserveSpare k q train s
    let recorded := (s.coach.loader.crcs[k]).isSome
    let s := substDone part train (substRecord part train (match train with | some n => isStaging s n | none => false) true s)
    if !recorded then s
    else if cacheOk s k then loadCarriage q k s
    else match train with
      | some n => faultTrain n (cacheFault n false s)
      | none => fstat (2 ^ 13) (s.orReg (.cw .LDSTAT) 0 (2 ^ 3))

/-- Fence a position with a cause, which raises its error flag (R150; causes 1 to 4 are CW_STAT bits 1 to 4). Its couplings
are cut: words on their way to it are lost. -/
def fenceCar (p : Fin 68) (cause : Nat) (s : State) : State :=
  let s := updCar p (fun c => { c with cond := .fenced, cause := cause, fifo := Vector.replicate 4 [], stalled := none }) s
  let s := updCoach (fun c => { c with flights := c.flights.filter (fun f => match f.dst with
    | .port q _ => q != p
    | .outlet _ _ => true) }) s
  if 1 ≤ cause ∧ cause ≤ 4 then s.orReg (.cw .STAT) 0 (2 ^ cause) else s

/-- A carriage is declared faulty (R146 to R148, R150, R156). -/
def declareCarFault (p : Fin 68) (cause : Nat) (s : State) : State :=
  let c := s.coach.cars[p]
  match c.cond with
  | .serving =>
    (match (s.coach.trains[c.train]).state with
     | .running => trainCarFault c.train c.logical p cause (fenceCar p cause s)
     | .warming => trainCarFault c.train c.logical p cause (fenceCar p cause s)
     | .draining => trainCarFault c.train c.logical p cause (fenceCar p cause s)
     | .ready => quietCarFault (some c.train) c.logical p cause (fenceCar p cause s)
     | .stopped => quietCarFault (some c.train) c.logical p cause (fenceCar p cause s)
     | .loading => quietCarFault (some c.train) c.logical p cause (fenceCar p cause s)
     | .empty => fenceCar p cause s
     | .faulted => fenceCar p cause s)
  | .idle => quietCarFault none c.logical p cause (fenceCar p cause s)
  | _ => s

/-- CARRIAGE_SUBST_COMPLETE: step 4 where it has not ended, then step 5. -/
def carSubstComplete (n : Fin 16) (s : State) : State :=
  let load := match s.coach.trains[n].subst with
    | some x => if x.loaded then s else substLoad n x s
    | none => s
  match load.coach.trains[n].subst with
  | some x => substFinish n x load
  | none => load

/-! ### Start and stop -/

/-- The staging train's bits of CW_TSTART and CW_TSTOP are ignored until the handover ends (R191). -/
def handoverLocks (s : State) (n : Fin 16) : Bool :=
  match s.coach.loader.hand with
  | some h => h.m == n
  | none => false

/-- One bit of CW_TSTART (R140). -/
def trainStart (n : Fin 16) (s : State) : State :=
  let t := s.coach.trains[n]
  if (t.state = .ready ∨ t.state = .stopped) ∧ !t.starting then updTrain n (fun t => { t with starting := true, stopHeld := false }) s
  else s

/-- A write of CW_TSTART. -/
def writeTStart (v : Word) (s : State) : State :=
  (List.finRange 16).foldl (fun s n => if bit v n.val && !handoverLocks s n then trainStart n s else s) s

/-- Stop one train (R140, R142, R614); `quiet` for a stop by the loader. -/
def trainStop (n : Fin 16) (quiet : Bool) (s : State) : State :=
  let t := s.coach.trains[n]
  if t.starting then updTrain n (fun t => { t with stopHeld := true }) s
  else if !trainLive t then s
  else match t.subst with
    | some x =>
      if x.loaded then stopTrainSlots n.val (updTrain n (fun t => { t with state := .draining, drainAt := s.now, quiet := quiet }) s)
      else if x.stopAt.isSome then s
      else updTrain n (fun t => { t with subst := some { x with stopAt := some s.now } }) s
    | none => stopTrainSlots n.val (updTrain n (fun t => { t with state := .draining, drainAt := s.now, quiet := quiet }) s)

/-- A write of CW_TSTOP: a stop of a handover's target before E ends the handover (R191). -/
def writeTStop (v : Word) (s : State) : State :=
  (List.finRange 16).foldl (fun s n =>
    if bit v n.val && !handoverLocks s n then
      let isTarget := match s.coach.loader.hand with
        | some h => !h.passed && h.n == n
        | none => false
      let s := if isTarget && trainLive s.coach.trains[n] then handoverEnd 13 s else s
      trainStop n false s
    else s) s

/-- TRAIN_START_COMPLETE: the end of a start (R140), or of the load of a substitution (R150 step 4). -/
def trainStartComplete (n : Fin 16) (s : State) : State :=
  let t := s.coach.trains[n]
  let start (s : State) : State :=
    if !t.starting then s
    else if t.stopHeld then updTrain n (fun t => { t with state := .stopped, starting := false, stopHeld := false }) s
    else stagingStarted n (startTrain n s)
  match t.subst with
  | some x => if x.loaded then start s else substLoad n x s
  | none => start s

/-- No substitution of the train still has its load to come. -/
def substLoaded (t : Train) : Bool :=
  match t.subst with
  | some x => x.loaded
  | none => true

/-- TRAIN_DRAINED (R142). -/
def trainDrained (n : Fin 16) (s : State) : State :=
  let t := s.coach.trains[n]
  if t.state = .draining ∧ substLoaded t ∧ trainQuiet s n ∧ !isOldSet s n then updTrain n (fun t => { t with state := .stopped }) s
  else s

/-- DRAIN_CUT (R142): 100 µs after the stop; a requested load or shunt gets no GAP (R186, R189). -/
def drainCut (n : Fin 16) (s : State) : State :=
  let t := s.coach.trains[n]
  if t.state = .draining ∧ substLoaded t ∧ us 100 ≤ sinceTicks t.drainAt s.now ∧ !isOldSet s n then
    let gaps := if t.quiet then [] else gapStreams s n
    let s := gaps.foldl (fun s i =>
      emitGap 10 (srcTrain n.val) i.val true (gapStart t i) (gapStart t i)
        (declareHold (srcTrain n.val) i.val (gapStart t i) false s)) s
    updTrain n (fun t => { t with state := .stopped }) (discardWords n s)
  else s

/-! ### Couplings and the outlet -/

/-- The earliest word on its way to a destination, and the others. -/
def popFlight (d : CoupDest) : List Flight → Option (Flight × List Flight)
  | [] => none
  | f :: fs =>
    if f.dst = d then some (f, fs)
    else match popFlight d fs with
      | some (g, rest) => some (g, f :: rest)
      | none => none

/-- COUPLING_WORD_ARRIVE (R135, R148, R131): a GAP mark that reaches a port owes QUAL on both output ports. -/
def couplingArrive (d : CoupDest) (parityError : Bool) (s : State) : State :=
  match popFlight d s.coach.flights with
  | none => s
  | some (f, rest) =>
    let s := updCoach (fun c => { c with flights := rest }) s
    match d with
    | .port p k =>
      if parityError then declareCarFault p 4 s
      else updCar p (fun c => { c with
        fifo := upd c.fifo k (fun q => q ++ [f.word])
        owed := if f.word.side = .mark then Vector.replicate 2 true else c.owed }) s
    | .outlet n i =>
      if parityError then declareCarFault f.sender 4 s
      else updTrain n (fun t => { t with outq := upd t.outq i (fun q => q ++ [f.word]) }) s

/-- Deliver an outlet word under the number of a train (R143, R239). -/
def deliverOutlet (n i : Nat) (w : Word) (qual warm : Bool) (value : Word) (stamp : Stamp) (s : State) : State :=
  let s := if bit w 16 then
    emit .acq tMeasure (srcTrain n) stamp [at_ i 30 ||| at_ (b2n qual) 29 ||| at_ (b2n warm) 28, value] s else s
  if bit w 17 then trainWordToSlots n i qual warm value stamp s else s

/-- Whether a released word is delivered, and as which train (R190): nothing of a staging train; by the stamp rule while
the old set of a handover is still there. -/
def deliverAs (s : State) (n : Fin 16) (stamp : Stamp) : Option (Fin 16) :=
  match s.coach.loader.hand with
  | none => some n
  | some h =>
    if !h.passed then (if h.m = n then none else some n)
    else if h.m = n then (if stLe stamp h.sw then some h.n else none)
    else if h.n = n then (if stLt h.sw stamp then some n else none)
    else some n

/-- WLEFT counts an outlet word of stream 0; the word that takes it to 0 is the last with WARM (R141), and makes E of a
handover (R190). -/
def countWarm (n : Fin 16) (i : Fin 4) (stamp : Stamp) (s : State) : State :=
  let t := s.coach.trains[n]
  if t.state = .warming ∧ i = 0 ∧ t.wleft ≠ 0 then
    let s := updTrain n (fun t => { t with wleft := t.wleft - 1, state := if t.wleft = 1 then .running else t.state }) s
    if t.wleft = 1 ∧ isStaging s n then handoverExchange stamp s else s
  else s

/-- The first word after a restart closes the GAP of its stream (R151). -/
def noteFirst (i : Fin 4) (stamp : Stamp) (t : Train) : Train :=
  match t.subst with
  | some x => { t with subst := some { x with
      firsts := if x.loaded && x.firsts[i].isNone then upd x.firsts i (fun _ => some stamp) else x.firsts } }
  | none => t

/-- The old set has released a word at or past Sw on a stream (R190 step 5). -/
def noteOld (n : Fin 16) (i : Fin 4) (stamp : Stamp) (s : State) : State :=
  updLoader (fun l => { l with hand := l.hand.map (fun h =>
    if h.passed && h.m == n && stLe h.sw stamp then { h with oldDone := upd h.oldDone i (fun _ => true) } else h) }) s

/-- OUTLET_WORD_RELEASE (R143). -/
def outletRelease (n : Fin 16) (i : Fin 4) (s : State) : State :=
  let t := s.coach.trains[n]
  match takeData t.outStamp[i] (dropMarks t.outq[i]) with
  | none => s
  | some (v, low, qual, rest) =>
    let stamp := extendStamp s.now low
    let s := updTrain n (fun t => noteFirst i stamp { t with
      outq := upd t.outq i (fun _ => rest), outStamp := upd t.outStamp i (fun _ => low) }) s
    let s := match deliverAs s n stamp with
      | none => s
      | some src =>
        deliverOutlet src.val i.val t.outlets[i] qual (t.state == .warming) v stamp
          (updTrain src (fun t => { t with lastRel := upd t.lastRel i (fun _ => some stamp) }) s)
    countWarm n i stamp (noteOld n i stamp s)

/-- HANDOVER_OLD_STOPPED (R190 step 5). -/
def handoverOldStopped (s : State) : State :=
  match s.coach.loader.hand with
  | none => s
  | some h =>
    let old := s.coach.trains[h.m]
    let all := (List.finRange 4).all (fun i => !(bit old.outlets[i] 31) || h.oldDone[i])
    if h.passed ∧ (all = true ∨ old.state = .faulted ∨ us 100 ≤ sinceTicks h.atE s.now) then
      let s := emptyTrain h.m s
      let s := almanac 0x402 0 (srcTrain h.n.val) (h.n.val + h.m.val * 2 ^ 4 + (stLo h.sw).toNat * 2 ^ 8) s
      loaderFinish 0 s
    else s

/-! ### Spares (R149, R157) -/

/-- A built-in test round of free spare `k` ends (R149). -/
def bistRound (k : Fin 4) (pass : Bool) (s : State) : State :=
  let p := ix 68 (64 + k.val)
  if s.rbit (.cw .CTRL) 0 0 ∧ (s.coach.cars[p]).cond = .spare ∧ pass = false then
    almanac 0x303 1 0x30 (p.val * 2 ^ 8) ((fenceCar p 5 s).orReg (.cw .STAT) 0 (2 ^ 5))
  else s

/-- A write of CW_PCMD (R157). -/
def writeCwPcmd (v : Word) (s : State) : State :=
  if bit v 31 ∧ fld v 6 0 < 68 ∧ (s.coach.cars[ix 68 (fld v 6 0)]).cond = .fenced then
    updCar (ix 68 (fld v 6 0)) (fun c => { c with cond := .retesting }) s
  else s

/-- A retest of position `p` ends (R157). -/
def carRetestDone (p : Fin 68) (pass : Bool) (s : State) : State :=
  if (s.coach.cars[p]).cond = .retesting then
    updCar p (fun c =>
      if pass then { c with cond := if 64 ≤ p.val then .spare else .recovered, cause := 0 }
      else { c with cond := .fenced, cause := 6 }) s
  else s

/-- The trains fed by a lane's taps (R86). -/
def laneTrains (s : State) (k : Fin 16) : List (Fin 16) :=
  (List.finRange 16).filter (fun n => s.coach.taps.any (fun t => t.lane == k && t.train == n))

/-- A lane has stopped for want of a spare: its trains become FAULTED (R86). -/
def faultLaneTrains (k : Fin 16) (s : State) : State :=
  (laneTrains s k).foldl (fun s n =>
    if (s.coach.trains[n]).state = .empty ∨ (s.coach.trains[n]).state = .faulted then s else faultTrain n s) s

end Sys2Proof.Machine
end

