-- ==== Sys2Proof/Machine/CarriageSteps.lean ====
section
/-! DEFINITION. One step of a carriage: its present instruction, a stalled emission, and a diagnostic write of its store
(chapter 04). -/
namespace Sys2Proof.Machine

/-- The present instruction waits for a word that has not come (R125, R613). -/
def mustWait (s : State) (p : Fin 68) (m : Micro) : Bool := takesWord m && !portReady (s.coach.cars[p]) (ix 4 m.src)

/-- Position `p` executes its present instruction, if that is `op` and the carriage runs (R120, R123 to R125, R146,
R147). A WAIT on an empty port consumes the marks it meets and goes on waiting (R131). -/
def stepCar (op : Nat) (p : Fin 68) (chk : CarCheck) (s : State) : State :=
  let c := s.coach.cars[p]
  let m := entryAt c c.pc
  if !carRuns s p || c.stalled.isSome || m.op != op then s
  else if chk = .programParity then declareCarFault p 3 s
  else if !condTrue c m then setPc p (c.pc + 1) s
  else if mustWait s p m then (takePort p (ix 4 m.src) s).2
  else if readsBad s p m || (chk == .storeParity && !(storeReads s p m).isEmpty) then declareCarFault p 2 s
  else if chk = .residue ∧ isMac op = true then declareCarFault p 1 s
  else
    let s := match chk with
      | .corrected n => if isMac op then s.countFld (.cw .RETRY) 0 15 0 n else s
      | _ => s
    if takesWord m then
      let (w, s) := takePort p (ix 4 m.src) s
      execMicro p m w s
    else execMicro p m none s

/-- An invalid operation declares the carriage faulty with cause 3 (R120). -/
def stepInvalid (p : Fin 68) (s : State) : State :=
  let c := s.coach.cars[p]
  let m := entryAt c c.pc
  if !carRuns s p || c.stalled.isSome || m.op != 0x3F then s
  else if !condTrue c m then setPc p (c.pc + 1) s
  else declareCarFault p 3 s

/-- A stalled emission goes out once room exists (R124). -/
def emitAfterStall (p : Fin 68) (s : State) : State :=
  match (s.coach.cars[p]).stalled with
  | none => s
  | some e => match tryEmit p e.dst e.value s with
    | some t => updCar p (fun c => { c with stalled := none }) t
    | none => s

/-- A diagnostic write of a store word (R160): ignored with DIAGWR while the position's train runs, warms or drains; the
parity bit stays that of the old word. -/
def diagWrite (p : Fin 68) (i : Nat) (v : Word) (s : State) : State :=
  let c := s.coach.cars[p]
  let t := s.coach.trains[c.train]
  if c.cond = .serving ∧ (trainLive t ∨ t.state = .draining) then s.orReg (.cw .STAT) 0 (2 ^ 7)
  else
    let par (w : Word) : Bool := (List.range 32).foldl (fun b j => b != bit w j) false
    let flip := par (carWord s p i) != par v
    let bad := parityBad s p i
    setParity p i (bad != flip) (s.writeWord (carAddr p i) v)

end Sys2Proof.Machine
end

