-- ==== Sys2Proof/Machine/CarriageRows.lean ====
section
/-! DEFINITION. The commands of a carriage: one micro-program instruction each (chapter 04). -/
namespace Sys2Proof.Machine

/-- NOP (R120): Carriage operation 0x00 does nothing for one cycle. -/
def execNop (p : Fin 68) (chk : CarCheck) (s : State) : Host.Outcome State Fault Refusal :=
  .next (stepCar 0x00 p chk s)

/-- WAIT (R125): Takes the next data word from a port into X or ACC, consuming stamp and GAP marks. -/
def execWait (p : Fin 68) (chk : CarCheck) (s : State) : Host.Outcome State Fault Refusal :=
  .next (stepCar 0x01 p chk s)

/-- MOVE (R613): Copies SRC to DST; from an input port it takes the next word as WAIT does. -/
def execMove (p : Fin 68) (chk : CarCheck) (s : State) : Host.Outcome State Fault Refusal :=
  .next (stepCar 0x02 p chk s)

/-- SCALE (R612): Multiplies X by an immediate, shifts and saturates. -/
def execScale (p : Fin 68) (chk : CarCheck) (s : State) : Host.Outcome State Fault Refusal :=
  .next (stepCar 0x03 p chk s)

/-- FIR (R611): Runs a FIR filter of LEN taps with decimation on X. -/
def execFir (p : Fin 68) (chk : CarCheck) (s : State) : Host.Outcome State Fault Refusal :=
  .next (stepCar 0x04 p chk s)

/-- BIQ (R611): Runs a cascade of biquad sections on X. -/
def execBiq (p : Fin 68) (chk : CarCheck) (s : State) : Host.Outcome State Fault Refusal :=
  .next (stepCar 0x05 p chk s)

/-- CIC (R612): Runs a CIC decimator of order 1 to 4. -/
def execCic (p : Fin 68) (chk : CarCheck) (s : State) : Host.Outcome State Fault Refusal :=
  .next (stepCar 0x06 p chk s)

/-- RECT (R124): Sets X to abs(X), saturated. -/
def execRect (p : Fin 68) (chk : CarCheck) (s : State) : Host.Outcome State Fault Refusal :=
  .next (stepCar 0x07 p chk s)

/-- ENV (R612): Rectifies X and smooths it with a one-pole filter. -/
def execEnv (p : Fin 68) (chk : CarCheck) (s : State) : Host.Outcome State Fault Refusal :=
  .next (stepCar 0x08 p chk s)

/-- THR (R124): Compares X with the stored thresholds and sets or clears a flag with hysteresis. -/
def execThr (p : Fin 68) (chk : CarCheck) (s : State) : Host.Outcome State Fault Refusal :=
  .next (stepCar 0x09 p chk s)

/-- CNT (R610): Counts rising edges of a flag into a store word. -/
def execCnt (p : Fin 68) (chk : CarCheck) (s : State) : Host.Outcome State Fault Refusal :=
  .next (stepCar 0x0A p chk s)

/-- PEAK (R611): Tracks the maximum and its index over a window of inputs. -/
def execPeak (p : Fin 68) (chk : CarCheck) (s : State) : Host.Outcome State Fault Refusal :=
  .next (stepCar 0x0B p chk s)

/-- LUT (R612): Looks X up in a table, with linear interpolation. -/
def execLut (p : Fin 68) (chk : CarCheck) (s : State) : Host.Outcome State Fault Refusal :=
  .next (stepCar 0x0C p chk s)

/-- REC (R126): Steps the 16-state recogniser from its table and may publish or clear a count. -/
def execRec (p : Fin 68) (chk : CarCheck) (s : State) : Host.Outcome State Fault Refusal :=
  .next (stepCar 0x0D p chk s)

/-- SQ (R124): Adds X × X to ACC. -/
def execSq (p : Fin 68) (chk : CarCheck) (s : State) : Host.Outcome State Fault Refusal :=
  .next (stepCar 0x0E p chk s)

/-- SQRT (R612): Sets X to the integer square root of the shifted ACC. -/
def execSqrt (p : Fin 68) (chk : CarCheck) (s : State) : Host.Outcome State Fault Refusal :=
  .next (stepCar 0x0F p chk s)

/-- DLY (R611): Emits X delayed by LEN inputs through a circular store line. -/
def execDly (p : Fin 68) (chk : CarCheck) (s : State) : Host.Outcome State Fault Refusal :=
  .next (stepCar 0x10 p chk s)

/-- EVT (R144): Publishes on a train event output, which reaches the router at the next BUSCLK edge. -/
def execEvt (p : Fin 68) (chk : CarCheck) (s : State) : Host.Outcome State Fault Refusal :=
  .next (stepCar 0x11 p chk s)

/-- JMP (R124): Continues execution at an immediate entry. -/
def execJmp (p : Fin 68) (chk : CarCheck) (s : State) : Host.Outcome State Fault Refusal :=
  .next (stepCar 0x12 p chk s)

/-- CLR (R124): Clears ACC, and optionally RS and the flags. -/
def execClr (p : Fin 68) (chk : CarCheck) (s : State) : Host.Outcome State Fault Refusal :=
  .next (stepCar 0x13 p chk s)

/-- INVALID_OPERATION (R120): OP 0x3F declares the carriage faulty with cause 3. -/
def execInvalidOperation (p : Fin 68) (s : State) : Host.Outcome State Fault Refusal := .next (stepInvalid p s)

/-- EMIT_AFTER_STALL (R124): An instruction stalled for room at a receiving port emits its word once room exists. -/
def execEmitAfterStall (p : Fin 68) (s : State) : Host.Outcome State Fault Refusal := .next (emitAfterStall p s)

/-- COUPLING_WORD_ARRIVE (R135): A word on a coupling or row bus enters the receiving FIFO and its parity is
checked. -/
def execCouplingWordArrive (d : CoupDest) (parityError : Bool) (s : State) : Host.Outcome State Fault Refusal :=
  .next (couplingArrive d parityError s)

end Sys2Proof.Machine
end

