-- ==== Sys2Proof/Machine/Lanes.lean ====
section
/-! DEFINITION. Acquisition lanes: scan lists and visits, conversions and sample words, SAMPLES records, fault detection,
reference tests and substitution (chapter 02; loans and aborted runs of chapter 03). -/
namespace Sys2Proof.Machine

/-! ### Access -/

/-- Change logical lane `k`. -/
def updLane (k : Fin 16) (f : Lane → Lane) (s : State) : State := { s with lanes := upd s.lanes k f }

/-- Change physical lane `p`. -/
def updPhys (p : Fin 18) (f : PhysLane → PhysLane) (s : State) : State := { s with phys := upd s.phys p f }

/-- Change the calibration engine. -/
def updCal (f : CalEngine → CalEngine) (s : State) : State := { s with cal := f s.cal }

/-- LN_ENABLE bit of a lane. -/
def laneOn (s : State) (k : Fin 16) : Bool := s.rbit (.ln .ENABLE) 0 k.val

/-- Set bits of LN_STAT. -/
def laneFlag (k : Fin 16) (m : Nat) (s : State) : State := s.orReg (.ln .STAT) k.val m

/-- LN_CTRL.TRIGEN. -/
def laneTriggered (s : State) (k : Fin 16) : Bool := s.rbit (.ln .CTRL) k.val 29

/-- The home physical lane (R44). -/
def homeLane (k : Fin 16) : Fin 18 := ix 18 k.val

/-! ### Scan lists (R48 to R53, R66, R70) -/

/-- Fields of a scan-list entry (R66). -/
def scPos (w : Word) : Nat := fld w 31 27
def scNeg (w : Word) : Nat := fld w 26 22
def scGain (w : Word) : Nat := fld w 21 19
def scDec (w : Word) : Nat := if fld w 18 7 = 0 then 4096 else fld w 18 7
def scCount (w : Word) : Nat := if fld w 6 0 = 0 then 128 else fld w 6 0

/-- An entry passes R50 and R53. -/
def entryOk (w : Word) : Bool := !(decide (26 ≤ scNeg w) && decide (scPos w ≤ 25)) && decide (scGain w ≤ 5)

/-- The shadow list. -/
def shadowList (s : State) (k : Fin 16) : ScanList :=
  { entries := Vector.ofFn (fun i : Fin 8 => s.reg (.ln .SCAN) (k.val * 8 + i.val)),
    nent := s.rfld (.ln .CTRL) k.val 18 16, period := (s.reg (.ln .PERIOD) k.val).toNat,
    settle := s.rfld (.ln .SETTLE) k.val 7 0 }

/-- Every entry of a list that is in use passes its checks. -/
def listOk (l : ScanList) : Bool := (List.finRange 8).all (fun i => decide (l.nent < i.val) || entryOk l.entries[i])

/-- The entry in progress. -/
def curEntry (l : Lane) : Word := l.list.entries[l.entry]

/-! ### SAMPLES records (R240) -/

/-- Close an open SAMPLES record and hand it to the merger. -/
def closeSamples (k : Fin 16) (s : State) : State :=
  match (s.lanes[k]).open_ with
  | none => s
  | some o =>
    emit .acq tSamples k.val o.stamp (((at_ o.entry.val 29 ||| at_ o.phys.val 24) ||| at_ o.step 0) :: o.words)
      (updLane k (fun l => { l with open_ := none }) s)

/-- A word goes on the open record: one entry, one physical lane, one step (R240). -/
def samplesFit (o : Option OpenSamples) (w : LaneWord) : Bool :=
  match o with
  | none => true
  | some o => o.entry == ix 8 (fld w.word 4 2) && o.phys == w.phys && o.step == w.step && stAdd o.stamp w.step == w.stamp

/-- A released word enters the lane's SAMPLES record. -/
def sampleRecord (k : Fin 16) (w : LaneWord) (s : State) : State :=
  let e := ix 8 (fld w.word 4 2)
  let s := if samplesFit (s.lanes[k]).open_ w then s else closeSamples k s
  let o : OpenSamples := match (s.lanes[k]).open_ with
    | none => { entry := e, phys := w.phys, step := w.step, words := [w.word], stamp := w.stamp }
    | some o => { o with words := o.words ++ [w.word], stamp := w.stamp }
  let s := updLane k (fun l => { l with open_ := some o }) s
  if s.rfld (.rk .CTRL) 0 5 0 ≤ o.words.length ∨ w.last = true then closeSamples k s else s

/-! ### Releasing words (R62 to R65, R76) -/

/-- A sample word is released: LN_LAST, the merger and the taps (R65, R132). -/
def releaseWord (k : Fin 16) (w : LaneWord) (s : State) : State :=
  let stale := bit w.word 7
  let e := ix 8 (fld w.word 4 2)
  let s := s.setReg (.ln .LAST) k.val w.word
  let s := updLane k (fun l => { l with
    lastStamp := some w.stamp
    lastFresh := if stale then l.lastFresh else upd l.lastFresh e (fun _ => some w.word)
    subst := l.subst.map (fun x => if x.firstWord.isNone && l.phase != .connecting then { x with firstWord := some w.stamp } else x) }) s
  let s := if s.rbit (.ln .CTRL) k.val 31 then sampleRecord k w s else s
  if s.rbit (.ln .CTRL) k.val 30 then
    tapWord k e.val (BitVec.ofInt 32 (w.word.toInt / 256)) (stale || bit w.word 6) w.stamp s
  else s

/-- Release the withheld words at the front that are cleared (R76). -/
def releaseCleared (k : Fin 16) : Nat → State → State
  | 0, s => s
  | fuel + 1, s => match (s.lanes[k]).withheld with
    | [] => s
    | w :: rest =>
      if w.clear then releaseCleared k fuel (releaseWord k w (updLane k (fun l => { l with withheld := rest }) s)) else s

/-- A finished word: released, or held behind an uncleared one (R76). -/
def finishWord (k : Fin 16) (w : LaneWord) (s : State) : State :=
  if w.clear && (s.lanes[k]).withheld.isEmpty then releaseWord k w s
  else updLane k (fun l => { l with withheld := l.withheld ++ [w] }) s

/-- The 24-bit value of R60. -/
def decimate (sum : Int) (d : Nat) : Int := clampInt (-8388608) 8388607 ((sum * 512 + d) / (2 * d))

/-- Compose a sample word (R62). -/
def sampleWord (value : Int) (stale clip subst : Bool) (entry : Fin 8) (vpar first : Bool) : Word :=
  BitVec.ofInt 32 (value * 256) ||| at_ (b2n stale) 7 ||| at_ (b2n clip) 6 ||| at_ (b2n subst) 5 ||| at_ entry.val 2 |||
  at_ (b2n vpar) 1 ||| at_ (b2n first) 0

/-! ### Codes (R90, R93, R113) -/

/-- CA_TEMP.VALID and its signed quarter degrees. -/
def tempValid (s : State) : Bool := s.rbit (.ca .TEMP) 0 31
def tempQ (s : State) : Int := sext 16 (s.rfld (.ca .TEMP) 0 15 0)

/-- Byte `b` of set `j` of lane `k`: codes CAPTRIM0 to 5, GTRIM0 to 5, OTRIM0 to 5 in order (R113). -/
def setCode (s : State) (k : Fin 16) (j c : Nat) : Nat :=
  s.rfld (.ca .SETS) ((5 * k.val + j) * 5 + c / 4) (8 * (c % 4) + 5) (8 * (c % 4))

/-- The temperatures of the sets, in quarter degrees. -/
def setTemps : List Int := [-160, 0, 160, 340, 500]

/-- The lower of the two sets that bracket `t4`. -/
def bracket (t4 : Int) : Nat := if t4 ≤ 0 then 0 else if t4 ≤ 160 then 1 else if t4 ≤ 340 then 2 else 3

/-- The code applied at `t4` (R93). -/
def interp (c : Nat → Nat) (t4 : Int) : Nat :=
  if t4 ≤ -160 then c 0
  else if 500 ≤ t4 then c 4
  else
    let i := bracket t4
    let lo := setTemps.getD i 0
    let hi := setTemps.getD (i + 1) 0
    let span := hi - lo
    ((((c i : Int) * (hi - t4) + c (i + 1) * (t4 - lo)) + span / 2) / span).toNat

/-- The eighteen codes of a lane for the present temperature; the 40 °C set while CA_TEMP is not valid (R93, R96). -/
def laneCodes (s : State) (k : Fin 16) : Vector Nat 18 :=
  Vector.ofFn (fun c : Fin 18 => if tempValid s then interp (fun j => setCode s k j c.val) (tempQ s) else setCode s k 2 c.val)

/-! ### Visits and cycles (R67 to R72) -/

/-- A visit of entry `e` begins: parity, decimator and codes (R63, R67, R95). `settled` when its settling is done. -/
def startVisit (k : Fin 16) (e : Fin 8) (settled : Bool) (s : State) : State :=
  let codes := laneCodes s k
  updLane k (fun l => { l with
    phase := if settled then .converting else .settling, entry := e, visitAt := s.now,
    vpar := l.parity[e], parity := upd l.parity e (fun b => !b), sum := 0, count := 0, clip := false, dirty := false,
    wordsLeft := scCount l.list.entries[e], first := true, codes := codes }) s

/-- A committed list is checked and loaded (R70), with R63 afresh and E at this edge (R68). -/
def loadList (k : Fin 16) (s : State) : State :=
  if !(s.lanes[k]).commit then s
  else
    let l := shadowList s k
    if listOk l then
      updLane k (fun x => { x with list := l, commit := false, parity := Vector.replicate 8 false, schedE := s.now,
                                   lastFresh := Vector.replicate 8 none }) s
    else laneFlag k (2 ^ 7) (updLane k (fun x => { x with commit := false }) s)

/-- A scan cycle begins at entry 0 (R68, R70). -/
def beginCycle (k : Fin 16) (settled : Bool) (s : State) : State :=
  startVisit k 0 settled (updLane k (fun l => { l with heldStart := false, heldRestart := false }) (loadList k s))

/-- The lane is free running (R68). -/
def freeRunning (s : State) (k : Fin 16) : Bool := (s.lanes[k]).list.period == 0 && !laneTriggered s k

/-- The end of a visit: the next entry, or the end of the cycle, which publishes CYCLE_END (R67, R68, R441). -/
def endVisit (k : Fin 16) (s : State) : State :=
  let l := s.lanes[k]
  if l.entry.val < l.list.nent then startVisit k (l.entry + 1) false s
  else
    let s := publish prLane k.val 0 s
    if freeRunning s k then beginCycle k false s else updLane k (fun l => { l with phase := .idle }) s

/-- A run of scan cycles starts afresh (R71, R74): R63, stream start and E at this edge. -/
def startRun (k : Fin 16) (s : State) : State :=
  let s := updLane k (fun l => { l with
    parity := Vector.replicate 8 false, streamStart := s.now, lastStamp := none, schedE := s.now, withheld := [],
    lastFresh := Vector.replicate 8 none }) s
  beginCycle k false s

/-- The physical lane is running a reference test. -/
def testing (s : State) (p : Fin 18) : Bool := (s.phys[p]).test.isSome

/-- A start condition (R68, R69, R77, R608): it starts a cycle in an idle lane, is held by a test or a substitution, and is
otherwise dropped with OVERRUN. -/
def startCondition (k : Fin 16) (s : State) : State :=
  let l := s.lanes[k]
  if !laneOn s k || l.parked then s
  else match l.phase with
    | .idle => if testing s l.serving then updLane k (fun l => { l with heldStart := true }) s else beginCycle k false s
    | .connecting =>
      if (match l.subst with | some x => x.idle | none => false) then updLane k (fun l => { l with heldStart := true }) s
      else laneFlag k (2 ^ 6) s
    | .settling => laneFlag k (2 ^ 6) s
    | .converting => laneFlag k (2 ^ 6) s
    | .off => s
    | .stopped => s

/-- SCAN_CYCLE_START: the period schedule or free running (R68). A trigger comes by EVENT_DELIVERY. -/
def cycleStart (k : Fin 16) (s : State) : State :=
  let l := s.lanes[k]
  if laneTriggered s k then s
  else if l.list.period = 0 then (if l.phase = .idle then startCondition k s else s)
  else if ticks l.schedE s.now % l.list.period = 0 ∧ l.schedE ≠ s.now then startCondition k s
  else s

/-- A word end, a visit boundary or an idle lane: the points where a test, a run or a loan may begin or end. -/
def atPoint (l : Lane) : Bool :=
  match l.phase with
  | .converting => l.count == 0
  | .connecting => false
  | _ => true

/-! ### Substitution (R82 to R87, R107, R108) -/

/-- Free spares, lowest first (LN_POOL). -/
def freeLanes (s : State) : List (Fin 18) := (List.finRange 18).filter (fun p => (s.phys[p]).cond == .free)

/-- LN_POOL. -/
def poolWord (s : State) : Word := bitsOf 18 (fun p => (s.phys[ix 18 p]).cond == .free)

/-- START of a lane GAP (R83, R607). -/
def laneGapStart (l : Lane) : Stamp :=
  match l.lastStamp with
  | some t => stAdd t 1
  | none => l.streamStart

/-- A CAL_DONE record, stamped now (R239). -/
def calDone (k : Fin 16) (result mode : Nat) (p : Fin 18) (limit : Bool) (temp : Word) (s : State) : State :=
  emit .acq tCalDone k.val s.now
    [at_ result 30 ||| at_ mode 28 ||| at_ p.val 23 ||| at_ (b2n limit) 22 ||| (temp &&& 0xFFFF)] (closeSamples k s)

/-- A STALE_BEGIN or STALE_END record, stamped now (R239). -/
def staleMark (typ : Nat) (k : Fin 16) (reason : Nat) (s : State) : State :=
  emit .acq typ k.val s.now [at_ (s.lanes[k]).entry.val 29 ||| at_ reason 0] (closeSamples k s)

/-- The lane becomes pending for a run (R97). -/
def calPend (k : Fin 16) (s : State) : State := s.orReg (.ca .RUN) 0 (2 ^ k.val)

/-- The run in progress is aborted (R99, R108, R109): RESULT 2, ABORT, and the lane pending again. A spare borrowed and not
yet serving returns to the pool. -/
def abortRun (s : State) : State :=
  let c := s.cal
  let temp := if c.phase = .running then c.temp else s.reg (.ca .TEMP)
  let s := calDone c.lane 2 c.mode c.phys false temp s
  let s := (s.setFld (.ca .LTEMP) c.lane.val 31 30 2).orReg (.ca .STAT) 0 (2 ^ 3)
  let s := match c.spare with
    | some q => if (s.phys[q]).cond = .loan c.lane ∧ c.phase = .waiting then updPhys q (fun x => { x with cond := .free }) s else s
    | none => s
  calPend c.lane (updCal (fun c => { c with phase := .idle, mode := 0, spare := none, dac := s.rfld (.ca .DACVAL) 0 11 0 }) s)

/-- The engine has selected or runs lane `k`. -/
def calBusyWith (s : State) (k : Fin 16) : Bool := s.cal.phase != .idle && s.cal.lane == k

/-- The LANE_SUBST record and what R84 and R97 lay down after it. -/
def laneSubstRecord (k : Fin 16) (x : LaneSubst) (s : State) : State :=
  let s := emit .acq tLaneSubst k.val x.chosen
    [at_ k.val 28 ||| at_ x.fenced.val 23 ||| at_ x.spare.val 18 ||| at_ x.cause 14 ||| at_ (b2n x.fromLoan) 13, poolWord s]
    (closeSamples k s)
  let s := laneFlag k (2 ^ 4) (s.orReg (.ln .FAULTS) 0 (2 ^ k.val))
  almanac 0x101 2 k.val (k.val + x.fenced.val * 2 ^ 8 + x.spare.val * 2 ^ 16 + x.cause * 2 ^ 24) s

/-- A spare on loan leaves early (R108). Before t0 the run is aborted and the stream is untouched; during the run it is
aborted and the home lane reconnects; after it the run stands. -/
def loanLeaves (k : Fin 16) (q : Fin 18) (s : State) : State :=
  match (s.lanes[k]).cal with
  | .loan home =>
    let l := s.lanes[k]
    let during := l.calEnd.isNone
    let idle : Bool := l.phase == .idle || l.phase == .off
    let lost := !idle && (during || l.count != 0)
    let start := laneGapStart l
    let s := closeSamples k s
    let s := if during then abortRun s else s
    let s := updLane k (fun l => { l with
      cal := .none, calEnd := none, serving := home, withheld := [],
      phase := if idle then l.phase else .connecting, sum := 0, count := 0, dirty := false, clip := false,
      subst := if idle then none else
        some { fenced := q, spare := home, cause := 0, fromLoan := false, chosen := s.now,
               gapStart := if lost then some start else none, idle := false, firstWord := none, loanCut := true } }) s
    if lost then tapGap k (declareHold k.val 0 start false s) else s
  | _ => if calBusyWith s k then abortRun s else s

/-- The spare for a substitution (R82 step 2): the lowest-numbered free lane, else the lowest lane on loan. -/
def chooseLane (s : State) : Option (Fin 18 × Bool) :=
  match freeLanes s with
  | q :: _ => some (q, false)
  | [] => ((List.finRange 18).find? (fun p => match (s.phys[p]).cond with | .loan _ => true | _ => false)).map (fun q => (q, true))

/-- The logical lane stops for want of a spare (R86). -/
def laneNoSpare (k : Fin 16) (p : Fin 18) (s : State) : State :=
  let l := s.lanes[k]
  let start := laneGapStart l
  let s := closeSamples k s
  let s := updLane k (fun l => { l with phase := .stopped, withheld := [], cal := .none, calEnd := none, subst := none }) s
  let s := fstat (2 ^ 10) (laneFlag k (2 ^ 3) (s.orReg (.ln .FAULTS) 0 (2 ^ k.val)))
  let s := if laneOn s k then emitGap 2 k.val 0 true start start (tapGap k (declareHold k.val 0 start false s)) else s
  faultLaneTrains k (almanac 0x102 3 k.val (k.val + p.val * 2 ^ 8) s)

/-- Fence a physical lane. -/
def fencePhys (p : Fin 18) (cause : Nat) (s : State) : State :=
  updPhys p (fun x => { x with cond := .fenced, cause := cause, test := none, testDue := false, since := none }) s

/-- A physical lane in service for lane `k` is faulty (R82 steps 1 and 2, R99, R608). -/
def laneFault (k : Fin 16) (p : Fin 18) (cause : Nat) (s : State) : State :=
  let s := if calBusyWith s k && s.cal.phase == .waiting then abortRun s else s
  let s := publish prLane k.val 1 (fencePhys p cause s)
  match chooseLane s with
  | none => laneNoSpare k p s
  | some (q, fromLoan) =>
    let s := match (s.phys[q]).cond with
      | .loan j => loanLeaves j q s
      | _ => s
    let l := s.lanes[k]
    let idle : Bool := l.phase == .idle || l.phase == .off
    let start := laneGapStart l
    let s := closeSamples k s
    let s := updPhys q (fun x => { x with cond := .inService k, cause := 0, test := none }) s
    let s := updLane k (fun l => { l with
      phase := .connecting, serving := q, withheld := [], sum := 0, count := 0, clip := false, dirty := false,
      cal := .none, calEnd := none,
      subst := some { fenced := p, spare := q, cause := cause, fromLoan := fromLoan, chosen := s.now,
                      gapStart := if idle then none else some start, idle := idle, firstWord := none, loanCut := false } }) s
    if idle then s else tapGap k (declareHold k.val 0 start true s)

/-- A physical lane is declared faulty (R75, R79, R81, R82). -/
def declarePhysFault (p : Fin 18) (cause : Nat) (s : State) : State :=
  match (s.phys[p]).cond with
  | .inService k => laneFault k p cause s
  | .free => almanac 0x103 1 almSafety (p.val * 2 ^ 8 + cause * 2 ^ 24) (fencePhys p cause s)
  | .loan k =>
    loanLeaves k p (almanac 0x103 1 almSafety (p.val * 2 ^ 8 + cause * 2 ^ 24) (fencePhys p cause s))
  | .fenced => s
  | .retesting => s

/-- Step 4 ends (R82, R87, R608): the substitute begins a new visit of the entry in progress, or a new cycle after a held
RESTART, or nothing in an idle lane. -/
def substConnected (k : Fin 16) (s : State) : State :=
  let l := s.lanes[k]
  let idle := match l.subst with
    | some x => x.idle
    | none => false
  if !laneOn s k then updLane k (fun l => { l with phase := .off }) s
  else if l.heldRestart then
    beginCycle k true (updLane k (fun l => { l with
      parity := Vector.replicate 8 false, streamStart := s.now, lastStamp := none, schedE := s.now }) s)
  else if idle then
    (if l.heldStart || freeRunning s k then beginCycle k false s else updLane k (fun l => { l with phase := .idle }) s)
  else startVisit k l.entry true s

/-- LANE_SUBST_COMPLETE: step 5 (R82 to R84), after step 4 where it has not ended. -/
def laneSubstComplete (k : Fin 16) (s : State) : State :=
  match (s.lanes[k]).subst with
  | none => s
  | some _ =>
    let s := if (s.lanes[k]).phase = .connecting then substConnected k s else s
    match (s.lanes[k]).subst with
    | none => s
    | some x =>
      let cause := if x.loanCut then 5 else 1
      let s := match x.gapStart with
        | none => s
        | some start => match x.firstWord with
          | some e => emitGap cause k.val 0 false start e (closeSamples k s)
          | none => emitGap cause k.val 0 true start start (closeSamples k s)
      let s := if x.loanCut then s else calPend k (laneSubstRecord k x s)
      updLane k (fun l => { l with subst := none }) s

/-! ### Conversions (R56 to R60, R75, R76) -/

/-- A conversion of physical lane `p` ends: the consistency count of R75. The flag says that the lane is declared
faulty. A single inconsistency that 11 further conversions clear is counted in LN_ICNT and clears withheld words. -/
def noteConsistency (p : Fin 18) (consistent : Bool) (s : State) : Bool × State :=
  match (s.phys[p]).since, consistent with
  | none, true => (false, s)
  | none, false => (false, updPhys p (fun x => { x with since := some 0 }) s)
  | some _, false => (true, s)
  | some n, true =>
    if n + 1 < 11 then (false, updPhys p (fun x => { x with since := some (n + 1) }) s)
    else
      let s := updPhys p (fun x => { x with since := none }) s
      match (s.phys[p]).cond with
      | .inService k => (false, updLane k (fun l => { l with withheld := l.withheld.map (fun w => { w with clear := true }), dirty := false })
          (s.countFld (.ln .ICNT) k.val 15 0 1))
      | .loan k => (false, updLane k (fun l => { l with withheld := l.withheld.map (fun w => { w with clear := true }), dirty := false })
          (s.countFld (.ln .ICNT) k.val 15 0 1))
      | _ => (false, s)

/-- The decimator has its last conversion: the sample word, and the end of the visit after the last word (R60 to R64). The
word's stamp is 40 ticks back, at the hold instant (R56, R57). -/
def wordDone (k : Fin 16) (s : State) : State :=
  let l := s.lanes[k]
  let d := scDec (curEntry l)
  let w := sampleWord (decimate l.sum d) false l.clip (decide (l.serving ≠ homeLane k)) l.entry l.vpar l.first
  let uncleared := l.dirty && (s.phys[l.serving]).since.isSome
  let x : LaneWord := { word := w, stamp := stSub s.now 40, phys := l.serving, step := 48 * d, clear := !uncleared,
                        last := l.wordsLeft == 1 }
  let s := updLane k (fun l => { l with
    sum := 0, count := 0, clip := false, dirty := false, first := false, wordsLeft := l.wordsLeft - 1 }) s
  let s := finishWord k x s
  if l.wordsLeft ≤ 1 then endVisit k s else s

/-- CONVERSION_COMPLETE (R56): the code passes to the decimator. -/
def conversion (k : Fin 16) (code : BitVec 16) (consistent cmOut : Bool) (s : State) : State :=
  let l := s.lanes[k]
  if l.phase ≠ .converting ∨ l.cal = .hold ∨ testing s l.serving = true then s
  else
    let (faulty, s) := noteConsistency l.serving consistent s
    if faulty then declarePhysFault l.serving 1 s
    else
      let clipped := code == 0x8000 || code == 0x7FFF
      let s := updLane k (fun l => { l with
        sum := l.sum + code.toInt, count := l.count + 1, clip := l.clip || clipped || cmOut,
        dirty := l.dirty || !consistent }) s
      let s := if cmOut then laneFlag k (2 ^ 1) s else s
      if scDec (curEntry l) ≤ l.count + 1 then wordDone k s else s

/-- SETTLE_END (R67): after LN_SETTLE LANECLK cycles the conversions begin. In a substitution it is the end of step 4. -/
def settleEnd (k : Fin 16) (s : State) : State :=
  let l := s.lanes[k]
  match l.phase with
  | .settling => if 2 * l.list.settle ≤ sinceTicks l.visitAt s.now ∧ !testing s l.serving then
      updLane k (fun l => { l with phase := .converting }) s else s
  | .connecting => substConnected k s
  | _ => s

/-! ### Register writes (R70 to R72) -/

/-- Enable a lane (R71, R109): a run of its disabled lane is aborted. A lane whose serving lane is fenced takes the lowest
free spare, or stops (log entry 22). -/
def laneStart (k : Fin 16) (s : State) : State :=
  let s := if calBusyWith s k && s.cal.phase == .running then abortRun s else s
  let p := (s.lanes[k]).serving
  if (s.lanes[k]).parked then s
  else if (s.phys[p]).cond = .inService k then
    (if (s.lanes[k]).phase = .connecting then s else startRun k s)
  else match freeLanes s with
    | q :: _ => startRun k (updLane k (fun l => { l with serving := q }) (updPhys q (fun x => { x with cond := .inService k }) s))
    | [] => laneNoSpare k p s

/-- Disable a lane (R71, R109): the partial word is discarded without a GAP. -/
def laneStop (k : Fin 16) (s : State) : State :=
  let l := s.lanes[k]
  let s := closeSamples k s
  let s := match l.cal with
    | .hold => staleMark tStaleEnd k 2 s
    | .loan home =>
      updLane k (fun l => { l with serving := home }) (updPhys l.serving (fun x => { x with cond := .free }) s)
    | .none => s
  updLane k (fun l => { l with
    phase := if l.phase = .connecting then .connecting else if l.phase = .stopped then .stopped else .off,
    withheld := [], sum := 0, count := 0, clip := false, dirty := false, cal := .none, calEnd := none,
    heldStart := false, heldRestart := false }) s

/-- A write of LN_ENABLE: lanes set by one write start at the same edge (R71). -/
def writeEnable (v : Word) (s : State) : State :=
  let old := s.reg (.ln .ENABLE)
  let s := s.setReg (.ln .ENABLE) 0 (v &&& 0xFFFF)
  (List.finRange 16).foldl (fun s k =>
    if bit v k.val && !(bit old k.val) then laneStart k s
    else if !(bit v k.val) && bit old k.val then laneStop k s else s) s

/-- LN_CMD.RESTART (R72, R87): held while substituting. -/
def laneRestart (k : Fin 16) (s : State) : State :=
  match (s.lanes[k]).phase with
  | .off => s
  | .stopped => s
  | .connecting => updLane k (fun l => { l with heldRestart := true }) s
  | _ => beginCycle k false (updLane k (fun l => { l with streamStart := s.now, lastStamp := none, schedE := s.now }) s)

/-- A write of LN_CMD. -/
def writeLnCmd (k : Fin 16) (v : Word) (s : State) : State :=
  let s := if bit v 0 then updLane k (fun l => { l with commit := true }) s else s
  let s := if bit v 1 then laneRestart k s else s
  if bit v 2 then updPhys (s.lanes[k]).serving (fun x => { x with testDue := true }) s else s

/-! ### Reference tests (R77 to R79, R88) -/

/-- 2048 + round(1067 / G) minus 2048, for gain code `g` (R78, R101). -/
def dacStep (g : Nat) : Nat := (2 * 1067 + 2 ^ g) / (2 * 2 ^ g)

/-- Expected 24-bit value of source 30 at gain code `g` (R78). -/
def expectDac (g : Nat) : Int := (dacStep g * 2 ^ g * 393216 + 50) / 100

/-- Expected 24-bit value of source 29 at gain 1: 0.750 V (R78). -/
def expectRef : Int := 2516582

/-- Highest gain code of the loaded list (R78). -/
def highestGain (l : ScanList) : Nat :=
  (List.finRange 8).foldl (fun g i => if i.val ≤ l.nent then max g (scGain l.entries[i]) else g) 0

/-- The logical lane that a physical lane serves, in service or on loan. -/
def servedLane (s : State) (p : Fin 18) : Option (Fin 16) :=
  match (s.phys[p]).cond with
  | .inService k => some k
  | .loan k => some k
  | _ => none

/-- A lane timer ticks (R77). Fenced and retesting lanes run no test. -/
def laneTimerTick (p : Fin 18) (s : State) : State :=
  match (s.phys[p]).cond with
  | .fenced => s
  | .retesting => s
  | _ => updPhys p (fun x => { x with testDue := true }) s

/-- The engine measures on this lane, so its test is suspended (R99). -/
def suspended (s : State) (p : Fin 18) : Bool := s.cal.phase != .idle && s.cal.phys == p

/-- REFERENCE_TEST_START (R77, R78). -/
def testStart (p : Fin 18) (s : State) : State :=
  let x := s.phys[p]
  let ready : Bool := match servedLane s p with
    | some k => atPoint s.lanes[k] || decide ((s.lanes[k]).serving ≠ p)
    | none => true
  let mayTest : Bool := match x.cond with
    | .fenced => false
    | .retesting => false
    | _ => true
  if x.testDue ∧ x.test.isNone ∧ mayTest ∧ ready ∧ !suspended s p ∧ !s.power.parked[1] then
    let odd := x.tests % 2 = 1 ∧ s.cal.phase ≠ .running
    let g := match servedLane s p with
      | some k => highestGain (s.lanes[k]).list
      | none => x.oddFree % 6
    updPhys p (fun x => { x with testDue := false, test := some { gain := if odd then some g else none, again := false } }) s
  else s

/-- A lane whose test has ended goes on: a start held in the test begins its cycle, and a visit shifts (R77). -/
def afterTest (p : Fin 18) (s : State) : State :=
  match servedLane s p with
  | none => s
  | some k =>
    let l := s.lanes[k]
    if l.serving ≠ p then s
    else if l.phase = .idle ∧ l.heldStart then beginCycle k false s
    else if l.phase = .settling then updLane k (fun l => { l with visitAt := s.now }) s
    else s

/-- REFERENCE_TEST_DONE (R78, R79): the 24-bit result, and the consistency of the conversion. -/
def testDone (p : Fin 18) (value : Int) (consistent : Bool) (s : State) : State :=
  match (s.phys[p]).test with
  | none => s
  | some t =>
    let (faulty, s) := noteConsistency p consistent s
    if faulty then declarePhysFault p 1 s
    else
      let expected := match t.gain with
        | some g => expectDac g
        | none => expectRef
      let pass := decide ((value - expected).natAbs ≤ 41943)
      let s := updPhys p (fun x => { x with testValue := value, testPass := pass }) s
      if pass then
        let free := (s.phys[p]).cond = .free
        afterTest p (updPhys p (fun x => { x with
          test := none, tests := x.tests + 1,
          oddFree := if free ∧ t.gain.isSome then x.oddFree + 1 else x.oddFree }) s)
      else
        let s := match servedLane s p with
          | some k => laneFlag k (2 ^ 2) s
          | none => s
        if t.again then declarePhysFault p 2 s
        else updPhys p (fun x => { x with test := some { t with again := true } }) s

/-- LN_PCMD.RETEST (R88). -/
def laneRetest (p : Fin 18) (s : State) : State :=
  if (s.phys[p]).cond = .fenced then updPhys p (fun x => { x with cond := .retesting }) s else s

/-- Expected value of one of the eighteen retest conversions: sources 29, 30, 31 at the six gains in order (R88). -/
def retestExpect (i : Nat) : Int :=
  let g := i % 6
  if i < 6 then (if g ≤ 1 then expectRef * (2 ^ g : Nat) else 8388352)
  else if i < 12 then expectDac g else 0

/-- LANE_RETEST_DONE (R88): eighteen results and their consistency. -/
def laneRetestDone (p : Fin 18) (values : List Int) (consistent : Bool) (s : State) : State :=
  if (s.phys[p]).cond = .retesting then
    let pass := consistent && (List.range 18).all (fun i =>
      decide ((values.getD i 0 - retestExpect i).natAbs ≤ 41943))
    if pass then
      almanac 0x104 0 almSafety (p.val * 2 ^ 8) (updPhys p (fun x => { x with cond := .free, cause := 0 }) s)
    else updPhys p (fun x => { x with cond := .fenced, cause := 4 }) s
  else s

/-! ### Power (R73, R74) -/

/-- Ticks left in a lane's present sample word: 0 where it may park (R73). A substituting lane is not parked before it has
connected. -/
def wordLeft (s : State) (k : Fin 16) : Nat :=
  let l := s.lanes[k]
  match l.phase with
  | .converting => if l.count = 0 then 0 else 48 * (scDec (curEntry l) - l.count)
  | .connecting => us 10
  | _ => 0

/-- A lane is parked at the end of a sample word (R73): its withheld words are released and its record is closed. -/
def parkLane (k : Fin 16) (s : State) : State :=
  let ws := (s.lanes[k]).withheld
  let s := updLane k (fun l => { l with parked := true, withheld := [] }) s
  let s := closeSamples k (ws.foldl (fun s w => releaseWord k w s) s)
  updLane k (fun l => { l with
    phase := if l.phase = .stopped then .stopped else .off, sum := 0, count := 0, clip := false, dirty := false }) s

/-- A parked lane restarts (R74): a lane that is enabled begins a new cycle; a hold or loan is over. -/
def restartLane (k : Fin 16) (s : State) : State :=
  if !(s.lanes[k]).parked then s
  else
    let s := match (s.lanes[k]).cal with
      | .hold => staleMark tStaleEnd k 0 s
      | .loan home => updLane k (fun l => { l with serving := home }) (updPhys (s.lanes[k]).serving (fun x => { x with cond := .free }) s)
      | .none => s
    let s := updLane k (fun l => { l with parked := false, cal := .none, calEnd := none }) s
    if laneOn s k && (s.lanes[k]).phase != .stopped then laneStart k s else s

/-- Every lane timer restarts with its tick due at once (R77). -/
def testsDue (s : State) : State := (List.finRange 18).foldl (fun s p => laneTimerTick p s) s

end Sys2Proof.Machine
end

