-- ==== Sys2Proof/Machine/Calibration.lean ====
section
/-! DEFINITION. The calibration engine: triggers, lane selection, runs, holds and loans, and the CA_ registers (chapter
03); the LN_ registers (chapter 02), whose state view shows holds and loans. -/
namespace Sys2Proof.Machine

/-! ### Triggers and selection (R96 to R98, R103) -/

/-- Stamp ticks in a number of seconds. -/
def seconds (n : Nat) : Nat := 96000000 * n

/-- A lane's automatic triggers at a reading (R97). -/
def calTriggered (s : State) (k : Fin 16) : Bool :=
  let tref := match s.cal.tref[k] with
    | some w => w
    | none => s.cal.firstTemp
  let since := match s.cal.lastRun[k] with
    | some t => t
    | none => s.cal.firstValid
  s.rbit (.ca .CTRL) 0 0 &&
    (decide (4 * s.rfld (.ca .DTEMP) 0 4 0 ≤ (tempQ s - sext 16 tref.toNat).natAbs) ||
     decide (seconds (s.rfld (.ca .MAXINT) 0 9 0) ≤ ticks since s.now))

/-- TEMPERATURE_READING (R96, R97). -/
def temperatureReading (t : BitVec 16) (s : State) : State :=
  if !s.busRuns then s
  else
    let w : Word := 0x80000000 ||| t.setWidth 32
    let s := if tempValid s then s else updCal (fun c => { c with firstTemp := w, firstValid := s.now }) s
    let s := s.setReg (.ca .TEMP) 0 w
    (List.finRange 16).foldl (fun u k => if calTriggered s k then calPend k u else u) s

/-- The pending lanes that the engine may select, lowest first (R98): a lane that is substituting is passed over. -/
def calCandidates (s : State) : List (Fin 16) :=
  (List.finRange 16).filter (fun k =>
    s.rbit (.ca .RUN) 0 k.val && (s.lanes[k]).phase != .connecting && (s.lanes[k]).phase != .stopped)

/-- The engine drops the pending bits of stopped lanes (R98). -/
def calDropStopped (s : State) : State :=
  (List.finRange 16).foldl (fun s k => if (s.lanes[k]).phase = .stopped then s.clrReg (.ca .RUN) 0 (2 ^ k.val) else s) s

/-- The spare that policy lets a run borrow (R103). -/
def calSpare (s : State) : Option (Fin 18) :=
  let free := freeLanes s
  let need := match s.rfld (.ca .SPARE) 0 1 0 with
    | 1 => 2
    | 2 => 1
    | _ => 19
  if need ≤ free.length then free.head? else none

/-- CAL_LANE_SELECT (R98, R103). -/
def calSelect (s : State) : State :=
  if s.cal.phase ≠ .idle ∨ !tempValid s ∨ !s.busRuns ∨ s.power.parked[2] then s
  else
    let s := calDropStopped s
    match calCandidates s with
    | [] => s
    | k :: _ =>
      let spare := if laneOn s k then calSpare s else none
      let mode := if !laneOn s k then 3 else if spare.isSome then 2 else 1
      let s := match spare with
        | some q => updPhys q (fun x => { x with cond := .loan k }) s
        | none => s
      updCal (fun c => { c with phase := .waiting, lane := k, mode := mode, phys := (s.lanes[k]).serving, spare := spare,
                                t0 := s.now }) s

/-! ### The run (R99 to R107) -/

/-- CAL_RUN_START (R104, R106): t0. -/
def calStart (s : State) : State :=
  let c := s.cal
  let k := c.lane
  if c.phase ≠ .waiting ∨ sinceTicks c.t0 s.now < us 24 ∨ !atPoint (s.lanes[k]) ∨ testing s c.phys ∨ s.power.parked[2] then s
  else
    let temp := s.reg (.ca .TEMP)
    let s := s.clrReg (.ca .RUN) 0 (2 ^ k.val)
    let s := updCal (fun c => { c with phase := .running, t0 := s.now, temp := temp, tref := upd c.tref k (fun _ => some temp),
                                       lastRun := upd c.lastRun k (fun _ => some s.now) }) s
    if c.mode = 1 then updLane k (fun l => { l with cal := .hold, calEnd := none }) (staleMark tStaleBegin k 0 s)
    else match c.spare with
      | some q => updLane k (fun l => { l with cal := .loan c.phys, calEnd := none, serving := q, codes := laneCodes s k }) s
      | none => s

/-- A code lies in 0 to 63. -/
def codeOk (x : Int) : Bool := decide (0 ≤ x) && decide (x ≤ 63)

/-- Measured code `c` of a run, in the order of R113. -/
def measured (codes : List Int) (c : Nat) : Int := codes.getD c 32

/-- Every measured code of the indexes `[lo, hi)` is in range. -/
def codesOk (codes : List Int) (lo hi : Nat) : Bool := (List.range (hi - lo)).all (fun i => codeOk (measured codes (lo + i)))

/-- The verification of R102: within ±0.05 % of full scale of 0.750 V. -/
def verifyOk (v : Int) : Bool := decide ((v - expectRef).natAbs ≤ 4194)

/-- Microseconds after t0 at which a run with these results fails, or `none` if it passes (R101, R102). -/
def calFailsAt (codes : List Int) (verify : Int) (consistent : Bool) : Option Nat :=
  if !consistent || !codesOk codes 12 18 then some 54
  else if !codesOk codes 0 6 then some 108
  else if !codesOk codes 6 12 then some 171
  else if !verifyOk verify then some 180
  else none

/-- 0 to 63 (R94). -/
def clamp63 (x : Int) : Int := clampInt 0 63 x

/-- Store code `c` of set `j` of lane `k` (R113). -/
def putSetCode (k : Fin 16) (j c : Nat) (v : Int) (s : State) : State :=
  s.setFld (.ca .SETS) ((5 * k.val + j) * 5 + c / 4) (8 * (c % 4) + 5) (8 * (c % 4)) (clamp63 v).toNat

/-- Fold one error into one set; LIMIT when it clamps (R94). -/
def foldSet (k : Fin 16) (c : Nat) (e : Int) (j : Nat) (s : State) : State :=
  let v := setCode s k j c + e
  let t := putSetCode k j c v s
  if clamp63 v = v then t else t.orReg (.ca .STAT) 0 (2 ^ 1)

/-- The sets that take the error at `t4` (R94). -/
def setsAt (t4 : Int) : List Nat := if t4 ≤ -160 then [0] else if 500 ≤ t4 then [4] else [bracket t4, bracket t4 + 1]

/-- Fold measured code `c` into the sets (R94). -/
def foldCode (k : Fin 16) (t4 : Int) (codes : List Int) (c : Nat) (s : State) : State :=
  let e := measured codes c - interp (fun j => setCode s k j c) t4
  (setsAt t4).foldl (fun s j => foldSet k c e j s) s

/-- The engine becomes idle and the DAC returns to CA_DACVAL (R115). -/
def calIdle (s : State) : State :=
  updCal (fun c => { c with phase := .idle, mode := 0, spare := none, dac := s.rfld (.ca .DACVAL) 0 11 0 }) s

/-- CA_LTEMPk. -/
def setLtemp (k : Fin 16) (result : Nat) (temp : Word) (s : State) : State :=
  s.setReg (.ca .LTEMP) k.val (at_ result 30 ||| (temp &&& 0xFFFF))

/-- A loaned spare stays in service as the substitute (R107). -/
def loanStays (k : Fin 16) (p q : Fin 18) (s : State) : State :=
  let s := publish prLane k.val 1 (fencePhys p 3 s)
  let s := updPhys q (fun x => { x with cond := .inService k, cause := 0 }) s
  let s := updLane k (fun l => { l with cal := .none, calEnd := none }) s
  calPend k (laneSubstRecord k { fenced := p, spare := q, cause := 3, fromLoan := true, chosen := s.now, gapStart := none,
                                 idle := false, firstWord := none, loanCut := false } s)

/-- The run fails (R102, R107). -/
def calFail (s : State) : State :=
  let c := s.cal
  let k := c.lane
  let s := calDone k 3 c.mode c.phys false c.temp s
  let s := (setLtemp k 3 c.temp s).orReg (.ca .STAT) 0 (2 ^ 2)
  let s := almanac 0x202 1 k.val (k.val + c.phys.val * 2 ^ 8) s
  let s := calIdle s
  match (s.lanes[k]).cal with
  | .loan p => loanStays k p (s.lanes[k]).serving s
  | .hold => declarePhysFault c.phys 3 (staleMark tStaleEnd k 1 (updLane k (fun l => { l with cal := .none, calEnd := none }) s))
  | .none => declarePhysFault c.phys 3 s

/-- The run passes (R94, R101 step 5). -/
def calPass (codes : List Int) (s : State) : State :=
  let c := s.cal
  let k := c.lane
  let t4 := sext 16 c.temp.toNat
  let had := s.rbit (.ca .STAT) 0 1
  let s := (List.range 18).foldl (fun s i => foldCode k t4 codes i s) (s.clrReg (.ca .STAT) 0 (2 ^ 1))
  let limit := s.rbit (.ca .STAT) 0 1
  let s := if had then s.orReg (.ca .STAT) 0 (2 ^ 1) else s
  let s := calDone k 1 c.mode c.phys limit c.temp (setLtemp k 1 c.temp s)
  let s := calIdle s
  if (s.lanes[k]).cal = .none then s else updLane k (fun l => { l with calEnd := some s.now }) s

/-- CAL_RUN_END (R101, R102): the measured codes, the verification result and the consistency of the conversions. -/
def calEnd (codes : List Int) (verify : Int) (consistent : Bool) (s : State) : State :=
  if s.cal.phase ≠ .running then s
  else match calFailsAt codes verify consistent with
    | some t => if us t ≤ sinceTicks s.cal.t0 s.now then calFail s else s
    | none => if us 180 ≤ sinceTicks s.cal.t0 s.now then calPass codes s else s

/-- The home lane has settled after a run (R105, R106). -/
def calSettled (s : State) (k : Fin 16) : Bool :=
  match (s.lanes[k]).calEnd with
  | some t => decide (2 * (s.lanes[k]).list.settle ≤ sinceTicks t s.now)
  | none => false

/-- LOAN_END (R105): at the end of a sample word the home lane takes the next word. -/
def loanEnd (k : Fin 16) (s : State) : State :=
  match (s.lanes[k]).cal with
  | .loan home =>
    if calSettled s k && atPoint (s.lanes[k]) then
      let q := (s.lanes[k]).serving
      updLane k (fun l => { l with cal := .none, calEnd := none, serving := home, codes := laneCodes s k })
        (updPhys q (fun x => { x with cond := .free }) s)
    else s
  | _ => s

/-- STALE_WORD_DUE (R106). -/
def staleWord (k : Fin 16) (s : State) : State :=
  let l := s.lanes[k]
  if l.cal = .hold ∧ l.phase = .converting then
    let value : Int := match l.lastFresh[l.entry] with
      | some w => w.toInt / 256
      | none => 0
    let w := sampleWord value true false (decide (l.serving ≠ homeLane k)) l.entry l.vpar l.first
    let x : LaneWord := { word := w, stamp := stSub s.now 40, phys := l.serving, step := 48 * scDec (curEntry l), clear := true,
                          last := l.wordsLeft == 1 }
    let s := updLane k (fun l => { l with first := false, wordsLeft := l.wordsLeft - 1 }) s
    let s := finishWord k x s
    if l.wordsLeft ≤ 1 then endVisit k s else s
  else s

/-- HOLD_RESUME (R106): the first scheduled word start after the lane has settled. -/
def holdResume (k : Fin 16) (s : State) : State :=
  let l := s.lanes[k]
  if l.cal = .hold ∧ calSettled s k ∧ l.phase = .converting then
    let s := staleMark tStaleEnd k 0 s
    updLane k (fun l => { l with cal := .none, calEnd := none, codes := laneCodes s k }) s
  else s

/-! ### CA_ registers -/

/-- A write of CA_SETS word `i` (R113). -/
def writeSets (i : Nat) (v : Word) (s : State) : State :=
  if s.cal.phase = .running ∧ s.cal.lane.val = i / 25 then s.orReg (.ca .STAT) 0 (2 ^ 4)
  else s.setReg (.ca .SETS) i (v &&& (if i % 5 = 4 then 0x3F3F else 0x3F3F3F3F))

/-- A write of CA_DACVAL (R115). -/
def writeDac (v : Word) (s : State) : State :=
  let s := s.setReg (.ca .DACVAL) 0 (v &&& 0xFFF)
  if s.cal.phase = .running then s else updCal (fun c => { c with dac := fld v 11 0 }) s

/-- CA_STAT.PHASE. -/
def calPhaseCode (s : State) : Nat :=
  match s.cal.phase with
  | .idle => 0
  | .waiting => 1
  | .running =>
    let t := sinceTicks s.cal.t0 s.now
    if t < us 54 then 2 else if t < us 108 then 3 else if t < us 171 then 4 else 5

/-- A read of a CA_ register; `i` is the entry of an array. -/
def caRead (_a : Accessor) (r : CaReg) (i : Nat) (s : State) : Word × State :=
  match r with
  | .STAT => (at_ (b2n (s.cal.phase != .idle)) 31 ||| at_ (calPhaseCode s) 28 ||| at_ s.cal.lane.val 24 ||| at_ s.cal.mode 22 |||
              s.reg (.ca .STAT), s)
  | .DACVAL => (at_ (b2n (s.cal.phase == .running)) 31 ||| s.reg (.ca .DACVAL), s)
  | _ => (s.reg (.ca r) i, s)

/-- A write of a CA_ register (R112 to R115). -/
def caWrite (a : Accessor) (r : CaReg) (i : Nat) (v : Word) (s : State) : State :=
  match r with
  | .DTEMP => if 2 ≤ fld v 4 0 ∧ fld v 4 0 ≤ 30 then s.plainWrite false (.ca .DTEMP) 0 v else s
  | .MAXINT => if 1 ≤ fld v 9 0 ∧ fld v 9 0 ≤ 600 then s.plainWrite false (.ca .MAXINT) 0 v else s
  | .SPARE => if fld v 1 0 = 3 then s else s.plainWrite false (.ca .SPARE) 0 v
  | .DACVAL => writeDac v s
  | .SETS => writeSets i v s
  | _ => s.plainWrite (secure a s) (.ca r) i v

/-- The calibration interrupt request: CALFAIL or ABORT. -/
def calIrq (s : State) : Bool := s.rfld (.ca .STAT) 0 3 2 != 0

/-- TRIM_FAULT (R111). -/
def trimIrq (s : State) : Bool := s.rfld (.ca .TRIMSTAT) 0 19 16 != 0

/-! ### LN_ registers -/

/-- LN_STAT.STATE. -/
def laneState (s : State) (k : Fin 16) : Nat :=
  let l := s.lanes[k]
  match l.phase, l.cal with
  | .off, _ => 0
  | .stopped, _ => 8
  | .connecting, _ => 5
  | _, .hold => 6
  | _, .loan _ => 7
  | p, .none => if testing s l.serving then 4 else match p with
    | .settling => 2
    | .converting => 3
    | _ => 1

/-- The lane that LN_MAP shows: while a substitution is in progress, the fenced lane until step 5 (R82). -/
def mapPhys (l : Lane) : Fin 18 :=
  match l.subst with
  | some x => if x.loanCut then l.serving else x.fenced
  | none => l.serving

/-- LN_PSTAT. -/
def physStat (s : State) (p : Fin 18) : Word :=
  let x := s.phys[p]
  let (st, k) := match x.cond with
    | .inService k => (0, k.val)
    | .free => (1, 0)
    | .loan k => (2, k.val)
    | .fenced => (3, 0)
    | .retesting => (4, 0)
  at_ st 28 ||| at_ k 16 ||| at_ x.cause 0

/-- A register of the logical-lane window, a register of the physical-lane window, or neither. -/
def lnWindow : LnReg → Nat
  | .CTRL => 1 | .STAT => 1 | .MAP => 1 | .PERIOD => 1 | .SETTLE => 1 | .CMD => 1 | .LAST => 1 | .ICNT => 1 | .SCAN => 1
  | .PSTAT => 2 | .PCMD => 2 | .PTEST => 2
  | _ => 0

/-- The accessor's LN_SEL selects the window of the register. -/
def lnSelected (a : Accessor) (r : LnReg) (s : State) : Bool :=
  match lnWindow r with
  | 1 => decide (selOf (.ln .SEL) a s ≤ 15)
  | 2 => decide (16 ≤ selOf (.ln .SEL) a s)
  | _ => true

/-- The selected logical lane. -/
def selLane (a : Accessor) (s : State) : Fin 16 := ix 16 (selOf (.ln .SEL) a s)

/-- The selected physical lane. -/
def selPhys (a : Accessor) (s : State) : Fin 18 := ix 18 (selOf (.ln .SEL) a s - 16)

/-- A read of an LN_ register. -/
def lnRead (a : Accessor) (r : LnReg) (i : Nat) (s : State) : Word × State :=
  let k := selLane a s
  let p := selPhys a s
  if !lnSelected a r s then (0, s)
  else match r with
    | .SEL => (s.reg (.ln .SEL) (accU a), s)
    | .ENABLE => (s.reg (.ln .ENABLE), s)
    | .POOL => (poolWord s, s)
    | .FENCED => (bitsOf 18 (fun p => (s.phys[ix 18 p]).cond == .fenced || (s.phys[ix 18 p]).cond == .retesting), s)
    | .LOAN => (bitsOf 18 (fun p => match (s.phys[ix 18 p]).cond with | .loan _ => true | _ => false), s)
    | .FAULTS => (s.reg (.ln .FAULTS), s)
    | .STAT => (at_ (laneState s k) 28 ||| at_ (s.lanes[k]).entry.val 25 |||
                at_ (b2n (decide (mapPhys (s.lanes[k]) ≠ homeLane k))) 5 ||| s.reg (.ln .STAT) k.val, s)
    | .MAP => (at_ k.val 8 ||| at_ (mapPhys (s.lanes[k])).val 0, s)
    | .CMD => (0, s)
    | .ICNT => (s.reg (.ln .ICNT) k.val, s.readClear a (.ln .ICNT) k.val)
    | .SCAN => (s.reg (.ln .SCAN) (k.val * 8 + i), s)
    | .CTRL => (s.reg (.ln .CTRL) k.val, s)
    | .PERIOD => (s.reg (.ln .PERIOD) k.val, s)
    | .SETTLE => (s.reg (.ln .SETTLE) k.val, s)
    | .LAST => (s.reg (.ln .LAST) k.val, s)
    | .PSTAT => (physStat s p, s)
    | .PCMD => (0, s)
    | .PTEST => (BitVec.ofInt 32 ((s.phys[p]).testValue * 256) ||| at_ (b2n (s.phys[p]).testPass) 0, s)

/-- A write of an LN_ register. -/
def lnWrite (a : Accessor) (r : LnReg) (i : Nat) (v : Word) (s : State) : State :=
  let k := selLane a s
  if !lnSelected a r s then s
  else match r with
    | .SEL => writeSel (.ln .SEL) a 0 33 v s
    | .ENABLE => writeEnable v s
    | .FAULTS => s.plainWrite false (.ln .FAULTS) 0 v
    | .CMD => writeLnCmd k v s
    | .PCMD => if bit v 0 then laneRetest (selPhys a s) s else s
    | .SCAN => s.plainWrite false (.ln .SCAN) (k.val * 8 + i) v
    | .CTRL => s.plainWrite false (.ln .CTRL) k.val v
    | .STAT => s.plainWrite false (.ln .STAT) k.val v
    | .PERIOD => s.plainWrite false (.ln .PERIOD) k.val v
    | .SETTLE => s.plainWrite false (.ln .SETTLE) k.val v
    | _ => s

/-- The lane-fault interrupt request: LN_FAULTS. -/
def laneIrq (s : State) : Bool := s.reg (.ln .FAULTS) != 0

end Sys2Proof.Machine
end

