-- ==== Sys2Proof/Machine/ConsistCheck.lean ====
section
/-! DEFINITION. Consist images: their layout, and the checks of R161 to R178 and R188 in the order of the result codes.
An image is read through `g`, the byte at each offset. -/
namespace Sys2Proof.Machine

/-! ### Fields -/

/-- A little-endian 16-bit field. -/
def u16 (g : Nat → Byte) (o : Nat) : Nat := leNat [g o, g (o + 1)]

/-- A little-endian 32-bit field. -/
def u32 (g : Nat → Byte) (o : Nat) : Nat := leNat [g o, g (o + 1), g (o + 2), g (o + 3)]

/-- `n` words from an offset. -/
def wordsAt (g : Nat → Byte) (o n : Nat) : List Word := (List.range n).map (fun i => BitVec.ofNat 32 (u32 g (o + 4 * i)))

/-- `n` bytes from an offset. -/
def bytesAt (g : Nat → Byte) (o n : Nat) : List Byte := (List.range n).map (fun i => g (o + i))

/-- Bytes of a range are 0. -/
def zeroAt (g : Nat → Byte) (o n : Nat) : Bool := (bytesAt g o n).all (fun b => b == 0)

/-- A section-table entry (R162). -/
structure Sect where
  typ : Nat
  inst : Nat
  flags : Nat
  off : Nat
  len : Nat
  deriving DecidableEq, Repr

/-- TOTLEN (R161). -/
def imTotal (g : Nat → Byte) : Nat := u32 g 0x08

/-- NSECT. -/
def imSects (g : Nat → Byte) : Nat := u16 g 0x18

/-- The section table (R162); NSECT is at most 255. -/
def sections (g : Nat → Byte) : List Sect :=
  (List.range (min 255 (imSects g))).map (fun i =>
    let o := 64 + 12 * i
    { typ := (g o).toNat, inst := (g (o + 1)).toNat, flags := u16 g (o + 2), off := u32 g (o + 4), len := u32 g (o + 8) })

/-- A type of R164. -/
def knownType (t : Nat) : Bool := [1, 2, 3, 4, 5, 6, 7, 15].contains t

/-- The sections of one type. -/
def ofType (g : Nat → Byte) (t : Nat) : List Sect := (sections g).filter (fun x => x.typ == t)

/-- The entries of a list section, each `w` bytes: their offsets. -/
def entriesOf (x : Sect) (w : Nat) : List Nat := (List.range (x.len / w)).map (fun i => x.off + w * i)

/-- The entry offsets of all sections of a type. -/
def listEntries (g : Nat → Byte) (t w : Nat) : List Nat := (ofType g t).flatMap (fun x => entriesOf x w)

/-- A shunt image (FLAGS bit 0). -/
def imShunt (g : Nat → Byte) : Bool := (u16 g 0x1A).testBit 0

/-! ### Unpacking -/

/-- A CARRIAGE section (R165). -/
def carAt (g : Nat → Byte) (x : Sect) : CarImage :=
  let n := u16 g x.off
  let m := u16 g (x.off + 2)
  { car := ix 64 x.inst
    prog := (List.range n).map (fun i => BitVec.ofNat 64 (leNat (bytesAt g (x.off + 4 + 8 * i) 8)))
    store := wordsAt g (x.off + 4 + 8 * n) m
    mask := bytesAt g (x.off + 4 + 8 * n + 4 * m) 64 }

/-- A port binding (R167). -/
def routeAt (g : Nat → Byte) (o : Nat) : Route :=
  { car := ix 64 (g o).toNat, port := (g (o + 1)).toNat, kind := (g (o + 2)).toNat, dir := (g (o + 3)).toNat,
    slots := u16 g (o + 4) }

/-- A TRAIN section (R168). -/
def trainAt (g : Nat → Byte) (x : Sect) : TrainImage :=
  { num := ix 16 x.inst, head := (g (x.off + 1)).toNat, settle := u16 g (x.off + 2),
    members := leNat (bytesAt g (x.off + 4) 8), outlets := wordsAt g (x.off + 12) 4, evouts := wordsAt g (x.off + 28) 4 }

/-- A lane entry (R169). -/
def laneAt (g : Nat → Byte) (o : Nat) : LaneEntry :=
  { lane := ix 16 (g o).toNat, enable := (g (o + 1)).getLsbD 0, words := wordsAt g (o + 4) 11 }

/-- A tap (R170). -/
def tapAt (g : Nat → Byte) (o : Nat) : Tap :=
  { num := (g o).toNat, lane := ix 16 (g (o + 1)).toNat, entry := ix 8 (g (o + 2)).toNat, train := ix 16 (g (o + 3)).toNat,
    slots := u16 g (o + 4), row := (g (o + 6)).toNat % 8, last := none, markDue := false }

/-- A drive entry (R171). -/
def driveAt (g : Nat → Byte) (o : Nat) : DriveEntry := { slot := ix 32 (g o).toNat, words := wordsAt g (o + 4) 15 }

/-- The unpacked image. -/
def unpack (g : Nat → Byte) : Image :=
  { full := !imShunt g, autostart := (u16 g 0x1A).testBit 1, ident := BitVec.ofNat 32 (u32 g 0x0C),
    serial := BitVec.ofNat 32 (u32 g 0x10), baseId := BitVec.ofNat 32 (u32 g 0x28), trainMask := u16 g 0x1C,
    startMask := u16 g 0x1E, cars := (ofType g 1).map (carAt g), routes := (listEntries g 2 8).map (routeAt g),
    trains := (ofType g 3).map (trainAt g), lanes := (listEntries g 4 48).map (laneAt g),
    taps := (listEntries g 5 8).map (tapAt g), drives := (listEntries g 6 64).map (driveAt g),
    events := (listEntries g 7 4).map (fun o => BitVec.ofNat 32 (u32 g o)) }

/-- Member `k` of a train section. -/
def hasMember (t : TrainImage) (k : Fin 64) : Bool := t.members.testBit k.val

/-- Trains of the image, in TRAINMASK order. -/
def imTrains (im : Image) : List (Fin 16) := (List.finRange 16).filter (fun n => im.trainMask.testBit n.val)

/-! ### Header, format and length (R161 to R164, R174, R175) -/

/-- Two sections do not overlap. -/
def apart (x y : Sect) : Bool := decide (x.off + x.len ≤ y.off) || decide (y.off + y.len ≤ x.off)

/-- No two sections of the list overlap. -/
def disjoint : List Sect → Bool
  | [] => true
  | x :: xs => xs.all (apart x) && disjoint xs

/-- The last section-table entry. -/
def lastSect (g : Nat → Byte) : Option Sect := (sections g).getLast?

/-- R163. -/
def lengthsOk (g : Nat → Byte) (staged : Nat) : Bool :=
  let t := imTotal g
  decide (t % 4 = 0 ∧ t ≤ 262144 ∧ t ≤ staged) &&
  (sections g).all (fun x => decide (x.off % 4 = 0 ∧ 64 + 12 * imSects g ≤ x.off ∧ x.off + x.len ≤ t)) &&
  disjoint (sections g) &&
  (match lastSect g with
   | some x => x.typ == 15 && x.off + x.len == t
   | none => false)

/-- Results 1 to 4 (R174, R175); the stepping index of B0 is 2. -/
def checkHead (g : Nat → Byte) (staged : Nat) : Nat :=
  if u32 g 0 ≠ 0xC0A57004 then 1
  else if (g 4).toNat ≠ 4 ∨ u16 g 6 ≠ 64 ∨ (sections g).any (fun x => !knownType x.typ && !x.flags.testBit 0) then 2
  else if u16 g 0x16 ≠ 0x9640 ∨ (u16 g 0x14).testBit 2 = false then 3
  else if !lengthsOk g staged then 4
  else 0

/-! ### Key, signature and serial (R173, R174, R549) -/

/-- The key slot of the image. -/
def imKey (g : Nat → Byte) (s : State) : Option KeySlot :=
  let k := (g 0x20).toNat
  if k < 32 then some s.enclave.slots[ix 32 k] else none

/-- Results 5 to 7. -/
def checkKey (g : Nat → Byte) (s : State) : Nat :=
  match imKey g s with
  | none => 5
  | some k =>
    if k.typ ≠ 1 ∨ k.usage.testBit 1 = false then 5
    else match lastSect g with
      | none => 6
      | some x =>
        if x.len ≠ 64 ∨ Config.ecdsaOk k.key (digest (bytesAt g 0 x.off)) (bytesAt g x.off 64) = false then 6
        else if u32 g 0x10 < (s.reg (.se .MINCON)).toNat then 7
        else 0

/-! ### Sections and structure (R164 to R172, R176, R178, R428) -/

/-- Store words of an operation (operation set table). -/
def storeWords (m : Micro) : Nat :=
  match m.op with
  | 0x04 => 2 * m.len + 1
  | 0x05 => 7 * m.len
  | 0x06 => 2 * fld m.imm 3 0
  | 0x08 => 1
  | 0x09 => 2
  | 0x0A => 1
  | 0x0B => 3
  | 0x0C => m.len + 1
  | 0x0D => 64
  | 0x10 => m.len + 1
  | _ => 0

/-- A micro-instruction meets R123 and R176. -/
def microOk (w : BitVec 64) : Bool :=
  let m := decodeMicro w
  decide (m.op ≤ 0x13 ∧ m.src ≤ 5 ∧ m.dst ≤ 5 ∧ m.base + storeWords m ≤ 512) &&
  (m.op != 0x06 || decide (1 ≤ fld m.imm 3 0 ∧ fld m.imm 3 0 ≤ 4 ∧ 2 ≤ fld m.imm 15 4)) &&
  (m.op != 0x05 || decide (m.len ≤ 16))

/-- Header fields that are 0, NSECT in range (R161, R162, R178). -/
def headerOk (g : Nat → Byte) : Bool :=
  decide (2 ≤ imSects g ∧ imSects g ≤ 255 ∧ u16 g 0x1A < 4) && zeroAt g 0x21 3 && zeroAt g 0x2C 20 &&
  (imShunt g || zeroAt g 0x28 4) && (sections g).all (fun x => decide (x.flags ≤ 1))

/-- INST of every section, and how many of each type (R162, R164). -/
def tableOk (g : Nat → Byte) : Bool :=
  (sections g).all (fun x =>
    if x.typ = 1 then decide (x.inst ≤ 63) else if x.typ = 3 then decide (x.inst ≤ 15)
    else !knownType x.typ || x.inst == 0xFF) &&
  [2, 4, 5, 6, 7].all (fun t => decide ((ofType g t).length ≤ 1)) &&
  decide ((ofType g 15).length = 1) &&
  (List.range 64).all (fun k => decide (((ofType g 1).filter (fun x => x.inst == k)).length ≤ 1)) &&
  (List.range 16).all (fun n =>
    ((ofType g 3).filter (fun x => x.inst == n)).length == b2n ((u16 g 0x1C).testBit n))

/-- A CARRIAGE section is well formed (R165, R176). -/
def carOk (g : Nat → Byte) (x : Sect) : Bool :=
  let n := u16 g x.off
  let m := u16 g (x.off + 2)
  decide (1 ≤ n ∧ n ≤ 64 ∧ m ≤ 512 ∧ x.len = 68 + 8 * n + 4 * m) && (carAt g x).prog.all microOk

/-- A port binding is well formed (R167, R176). -/
def routeOk (g : Nat → Byte) (o : Nat) : Bool :=
  let r := routeAt g o
  decide ((g o).toNat ≤ 63 ∧ r.port ≤ 5) && zeroAt g (o + 6) 2 &&
  ((r.kind == 1 && decide (r.dir ≤ 3) && r.slots == 0 && (neighbour r.car r.dir).isSome) ||
   (r.kind == 2 && r.dir == 0 && decide (r.slots < 4096)))

/-- An input port has at most one binding, an output port at most one of each kind (R167). -/
def routesOnce : List Route → Bool
  | [] => true
  | r :: rs => rs.all (fun q => !(q.car == r.car && q.port == r.port && (decide (r.port ≤ 3) || q.kind == r.kind))) &&
      routesOnce rs

/-- Facing ports pair off (R134, R176). -/
def facingOk (rs : List Route) : Bool :=
  (List.finRange 64).all (fun k => (List.range 4).all (fun d => match neighbour k d with
    | none => true
    | some m => (boundPorts rs k 0 3 d).length == (boundPorts rs m 4 5 ((d + 2) % 4)).length))

/-- Writers of the row-bus slots: for every row and slot, routes and taps that write it (R176). -/
def slotWriters (rs : List Route) (ts : List Tap) (row slot : Nat) : Nat :=
  (rs.filter (fun r => decide (4 ≤ r.port) && r.kind == 2 && r.car.val / 8 == row && r.slots.testBit slot)).length +
  (ts.filter (fun t => t.row == row && t.slots.testBit slot)).length

/-- Every row-bus slot has at most one writer. -/
def writersOk (rs : List Route) (ts : List Tap) : Bool :=
  (List.range 8).all (fun row => (List.range 16).all (fun slot => decide (slotWriters rs ts row slot ≤ 1)))

/-- An enabled outlet stream names a member's row-bus output port (R168). -/
def outletOk (im : Image) (t : TrainImage) (w : Word) : Bool :=
  !(bit w 31) || (t.members.testBit (fld w 29 24) &&
    im.routes.any (fun r => r.car.val == fld w 29 24 && r.port == 4 + fld w 23 23 && r.kind == 2))

/-- A TRAIN section is well formed (R168, R176). -/
def trainOk (g : Nat → Byte) (im : Image) (x : Sect) : Bool :=
  let t := trainAt g x
  decide (x.len = 44 ∧ (g x.off).toNat = x.inst ∧ t.head ≤ 63) && t.members.testBit t.head &&
  (List.finRange 64).all (fun k => !hasMember t k || im.cars.any (fun c => c.car == k)) &&
  t.outlets.all (outletOk im t)

/-- A carriage belongs to at most one train of the image (R176). -/
def membersOnce (im : Image) : Bool :=
  (List.finRange 64).all (fun k => decide ((im.trains.filter (fun t => hasMember t k)).length ≤ 1))

/-- A lane entry is well formed and passes R50 and R53 (R169, R176). -/
def laneEntryOk (g : Nat → Byte) (o : Nat) : Bool :=
  let l := laneAt g o
  decide ((g o).toNat ≤ 15 ∧ (g (o + 1)).toNat ≤ 1) && zeroAt g (o + 2) 2 &&
  (List.range 8).all (fun i => decide (fld (l.words.getD 0 0) 18 16 < i) || entryOk (l.words.getD (3 + i) 0))

/-- A tap is well formed, and an input port of its train reads its slots (R170, R176). -/
def tapOk (g : Nat → Byte) (im : Image) (o : Nat) : Bool :=
  let t := tapAt g o
  decide ((g o).toNat ≤ 31 ∧ (g (o + 1)).toNat ≤ 15 ∧ (g (o + 2)).toNat ≤ 7 ∧ (g (o + 3)).toNat ≤ 15 ∧
    (g (o + 6)).toNat ≤ 7 ∧ g (o + 7) = 0 ∧ t.slots < 4096) &&
  im.trains.any (fun x => x.num == t.train && im.routes.any (fun r =>
    decide (r.port ≤ 3) && r.kind == 2 && r.car.val / 8 == t.row && hasMember x r.car && r.slots &&& t.slots != 0))

/-- A drive entry is well formed (R171, R196, R197). -/
def driveOk (g : Nat → Byte) (o : Nat) : Bool :=
  let d := driveAt g o
  decide ((g o).toNat ≤ 31) && zeroAt g (o + 1) 3 && dsInRange .CFG (d.words.getD 0 0) && dsInRange .QUANT (d.words.getD 2 0)

/-- Producers that an EVENTS entry may name: instances and outputs (R441); trains are bound by TRAIN sections. -/
def producerOk (code inst output : Nat) : Bool :=
  match code with
  | 1 => decide (inst ≤ 15 ∧ output ≤ 1)
  | 3 => decide (inst ≤ 31 ∧ output ≤ 3)
  | 4 => decide (inst ≤ 15 ∧ output ≤ 3)
  | 5 => decide (inst ≤ 1 ∧ output ≤ 2)
  | 6 => decide (inst ≤ 15 ∧ output ≤ 1)
  | 7 => decide (inst = 0 ∧ output ≤ 3)
  | _ => false

/-- Consumers: instances and task inputs (R442). -/
def consumerOk (code inst input : Nat) : Bool :=
  match code with
  | 1 => decide (inst ≤ 15 ∧ input = 0)
  | 3 => decide (inst ≤ 31 ∧ input ≤ 3)
  | 4 => decide (inst ≤ 15 ∧ input ≤ 4)
  | 5 => decide (inst ≤ 1 ∧ input ≤ 7)
  | 6 => decide (inst ≤ 15 ∧ input = 0)
  | 7 => decide (inst = 0 ∧ input = 0)
  | 8 => decide (inst = 0 ∧ input ≤ 15)
  | _ => false

/-- One EVENTS entry (R172, R176, R428); `mayBeSecure`: the key has the CONSEC usage. -/
def eventOk (mayBeSecure : Bool) (w : Word) : Bool :=
  match fld w 31 30 with
  | 0 => fld w 20 0 == 0 && (!(bit w 21) || mayBeSecure)
  | 1 => producerOk (fld w 23 16) (fld w 15 8) (fld w 7 0)
  | 2 => consumerOk (fld w 23 16) (fld w 15 8) (fld w 7 0)
  | _ => fld w 22 19 == 0 && fld w 15 0 == 0

/-- Entries of one kind that name channel `c`. -/
def onChannel (ws : List Word) (kind c : Nat) : List Word := ws.filter (fun w => fld w 31 30 == kind && fld w 29 24 == c)

/-- Train event outputs of the image on channel `c`. -/
def trainOutputs (im : Image) (c : Nat) : Nat :=
  (im.trains.flatMap (fun t => t.evouts.filter (fun w => bit w 31 && fld w 5 0 == c))).length

/-- Counts and contradictions per channel (R176, R428). -/
def channelOk (im : Image) (c : Nat) : Bool :=
  decide ((onChannel im.events 0 c).length ≤ 1) &&
  decide (((onChannel im.events 1 c).filter (fun w => fld w 23 16 != 6)).length + trainOutputs im c ≤ 4) &&
  decide (((onChannel im.events 2 c).filter (fun w => fld w 23 16 != 1 && fld w 23 16 != 6)).length ≤ 8) &&
  (List.range 8).all (fun gr =>
    !((onChannel im.events 3 c).any (fun w => fld w 18 16 == gr && !(bit w 23)) &&
      (onChannel im.events 3 c).any (fun w => fld w 18 16 == gr && bit w 23)))

/-- What a shunt image may not hold (R164). -/
def shuntTableOk (g : Nat → Byte) (im : Image) : Bool :=
  decide ((ofType g 4).length = 0) &&
  im.cars.all (fun c => im.trains.any (fun t => hasMember t c.car)) &&
  im.routes.all (fun r => im.cars.any (fun c => c.car == r.car)) &&
  im.taps.all (fun t => im.trainMask.testBit t.train.val)

/-- The lengths of list sections are whole entries. -/
def listsOk (g : Nat → Byte) : Bool :=
  [(2, 8), (4, 48), (5, 8), (6, 64), (7, 4)].all (fun x => (ofType g x.1).all (fun y => decide (y.len % x.2 = 0)))

/-- Result 8: the sections and the structure rules. -/
def sectionsOk (g : Nat → Byte) (mayBeSecure : Bool) : Bool :=
  let im := unpack g
  headerOk g && tableOk g && listsOk g && (ofType g 1).all (carOk g) && (listEntries g 2 8).all (routeOk g) &&
  routesOnce im.routes && facingOk im.routes && writersOk im.routes im.taps && (ofType g 3).all (trainOk g im) &&
  membersOnce im && (listEntries g 4 48).all (laneEntryOk g) && decide (im.taps.length ≤ 32) &&
  (listEntries g 5 8).all (tapOk g im) && (listEntries g 6 64).all (driveOk g) && im.events.all (eventOk mayBeSecure) &&
  (List.range 64).all (channelOk im) && (im.full || shuntTableOk g im)

/-! ### Conflict with the active consist (R188) -/

/-- The image replaces train `n`. -/
def replaces (im : Image) (n : Fin 16) : Bool := im.trainMask.testBit n.val

/-- Condition of the position that serves a logical carriage. -/
def servedCond (s : State) (k : Fin 64) : Option Carriage := (s.coach.serve[k]).map (fun p => s.coach.cars[p])

/-- The carriage is free for the image: idle, or in an in-place shunt a member of a replaced train. -/
def carFree (s : State) (im : Image) (handover : Bool) (k : Fin 64) : Bool :=
  match servedCond s k with
  | some c => c.cond == .idle || (!handover && c.cond == .serving && replaces im c.train)
  | none => false

/-- The train that a logical carriage is a member of. -/
def trainOfCar (s : State) (k : Fin 64) : Option (Fin 16) :=
  (List.finRange 16).find? (fun n => (s.coach.trains[n]).members.contains k)

/-- Routes and taps of the active consist that stay: those of other trains, and in a handover of the target too. -/
def keptRoutes (s : State) (im : Image) (handover : Bool) : List Route :=
  s.coach.routes.filter (fun r => match trainOfCar s r.car with
    | some n => handover || !replaces im n
    | none => true)
def keptTaps (s : State) (im : Image) (handover : Bool) : List Tap :=
  s.coach.taps.filter (fun t => handover || !replaces im t.train)

/-- A row-bus slot that the image writes is written by another train or tap. -/
def slotClash (s : State) (im : Image) (handover : Bool) : Bool :=
  (List.range 8).any (fun row => (List.range 12).any (fun slot =>
    decide (0 < slotWriters im.routes im.taps row slot) &&
    decide (0 < slotWriters (keptRoutes s im handover) (keptTaps s im handover) row slot)))

/-- The trains that a DS_TRAINS word names are all replaced. -/
def trainsIn (im : Image) (w : Word) : Bool :=
  (!(bit w 31) || im.trainMask.testBit (fld w 27 24)) && (!(bit w 23) || im.trainMask.testBit (fld w 19 16))

/-- A drive entry's slot belongs to replaced trains only, by the entry and, where the slot is enabled, by its present
binding (R164; log entry 23). -/
def driveFree (s : State) (im : Image) (d : DriveEntry) : Bool :=
  trainsIn im (d.words.getD 1 0) && (!slotOn s d.slot || trainsIn im (s.reg (.ds .TRAINS) d.slot.val))

/-- A channel is unbound, or bound only to replaced trains (R164): no subscriber, no other publisher, no gate, no lane or
sensor profile. -/
def channelFree (s : State) (im : Image) (c : Nat) : Bool :=
  (List.range 4).all (fun k =>
    let w := s.reg (.ev .PUB) (c * 8 + k)
    !(bit w 31) || (fld w 23 16 == prTrain && im.trainMask.testBit (fld w 15 8))) &&
  (List.range 8).all (fun k => !(s.rbit (.ev .SUB) (c * 8 + k) 31)) &&
  fld (s.reg (.ev .CCFG) c) 15 0 == 0 &&
  (List.range 16).all (fun i =>
    !(s.rbit (.ln .CTRL) i 29 && s.rfld (.ln .CTRL) i 28 23 == c) &&
    !(s.rbit (.sp .PCFG) i 19 && s.rfld (.sp .PCFG) i 18 13 == c) &&
    !(s.rbit (.sp .PEVT) i 31 && s.rfld (.sp .PEVT) i 29 24 == c) &&
    !(s.rbit (.sp .PEVT) i 23 && s.rfld (.sp .PEVT) i 21 16 == c))

/-- Result 9 for a shunt image (R188). -/
def conflicts (s : State) (im : Image) (handover : Bool) : Bool :=
  im.baseId != s.reg (.cw .ACTID) ||
  im.cars.any (fun c => !carFree s im handover c.car) ||
  slotClash s im handover ||
  im.drives.any (fun d => !driveFree s im d) ||
  im.events.any (fun w => !channelFree s im (fld w 29 24)) ||
  (handover && (decide ((imTrains im).length ≠ 1) || (List.finRange 16).all (fun n => (s.coach.trains[n]).state != .empty)))

/-! ### The whole check (R174) -/

/-- Results 0 to 8 of an image of at most `staged` bytes. -/
def checkBytes (g : Nat → Byte) (staged : Nat) (s : State) : Nat :=
  if checkHead g staged ≠ 0 then checkHead g staged
  else if checkKey g s ≠ 0 then checkKey g s
  else if !sectionsOk g (match imKey g s with | some k => k.usage.testBit 2 | none => false) then 8
  else 0

/-- Results 0 to 9 (R181). -/
def checkImage (g : Nat → Byte) (staged : Nat) (handover : Bool) (s : State) : Nat :=
  if checkBytes g staged s ≠ 0 then checkBytes g staged s
  else if imShunt g && conflicts s (unpack g) handover then 9
  else 0

end Sys2Proof.Machine
end

