-- ==== Sys2Proof/Machine/Guard.lean ====
section
/-! DEFINITION. Writes into system SRAM: the ranges in which no accessor may write, and the dirty bits of the settings image
(R182, R184, R249, R536, R537). -/
namespace Sys2Proof.Machine

/-- System SRAM, banks 0 to 11 of 128 KiB (R32). -/
def sramBase : Nat := 0x20000000
def sramEnd : Nat := 0x20180000
def bankBytes : Nat := 0x20000
def inSram (a : Nat) : Bool := decide (sramBase ≤ a ∧ a < sramEnd)
def sramBank (a : Nat) : Nat := (a - sramBase) / bankBytes

/-- The settings image: 32 pages of 2 KiB in bank 9 (R536). -/
def inSettings (a : Nat) : Bool := decide (0x20120000 ≤ a ∧ a < 0x20130000)
def settingsPage (a : Nat) : Nat := (a - 0x20120000) / 0x800

/-- A byte of the staging buffer while it is locked (R182). -/
def stagingLocked (s : State) (a : Nat) : Bool :=
  let base := (s.reg (.cw .STGBASE)).toNat
  s.coach.loader.locked && decide (base ≤ a ∧ a < base + s.rfld (.cw .STGLEN) 0 18 0)

/-- A write to this byte of system SRAM ends in a bus error (R182, R184, R249, R536, R537). -/
def sramLocked (s : State) (a : Nat) : Bool :=
  let b := sramBank a
  b == 6 || b == 7 || ((b == 10 || b == 11) && s.coach.loader.cacheValid) || stagingLocked s a ||
  (inSettings a && (settingsPage a == 31 || decide (2040 ≤ (a - 0x20120000) % 0x800)))

/-- A write into the DATA of a settings page sets its dirty bit (R537). -/
def noteSettings (a : Nat) (s : State) : State :=
  if inSettings a then s.setFld (.nv .DIRTY) 0 (settingsPage a) (settingsPage a) 1 else s

/-- Store one byte in system SRAM, unless the byte is locked. -/
def storeSramByte (a : Nat) (b : Byte) (s : State) : State :=
  if sramLocked s a then s else noteSettings a (s.writeByte a b)

/-- Store bytes from address `a` up; locked bytes keep their values. -/
def storeSram (a : Nat) (bs : List Byte) (s : State) : State :=
  (bs.zipIdx a).foldl (fun s e => storeSramByte e.2 e.1 s) s

end Sys2Proof.Machine
end

