-- ==== Sys2Proof/Machine/Sensor.lean ====
section
/-! DEFINITION. The sensor port: profiles and frames, the external-flash window with its cache and page buffer, programs
and erases, and the mode fault (chapter 12). -/
namespace Sys2Proof.Machine

/-- Change the sensor port. -/
def updSp (f : SensorPort → SensorPort) (s : State) : State := { s with sensor := f s.sensor }

/-- A field of profile `k`. -/
def spf (s : State) (r : SpReg) (k : Fin 16) (hi lo : Nat) : Nat := s.rfld (.sp r) k.val hi lo

/-- SP_CFG.EN. -/
def spOn (s : State) : Bool := s.rbit (.sp .CFG) 0 31

/-! ### Frames (R413 to R415) -/

/-- Lanes of a lane code. -/
def lanesOf (code : Nat) : Nat := if code = 1 then 2 else if code = 2 then 4 else 1

/-- SSCK cycles of `n` bytes on `lanes` lanes. -/
def byteCycles (n lanes : Nat) : Nat := n * 8 / lanes

/-- SSCK cycles of a profile's frame. -/
def profileCycles (s : State) (k : Fin 16) : Nat :=
  byteCycles (spf s .PPHASE k 25 24) (lanesOf (spf s .PPHASE k 31 30)) +
  byteCycles (spf s .PPHASE k 23 21) (lanesOf (spf s .PPHASE k 29 28)) + spf s .PPHASE k 20 16 +
  byteCycles (spf s .PPHASE k 12 0) (lanesOf (spf s .PPHASE k 27 26))

/-- The low `n` bytes of a number, most significant first. -/
def beBytes (v n : Nat) : List Byte := (leBytes v n).reverse

/-- The bytes a profile's frame drives out (R415): command, address, and the buffer of a write profile. -/
def profileOut (s : State) (k : Fin 16) : List Byte :=
  beBytes (s.reg (.sp .PCMDV) k.val).toNat (spf s .PPHASE k 25 24) ++
  beBytes (s.reg (.sp .PADDR) k.val).toNat (spf s .PPHASE k 23 21) ++
  (if s.rbit (.sp .PCFG) k.val 28 then s.readBytes (s.reg (.sp .PBUF) k.val).toNat (spf s .PPHASE k 12 0) else [])

/-- A frame of `cycles` SSCK cycles with divider `div`, starting now (R414). -/
def mkFrame (work : SpWork) (out : List Byte) (cycles div : Nat) (s : State) : SpFrame :=
  let e := stAdd s.now (s.rfld (.sp .CFG) 0 15 8 + 2 * cycles * (div + 1))
  { work := work, out := out, endAt := e, selHigh := stAdd e (div + 1) }

/-- Bytes of a flash address. -/
def flashAddr (s : State) (a : Nat) : List Byte := beBytes a (if s.rbit (.sp .FCFG) 0 14 then 4 else 3)

/-- The frame of a piece of work (R415, R420 to R423). Program, erase and status frames use one lane (log entry 24). -/
def frameFor (w : SpWork) (s : State) : SpFrame :=
  let div := s.rfld (.sp .FCFG) 0 3 0
  let byte (r : SpReg) (hi lo : Nat) : Byte := BitVec.ofNat 8 (s.rfld (.sp r) 0 hi lo)
  match w with
  | .profile k => mkFrame w (profileOut s k) (profileCycles s k) (spf s .PCFG k 23 20) s
  | .lineFill n =>
    let addr := flashAddr s (32 * n)
    let cycles := 8 + byteCycles addr.length (lanesOf (s.rfld (.sp .FCFG) 0 23 22)) + s.rfld (.sp .FCFG) 0 19 15 +
      byteCycles 32 (lanesOf (s.rfld (.sp .FCFG) 0 21 20))
    mkFrame w (byte .FCFG 31 24 :: addr) cycles div s
  | .enable => mkFrame w [byte .FPROG 23 16] 8 div s
  | .command =>
    let out := match s.sensor.op with
      | none => []
      | some o =>
        if o.code = 1 then byte .FPROG 31 24 :: (flashAddr s o.addr ++ o.bytes)
        else if o.code = 2 then byte .FERASE 23 16 :: flashAddr s o.addr
        else if o.code = 3 then byte .FERASE 15 8 :: flashAddr s o.addr
        else [byte .FERASE 7 0]
    mkFrame w out (8 * out.length) div s
  | .poll => mkFrame w [byte .FPROG 15 8] 16 div s

/-- The lines that stalled window reads wait for (R420). -/
def wantedLines (s : State) : List Nat :=
  s.acc.toList.filterMap (fun x => match x.stalled with
    | some a => if 0x60000000 ≤ a.addr ∧ a.addr < 0x64000000 ∧ a.write.isNone then some ((a.addr - 0x60000000) / 32) else none
    | none => none)

/-- The flash-window operation that may start now (R417, R422, R423). -/
def flashWork (s : State) : Option SpWork :=
  match s.sensor.op with
  | some o => match o.step with
    | .enable => some .enable
    | .command => some .command
    | .polling => if stLe o.nextPoll s.now then some .poll else none
  | none => (wantedLines s).head?.map .lineFill

/-- The lowest-numbered pending profile. -/
def pendingProfile (s : State) : Option (Fin 16) := (List.finRange 16).find? (fun k => s.sensor.pend[k])

/-- The port may start a frame (R412, R414 step 6, R424). -/
def spMayStart (s : State) : Bool :=
  spOn s && s.busRuns && s.sensor.frame.isNone &&
  stLe (stAdd s.sensor.selHigh (s.rfld (.sp .CFG) 0 7 0)) s.now &&
  !(s.rbit (.sp .CFG) 0 30 && s.sensor.smmLow) && !s.rbit (.sp .STAT) 0 1 && !s.power.parked[10]

/-- SENSOR_FRAME_START (R417). -/
def frameStart (s : State) : State :=
  if !spMayStart s then s
  else match flashWork s with
    | some w => updSp (fun p => { p with frame := some (frameFor w s), lastProf := none }) s
    | none => match pendingProfile s with
      | some k =>
        updSp (fun p => { p with
          frame := some (frameFor (.profile k) s), lastProf := some k, pend := upd p.pend k (fun _ => false),
          scsa := if s.rbit (.sp .PCFG) k.val 29 then p.scsa else spf s .PCFG k 27 24 }) s
      | none => s

/-! ### Profiles (R416 to R419) -/

/-- A profile is busy from becoming pending to step 5 of R414 (R416). -/
def profileBusy (s : State) (k : Fin 16) : Bool :=
  s.sensor.pend[k] || (s.sensor.lastProf == some k && (s.sensor.frame.isSome || stLt s.now s.sensor.selHigh))

/-- A trigger reaches profile `k` (R416). The flag says that it was missed. -/
def profileTrigger (k : Fin 16) (s : State) : Bool × State :=
  if !(s.rbit (.sp .PCFG) k.val 31 && s.rbit (.sp .PCFG) k.val 19) then (false, s)
  else if profileBusy s k then (true, s)
  else (false, updSp (fun p => { p with pend := upd p.pend k (fun _ => true) }) s)

/-- SP_PCMD.GO. -/
def profileGo (k : Fin 16) (s : State) : State :=
  if s.rbit (.sp .PCFG) k.val 31 && !profileBusy s k then updSp (fun p => { p with pend := upd p.pend k (fun _ => true) }) s else s

/-- A range lies in system SRAM and touches no bank of R419. -/
def sramRangeOk (base len : Nat) : Bool :=
  decide (0x20000000 ≤ base ∧ base + len ≤ 0x20180000) &&
  [6, 7, 9, 10, 11].all (fun b =>
    let lo := 0x20000000 + 0x20000 * b
    decide (base + len ≤ lo) || decide (lo + 0x20000 ≤ base))

/-- MEASURE records of a reading: 240 bytes each, MORE in all but the last (R417, R239). -/
def readingRecords (k : Fin 16) (stamp : Stamp) : Nat → List Byte → State → State
  | 0, _, s => s
  | fuel + 1, bs, s =>
    if bs.isEmpty then s
    else
      let part := bs.take 240
      let rest := bs.drop 240
      let s := emit .acq tMeasure (srcProfile k.val) stamp
        ((at_ k.val 28 ||| at_ part.length 16 ||| at_ (b2n (!rest.isEmpty)) 15) :: toWords part) s
      readingRecords k stamp fuel rest s

/-- The signed 16-bit axis value of a reading (R417). -/
def axisOf (s : State) (k : Fin 16) (data : List Byte) : Int :=
  let o := spf s .PAXIS k 11 0
  let lo := (data.getD o 0).toNat
  let hi := (data.getD (o + 1) 0).toNat
  if s.rbit (.sp .PAXIS) k.val 12 then sext 16 (256 * lo + hi) else sext 16 (lo + 256 * hi)

/-- A profile's reading is taken at the end edge (R417). -/
def profileDone (k : Fin 16) (data : List Byte) (s : State) : State :=
  let n := spf s .PPHASE k 12 0
  let data := (data ++ List.replicate n 0).take n
  let reading := decide (0 < n) && !(s.rbit (.sp .PCFG) k.val 28)
  let s := if reading && s.rbit (.sp .PCFG) k.val 12 then readingRecords k s.now (data.length + 1) data s else s
  let base := (s.reg (.sp .PBUF) k.val).toNat
  let s := if reading && s.rbit (.sp .PCFG) k.val 10 && sramRangeOk base n then storeSram base data s else s
  let s := if reading && s.rbit (.sp .PCFG) k.val 11 then
      (if n < spf s .PAXIS k 11 0 + 2 then s.orReg (.sp .PSTAT) k.val (2 ^ 2)
       else (List.finRange 32).foldl (fun s d => slotReading d k.val (axisOf s k data) s.now s) s)
    else s
  let s := if s.rbit (.sp .PEVT) k.val 31 then publishOn (ix 64 (spf s .PEVT k 29 24)) prProfile k.val 0 s else s
  (s.orReg (.sp .PSTAT) k.val (2 ^ 1)).countFld (.sp .PCNT) k.val 31 16 1

/-- A frame that does not complete (R418). -/
def profileFail (k : Fin 16) (s : State) : State :=
  let s := if s.rbit (.sp .PEVT) k.val 23 then publishOn (ix 64 (spf s .PEVT k 21 16)) prProfile k.val 1 s else s
  s.countFld (.sp .PCNT) k.val 15 0 1

/-! ### Read cache (R420) -/

/-- A cached line. -/
def cachedLine (s : State) (n : Nat) : Option CacheLine := s.sensor.cache.find? (fun c => c.line == n)

/-- A line becomes the most recently used one of its set. -/
def touchLine (c : CacheLine) (s : State) : State :=
  updSp (fun p => { p with cache := c :: p.cache.filter (fun x => x.line != c.line) }) s

/-- Keep four lines of a set: 128 sets of four (R420). -/
def fourWays (set : Nat) : Nat → List CacheLine → List CacheLine
  | _, [] => []
  | n, c :: cs =>
    if c.line % 128 = set then
      (if n = 0 then fourWays set 0 cs else c :: fourWays set (n - 1) cs)
    else c :: fourWays set n cs

/-- Fill a line, replacing the least recently used of its set. -/
def fillLine (n : Nat) (bytes : List Byte) (s : State) : State :=
  let s := touchLine { line := n, bytes := bytes } s
  (updSp (fun p => { p with cache := fourWays (n % 128) 4 p.cache }) s).countFld (.sp .FCCNT) 0 31 16 1

/-- Bytes of a window access from its line. -/
def lineBytes (c : CacheLine) (off size : Nat) : List Byte := (List.range size).map (fun i => c.bytes.getD ((off + i) % 32) 0)

/-- An access outside what the window serves (R420). -/
def windowError (s : State) (off : Nat) : Bool :=
  !spOn s || (!(s.rbit (.sp .FCFG) 0 14) && decide (0x1000000 ≤ off))

/-- A window access ends in a bus error. -/
def windowFail (a : Accessor) (s : State) : State := (s.answer a .busError).orReg (.sp .STAT) 0 (2 ^ 2)

/-! ### Page buffer, programs and erases (R421 to R423) -/

/-- A flash operation begins with its write-enable frame. -/
def beginOp (o : FlashOp) (s : State) : State :=
  updSp (fun p => { p with op := some o, cache := if o.code = 1 then p.cache else [] }) s

/-- An operation with nothing done yet. -/
def newOp (code addr : Nat) (bytes : List Byte) : FlashOp :=
  { code := code, addr := addr, bytes := bytes, step := .enable, pollStart := 0, nextPoll := 0 }

/-- Program the page buffer (R421): at once, or when the operation that runs has ended. -/
def programBuffer (s : State) : State :=
  match s.sensor.buf with
  | none => s
  | some b =>
    if s.sensor.op.isSome then updSp (fun p => { p with bufDue := true }) s
    else beginOp (newOp 1 b.start b.bytes) (updSp (fun p => { p with buf := none, bufDue := false }) s)

/-- WINDOW_READ (R420, R421): a hit is answered; a miss stalls until the line is in. -/
def windowRead (a : Accessor) (off size : Nat) (s : State) : State :=
  if windowError s off then windowFail a s
  else
    let s := programBuffer s
    match cachedLine s (off / 32) with
    | some c => (touchLine c s).answer a (.bytes (lineBytes c off size))
    | none =>
      if s.rbit (.sp .STAT) 0 1 then windowFail a s
      else
        let s := if s.sensor.frame.isSome then s.countFld (.sp .FCCNT) 0 15 0 1 else s
        s.stall a { addr := 0x60000000 + off, size := size, write := none }

/-- Copy written bytes into a cached line that holds them (R421). -/
def cacheWrite (off : Nat) (bs : List Byte) (s : State) : State :=
  match cachedLine s (off / 32) with
  | none => s
  | some c =>
    let put := (List.range 32).map (fun i =>
      if off % 32 ≤ i ∧ i < off % 32 + bs.length then bs.getD (i - off % 32) 0 else c.bytes.getD i 0)
    updSp (fun p => { p with cache := p.cache.map (fun x => if x.line = c.line then { x with bytes := put } else x) }) s

/-- The buffer takes bytes, or they start a new one; a full page is programmed (R421). -/
def bufferWrite (off : Nat) (bs : List Byte) (s : State) : State :=
  let fresh : PageBuf := { start := off, bytes := bs, last := s.now }
  let (s, b) := match s.sensor.buf with
    | none => (s, fresh)
    | some b =>
      if b.start + b.bytes.length = off ∧ off / 256 = b.start / 256 then (s, { b with bytes := b.bytes ++ bs, last := s.now })
      else (programBuffer s, fresh)
  let s := updSp (fun p => { p with buf := some b }) s
  if (b.start + b.bytes.length) % 256 = 0 then programBuffer s else s

/-- WINDOW_WRITE (R421): posted, or stalled while a program or erase runs. -/
def windowWrite (a : Accessor) (off size : Nat) (v : Word) (s : State) : State :=
  if windowError s off then windowFail a s
  else if s.sensor.op.isSome then s.stall a { addr := 0x60000000 + off, size := size, write := some v }
  else
    let bs := (wordBytes v).take size
    (bufferWrite off bs (cacheWrite off bs s)).answer a .done

/-- PAGE_BUFFER_IDLE (R421). -/
def bufferIdle (s : State) : State :=
  match s.sensor.buf with
  | some b => if us 50 ≤ sinceTicks b.last s.now ∧ s.sensor.op.isNone then programBuffer s else s
  | none => s

/-- The running operation ends with a flag of SP_FSTAT; what waited behind it begins (R421 to R424). -/
def opEnd (flag : Nat) (s : State) : State :=
  let after := s.sensor.after
  let s := (updSp (fun p => { p with op := none, after := none }) s).orReg (.sp .FSTAT) 0 flag
  match after with
  | some o => if flag = 2 ^ 3 then s else beginOp o s
  | none => if s.sensor.bufDue then programBuffer s else s

/-- SP_FCMD OP 1 to 3 (R423). -/
def flashErase (code addr : Nat) (s : State) : State :=
  if s.sensor.op.isSome then s
  else match s.sensor.buf with
    | none => beginOp (newOp (code + 1) addr []) s
    | some _ => updSp (fun p => { p with after := some (newOp (code + 1) addr []) }) (programBuffer s)

/-- A write of SP_FCMD (R421, R423). -/
def writeFcmd (v : Word) (s : State) : State :=
  if s.sensor.op.isSome then s
  else match fld v 31 28 with
    | 1 => flashErase 1 (fld v 25 0) s
    | 2 => flashErase 2 (fld v 25 0) s
    | 3 => flashErase 3 (fld v 25 0) s
    | 4 => programBuffer s
    | 5 => updSp (fun p => { p with cache := [] }) s
    | _ => s

/-- The port's frame is over: select high at step 5 (R414). -/
def frameOver (f : SpFrame) (s : State) : State := updSp (fun p => { p with frame := none, selHigh := f.selHigh }) s

/-- FLASH_STATUS_POLL (R422): the status byte read by the poll frame. -/
def statusPoll (status : Byte) (s : State) : State :=
  match s.sensor.frame, s.sensor.op with
  | some f, some o =>
    if f.work = .poll ∧ stLe f.endAt s.now then
      let s := frameOver f s
      if status.getLsbD (s.rfld (.sp .FPROG) 0 2 0) then
        updSp (fun p => { p with op := some { o with nextPoll := stAdd s.now (us (s.rfld (.sp .FPOLL) 0 31 16)) } }) s
      else opEnd 1 s
    else s
  | _, _ => s

/-- FLASH_OPERATION_TIMEOUT (R422). -/
def flashTimeout (s : State) : State :=
  match s.sensor.op with
  | some o =>
    if o.step = .polling ∧ ms (10 * s.rfld (.sp .FPOLL) 0 15 0) ≤ sinceTicks o.pollStart s.now then opEnd (2 ^ 2) s else s
  | none => s

/-- Answer every accessor that waits for a line (R420). -/
def answerLine (n : Nat) (c : CacheLine) (s : State) : State :=
  { s with acc := s.acc.map (fun x => match x.stalled with
      | some a =>
        if 0x60000000 ≤ a.addr ∧ (a.addr - 0x60000000) / 32 = n ∧ a.write.isNone then
          { answer := .bytes (lineBytes c (a.addr - 0x60000000) a.size), stalled := none }
        else x
      | none => x) }

/-- A flash frame is followed by the next step of its operation (R421, R423). -/
def opFrameDone (w : SpWork) (s : State) : State :=
  match s.sensor.op with
  | none => s
  | some o => match w with
    | .enable => updSp (fun p => { p with op := some { o with step := .command } }) s
    | .command =>
      updSp (fun p => { p with op := some { o with
        step := .polling, pollStart := s.now, nextPoll := stAdd s.now (us (s.rfld (.sp .FPOLL) 0 31 16)) } }) s
    | _ => s

/-- SENSOR_FRAME_END (R417, R420): the bytes read in the data phase. A poll frame ends by FLASH_STATUS_POLL. -/
def frameEnd (data : List Byte) (s : State) : State :=
  match s.sensor.frame with
  | none => s
  | some f =>
    if stLt s.now f.endAt then s
    else match f.work with
      | .profile k => profileDone k data (frameOver f s)
      | .lineFill n =>
        let bytes := (data ++ List.replicate 32 0).take 32
        answerLine n { line := n, bytes := bytes } (fillLine n bytes (frameOver f s))
      | .enable => opFrameDone .enable (frameOver f s)
      | .command => opFrameDone .command (frameOver f s)
      | .poll => s

/-! ### Mode fault (R424) -/

/-- An accessor waits for a line of the window. -/
def waitsForLine (x : AccessorState) : Bool := match x.stalled with
  | some a => decide (0x60000000 ≤ a.addr ∧ a.addr < 0x64000000) && a.write.isNone
  | none => false

/-- Reads that missed the cache end in bus errors (R424, log entry 55). -/
def failWindowReads (s : State) : State :=
  let any := s.acc.toList.any waitsForLine
  let s := { s with acc := s.acc.map (fun x => if waitsForLine x then { answer := .busError, stalled := none } else x) }
  if any then s.orReg (.sp .STAT) 0 (2 ^ 2) else s

/-- A frame is abandoned. -/
def abandonFrame (f : SpFrame) (s : State) : State :=
  let s := failWindowReads ((updSp (fun p => { p with frame := none, selHigh := s.now }) s).orReg (.sp .STAT) 0 (2 ^ 1))
  let s := match f.work with
    | .profile k => (profileFail k s).orReg (.sp .PSTAT) k.val (2 ^ 3)
    | _ => s
  if s.sensor.op.isSome then
    opEnd (2 ^ 3) (updSp (fun p => { p with buf := none, bufDue := false, after := none }) s)
  else s

/-- MODE_FAULT: the synchronised SMM_N takes a level (R424). -/
def modeFault (low : Bool) (s : State) : State :=
  let s := updSp (fun p => { p with smmLow := low }) s
  match s.sensor.frame with
  | some f => if low && s.rbit (.sp .CFG) 0 30 then abandonFrame f s else s
  | none => s

/-! ### Power (R425) and registers (R419, R426) -/

/-- Answer to a Lull request: 0 ACK, 1 DELAY, 2 REFUSE. -/
def spLull (s : State) : Nat := if s.sensor.op.isSome ∨ s.sensor.buf.isSome then 2 else if s.sensor.frame.isSome then 1 else 0

/-- Across Lull the cache is invalidated and pending profiles are discarded. -/
def spAcrossLull (s : State) : State := updSp (fun p => { p with cache := [], pend := Vector.replicate 16 false }) s

/-- The profile that the accessor's SP_SEL selects. -/
def selProfile (a : Accessor) (s : State) : Fin 16 := ix 16 (selOf (.sp .SEL) a s)

/-- SP_FSTAT's views. -/
def flashStat (s : State) : Word :=
  let code := match s.sensor.op with
    | some o => o.code
    | none => 0
  at_ (b2n s.sensor.op.isSome) 31 ||| at_ code 28 ||| at_ (b2n s.sensor.buf.isSome) 1

/-- SP_STAT's views. -/
def portStat (s : State) : Word :=
  let (flash, prof) := match s.sensor.frame with
    | some f => match f.work with
      | .profile k => (0, k.val)
      | _ => (1, 0)
    | none => (0, 0)
  at_ (b2n s.sensor.frame.isSome) 31 ||| at_ flash 30 ||| at_ prof 26 ||| at_ (b2n s.sensor.smmLow) 25

/-- A read of an SP_ register. -/
def spRead (a : Accessor) (r : SpReg) (s : State) : Word × State :=
  let k := selProfile a s
  match r with
  | .SEL => (s.reg (.sp .SEL) (accU a), s)
  | .STAT => (portStat s ||| s.reg (.sp .STAT), s)
  | .PEND => (bitsOf 16 (fun k => s.sensor.pend[ix 16 k]), s)
  | .FCMD => (0, s)
  | .FSTAT => (flashStat s ||| s.reg (.sp .FSTAT), s)
  | .FCCNT => (s.reg (.sp .FCCNT), s.readClear a (.sp .FCCNT) 0)
  | .PCMD => (0, s)
  | .PSTAT =>
    let st := if s.sensor.pend[k] then 1 else if profileBusy s k then 2 else 0
    (at_ st 30 ||| s.reg (.sp .PSTAT) k.val, s)
  | .PCNT => (s.reg (.sp .PCNT) k.val, s.readClear a (.sp .PCNT) k.val)
  | .PCFG => (s.reg (.sp .PCFG) k.val, s)
  | .PPHASE => (s.reg (.sp .PPHASE) k.val, s)
  | .PCMDV => (s.reg (.sp .PCMDV) k.val, s)
  | .PADDR => (s.reg (.sp .PADDR) k.val, s)
  | .PBUF => (s.reg (.sp .PBUF) k.val, s)
  | .PAXIS => (s.reg (.sp .PAXIS) k.val, s)
  | .PEVT => (s.reg (.sp .PEVT) k.val, s)
  | .CFG => (s.reg (.sp .CFG), s)
  | .FCFG => (s.reg (.sp .FCFG), s)
  | .FPROG => (s.reg (.sp .FPROG), s)
  | .FERASE => (s.reg (.sp .FERASE), s)
  | .FPOLL => (s.reg (.sp .FPOLL), s)

/-- A write of SP_PPHASE (R419). -/
def writePphase (k : Fin 16) (v : Word) (s : State) : State :=
  let n := fld v 12 0
  if fld v 31 30 = 3 ∨ fld v 29 28 = 3 ∨ fld v 27 26 = 3 ∨ 4 < fld v 23 21 ∨ 4096 < n then s
  else
    let base := (s.reg (.sp .PBUF) k.val).toNat
    if n = 0 ∨ sramRangeOk base n then s.plainWrite false (.sp .PPHASE) k.val v else s

/-- A write of SP_PBUF (R419). -/
def writePbuf (k : Fin 16) (v : Word) (s : State) : State :=
  if spf s .PPHASE k 12 0 = 0 ∨ sramRangeOk (v &&& 0xFFFFFFFC).toNat (spf s .PPHASE k 12 0) then s.plainWrite false (.sp .PBUF) k.val v else s

/-- A write of an SP_ register. -/
def spWrite (a : Accessor) (r : SpReg) (v : Word) (s : State) : State :=
  let k := selProfile a s
  match r with
  | .SEL => writeSel (.sp .SEL) a 0 15 v s
  | .CFG => if fld v 15 8 = 0 ∨ fld v 7 0 = 0 then s else s.plainWrite false (.sp .CFG) 0 v
  | .FCFG => if fld v 23 22 = 3 ∨ fld v 21 20 = 3 then s else s.plainWrite false (.sp .FCFG) 0 v
  | .FPOLL => if fld v 31 16 = 0 ∨ fld v 15 0 = 0 then s else s.plainWrite false (.sp .FPOLL) 0 v
  | .FCMD => writeFcmd v s
  | .PPHASE => writePphase k v s
  | .PBUF => writePbuf k v s
  | .PCMD => if bit v 0 then profileGo k s else s
  | .PCFG => s.plainWrite false (.sp .PCFG) k.val v
  | .PCMDV => s.plainWrite false (.sp .PCMDV) k.val v
  | .PADDR => s.plainWrite false (.sp .PADDR) k.val v
  | .PAXIS => s.plainWrite false (.sp .PAXIS) k.val v
  | .PEVT => s.plainWrite false (.sp .PEVT) k.val v
  | .PSTAT => s.plainWrite false (.sp .PSTAT) k.val v
  | _ => s.plainWrite false (.sp r) 0 v

/-- The sensor-port interrupt request (R426). -/
def sensorIrq (s : State) : Bool :=
  s.rfld (.sp .STAT) 0 2 1 != 0 || s.rbit (.sp .FSTAT) 0 0 || s.rfld (.sp .FSTAT) 0 3 2 != 0

end Sys2Proof.Machine
end

