-- ==== Sys2Proof/Machine/Delivery.lean ====
section
/-! DEFINITION. One delivery edge of the event router, gates, and the EV_ registers (chapter 13, R429 to R446). -/
namespace Sys2Proof.Machine

/-! ### What is due -/

/-- The next delivery edge of a publication (R429): E + 1 between BUSCLK blocks, E + 2 otherwise, and E + 2 for the
LINKCLK consumers of one whose BUSCLK consumers have been served. -/
def dueEdge (p : Publication) : Nat := p.edge + (if p.busClass && !p.busServed then 1 else 2)

/-- A publication on a channel at its delivery edge. -/
structure Arrived where
  channel : Fin 64
  hop : Nat
  sw : Bool
  producer : Nat
  inst : Nat
  output : Nat
  order : Nat
  /-- Some member of the merged publication is due at the BUSCLK consumers, at the LINKCLK consumers. -/
  toBus : Bool
  toLink : Bool
  edge : Nat
  deriving DecidableEq, Repr

/-- The publications of a due output (R427, R440). -/
def arrivals (s : State) (p : Publication) : List Arrived :=
  let mk (c : Fin 64) (order : Nat) : Arrived :=
    { channel := c, hop := p.hop, sw := p.sw, producer := p.producer, inst := p.inst, output := p.output, order := order,
      toBus := !p.busServed, toLink := !p.busClass || p.busServed, edge := p.edge }
  match p.channel with
  | some c => [mk c p.order]
  | none => (pubEntries s p.producer p.inst p.output).map (fun e => mk e.1 e.2)

/-- Publications of one channel that share a delivery edge merge: the first of them in R430's order, with the highest
hop. -/
def mergeArrived : List Arrived → Option Arrived
  | [] => none
  | x :: xs => match mergeArrived xs with
    | none => some x
    | some y =>
      let first := if y.order < x.order then y else x
      some { first with hop := max x.hop y.hop, toBus := x.toBus || y.toBus, toLink := x.toLink || y.toLink,
                        edge := max x.edge y.edge }

/-! ### The four steps of R431 -/

/-- Count a removed publication (R431). -/
def dropPub (c : Fin 64) (s : State) : State := s.countFld (.ev .CCNT) c.val 15 0 1

/-- Step 1: a hop count above HOPLIM, or of 8, is suppressed (R432, R433). -/
def hopFails (s : State) (x : Arrived) : Bool := decide (8 ≤ x.hop) || decide (s.rfld (.ev .CTRL) 0 2 0 < x.hop)

/-- Set LOOP of a suppressed publication (R433). -/
def suppress (x : Arrived) (s : State) : State :=
  dropPub x.channel ((s.orReg (.ev .CSTAT) x.channel.val (2 ^ 3)).orReg (.ev .STAT) 0 (2 ^ 3))

/-- Step 2: the gates after the set and clear masks of the surviving channels; the clear wins (R431). -/
def gatesAfter (s : State) (xs : List Arrived) : Nat :=
  let sets := xs.foldl (fun m x => m ||| s.rfld (.ev .CCFG) x.channel.val 15 8) 0
  let clrs := xs.foldl (fun m x => m ||| s.rfld (.ev .CCFG) x.channel.val 7 0) 0
  (List.range 8).foldl (fun m g =>
    m + b2n ((s.rbit (.ev .GATE) 0 g || sets.testBit g) && !(clrs.testBit g)) * 2 ^ g) 0

/-- A gate write: the groups it may change take their bits (R434). -/
def putGates (v groups : Nat) (s : State) : State :=
  (List.range 8).foldl (fun s g => if groups.testBit g then s.setFld (.ev .GATE) 0 g g (b2n (v.testBit g)) else s) s

/-- The gate of a channel's group is open. -/
def gateOpen (s : State) (c : Fin 64) : Bool := s.rbit (.ev .GATE) 0 (c.val / 8)

/-- A delivery to a task input: consumer code, instance, input, the channel, the EV_SUB entry (none for a block-held
binding) and the publication. -/
structure Target where
  code : Nat
  inst : Nat
  input : Nat
  entry : Option Nat
  src : Arrived
  deriving DecidableEq, Repr

/-- The consumer is clocked by LINKCLK (R442). -/
def linkConsumer (code : Nat) : Bool := code == 5

/-- The enabled subscribers of a delivered publication, in EV_SUB order, then block-held bindings (R427, R431). -/
def targetsOf (s : State) (x : Arrived) : List Target :=
  let c := x.channel.val
  let subs := (List.range 8).filterMap (fun k =>
    let w := s.reg (.ev .SUB) (c * 8 + k)
    let code := fld w 23 16
    if bit w 31 && (if linkConsumer code then x.toLink else x.toBus) then
      some { code := code, inst := fld w 15 8, input := fld w 7 0, entry := some k, src := x }
    else none)
  let lanes := (List.range 16).filterMap (fun k =>
    if x.toBus && s.rbit (.ln .CTRL) k 29 && s.rfld (.ln .CTRL) k 28 23 == c then
      some { code := 1, inst := k, input := 0, entry := none, src := x } else none)
  let profiles := (List.range 16).filterMap (fun k =>
    if x.toBus && s.rbit (.sp .PCFG) k 19 && s.rfld (.sp .PCFG) k 18 13 == c then
      some { code := 6, inst := k, input := 0, entry := none, src := x } else none)
  subs ++ lanes ++ profiles

/-- The order in which task inputs of one edge act (R203, R437, R452): by consumer, instance and place. -/
def inputPlace (code input : Nat) : Nat :=
  if code = 4 then (match input with | 4 => 0 | 0 => 1 | 1 => 2 | 3 => 3 | _ => 4) else input

/-- The key of a task input, in that order. -/
def targetKey (t : Target) : Nat := (t.code * 256 + t.inst) * 256 + inputPlace t.code t.input

/-- Insert a target in order of its key, behind its equals. -/
def insTarget (t : Target) : List Target → List Target
  | [] => [t]
  | x :: xs => if targetKey t < targetKey x then t :: x :: xs else x :: insTarget t xs

/-- Words 2 and 3 of an EVENT record from the merger's task input (R239, R443). -/
def eventBody (x : Arrived) : List Word :=
  [at_ x.channel.val 26 ||| at_ x.hop 23 ||| at_ (b2n x.sw) 22,
   if x.sw then 0 else at_ x.producer 24 ||| at_ x.inst 16 ||| at_ x.output 8]

/-- EV_LASTINF of a delivery. -/
def eventInfo (x : Arrived) : Word :=
  at_ x.hop 29 ||| at_ (b2n x.sw) 28 ||| at_ (if x.sw then 0 else x.producer) 16 ||| at_ (if x.sw then 0 else x.inst) 8 |||
  at_ (if x.sw then 0 else x.output) 0

/-- A task input acts (R442); parked slots and timers start nothing (R499). The flag says that it was busy and ignored the
delivery (R436). -/
def taskInput (code inst input : Nat) (x : Arrived) (s : State) : Bool × State :=
  match code with
  | 1 => (false, startCondition (ix 16 inst) s)
  | 3 =>
    let d : Fin 32 := ix 32 inst
    (false, match input with
      | 0 => slotPinch d s
      | 1 => slotOff d .task s
      | 2 => if s.power.parked[4] then s else slotDrive d false .task s
      | _ => if s.power.parked[4] then s else slotDrive d true .task s)
  | 4 =>
    let n : Fin 16 := ix 16 inst
    (false, match input with
      | 0 => if s.power.parked[12] then s else timerStart n s
      | 1 => timerStop n s
      | 2 => timerCapture n (settle n s)
      | 3 => timerCountEvent n s
      | _ => timerClear n s)
  | 5 =>
    let b : Fin 2 := ix 2 inst
    if storedBusy s b input then (true, s) else (false, storedTrigger b input s)
  | 6 => profileTrigger (ix 16 inst) s
  | 7 => (false, emit .acq tEvent (srcChannel x.channel.val) s.now (eventBody x) s)
  | 8 => (false, setLatch (ix 160 input) s)
  | _ => (false, s)

/-- The last delivery to a producer instance (R432): the higher hop of one edge is kept. -/
def noteDelivery (code inst hop : Nat) (s : State) : State :=
  let key := code * 64 + inst
  let old := match s.router.last.find? (fun e => e.1 == key) with
    | some (_, l) => if l.edge = s.clk.edge then l.hop else 0
    | none => 0
  { s with router := { s.router with
      last := (key, { edge := s.clk.edge, hop := max hop old }) :: s.router.last.filter (fun e => e.1 != key) } }

/-- Flag the EV_SUB entries of a coincidence or of a missed delivery (R435, R436). -/
def flagTargets (bitNo statBit : Nat) (ts : List Target) (s : State) : State :=
  let s := ts.foldl (fun s t => match t.entry with
    | some k => s.orReg (.ev .SUB) (t.src.channel.val * 8 + k) (2 ^ bitNo)
    | none => if bitNo = 30 && t.code == 6 then s.orReg (.ev .SPMISS) 0 (2 ^ t.inst) else s) s
  s.orReg (.ev .STAT) 0 (2 ^ statBit)

/-- Deliveries that reach one task input at this edge (R435): it acts once, with the highest hop; the merger's input takes
each channel separately. -/
def actTargets (ts : List Target) (s : State) : State :=
  match ts with
  | [] => s
  | t :: _ =>
    let hop := ts.foldl (fun m x => max m x.src.hop) 0
    let s := noteDelivery t.code t.inst hop s
    if t.code = 7 then ts.foldl (fun s x => (taskInput 7 0 0 x.src s).2) s
    else
      let s := if ts.any (fun x => x.src.channel != t.src.channel) then flagTargets 29 1 ts s else s
      let (missed, s) := taskInput t.code t.inst t.input t.src s
      if missed then flagTargets 30 2 ts s else s

/-- Act on targets in order, those of one task input together. `fuel` bounds the task inputs. -/
def actAll : Nat → List Target → State → State
  | 0, _, s => s
  | _ + 1, [], s => s
  | n + 1, t :: ts, s =>
    let same := ts.filter (fun x => targetKey x == targetKey t)
    actAll n (ts.filter (fun x => targetKey x != targetKey t)) (actTargets (t :: same) s)

/-- Step 4 for one channel: SEEN, DELIV and the last delivery (R431). -/
def recordDelivery (x : Arrived) (s : State) : State :=
  if !x.toBus then s
  else
    let c := x.channel.val
    let s := s.orReg (.ev (if c < 32 then .SEENL else .SEENH)) 0 (2 ^ (c % 32))
    let s := s.countFld (.ev .CCNT) c 31 16 1
    (s.setReg (.ev .LASTST) c (stLo s.now)).setReg (.ev .LASTINF) c (eventInfo x)

/-- What is still due to LINKCLK consumers after this edge (R429). -/
def linkRest (x : Arrived) : Option Publication :=
  if x.toBus && !x.toLink then
    some { channel := some x.channel, edge := x.edge, busClass := true, hop := x.hop, sw := x.sw, producer := x.producer,
           inst := x.inst, output := x.output, order := x.order, busServed := true }
  else none

/-- EVENT_DELIVERY: one delivery edge (R430, R431). A parked router delivers once it is released (R499). A publication
that only LINKCLK consumers still await was judged at its first delivery edge. -/
def eventDelivery (s : State) : State :=
  let due := s.router.inflight.filter (fun p => decide (dueEdge p ≤ s.clk.edge))
  if due.isEmpty || s.power.parked[11] then s
  else
    let rest := s.router.inflight.filter (fun p => !(decide (dueEdge p ≤ s.clk.edge)))
    let arr := due.flatMap (arrivals s)
    let fresh := arr.filter (fun x => x.toBus)
    let late := arr.filter (fun x => !x.toBus)
    let held := s.router.gateHeld
    let s := { s with router := { s.router with inflight := rest, gateHeld := none } }
    let groups := (List.finRange 64).filterMap (fun c => mergeArrived (fresh.filter (fun x => x.channel == c)))
    let s := (List.finRange 64).foldl (fun s c =>
      if 1 < (fresh.filter (fun x => x.channel == c)).length then s.orReg (.ev .CSTAT) c.val (2 ^ 1) else s) s
    let s := (groups.filter (hopFails s)).foldl (fun s x => suppress x s) s
    let live := groups.filter (fun x => !(hopFails s x))
    let s := s.setReg (.ev .GATE) 0 (at_ (gatesAfter s live) 0)
    let s := match held with
      | some (v, g) => putGates v g s
      | none => s
    let s := (live.filter (fun x => !(gateOpen s x.channel))).foldl (fun s x =>
      dropPub x.channel (s.orReg (.ev .CSTAT) x.channel.val (2 ^ 2))) s
    let pass := live.filter (fun x => gateOpen s x.channel)
    let s := pass.foldl (fun s x => recordDelivery x s) s
    let s := { s with router := { s.router with inflight := s.router.inflight ++ pass.filterMap linkRest } }
    let ts := (pass ++ late).flatMap (targetsOf s)
    actAll ts.length (ts.foldl (fun acc t => insTarget t acc) []) s

/-! ### EV_ registers -/

/-- The channel that the accessor's EV_SEL selects (R37). -/
def selChannel (a : Accessor) (s : State) : Fin 64 := ix 64 (selOf (.ev .SEL) a s)

/-- Channels, 32 from `lo`, with a flag in an EV_SUB entry (R446). -/
def subFlags (s : State) (lo bitNo : Nat) : Word :=
  bitsOf 32 (fun i => (List.range 8).any (fun k => s.rbit (.ev .SUB) ((lo + i) * 8 + k) bitNo))

/-- Channels, 32 from `lo`, with LOOP. -/
def loopFlags (s : State) (lo : Nat) : Word := bitsOf 32 (fun i => s.rbit (.ev .CSTAT) (lo + i) 3)

/-- A publication awaits delivery (EV_STAT.INFLIGHT, R445). -/
def inFlight (s : State) : Bool := s.router.inflight.any (fun p => !(arrivals s p).isEmpty)

/-- A read of an EV_ register. -/
def evRead (a : Accessor) (r : EvReg) (i : Nat) (s : State) : Word × State :=
  let c := (selChannel a s).val
  match r with
  | .SEL => (s.reg (.ev .SEL) (accU a), s)
  | .STAT => (s.reg (.ev .STAT) ||| at_ (b2n (inFlight s)) 31, s)
  | .CTRL => (s.reg (.ev .CTRL), s)
  | .GATE => (s.reg (.ev .GATE), s)
  | .SEENL => (s.reg (.ev .SEENL), s)
  | .SEENH => (s.reg (.ev .SEENH), s)
  | .SWPUBL => (0, s)
  | .SWPUBH => (0, s)
  | .MISSL => (subFlags s 0 30, s)
  | .MISSH => (subFlags s 32 30, s)
  | .COINL => (subFlags s 0 29, s)
  | .COINH => (subFlags s 32 29, s)
  | .LOOPL => (loopFlags s 0, s)
  | .LOOPH => (loopFlags s 32, s)
  | .SPMISS => (s.reg (.ev .SPMISS), s)
  | .CCFG => (s.reg (.ev .CCFG) c, s)
  | .CSTAT => (s.reg (.ev .CSTAT) c, s)
  | .CCNT => (s.reg (.ev .CCNT) c, s.readClear a (.ev .CCNT) c)
  | .LASTST => (s.reg (.ev .LASTST) c, s.setReg (.ev .LASTINF) (64 + accU a) (s.reg (.ev .LASTINF) c))
  | .LASTINF => (s.reg (.ev .LASTINF) (64 + accU a), s)
  | .PUB => (s.reg (.ev .PUB) (c * 8 + i), s)
  | .SUB => (s.reg (.ev .SUB) (c * 8 + i), s)

/-- The groups whose gate an accessor's EV_GATE write may change (R434, R547). -/
def gateGroups (a : Accessor) (s : State) : Nat :=
  (List.range 8).foldl (fun m g =>
    let ok := (List.finRange 64).all (fun c =>
      c.val / 8 != g ||
      (s.rfld (.ev .CCFG) c.val 31 30 != 3 && (!(s.rbit (.ev .CCFG) c.val 29) || mayWriteChannel a c s)))
    m + b2n ok * 2 ^ g) 0

/-- A write of EV_GATE (R434): applied after the gate changes of its edge's delivery and before the gate judgement. -/
def gateWrite (a : Accessor) (v : Word) (s : State) : State :=
  if s.router.inflight.any (fun p => decide (dueEdge p ≤ s.clk.edge)) then
    { s with router := { s.router with gateHeld := some (v.toNat % 256, gateGroups a s) } }
  else putGates (v.toNat % 256) (gateGroups a s) s

/-- Act on the channels whose bits are 1, from channel `lo` on; the others' owners keep them, and OWNERR is set
(R438, R439). -/
def ownedBits (a : Accessor) (lo : Nat) (v : Word) (f : Fin 64 → State → State) (s : State) : State :=
  (List.finRange 64).foldl (fun s c =>
    if lo ≤ c.val ∧ c.val < lo + 32 ∧ bit v (c.val - lo) then
      (if mayWriteChannel a c s then f c s else ownErr s)
    else s) s

/-- A software publication by EV_SWPUBL (`lo` 0) or EV_SWPUBH (`lo` 32) (R439). -/
def softwarePublish (a : Accessor) (lo : Nat) (v : Word) (s : State) : State := ownedBits a lo v publishSw s

/-- A write of SEEN bits (R439). -/
def clearSeen (a : Accessor) (lo : Nat) (v : Word) (s : State) : State :=
  ownedBits a lo v (fun c s => s.clrReg (.ev (if lo = 0 then .SEENL else .SEENH)) 0 (2 ^ (c.val - lo))) s

/-- An entry of EV_PUB that holds a train's event output (R440). -/
def heldByTrain (w : Word) : Bool := bit w 31 && fld w 23 16 == prTrain

/-- A write of EV_PUBk or EV_SUBk (R440). -/
def entryWrite (a : Accessor) (r : EvReg) (i : Nat) (v : Word) (s : State) : State :=
  let c := (selChannel a s)
  let u := c.val * 8 + i
  let listed := if r = .PUB then producerOk (fld v 23 16) (fld v 15 8) (fld v 7 0)
    else consumerOk (fld v 23 16) (fld v 15 8) (fld v 7 0)
  if !(mayWriteChannel a c s) then ownErr s
  else if r = .PUB ∧ heldByTrain (s.reg (.ev .PUB) u) then s
  else if bit v 31 ∧ !listed then s
  else s.plainWrite false (.ev r) u v

/-- A write of an EV_ register. -/
def evWrite (a : Accessor) (r : EvReg) (i : Nat) (v : Word) (s : State) : State :=
  let c := selChannel a s
  match r with
  | .SEL => writeSel (.ev .SEL) a 0 63 v s
  | .CTRL => if fld v 2 0 = 0 then s else s.plainWrite false (.ev .CTRL) 0 v
  | .STAT => s.plainWrite false (.ev .STAT) 0 v
  | .SPMISS => s.plainWrite false (.ev .SPMISS) 0 v
  | .GATE => gateWrite a v s
  | .SEENL => clearSeen a 0 v s
  | .SEENH => clearSeen a 32 v s
  | .SWPUBL => softwarePublish a 0 v s
  | .SWPUBH => softwarePublish a 32 v s
  | .CCFG =>
    if !(mayWriteChannel a c s) then ownErr s
    else if fld v 15 8 &&& fld v 7 0 ≠ 0 then s
    else s.plainWrite false (.ev .CCFG) c.val v
  | .CSTAT => if mayWriteChannel a c s then s.plainWrite false (.ev .CSTAT) c.val v else ownErr s
  | .CCNT => if mayWriteChannel a c s then s else ownErr s
  | .LASTST => if mayWriteChannel a c s then s else ownErr s
  | .LASTINF => if mayWriteChannel a c s then s else ownErr s
  | .PUB => entryWrite a .PUB i v s
  | .SUB => entryWrite a .SUB i v s
  | .MISSL => s
  | .MISSH => s
  | .COINL => s
  | .COINH => s
  | .LOOPL => s
  | .LOOPH => s

end Sys2Proof.Machine
end

