-- ==== Sys2Proof/Machine/Records.lean ====
section
/-! DEFINITION. The record merger at work, overflow, cursors and batch reads, firmware records, and the RK_ registers
(chapter 07, R242 to R259 and R277). -/
namespace Sys2Proof.Machine

/-- Change the merger. -/
def updMerger (f : Merger → Merger) (s : State) : State := { s with merger := f s.merger }

/-! ### Arrival and writing -/

/-- RECORD_ARRIVE: the first record that has reached the merger is judged (R243, R244). -/
def recordArrive (s : State) : State :=
  match s.merger.arriving with
  | [] => s
  | r :: rest => judge r (updMerger (fun m => { m with arriving := rest }) s)

/-- Judge every arriving record in turn. `fuel` is their number. -/
def judgeAll : Nat → State → State
  | 0, s => s
  | n + 1, s => judgeAll n (recordArrive s)

/-- What the writes of one edge are followed by: note events of the cursors (R254). -/
def noteEvents (types : List Nat) (s : State) : State :=
  let cs := noteCursors s types
  cs.foldl (fun s c => publish prRecords 0 c.val s) (setNotes cs s)

/-- The merger writes: not before the handover of R23 (R256), nor while the retention guard blocks the queue's banks (R514) or
boot is not past its first edge (R258). -/
def mergerWrites (s : State) : Bool :=
  s.busRuns && s.clk.source != .vane && !s.nvm.booting && !s.power.blocked[6] && !s.power.blocked[7]

/-- The records that a reset or a handover puts first (R27, R258). -/
def firstRecords (s : State) : List Rec :=
  if s.merger.restartDue then [epochRec s.now, allGap 9 s.now 0 s.now]
  else match s.merger.epochDue with
    | some t => [{ epochRec t with body := [at_ (stHi s.now) 0] }]
    | none => []

/-- The held records of one class that are due, in writing order (R243). -/
def dueOf (s : State) (c : RecClass) : List Rec := sortRecs (s.merger.held.filter (fun r => r.cls == c && dueRec s r))

/-- The held records of every class that satisfy `p`, in merge order (R243, R256). -/
def heldWhere (s : State) (p : Rec → Bool) : List Rec :=
  [RecClass.acq, .link, .sys].flatMap (fun c => sortRecs (s.merger.held.filter (fun r => r.cls == c && p r)))

/-- The first records are made. -/
def firstsMade (s : State) : State :=
  let made : Bool := s.merger.restartDue || s.merger.epochDue.isSome
  let s := if s.merger.restartDue then s.orReg (.rk .STAT) 0 (2 ^ 7) else s
  updMerger (fun m => { m with
    restartDue := false
    epochDue := none
    highDone := if made then stHi s.now else m.highDone }) s

/-- The records due at an edge are written behind `lead`, acquisition first, then link, then system (R243). A record that
arrives is judged before anything is written. -/
def writeDue (lead : List Rec) (s : State) : State :=
  let s := judgeAll s.merger.arriving.length s
  let first := firstRecords s
  let due := dueOf s .acq ++ dueOf s .link ++ dueOf s .sys
  let held := s.merger.held.filter (fun r => !(dueRec s r))
  let (types, s) := writeAll (first ++ lead ++ due) (updMerger (fun m => { m with held := held }) (firstsMade s))
  noteEvents types s

/-- RECORD_WRITE: what a BUSCLK edge writes. -/
def recordWrite (s : State) : State := if mergerWrites s then writeDue [] s else s

/-- The epoch barrier ends: its EPOCH is made. -/
def endBarrier (b : Stamp) (s : State) : State :=
  updMerger (fun m => { m with
    barrier := none
    highDone := stHi b }) s

/-- Every held record is written in merge order whatever the fronts (R256); a barrier's EPOCH keeps its place (R246). -/
def flushRecords (s : State) : State :=
  let s := judgeAll s.merger.arriving.length s
  let first := firstRecords s
  let due := match s.merger.barrier with
    | none => heldWhere s (fun _ => true)
    | some b => heldWhere s (fun r => !behindBarrier s r) ++ epochRec b :: heldWhere s (behindBarrier s)
  let s := match s.merger.barrier with
    | none => s
    | some b => endBarrier b s
  let (types, s) := writeAll (first ++ due) (updMerger (fun m => { m with held := [] }) (firstsMade s))
  noteEvents types s

/-- STAMP_HIGH_CHANGE: the high bits have changed at stamp B, low bits 0 (R246). While the Vane counter is the source, the
EPOCH waits for the handover (R27); after a reset the first EPOCH carries the present bits (R258). -/
def stampHighChange (s : State) : State :=
  match s.clk.source with
  | .vane => s
  | .bus =>
    if s.merger.barrier.isNone ∧ s.merger.restartDue = false ∧ s.merger.epochDue.isNone ∧ stHi s.now ≠ s.merger.highDone then
      updMerger (fun m => { m with barrier := some (BitVec.ofNat 48 (stHi s.now * 2 ^ 32)) }) s
    else s

/-- Every front has passed a stamp. -/
def frontsPast (s : State) (b : Stamp) : Bool := stLt b (acqFront s) && stLt b (front s .link) && stLt b s.now

/-- EPOCH_WRITE: the barrier ends with the EPOCH stamped B, and the held records follow (R246). -/
def epochWrite (s : State) : State :=
  match s.merger.barrier with
  | none => s
  | some b => if mergerWrites s && frontsPast s b then writeDue [epochRec b] (endBarrier b s) else s

/-- OVERFLOW_EXIT: the free space has reached RK_OVFREE (R255 step 3). -/
def overflowExit (s : State) : State :=
  match s.merger.overflow with
  | none => s
  | some o =>
    if mergerWrites s && decide (s.rfld (.rk .OVFREE) 0 16 0 ≤ queueFree s) then
      let r : Rec := { cls := .sys, typ := tOverflow, source := srcRecords, stamp := s.now, now := false,
                       body := [at_ o.records 0, at_ o.cursors 28 ||| at_ o.words 0] }
      let s := updMerger (fun m => { m with overflow := none }) s
      let (types, s) := writeAll [r, allGap 7 s.now o.lo (stAdd o.hi 1)] s
      almanac 0x501 1 almRecords o.records (noteEvents types s)
    else s

/-! ### Retention and power -/

/-- RETFAIL of bank 6 or 7: the queue is lost (R259). `bank` is bit 0 for bank 6, bit 1 for bank 7. -/
def queueLost (bank : Nat) (oldest newest : Stamp) (s : State) : State :=
  let s := (List.finRange 4).foldl (fun s c => if cursorOn s c then cursorToHead c s else s) s
  let g := allGap 8 s.now oldest (stAdd newest 1)
  let due : Bool := s.merger.held.any (fun r => r.typ == tGap && r.source == srcAll)
  let s := if due then s else updMerger (fun m => { m with held := m.held ++ [g] }) s
  almanac 0x502 3 almRecords (2 ^ bank) (s.orReg (.rk .STAT) 0 (2 ^ 6))

/-! ### Batch reads of the ports (R250 to R252, R369, R400) -/

/-- The words of the whole records unread from a cursor's position, in queue order. `fuel` bounds the records. -/
def unreadRecords (s : State) : Nat → Nat → Nat → List (List Word)
  | 0, _, _ => []
  | fuel + 1, i, avail =>
    let len := recLen s i
    if avail = 0 || len = 0 || decide (avail < len) then []
    else (List.range len).map (fun k => queueWord s (i + k)) :: unreadRecords s fuel (i + len) (avail - len)

/-- The read EPOCH at a cursor (R252): SOURCE 0x7E, the high bits in force, the low stamp of the first record. -/
def readEpoch (s : State) (c : Fin 4) : List Word :=
  let x := s.merger.cursors[c]
  [header tEpoch 3 0x7E x.readSeq, queueWord s (x.index + 1), at_ (highAfter s x.index x.high) 0]

/-- Records that fit in a number of words, in order; none after the first that does not (R369). -/
def fitRecords : Nat → List (List Word) → List (List Word)
  | _, [] => []
  | room, r :: rs => if r.length ≤ room then r :: fitRecords (room - r.length) rs else []

/-- Acknowledge a sent response on a cursor: its queue bytes are delivered, and its read EPOCH takes its number
(R251, R252). -/
def deliver (c : Fin 4) (u : Unacked) (s : State) : State :=
  let s := ackBytes c u.queued s
  if u.epoch then
    updMerger (fun m => { m with cursors := upd m.cursors c (fun x => { x with readSeq := (x.readSeq + 1) % 4096 }) }) s
  else s

/-! ### RK_ registers -/

/-- A write of RK_CnCTRL (R250, R371, R402): enabling sets the cursor to the head; disabling it empties it and discards an
unacknowledged response. -/
def cursorControl (c : Fin 4) (v : Word) (s : State) : State :=
  let was := cursorOn s c
  let s := s.plainWrite false (.rk .CnCTRL) c.val v
  if bit v 31 then (if was then s else cursorToHead c s)
  else
    let s := updMerger (fun m => { m with cursors := upd m.cursors c (fun x =>
      { x with index := 0, offset := 0, avail := 0, high := 0 }) }) s
    let s : State := if h : c.val < 2 then { s with host := { s.host with sent := s.host.sent.set c.val none } } else s
    if c = 1 then { s with tw := { s.tw with sent := none } } else s

/-- The core that a cursor belongs to (R250). -/
def cursorCore (a : Accessor) (c : Fin 4) : Bool :=
  match a with
  | .a0 => c == 2
  | .a1 => c == 3
  | _ => false

/-- A write of RK_CnACK (R253). -/
def cursorAck (a : Accessor) (c : Fin 4) (v : Word) (s : State) : State :=
  let n := fld v 16 0
  let x := s.merger.cursors[c]
  if c.val < 2 then s
  else if !(cursorCore a c) || decide (x.avail < n) || !(endsAtRecord s (queueWords + 1) x.index n) then
    s.orReg (.rk .CnSTAT) c.val (2 ^ 29)
  else ackBytes c (4 * n) s

/-- A write of RK_SWHDR (R277). -/
def swRecord (a : Accessor) (v : Word) (s : State) : State :=
  let ok : Bool := a == .a0 || a == .a1 || a == .vane
  if ok && fld v 31 26 == tService && decide (0x71 ≤ fld v 19 12 ∧ fld v 19 12 ≤ 0x73) then
    emit .sys tService (fld v 19 12) s.now [s.reg (.rk .SWD2) (accU a), s.reg (.rk .SWD3) (accU a)] s
  else s.orReg (.rk .STAT) 0 (2 ^ 2)

/-- A read of an RK_ register; `i` is the cursor. -/
def rkRead (a : Accessor) (r : RkReg) (i : Nat) (s : State) : Word × State :=
  let c : Fin 4 := ix 4 i
  let x := s.merger.cursors[c]
  match r with
  | .CTRL => (s.reg (.rk .CTRL), s)
  | .HORIZON => (s.reg (.rk .HORIZON), s)
  | .STAT => (s.reg (.rk .STAT) ||| at_ (b2n s.merger.overflow.isSome) 31 |||
              at_ (b2n (s.merger.barrier.isSome && s.merger.held.any (behindBarrier s))) 30, s)
  | .LATE => (s.reg (.rk .LATE), s.readClear a (.rk .LATE) 0)
  | .HEAD => (at_ s.merger.head 0, s)
  | .FREE => (at_ (queueFree s) 0, s)
  | .OVFREE => (s.reg (.rk .OVFREE), s)
  | .OVCNT => (s.reg (.rk .OVCNT), s)
  | .OLDL => (stLo (oldestUnread s), snapshot (.rk .OLDH) a (at_ (stHi (oldestUnread s)) 0) s)
  | .OLDH => (s.reg (.rk .OLDH) (accU a), s)
  | .SWHDR => (0, s)
  | .SWD2 => (0, s)
  | .SWD3 => (0, s)
  | .CnCTRL => (s.reg (.rk .CnCTRL) c.val, s)
  | .CnWMARK => (s.reg (.rk .CnWMARK) c.val, s)
  | .CnSTAT => (s.reg (.rk .CnSTAT) c.val ||| at_ (b2n (x.offset != 0)) 30, s)
  | .CnPTR => (at_ x.offset 16 ||| at_ x.index 0, s)
  | .CnAVAIL => (at_ x.avail 0, s)
  | .CnACK => (0, s)
  | .CnHIGH => (at_ x.high 0, s)

/-- A write of RK_HORIZON (R248). -/
def horizonWrite (v : Word) (s : State) : State :=
  if fld v 17 0 < 1920 ∨ 192000 < fld v 17 0 then s else s.plainWrite false (.rk .HORIZON) 0 v

/-- A write of an RK_ register. -/
def rkWrite (a : Accessor) (r : RkReg) (i : Nat) (v : Word) (s : State) : State :=
  let c : Fin 4 := ix 4 i
  match r with
  | .CTRL => if fld v 5 0 < 1 ∨ 60 < fld v 5 0 then s else s.plainWrite false (.rk .CTRL) 0 v
  | .HORIZON => horizonWrite v s
  | .STAT => s.plainWrite false (.rk .STAT) 0 v
  | .OVFREE => if fld v 16 0 < 64 ∨ 65536 < fld v 16 0 then s else s.plainWrite false (.rk .OVFREE) 0 v
  | .SWHDR => swRecord a v s
  | .SWD2 => s.setReg (.rk .SWD2) (accU a) v
  | .SWD3 => s.setReg (.rk .SWD3) (accU a) v
  | .CnCTRL => cursorControl c v s
  | .CnWMARK => s.plainWrite false (.rk .CnWMARK) c.val v
  | .CnSTAT => s.plainWrite false (.rk .CnSTAT) c.val v
  | .CnACK => cursorAck a c v s
  | .LATE => s
  | .HEAD => s
  | .FREE => s
  | .OVCNT => s
  | .OLDL => s
  | .OLDH => s
  | .CnPTR => s
  | .CnAVAIL => s
  | .CnHIGH => s

end Sys2Proof.Machine
end

