-- ==== Sys2Proof/Machine/Interrupts.lean ====
section
/-! DEFINITION. The interrupt controller and the three processors as the hub sees them: routing, claims, fault resets,
stopping and waking (chapter 15). What the processors execute is outside the hub's registers and memories. -/
namespace Sys2Proof.Machine

/-- Processor numbers: A0 0, A1 1, the Vane 2. -/
def vaneCore : Fin 3 := 2

/-- Change core `x`. -/
def updCore (x : Fin 3) (f : Core → Core) (s : State) : State :=
  { s with ic := { s.ic with cores := upd s.ic.cores x f } }

/-- The accessor that core `x` is. -/
def coreAcc (x : Fin 3) : Accessor := if x = 0 then .a0 else if x = 1 then .a1 else .vane

/-- Stamp `t` has come. While the Vane counter is the source it moves only at X32 edges (R21), so a shorter time cannot be
read off it and the command itself says that the edge has come (log entry 6). -/
def reached (s : State) (t : Stamp) : Bool := s.clk.source == .vane || stLe t s.now

/-- A system reset still holds the core: nothing has released it (R526, R529). -/
def coreHeld (s : State) (x : Fin 3) : Bool := (s.ic.cores[x]).inReset && (s.ic.cores[x]).restartAt.isNone

/-- The core runs: it is neither in reset nor stopped by power control. -/
def coreRuns (s : State) (x : Fin 3) : Bool := !(s.ic.cores[x]).inReset && !(s.ic.cores[x]).stopped

/-! ### Routing (R479 to R482) -/

/-- A reserved source (R478). -/
def reservedSource (n : Nat) : Bool := decide (55 ≤ n ∧ n ≤ 63) || decide (96 ≤ n)

/-- Priority and target mask of source `n`. -/
def srcPrio (s : State) (n : Fin 160) : Nat := s.rfld (.ic .SRC) n.val 3 0
def srcTarget (s : State) (n : Fin 160) : Nat := s.rfld (.ic .SRC) n.val 10 8

/-- Running level of core `x`: the highest claim priority in service there. -/
def coreLevel (s : State) (x : Fin 3) : Nat :=
  s.ic.sources.foldl (fun m y => if y.service = some x then max m y.prio else m) 0

/-- A core that power control has stopped counts as accepting (R480). -/
def coreAccepts (s : State) (x : Fin 3) : Bool := (s.ic.cores[x]).stopped || s.rbit (.ic .CPUCTLx) x.val 31

/-- The level that routing uses: 0 for a stopped core (R480). -/
def routeLevel (s : State) (x : Fin 3) : Nat := if (s.ic.cores[x]).stopped then 0 else coreLevel s x

/-- The cores that accept, as a mask. -/
def acceptMask (s : State) : Nat :=
  b2n (coreAccepts s 0) + 2 * b2n (coreAccepts s 1) + 4 * b2n (coreAccepts s 2)

/-- The target mask after R481: only accepting cores; where none of them accepts and A0 or A1 is named, the other
application core stands in. -/
def effectiveTarget (accept mask : Nat) : Nat :=
  if mask &&& accept ≠ 0 then mask &&& accept
  else if mask &&& 3 = 1 then accept &&& 2
  else if mask &&& 3 = 2 then accept &&& 1
  else 0

/-- Source `n` is eligible for core `x` (R479). -/
def eligible (s : State) (n : Fin 160) (x : Fin 3) : Bool :=
  let p := srcPrio s n
  p != 0 && (effectiveTarget (acceptMask s) (srcTarget s n)).testBit x.val &&
  decide (s.rfld (.ic .THRx) x.val 3 0 < p) && decide (routeLevel s x < p)

/-- The eligible core with the lowest running level, A0 before A1 before the Vane (R480). -/
def chooseCore (s : State) (n : Fin 160) : Option (Fin 3) :=
  (List.finRange 3).foldl (fun best x =>
    if !(eligible s n x) then best
    else match best with
      | some y => if routeLevel s x < routeLevel s y then some x else best
      | none => some x) none

/-- A source is routed to core `x` and still pending (R482, R486). -/
def routedTo (s : State) (n : Fin 160) (x : Fin 3) : Bool :=
  (s.ic.sources[n]).routed == some x && isPending s n

/-- Some source is routed to core `x`: its machine external interrupt input is 1 (R482). -/
def irqInput (s : State) (x : Fin 3) : Bool := (List.finRange 160).any (fun n => routedTo s n x)

/-- What a routed source does to its core: WFI ends, and a stopped core wakes 5 µs later (R493, R494). -/
def wakeCore (x : Fin 3) (s : State) : State :=
  updCore x (fun c => { c with
    wfi := false
    wakeAt := if c.stopped && c.wakeAt.isNone then some (stAdd s.now (us 5)) else c.wakeAt }) s

/-- INTERRUPT_ROUTE: one routing edge (R480). -/
def interruptRoute (s : State) : State :=
  if !s.clk.busOn then s
  else
    let target : Vector (Option (Fin 3)) 160 := Vector.ofFn (fun n => if isPending s n then chooseCore s n else none)
    let s := { s with ic := { s.ic with sources := s.ic.sources.mapIdx (fun i y => { y with routed := target[i]! }) } }
    (List.finRange 3).foldl (fun s x => if target.any (fun t => t == some x) then wakeCore x s else s) s

/-! ### Claim and completion (R483 to R486) -/

/-- The source that a claim at core `x` returns: the highest priority, then the lowest number. -/
def claimNext (s : State) (x : Fin 3) : Option (Fin 160) :=
  (List.finRange 160).foldl (fun best n =>
    if !(routedTo s n x) then best
    else match best with
      | some m => if srcPrio s m < srcPrio s n then some n else best
      | none => some n) none

/-- The claim word (R483). -/
def claimWord (s : State) (n : Fin 160) : Word :=
  at_ 1 31 ||| at_ (s.ic.sources[n]).arrivals 24 ||| at_ (srcPrio s n) 20 ||| at_ n.val 0

/-- A read of IC_CLAIMx (R483). -/
def claim (a : Accessor) (x : Fin 3) (s : State) : Word × State :=
  if a ≠ coreAcc x then (0, s)
  else match claimNext s x with
    | none => (0, s)
    | some n =>
      let p := srcPrio s n
      (claimWord s n, updSource n (fun y => { y with
        latch := false
        service := some x
        prio := p
        arrivals := 0
        routed := none }) s)

/-- A write of IC_COMPLETEx (R484). -/
def complete (x : Fin 3) (v : Word) (s : State) : State :=
  let n := fld v 7 0
  let held : Bool := n < 160 && (s.ic.sources[ix 160 n]).service == some x
  if held then updSource (ix 160 n) (fun y => { y with
      service := none
      prio := 0 }) s
  else s.orReg (.ic .STAT) 0 1

/-- A write of IC_SWSET (R485). -/
def softwareSet (v : Word) (s : State) : State :=
  (List.range 16).foldl (fun s k => if bit v k then setLatch (ix 160 (80 + k)) s else s) s

/-- A write of IC_SRCn (R478, R486). -/
def sourceWrite (n : Fin 160) (v : Word) (s : State) : State :=
  if reservedSource n.val then s else s.plainWrite false (.ic .SRC) n.val v

/-! ### Fault resets (R474 to R476) -/

/-- Memory of a data TCM: A0's at 0x1000_0000 and A1's one TCM above (R471; log entry 1). -/
def tcmBase (x : Fin 3) : Nat := 0x10000000 + 0x10000 * x.val
def tcmBytes : Nat := 0x10000

/-- Every source in service at core `x` leaves service without a completion. -/
def endServices (x : Fin 3) (s : State) : State :=
  { s with ic := { s.ic with sources := s.ic.sources.map (fun y =>
      if y.service = some x then
        { y with
          service := none
          prio := 0 }
      else y) } }

/-- A fault reset of core `x` at t0 (R475, R476). A core that a system reset holds stays held (R529; log entry 40). -/
def coreFault (x : Fin 3) (cause : Nat) (s : State) : State :=
  let held := coreHeld s x
  let due := stAdd s.now (if x = vaneCore then 192 else 32)
  let s := updCore x (fun c => { c with
    inReset := true
    restartAt := if held then none else some due
    wfi := false
    stopped := false
    wakeAt := none
    icache := false }) s
  let s := endServices x s
  let s := if x = vaneCore then s else s.clrReg (.ic .CPUCTLx) x.val (2 ^ 31)
  let s := s.setFld (.ic .CPUSTATx) x.val 31 28 cause
  let s := s.countFld (.ic .CPUSTATx) x.val 7 0 1
  let s := resetAccessor (coreAcc x) s
  let s := { s with acc := upd s.acc (accIx (coreAcc x)) (fun y => { y with stalled := none }) }
  setLatch (ix 160 (77 + x.val)) s

/-- What makes an application core take a fault reset by itself (R474): an uncorrectable error of its data TCM at an
address, or a lockup. -/
def tcmError (x : Fin 3) (addr : Word) (s : State) : State :=
  let s := almanac 0x807 3 (0xE0 + x.val) addr.toNat s
  let s := fstat (2 ^ 9) (coreFault x 2 s)
  s.zeroRange (tcmBase x) tcmBytes

/-- Where the boot ROM jumps when a core leaves reset other than at boot (R529): A0 to the RESTART offset of the booted
image, A1 to the last address of NV_A1START; A0 without an image stays in the boot ROM, and the Vane runs its own ROM. -/
def restartEntry (x : Fin 3) (s : State) : Word :=
  if x = 0 then
    match s.nvm.booted with
    | some b =>
      let base := 0x08000000 + 0x100000 * b.val
      BitVec.ofNat 32 base + s.readWord (base + 0x18)
    | none => 0
  else if x = 1 then s.ic.a1Entry
  else 0

/-- CORE_RESTART (R475 step 3, R476, R529): the core leaves reset. -/
def coreRestart (x : Fin 3) (s : State) : State :=
  match (s.ic.cores[x]).restartAt with
  | some t =>
    if (s.ic.cores[x]).inReset && reached s t then
      let entry := restartEntry x s
      updCore x (fun c => { c with
        inReset := false
        restartAt := none
        icache := x != vaneCore
        entry := entry }) s
    else s
  | none => s

/-- A write of IC_CPUCTLx (R481, R474, R490). -/
def cpuctlWrite (x : Fin 3) (v : Word) (s : State) : State :=
  if x = vaneCore then s
  else
    let s := s.setFld (.ic .CPUCTLx) x.val 31 31 (fld v 31 31)
    if bit v 0 then coreFault x 4 s else s

/-! ### WFI, stopping and waking (R493, R494) -/

/-- A stopped core runs again; its watchdog's time without it is not counted (R273). -/
def coreRun (x : Fin 3) (s : State) : State :=
  if !(s.ic.cores[x]).stopped then s
  else
    let d := ticks (s.ic.cores[x]).stoppedAt s.now
    let s := updCore x (fun c => { c with
      stopped := false
      wakeAt := none
      wfi := false }) s
    { s with safety := { s.safety with kick := upd s.safety.kick x (fun t => stAdd t d) } }

/-- CORE_WFI (R493): with the floor at Breeze and nothing routed to it an application core stops; otherwise it halts until
a source is routed to it. -/
def coreWfi (x : Fin 3) (s : State) : State :=
  if !(coreRuns s x) || irqInput s x then s
  else if s.power.floorBreeze && x != vaneCore then
    updCore x (fun c => { c with
      stopped := true
      stoppedAt := s.now
      wfi := true }) s
  else updCore x (fun c => { c with wfi := true }) s

/-- CORE_WAKE (R494). -/
def coreWake (x : Fin 3) (s : State) : State :=
  match (s.ic.cores[x]).wakeAt with
  | some t => if (s.ic.cores[x]).stopped && s.clk.busOn && reached s t then coreRun x s else s
  | none => s

/-- A Gale request starts every stopped core that accepts, 5 µs later (R493). -/
def startCores (s : State) : State :=
  (List.finRange 3).foldl (fun s x =>
    if (s.ic.cores[x]).stopped && s.rbit (.ic .CPUCTLx) x.val 31 then wakeCore x s else s) s

/-- FENCE_I (R472): the whole instruction cache of the core is invalid. -/
def fenceI (x : Fin 3) (s : State) : State := updCore x (fun c => { c with icache := false }) s

/-! ### IC_ registers -/

/-- One word of 32 sources. -/
def sourceWord (w : Nat) (p : Fin 160 → Bool) : Word := bitsOf 32 (fun i => p (ix 160 (32 * w + i)))

/-- A read of an IC_ register other than IC_CLAIMx's effect; `i` is the processor, the word or the source. -/
def icRead (a : Accessor) (r : IcReg) (i : Nat) (s : State) : Word × State :=
  let x : Fin 3 := ix 3 i
  match r with
  | .STAT => (s.reg (.ic .STAT), s)
  | .PEND => (sourceWord i (isPending s), s)
  | .INSVC => (sourceWord i (fun n => (s.ic.sources[n]).service.isSome), s)
  | .SWSET => (bitsOf 16 (fun k => (s.ic.sources[ix 160 (80 + k)]).latch), s)
  | .THRx => (s.reg (.ic .THRx) x.val, s)
  | .CLAIMx => claim a x s
  | .COMPLETEx => (0, s)
  | .LEVELx =>
    (at_ (coreLevel s x) 16 ||| (match claimNext s x with
      | some n => at_ 1 15 ||| at_ n.val 0
      | none => 0), s)
  | .CPUCTLx => (s.reg (.ic .CPUCTLx) x.val, s)
  | .CPUSTATx => (s.reg (.ic .CPUSTATx) x.val, s)
  | .SRC =>
    let n : Fin 160 := ix 160 i
    let y := s.ic.sources[n]
    if reservedSource n.val then (0, s)
    else (at_ (b2n (isPending s n)) 31 ||| at_ (b2n y.service.isSome) 30 ||| at_ (y.service.getD 0).val 28 |||
          at_ y.arrivals 24 ||| s.reg (.ic .SRC) n.val, s)

/-- A write of an IC_ register. -/
def icWrite (r : IcReg) (i : Nat) (v : Word) (s : State) : State :=
  let x : Fin 3 := ix 3 i
  match r with
  | .STAT => s.plainWrite false (.ic .STAT) 0 v
  | .SWSET => softwareSet v s
  | .THRx => s.plainWrite false (.ic .THRx) x.val v
  | .COMPLETEx => complete x v s
  | .CPUCTLx => cpuctlWrite x v s
  | .SRC => sourceWrite (ix 160 i) v s
  | .PEND => s
  | .INSVC => s
  | .CLAIMx => s
  | .LEVELx => s
  | .CPUSTATx => s

end Sys2Proof.Machine
end

