-- ==== Sys2Proof/Machine/Monitor.lean ====
section
/-! DEFINITION. The almanac writer, the watchdogs, the clock monitors, FAULT_N and the AL_ registers (R267 to R276). -/
namespace Sys2Proof.Machine

/-! ### Almanac (R267 to R269, R271) -/

/-- The ring: 1,024 entries of 16 bytes filling Vane SRAM bank 0 (R268). -/
def almBase : Nat := 0x24000000
def almEntries : Nat := 1024

/-- The four words of an entry (R267). -/
def almWords (e : AlmEntry) : List Word :=
  [stLo e.stamp, at_ e.code 20 ||| at_ e.cls 16 ||| at_ (stHi e.stamp) 0,
   at_ (e.data % 2 ^ 24) 8 ||| at_ e.source 0, at_ (e.data / 2 ^ 24 % 2 ^ 32) 0]

/-- The words of entry `i` as they stand in the ring. -/
def almRead (s : State) (i : Nat) : List Word := s.readWords (almBase + 16 * (i % almEntries)) 4

/-- Entry `x` is written before entry `y`: earlier stamp, then lower SOURCE (R268). -/
def almBefore (x y : AlmEntry) : Bool := stLt x.stamp y.stamp || (x.stamp == y.stamp && decide (x.source < y.source))

/-- The next entry to write and the rest, in order. -/
def nextEntry : List AlmEntry → Option (AlmEntry × List AlmEntry)
  | [] => none
  | x :: xs => match nextEntry xs with
    | none => some (x, [])
    | some (y, ys) => if almBefore y x then some (y, x :: ys) else some (x, y :: ys)

/-- The writer works: the Vane domain is on, and entries of a boot wait until the Vane runs (R268, R616). -/
def writerOn (s : State) : Bool := s.power.vaneOn && !(s.nvm.booting && coreHeld s vaneCore)

/-- Write one entry at AL_WIDX. -/
def putEntry (e : AlmEntry) (s : State) : State :=
  let i := (s.reg (.al .WIDX)).toNat
  let s := s.writeWords (almBase + 16 * (i % almEntries)) (almWords e)
  let s := s.setReg (.al .WIDX) 0 (at_ ((i + 1) % almEntries) 0)
  s.countFld (.al .COUNT) 0 31 0 1

/-- ALMANAC_WRITE. -/
def almanacWrite (s : State) : State :=
  if !writerOn s then s
  else match nextEntry s.safety.pending with
    | none => s
    | some (e, rest) => putEntry e { s with safety := { s.safety with pending := rest } }

/-- Every waiting entry is written. `fuel` bounds them. -/
def almanacFlush : Nat → State → State
  | 0, s => s
  | n + 1, s => if s.safety.pending.isEmpty then s else almanacFlush n (almanacWrite s)

/-- The writer compacts the ring at the commit of Calm (R271). -/
def almanacCompact (s : State) : State :=
  let s := almanacFlush s.safety.pending.length s
  let i := (s.reg (.al .WIDX)).toNat
  let n := min 256 (s.reg (.al .COUNT)).toNat
  let kept := (List.range n).flatMap (fun k => almRead s (i + almEntries - n + k))
  let s := s.writeWords almBase kept
  s.setReg (.al .WIDX) 0 (at_ n 0)

/-- The tail that Calm keeps: the entries from 0 up to AL_WIDX (R271). -/
def almanacTail (s : State) : State :=
  let n := (s.reg (.al .WIDX)).toNat
  s.eraseRange (almBase + 16 * n) (0x10000 - 16 * n)

/-- A write of AL_LOGH (R269). -/
def logCommit (a : Accessor) (v : Word) (s : State) : State :=
  if fld v 31 20 < 0xF00 ∨ 3 < fld v 19 16 then s
  else almanac (fld v 31 20) (fld v 19 16) (fld v 7 0)
    ((s.reg (.al .LOGD0) (accU a)).toNat + fld (s.reg (.al .LOGD1) (accU a)) 23 0 * 2 ^ 32) s

/-! ### FAULT_N (R275) -/

/-- FAULT_PIN_RELEASE. In Calm the pad holds its state. -/
def faultRelease (s : State) : State :=
  if s.safety.pinLow && !faultCond s && decide (ms 1 ≤ ticks s.safety.lowSince s.now) &&
     (s.power.hub == .on || s.power.hub == .lull) then
    { s with safety := { s.safety with pinLow := false } }
  else s

/-- A write of AL_FCTL. -/
def fctlWrite (v : Word) (s : State) : State :=
  let before := s
  let s := s.setFld (.al .FCTL) 0 1 1 (fld v 1 1)
  let s := if bit v 0 then s.orReg (.al .FCTL) 0 1 else s
  let s := if bit v 2 then fstat (2 ^ 15) s else s
  twNotice before (faultPin s)

/-! ### Watchdogs (R273) -/

/-- Watchdog `n` runs. -/
def wdOn (s : State) (n : Fin 3) : Bool := s.rbit (.al .WDCTL) n.val 31

/-- Its timeout in ticks. -/
def wdTicks (s : State) (n : Fin 3) : Nat := ms (s.rfld (.al .WDCTL) n.val 15 0)

/-- Its time starts again. -/
def wdRestart (n : Fin 3) (kicked : Bool) (s : State) : State :=
  { s with safety := { s.safety with
      kick := upd s.safety.kick n (fun _ => s.now)
      kicked := upd s.safety.kicked n (fun _ => kicked) } }

/-- A watchdog expires: the watched processor is reset; its time starts again, since EN stays 1 (log entry 41). Causes:
1 timeout, 2 early kick, 3 wrong key. -/
def wdExpire (n : Fin 3) (cause : Nat) (s : State) : State :=
  let s := almanac 0x801 4 almSafety (n.val + cause * 2 ^ 8) s
  wdRestart n false (fstat (2 ^ n.val) (coreFault n 1 s))

/-- WATCHDOG_EXPIRE: TIMEOUT has passed without a kick. It pauses while its core is stopped by power control. -/
def wdTimeout (n : Fin 3) (s : State) : State :=
  if wdOn s n && !(s.ic.cores[n]).stopped && s.power.vaneOn && decide (wdTicks s n ≤ ticks s.safety.kick[n] s.now) then
    wdExpire n 1 s
  else s

/-- A write of AL_WDKICKn: only by the watched processor. -/
def wdKick (a : Accessor) (n : Fin 3) (v : Word) (s : State) : State :=
  if a ≠ coreAcc n ∨ !(wdOn s n) then s
  else if v ≠ 0xA5A5 then wdExpire n 3 s
  else if s.safety.kicked[n] && decide (4 * ticks s.safety.kick[n] s.now < wdTicks s n) then wdExpire n 2 s
  else wdRestart n true s

/-- A write of AL_WDCTLn: TIMEOUT is fixed while EN is 1 and is never 0; EN is only ever set. -/
def wdctlWrite (n : Fin 3) (v : Word) (s : State) : State :=
  if wdOn s n then s
  else
    let s := if fld v 15 0 = 0 then s else s.setFld (.al .WDCTL) n.val 15 0 (fld v 15 0)
    if bit v 31 then wdRestart n false (s.orReg (.al .WDCTL) n.val (2 ^ 31)) else s

/-! ### Clock monitors (R274) -/

/-- A monitor's finding: its AL_FSTAT bit and its almanac entry. -/
def monitorFault (b code cls data : Nat) (s : State) : State := fstat (2 ^ b) (almanac code cls almSafety data s)

/-- XTAL_FAIL: the PLL moves to the internal RC. The monitor works while the crystal is selected. -/
def xtalFail (s : State) : State :=
  if s.rbit (.pw .CLK) 0 0 then monitorFault 4 0x803 2 0 (s.clrReg (.pw .CLK) 0 0x80000001) else s

/-- VRC_FAIL: VRC measured in units of 0.1 % of nominal; checked in Gale and Breeze. -/
def vrcFail (measured : BitVec 16) (s : State) : State :=
  if s.power.hub = .on ∧ (measured.toNat < 850 ∨ 1150 < measured.toNat) then
    monitorFault 6 0x805 3 measured.toNat (s.clrReg (.al .CLKSTAT) 0 4)
  else s

/-- X32_FAIL: the RTC and the Lull stamps stand still (R17). -/
def x32Fail (s : State) : State :=
  if s.clk.x32On then
    let s := { s with clk := { s.clk with x32On := false } }
    monitorFault 7 0x806 3 0 (s.clrReg (.al .CLKSTAT) 0 8)
  else s

/-- LOCKSTEP_MISMATCH (R274, R473, R476). -/
def lockstep (pc : Word) (s : State) : State :=
  if s.power.vaneOn then coreFault vaneCore 5 (monitorFault 3 0x802 4 pc.toNat s) else s

/-- CRYSTAL_RUNNING (R589): PW_CLK.XRUN becomes 1 while the oscillator is on. -/
def crystalRunning (s : State) : State := if s.rbit (.pw .CLK) 0 1 then s.orReg (.pw .CLK) 0 (2 ^ 31) else s

/-- X32_START (R589): X32 edges begin. -/
def x32Start (s : State) : State :=
  ({ s with clk := { s.clk with x32On := true } }).orReg (.al .CLKSTAT) 0 8

/-! ### AL_ registers -/

/-- AL_CLKSTAT: ONRC and XTALOK follow the PLL reference. -/
def clkStat (s : State) : Word :=
  let src := s.rbit (.pw .CLK) 0 0
  (s.reg (.al .CLKSTAT) &&& 0xC) ||| at_ (b2n (!src || s.rbit (.pw .CLK) 0 31)) 1 ||| at_ (b2n (!src)) 0

/-- A read of an AL_ register; `i` is the watchdog. -/
def alRead (r : AlReg) (i : Nat) (s : State) : Word :=
  match r with
  | .FSTAT => s.reg (.al .FSTAT)
  | .FMASK => s.reg (.al .FMASK)
  | .FCTL => at_ (b2n s.safety.pinLow) 31 ||| s.reg (.al .FCTL)
  | .CLKSTAT => clkStat s
  | .WDCTL => s.reg (.al .WDCTL) (i % 3)
  | .WIDX => s.reg (.al .WIDX)
  | .COUNT => s.reg (.al .COUNT)
  | .WDKICK => 0
  | .LOGH => 0
  | .LOGD0 => 0
  | .LOGD1 => 0

/-- A write of an AL_ register. -/
def alWrite (a : Accessor) (r : AlReg) (i : Nat) (v : Word) (s : State) : State :=
  match r with
  | .FSTAT => s.plainWrite false (.al .FSTAT) 0 v
  | .FMASK => twNotice s (faultPin (s.plainWrite false (.al .FMASK) 0 v))
  | .FCTL => fctlWrite v s
  | .WDCTL => wdctlWrite (ix 3 i) v s
  | .WDKICK => wdKick a (ix 3 i) v s
  | .LOGH => logCommit a v s
  | .LOGD0 => s.setReg (.al .LOGD0) (accU a) v
  | .LOGD1 => s.setReg (.al .LOGD1) (accU a) (v &&& 0xFFFFFF)
  | .CLKSTAT => s
  | .WIDX => s
  | .COUNT => s

end Sys2Proof.Machine
end

