-- ==== Sys2Proof/Machine/Wake.lean ====
section
/-! DEFINITION. The Vane's own block: wake sources, the RTC alarm, the Lull monitor with its log, the capture counters, and
the VN_ registers (R505, R508 to R510, R517 to R521). -/
namespace Sys2Proof.Machine

/-- Change power control. -/
def updPower (f : PowerSt → PowerSt) (s : State) : State := { s with power := f s.power }

/-- Change the Lull monitor. -/
def updMon (f : Monitor → Monitor) (s : State) : State := updPower (fun p => { p with mon := f p.mon }) s

/-! ### Wake sources (R503, R505, R508) -/

/-- Bit of the Lull monitor in VN_WSTAT; the bit of interrupt source `n` is `n - 64`. -/
def monBit : Nat := 12

/-- A wake source that VN_WAKEEN enables; the listener and the two-wire match always are. -/
def wakeEnabled (s : State) (b : Nat) : Bool := b == 5 || b == 7 || s.rbit (.vn .WAKEEN) 0 b

/-- The hub is in Lull or Calm, or on its way there after EC, and no exit has been decided: a wake is still to act. -/
def wakeOpen (s : State) : Bool :=
  s.power.phase == .committed || (s.power.hub == .lull && s.power.exit == .none) || s.power.hub == .calm

/-- A wake is due (R503, R505): kept as a bit of PW_WAKE until an exit acts on it. -/
def wakeIsDue (b : Nat) (s : State) : State :=
  if wakeOpen s && wakeEnabled s b then updPower (fun p => { p with wakeDue := p.wakeDue ||| 2 ^ b }) s else s

/-- The condition of IRQ 76; in Lull it drives the Vane's interrupt input (R517). -/
def vaneIrq (s : State) : Bool := (s.reg (.vn .WSTAT) &&& s.reg (.vn .IEN) &&& 0x1FFF) != 0

/-- In Lull the Vane's own interrupt ends its WFI. -/
def vaneWakes (s : State) : State :=
  if s.power.hub == .lull && vaneIrq s then updCore vaneCore (fun c => { c with wfi := false }) s else s

/-- A wake source asserts: its VN_WSTAT bit is set whether or not it is enabled (R505). In Calm the VN_ block is off. -/
def wakeAsserts (b : Nat) (s : State) : State :=
  let s := if s.power.vaneOn then vaneWakes (s.orReg (.vn .WSTAT) 0 (2 ^ b)) else s
  wakeIsDue b s

/-- Between EC and the arming of the edge latches, 250 ns later, an edge wake is lost (R502, R503). -/
def unarmed (s : State) : Bool :=
  s.power.phase == .committed && s.power.hub == .on && decide (ticks s.power.ec s.now < 24)

/-- An edge of an edge-mode wake source (R488). -/
def wakeEdge (n : Fin 160) (s : State) : State := if unarmed s then s else wakeAsserts (n.val - 64) (setLatch n s)

/-- The level wakes, by interrupt source. -/
def levelWakes : List Nat := [64, 65, 66, 67, 68, 69, 71]

/-- What a change of the levels since `before` does: a level that rises asserts and arrives (R487); one that falls before the
latches arm is no wake (R503). -/
def levelsFrom (before s : State) : State :=
  levelWakes.foldl (fun s n =>
    let b := n - 64
    if !wakeRequest before n && wakeRequest s n then wakeAsserts b (arrive before (ix 160 n) s)
    else if wakeRequest before n && !wakeRequest s n && unarmed s then
      updPower (fun p => { p with wakeDue := p.wakeDue &&& (0xFFFFFFFF ^^^ 2 ^ b) }) s
    else s) s

/-- Wake-enabled levels that are asserted, as PW_WAKE bits (R503: at arming). -/
def levelsDue (s : State) : Nat :=
  levelWakes.foldl (fun w n => if wakeRequest s n && wakeEnabled s (n - 64) then w ||| 2 ^ (n - 64) else w) 0

/-- Wake-enabled edge latches that are set and unclaimed (R503). -/
def latchesDue (s : State) : Nat :=
  [64, 65, 66, 67, 70, 72, 73, 74, 75].foldl (fun w n =>
    let x := s.ic.sources[ix 160 n]
    if x.latch && x.service.isNone && wakeEnabled s (n - 64) then w ||| 2 ^ (n - 64) else w) 0

/-- WAKE_PIN_CHANGE (R509): the debounced level of WAKEk. In edge mode the chosen edge sets the latch. -/
def wakePinChange (k : Fin 4) (level : Bool) (s : State) : State :=
  if s.power.wakePin[k] = level then s
  else
    let t := updPower (fun p => { p with wakePin := upd p.wakePin k (fun _ => level) }) s
    if wakeIsLevel s k then levelsFrom s t
    else if wakeLevel t k then wakeEdge (ix 160 (64 + k.val)) t
    else t

/-- RTC_ALARM (R510): the present stamp has reached the alarm. -/
def rtcAlarm (s : State) : State := if alarmUp s then wakeAsserts 4 s else s

/-- WAKE_LATCH_SET (R488): an edge of HSEL_N (70) or of a capture source (72 to 75) sets its latch. WAKE pins in edge mode
have theirs through WAKE_PIN_CHANGE. -/
def wakeLatchSet (n : Fin 160) (s : State) : State :=
  if n.val = 70 ∧ s.power.hub ≠ .calm then wakeEdge n s
  else if 64 ≤ n.val ∧ n.val ≤ 67 then
    let c := s.rfld (.vn .WAKECFG) 0 (8 * (n.val - 64) + 7) (8 * (n.val - 64))
    if 128 ≤ c ∧ c / 64 % 2 = 0 then wakeEdge n s else s
  else s

/-- A write of VN_WAKECFG: a disabled pin, and one in level mode, has no latch (R488, R509). -/
def wakeCfgWrite (v : Word) (s : State) : State :=
  let t := s.plainWrite false (.vn .WAKECFG) 0 (v &&& 0xEFEFEFEF)
  let t := (List.finRange 4).foldl (fun t k =>
    let c := fld v (8 * k.val + 7) (8 * k.val)
    if c < 128 ∨ c / 64 % 2 = 1 then updSource (ix 160 (64 + k.val)) (fun x => { x with latch := false }) t else t) t
  levelsFrom s t

/-! ### Capture counters (R519) -/

/-- VANE_CAPTURE_EDGE: an edge on TIOn in Lull. -/
def captureEdge (n : Fin 4) (rising : Bool) (s : State) : State :=
  let c := s.reg (.vn .CAPCFG) n.val
  let kind := fld c 29 28
  if s.power.hub ≠ .lull ∨ !(bit c 31) ∨ (kind = 0 ∧ !rising) ∨ (kind = 1 ∧ rising) then s
  else
    let before := s.rfld (.vn .CAPCNT) n.val 15 0
    let s := s.countFld (.vn .CAPCNT) n.val 15 0 1
    if fld c 15 0 = before + 1 then wakeEdge (ix 160 (72 + n.val)) s else s

/-! ### The Lull monitor (R518, R520) -/

/-- One channel of a scan: the new channel and whether it wakes. -/
def monChannel (c : MonChan) (cfg thr : Word) (x : Nat) : MonChan × Bool :=
  let hi := fld thr 27 16
  let lo := fld thr 11 0
  if !c.valid then ({ state := decide (hi ≤ x), valid := true, y := x * 16, cnt := 0 }, false)
  else
    let y := ((c.y : Int) + ((x * 16 : Int) - c.y) / (2 ^ fld cfg 19 16 : Nat)).toNat
    let v := y / 16
    let want : Bool := if c.state then decide (lo < v) else decide (hi ≤ v)
    if want = c.state then ({ c with y := y, cnt := 0 }, false)
    else if c.cnt + 1 ≤ fld cfg 15 12 then ({ c with y := y, cnt := c.cnt + 1 }, false)
    else ({ c with y := y, cnt := 0, state := want }, if want then bit cfg 0 else bit cfg 1)

/-- Ring of 2,048 entries of 8 bytes in Vane bank 3. -/
def lullLogBase : Nat := 0x2400C000

/-- Write one log entry; overwriting an unread one sets WRAP. -/
def logPut (src : Nat) (state : Bool) (value : Nat) (s : State) : State :=
  let i := s.power.mon.logIdx
  let s := s.writeWords (lullLogBase + 8 * i) [stLo s.now, at_ src 28 ||| at_ (b2n state) 27 ||| at_ value 0]
  let s := if s.power.mon.unread.contains i then s.orReg (.vn .MONSTAT) 0 2 else s
  updMon (fun m => { m with
    logIdx := (i + 1) % 2048
    unread := if m.unread.contains i then m.unread else m.unread ++ [i] }) s

/-- The entries of one logged scan, a high-stamp entry first where one is due. -/
def logScan (s : State) : State :=
  let s := if s.power.mon.high = some (stHi s.now) then s
    else updMon (fun m => { m with high := some (stHi s.now) }) (logPut 15 false (stHi s.now) s)
  let s := (List.finRange 8).foldl (fun s k =>
    if s.rbit (.vn .CH) k.val 31 then logPut k.val (s.power.mon.chans[k]).state (s.power.mon.chans[k]).y s else s) s
  (List.finRange 4).foldl (fun s n =>
    if s.rbit (.vn .CAPCFG) n.val 31 then logPut (8 + n.val) false (s.rfld (.vn .CAPCNT) n.val 15 0) s else s) s

/-- The log is written: LOG, and Vane bank 3 active. -/
def logOn (s : State) : Bool := s.rbit (.vn .MONCFG) 0 30 && s.rfld (.pw .RETCFG) 0 21 20 == 0

/-- MONITOR_SCAN (R518, R520): `codes` are the 12-bit conversions of AIN0 to AIN7. -/
def monitorScan (codes : Vector (BitVec 12) 8) (s : State) : State :=
  if !s.power.mon.run || s.power.hub != .lull then s
  else
    let (s, wake) := (List.finRange 8).foldl (fun (p : State × Bool) k =>
      let (s, wake) := p
      let cfg := s.reg (.vn .CH) k.val
      if bit cfg 31 then
        let (c, w) := monChannel s.power.mon.chans[k] cfg (s.reg (.vn .THR) k.val) (codes[ix 8 (fld cfg 26 24)]).toNat
        (updMon (fun m => { m with chans := upd m.chans k (fun _ => c) }) s, wake || w)
      else (s, wake)) (s, false)
    let n := s.power.mon.scans + 1
    let logs : Bool := logOn s && decide (s.rfld (.vn .MONCFG) 0 23 16 ≤ n)
    let s := updMon (fun m => { m with scans := if logs then 0 else n }) s
    let s := if logs then logScan s else s
    if wake then wakeAsserts monBit s else s

/-- The monitor starts afresh at an entry (R502, R518, R520). -/
def monitorStart (s : State) : State :=
  let run := s.rbit (.vn .MONCFG) 0 31
  let s := if run && s.rbit (.vn .MONCFG) 0 30 && !logOn s then s.orReg (.vn .MONSTAT) 0 4 else s
  updMon (fun m => { m with
    run := run
    chans := Vector.replicate 8 MonChan.reset
    scans := 0
    high := none }) s

/-- The log entry that a read of an address returns has been read. -/
def noteLogRead (addr : Nat) (s : State) : State :=
  if lullLogBase ≤ addr ∧ addr < lullLogBase + 0x4000 then
    updMon (fun m => { m with unread := m.unread.filter (fun i => i != (addr - lullLogBase) / 8) }) s
  else s

/-! ### VN_ registers (R521) -/

/-- A read of a VN_ register other than through the wide pair's low word; `i` is the channel or counter. -/
def vnRead (a : Accessor) (r : VnReg) (i : Nat) (s : State) : Word × State :=
  match r with
  | .CTRL => (s.reg (.vn .CTRL), s)
  | .WAKEEN => (s.reg (.vn .WAKEEN) ||| 0xA0, s)
  | .WSTAT => (s.reg (.vn .WSTAT), s)
  | .WAKECFG => (s.reg (.vn .WAKECFG), s)
  | .ALARML => (s.reg (.vn .ALARML), s.setReg (.vn .ALARMH) (holdU a) (s.reg (.vn .ALARMH)))
  | .ALARMH => (s.reg (.vn .ALARMH) (holdU a), s)
  | .IEN => (s.reg (.vn .IEN), s)
  | .MONCFG => (s.reg (.vn .MONCFG), s)
  | .MONSTAT => (at_ (b2n s.power.mon.run) 31 ||| s.reg (.vn .MONSTAT), s)
  | .LOGIDX => (at_ s.power.mon.logIdx 0, s)
  | .CH => (s.reg (.vn .CH) (i % 8), s)
  | .THR => (s.reg (.vn .THR) (i % 8), s)
  | .VAL =>
    let c := s.power.mon.chans[ix 8 i]
    (at_ (b2n c.state) 31 ||| at_ (b2n c.valid) 30 ||| at_ c.y 0, s)
  | .CAPCFG => (s.reg (.vn .CAPCFG) (i % 4), s)
  | .CAPCNT => (s.reg (.vn .CAPCNT) (i % 4), s)

/-- A write of a VN_ register other than VN_CTRL. -/
def vnPlain (a : Accessor) (r : VnReg) (i : Nat) (v : Word) (s : State) : State :=
  match r with
  | .WAKECFG => wakeCfgWrite v s
  | .ALARMH => s.setReg (.vn .ALARMH) (holdU a) (v &&& 0x8000FFFF)
  | .ALARML => levelsFrom s ((s.setReg (.vn .ALARML) 0 v).setReg (.vn .ALARMH) 0 (s.reg (.vn .ALARMH) (holdU a)))
  | .MONCFG => if fld v 15 0 = 0 ∨ fld v 23 16 = 0 then s else s.plainWrite false (.vn .MONCFG) 0 v
  | .CH => s.plainWrite false (.vn .CH) (i % 8) v
  | .THR => if fld v 27 16 ≤ fld v 11 0 then s else s.plainWrite false (.vn .THR) (i % 8) v
  | .CAPCFG => if fld v 29 28 = 3 then s else s.plainWrite false (.vn .CAPCFG) (i % 4) v
  | .WAKEEN => s.plainWrite false (.vn .WAKEEN) 0 v
  | .WSTAT => s.plainWrite false (.vn .WSTAT) 0 v
  | .IEN => vaneWakes (s.plainWrite false (.vn .IEN) 0 v)
  | .MONSTAT => s.plainWrite false (.vn .MONSTAT) 0 v
  | .CTRL => s.plainWrite false (.vn .CTRL) 0 (v &&& 0x20000000)
  | .LOGIDX => s
  | .VAL => s
  | .CAPCNT => s

end Sys2Proof.Machine
end

