-- ==== Sys2Proof/Machine/DrawbarEvents.lean ====
section
/-! DEFINITION. What happens on a drawbar link: candidates, syncs, headers, receptions, captures, transmissions and the edges
of an exchange (chapters 08 and 09). Levels and decoded bytes come with the command; the block's state decides what they
do. -/
namespace Sys2Proof.Machine

/-- RXCLIP: the converter clipped at this symbol (R314). -/
def noteClip (b : Fin 2) (clipped : Bool) (s : State) : State :=
  if clipped && receiving s.drawbar[b].phy then s.orReg (.db .PHYFLG) b.val (2 ^ 2) else s

/-! ### Receptions -/

/-- SYNC_FOUND (R302, R306). `rival` is the level of the second watch when it finds sync at the end of the same symbol: the
higher level wins, and the timing of both is this edge. -/
def syncFound (b : Fin 2) (matching level : Nat) (rival : Option Nat) (clipped : Bool) (s : State) : State :=
  let s := noteClip b clipped s
  let p := s.drawbar[b].phy
  if p.state = .sync ∧ syncThr s b ≤ matching ∧ matching ≤ 16 then
    let other := if p.watch.isSome then rival.getD 0 else 0
    enterHeader b (max level other) s.now s
  else s

/-- HEADER_DECODED (R303): accepted into BODY, or rejected. -/
def headerDecoded (b : Fin 2) (h : Word) (clipped : Bool) (s : State) : State :=
  let s := noteClip b clipped s
  if s.drawbar[b].phy.state = .header then
    if fld h 13 12 = 0 ∨ 32 < fld h 23 18 then toListen b (s.countFld (.db .CNT) (b.val * 4 + 1) 15 0 1)
    else updPhy b (fun p => { p with state := .body, head := some h }) s
  else s

/-- RECEPTION_COMPLETE (R303, R309, R326 step 5): DB_DRIFT holds the tracker's net steps (R297). -/
def receptionComplete (b : Fin 2) (bytes : List Byte) (track : List TrackIn) (clipped : Bool) (s : State) : State :=
  let s := noteClip b clipped s
  let p := s.drawbar[b].phy
  match p.head with
  | some h =>
    if p.state = .body ∧ bytes.length = bodyBytes h then
      let s := s.setFld (.db .DRIFT) b.val 15 0 (BitVec.ofInt 16 (trackAll track)).toNat
      receivePacket b h bytes p.syncStamp (afterReception b s)
    else s
  | none => s

/-! ### Second watch and capture (R305 to R308) -/

/-- SECOND_WATCH_CANDIDATE (R305): its own candidate, only while it holds none. -/
def watchCandidate (b : Fin 2) (matching level : Nat) (s : State) : State :=
  let p := s.drawbar[b].phy
  if receiving p ∧ p.watch = none ∧ 7 ≤ matching ∧ s.rfld (.db .RXCFG) b.val 23 16 ≤ level then
    updPhy b (fun p => { p with watch := some { level := level, foundAt := s.now } }) s
  else s

/-- The reception in progress is lost to capture: CAP, and cause 2 for an expected response (R307, R326 step 6). -/
def loseReception (b : Fin 2) (s : State) : State :=
  let s := s.countFld (.db .CNT) (b.val * 4 + 2) 31 16 1
  match s.drawbar[b].exch with
  | some x => if x.answered && x.te.isSome then failTry b 2 s else s
  | none => s

/-- The second watch drops its candidate. -/
def dropWatch (b : Fin 2) (s : State) : State := updPhy b (fun p => { p with watch := none }) s

/-- SECOND_WATCH_SYNC (R306, R307): in SYNC the first sync wins; in HEADER or BODY it captures at L_cap or above, or is dropped
and counted in WEAK. -/
def watchSync (b : Fin 2) (matching level : Nat) (s : State) : State :=
  let p := s.drawbar[b].phy
  match p.watch with
  | none => s
  | some w =>
    if matching < syncThr s b ∨ 16 < matching then s
    else
      let own (s : State) : State := updPhy b (fun p => { p with syms := 8, symsAt := w.foundAt }) s
      match p.state with
      | .sync => own (enterHeader b level s.now s)
      | .header | .body =>
        if capEn s b && decide (captureLevel s b ≤ level) then own (enterHeader b level s.now (loseReception b s))
        else dropWatch b (s.countFld (.db .CNT) (b.val * 4 + 2) 15 0 1)
      | _ => s

/-- CAPTURE by level (R307 case 2): `lowest` is the lowest total level of the last 8 symbols; the watch's candidate was found
within them. -/
def captureByLevel (b : Fin 2) (lowest : Nat) (s : State) : State :=
  let p := s.drawbar[b].phy
  match p.watch with
  | none => s
  | some w =>
    if (p.state = .header ∨ p.state = .body) ∧ capEn s b ∧ captureLevel s b ≤ lowest ∧ ticks w.foundAt s.now < 8 * 768 then
      takeWatch b w (loseReception b s)
    else s

/-- CAPTURE (R307): case 1 by the watch's sync, case 2 by level. -/
def capture (b : Fin 2) (how : CaptureCase) (s : State) : State :=
  match how with
  | .sync matching level =>
    let p := s.drawbar[b].phy
    if (p.state = .header ∨ p.state = .body) ∧ capEn s b ∧ captureLevel s b ≤ level then watchSync b matching level s else s
  | .level lowest => captureByLevel b lowest s

/-- SECOND_WATCH_DEADLINE (R302, R305): the watch's candidate is abandoned. -/
def watchDeadline (b : Fin 2) (s : State) : State :=
  if s.drawbar[b].phy.watch.isSome then dropWatch b (s.countFld (.db .CNT) (b.val * 4 + 1) 31 16 1) else s

/-! ### Blanking and the driver (R279, R284) -/

/-- BLANK_END (R279). -/
def blankEnd (b : Fin 2) (s : State) : State := if s.drawbar[b].phy.state = .blank then toListen b s else s

/-- TX_OVERCURRENT (R284): the transmission ends here; the third trip within 100 ms holds the driver off. -/
def txOvercurrent (b : Fin 2) (s : State) : State :=
  let p := s.drawbar[b].phy
  if p.driving then
    let recent := p.trips.filter (fun t => decide (ticks t s.now ≤ ms 100))
    let third := decide (2 ≤ recent.length)
    let s := updPhy b (fun p => { p with trips := s.now :: recent, heldOff := p.heldOff || third }) s
    let s := s.orReg (.db .PHYFLG) b.val (2 ^ 3)
    transmissionEnd b (almanac 0x601 (if third then 3 else 1) (srcBus b.val) (b.val + 2 * b2n third) s)
  else s

/-! ### Exchanges (R326, R328) -/

/-- The exchange in progress fails at once: the driver is held off (R284; cause 1, the driver sent nothing). -/
def refusedByDriver (b : Fin 2) (s : State) : State :=
  match s.drawbar[b].exch with
  | none => s
  | some x =>
    if x.answered then failTry b 1 s else broadcastDone b x s

/-- EXCHANGE_START (R326 step 1, R328): at a LINKCLK edge, at or after the boundary and 100 µs after the previous exchange. -/
def exchangeStart (b : Fin 2) (s : State) : State :=
  let d := s.drawbar[b]
  let free := match d.exchEnd with
    | some t => decide (us 100 ≤ ticks t s.now)
    | none => true
  match d.slot with
  | none => s
  | some w =>
    if d.exch.isSome || !free || d.phy.state == .off || (s.power.parked)[6 + b.val]! || s.clk.edge % 3 != 0 then s
    else if d.phy.heldOff then refusedByDriver b (startWork b w s)
    else startWork b w s

/-- RESPONSE_TIMEOUT (R326 step 4): te + 700 µs without a sync. -/
def responseTimeout (b : Fin 2) (s : State) : State :=
  let d := s.drawbar[b]
  match d.exch with
  | none => s
  | some x =>
    match x.te with
    | none => s
    | some te =>
      if x.answered ∧ us 700 ≤ ticks te s.now ∧ d.phy.state ≠ .header ∧ d.phy.state ≠ .body then failTry b 1 s else s

/-- LISTENER_DETECT (R310): the listener of B0, armed by DB_LSNCFG.EN, raises its wake level in Lull. -/
def listenerDetect (s : State) : State :=
  if s.power.hub = .lull ∧ s.rbit (.db .LSNCFG) 0 31 then levelsFrom s (updPower (fun p => { p with listener := true }) s) else s

end Sys2Proof.Machine
end

