-- ==== Sys2Proof/Machine/Consist.lean ====
section
/-! DEFINITION. The consist loader: its commands, full loads, in-place shunts, handovers, the return from Lull, and the CW_
registers (chapter 05; chapter 04's register map). -/
namespace Sys2Proof.Machine

/-! ### Writing an image (R166, R183, R186 step 3) -/

/-- The train of the image that a carriage belongs to. -/
def imageTrain (im : Image) (k : Fin 64) : Option (Fin 16) := (im.trains.find? (fun t => hasMember t k)).map (fun t => t.num)

/-- One carriage: its cache record, and its position when one serves it. `as_` renames a train (handover). -/
def writeCar (im : Image) (as_ : Fin 16 → Fin 16) (c : CarImage) (s : State) : State :=
  let s := writeCache c s
  match s.coach.serve[c.car] with
  | none => s
  | some p =>
    let s := match imageTrain im c.car with
      | some n => updCar p (fun x => { x with cond := .serving, train := as_ n, logical := c.car, sat := false }) s
      | none => s
    loadCarriage p c.car s

/-- One train-table entry; the train is LOADING. -/
def writeTrain (as_ : Fin 16 → Fin 16) (t : TrainImage) (s : State) : State :=
  updTrain (as_ t.num) (fun x => { x with
    state := .loading, head := ix 64 t.head, settle := t.settle,
    members := (List.finRange 64).filter (fun k => hasMember t k),
    outlets := Vector.ofFn (fun i : Fin 4 => t.outlets.getD i.val 0),
    evouts := Vector.ofFn (fun i : Fin 4 => t.evouts.getD i.val 0), wleft := 0, starting := false, stopHeld := false,
    subst := none, lastRel := Vector.replicate 4 none, outq := Vector.replicate 4 [], outStamp := Vector.replicate 4 0 }) s

/-- Carriages, trains, routes and taps of an image. -/
def writeFabric (im : Image) (as_ : Fin 16 → Fin 16) (s : State) : State :=
  let s := im.trains.foldl (fun s t => writeTrain as_ t s) s
  let s := im.cars.foldl (fun s c => writeCar im as_ c s) s
  updCoach (fun c => { c with
    routes := c.routes.filter (fun r => !(im.cars.any (fun x => x.car == r.car))) ++ im.routes
    taps := c.taps ++ im.taps.map (fun t => { t with train := as_ t.train, last := none, markDue := false }) }) s

/-- A member has no serving position (R155, R156), or a lane that feeds the train has stopped (R86). -/
def trainUnfit (s : State) (n : Fin 16) : Bool :=
  (s.coach.trains[n]).members.any (fun k => (s.coach.serve[k]).isNone) ||
  s.coach.taps.any (fun t => t.train == n && (s.lanes[t.lane]).phase == .stopped)

/-- A train whose carriages are written: READY, or FAULTED. -/
def trainWritten (n : Fin 16) (s : State) : State :=
  if (s.coach.trains[n]).state ≠ .loading then s
  else if trainUnfit s n then faultTrain n s
  else updTrain n (fun t => { t with state := .ready }) s

/-- STARTMASK trains that AUTOSTART starts on one edge (R186 step 4). -/
def autoStarts (s : State) (im : Image) : List (Fin 16) :=
  if im.autostart then
    (List.finRange 16).filter (fun n => im.startMask.testBit n.val && replaces im n && (s.coach.trains[n]).state == .ready)
  else []

/-- The last of the image's starts has completed: its lanes are enabled and the command ends (R186 step 4). -/
def loaderStarted (s : State) : State :=
  let l := s.coach.loader
  if l.phase = .loading ∧ l.image.isNone ∧ l.startsLeft.all (fun n => !(s.coach.trains[n]).starting) then
    let s := if l.enables.isEmpty then s
      else writeEnable (bitsOf 16 (fun k => l.enables.contains (ix 16 k))) s
    loaderFinish 0 s
  else s

/-- The image is written: identity, cache, starts (R186 steps 3 and 4; R189 steps 3 and 4). -/
def imageWritten (im : Image) (s : State) : State :=
  let s := (imTrains im).foldl (fun s n => trainWritten n s) s
  let s := (s.setReg (.cw .ACTID) 0 im.ident).setReg (.cw .ACTSER) 0 im.serial
  let s := if im.full then s.setReg (.cw .ACTSRC) 0 (BitVec.ofNat 32 s.coach.loader.source)
    else s.orReg (.cw .ACTSRC) 0 (2 ^ 31)
  let starts := autoStarts s im
  let s := starts.foldl (fun s n => trainStart n s) s
  let lanes := if im.full then (im.lanes.filter (fun l => l.enable)).map (fun l => l.lane) else []
  loaderStarted (updLoader (fun l => { l with cacheValid := true, image := none, startsLeft := starts, enables := lanes }) s)

/-! ### Full load (R157, R186) -/

/-- A home position may serve again. -/
def homeFree (c : CarCond) : Bool := c != .fenced && c != .retesting

/-- The map returns logical carriage `k` to its home position where that is not fenced; its spare is free again. -/
def mapHome (k : Fin 64) (s : State) : State :=
  let home : Fin 68 := ix 68 k.val
  if homeFree (s.coach.cars[home]).cond then
    let s := match s.coach.serve[k] with
      | some q => if q = home then s else updCar q (fun c => { c with cond := .spare, train := 0 }) s
      | none => s
    let s := updCar home (fun c => { c with cond := .idle, logical := k, train := 0 }) s
    updCoach (fun c => { c with serve := upd c.serve k (fun _ => some home), shown := upd c.shown k (fun _ => home) }) s
  else s

/-- Every train that is not EMPTY becomes EMPTY. -/
def emptyAll (s : State) : State :=
  (List.finRange 16).foldl (fun s n => if (s.coach.trains[n]).state = .empty then s else emptyTrain n s) s

/-- A train carries no words and is not being started. -/
def trainAtRest (t : Train) : Bool := !trainLive t && t.state != .draining && !t.starting && t.subst.isNone

/-- A lane takes its entry, or the reset values of its registers (R169). -/
def writeLane (im : Image) (k : Fin 16) (s : State) : State :=
  match im.lanes.find? (fun l => l.lane == k) with
  | some l => applyLane k l.words s
  | none =>
    let s := [LnReg.CTRL, .PERIOD, .SETTLE].foldl (fun s r => s.setReg (.ln r) k.val ((Reg.ln r).resetVal k.val)) s
    (List.range 8).foldl (fun s i => s.setReg (.ln .SCAN) (k.val * 8 + i) 0) s

/-- A slot takes its entry, or the reset configuration (log entry 19). -/
def writeDrive (im : Image) (d : Fin 32) (s : State) : State :=
  match im.drives.find? (fun e => e.slot == d) with
  | some e => applyDrive e s
  | none => resetDrive d s

/-- The writing of a full image (R186 step 3, R427). -/
def writeFull (im : Image) (s : State) : State :=
  let s := updLoader (fun l => { l with cacheValid := false, crcs := Vector.replicate 64 none })
    (updCoach (fun c => { c with routes := [], taps := [] }) s)
  let s := writeFabric im id s
  let s := (List.finRange 16).foldl (fun s k => writeLane im k s) s
  let s := (List.finRange 32).foldl (fun s d => writeDrive im d s) s
  applyEventsFull (imTrains im) im.events s

/-- FULL_LOAD_TRAINS_STOPPED (R186 steps 2 and 3). -/
def fullTrainsStopped (s : State) : State :=
  match s.coach.loader.phase, s.coach.loader.image with
  | .stopping, some im =>
    if im.full && s.coach.trains.all trainAtRest then
      let s := (List.finRange 64).foldl (fun s k => mapHome k s) (emptyAll s)
      updLoader (fun l => { l with phase := .loading }) (writeFull im s)
    else s
  | _, _ => s

/-- FULL_LOAD_WRITTEN (end of R186 step 3). -/
def fullWritten (s : State) : State :=
  match s.coach.loader.phase, s.coach.loader.image with
  | .loading, some im => if im.full then imageWritten im s else s
  | _, _ => s

/-- The start of a full load at E0 (R186 step 1). -/
def startFull (im : Image) (s : State) : State :=
  let s := (List.finRange 16).foldl (fun s n => trainStop n true s) s
  updLoader (fun l => { l with phase := .stopping, image := some im }) (writeEnable 0 s)

/-! ### In-place shunt (R189) -/

/-- A drive slot bound to a replaced train is moving. -/
def guardHit (s : State) (im : Image) : Bool :=
  (List.finRange 32).any (fun d => slotOn s d && (imTrains im).any (fun n => slotUsesTrain s d n.val) &&
    !idleMotion s.slots[d].mstate)

/-- The start of an in-place shunt at E0 (R189 steps 1 and 2). -/
def startShunt (im : Image) (s : State) : State :=
  if s.rbit (.cw .SHCTRL) 0 0 && guardHit s im then loaderFinish 11 s
  else
    let s := (imTrains im).foldl (fun s n => trainStop n true s) s
    updLoader (fun l => { l with phase := .stopping, image := some im }) s

/-- IN_PLACE_SHUNT_STOPPED (R189 step 3). -/
def shuntStopped (s : State) : State :=
  match s.coach.loader.phase, s.coach.loader.image with
  | .stopping, some im =>
    if !im.full && (imTrains im).all (fun n => trainAtRest s.coach.trains[n]) then
      let s := (imTrains im).foldl (fun s n => if (s.coach.trains[n]).state = .empty then s else emptyTrain n (disconnectTrain n s)) s
      let s := writeFabric im id s
      let s := im.drives.foldl (fun s e => applyDrive e s) s
      updLoader (fun l => { l with phase := .loading }) (applyEventsShunt (imTrains im) im.events s)
    else s
  | _, _ => s

/-- IN_PLACE_SHUNT_LOADED (R189 steps 3 and 4). -/
def shuntLoaded (s : State) : State :=
  match s.coach.loader.phase, s.coach.loader.image with
  | .loading, some im => if im.full then s else imageWritten im s
  | _, _ => s

/-! ### Handover (R190, R191) -/

/-- The lowest-numbered EMPTY train. -/
def emptyTrainNo (s : State) : Option (Fin 16) := (List.finRange 16).find? (fun n => (s.coach.trains[n]).state == .empty)

/-- The start of a handover at E0 (R190 step 1): the staging train is LOADING and its carriages are written. -/
def startHandover (im : Image) (s : State) : State :=
  match imTrains im, emptyTrainNo s with
  | n :: _, some m =>
    let s := writeFabric im (fun _ => m) s
    let h : Handover := { n := n, m := m, e0 := s.now, passed := false, sw := 0, atE := 0, oldDone := Vector.replicate 4 false }
    updLoader (fun l => { l with phase := .handover, image := some im, hand := some h }) s
  | _, _ => loaderFinish 9 s

/-- HANDOVER_STAGING_LOADED (R190 step 1): the staging train is READY and starts at once. -/
def stagingLoaded (s : State) : State :=
  match s.coach.loader.hand with
  | some h =>
    if (s.coach.trains[h.m]).state = .loading ∧ !h.passed then
      let s := trainWritten h.m s
      if (s.coach.trains[h.m]).state = .ready then trainStart h.m s else s
    else s
  | none => s

/-- HANDOVER_TIMEOUT (R191). -/
def handoverTimeout (s : State) : State :=
  match s.coach.loader.hand with
  | some h => if !h.passed ∧ ms (s.rfld (.cw .SHCTRL) 0 31 16) ≤ sinceTicks h.e0 s.now then handoverEnd 12 s else s
  | none => s

/-! ### Commands (R181, R182, R193, R615) -/

/-- The bytes of slot 0 or 1 (R179), or of the staging buffer (R181). -/
def slotBytes (s : State) (slot : Nat) (o : Nat) : Byte := s.readByte (0x080C0000 + 0x100000 * slot + o)
def stagedBytes (s : State) (o : Nat) : Byte := s.readByte ((s.reg (.cw .STGBASE)).toNat + o)

/-- The image that the running command checks, and the length it may have. -/
def jobBytes (s : State) (o : Nat) : Byte :=
  if s.coach.loader.cmd = 4 then slotBytes s s.coach.loader.slot o else stagedBytes s o
def jobLength (s : State) : Nat := if s.coach.loader.cmd = 4 then 262144 else s.rfld (.cw .STGLEN) 0 18 0

/-- An apply whose image has passed its checks: KIND, then E0 (R182). -/
def applyImage (s : State) : State :=
  let l := s.coach.loader
  let im := unpack (jobBytes s)
  if (l.cmd = 3) = im.full then loaderFinish 9 s
  else if im.full then startFull im s
  else if l.byHandover then startHandover im s
  else startShunt im s

/-- Almanac entry of a slot that fails its check (R180, R270). -/
def slotFailed (code : Nat) (s : State) : State :=
  if s.coach.loader.cmd = 4 ∧ code ≠ 0 then almanac 0x401 3 0x30 (code + s.coach.loader.slot * 2 ^ 4) s else s

/-- CONSIST_CHECK_DONE: the checks of the running command end. -/
def checkDone (s : State) : State :=
  let l := s.coach.loader
  if l.phase ≠ .checking then s
  else
    let code := checkImage (jobBytes s) (jobLength s) l.byHandover s
    if code ≠ 0 then loaderFinish code (slotFailed code s)
    else if l.cmd = 1 then
      let s := longOutcome l.port 0 s
      (updLoader (fun l => { l with
        phase := .idle
        port := 0
        staged := true
        kind := b2n (imShunt (jobBytes s))
        result := 0 }) s).orReg (.cw .LDSTAT) 0 2
    else applyImage s

/-- A command starts (R182). `slot` is the slot of CMD 4. -/
def beginLoad (cmd slot : Nat) (handover : Bool) (s : State) : State :=
  updLoader (fun l => { l with
    phase := .checking, cmd := cmd, slot := slot, byHandover := handover && cmd == 3 || handover && cmd == 1,
    started := s.now, locked := l.locked || cmd != 4, source := if cmd = 4 then 1 + slot else 3 }) s

/-- An apply of a staged image repeats only the CONFLICT check (R182). -/
def applyStaged (s : State) : State :=
  if imShunt (jobBytes s) && conflicts s (unpack (jobBytes s)) s.coach.loader.byHandover then loaderFinish 9 s else applyImage s

/-- CW_LDCMD CMD 5 (R615). -/
def loaderAbort (s : State) : State :=
  match s.coach.loader.phase with
  | .checking => updLoader (fun l => { l with locked := false, staged := false }) (loaderFinish 13 s)
  | .handover => handoverEnd 13 s
  | .idle => updLoader (fun l => { l with locked := false, staged := false }) s
  | _ => s

/-- A write of CW_LDCMD: a command while another runs ends with BUSY (R193). -/
def writeLdCmd (v : Word) (s : State) : State :=
  let cmd := fld v 3 0
  if cmd = 5 then loaderAbort s
  else if cmd = 0 ∨ 5 < cmd then s
  else if s.coach.loader.phase ≠ .idle then
    (updLoader (fun l => { l with result := 10 }) s).orReg (.cw .LDSTAT) 0 4
  else
    let wasStaged := s.coach.loader.staged
    let s := beginLoad cmd (b2n (bit v 4)) (bit v 5) s
    if wasStaged && (cmd == 2 || cmd == 3) then applyStaged s else s

/-- The loader applies the slot of the booted bank (R180): all of steps 1 to 3 before A0 starts. -/
def bootSlot (slot : Nat) (s : State) : State :=
  let s := checkDone (beginLoad 4 slot false s)
  fullWritten (fullTrainsStopped s)

/-! ### Return from Lull (R158, R185) -/

/-- Carriages with a cache record whose position is to be reloaded: members of trains that are not EMPTY, and idle
carriages. -/
def reloadCars (s : State) : List (Fin 64 × Fin 68) :=
  (List.finRange 64).filterMap (fun k => match s.coach.serve[k] with
    | some p => if (s.coach.loader.crcs[k]).isSome ∧ ((s.coach.cars[p]).cond = .serving ∨ (s.coach.cars[p]).cond = .idle)
        then some (k, p) else none
    | none => none)

/-- A train lost to a failed restore becomes EMPTY (R185, R220). -/
def loseTrain (n : Fin 16) (s : State) : State :=
  let st := (s.coach.trains[n]).state
  if st = .empty ∨ st = .faulted then s
  else
    let s := almanac 0x403 3 (srcTrain n.val) (n.val + 2 ^ 4) s
    degradeTrainSlots n.val (emptyTrain n s)

/-- Coachwork is restored on return to Breeze (R158, R185). -/
def coachRestore (s : State) : State :=
  let cars := reloadCars s
  if cars.all (fun x => cacheOk s x.1) then
    let s := cars.foldl (fun s x => loadCarriage x.2 x.1 s) s
    (List.finRange 16).foldl (fun s n => if trainLive s.coach.trains[n] then updTrain n (fun t => { t with starting := true }) s else s) s
  else
    let src := s.rfld (.cw .ACTSRC) 0 1 0
    if (src = 1 ∨ src = 2) ∧ !s.rbit (.cw .ACTSRC) 0 31 then beginLoad 4 (src - 1) false s
    else
      let s := (List.finRange 16).foldl (fun s n => loseTrain n s) s
      fstat (2 ^ 13) ((s.orReg (.cw .CACHE) 0 2).orReg (.cw .LDSTAT) 0 (2 ^ 3))

/-! ### CW_ registers -/

/-- CW_LDSTAT.PHASE (check times of R182). -/
def loaderPhase (s : State) : Nat :=
  let l := s.coach.loader
  match l.phase with
  | .idle => 0
  | .checking =>
    let t := sinceTicks l.started s.now
    let hash := imTotal (jobBytes s) * 14976 / 10000
    if t < us 5 then 1 else if t < us 5 + hash then 2 else if t < us 3505 + hash then 3 else 4
  | .stopping => 5
  | .loading => 6
  | .handover => 7

/-- CW_SHSTAT. -/
def shuntStat (s : State) : Word :=
  match s.coach.loader.hand, s.coach.loader.image with
  | some h, _ => at_ h.n.val 28 ||| at_ h.m.val 24 ||| at_ 3 22
  | none, some im =>
    if im.full then 0
    else at_ ((imTrains im).headD 0).val 28 ||| at_ 1 23
  | none, none => 0

/-- CW_TRAINn. -/
def tstateCode : TState → Nat
  | .empty => 0 | .loading => 1 | .ready => 2 | .running => 3 | .warming => 4 | .draining => 5 | .stopped => 6 | .faulted => 7

def trainWord (t : Train) : Word :=
  at_ (tstateCode t.state) 28 ||| at_ t.head.val 22 ||| at_ (t.members.length - 1) 16 ||| at_ t.wleft 0

/-- CW_CSTATp. -/
def carStat (c : Carriage) : Word :=
  let st := match c.cond with
    | .serving => 0 | .idle => 1 | .spare => 2 | .fenced => 3 | .retesting => 4 | .recovered => 5
  at_ st 28 ||| at_ c.logical.val 22 ||| at_ (if c.cond = .serving then c.train.val else 0) 18 ||| at_ (b2n c.sat) 4 ||| at_ c.cause 0

/-- One byte of CW_MAP. -/
def mapByte (s : State) (k : Fin 64) : Nat :=
  let p := s.coach.shown[k]
  b2n (decide (p.val ≠ k.val)) * 128 + p.val

/-- Bits of a member set. -/
def memberMask (t : Train) (lo : Nat) : Word := bitsOf 32 (fun i => t.members.contains (ix 64 (lo + i)))

/-- A substitution is in progress (CW_STAT.SUBBUSY). -/
def substBusy (s : State) : Bool := s.coach.trains.any (fun t => t.subst.isSome)

/-- A read of a CW_ register; `i` is the entry of an array (for the word pairs, the pair). -/
def cwRead (a : Accessor) (r : CwReg) (i : Nat) (s : State) : Word × State :=
  match r with
  | .STAT => (at_ (b2n (substBusy s)) 31 ||| s.reg (.cw .STAT), s)
  | .TSTART => (0, s)
  | .TSTOP => (0, s)
  | .TRUN => (bitsOf 16 (fun n => trainLive s.coach.trains[ix 16 n]), s)
  | .TWARM => (bitsOf 16 (fun n => (s.coach.trains[ix 16 n]).state == .warming), s)
  | .SPOOL => (spoolWord s, s)
  | .RETRY => (s.reg (.cw .RETRY), s.readClear a (.cw .RETRY) 0)
  | .PCMD => (0, s)
  | .TRAIN => (trainWord s.coach.trains[ix 16 i], s)
  | .TMEML => (memberMask s.coach.trains[ix 16 i] 0, snapshot (.cw .TMEMH) a (memberMask s.coach.trains[ix 16 i] 32) s)
  | .TMEMH => (s.reg (.cw .TMEMH) (accU a), s)
  | .MAP => (BitVec.ofNat 32 ((List.range 4).foldl (fun w j => w + mapByte s (ix 64 (4 * i + j)) * 2 ^ (8 * j)) 0), s)
  | .CSTAT => (carStat s.coach.cars[ix 68 i], s)
  | .ACCL => ((s.coach.cars[ix 68 i]).acc.setWidth 32,
      snapshot (.cw .ACCH) a (((s.coach.cars[ix 68 i]).acc >>> 32).setWidth 32) s)
  | .ACCH => (s.reg (.cw .ACCH) (accU a), s)
  | .LDCMD => (0, s)
  | .LDSTAT =>
    let l := s.coach.loader
    (at_ (b2n (l.phase != .idle)) 31 ||| at_ (loaderPhase s) 28 ||| at_ (b2n l.staged) 27 |||
     at_ (if l.staged then l.kind else 0) 26 ||| at_ l.result 16 ||| s.reg (.cw .LDSTAT), s)
  | .SHSTAT => (shuntStat s, s)
  | .CACHE => (at_ (b2n s.coach.loader.cacheValid) 31 ||| s.reg (.cw .CACHE), s)
  | _ => (s.reg (.cw r), s)

/-- A staging range lies in system SRAM and touches no bank of R194 (banks of 128 KiB from 0x2000_0000). -/
def stagingOk (base len : Nat) : Bool :=
  decide (0x20000000 ≤ base ∧ base + len ≤ 0x20180000 ∧ base < 0x20180000 ∧ len ≤ 262144) &&
  [6, 7, 9, 10, 11].all (fun b =>
    let lo := 0x20000000 + 0x20000 * b
    decide (base + max len 1 ≤ lo) || decide (lo + 0x20000 ≤ base))

/-- A write of CW_STGBASE or CW_STGLEN (R194). -/
def writeStaging (r : CwReg) (v : Word) (s : State) : State :=
  let base := if r = .STGBASE then (v &&& 0xFFFFF000).toNat else (s.reg (.cw .STGBASE)).toNat
  let len := if r = .STGLEN then fld v 18 0 else s.rfld (.cw .STGLEN) 0 18 0
  if s.coach.loader.staged || s.coach.loader.phase != .idle || !stagingOk base len then s
  else s.plainWrite false (.cw r) 0 v

/-- A write of a CW_ register. -/
def cwWrite (r : CwReg) (v : Word) (s : State) : State :=
  match r with
  | .TSTART => writeTStart v s
  | .TSTOP => writeTStop v s
  | .PCMD => writeCwPcmd v s
  | .LDCMD => writeLdCmd v s
  | .STGBASE => writeStaging .STGBASE v s
  | .STGLEN => writeStaging .STGLEN v s
  | .SHCTRL =>
    if fld v 31 16 = 0 then s.setReg (.cw .SHCTRL) 0 (putFld (s.reg (.cw .SHCTRL)) 0 0 (fld v 0 0)) else s.plainWrite false (.cw .SHCTRL) 0 v
  | _ => s.plainWrite false (.cw r) 0 v

/-- The consist interrupt request: DONE, FAIL or CACHEERR (R194). -/
def consistIrq (s : State) : Bool := s.rfld (.cw .LDSTAT) 0 3 1 != 0

/-- The Coachwork interrupt request: CW_TFAULT, CW_TAPOVR or SPAREFAIL (R152). -/
def coachIrq (s : State) : Bool :=
  s.reg (.cw .TFAULT) != 0 || s.reg (.cw .TAPOVR) != 0 || s.rbit (.cw .STAT) 0 5

end Sys2Proof.Machine
end

