-- ==== Sys2Proof/Machine/Storage.lean ====
section
/-! DEFINITION. Flash: firmware images and their verification, bank markers, NVM operations, settings pages and the store
(R530 to R543). -/
namespace Sys2Proof.Machine

/-- Change the NVM controller. -/
def updNvm (f : Nvm → Nvm) (s : State) : State := { s with nvm := f s.nvm }

/-- `n` free bytes: flash contents that the spec leaves open. -/
def freeBytes (n : Nat) (s : State) : List Byte × State :=
  let (v, s) := s.free (8 * n)
  ((List.range n).map (fun i => v.extractLsb' (8 * i) 8), s)

/-! ### Banks, images and markers (R530 to R532) -/

/-- Base of code-flash bank `b`, of its marker sector and of a byte of it. -/
def bankBase (b : Fin 2) : Nat := 0x08000000 + 0x100000 * b.val
def markerBase (b : Fin 2) : Nat := bankBase b + 0xBE000
def bankByte (s : State) (b : Fin 2) (o : Nat) : Byte := s.readByte (bankBase b + o)
def sectorBytes : Nat := 8192

/-- Device identity: stepping B0 reports index 2 (R175, R543). -/
def deviceId (s : State) : Word := 0x96400200 ||| at_ (b2n s.nvm.factory.qs) 0

/-- The header checks of BADIMAGE (R530, R531). -/
def firmwareHeadOk (g : Nat → Byte) : Bool :=
  let len := u32 g 0x08
  u32 g 0x00 == 0xF3A09640 && u32 g 0x04 == 64 && len % 16 == 0 && decide (128 ≤ len ∧ len ≤ 778240) &&
  u32 g 0x10 / 65536 == 0x9640 && (u32 g 0x10).testBit 2 && zeroAt g 0x1D 35

/-- Verify a firmware image (R531): 0 passed, 1 BADIMAGE, 2 BADKEY, 3 BADSIG, 4 ROLLBACK. -/
def verifyFirmware (s : State) (b : Fin 2) : Nat :=
  let g := bankByte s b
  if !firmwareHeadOk g then 1
  else if 32 ≤ (g 0x1C).toNat then 2
  else
    let k := s.enclave.slots[ix 32 (g 0x1C).toNat]
    let len := u32 g 0x08
    if k.typ ≠ 1 ∨ k.usage.testBit 0 = false then 2
    else if Config.ecdsaOk k.key (digest (bytesAt g 0 (len - 64))) (bytesAt g (len - 64) 64) = false then 3
    else if u32 g 0x0C < s.enclave.minFw.toNat then 4
    else 0

/-- The marker of a bank is valid (R532). -/
def markerValid (s : State) (b : Fin 2) : Bool :=
  let g := fun o => s.readByte (markerBase b + o)
  u32 g 0 == 0xA5C39640 && u32 g 28 == (crc32 (bytesAt g 0 28)).toNat

/-- The marker's SEQ. -/
def markerSeq (s : State) (b : Fin 2) : Nat := (s.readWord (markerBase b + 4)).toNat

/-- The bytes from `a` are all blank. -/
def blankAt (s : State) (a n : Nat) : Bool := (s.readBytes a n).all (fun x => x == 0xFF)

/-- The `n` bytes of flash from `a` are erased: no byte listed there differs from 0xFF, which an unlisted one reads as. -/
def flashErased (s : State) (a n : Nat) : Bool :=
  s.mem.all (fun c => decide (c.1 < a) || decide (a + n ≤ c.1) || c.2 == 0xFF)

/-- Erase `n` bytes of flash from `a`. -/
def eraseFlash (a n : Nat) (s : State) : State := s.eraseRange a n

/-- Banks with a valid marker, the one to boot first: higher SEQ, bank 0 on a tie (R532). -/
def bootOrder (s : State) : List (Fin 2) :=
  let valid := (List.finRange 2).filter (markerValid s)
  if valid.length = 2 ∧ markerSeq s 0 < markerSeq s 1 then [1, 0] else valid

/-! ### Settings pages (R536, R537) -/

/-- A copy of page `p`: 0 copy A, 1 copy B. -/
def copyBase (p c : Nat) : Nat := 0x08800000 + 0x1000 * p + 0x800 * c
def copyBytes (s : State) (p c : Nat) : List Byte := s.readBytes (copyBase p c) 2048

/-- SEQ of a copy; the copy is valid; the copy is erased. -/
def copySeq (s : State) (p c : Nat) : Nat := (s.readWord (copyBase p c + 2040)).toNat
def copyValid (s : State) (p c : Nat) : Bool :=
  copySeq s p c != 0xFFFFFFFF && s.readWord (copyBase p c + 2044) == crc32 (s.readBytes (copyBase p c) 2044)
def copyErased (s : State) (p c : Nat) : Bool := flashErased s (copyBase p c) 2048

/-- The current copy of a page: the valid one with the higher SEQ, A on a tie. -/
def currentCopy (s : State) (p : Nat) : Option Nat :=
  match copyValid s p 0, copyValid s p 1 with
  | true, true => if copySeq s p 0 < copySeq s p 1 then some 1 else some 0
  | true, false => some 0
  | false, true => some 1
  | false, false => none

/-- NV_PVALA, NV_PVALB and NV_PCUR follow the copies. -/
def notePage (p : Nat) (s : State) : State :=
  let put (r : NvReg) (b : Bool) (s : State) : State := s.setFld (.nv r) 0 p p (b2n b)
  let va := copyValid s p 0
  let vb := copyValid s p 1
  let cur := currentCopy s p
  put .PCUR (cur == some 1) (put .PVALB vb (put .PVALA va s))

/-- Image page `p` in system SRAM bank 9. -/
def imageBase (p : Nat) : Nat := 0x20120000 + 0x800 * p

/-- Write one image page from its current copy; words 510 and 511 read the current SEQ and 0. -/
def loadPage (p : Nat) (s : State) : State :=
  match currentCopy s p with
  | some c =>
    let data := s.readBytes (copyBase p c) 2040
    s.writeBytes (imageBase p) (data ++ wordBytes (at_ (copySeq s p c) 0) ++ wordBytes 0)
  | none => s.eraseRange (imageBase p) 2048

/-- The NVM controller loads the settings image (R536, R542). -/
def loadSettings (s : State) : State := (List.range 32).foldl (fun s p => notePage p (loadPage p s)) s

/-- NV_DIRTY: bit 31 follows the slots and the recall memories (R537). -/
def nvDirty (s : State) : Word :=
  (s.reg (.nv .DIRTY) &&& 0x7FFFFFFF) |||
  at_ (b2n (s.slots.any (fun x => x.dirty) || s.nvm.prDirty || s.nvm.prTaken)) 31

/-- A write to a byte of a settings image page 0 to 30 sets its dirty bit (R537). -/
def settingsWritten (p : Nat) (s : State) : State := s.setFld (.nv .DIRTY) 0 p p 1

/-! ### NVM operations (R533) -/

/-- Results of NV_STAT. -/
def nvOk : Nat := 0
def nvConsist : Nat := 5
def nvMarkFail : Nat := 6
def nvNotOpen : Nat := 7
def nvBusy : Nat := 8
def nvPower : Nat := 9
def nvProtect : Nat := 10
def nvNotBlank : Nat := 11
def nvAlign : Nat := 12
def nvVerify : Nat := 13

/-- A command ends with a result: DONE for OK, otherwise ERR. -/
def nvResult (r : Nat) (s : State) : State :=
  (s.setFld (.nv .STAT) 0 27 24 r).orReg (.nv .STAT) 0 (if r = 0 then 1 else 2)

/-- A port's STORE is done: OUTCOME holds the pages written and the result (R374, R403). -/
def storeOutcome (port r pages : Nat) (s : State) : State := longOutcome port (pages * 256 + r) s

/-- The running operation ends. -/
def nvEnd (r : Nat) (s : State) : State :=
  match s.nvm.op with
  | none => s
  | some o =>
    let s := updNvm (fun n => { n with
      op := none
      storeAct := if o.op = 5 then false else n.storeAct
      commitAct := if o.op = 4 then false else n.commitAct }) s
    let s := if o.op = 5 then storeOutcome o.port r (s.rfld (.nv .STAT) 0 23 16) s else s
    nvResult r s

/-- The bank that a code-flash offset lies in, and its offset there. -/
def nvBank (addr : Nat) : Fin 2 := ix 2 (addr / 0x100000)
def inMarker (addr : Nat) : Bool := decide (0xBE000 ≤ addr % 0x100000 ∧ addr % 0x100000 < 0xC0000)

/-- What refuses OP 1 to 4 (R533); 0 when nothing does. Log entry 44: the order of the tests. -/
def nvRefuses (s : State) (op : Nat) (b : Fin 2) (addr : Nat) : Nat :=
  match op with
  | 1 => if s.nvm.booted = some b then nvProtect else nvOk
  | 2 => if !s.nvm.open_[nvBank addr] then nvNotOpen else if inMarker addr then nvProtect else nvOk
  | 3 =>
    if !s.nvm.open_[nvBank addr] then nvNotOpen
    else if inMarker addr then nvProtect
    else if addr % 16 ≠ 0 then nvAlign
    else if !blankAt s (0x08000000 + addr) 16 then nvNotBlank
    else nvOk
  | 4 => if s.nvm.open_[b] then nvOk else nvNotOpen
  | _ => nvOk

/-- An operation starts. -/
def nvStart (op : Nat) (b : Fin 2) (addr port : Nat) (pages : List Nat) (s : State) : State :=
  updNvm (fun n => { n with
    op := some { op := op, bank := b.val, addr := addr, data := (List.range 4).map (fun i => s.reg (.nv .WDATA) i),
                 start := s.now, pages := pages, buffer := [], bad := false, port := port }
    storeAct := if op = 5 then true else n.storeAct
    commitAct := if op = 4 then true else n.commitAct }) { s with power := { s.power with
      dom := upd s.power.dom domNvm (fun _ => true) } }

/-- Words of the positions page (R538): slots with KEEP, then the recall memories. -/
def positionsPage (s : State) : List Byte :=
  let slots := (List.finRange 32).flatMap (fun d =>
    if s.rbit (.ds .CFG) d.val 27 then wordBytes s.slots[d].pos ++ wordBytes (posHigh s.slots[d])
    else List.replicate 8 0)
  slots ++ (List.range 32).flatMap (fun i => wordBytes (s.reg (.ds .PRMEM) i)) ++ List.replicate (2040 - 384) 0

/-- Step 1 of R538 for the next page: the buffer is taken; with VDD33 below its programming threshold the store stops
with POWER. -/
def startPage (vddOk : Bool) (s : State) : State :=
  match s.nvm.op with
  | none => s
  | some o =>
    match o.pages with
    | [] => s
    | p :: _ =>
      if !vddOk then nvEnd nvPower s
      else if p < 31 then
        let data := s.readBytes (imageBase p) 2040
        let s := s.setFld (.nv .DIRTY) 0 p p 0
        updNvm (fun n => { n with op := some { o with buffer := data } }) s
      else
        let data := positionsPage s
        let s := { s with slots := s.slots.map (fun x => { x with taken := true }) }
        updNvm (fun n => { n with
          prTaken := n.prDirty || n.prTaken
          prDirty := false
          op := some { o with buffer := data } }) s

/-- STORE (R538): the set of dirty pages at the accepting edge, in ascending order. -/
def nvStore (port : Nat) (vddOk : Bool) (s : State) : State :=
  if s.nvm.op.isSome then
    let s := storeOutcome port nvBusy 0 s
    if port = 0 then nvResult nvBusy s else s
  else
    let d := nvDirty s
    let pages := (List.range 32).filter (fun p => bit d p)
    startPage vddOk (nvStart 5 0 0 port pages (s.setFld (.nv .STAT) 0 23 16 0))

/-- A write of NV_CMD (R533, R543). `vddOk` says whether VDD33 is above its programming threshold at the edge. -/
def nvCommand (v : Word) (vddOk : Bool) (s : State) : State :=
  let op := fld v 31 28
  let b : Fin 2 := ix 2 (fld v 0 0)
  if op = 0 ∨ 6 < op then s
  else if s.nvm.op.isSome then nvResult nvBusy s
  else if op = 5 then nvStore 0 vddOk s
  else if op = 6 then nvResult nvOk (updNvm (fun n => { n with open_ := upd n.open_ b (fun _ => false) }) s)
  else
    let addr := s.rfld (.nv .ADDR) 0 20 0
    let r := nvRefuses s op b addr
    if r ≠ 0 then nvResult r s else nvStart op b addr 0 [] s

/-! ### The end of an operation (R533 to R535, R538) -/

/-- SEQ of a new marker: one above the booted bank's (R534); with no booted bank, one above the other bank's valid marker
(log entry 45). -/
def nextMarkerSeq (s : State) (b : Fin 2) : Nat :=
  let other : Fin 2 := if b = 0 then 1 else 0
  match s.nvm.booted with
  | some x => markerSeq s x + 1
  | none => if markerValid s other then markerSeq s other + 1 else 1

/-- The 32 bytes of bank `b`'s marker (R532). -/
def markerBytes (s : State) (b : Fin 2) : List Byte :=
  let g := bankByte s b
  let head := wordBytes 0xA5C39640 ++ wordBytes (at_ (nextMarkerSeq s b) 0) ++ wordBytes (at_ (u32 g 0x0C) 0) ++
    wordBytes (at_ (u32 g 0x08) 0) ++ wordBytes (at_ (u32 g 0xC000C) 0) ++ wordBytes (at_ (u32 g 0xC0010) 0) ++ wordBytes 0
  head ++ wordBytes (crc32 head)

/-- COMMIT ends (R534). A marker that does not read back leaves contents that are no valid marker and otherwise open. -/
def commitDone (b : Fin 2) (readBackOk : Bool) (s : State) : State :=
  let r := verifyFirmware s b
  let c := checkBytes (slotBytes s b.val) 262144 s
  if r ≠ 0 then nvEnd r s
  else if c ≠ 0 then nvEnd nvConsist (s.setFld (.nv .STAT) 0 15 12 c)
  else
    let mark := markerBytes s b
    let s := eraseFlash (markerBase b) sectorBytes s
    if readBackOk then
      nvEnd nvOk (updNvm (fun n => { n with open_ := upd n.open_ b (fun _ => false) }) (s.writeBytes (markerBase b) mark))
    else
      let (junk, s) := freeBytes 28 s
      nvEnd nvMarkFail (s.writeBytes (markerBase b) (wordBytes 0 ++ junk))

/-- NVM_OPERATION_DONE. `readBackOk` is the marker's read-back. A store ends here after its last page. -/
def nvDone (readBackOk : Bool) (s : State) : State :=
  match s.nvm.op with
  | none => s
  | some o =>
    let b : Fin 2 := ix 2 o.bank
    match o.op with
    | 1 =>
      let s := eraseFlash (markerBase b) sectorBytes s
      nvEnd nvOk (updNvm (fun n => { n with open_ := upd n.open_ b (fun _ => true) }) s)
    | 2 => nvEnd nvOk (eraseFlash (0x08000000 + o.addr / sectorBytes * sectorBytes) sectorBytes s)
    | 3 => nvEnd nvOk (s.writeWords (0x08000000 + o.addr) o.data)
    | 4 => commitDone b readBackOk s
    | _ => if o.pages.isEmpty then nvEnd (if o.bad then nvVerify else nvOk) s else s

/-- The copy that a store of page `p` writes: not the current one; copy A of an empty page. -/
def targetCopy (s : State) (p : Nat) : Nat := if currentCopy s p = some 0 then 1 else 0

/-- A page's new copy is written and verified (R538 step 4, R540): the page leaves the store. -/
def pageStored (p : Nat) (rest : List Nat) (o : NvOp) (s : State) : State :=
  let c := targetCopy s p
  let seq := match currentCopy s p with
    | some x => copySeq s p x + 1
    | none => 1
  let body := o.buffer ++ wordBytes (at_ seq 0)
  let s := (eraseFlash (copyBase p c) 2048 s).writeBytes (copyBase p c) (body ++ wordBytes (crc32 body))
  let s := s.writeWord (imageBase p + 2040) (at_ seq 0)
  let s := (notePage p s).countFld (.nv .STAT) 0 23 16 1
  let s := if p < 31 then s
    else
      let s := { s with slots := s.slots.map (fun x => { x with dirty := x.dirty && !x.taken }) }
      updNvm (fun n => { n with prTaken := false }) s
  updNvm (fun n => { n with op := some { o with
    pages := rest
    buffer := [] } }) s

/-- The copy differs: it is no valid copy and its contents are open; the page is dirty again (R538 step 4). -/
def pageFailed (p : Nat) (rest : List Nat) (o : NvOp) (s : State) : State :=
  let c := targetCopy s p
  let (junk, s) := freeBytes 2040 s
  let s := s.writeBytes (copyBase p c) (junk ++ List.replicate 8 0xFF)
  let s := notePage p s
  let s := if p < 31 then settingsWritten p s
    else updNvm (fun n => { n with
      prDirty := n.prDirty || n.prTaken
      prTaken := false }) s
  let s := almanac 0x906 3 almNvm (p + c * 2 ^ 5) s
  updNvm (fun n => { n with op := some { o with
    pages := rest
    buffer := []
    bad := true } }) s

/-- STORE_PAGE_WRITTEN: the read-back of the page in progress, then step 1 of the next page. -/
def storePageWritten (readBackOk vddOk : Bool) (s : State) : State :=
  match s.nvm.op with
  | none => s
  | some o =>
    match o.pages with
    | [] => s
    | p :: rest =>
      if o.op ≠ 5 then s
      else startPage vddOk (if readBackOk then pageStored p rest o s else pageFailed p rest o s)

/-- A reset cuts a running operation short: the flash it was changing holds open contents, but no page and no bank mixes
old and new (R535, R540). A page's last unit is programmed last, so its SEQ word still reads blank. Log entry 46. -/
def cutOperation (s : State) : State :=
  match s.nvm.op with
  | none => s
  | some o =>
    match o.op with
    | 1 =>
      let (junk, s) := freeBytes (sectorBytes - 4) s
      s.writeBytes (markerBase (ix 2 o.bank)) (wordBytes 0 ++ junk)
    | 2 =>
      let (junk, s) := freeBytes sectorBytes s
      s.writeBytes (0x08000000 + o.addr / sectorBytes * sectorBytes) junk
    | 3 =>
      let (junk, s) := freeBytes 16 s
      s.writeBytes (0x08000000 + o.addr) junk
    | 5 =>
      match o.pages with
      | p :: _ =>
        let c := targetCopy s p
        let (junk, s) := freeBytes 2032 s
        s.writeBytes (copyBase p c) (junk ++ List.replicate 16 0xFF)
      | [] => s
    | _ => s

/-! ### NV_ registers -/

/-- NV_STAT. -/
def nvStat (s : State) : Word :=
  (match s.nvm.op with
    | some o => at_ 1 31 ||| at_ o.op 28
    | none => 0) ||| s.reg (.nv .STAT)

/-- NV_BANKSTAT. -/
def bankStat (s : State) : Word :=
  at_ (b2n (markerValid s 1)) 31 ||| at_ (b2n (markerValid s 0)) 30 ||| at_ (b2n s.nvm.open_[1]) 29 |||
  at_ (b2n s.nvm.open_[0]) 28

/-- A write of NV_A1START (R529): from A0, while A1 is in reset. -/
def a1Start (a : Accessor) (v : Word) (s : State) : State :=
  if a = .a0 ∧ coreHeld s 1 then
    let entry := v &&& 0xFFFFFFFE
    let s := { s with ic := { s.ic with a1Entry := entry } }
    updCore 1 (fun c => { c with
      restartAt := some (stAdd s.now 32)
      entry := entry }) s
  else s

/-- A read of an NV_ register. -/
def nvRead (a : Accessor) (r : NvReg) (i : Nat) (s : State) : Word × State :=
  match r with
  | .DEVID => (deviceId s, s)
  | .UIDL => (s.nvm.factory.uid.setWidth 32, snapshot (.nv .UIDH) a ((s.nvm.factory.uid >>> 32).setWidth 32) s)
  | .UIDH => (s.reg (.nv .UIDH) (accU a), s)
  | .STAT => (nvStat s, s)
  | .BANKSTAT => (bankStat s, s)
  | .DIRTY => (nvDirty s, s)
  | .SYSRST => (0, s)
  | .A1START => (0, s)
  | .CMD => (0, s)
  | .WDATA => (s.reg (.nv .WDATA) (i % 4), s)
  | .RSTCAUSE => (s.reg (.nv .RSTCAUSE), s)
  | .BOOTSTAT => (s.reg (.nv .BOOTSTAT), s)
  | .ADDR => (s.reg (.nv .ADDR), s)
  | .PVALA => (s.reg (.nv .PVALA), s)
  | .PVALB => (s.reg (.nv .PVALB), s)
  | .PCUR => (s.reg (.nv .PCUR), s)

end Sys2Proof.Machine
end

