-- ==== Sys2Proof/Machine/Reset.lean ====
section
/-! DEFINITION. Resets and boot: what a system reset keeps, the factory block, the boot bank and its verification, and the
edge at which A0 and the Vane leave reset (R522 to R529, R539). -/
namespace Sys2Proof.Machine

/-! ### What a reset keeps (R524) -/

/-- Registers of the always-on domain (R492, R521, R525, R388). -/
def aonKeys : List Nat :=
  [Reg.key (.vn .WAKEEN) 0, Reg.key (.vn .WAKECFG) 0, Reg.key (.vn .ALARML) 0, Reg.key (.vn .ALARMH) 0,
   Reg.key (.pw .WAKE) 0, Reg.key (.nv .RSTCAUSE) 0, Reg.key (.tw .ADDR) 0]

/-- AL_WIDX and AL_COUNT, which go with the Vane SRAM. -/
def ringKeys : List Nat := [Reg.key (.al .WIDX) 0, Reg.key (.al .COUNT) 0]

def inFlash (a : Nat) : Bool := decide (0x08000000 ≤ a ∧ a < 0x0A000000)
def inVaneSram (a : Nat) : Bool := decide (0x24000000 ≤ a ∧ a < 0x24010000)

/-- The register file after a system reset. -/
def keptRegs (vane : Bool) (s : State) : List (Nat × Word) :=
  s.regs.filter (fun e => aonKeys.contains e.1 || (vane && ringKeys.contains e.1))

/-- The memory after a system reset: the flash, and the Vane SRAM where the resets table keeps it. -/
def keptMem (vane : Bool) (s : State) : List Host.Cell :=
  s.mem.filter (fun e => inFlash e.1 || (vane && inVaneSram e.1))

/-- The hub after a system reset (R524): every register and domain at its reset state, the always-on domain, the flash and
(with `vane`) the Vane SRAM kept. The stamp continues from its present value. -/
def afterReset (vane : Bool) (s : State) : State :=
  let s := cutOperation s
  { State.reset with
    regs := keptRegs vane s
    mem := keptMem vane s
    freeCount := s.freeCount
    clk := { s.clk with
      bus := s.now
      source := .bus
      edge := 0
      busOn := true
      handoverDue := false }
    safety := { Safety.reset with
      pending := s.safety.pending
      kick := Vector.replicate 3 s.now
      lowSince := if s.safety.pinLow then s.safety.lowSince else s.now }
    power := { PowerSt.reset with
      wakePin := s.power.wakePin
      pads := s.power.pads }
    nvm := { Nvm.reset with
      factory := s.nvm.factory
      storeAct := s.nvm.storeAct
      commitAct := s.nvm.commitAct }
    enclave := { Enclave.reset with
      slots := s.enclave.slots
      life := s.enclave.life
      minFw := s.enclave.minFw
      minCon := s.enclave.minCon
      win := s.enclave.win
      katFails := s.enclave.katFails }
    pending := s.pending }

/-! ### The factory block (R91, R110, R111, R526) -/

/-- The four trims with their safe defaults, in CA_TRIMSTAT's bit order. -/
def trimRegs : List (Nat × CaReg × Word) :=
  [(0, .TRIMREF, 0x80), (1, .TRIMTS, 0x200), (2, .TRIMVRC, 0x80), (3, .TRIMDB, 0)]

/-- Load one trim. -/
def loadTrim (s : State) (x : Nat × CaReg × Word) : State :=
  let (i, r, dflt) := x
  let f := s.nvm.factory
  let v := f.trims[ix 4 i]
  if factoryCrc (factoryBytes [v]) = f.trimCrc[ix 4 i] then
    s.setReg (.ca r) 0 (v &&& BitVec.ofNat 32 (Reg.ca r).info.rws)
  else
    let s := (s.setReg (.ca r) 0 dflt).orReg (.ca .TRIMSTAT) 0 (2 ^ i + 2 ^ (16 + i))
    fstat (2 ^ 12) (almanac 0x201 3 almNvm i s)

/-- Load one lane's five sets; code 32 everywhere and a run pending where the check word fails (R91). -/
def loadSets (k : Fin 16) (s : State) : State :=
  let f := s.nvm.factory
  let ws := (f.sets.drop (25 * k.val)).take 25
  let ok : Bool := factoryCrc (factoryBytes ws) == f.setCrc[k]
  let src := if ok then ws else nominalSets
  let s := (List.range 25).foldl (fun s i => s.setReg (.ca .SETS) (25 * k.val + i) (src.getD i 0)) s
  if ok then s else calPend k (s.setFld (.ca .SETINIT) 0 k.val k.val 1)

/-- Step 3 of R526. -/
def loadFactory (s : State) : State :=
  (List.finRange 16).foldl (fun s k => loadSets k s) (trimRegs.foldl loadTrim s)

/-! ### Resets (R522) -/

/-- Cause bits of NV_RSTCAUSE (R522). -/
def causePor : Nat := 0
def causeBor : Nat := 1
def causePin : Nat := 2
def causeClk : Nat := 3
def causeSw : Nat := 4
def causeEnclave : Nat := 5
def causeCalm : Nat := 6

/-- Set a cause bit (R525). -/
def setCause (b : Nat) (s : State) : State := s.setReg (.nv .RSTCAUSE) 0 (s.reg (.nv .RSTCAUSE) ||| BitVec.ofNat 32 (2 ^ b))

/-- A system reset, up to the end of step 3 of R526. -/
def systemReset (cause : Nat) (vane : Bool) (s : State) : State := loadFactory (setCause cause (afterReset vane s))

/-- POWER_ON_RESET (R522, R524, R388): the strap code is read, always-on state is cleared and the stamp starts at 0. -/
def powerOnReset (strap : Nat) (s : State) : State :=
  let s := cutOperation s
  let code := strap % 9
  loadFactory { State.reset with
    regs := Sparse.set regDefault (Sparse.set regDefault [] (Reg.key (.tw .ADDR) 0) (at_ code 8 ||| at_ (0x38 + code) 0))
      (Reg.key (.nv .RSTCAUSE) 0) 1
    mem := s.mem.filter (fun e => inFlash e.1)
    freeCount := s.freeCount
    nvm := { Nvm.reset with factory := s.nvm.factory }
    enclave := { Enclave.reset with
      slots := s.enclave.slots
      life := s.enclave.life
      minFw := s.enclave.minFw
      minCon := s.enclave.minCon
      win := s.enclave.win }
    pending := s.pending }

/-- BROWN_OUT_RESET (R522): in Gale, Breeze or Lull; the Vane SRAM is zero-filled. -/
def brownOut (s : State) : State :=
  if s.power.hub = .on ∨ s.power.hub = .lull then systemReset causeBor false s else s

/-- A reset that keeps the Vane SRAM. In Calm only the tail is left of it (R271). -/
def keepReset (cause : Nat) (s : State) : State :=
  systemReset cause true (if s.power.hub = .calm then almanacTail s else s)

/-- PLL_FAIL (R274): the Vane measures BUSCLK outside ±3 % of nominal, in units of 0.1 %. -/
def pllFail (measured : BitVec 16) (s : State) : State :=
  if s.power.hub = .on ∧ s.clk.busOn ∧ (measured.toNat < 970 ∨ 1030 < measured.toNat) then
    updNvm (fun n => { n with pllFault := true }) (keepReset causeClk (almanac 0x804 4 almSafety measured.toNat s))
  else s

/-- A write of NV_SYSRST (R522, R543). -/
def sysrstWrite (v : Word) (s : State) : State := if v = 0x0000C3A5 then keepReset causeSw s else s

/-- The enclave requests a system reset (R522, R549, R557). -/
def enclaveReset (s : State) : State := keepReset causeEnclave s

/-! ### Boot (R526 to R528, R539) -/

/-- Pages with a copy that is neither valid nor erased. -/
def brokenPages (s : State) : List Nat :=
  (List.range 32).filter (fun p => [0, 1].any (fun c => !copyValid s p c && !copyErased s p c))

/-- The marker sector of a bank is neither blank nor holds a valid marker. -/
def brokenMarker (s : State) (b : Fin 2) : Bool := !markerValid s b && !flashErased s (markerBase b) sectorBytes

/-- R539. The entry of a commit whose bank the flash does not show any more names a bank that the spec leaves open: a free
value. -/
def interrupted (s : State) : State :=
  let pages := brokenPages s
  let storeInt : Bool := s.nvm.storeAct || !pages.isEmpty
  let bad := (List.finRange 2).filter (brokenMarker s)
  let commitInt : Bool := s.nvm.commitAct || !bad.isEmpty
  let s := updNvm (fun n => { n with
    storeAct := false
    commitAct := false }) s
  let s := if storeInt then almanac 0x904 1 almNvm (bitsOf 32 (fun p => pages.contains p)).toNat (setCause 8 s) else s
  if commitInt then
    let s := setCause 9 s
    match bad with
    | [] =>
      let (b, s) := s.free 1
      almanac 0x905 1 almNvm b.toNat s
    | bs => bs.foldl (fun s b => almanac 0x905 1 almNvm b.val s) s
  else s

/-- Verify the banks in order until one passes (R526 step 4, R527): the banks rejected, with their results, and the bank
that passed. -/
def tryBanks (s : State) : List (Fin 2) → List (Fin 2 × Nat) × Option (Fin 2)
  | [] => ([], none)
  | b :: bs =>
    let r := verifyFirmware s b
    if r = 0 then ([], some b)
    else
      let (bad, ok) := tryBanks s bs
      ((b, r) :: bad, ok)

/-- Boot may take a bank: not in DECOMMISSIONED (R549), and not after a known-answer test has failed twice in a row
(R557). -/
def mayBoot (s : State) : Bool := s.enclave.life != 3 && decide (s.enclave.katFails < 2)

/-- NV_BOOTSTAT. -/
def bootStat (bad : List (Fin 2 × Nat)) (ok : Option (Fin 2)) : Word :=
  let rej (b : Fin 2) : Nat := ((bad.find? (fun x => x.1 == b)).map (fun x => x.2)).getD 0
  at_ (match ok with
    | some _ => if bad.isEmpty then 0 else 1
    | none => 2) 28 ||| at_ ((ok.getD 0).val) 27 ||| at_ (rej 1) 20 ||| at_ (rej 0) 16

/-- Entry 0x901 (R526, R616; log entry 43). -/
def bootEntry (bad : List (Fin 2 × Nat)) (ok : Option (Fin 2)) (s : State) : State :=
  let cause := s.rfld (.nv .RSTCAUSE) 0 9 0
  let data := match ok with
    | some b => cause + b.val * 2 ^ 12 + (if bad.isEmpty then 0 else 2 ^ 13) + markerSeq s b * 2 ^ 16
    | none => cause + 2 ^ 14
  almanac 0x901 0 almNvm data s

/-- The window that boot grants (R367, R528, R554). -/
def bootWindow (ok : Option (Fin 2)) (s : State) : State :=
  match ok with
  | some _ => (List.finRange 8).foldl (fun s i => s.setReg (.hp .WIN) i.val s.enclave.win[i]) s
  | none => s.setReg (.hp .CFG) 0 0x80000000 |>.setReg (.hp .WIN) 0 0xCD000DFF

/-- Step 5 of R526: the consist slot of the booted bank. -/
def bootConsist (ok : Option (Fin 2)) (s : State) : State :=
  match ok with
  | some b => bootSlot b.val s
  | none => s

/-- Step 6 of R526: A0 and the Vane leave reset; after Calm the Vane runs already. -/
def bootCores (ok : Option (Fin 2)) (s : State) : State :=
  let entry : Word := match ok with
    | some b => BitVec.ofNat 32 (bankBase b + u32 (bankByte s b) 0x14)
    | none => 0
  let s := updCore 0 (fun c => { c with
    inReset := false
    icache := true
    entry := entry }) s
  if s.nvm.fromCalm then s else updCore vaneCore (fun c => { c with inReset := false }) s

/-- BOOT_COMPLETE (R526 steps 4 to 6). -/
def bootComplete (s : State) : State :=
  if !s.nvm.booting || s.power.hub != .on || !s.clk.busOn then s
  else
    let s := interrupted s
    let (bad, ok) := if mayBoot s then tryBanks s (bootOrder s) else ([], none)
    let s := bad.foldl (fun s x => almanac 0x902 3 almNvm (x.1.val + x.2 * 2 ^ 4) s) s
    let s := if ok.isNone then almanac 0x903 3 almNvm 0 s else s
    let s := s.setReg (.nv .BOOTSTAT) 0 (bootStat bad ok)
    let s := loadSettings (bootWindow ok s)
    let s := updNvm (fun n => { n with booted := ok }) s
    let s := bootEntry bad ok (bootConsist ok s)
    let s := if s.nvm.pllFault then fstat (2 ^ 5) s else s
    let s := bootCores ok s
    let s := { s with enclave := { s.enclave with
      checked := true
      katFails := 0 } }
    updNvm (fun n => { n with
      booting := false
      fromCalm := false
      pllFault := false }) s

/-- The boot ROM's recovery service runs (R528). -/
def recovery (s : State) : Bool := !s.nvm.booting && s.nvm.booted.isNone

end Sys2Proof.Machine
end

