-- ==== Sys2Proof/Machine/Enclave.lean ====
section
/-! DEFINITION. The security enclave: mailbox commands, key records, windows, lifecycle, the debug port, entropy and
faults (chapter 18). -/
namespace Sys2Proof.Machine

/-- Change the enclave. -/
def updEnc (f : Enclave → Enclave) (s : State) : State := { s with enclave := f s.enclave }

/-! ### Results (R561) -/

def seOk : Nat := 0
def seBadCmd : Nat := 1
def seBadArg : Nat := 2
def seBadKey : Nat := 3
def seBadSig : Nat := 4
def seDenied : Nat := 5
def seState : Nat := 6
def seEntropy : Nat := 7
def seStoreFail : Nat := 8

/-- The sixteen bytes of an AES-CMAC, first byte first. -/
def cmacBytes (key msg : List Byte) : List Byte := leBytes (Config.cmac key msg).toNat 16

/-! ### Certification (R558) -/

/-- A window range that grants W outside a session. -/
def openWrite (w : Word) : Bool := bit w 30 && !(bit w 29)

/-- SE_LIFE.CERT. -/
def certified (s : State) : Bool :=
  s.nvm.factory.qs && s.enclave.checked && s.enclave.life == 2 && !s.enclave.dbgOpen && !(s.enclave.win.any openWrite)

/-- CERT was 1 in `before` and is 0 now: entry 0xA08. -/
def certLost (before : State) (data : Nat) (s : State) : State :=
  if certified before && !certified s then almanac 0xA08 1 almEnclave data s else s

/-! ### Key records (R551, R552) -/

/-- Usages that fit a type: CERT stands in slot 0 only, which holds nothing else. -/
def usageFits (slot typ usage : Nat) : Bool :=
  if slot = 0 then typ == 1 && usage == 8
  else if typ = 1 then usage % 8 == usage
  else usage &&& 0x1F0 == usage

/-- The UID of this hub, as a record carries it. -/
def uidBytes (s : State) : List Byte := leBytes s.nvm.factory.uid.toNat 8

/-- The root key. -/
def rootKey (s : State) : KeySlot := s.enclave.slots[0]

/-- The fields of a key record at an address. -/
structure KeyRecord where
  uid : List Byte
  slot : Nat
  typ : Nat
  usage : Nat
  key : List Byte
  sig : List Byte
  signed : List Byte

def keyRecord (s : State) (a : Nat) : KeyRecord :=
  let b := s.readBytes a 140
  { uid := b.take 8, slot := (b.getD 8 0).toNat, typ := (b.getD 9 0).toNat,
    usage := leNat [b.getD 10 0, b.getD 11 0], key := (b.drop 12).take 64, sig := b.drop 76, signed := b.take 76 }

def allZero (bs : List Byte) : Bool := bs.all (fun b => b == 0)

/-- The fields of a record keep their rules; `install` tells KEY_INSTALL from KEY_REVOKE. -/
def recordOk (r : KeyRecord) (install plain : Bool) : Bool :=
  decide (r.slot < 32) && (r.slot != 0 || plain) &&
  (if install then
    (r.typ == 1 || (r.typ == 2 && allZero (r.key.drop 16))) && usageFits r.slot r.typ r.usage
   else r.typ == 0 && allZero r.key)

/-- The signature of a record: none in PROVISION, by the root key in SECURED. -/
def recordSigned (s : State) (r : KeyRecord) (plain : Bool) : Bool :=
  if plain then allZero r.sig else Config.ecdsaOk (rootKey s).key (digest r.signed) r.sig

/-- KEY_INSTALL and KEY_REVOKE (R552): the result, and the state with the new slot. -/
def keyCommand (install : Bool) (j : EncJob) (storeOk : Bool) (s : State) : Nat × State :=
  let plain := s.enclave.life == 1
  let r := keyRecord s j.buf
  if s.enclave.life ≠ 1 ∧ s.enclave.life ≠ 2 then (seState, s)
  else if plain && !(secure j.by_ s) then (seDenied, s)
  else if !(recordOk r install plain) then (seBadArg, s)
  else if !plain && (rootKey s).typ != 1 then (seBadKey, s)
  else if r.uid ≠ uidBytes s ∨ recordSigned s r plain = false then (seBadSig, s)
  else if !storeOk then (seStoreFail, s)
  else
    let key := if r.typ = 1 then r.key
      else if plain then r.key.take 16
      else leBytes (Config.aesDecrypt s.nvm.factory.kdu (r.key.take 16)).toNat 16
    let slot : KeySlot := if install then { typ := r.typ, usage := r.usage, origin := b2n (!plain), key := key }
      else KeySlot.reset
    let s := updEnc (fun e => { e with slots := upd e.slots (ix 32 r.slot) (fun _ => slot) }) s
    (seOk, if install then almanac 0xA02 0 almEnclave (r.slot + r.usage * 2 ^ 16) s
           else almanac 0xA03 0 almEnclave r.slot s)

/-! ### Mailbox commands (R561) -/

/-- Bytes that a command reads at SE_BUFA, and writes at SE_DEST. -/
def inputBytes (j : EncJob) : Nat :=
  match j.cmd with
  | 0x01 => j.len
  | 0x02 => 96
  | 0x03 => j.len
  | 0x04 => 16 + j.len
  | 0x10 => 140
  | 0x11 => 140
  | 0x21 => 32
  | 0x31 => 72
  | _ => 0

def outputBytes (j : EncJob) : Nat :=
  match j.cmd with
  | 0x01 => 32
  | 0x03 => 16
  | 0x04 => j.len
  | 0x05 => j.len
  | 0x12 => 16
  | _ => 0

/-- The command takes a buffer, or gives an output. -/
def usesBuffer (j : EncJob) : Bool := [0x01, 0x02, 0x03, 0x04, 0x10, 0x11, 0x21, 0x31].contains j.cmd
def usesDest (j : EncJob) : Bool := [0x01, 0x03, 0x04, 0x05, 0x12].contains j.cmd

/-- Buffers in system SRAM, the destination outside banks 6, 7, 10 and 11. -/
def buffersOk (j : EncJob) : Bool :=
  (!(usesBuffer j) || decide (sramBase ≤ j.buf ∧ j.buf < sramEnd ∧ j.buf + inputBytes j ≤ sramEnd)) &&
  (!(usesDest j) || (decide (sramBase ≤ j.dest ∧ j.dest < sramEnd ∧ j.dest + outputBytes j ≤ sramEnd) &&
    [6, 7, 10, 11].all (fun b => let lo := sramBase + bankBytes * b
      decide (j.dest + max 1 (outputBytes j) ≤ lo) || decide (lo + bankBytes ≤ j.dest))))

/-- A command of the mailbox table. -/
def knownCmd (c : Nat) : Bool := [0x01, 0x02, 0x03, 0x04, 0x05, 0x10, 0x11, 0x12, 0x20, 0x21, 0x30, 0x31].contains c

/-- Commands for a secure accessor only. -/
def secureCmd (c : Nat) : Bool := c == 0x20 || c == 0x21 || c == 0x30

/-- Input of the job. -/
def jobInput (s : State) (j : EncJob) : List Byte := s.readBytes j.buf (inputBytes j)

/-- The slot of the job. -/
def jobSlot (s : State) (j : EncJob) : KeySlot := s.enclave.slots[ix 32 j.slot]

/-- A slot holds a key of the type with one of the usages. -/
def hasUsage (k : KeySlot) (typ mask : Nat) : Bool := k.typ == typ && k.usage &&& mask != 0

/-- VERIFY. -/
def encVerify (j : EncJob) (s : State) : Nat × State :=
  let k := jobSlot s j
  let b := jobInput s j
  if !(hasUsage k 1 3) then (seBadKey, s)
  else if Config.ecdsaOk k.key (b.take 32) (b.drop 32) then (seOk, s)
  else (seBadSig, s)

/-- CMAC. -/
def encCmac (j : EncJob) (s : State) : Nat × State :=
  let k := jobSlot s j
  if !(hasUsage k 2 16) then (seBadKey, s) else (seOk, storeSram j.dest (cmacBytes k.key (jobInput s j)) s)

/-- CTR. -/
def encCtr (j : EncJob) (s : State) : Nat × State :=
  let k := jobSlot s j
  let b := jobInput s j
  if !(hasUsage k 2 32) then (seBadKey, s)
  else
    let ks := Config.ctrStream k.key (b.take 16) j.len
    (seOk, storeSram j.dest ((List.range j.len).map (fun i => (b.drop 16).getD i 0 ^^^ ks.getD i 0)) s)

/-- RANDOM: bytes of the entropy source, a free value. -/
def encRandom (j : EncJob) (s : State) : Nat × State :=
  if j.len = 0 ∨ 1024 < j.len then (seBadArg, s)
  else if s.enclave.entFail then (seEntropy, s)
  else
    let (bs, s) := freeBytes j.len s
    (seOk, storeSram j.dest bs s)

/-- KEY_INFO: byte 0 TYPE, byte 1 ORIGIN, bytes 2 and 3 USAGE, bytes 8 to 15 the start of the digest of a public key. -/
def encInfo (j : EncJob) (s : State) : Nat × State :=
  let k := jobSlot s j
  if k.typ = 0 then (seBadKey, s)
  else
    let d := if k.typ = 1 then (digest k.key).take 8 else []
    let out := leBytes k.typ 1 ++ leBytes k.origin 1 ++ leBytes k.usage 2 ++ leBytes 0 4 ++ d ++ List.replicate (8 - d.length) 0
    (seOk, storeSram j.dest out s)

/-- SETMIN (R553). -/
def encSetMin (j : EncJob) (storeOk : Bool) (s : State) : Nat × State :=
  let consist : Bool := j.len % 2 == 1
  let now := if consist then s.enclave.minCon else s.enclave.minFw
  let top : Nat := if consist then (s.reg (.cw .ACTSER)).toNat
    else match s.nvm.booted with
      | some b => u32 (bankByte s b) 0x0C
      | none => 0
  if top < j.arg.toNat then (seBadArg, s)
  else if j.arg.toNat ≤ now.toNat then (seOk, s)
  else if !storeOk then (seStoreFail, s)
  else (seOk, updEnc (fun e => if consist then { e with minCon := j.arg } else { e with minFw := j.arg }) s)

/-- A range covers part of the SE_ block, units 0xE00 to 0xEFF (R555). -/
def coversEnclave (w : Word) : Bool :=
  let lo := fld w 28 16
  let hi := fld w 12 0
  decide (lo ≤ hi ∧ lo ≤ 0xEFF ∧ 0xE00 ≤ hi)

/-- WINSET (R554, R555, R558). -/
def encWinSet (j : EncJob) (storeOk : Bool) (s : State) : Nat × State :=
  let ws : Vector Word 8 := Vector.ofFn (fun i => s.readWord (j.buf + 4 * i.val) &&& 0xFFFF1FFF)
  if ws.any coversEnclave then (seBadArg, s)
  else if !storeOk then (seStoreFail, s)
  else
    let t := updEnc (fun e => { e with win := ws }) s
    let t := (List.finRange 8).foldl (fun t i => t.setReg (.hp .WIN) i.val ws[i]) t
    (seOk, certLost s 1 t)

/-- A lifecycle change: fuses, entry 0xA01, reset (R549). -/
def lifecycle (state : Nat) (s : State) : State :=
  let s := updEnc (fun e => { e with
    life := state
    slots := if state = 3 then Vector.ofFn (fun i => if i.val = 0 then e.slots[i] else KeySlot.reset) else e.slots }) s
  enclaveReset (almanac 0xA01 0 almEnclave state s)

/-- DECOMMISSION. -/
def encDecommission (j : EncJob) (s : State) : Nat × State :=
  let b := jobInput s j
  if s.enclave.life ≠ 2 then (seState, s)
  else if (rootKey s).typ ≠ 1 then (seBadKey, s)
  else if b.take 8 ≠ uidBytes s ∨ Config.ecdsaOk (rootKey s).key (digest (b.take 8)) (b.drop 8) = false then
    (seBadSig, s)
  else (seOk, s)

/-- The result of a job and its effect; a lifecycle change itself follows in `mailboxDone`. Log entry 47: the order of the
tests. -/
def encRun (j : EncJob) (storeOk : Bool) (s : State) : Nat × State :=
  if !(knownCmd j.cmd) then (seBadCmd, s)
  else if secureCmd j.cmd && !(secure j.by_ s) then (seDenied, s)
  else if j.cmd = 0x30 ∧ s.enclave.life ≠ 1 then (seState, s)
  else if !(buffersOk j) then (seBadArg, s)
  else match j.cmd with
    | 0x01 => (seOk, storeSram j.dest (digest (jobInput s j)) s)
    | 0x02 => encVerify j s
    | 0x03 => encCmac j s
    | 0x04 => encCtr j s
    | 0x05 => encRandom j s
    | 0x10 => keyCommand true j storeOk s
    | 0x11 => keyCommand false j storeOk s
    | 0x12 => encInfo j s
    | 0x20 => encSetMin j storeOk s
    | 0x21 => encWinSet j storeOk s
    | 0x31 => encDecommission j s
    | _ => (seOk, s)

/-- A processor's number in SE_STAT.OWNER. -/
def ownerCode (a : Accessor) : Option Nat :=
  match a with
  | .a0 => some 0
  | .a1 => some 1
  | .vane => some 2
  | _ => none

/-- A write of SE_CMD (R561). -/
def seCommand (a : Accessor) (v : Word) (s : State) : State :=
  match ownerCode a with
  | none => s
  | some o =>
    if s.enclave.job.isSome then s.orReg (.se .STAT) 0 (2 ^ 4)
    else
      let job : EncJob :=
        { cmd := fld v 31 24, slot := fld v 20 16, len := fld v 15 0, buf := (s.reg (.se .BUFA)).toNat,
          dest := (s.reg (.se .DEST)).toNat, arg := s.reg (.se .ARG), by_ := a, start := s.now }
      updEnc (fun e => { e with
        job := some job
        owner := o }) s

/-- SE_STAT.WAIT (R545): a HASH or VERIFY behind a boot, loader or commit job of the engine. -/
def encWaits (s : State) : Bool :=
  match s.enclave.job with
  | some j => (j.cmd == 1 || j.cmd == 2) &&
      (s.coach.loader.phase == .checking || (match s.nvm.op with
        | some o => o.op == 4
        | none => false))
  | none => false

/-- Ticks that a job takes at least (R545, R561); the times that the table gives as upper bounds count as 0. -/
def jobTicks (j : EncJob) : Nat :=
  match j.cmd with
  | 0x01 => j.len * 14976 / 10000
  | 0x02 => us 3500
  | 0x03 => 48 + 24 * ((j.len + 15) / 16)
  | 0x04 => 48 + 24 * ((j.len + 15) / 16)
  | 0x05 => us 8 * ((j.len + 31) / 32)
  | 0x12 => us 1
  | _ => 0

/-- MAILBOX_DONE: the running command completes. `storeOk` is the key store's read-back. -/
def mailboxDone (storeOk : Bool) (s : State) : State :=
  match s.enclave.job with
  | none => s
  | some j =>
    if encWaits s || decide (ticks j.start s.now < jobTicks j) then s
    else
      let (r, s) := encRun j storeOk s
      let s := updEnc (fun e => { e with
        job := none
        result := r }) s
      let s := s.orReg (.se .STAT) 0 (if r = 0 then 2 else 4)
      if r = 0 ∧ j.cmd = 0x30 then lifecycle 2 s
      else if r = 0 ∧ j.cmd = 0x31 then lifecycle 3 s
      else s

/-! ### The debug port (R550) -/

/-- The debug access port is open (R548, R550). -/
def debugOpen (s : State) : Bool := s.enclave.life != 2 || s.enclave.dbgOpen

/-- SECDBG_CHALLENGE: sixteen bytes of the entropy source, a free value. -/
def debugChallenge (s : State) : State :=
  if debugOpen s || s.enclave.entFail || decide (3 ≤ s.enclave.dbgFails) then s
  else
    let (c, s) := freeBytes 16 s
    updEnc (fun e => { e with challenge := some c }) s

/-- SECDBG_RESPONSE: a slot number and sixteen bytes, the first byte lowest. -/
def debugResponse (slot : Fin 32) (mac : BitVec 128) (s : State) : State :=
  match s.enclave.challenge with
  | none => s
  | some c =>
    let k := s.enclave.slots[slot]
    if hasUsage k 2 256 && Config.cmac k.key (c ++ uidBytes s) == mac then
      let t := updEnc (fun e => { e with
        challenge := none
        dbgOpen := true }) s
      certLost s 0 (almanac 0xA05 1 almEnclave slot.val t)
    else
      updEnc (fun e => { e with
        challenge := none
        dbgFails := e.dbgFails + 1 }) s

/-! ### Entropy and faults (R556, R557) -/

/-- ENTROPY_FAIL. -/
def entropyFail (repetition : Bool) (s : State) : State :=
  if s.enclave.entFail then s
  else
    let s := updEnc (fun e => { e with entFail := true }) s
    fstat (2 ^ 14) (almanac 0xA04 3 almEnclave (b2n repetition) s)

/-- Almanac code and number of a trip (R617). -/
def tripCode (t : EncTrip) : Nat × Nat :=
  match t with
  | .aes => (0xA06, 1)
  | .sha => (0xA06, 2)
  | .ecdsa => (0xA06, 3)
  | .keyStore => (0xA06, 4)
  | .supply => (0xA07, 1)
  | .clock => (0xA07, 2)
  | .temperature => (0xA07, 3)

/-- A known-answer test, which runs at boot before the firmware is verified. -/
def isKat (t : EncTrip) : Bool := t == .aes || t == .sha || t == .ecdsa

/-- ENCLAVE_SENSOR_TRIP (R557). -/
def enclaveTrip (t : EncTrip) (s : State) : State :=
  if isKat t && !s.nvm.booting then s
  else
    let (code, n) := tripCode t
    let s := if isKat t then updEnc (fun e => { e with katFails := e.katFails + 1 }) s else s
    let s := { s with host := { s.host with session := none } }
    enclaveReset (almanac code 4 almEnclave n (fstat (2 ^ 14) s))

/-! ### SE_ registers -/

/-- SE_STAT. -/
def seStat (s : State) : Word :=
  at_ (b2n s.enclave.job.isSome) 31 ||| at_ (b2n (encWaits s)) 30 ||| at_ s.enclave.owner 28 ||| at_ s.enclave.result 16 |||
  at_ (b2n s.enclave.entFail) 3 ||| s.reg (.se .STAT)

/-- SE_LIFE. -/
def seLife (s : State) : Word :=
  at_ s.enclave.life 30 ||| at_ (b2n s.nvm.factory.qs) 29 ||| at_ (b2n (certified s)) 28 ||| at_ (b2n s.enclave.dbgOpen) 27

/-- A read of an SE_ register. -/
def seRead (r : SeReg) (s : State) : Word :=
  match r with
  | .CMD => 0
  | .BUFA => s.reg (.se .BUFA)
  | .DEST => s.reg (.se .DEST)
  | .ARG => s.reg (.se .ARG)
  | .STAT => seStat s
  | .LIFE => seLife s
  | .SECCTL => s.reg (.se .SECCTL) ||| 2 ||| at_ (b2n (!(s.rbit (.se .SECCTL) 0 31))) 0
  | .MINFW => s.enclave.minFw
  | .MINCON => s.enclave.minCon
  | .SLOTS => bitsOf 32 (fun i => (s.enclave.slots[ix 32 i]).typ != 0)

/-- SECLOCK_SET (R546): only A0 sets SECLOCK. -/
def secctlWrite (a : Accessor) (v : Word) (s : State) : State :=
  if a = .a0 ∧ bit v 31 then s.orReg (.se .SECCTL) 0 (2 ^ 31) else s

/-- A write of an SE_ register. -/
def seWrite (a : Accessor) (r : SeReg) (v : Word) (s : State) : State :=
  match r with
  | .CMD => seCommand a v s
  | .BUFA => s.plainWrite false (.se .BUFA) 0 v
  | .DEST => s.plainWrite false (.se .DEST) 0 v
  | .ARG => s.plainWrite false (.se .ARG) 0 v
  | .STAT => s.plainWrite false (.se .STAT) 0 v
  | .SECCTL => secctlWrite a v s
  | .LIFE => s
  | .MINFW => s
  | .MINCON => s
  | .SLOTS => s

end Sys2Proof.Machine
end

