-- ==== Sys2Proof/Machine/Power.lean ====
section
/-! DEFINITION. Power control: requests and the handshake with every block's answer, entry to and exit from Lull and Calm,
the retention guard, on-demand domains, pads, and the PW_ registers (chapter 16). -/
namespace Sys2Proof.Machine

/-! ### The answers of the blocks (R499, R500) -/

/-- What a block answers. -/
inductive PwAnswer where
  | ack | delay | refuse
  deriving DecidableEq, Repr

/-- A load or a shunt is in progress (R158, R193); a VERIFY changes nothing and is neither. -/
def loading (s : State) : Bool :=
  s.coach.trains.any (fun t => t.state == .loading) ||
  (s.coach.loader.phase != .idle && !(s.coach.loader.phase == .checking && s.coach.loader.cmd == 1))

/-- The reload after a Lull still waits for the banks of the consist cache (R514, R158). -/
def reloadWaits (s : State) : Bool := s.power.blocked[10] || s.power.blocked[11]

/-- Every train is quiet in the sense of R142. -/
def trainsQuiet (s : State) : Bool :=
  (List.finRange 16).all (fun n =>
    let t := s.coach.trains[n]
    !t.starting && (!(trainLive t || t.state == .draining) || trainQuiet s n))

/-- Lanes (R73). -/
def ansLanes (s : State) : PwAnswer := if s.lanes.all (fun l => l.parked) then .ack else .delay

/-- Calibration engine (R100). -/
def ansCal (s : State) : PwAnswer := if s.cal.phase = .running then .delay else .ack

/-- Coachwork and consist loader (R158, R193). -/
def ansCoach (s : State) : PwAnswer :=
  if loading s then .refuse
  else if substBusy s || reloadWaits s || !(s.lanes.all (fun l => l.parked)) || !trainsQuiet s then .delay
  else .ack

/-- Drive slots (R211). -/
def ansSlots (s : State) : PwAnswer :=
  if (List.finRange 32).any (fun d => slotOn s d && (!idleMotion s.slots[d].mstate || decide (2 ≤ s.slots[d].owner))) then
    .refuse
  else if s.power.target = 3 ∧ s.slots.any (fun x => x.dirty) = true then .refuse
  else .ack

/-- A drawbar bus (R348). -/
def ansBus (s : State) (b : Fin 2) : PwAnswer :=
  let d := s.drawbar[b]
  if d.acts.any (fun x => !x.queue.isEmpty) || !d.assigns.isEmpty || d.walk then .refuse
  else if d.exch.isSome then .delay
  else .ack

/-- Sensor port (R425). -/
def ansSensor (s : State) : PwAnswer :=
  match spLull s with
  | 0 => .ack
  | 1 => .delay
  | _ => .refuse

/-- NVM (R542). -/
def ansNvm (s : State) : PwAnswer :=
  if s.nvm.op.isSome then .refuse
  else if s.power.target = 3 ∧ nvDirty s ≠ 0 then .refuse
  else if s.power.target = 2 ∧ nvDirty s &&& 0x7FFFFFFF ≠ 0 ∧ s.rbit (.pw .RETCFG) 0 9 = false then .refuse
  else .ack

/-- Enclave (R560). -/
def ansEnclave (s : State) : PwAnswer :=
  match s.enclave.job with
  | none => .ack
  | some j => if [0x10, 0x11, 0x20, 0x21, 0x30, 0x31].contains j.cmd then .refuse else .delay

/-- An application core (R500). -/
def ansCore (s : State) (x : Fin 3) : PwAnswer :=
  let c := s.ic.cores[x]
  if s.rbit (.pw .HOLD) 0 x.val then .refuse
  else if c.inReset || (c.stopped && c.wakeAt.isNone) then .ack
  else .delay

/-- The present answer of a block other than the merger. -/
def blockAnswer (s : State) (code : Nat) : PwAnswer :=
  match code with
  | 1 => ansLanes s
  | 2 => ansCal s
  | 3 => ansCoach s
  | 4 => ansSlots s
  | 6 => ansBus s 0
  | 7 => ansBus s 1
  | 8 => if s.host.selected then .delay else .ack
  | 9 => if s.tw.busy || s.tw.notify then .delay else .ack
  | 10 => ansSensor s
  | 11 => if inFlight s then .delay else .ack
  | 14 => ansNvm s
  | 15 => ansEnclave s
  | 16 => ansCore s 0
  | 17 => ansCore s 1
  | 18 => if s.rbit (.vn .CTRL) 0 29 then .refuse else .ack
  | _ => .ack

/-- Every block clocked by BUSCLK but the merger has answered ACK (R256). -/
def othersAcked (s : State) : Bool :=
  (List.range 16).all (fun c => c == 0 || c == 5 || (s.power.acked)[c]!)

/-- The merger's answer once it has written every held record (R256, R257). -/
def ansMerger (s : State) : PwAnswer :=
  if s.power.blocked[6] || s.power.blocked[7] then .delay
  else if !othersAcked s then .delay
  else if s.power.target = 3 ∧ anyUnread s = true ∧ s.rbit (.rk .CTRL) 0 31 = false then .refuse
  else .ack

/-- The codes of the answering blocks. -/
def blockCodes : List Nat := [1, 2, 3, 4, 5, 6, 7, 8, 9, 10, 11, 12, 13, 14, 15, 16, 17, 18]

/-- The answer of a block; an ACK of a block that parks is held (R499), while a core may go back to DELAY. -/
def answerOf (s : State) (c : Nat) : PwAnswer :=
  if c ≤ 15 ∧ (s.power.acked)[c]! = true then .ack
  else if c = 5 then ansMerger s
  else blockAnswer s c

/-- A block answers ACK and is parked; cores and the Vane are never parked (R500). -/
def takeAnswer (s : State) (c : Nat) : State :=
  let ok : Bool := answerOf s c == .ack
  updPower (fun p => { p with
    acked := p.acked.set! c ok
    parked := if ok && decide (c ≤ 15) then p.parked.set! c true else p.parked }) s

/-- One sampling of every block's answer, from E0 + 1 (R499). Lanes that have ended their sample word park first; the merger
comes last and writes its held records. -/
def sampleBlocks (s : State) : State :=
  if s.power.phase != .handshake || s.now == s.power.e0 then s
  else
    let s := (List.finRange 16).foldl (fun s k =>
      if !(s.lanes[k]).parked && wordLeft s k == 0 then parkLane k s else s) s
    let s := [1, 2, 4, 6, 7, 8, 9, 10, 11, 12, 13, 14, 15, 16, 17, 18, 3].foldl takeAnswer s
    let s := if othersAcked s && !(s.power.acked)[5] && !(s.power.blocked[6] || s.power.blocked[7]) then flushRecords s else s
    takeAnswer s 5

/-- The lowest code that refuses. -/
def refusing (s : State) : Option Nat := blockCodes.find? (fun c => answerOf s c == .refuse)

/-- The lowest code not at ACK. -/
def lacking (s : State) : Option Nat := blockCodes.find? (fun c => !(s.power.acked)[c]!)

/-! ### The end of a handshake (R497, R501) -/

/-- Parked blocks resume as on return from Lull; their domains stayed on, so they keep their contents (R501). -/
def resumeBlocks (s : State) : State :=
  let parked := s.power.parked
  let s := updPower (fun p => { p with
    parked := Vector.replicate 19 false
    acked := Vector.replicate 19 false }) s
  let s := (List.finRange 16).foldl (fun s k => restartLane k s) s
  let s := if parked[1] then testsDue s else s
  (List.finRange 2).foldl (fun s b =>
    if (parked)[6 + b.val]! then updBus b (fun d => { d with
      ttNext := 0
      enumTail := false }) s
    else s) s

/-- An entry aborts (R501). Results: 2 refused, 3 timeout. -/
def abortEntry (result block : Nat) (s : State) : State :=
  let s := (s.setFld (.pw .STAT) 0 22 20 result).setFld (.pw .STAT) 0 19 15 block
  let s := updPower (fun p => { p with
    phase := .idle
    floorBreeze := p.floorBefore }) s
  resumeBlocks (s.orReg (.pw .STAT) 0 4)

/-- The entry commits at EC (R501, R502, R506). -/
def commitEntry (s : State) : State :=
  let s := if s.power.target = 3 then almanacCompact s else s
  updPower (fun p => { p with
    phase := .committed
    ec := s.now
    wakeDue := levelsDue s }) s

/-- HANDSHAKE_REFUSE. -/
def handshakeRefuse (s : State) : State :=
  let t := sampleBlocks s
  if s.power.phase = .handshake ∧ s.now ≠ s.power.e0 then
    match refusing t with
    | some c => abortEntry 2 c t
    | none => s
  else s

/-- HANDSHAKE_COMMIT. -/
def handshakeCommit (s : State) : State :=
  let t := sampleBlocks s
  if s.power.phase = .handshake ∧ s.now ≠ s.power.e0 ∧ (refusing t).isNone = true ∧ (lacking t).isNone = true then
    commitEntry t
  else s

/-- HANDSHAKE_TIMEOUT. -/
def handshakeTimeout (s : State) : State :=
  let t := sampleBlocks s
  if s.power.phase = .handshake ∧ ms (s.rfld (.pw .CTRL) 0 7 0) ≤ ticks s.power.e0 s.now then
    match lacking t with
    | some c => abortEntry 3 c t
    | none => s
  else s

/-! ### Requests (R493, R496 to R498) -/

/-- A floor is set; Gale starts the stopped cores that accept (R493). -/
def setFloor (breeze : Bool) (s : State) : State :=
  let s := updPower (fun p => { p with floorBreeze := breeze }) s
  if breeze then s else startCores s

/-- A handshake starts at E0 (R499). A replaced handshake's floor stays the one in force before the first E0. -/
def startHandshake (target : Nat) (replaces : Bool) (s : State) : State :=
  updPower (fun p => { p with
    phase := .handshake
    target := target
    e0 := s.now
    acked := Vector.replicate 19 false
    floorBefore := if replaces then p.floorBefore else p.floorBreeze
    floorBreeze := true }) s

/-- A request that finds nothing in progress. -/
def freshRequest (t : Nat) (replaces : Bool) (s : State) : State :=
  if t ≤ 1 then
    let s := updPower (fun p => { p with target := t }) s
    setFloor (t == 1) (if replaces then resumeBlocks s else s)
  else startHandshake t replaces s

def collapse (s : State) : State := s.orReg (.pw .STAT) 0 8

/-- A request reaches power control (R497, R498). Targets: 0 Gale, 1 Breeze, 2 Lull, 3 Calm. -/
def powerRequest (t : Nat) (s : State) : State :=
  match s.power.hub with
  | .on =>
    match s.power.phase with
    | .idle => freshRequest t false s
    | .handshake =>
      if t = s.power.target then collapse s
      else freshRequest t true (updPower (fun p => { p with phase := .idle }) (s.setFld (.pw .STAT) 0 22 20 4))
    | .committed => if t = s.power.target then collapse s else updPower (fun p => { p with queued := some t }) s
  | .lull =>
    if t = 2 ∧ s.power.exit = .none then collapse s
    else updPower (fun p => { p with
      after := some t
      exit := if p.exit = .none then .pll else p.exit }) s
  | .calm => s
  | .off => s

/-- A write of PW_REQ: by A0, A1 or the Vane (R521). -/
def pwReqWrite (a : Accessor) (v : Word) (s : State) : State :=
  if (ownerCode a).isSome then powerRequest (fld v 1 0) s else s

/-- Set PW_WAKE bits. -/
def noteWake (bits : Nat) (s : State) : State := s.orReg (.pw .WAKE) 0 bits

/-- A write of VN_CTRL (R505, R498, R521): WAKE and CALM by the Vane only; WAKE acts in Lull only. -/
def vnCtrlWrite (a : Accessor) (v : Word) (s : State) : State :=
  let s := vnPlain a .CTRL 0 v s
  if a ≠ .vane then s
  else
    let s := if bit v 31 && s.power.hub == .lull && s.power.exit == .none then
        updPower (fun p => { p with exit := .pll }) (noteWake (2 ^ 13) s)
      else s
    if bit v 30 then powerRequest 3 s else s

/-- A write of a VN_ register. -/
def vnWrite (a : Accessor) (r : VnReg) (i : Nat) (v : Word) (s : State) : State :=
  match r with
  | .CTRL => vnCtrlWrite a v s
  | r => vnPlain a r i v s

/-! ### Pads (R511) -/

/-- HP_NSRC (R378): SW is stored, the other bits follow their sources. -/
def hpSources (s : State) : Word :=
  (s.reg (.hp .NSRC) &&& 0x40) ||| at_ (b2n (!(s.rbit (.hp .VER) 0 8))) 5 ||| at_ (b2n (s.reg (.ds .EVENTS) != 0)) 4 |||
  at_ (b2n (s.rbit (.hp .STAT) 0 0)) 3 ||| at_ (b2n s.safety.pinLow) 2 |||
  at_ (b2n (s.rbit (.rk .CnSTAT) 1 31 && s.rbit (.hp .CFG) 0 29)) 1 ||| at_ (b2n (s.rbit (.rk .CnSTAT) 0 31)) 0

/-- The level that R378 gives to HIRQ_N. -/
def hirqDriven (s : State) : Bool :=
  s.rbit (.hp .CFG) 0 31 && (hpSources s &&& s.reg (.hp .NMASK) &&& 0x7F) != 0

/-- HIRQ_N is low, latched or driven. -/
def hirqLow (s : State) : Bool := if s.power.pads.groups % 2 = 1 then s.power.pads.hirqLow else hirqDriven s

/-- Latch every group at EB. A group still latched keeps its levels. -/
def latchPads (s : State) : State :=
  let g := s.power.pads.groups
  updPower (fun p => { p with pads := {
    groups := 7
    hirqLow := if g % 2 = 1 then p.pads.hirqLow else hirqDriven s
    scsa := if g / 2 % 2 = 1 then p.pads.scsa else s.sensor.scsa
    tio := if g / 4 = 1 then p.pads.tio else (bitsOf 16 (fun n => s.rbit (.tm .OUT) n 31)).toNat } }) s

/-- PAD_RELEASE: a write of PW_PADREL, or PADAUTO at ER. -/
def releasePads (groups : Nat) (s : State) : State :=
  updPower (fun p => { p with pads := { p.pads with groups := p.pads.groups &&& (7 ^^^ (groups % 8)) } }) s

/-! ### Entry to Lull (R502, R503, R513) -/

/-- Base and size of a guarded bank, in PW_RETBUSY's order. -/
def guardBase (k : Nat) : Nat := if k < 12 then sramBase + bankBytes * k else 0x24000000 + 0x4000 * (k - 12)
def guardSize (k : Nat) : Nat := if k < 12 then bankBytes else 0x4000

/-- A system bank is retained; a Vane bank is retained (1) or off (2). -/
def sysRetained (s : State) (k : Nat) : Bool := s.rbit (.pw .RETCFG) 0 k
def vaneBankMode (s : State) (i : Nat) : Nat := if i = 0 then 0 else s.rfld (.pw .RETCFG) 0 (15 + 2 * i) (14 + 2 * i)

/-- Banks that are off in Lull. -/
def bankIsOff (s : State) (k : Nat) : Bool := if k < 12 then !sysRetained s k else vaneBankMode s (k - 12) == 2

/-- Banks off in Lull lose their contents. -/
def dropBanks (s : State) : State :=
  let s := updPower (fun p => { p with
    bankOff := Vector.ofFn (fun i => bankIsOff s i.val)
    bankWoken := Vector.replicate 16 false }) s
  (List.range 16).foldl (fun s k => if bankIsOff s k then s.eraseRange (guardBase k) (guardSize k) else s) s

/-- The Coachwork domain is off: stores, micro-programs and datapaths are lost (R158). -/
def dropCoach (s : State) : State :=
  let s := s.eraseRange 0x30000000 (68 * 0x800)
  updCoach (fun c => { c with
    cars := c.cars.map (fun x => { x with
      x := 0, sx := none, acc := 0, flags := 0, rs := 0, pc := 0, prog := [], hidden := [],
      fifo := Vector.replicate 4 [], inStamp := Vector.replicate 4 0, outStamp := Vector.replicate 2 none,
      owed := Vector.replicate 2 false, stalled := none })
    flights := []
    badPar := [] }) s

/-- What a queued request does when Lull is entered (R497): a wake that is due is served first. -/
def queuedAtLull (s : State) : State :=
  match s.power.queued with
  | none => s
  | some t =>
    let s := updPower (fun p => { p with queued := none }) s
    if s.power.wakeDue ≠ 0 then updPower (fun p => { p with after := some t }) s
    else powerRequest t (if t ≤ 1 then noteWake (2 ^ 14) s else s)

/-- Signing takes 32,768 ticks (R514): EB comes no sooner. -/
def signed (s : State) : Bool := s.power.phase == .committed && decide (32768 ≤ ticks s.power.ec s.now)

/-- LULL_ENTERED (EB of R502). -/
def lullEntered (s : State) : State :=
  if !signed s || s.power.target != 2 || s.power.hub != .on then s
  else
    let due := s.power.wakeDue ||| latchesDue s
    let s := latchPads (s.setFld (.pw .STAT) 0 22 20 1)
    let s := dropCoach (dropBanks s)
    let s := (List.range 4).foldl (fun s n => s.setReg (.vn .CAPCNT) n 0) s
    let s := monitorStart (spAcrossLull s)
    let s := { s with
      clk := { s.clk with
        vane := s.now
        acc := 0
        source := .vane
        busOn := false
        handoverDue := false }
      host := { s.host with
        selected := false
        session := none }
      drawbar := s.drawbar.map (fun d => { d with phy := { d.phy with
        state := .off
        watch := none
        driving := false } }) }
    let s := updPower (fun p => { p with
      hub := .lull
      phase := .idle
      exit := .none
      wakeDue := due
      dom := Vector.replicate 5 false
      twMatch := false
      listener := false }) s
    let s := if due ≠ 0 then noteWake (2 ^ 15) s else s
    queuedAtLull s

/-! ### Exit from Lull (R504, R505, R513 to R516) -/

/-- LULL_EXIT: a wake decides the exit at t0. -/
def lullExit (s : State) : State :=
  if s.power.hub = .lull ∧ s.power.exit = .none ∧ s.power.wakeDue ≠ 0 then
    let due := s.power.wakeDue
    updPower (fun p => { p with
      exit := .pll
      wakeDue := 0 }) (noteWake due s)
  else s

/-- Banks that the guard blocks from the first BUSCLK edge: every system bank, and the retained Vane banks that no Vane access
made active. After Calm no system bank was kept. -/
def blockedAtExit (s : State) (k : Nat) : Bool :=
  if s.nvm.fromCalm then false
  else if k < 12 then true
  else vaneBankMode s (k - 12) == 1 && !(s.power.bankWoken)[k]!

/-- PLL_LOCKED: BUSCLK gives its first edge (R504 step 2). Without X32 edges the stamp resumes from the held value (R17). -/
def pllLocked (s : State) : State :=
  if s.power.hub = .lull ∧ s.power.exit = .pll then
    let s := { s with clk := { s.clk with
      busOn := true
      edge := 0
      x32phase := 0
      handoverDue := !s.clk.x32On } }
    updPower (fun p => { p with
      exit := .clocks
      blocked := Vector.ofFn (fun i => (p.blocked)[i.val]! || blockedAtExit s i.val) }) s
  else s

/-- The Coachwork reload, once the banks of the cache are checked (R158, R514). -/
def coachReturn (s : State) : State :=
  if s.power.hub = .on ∧ reloadWaits s = false then coachRestore s else s

/-- The NVM controller reloads the settings image (R542). -/
def reloadSettings (s : State) : State := (loadSettings s).eraseRange 0x20130000 0x10000

/-- What the failed check of a bank costs (R259, R272, R516, R542). -/
def bankLost (k : Nat) (s : State) : State :=
  let oldest := oldestUnread s
  let newest := s.merger.newest
  let s := s.eraseRange (guardBase k) (guardSize k)
  let s := if k = 6 ∨ k = 7 then queueLost (k - 6) oldest newest s else s
  let s := if k = 9 then
      let lost := (nvDirty s).toNat
      let s := updNvm (fun n => { n with
        prDirty := false
        prTaken := false }) (reloadSettings s)
      let s := { s with slots := s.slots.map (fun (x : Slot) => { x with dirty := false }) }
      almanac 0x907 1 almNvm lost (s.setReg (.nv .DIRTY) 0 0)
    else s
  let entry (s : State) : State := almanac 0x701 3 almPower (if k < 12 then k else k - 12 + 16) s
  if k = 12 then almanacFlush 1 (entry (s.setReg (.al .WIDX) 0 0)) else entry s

/-- A bank is free again. A bank that was off has been zero-filled. -/
def unblock (k : Nat) (s : State) : State := updPower (fun p => { p with blocked := p.blocked.set! k false }) s

/-- RETENTION_CHECK_DONE (R513 to R516): `ok` is the signature's outcome, `canary` a flipped canary bit. A bank that was off is
filled and has no check; bank 9 is then refilled from ER on. -/
def retentionDone (bank : Fin 16) (ok canary : Bool) (s : State) : State :=
  let k := bank.val
  if !s.power.blocked[bank] then s
  else if k < 12 ∧ s.power.bankOff[bank] = true then
    if k = 9 then (if s.power.hub = .on then unblock k (reloadSettings s) else s) else unblock k s
  else
    let s := if canary then almanac 0x702 1 almPower (if k < 12 then k else k - 12 + 16) (s.orReg (.pw .RETSTAT) 0 (2 ^ (16 + k)))
      else s
    let s := if ok then s
      else noteWake (2 ^ 16) (fstat (2 ^ 8) (bankLost k (s.orReg (.pw .RETSTAT) 0 (2 ^ k))))
    let s := unblock k s
    if k = 10 ∨ k = 11 then coachReturn s else s

/-- Parked blocks and the rest of the hub at ER (R504 step 4). -/
def atBreeze (s : State) : State :=
  let lanes := s.power.parked[1]
  let s := updPower (fun p => { p with
    parked := (Vector.replicate 19 false).set! 1 lanes
    acked := Vector.replicate 19 false
    floorBreeze := true
    dom := #v[false, false, true, true, true]
    busyAt := Vector.replicate 5 s.now }) s
  let s := (List.finRange 3).foldl (fun s x => updCore x (fun c => { c with icache := false }) s) s
  let s := (List.finRange 2).foldl (fun s b =>
    let s := updBus b (fun d => { d with
      ttNext := 0
      enumTail := false
      slot := none }) s
    if s.rbit (.db .PHYCFG) b.val 31 then toListen b s else s) s
  let s := if s.rbit (.pw .WAKE) 0 7 then s.orReg (.db .PHYFLG) 0 2 else s
  let s := { s with timers := s.timers.map (fun t => { t with pre := 0 }) }
  let s := if s.rbit (.pw .CTRL) 0 31 then releasePads 7 s else s
  coachReturn (testsDue s)

/-- The hub's state after the reset that ends Calm, at ER (R507, R526): boot goes on. -/
def atCalmReset (s : State) : State :=
  let s := (noteWake (2 ^ 17) (setCause causeCalm s)).clrReg (.al .FCTL) 0 0xFFFFFFFF
  let s := { s with safety := { s.safety with
    pinLow := true
    lowSince := if s.safety.pinLow then s.safety.lowSince else s.now } }
  loadFactory (updNvm (fun n => { n with booting := true }) s)

/-- BREEZE_REACHED (ER of R504). -/
def breezeReached (s : State) : State :=
  if s.power.hub ≠ .lull ∨ s.power.exit ≠ .clocks then s
  else
    let after := s.power.after
    let calm := s.nvm.fromCalm
    let s := updPower (fun p => { p with
      hub := .on
      exit := .none
      after := none
      twMatch := false
      listener := false }) s
    let s := updMon (fun m => { m with run := false }) s
    if calm then atCalmReset s
    else
      let s := atBreeze (s.orReg (.pw .STAT) 0 2)
      match after with
      | some t => powerRequest t s
      | none => s

/-- STAMP_HANDOVER (R23 step 4): the BUSCLK counter takes the Vane counter's value. Parked lanes restart at this edge
(R74), unless a new handshake already holds them. -/
def stampHandover (s : State) : State :=
  if s.clk.source = .vane ∧ s.clk.busOn ∧ s.clk.handoverDue then
    let s := { s with clk := { s.clk with
      bus := s.clk.vane
      source := .bus
      handoverDue := false } }
    let s := if stHi s.now ≠ s.merger.highDone ∧ s.merger.restartDue = false then
        updMerger (fun m => { m with epochDue := some s.now }) s else s
    if s.power.parked[1] && s.power.phase == .idle then
      (List.finRange 16).foldl (fun s k => restartLane k s)
        (updPower (fun p => { p with parked := p.parked.set! 1 false }) s)
    else s
  else s

/-! ### Calm (R506, R507) -/

/-- CALM_ENTERED: EB and the switching off of the VANE domain. Everything but the always-on domain is lost; FAULT_N keeps
its state (R275). -/
def calmEntered (s : State) : State :=
  if s.power.phase != .committed || s.power.target != 3 || s.power.hub != .on || decide (ticks s.power.ec s.now < 1024) then s
  else
    let due := s.power.wakeDue ||| latchesDue s
    let s := latchPads (almanacTail s)
    let queued := match s.power.queued with
      | some t => if t ≤ 1 then 2 ^ 14 else 0
      | none => 0
    let fctl := s.reg (.al .FCTL)
    let safe := s.safety
    let s := if due ≠ 0 then noteWake (2 ^ 15) s else s
    let t := (afterReset true s).setReg (.al .FCTL) 0 fctl
    { t with
      clk := { t.clk with
        vane := s.now
        acc := 0
        source := .vane
        busOn := false }
      safety := { t.safety with
        pinLow := safe.pinLow
        lowSince := safe.lowSince }
      nvm := { t.nvm with
        booting := false
        fromCalm := true }
      power := { t.power with
        hub := .calm
        vaneOn := false
        wakeDue := due ||| queued
        dom := Vector.replicate 5 false } }

/-- CALM_WAKE (R507): VANE is powered, the tail is checked, the Vane starts from its ROM and begins the exit of R504. -/
def calmWake (s : State) : State :=
  if s.power.hub = .calm ∧ s.power.wakeDue ≠ 0 then
    let due := s.power.wakeDue
    let s := updPower (fun p => { p with
      hub := .lull
      vaneOn := true
      exit := .pll
      wakeDue := 0
      blocked := p.blocked.set! 12 true
      dom := Vector.replicate 5 true }) (noteWake due s)
    updCore vaneCore (fun c => { c with inReset := false }) s
  else s

/-! ### On-demand domains (R495) -/

/-- A domain is busy (the idle condition of R495 does not hold). -/
def domainBusy (s : State) (d : Fin 5) : Bool :=
  match d.val with
  | 0 => s.nvm.op.isSome
  | 1 => s.enclave.job.isSome
  | 2 => s.coach.trains.any (fun t => t.state != .empty) || s.coach.loader.phase != .idle
  | 3 => s.rbit (.db .PHYCFG) 0 31
  | _ => s.rbit (.db .PHYCFG) 1 31

/-- DOMAIN_IDLE_OFF. -/
def domainOff (d : Fin 5) (s : State) : State :=
  if s.power.hub = .on ∧ s.power.dom[d] = true ∧ s.rbit (.pw .DOMCTL) 0 d.val = true ∧ domainBusy s d = false ∧
     us (10 * s.rfld (.pw .DOMCTL) 0 15 8) ≤ ticks s.power.busyAt[d] s.now then
    let s := updPower (fun p => { p with dom := upd p.dom d (fun _ => false) }) s
    if d.val = 2 then dropCoach s else s
  else s

/-- Something needs a domain that is off. -/
def domainNeeded (s : State) (d : Fin 5) : Bool :=
  s.acc.any (fun x => x.stalled.isSome) || s.power.waiting.any (fun w => w.tag == 32 + d.val) ||
  (d == domFab && (s.host.issue.isSome || s.tw.issue.isSome)) ||
  (decide (3 ≤ d.val) && s.rbit (.db .PHYCFG) (d.val - 3) 31)

/-- DOMAIN_WAKE: the domain is on; a modem whose EN is set starts. -/
def domainWake (d : Fin 5) (s : State) : State :=
  if s.power.hub = .on ∧ s.power.dom[d] = false ∧ domainNeeded s d = true then
    let s := updPower (fun p => { p with
      dom := upd p.dom d (fun _ => true)
      busyAt := upd p.busyAt d (fun _ => s.now) }) s
    if 3 ≤ d.val ∧ s.rbit (.db .PHYCFG) (d.val - 3) 31 = true then phyEnable (ix 2 (d.val - 3)) s else s
  else s

/-- The domains that are busy at an edge have their idle time start again. -/
def noteBusy (s : State) : State :=
  updPower (fun p => { p with busyAt := Vector.ofFn (fun i => if domainBusy s i then s.now else p.busyAt[i]) }) s

/-! ### PW_ registers (R521) -/

/-- CLOCK_SOURCE_WRITE: SRC 1 only while the crystal oscillates; without XEN it stops. -/
def clkWrite (v : Word) (s : State) : State :=
  if bit v 0 && !(s.rbit (.pw .CLK) 0 31) then s
  else
    let s := s.plainWrite false (.pw .CLK) 0 v
    if bit v 1 then s else s.clrReg (.pw .CLK) 0 (2 ^ 31)

/-- PW_HOLD: each core writes its own bit. -/
def holdWrite (a : Accessor) (v : Word) (s : State) : State :=
  match a with
  | .a0 => s.setFld (.pw .HOLD) 0 0 0 (fld v 0 0)
  | .a1 => s.setFld (.pw .HOLD) 0 1 1 (fld v 1 1)
  | _ => s

/-- PW_RETCFG: no Vane bank at 3, and the bits of banks 6, 7, 10 and 11 at 1. -/
def retcfgWrite (v : Word) (s : State) : State :=
  if fld v 17 16 = 3 ∨ fld v 19 18 = 3 ∨ fld v 21 20 = 3 ∨ v &&& 0xCC0 ≠ 0xCC0 then s else s.plainWrite false (.pw .RETCFG) 0 v

/-- PW_STAT. -/
def pwStat (s : State) : Word :=
  let p := s.power
  let phase := match p.phase with
    | .idle => 0
    | .handshake => 1
    | .committed => 2
  at_ (b2n p.floorBreeze) 31 ||| at_ phase 28 ||| at_ p.target 26 ||| at_ (b2n p.queued.isSome) 25 ||| at_ (p.queued.getD 0) 23 |||
  s.reg (.pw .STAT)

/-- PW_ACKED and PW_DELAYED. -/
def ackedWord (s : State) : Word := bitsOf 19 (fun c => c != 0 && (s.power.acked)[c]!)
def delayedWord (s : State) : Word :=
  if s.power.phase = .handshake then bitsOf 19 (fun c => c != 0 && answerOf s c == .delay) else 0

/-- PW_DOMSTAT. -/
def domStat (s : State) : Word :=
  at_ (b2n (coreRuns s 1)) 6 ||| at_ (b2n (coreRuns s 0)) 5 ||| bitsOf 5 (fun d => (s.power.dom)[d]!)

/-- A read of a PW_ register. PW_BIAS shows what the adaptive loop gives at present, which no rule fixes: a free value. -/
def pwRead (a : Accessor) (r : PwReg) (s : State) : Word × State :=
  match r with
  | .REQ => (0, s)
  | .STAT => (pwStat s, s)
  | .CTRL => (s.reg (.pw .CTRL), s)
  | .CLK => (s.reg (.pw .CLK), s)
  | .HOLD => (s.reg (.pw .HOLD), s)
  | .ACKED => (ackedWord s, s)
  | .DELAYED => (delayedWord s, s)
  | .DOMCTL => (s.reg (.pw .DOMCTL), s)
  | .DOMSTAT => (domStat s, s)
  | .RETCFG => (s.reg (.pw .RETCFG), s)
  | .RETSTAT => (s.reg (.pw .RETSTAT), s)
  | .RETBUSY => (bitsOf 16 (fun k => (s.power.blocked)[k]!), s)
  | .WAKE => (s.reg (.pw .WAKE), s)
  | .PADREL => (0, s)
  | .PADSTAT => (at_ s.power.pads.groups 0, s)
  | .BIAS =>
    let (v, s) := s.free 32
    (v &&& 0xFF000006, s)
  | .STAMPL => (stLo s.now, snapshot (.pw .STAMPH) a (at_ (stHi s.now) 0) s)
  | .STAMPH => (s.reg (.pw .STAMPH) (accU a), s)

/-- A write of a PW_ register. -/
def pwWrite (a : Accessor) (r : PwReg) (v : Word) (s : State) : State :=
  match r with
  | .REQ => pwReqWrite a v s
  | .STAT => s.plainWrite false (.pw .STAT) 0 v
  | .CTRL => if fld v 7 0 = 0 then s else s.plainWrite false (.pw .CTRL) 0 v
  | .CLK => clkWrite v s
  | .HOLD => holdWrite a v s
  | .DOMCTL => if fld v 15 8 = 0 then s else s.plainWrite false (.pw .DOMCTL) 0 v
  | .RETCFG => retcfgWrite v s
  | .RETSTAT => s.plainWrite false (.pw .RETSTAT) 0 v
  | .WAKE => s.plainWrite false (.pw .WAKE) 0 v
  | .PADREL => releasePads (fld v 2 0) s
  | .ACKED => s
  | .DELAYED => s
  | .DOMSTAT => s
  | .RETBUSY => s
  | .PADSTAT => s
  | .BIAS => s
  | .STAMPL => s
  | .STAMPH => s

end Sys2Proof.Machine
end

