-- ==== Sys2Proof/Machine/HostRegs.lean ====
section
/-! DEFINITION. The HP_, TW_ and NV_ registers as an accessor writes and reads them (R350, R367, R381, R387, R411, R543). -/
namespace Sys2Proof.Machine

/-- Change the host port; change the two-wire port. -/
def updHost (f : HostPort → HostPort) (s : State) : State := { s with host := f s.host }
def updTw (f : TwoWire → TwoWire) (s : State) : State := { s with tw := f s.tw }

/-! ### HP_ -/

/-- A session closes and its key is erased (R381). -/
def closeSession (s : State) : State := updHost (fun h => { h with session := none }) s

/-- A write of HP_CFG (R350): CHAIN keeps its value while EN is 1; a clear of EN closes any session. -/
def hpCfgWrite (v : Word) (s : State) : State :=
  let was := s.reg (.hp .CFG)
  let v := if bit was 31 then putBit v 30 (bit was 30) else v
  let t := s.plainWrite false (.hp .CFG) 0 v
  let t := if bit v 31 then t else updHost (fun h => { h with selected := false }) (closeSession t)
  twNotice s t

/-- HP_SESS. -/
def hpSess (s : State) : Word :=
  match s.host.session with
  | some x => at_ 1 31 ||| at_ s.host.fails 29 ||| at_ x.slot 24 ||| at_ (x.ctr % 65536) 0
  | none => at_ s.host.fails 29

/-- A read of an HP_ register; `i` is the window range. -/
def hpRead (a : Accessor) (r : HpReg) (i : Nat) (s : State) : Word × State :=
  match r with
  | .NSRC => (hpSources s, s)
  | .SWIRQ => (0, s)
  | .SYNCL => (s.reg (.hp .SYNCL), s.setReg (.hp .SYNCH) (holdU a) (s.reg (.hp .SYNCH)))
  | .SYNCH => (s.reg (.hp .SYNCH) (holdU a), s)
  | .SESS => (hpSess s, s)
  | .FRAMES => (s.reg (.hp .FRAMES), s.readClear a (.hp .FRAMES) 0)
  | .WIN => (s.reg (.hp .WIN) (i % 8), s)
  | r => (s.reg (.hp r), s)

/-- A write of an HP_ register. -/
def hpWrite (a : Accessor) (r : HpReg) (i : Nat) (v : Word) (s : State) : State :=
  match r with
  | .CFG => hpCfgWrite v s
  | .STAT => s.plainWrite false (.hp .STAT) 0 v
  | .NMASK => s.plainWrite false (.hp .NMASK) 0 v
  | .NSRC => s.plainWrite false (.hp .NSRC) 0 v
  | .SWIRQ => if bit v 0 then s.orReg (.hp .NSRC) 0 (2 ^ 6) else s
  | .WIN => s.plainWrite (secure a s) (.hp .WIN) (i % 8) v
  | .VER => s
  | .RESULT => s
  | .LONG => s
  | .SYNCL => s
  | .SYNCH => s
  | .SESS => s
  | .FRAMES => s

/-! ### TW_ -/

/-- A write of TW_CFG (R402, R411): a clear of EN voids the transaction in progress; a clear of BDEFER discards an undelivered
block. -/
def twCfgWrite (v : Word) (s : State) : State :=
  let t := s.plainWrite false (.tw .CFG) 0 v
  let t := if bit v 31 then t else updTw (fun w => { w with busy := false, held := none }) t
  if bit v 28 then t else updTw (fun w => { w with sent := none }) t

/-- TW_STAT. -/
def twStat (s : State) : Word := at_ (b2n s.tw.busy) 31 ||| at_ (b2n s.tw.notify) 30 ||| s.reg (.tw .STAT)

/-- A read of a TW_ register. -/
def twRead (a : Accessor) (r : TwReg) (s : State) : Word × State :=
  match r with
  | .STAT => (twStat s, s)
  | .NSRC => (twSources s, s)
  | .SWIRQ => (0, s)
  | .NOTIFYLOST => (s.reg (.tw .NOTIFYLOST), s.readClear a (.tw .NOTIFYLOST) 0)
  | .SYNCL => (s.reg (.tw .SYNCL), s.setReg (.tw .SYNCH) (holdU a) (s.reg (.tw .SYNCH)))
  | .SYNCH => (s.reg (.tw .SYNCH) (holdU a), s)
  | r => (s.reg (.tw r), s)

/-- A write of a TW_ register (R411). -/
def twWrite (r : TwReg) (v : Word) (s : State) : State :=
  match r with
  | .CFG => twCfgWrite v s
  | .STAT => s.plainWrite false (.tw .STAT) 0 v
  | .TSU => if fld v 7 0 = 0 then s else s.plainWrite false (.tw .TSU) 0 v
  | .THD => if fld v 4 0 = 0 then s else s.plainWrite false (.tw .THD) 0 v
  | .NCLK => if fld v 31 16 < 48 ∨ fld v 15 0 < 25 then s else s.plainWrite false (.tw .NCLK) 0 v
  | .NMASK => twNotice s (s.plainWrite false (.tw .NMASK) 0 v)
  | .NSRC => s.plainWrite false (.tw .NSRC) 0 v
  | .SWIRQ => if bit v 0 then twNotice s (s.orReg (.tw .NSRC) 0 (2 ^ 6)) else s
  | .BCFG => if fld v 7 0 < 4 ∨ 252 < fld v 7 0 ∨ fld v 7 0 % 4 ≠ 0 then s else s.plainWrite false (.tw .BCFG) 0 v
  | .ADDR => s
  | .NOTIFYLOST => s
  | .RESULT => s
  | .LONG => s
  | .PTR => s
  | .APTR => s
  | .SYNCL => s
  | .SYNCH => s

/-! ### Long commands of the ports (R374, R403) -/

/-- A consist command of a port: a loader that is busy gives outcome 10. -/
def portLoader (port : Nat) (v : Word) (s : State) : State :=
  if s.coach.loader.phase ≠ .idle then longOutcome port 10 (writeLdCmd v s)
  else writeLdCmd v (updLoader (fun l => { l with port := port }) s)

/-- The block or the domain that a long command needs takes it now; `v` is the loader command, or 0 for a store. -/
def longReady (v : Word) (s : State) : Bool :=
  if v = 0 then !s.power.parked[14] else !s.power.parked[3] && s.power.dom[domFab]

/-- A port's long command is issued, or waits (R495, R499). -/
def issueLong (port : Nat) (v : Word) (vddOk : Bool) (s : State) : State :=
  if longReady v s then (if v = 0 then nvStore port vddOk s else portLoader port v s)
  else if port = 1 then updHost (fun h => { h with issue := some v }) s
  else updTw (fun w => { w with issue := some v }) s

/-- Long commands that waited are issued. -/
def performIssues (s : State) : State :=
  let s := match s.host.issue with
    | some v => if longReady v s then issueLong 1 v true (updHost (fun h => { h with issue := none }) s) else s
    | none => s
  match s.tw.issue with
  | some v => if longReady v s then issueLong 2 v true (updTw (fun w => { w with issue := none }) s) else s
  | none => s

/-! ### NV_ -/

/-- A write of an NV_ register; `vddOk` says whether VDD33 is above its programming threshold (R538). -/
def nvWrite (a : Accessor) (r : NvReg) (i : Nat) (vddOk : Bool) (v : Word) (s : State) : State :=
  match r with
  | .CMD => nvCommand v vddOk s
  | .SYSRST => sysrstWrite v s
  | .A1START => a1Start a v s
  | .ADDR => s.plainWrite false (.nv .ADDR) 0 v
  | .WDATA => s.setReg (.nv .WDATA) (i % 4) v
  | .RSTCAUSE => s.plainWrite false (.nv .RSTCAUSE) 0 v
  | .STAT => s.plainWrite false (.nv .STAT) 0 v
  | .DEVID => s
  | .UIDL => s
  | .UIDH => s
  | .BOOTSTAT => s
  | .BANKSTAT => s
  | .DIRTY => s
  | .PVALA => s
  | .PVALB => s
  | .PCUR => s

end Sys2Proof.Machine
end

