-- ==== Sys2Proof/Machine/RegMap.lean ====
section
/-! DEFINITION. The address map: which register an address names, and what a read or a write of any address by any accessor
does (R32 to R36, R39, R40, R471, R514, R533). -/
namespace Sys2Proof.Machine

/-! ### Registers by address (R33) -/

/-- The blocks: base, size, their registers, and the bus of a drawbar block. -/
def blocks : List (Nat × Nat × List Reg × Fin 2) :=
  [(0x40000000, 0x10000, PwReg.all.map .pw, 0), (0x40010000, 0x10000, LnReg.all.map .ln, 0),
   (0x40020000, 0x10000, CaReg.all.map .ca, 0), (0x40030000, 0x8000, CwReg.all.map .cw, 0),
   (0x40038000, 0x8000, DsReg.all.map .ds, 0), (0x40040000, 0x10000, RkReg.all.map .rk, 0),
   (0x40050000, 0x10000, DbReg.all.map .db, 0), (0x40060000, 0x10000, DbReg.all.map .db, 1),
   (0x40070000, 0x10000, HpReg.all.map .hp, 0), (0x40080000, 0x10000, TwReg.all.map .tw, 0),
   (0x40090000, 0x10000, SpReg.all.map .sp, 0), (0x400A0000, 0x10000, EvReg.all.map .ev, 0),
   (0x400B0000, 0x10000, TmReg.all.map .tm, 0), (0x400C0000, 0x10000, IcReg.all.map .ic, 0),
   (0x400D0000, 0x10000, NvReg.all.map .nv, 0), (0x400E0000, 0x10000, SeReg.all.map .se, 0),
   (0x400F0000, 0x10000, AlReg.all.map .al, 0), (0x40100000, 0x10000, VnReg.all.map .vn, 0)]

/-- A register with the entry of its array and the drawbar bus. -/
structure RegRef where
  reg : Reg
  i : Nat
  bus : Fin 2
  deriving DecidableEq, Repr

/-- The entry of register `r` that lies at an offset of its block. -/
def entryOf (r : Reg) (off : Nat) : Option Nat :=
  let x := r.info
  if x.off ≤ off ∧ (off - x.off) % x.stride = 0 ∧ (off - x.off) / x.stride < x.count then some ((off - x.off) / x.stride) else none

/-- The register at an address, and a register of its block. -/
def regAt (addr : Nat) : Option (Option RegRef × Reg) :=
  match blocks.find? (fun b => decide (b.1 ≤ addr ∧ addr < b.1 + b.2.1)) with
  | some (base, _, rs, bus) =>
    match rs with
    | [] => none
    | rep :: _ => some (rs.findSome? (fun r => (entryOf r (addr - base)).map (fun i => { reg := r, i := i, bus := bus })), rep)
  | none => none

/-- The value of a register and the state after the read. -/
def readReg (a : Accessor) (x : RegRef) (s : State) : Word × State :=
  match x.reg with
  | .pw r => pwRead a r s
  | .ln r => lnRead a r x.i s
  | .ca r => caRead a r x.i s
  | .cw r => cwRead a r x.i s
  | .ds r => dsRead a (fun n => (s.coach.trains[ix 16 n]).state == .warming) r x.i s
  | .rk r => rkRead a r x.i s
  | .db r => dbRead a x.bus r x.i s
  | .hp r => hpRead a r x.i s
  | .tw r => twRead a r s
  | .sp r => spRead a r s
  | .ev r => evRead a r x.i s
  | .tm r => tmRead a r s
  | .ic r => icRead a r x.i s
  | .nv r => nvRead a r x.i s
  | .se r => (seRead r s, s)
  | .al r => (alRead r x.i s, s)
  | .vn r => vnRead a r x.i s

/-- The effect of an accepted write. The supply stands above its programming threshold (log entry 49). -/
def writeReg (a : Accessor) (x : RegRef) (v : Word) (s : State) : State :=
  match x.reg with
  | .pw r => pwWrite a r v s
  | .ln r => lnWrite a r x.i v s
  | .ca r => caWrite a r x.i v s
  | .cw r => cwWrite r v s
  | .ds r => dsWrite a r x.i v s
  | .rk r => rkWrite a r x.i v s
  | .db r => dbWrite a x.bus r x.i v s
  | .hp r => hpWrite a r x.i v s
  | .tw r => twWrite r v s
  | .sp r => spWrite a r v s
  | .ev r => evWrite a r x.i v s
  | .tm r => tmWrite a r v s
  | .ic r => icWrite r x.i v s
  | .nv r => nvWrite a r x.i true v s
  | .se r => seWrite a r v s
  | .al r => alWrite a r x.i v s
  | .vn r => vnWrite a r x.i v s

/-! ### Work that waited (R495, R499) -/

/-- What a waiting write waits for has come: its block is released, or its domain is on. -/
def waitOver (s : State) (w : Waiting) : Bool :=
  if w.tag < 32 then !(s.power.parked)[w.tag]! else (s.power.dom)[w.tag - 32]!

/-- A waiting write acts, on the set that its accessor had selected. -/
def performOne (w : Waiting) (s : State) : State :=
  match regAt w.access.addr with
  | some (some x, _) =>
    let v := w.access.write.getD 0
    match selectReg x.reg with
    | some q =>
      let now := s.reg q (accU w.acc)
      (writeReg w.acc x v (s.setReg q (accU w.acc) w.sel)).setReg q (accU w.acc) now
    | none => writeReg w.acc x v s
  | _ => s

/-- Every waiting write whose wait is over acts, oldest first; then the long commands of the ports. -/
def performWaiting (s : State) : State :=
  let due := s.power.waiting.filter (waitOver s)
  let s := updPower (fun p => { p with waiting := p.waiting.filter (fun w => !due.contains w) }) s
  performIssues (due.foldl (fun s w => performOne w s) s)

/-! ### Memory by address (R32, R471) -/

/-- The regions of the address map. -/
inductive Region where
  | bootRom | codeFlash (bank : Fin 2) | dataFlash | sram | vaneSram | stores | registers | window | tcm | none
  deriving DecidableEq, Repr

/-- The region that an access of `size` bytes lies in. -/
def regionOf (addr size : Nat) : Region :=
  let within (lo n : Nat) : Bool := decide (lo ≤ addr ∧ addr + size ≤ lo + n)
  if within 0 0x10000 then .bootRom
  else if within 0x08000000 0x100000 then .codeFlash 0
  else if within 0x08100000 0x100000 then .codeFlash 1
  else if within 0x08800000 0x20000 then .dataFlash
  else if within 0x10000000 0x10000 then .tcm
  else if within sramBase 0x180000 then .sram
  else if within 0x24000000 0x10000 then .vaneSram
  else if within 0x30000000 0x22000 then .stores
  else if within 0x40000000 0x110000 then .registers
  else if within 0x60000000 0x4000000 then .window
  else .none

/-- A region that an accessor's map holds: the cores and the debug port have the map of R32, the Vane its own (R36), the ports
only the registers. -/
def sees (a : Accessor) (r : Region) (s : State) : Bool :=
  match a with
  | .a0 => r != .none
  | .a1 => r != .none
  | .debug => debugOpen s && r != .none && r != .tcm
  | .vane => r == .bootRom || r == .vaneSram || r == .registers
  | .host => r == .registers
  | .twoWire => r == .registers

/-- A flash operation keeps reads of a region waiting (R533). -/
def flashBusy (r : Region) (s : State) : Bool :=
  match s.nvm.op with
  | none => false
  | some o =>
    match r with
    | .codeFlash b =>
      (o.op == 1 && o.bank == b.val) || ((o.op == 2 || o.op == 3) && nvBank o.addr == b) || (o.op == 4 && o.bank == b.val)
    | .dataFlash => o.op == 5
    | _ => false

/-- What stands between an accessor and the Vane SRAM (R36, R514). -/
def vaneSramGate (a : Accessor) (addr : Nat) (s : State) : Gate :=
  let b := (addr - 0x24000000) / 0x4000
  if !s.power.vaneOn then .stall
  else if a ≠ .vane ∧ s.clk.busOn = false then .stall
  else if (s.power.blocked)[12 + b]! then .stall
  else if s.power.hub = .lull ∧ vaneBankMode s b = 1 ∧ (s.power.bankWoken)[12 + b]! = false then .stall
  else .ok

/-- What stands between an accessor and a memory address. -/
def memGate (a : Accessor) (r : Region) (addr : Nat) (isWrite : Bool) (s : State) : Gate :=
  let main (g : Gate) : Gate := if s.clk.busOn then g else .stall
  match r with
  | .bootRom => if isWrite then .busError else .ok
  | .codeFlash b =>
    if isWrite then .busError
    else main (if s.power.dom[domNvm] && !flashBusy (.codeFlash b) s then .ok else .stall)
  | .dataFlash => if isWrite then .busError else main (if s.power.dom[domNvm] && !flashBusy .dataFlash s then .ok else .stall)
  | .sram =>
    main (if (s.power.blocked)[sramBank addr]! then .stall else if isWrite && sramLocked s addr then .busError else .ok)
  | .vaneSram => vaneSramGate a addr s
  | .stores => main (if s.power.dom[domFab] then .ok else .stall)
  | .tcm => .ok
  | _ => .ok

/-- A Vane access in Lull to a retained Vane bank makes it active for the rest of the Lull; it is blocked until its check ends
(R514). -/
def wakeBank (a : Accessor) (r : Region) (addr : Nat) (s : State) : State :=
  let b := (addr - 0x24000000) / 0x4000
  if r = .vaneSram ∧ a = .vane ∧ s.power.hub = .lull ∧ vaneBankMode s b = 1 ∧ (s.power.bankWoken)[12 + b]! = false then
    updPower (fun p => { p with
      bankWoken := p.bankWoken.set! (12 + b) true
      blocked := p.blocked.set! (12 + b) true }) s
  else s

/-- Where a byte of a core's data TCM stands in the memory. -/
def tcmAddr (a : Accessor) (addr : Nat) : Nat := if a = .a1 then addr + 0x10000 else addr

/-- The bytes that a read returns. The spec gives no contents of the boot ROMs: free values. -/
def memBytes (a : Accessor) (r : Region) (addr size : Nat) (s : State) : List Byte × State :=
  match r with
  | .bootRom => freeBytes size s
  | .tcm => (s.readBytes (tcmAddr a addr) size, s)
  | .vaneSram => (s.readBytes addr size, noteLogRead addr s)
  | .codeFlash _ => (s.readBytes addr size, updPower (fun p => { p with busyAt := upd p.busyAt domNvm (fun _ => s.now) }) s)
  | .dataFlash => (s.readBytes addr size, updPower (fun p => { p with busyAt := upd p.busyAt domNvm (fun _ => s.now) }) s)
  | _ => (s.readBytes addr size, s)

/-- A write of one word or part of it into a carriage store (R160). -/
def storeWrite (addr size : Nat) (v : Word) (s : State) : State :=
  let p : Fin 68 := ix 68 ((addr - 0x30000000) / 0x800)
  let i := (addr - 0x30000000) % 0x800 / 4
  let old := s.readBytes (carAddr p i) 4
  let at0 := addr % 4
  let new := (List.range 4).map (fun j => if at0 ≤ j ∧ j < at0 + size then byteOf v (j - at0) else old.getD j 0)
  diagWrite p i (bytesWord new) s

/-- An access to a memory region that a gate lets through writes its bytes. -/
def memWrite (a : Accessor) (r : Region) (addr size : Nat) (v : Word) (s : State) : State :=
  let bs := (wordBytes v).take size
  match r with
  | .tcm => s.writeBytes (tcmAddr a addr) bs
  | .sram => storeSram addr bs s
  | .vaneSram =>
    if s.power.hub = .lull ∧ vaneBankMode s ((addr - 0x24000000) / 0x4000) = 2 then s else s.writeBytes addr bs
  | .stores => storeWrite addr size v s
  | _ => s

/-! ### Any access -/

/-- Sizes of an access: 8, 16 or 32 bits. -/
def sizeOk (size : Nat) : Bool := size == 1 || size == 2 || size == 4

/-- A read of any address by any accessor. -/
def busRead (a : Accessor) (addr size : Nat) (s : State) : State :=
  let r := regionOf addr size
  let x : Access := { addr := addr, size := size, write := none }
  if !sizeOk size || !sees a r s then s.answer a .busError
  else match r with
    | .registers =>
      if size ≠ 4 ∨ addr % 4 ≠ 0 then s.answer a .busError
      else match regAt addr with
        | some (some q, _) => regRead a q.reg x (readReg a q) s
        | some (none, rep) => regRead a rep x (fun s => (0, s)) s
        | none => s.answer a .busError
    | .window => if s.clk.busOn then windowRead a (addr - 0x60000000) size s else s.stall a x
    | r =>
      match memGate a r addr false s with
      | .ok => let (bs, t) := memBytes a r addr size s; t.answer a (.data (bytesWord bs))
      | .busError => s.answer a .busError
      | .stall => (wakeBank a r addr s).stall a x

/-- A write of any address by any accessor. -/
def busWrite (a : Accessor) (addr size : Nat) (v : Word) (s : State) : State :=
  let r := regionOf addr size
  let x : Access := { addr := addr, size := size, write := some v }
  if !sizeOk size || !sees a r s then s.answer a .busError
  else match r with
    | .registers =>
      if size ≠ 4 ∨ addr % 4 ≠ 0 then s.answer a .busError
      else match regAt addr with
        | some (some q, _) => regWrite a q.reg x (writeReg a q) s
        | some (none, rep) => regWrite a rep x (fun _ s => s) s
        | none => s.answer a .busError
    | .window => if s.clk.busOn then windowWrite a (addr - 0x60000000) size v s else s.stall a x
    | r =>
      match memGate a r addr true s with
      | .ok => (memWrite a r addr size v s).answer a .done
      | .busError => s.answer a .busError
      | .stall => (wakeBank a r addr s).stall a x

/-- STALLED_ACCESS_COMPLETE (R35): what the access waited for is ready. A window read completes with its line (R420). -/
def stalledComplete (a : Accessor) (s : State) : State :=
  match (s.acc[accIx a]).stalled with
  | none => s
  | some x =>
    match x.write with
    | none =>
      if 0x60000000 ≤ x.addr ∧ s.clk.busOn = true then s
      else busRead a x.addr x.size { s with acc := upd s.acc (accIx a) (fun y => { y with stalled := none }) }
    | some v => busWrite a x.addr x.size v { s with acc := upd s.acc (accIx a) (fun y => { y with stalled := none }) }

end Sys2Proof.Machine
end

