-- ==== Sys2Proof/Machine/SlotEvents.lean ====
section
/-! DEFINITION. What the resident services do at times of their own: the coolant step, the taking of requests, timeouts and
homing by itself (R225 to R232). -/
namespace Sys2Proof.Machine

/-- COOLANT_STEP (R226): every PERIOD milliseconds while EN is 1. -/
def coolantStep (s : State) : State :=
  if s.rbit (.ds .CLCTL) 0 31 && s.busRuns && decide (ms (dsf s .CLSET 0 15 0) ≤ ticks s.loop.stepAt s.now) then loopStep s
  else s

/-- SERVICE_REQUEST_TAKEN (R225): a pending GO is taken; parked slots start nothing (R499). -/
def serviceTaken (homing : Bool) (s : State) : State :=
  if s.power.parked[4] then s
  else if homing then (if s.rbit (.ds .FHCTL) 0 31 then homingTake s else s)
  else if s.rbit (.ds .PRCTL) 0 31 then recallTake s
  else s

/-- RECALL_TIMEOUT (R229): TMO × 0.1 s without DONE. -/
def recallTimeout (s : State) : State :=
  if s.prRun.state = 1 ∧ ms (100 * dsf s .PRPAR 0 15 0) ≤ ticks s.prRun.started s.now then
    let d := match (prEntries s).find? (fun e => s.prRun.phase[e.1] == .moving) with
      | some e => e.2
      | none => 0
    recallAbort 6 d s
  else s

/-- HOMING_TIMEOUT (R231): no end stop within TMO × 0.1 s. -/
def homingTimeout (d : Fin 32) (s : State) : State :=
  if s.homing.phase[d] = .seeking ∧ ms (100 * dsf s .FHPAR 0 11 0) ≤ ticks s.homing.since[d] s.now then homeFail d 1 s else s

/-- Home the slots of a mask: a run of their own, or as more slots of the run in progress. -/
def homeMore (mask : Word) (s : State) : State :=
  if s.homing.running then
    let ds := (List.finRange 32).filter (fun d => bit mask d.val)
    homingAdvance (ds.foldl (fun s d => setHome d .waiting (updSlot d (fun x => { x with owner := 3 }) s)) s)
  else homingBegin mask s

/-- A slot that homing may take: of the mask, IDLE and unowned (R232). -/
def homable (s : State) (d : Fin 32) : Bool :=
  bit (s.reg (.ds .FHMASK)) d.val && s.slots[d].mstate == .idle && s.slots[d].owner == 0

/-- AUTO_HOMING_START (R232). -/
def autoHoming (which : AutoHoming) (s : State) : State :=
  if s.power.parked[4] then s
  else match which with
    | .slot d =>
      if s.rbit (.ds .FHCTL) 0 29 && homable s d && s.slots[d].doubt && s.slots[d].freeDoubt then
        homeMore (BitVec.ofNat 32 (2 ^ d.val)) s
      else s
    | .boot =>
      let mask := bitsOf 32 (fun i => homable s (ix 32 i) && !(s.slots[ix 32 i]).valid)
      if s.rbit (.ds .FHCTL) 0 28 && mask != 0 then homeMore mask s else s

end Sys2Proof.Machine
end

