-- ==== Sys2Proof/Machine/Ports.lean ====
section
/-! DEFINITION. What the two ports share: result codes, the window ranges, register words through a window, image chunks,
batch responses and the start of a long command (R360, R363 to R377, R398 to R405). -/
namespace Sys2Proof.Machine

/-! ### Result codes (R360) -/

def rOk : Nat := 0x00
def rLength : Nat := 0x01
def rHcrc : Nat := 0x02
def rBcrc : Nat := 0x03
def rBadOp : Nat := 0x04
def rBadVer : Nat := 0x05
def rBadArg : Nat := 0x06
def rDenied : Nat := 0x07
def rPastEnd : Nat := 0x08
def rBusy : Nat := 0x09
def rState : Nat := 0x0A
def rAuth : Nat := 0x0B
def rNotOwner : Nat := 0x0C
def rPending : Nat := 0xFF

/-- A command that ends with this result has an effect. -/
def hasEffect (r : Nat) : Bool := r == rOk || r == rPastEnd

/-- The filling word of a batch response (R238). -/
def fillWord : Word := 0xFC1FFFFF

/-! ### Check codes -/

/-- The bytes of a word, [31:24] first (R355). -/
def wordBe (w : Word) : List Byte := [byteOf w 3, byteOf w 2, byteOf w 1, byteOf w 0]

/-- The CRC of R318 over words, each [31:24] first. -/
def crcWords (ws : List Word) : Nat := (crc16 (ws.flatMap wordBe)).toNat

/-- One bit of the CRC-8 with polynomial x⁸ + x² + x + 1 (R382, R397). -/
def crc8Bit (c : BitVec 8) (b : Bool) : BitVec 8 := if c.msb != b then (c <<< 1) ^^^ 0x07 else c <<< 1

/-- One byte, most significant bit first. -/
def crc8Byte (c b : BitVec 8) : BitVec 8 := [7, 6, 5, 4, 3, 2, 1, 0].foldl (fun c i => crc8Bit c (b.getLsbD i)) c

/-- The CRC-8 over bytes, initial value 0. -/
def crc8 (bs : List Byte) : BitVec 8 := bs.foldl crc8Byte 0

/-! ### The window (R364 to R367) -/

/-- Range `w` holds a byte offset and grants the access. -/
def grants (w : Word) (write session : Bool) (off : Nat) : Bool :=
  decide (fld w 28 16 ≤ off / 256 ∧ off / 256 ≤ fld w 12 0) && bit w (if write then 30 else 31) && (!(bit w 29) || session)

/-- The governing range (R364): the lowest-numbered one that holds the start offset and grants the access. -/
def governing (write session : Bool) (off : Nat) (s : State) : Option Word :=
  ((List.range 8).map (fun k => s.reg (.hp .WIN) k)).find? (fun w => grants w write session off)

/-- First offset past a range. -/
def rangeEnd (w : Word) : Nat := (fld w 12 0 + 1) * 256

/-- The result of an access to `n` words from an offset (R364, R365). -/
def windowResult (write session : Bool) (off n : Nat) (s : State) : Nat :=
  match governing write session off s with
  | none => rDenied
  | some w => if rangeEnd w < off + 4 * n then rPastEnd else rOk

/-- One register word that a port reads (R366); an access that ends in a bus error returns 0 (log entry 50). -/
def portRead (a : Accessor) (off : Nat) (s : State) : Word × State :=
  match regAt (0x40000000 + off) with
  | some (some q, _) =>
    match gate a q.reg false s with
    | .ok => readReg a q s
    | _ => (0, s)
  | _ => (0, s)

/-- `n` words from an offset; those at `limit` or past it read 0 (R365). -/
def portReads (a : Accessor) (limit : Nat) : Nat → Nat → State → List Word × State
  | 0, _, s => ([], s)
  | n + 1, off, s =>
    let (w, s) := if off < limit then portRead a off s else (0, s)
    let (ws, s) := portReads a limit n (off + 4) s
    (w :: ws, s)

/-- One register word that a port writes (R366). A write that must wait for its domain waits by itself (R35, log
entry 51). -/
def portWrite (a : Accessor) (off : Nat) (v : Word) (s : State) : State :=
  let addr := 0x40000000 + off
  match regAt addr with
  | some (some q, _) =>
    match gate a q.reg true s, needsDomain q.reg with
    | .ok, _ => busWrite a addr 4 v s
    | .stall, some d => postpone a q.reg (32 + d.val) { addr := addr, size := 4, write := some v } s
    | _, _ => s
  | _ => s

/-- Words written in ascending order, none at `limit` or past it. -/
def portWrites (a : Accessor) (limit : Nat) : Nat → List Word → State → State
  | _, [], s => s
  | off, w :: ws, s => portWrites a limit (off + 4) ws (if off < limit then portWrite a off w s else s)

/-- A read through the window: result, words, state. -/
def windowReads (a : Accessor) (session : Bool) (off n : Nat) (s : State) : Nat × List Word × State :=
  match governing false session off s with
  | none => (rDenied, List.replicate n 0, s)
  | some w =>
    let (ws, t) := portReads a (rangeEnd w) n off s
    (windowResult false session off n s, ws, t)

/-- A write through the window: result and state. -/
def windowWrites (a : Accessor) (session : Bool) (off : Nat) (ws : List Word) (s : State) : Nat × State :=
  match governing true session off s with
  | none => (rDenied, s)
  | some w => (windowResult true session off ws.length s, portWrites a (rangeEnd w) off ws s)

/-! ### Chunks (R372) -/

/-- A byte range lies in system SRAM outside the banks of R194. -/
def chunkPlace (base n : Nat) : Bool :=
  decide (sramBase ≤ base ∧ base + n ≤ sramEnd) &&
  [6, 7, 9, 10, 11].all (fun b => let lo := sramBase + bankBytes * b
    decide (base + n ≤ lo) || decide (lo + bankBytes ≤ base))

/-- What refuses a chunk of `n` words at a word offset; 0 when nothing does. -/
def chunkRefused (off n : Nat) (s : State) : Nat :=
  if 65536 < off + n then rBadArg
  else if !(chunkPlace ((s.reg (.cw .STGBASE)).toNat + 4 * off) (4 * n)) then rBadArg
  else if s.coach.loader.locked then rBusy
  else rOk

/-- A chunk is written, and CW_STGLEN follows. -/
def writeChunk (off : Nat) (ws : List Word) (s : State) : State :=
  let n := 4 * (off + ws.length)
  let len := if off = 0 then n else max (s.rfld (.cw .STGLEN) 0 18 0) n
  (storeSram ((s.reg (.cw .STGBASE)).toNat + 4 * off) (ofWords ws) s).setFld (.cw .STGLEN) 0 18 0 len

/-- A chunk: result and state. -/
def chunkRun (off : Nat) (ws : List Word) (s : State) : Nat × State :=
  let r := chunkRefused off ws.length s
  if r = rOk then (rOk, writeChunk off ws s) else (r, s)

/-! ### Long commands (R373, R374) -/

/-- The staged image is verified and of this KIND (R373). -/
def stagedKind (kind : Nat) (s : State) : Bool := s.coach.loader.staged && s.coach.loader.kind == kind

/-- What a port asks the loader or the NVM controller for. -/
inductive LongJob where
  | verify | apply | shunt (handover : Bool) | store
  deriving DecidableEq, Repr

/-- CW_LDCMD of a job; 0 for a store. -/
def LongJob.word : LongJob → Word
  | .verify => 1
  | .apply => 2
  | .shunt h => at_ (b2n h) 5 ||| 3
  | .store => 0

/-- A state that the job requires holds (R373). -/
def LongJob.allowed (j : LongJob) (s : State) : Bool :=
  match j with
  | .verify => true
  | .apply => stagedKind 0 s
  | .shunt _ => stagedKind 1 s
  | .store => true

/-- The port's register that shows its long command. -/
def longReg (port : Nat) : Reg := if port = 1 then .hp .LONG else .tw .LONG

/-- A long command starts, or is refused (R374). `op` is the command's code on its port. -/
def longRun (port op : Nat) (j : LongJob) (vddOk : Bool) (s : State) : Nat × State :=
  let r := longReg port
  if s.rbit r 0 23 then (rBusy, s)
  else if !(j.allowed s) then (rState, s)
  else (rOk, issueLong port j.word vddOk ((s.setFld r 0 31 24 op).orReg r 0 (2 ^ 23)))

/-- A long command completes: its outcome, and DONE (R374, R403). -/
def longDone (port : Nat) (flags : Reg) (out : Option Nat) (s : State) : State :=
  let r := longReg port
  match out with
  | some o =>
    if s.rbit r 0 23 then
      let s := if port = 1 then updHost (fun h => { h with longOut := none }) s else updTw (fun w => { w with longOut := none }) s
      ((s.setFld r 0 15 0 o).setFld r 0 23 23 0).orReg flags 0 1
    else s
  | none => s

/-! ### SYNC and the almanac (R376, R377, R404, R405) -/

/-- A SYNC: the stamp `since` BUSCLK edges before the accepting edge, and COUNT (R29, R376, R404). -/
def syncRun (lo hi : Reg) (since : Nat) (s : State) : State :=
  let t := stSub s.now since
  let n := (s.rfld hi 0 31 16 + 1) % 65536
  (s.setReg lo 0 (stLo t)).setReg hi 0 (at_ n 16 ||| at_ (stHi t) 0)

/-- Entries of the almanac from an index, each read whole. -/
def almanacRun (first n : Nat) (s : State) : List Word := (List.range n).flatMap (fun j => almRead s ((first + j) % 1024))

end Sys2Proof.Machine
end

