-- ==== Sys2Proof/Machine/HostPort.lean ====
section
/-! DEFINITION. The host port: Teril frames in direct and chain mode, versions, sessions, long commands (R350 to R387). -/
namespace Sys2Proof.Machine

/-! ### The frame's outer words -/

/-- The port takes frames (R350, R386). -/
def hostOn (s : State) : Bool := s.rbit (.hp .CFG) 0 31 && s.clk.busOn && s.power.hub == .on

/-- Chain mode. -/
def chained (s : State) : Bool := s.rbit (.hp .CFG) 0 30

/-- Agreed version. -/
def hostVersion (s : State) : Nat := s.rfld (.hp .VER) 0 7 0

/-- The status byte (R359). -/
def hostStatus (s : State) : Nat :=
  b2n (hirqLow s) * 64 + b2n (s.reg (.hp .STAT) &&& 0x1FE != 0) * 32 + b2n (s.rbit (.hp .LONG) 0 23) * 16 +
  b2n (s.rbit (.hp .STAT) 0 0) * 8 + b2n s.safety.pinLow * 4 + b2n s.host.session.isSome * 2 + b2n (!(s.rbit (.hp .VER) 0 8))

/-- Word 0 of HSDO in direct mode (R354). -/
def pollWord (s : State) : Word :=
  at_ (hostStatus s) 24 ||| at_ (s.rfld (.hp .RESULT) 0 7 0) 16 ||| at_ (min 0xFFFF s.merger.cursors[0].avail) 0

/-- The bytes of a chain slot, [63:56] first. -/
def slotBytes64 (v : BitVec 64) : List Byte := (leBytes v.toNat 8).reverse

/-- The slot of R383. A frame within 1 µs of the previous command's accepting edge shows PENDING (R385). -/
def outSlot (s : State) : BitVec 64 :=
  let soon : Bool := match s.host.chainAt with
    | some t => decide (ticks t s.now < us 1)
    | none => false
  let r := if soon then rPending else s.rfld (.hp .RESULT) 0 7 0
  let d := if soon then 0 else s.host.chainData.toNat
  let v : BitVec 64 := BitVec.ofNat 64 (hostStatus s * 2 ^ 56 + r * 2 ^ 48 + s.rfld (.hp .RESULT) 0 11 8 * 2 ^ 44 + d)
  v ||| BitVec.ofNat 64 ((crc8 (slotBytes64 v)).toNat * 2 ^ 32)

/-- What HSDO carries from the falling edge of HSEL_N. -/
def firstOut (s : State) : BitVec 64 := if chained s then outSlot s else (pollWord s).setWidth 64

/-- FRAME_SELECT: a falling edge of HSEL_N begins a frame; in Lull it is a wake edge (R352, R359, R386, R508). -/
def frameSelect (s : State) : State :=
  if hostOn s then wakeLatchSet 70 (updHost (fun h => { h with
    selected := true
    word0 := firstOut s }) s)
  else wakeLatchSet 70 s

/-- The frame's first HSDO word or slot: taken at FRAME_SELECT where the frame had one, else now. -/
def frameWord0 (s : State) : BitVec 64 := if s.host.selected then s.host.word0 else firstOut s

/-- A rising edge of HSEL_N. -/
def deselect (s : State) : State := updHost (fun h => { h with selected := false }) s

/-- STATUS_POLL: a frame of one word changes nothing (R354). -/
def pollFrame (s : State) : State :=
  if hostOn s && !chained s then updHost (fun h => { h with out := [(frameWord0 s).setWidth 32] }) (deselect s) else deselect s

/-! ### Results (R353, R358, R360) -/

/-- The HP_STAT bit of a result. -/
def hostFlag (r : Nat) : Nat :=
  match r with
  | 0x00 => 0
  | 0x01 => 0x004
  | 0x02 => 0x008
  | 0x03 => 0x010
  | 0x07 => 0x080
  | 0x08 => 0x040
  | 0x0B => 0x100
  | _ => 0x020

/-- A frame with OP `op` ends with a result: HP_RESULT, its flag and the frame counters. -/
def hostResult (op r : Nat) (s : State) : State :=
  let s := s.setReg (.hp .RESULT) 0 (at_ (op % 256) 8 ||| at_ r 0)
  let s := if hasEffect r then s.countFld (.hp .FRAMES) 0 31 16 1
    else if r = rLength then s.countFld (.hp .FRAMES) 0 15 0 1
    else s
  if hostFlag r = 0 then s else s.orReg (.hp .STAT) 0 (hostFlag r)

/-- A frame whose edges do not make whole words or slots (R353). -/
def frameLen (s : State) : State := (s.countFld (.hp .FRAMES) 0 15 0 1).orReg (.hp .STAT) 0 2

/-! ### The command table (R362, R363) -/

/-- Words of the command body and of the response body. -/
def bodyWords (op a0 a1 : Nat) : Nat × Nat :=
  match op with
  | 0x01 => (0, 2)
  | 0x02 => (0, a1)
  | 0x03 => (a1, 0)
  | 0x04 => (0, a1)
  | 0x05 => if a0 / 2 ^ 22 % 4 = 0 then (a1, 0) else (0, 0)
  | 0x09 => (0, 2)
  | 0x0A => (0, 4 * a1)
  | 0x0C => if a0 % 4 = 1 then (2, 2) else (0, 0)
  | _ => (0, 0)

/-- The version that a command needs. -/
def versionNeeded (op a0 : Nat) : Nat :=
  match op with
  | 0x04 => if a0 % 2 = 1 then 2 else 1
  | 0x06 => 2
  | 0x0C => 3
  | _ => 1

/-- The arguments keep the table's ranges and leave every other bit 0. -/
def argsOk (op a0 a1 : Nat) : Bool :=
  match op with
  | 0x01 => decide (1 ≤ a0 ∧ a0 < 256 ∧ a1 = 0)
  | 0x02 => decide (a0 % 4 = 0 ∧ 1 ≤ a1 ∧ a1 ≤ 1024)
  | 0x03 => decide (a0 % 4 = 0 ∧ 1 ≤ a1 ∧ a1 ≤ 1024)
  | 0x04 => decide (a0 / 2 % 2 ^ 22 = 0 ∧ (a1 = 0 ∨ (66 ≤ a1 ∧ a1 ≤ 1024)))
  | 0x05 =>
    if a0 / 2 ^ 22 = 0 then decide (a0 < 65536 ∧ 1 ≤ a1 ∧ a1 ≤ 1024)
    else decide (a0 / 2 ^ 22 ≤ 2 ∧ a0 % 2 ^ 22 = 0 ∧ a1 = 0)
  | 0x06 => decide (a0 < 2 ∧ a1 = 0)
  | 0x08 => decide (a0 ≤ 3 ∧ a1 = 0)
  | 0x0A => decide (a0 < 1024 ∧ 1 ≤ a1 ∧ a1 ≤ 256)
  | 0x0B => decide (a0 < 65536 ∧ a1 = 0)
  | 0x0C => decide (a0 &&& 0xFFE0FC = 0 ∧ (a0 % 4 = 1 ∨ a0 % 4 = 2) ∧ a1 = 0)
  | _ => decide (a0 = 0 ∧ a1 = 0)

/-- OPs of the table; of chain mode (R385); of the boot ROM's recovery service (R528). -/
def knownOp (op : Nat) : Bool := decide (1 ≤ op ∧ op ≤ 12)
def chainOp (op : Nat) : Bool := [0, 1, 2, 3, 7, 8, 9, 0x0B].contains op
def opAvailable (op : Nat) (s : State) : Bool :=
  (if chained s then chainOp op else knownOp op) && (!(recovery s) || decide (op ≤ 3))

/-! ### Batch reads (R368 to R371) -/

/-- The acknowledgement at the end of word 1 (R370). -/
def batchAck (c : Fin 2) (s : State) : State :=
  match s.host.sent[c] with
  | some u => deliver (ix 4 c.val) u (updHost (fun h => { h with sent := upd h.sent c (fun _ => none) }) s)
  | none => s

/-- A response of whole records: its words with a read EPOCH, and the unacknowledged response. -/
def buildBatch (c : Fin 4) (maxw : Nat) (s : State) : List Word × Option Unacked :=
  let x := s.merger.cursors[c]
  if maxw = 0 ∨ x.avail = 0 then ([], none)
  else
    let rs := (fitRecords (maxw - 3) (unreadRecords s (min maxw (x.avail + 1)) x.index x.avail)).flatten
    let ws := readEpoch s c ++ rs
    (ws, some { bytes := ofWords ws, queued := 4 * rs.length, epoch := true })

/-- A body of `n` words that begins with `ws`. -/
def filled (n : Nat) (ws : List Word) : List Word := ws ++ List.replicate (n - ws.length) fillWord

/-- READ_BATCH: result, body and state. -/
def batchRun (a0 maxw : Nat) (s : State) : Nat × List Word × State :=
  let c : Fin 2 := ix 2 (a0 % 2)
  let c4 : Fin 4 := ix 4 (a0 % 2)
  if c = 1 ∧ s.rbit (.hp .CFG) 0 29 = false then (rNotOwner, [], s)
  else if !(cursorOn s c4) then (rState, filled maxw [], s)
  else if s.merger.cursors[c4].offset ≠ 0 then (rState, [], s)
  else
    let fresh : Nat × List Word × State :=
      let (ws, u) := buildBatch c4 maxw s
      (rOk, filled maxw ws, match u with
        | some u => updHost (fun h => { h with sent := upd h.sent c (fun _ => some u) }) s
        | none => s)
    if a0 / 2 ^ 23 = 0 then fresh
    else match s.host.sent[c] with
      | some u => if maxw < u.bytes.length / 4 then (rBadArg, [], s) else (rOk, filled maxw (toWords u.bytes), s)
      | none => fresh

/-! ### Sessions (R379 to R381) -/

/-- The first four bytes of an AES-CMAC, as a word. -/
def tagWord (key msg : List Byte) : Word :=
  let b := cmacBytes key msg
  bytesWord [b.getD 3 0, b.getD 2 0, b.getD 1 0, b.getD 0 0]

/-- C of the next frame, four bytes little-endian. -/
def counterBytes (x : Session) : List Byte := leBytes (x.ctr + 1) 4

/-- The tags of R380; `first` is 0 for the host, 1 for the hub. -/
def sessionTag (x : Session) (first : Byte) (ws : List Word) : Word :=
  tagWord x.key (first :: counterBytes x ++ ws.flatMap wordBe)

/-- SESSION: OPEN draws NB, a free value; usage bit 7 lets a key slot serve sessions (R551). -/
def sessionRun (a0 : Nat) (body : List Word) (s : State) : Nat × List Word × State :=
  if a0 % 4 = 2 then (rOk, [], closeSession s)
  else
    let slot := a0 / 256 % 32
    let k := s.enclave.slots[ix 32 slot]
    if s.host.session.isSome then (rState, [], s)
    else if !(hasUsage k 2 128) then (rDenied, [], s)
    else if s.enclave.entFail then (rState, [], s)
    else
      let (n0, s) := s.free 32
      let (n1, s) := s.free 32
      let key := cmacBytes k.key (1 :: (body.take 2).flatMap wordBe ++ wordBe n0 ++ wordBe n1)
      (rOk, [n0, n1], updHost (fun h => { h with
        session := some { slot := slot, key := key, ctr := 0 }
        fails := 0 }) s)

/-- A tag that fails: FAILS rises, and the third in a row closes the session (R380, R381). -/
def tagFailed (s : State) : State :=
  let s := updHost (fun h => { h with fails := h.fails + 1 }) s
  if 3 ≤ s.host.fails then closeSession s else s

/-- A tag that matches: CTR becomes C and FAILS 0. -/
def tagMatched (s : State) : State :=
  updHost (fun h => { h with
    fails := 0
    session := h.session.map (fun x => { x with ctr := x.ctr + 1 }) }) s

/-- The session ends when CTR reaches 0xFFFF_FFFF (R381). -/
def counterEnd (s : State) : State :=
  match s.host.session with
  | some x => if 0xFFFFFFFF ≤ x.ctr then closeSession s else s
  | none => s

/-! ### Commands (R361 to R379) -/

/-- HELLO (R361). -/
def helloRun (v : Nat) (s : State) : Nat × List Word × State :=
  let ver := min v 3
  let body := [at_ 0x9640 16 ||| at_ 2 8 ||| at_ ver 0, at_ (b2n (chained s)) 1 ||| at_ (b2n (certified s)) 0]
  let t := s.setReg (.hp .VER) 0 (at_ 1 8 ||| at_ ver 0)
  (rOk, body, if ver < 3 then closeSession t else t)

/-- What a long command of the port gives. -/
def hostLong (op : Nat) (j : LongJob) (vddOk : Bool) (s : State) : Nat × List Word × State :=
  let (r, t) := longRun 1 op j vddOk s
  (r, [], t)

/-- A command whose header and arguments have passed: result, response body and state after its effect. `auth` tells a
frame authenticated in a session, `since` the edges from a SYNC's stamp to the accepting edge. -/
def hostCommand (op a0 a1 : Nat) (body : List Word) (auth vddOk : Bool) (since : Nat) (s : State) : Nat × List Word × State :=
  match op with
  | 0x01 => helloRun a0 s
  | 0x02 => windowReads .host auth a0 a1 s
  | 0x03 =>
    let (r, t) := windowWrites .host auth a0 (body.take a1) s
    (r, [], t)
  | 0x04 => batchRun a0 a1 s
  | 0x05 =>
    if a0 / 2 ^ 22 = 0 then
      let (r, t) := chunkRun a0 (body.take a1) s
      (r, [], t)
    else hostLong 0x05 (if a0 / 2 ^ 22 = 1 then .verify else .apply) vddOk s
  | 0x06 => hostLong 0x06 (.shunt (a0 % 2 == 1)) vddOk s
  | 0x07 => hostLong 0x07 .store vddOk s
  | 0x08 => (rOk, [], powerRequest a0 s)
  | 0x09 => (rOk, [s.reg (.hp .SYNCL), s.reg (.hp .SYNCH)], syncRun (.hp .SYNCL) (.hp .SYNCH) since s)
  | 0x0A => (rOk, almanacRun a0 a1 s, s)
  | 0x0B => (rOk, [], s.setReg (.hp .NMASK) 0 (at_ (a0 % 128) 0))
  | 0x0C => sessionRun a0 body s
  | _ => (rOk, [], s)

/-- A command: BADOP, BADVER and BADARG come first (R360 to R363; log entry 52). -/
def hostRun (op a0 a1 : Nat) (body : List Word) (auth vddOk : Bool) (since : Nat) (s : State) : Nat × List Word × State :=
  if !(opAvailable op s) then (rBadOp, [], s)
  else if hostVersion s < versionNeeded op a0 then (rBadVer, [], s)
  else if op ≠ 0 ∧ argsOk op a0 a1 = false then (rBadArg, [], s)
  else
    let (r, ws, t) := hostCommand op a0 a1 body auth vddOk since s
    (r, ws, if hasEffect r then t else { s with freeCount := t.freeCount })

/-! ### Direct mode (R354 to R358) -/

/-- The header check of R355. -/
def hcrcOk (w0 w1 : Word) : Bool :=
  fld w1 31 16 == (crc16 (wordBe w0 ++ [byteOf w1 1, byteOf w1 0])).toNat

/-- The words of HSDO in a command frame of `nw` words, of which `n` make the command (R354, R358, R380). -/
def hsdoWords (s : State) (hdr : Word) (n nw tres : Nat) (body : List Word) : List Word :=
  let k := match s.host.session with
    | some _ => n - 4
    | none => n - 3
  let b := (body ++ List.replicate (k - body.length) 0).take k
  let b := match s.host.session with
    | some x => b ++ [sessionTag x 1 b]
    | none => b
  ([(frameWord0 s).setWidth 32, hdr] ++ b ++ [at_ tres 24 ||| at_ (crcWords b) 0]).take nw

/-- The result of a whole frame whose header has passed, and the state after it. `rest` is HSDI from word 2 on. -/
def judgeFrame (n : Nat) (w0 w1 : Word) (rest : List Word) 
    (run : Bool → State → Nat × List Word × State) (s : State) : Nat × State :=
  let nw := rest.length + 2
  if n ≤ nw ∧ fld (rest.getD (n - 3) 0) 15 0 ≠ crcWords (rest.take (n - 3)) then (rBcrc, s)
  else if nw ≠ n then (rLength, s)
  else match s.host.session with
    | none =>
      let (r, _, t) := run false s
      (r, t)
    | some x =>
      if rest.getD (n - 4) 0 ≠ sessionTag x 0 (w0 :: w1 :: rest.take (n - 4)) then (rAuth, tagFailed s)
      else
        let (r, _, t) := run true (tagMatched s)
        (r, counterEnd t)

/-- A direct-mode command frame at its accepting edge. -/
def directFrame (op a0 : Nat) (w1 : Word) (rest : List Word) (extra : Nat) (vddOk : Bool) (since : Nat) (s : State) : State :=
  let w0 : Word := at_ (op % 256) 24 ||| at_ (a0 % 2 ^ 24) 0
  let a1 := fld w1 15 0
  let ok := hcrcOk w0 w1
  let (kc, kr) := bodyWords op a0 a1
  let n := max kc kr + 3 + b2n s.host.session.isSome
  let before := s
  let s := if ok && op == 4 && decide (a0 / 2 ^ 23 = 0) then batchAck (ix 2 (a0 % 2)) s else s
  let run (auth : Bool) (s : State) : Nat × List Word × State := hostRun op a0 a1 rest auth vddOk since s
  let shown : Nat × List Word := if ok then
      let (r, ws, _) := run s.host.session.isSome s
      (if 0 < kc then rPending else r, ws)
    else (rHcrc, [])
  let out := hsdoWords before w0 n (rest.length + 2) shown.1 shown.2
  let done (s : State) : State := updHost (fun h => { h with
    selected := false
    out := out }) s
  if extra % 32 ≠ 0 then done (frameLen s)
  else if !ok then done (hostResult op rHcrc s)
  else
    let (r, t) := judgeFrame n w0 w1 rest run s
    done (hostResult op r t)

/-! ### Chain mode (R382 to R385) -/

/-- The slot of R382, CRC field 0. -/
def inSlot (op arg data : Nat) : BitVec 64 := BitVec.ofNat 64 (op % 16 * 2 ^ 60 + arg % 2 ^ 20 * 2 ^ 32 + data % 2 ^ 32)

/-- The Teril arguments of a chain command. -/
def chainArg (op arg data : Nat) : Nat :=
  if op = 1 then (if arg = 0 then data else 0x1000000)
  else if op = 2 ∨ op = 3 then (if arg < 2 ^ 19 then 4 * arg else 1)
  else arg

/-- DATA of the next out slot: the word read, HELLO word 0, the low stamp of the SYNC. -/
def chainOut (op : Nat) (ws : List Word) (t : State) : Word :=
  if op = 1 ∨ op = 2 then ws.headD 0
  else if op = 9 then t.reg (.hp .SYNCL)
  else 0

/-- A chain-mode frame at its accepting edge. -/
def chainFrame (op : Nat) (arg : BitVec 20) (crc : BitVec 8) (data : Word) (extra : Nat) (vddOk : Bool) (since : Nat)
    (s : State) : State :=
  let first := frameWord0 s
  let out := [(first >>> 32).setWidth 32, first.setWidth 32]
  let done (s : State) : State := updHost (fun h => { h with
    selected := false
    out := out }) s
  let told (d : Word) (s : State) : State := updHost (fun h => { h with
    chainData := d
    chainAt := some s.now }) s
  let op := op % 16
  if extra % 64 ≠ 0 then done (frameLen s)
  else if crc8 (slotBytes64 (inSlot op arg.toNat data.toNat)) ≠ crc then done (told 0 (hostResult op rHcrc s))
  else
    let a1 := if op = 2 ∨ op = 3 then 1 else 0
    let (r, ws, t) := hostRun op (chainArg op arg.toNat data.toNat) a1 [data] false vddOk since s
    done (told (if hasEffect r then chainOut op ws t else 0) (hostResult op r t))

/-! ### Rows -/

/-- A frame with OP `op`; bits of ARG0 that select the row's command are forced. A frame of the other mode reaches
nothing: the environment shifts what HP_CFG.CHAIN selects. -/
def hostFrame (op : Nat) (force : Nat → Nat) (f : HostFrame) (vddOk : Bool) (since : Nat) (s : State) : State :=
  if !(hostOn s) then deselect s
  else match f with
    | .direct a0 w1 rest extra => if chained s then s else directFrame op (force a0.toNat) w1 rest extra vddOk since s
    | .chain a0 crc data extra => if chained s then chainFrame op a0 crc data extra vddOk since s else s

/-- LOAD_CONSIST with its PHASE. -/
def withPhase (p a0 : Nat) : Nat := a0 % 2 ^ 22 + p * 2 ^ 22

/-- SESSION with its action. -/
def withAction (k a0 : Nat) : Nat := a0 / 4 * 4 + k

end Sys2Proof.Machine
end

