-- ==== Sys2Proof/Machine/TwoWire.lean ====
section
/-! DEFINITION. The two-wire port: transactions, batch blocks, wake by address, Host Notify (R388 to R411). -/
namespace Sys2Proof.Machine

/-! ### The transaction (R395 to R397) -/

/-- The port serves transactions (R408, R411); the matcher holds none. -/
def twOn (s : State) : Bool := s.rbit (.tw .CFG) 0 31 && s.clk.busOn && s.power.hub == .on && s.tw.held.isNone

/-- The address byte; `read` is the direction bit. -/
def twAddrByte (read : Bool) (s : State) : Byte := BitVec.ofNat 8 (s.rfld (.tw .ADDR) 0 6 0 * 2 + b2n read)

/-- The status byte with this port's meaning (R359, R395). -/
def twStatus (s : State) : Nat :=
  b2n (twLevel s) * 64 + b2n (s.reg (.tw .STAT) &&& 0xFF8 != 0) * 32 + b2n (s.rbit (.tw .LONG) 0 23) * 16 +
  b2n (s.rbit (.tw .STAT) 0 0) * 8 + b2n s.safety.pinLow * 4 + b2n (s.rbit (.tw .NSRC) 0 5)

/-- The TW_STAT bit of a result (R411). -/
def twFlag (r : Nat) : Nat :=
  match r with
  | 0x00 => 0
  | 0x01 => 0x008
  | 0x03 => 0
  | 0x07 => 0x080
  | 0x08 => 0x040
  | _ => 0x020

/-- Set TW_STAT flags. -/
def twRaise (m : Nat) (s : State) : State := if m = 0 then s else s.orReg (.tw .STAT) 0 m

/-- A transaction with command code `code` ends with a result. -/
def twResult (code r : Nat) (s : State) : State :=
  twRaise (twFlag r) ((updTw (fun w => { w with busy := false }) s).setReg (.tw .RESULT) 0 (at_ code 8 ||| at_ r 0))

/-- The forms of a write transaction (R395): bytes of data, or the limits and the step of a block count, with `rest` bytes
that do not count for the step. -/
inductive TwForm where
  | bytes (n : Nat)
  | block (lo hi step rest : Nat)
  deriving DecidableEq, Repr

/-- The count byte of a block is allowed. -/
def countOk (f : TwForm) (n : Nat) : Bool :=
  match f with
  | .bytes _ => true
  | .block lo hi step rest => decide (lo ≤ n ∧ n ≤ hi ∧ (n - rest) % step = 0)

/-- The expected data bytes and what follows them. `none`: the count byte is missing. -/
def splitWrite (f : TwForm) (bs : List Byte) : Option (Nat × List Byte) :=
  match f, bs with
  | .bytes n, bs => some (n, bs)
  | .block _ _ _ _, [] => none
  | .block _ _ _ _, c :: rest => some (c.toNat, rest)

/-- Every byte of a write that its PEC covers (R397). -/
def pecInput (code : Nat) (f : TwForm) (bs : List Byte) (n : Nat) (s : State) : List Byte :=
  [twAddrByte false s, BitVec.ofNat 8 code] ++ bs.take (match f with
    | .bytes _ => n
    | .block _ _ _ _ => n + 1)

/-- A write transaction at its ending edge (R396): `bs` are the bytes after the command code, count byte and PEC included;
`run` is the command with its data bytes. -/
def twWriteRun (code : Nat) (f : TwForm) (bs : List Byte) (run : List Byte → State → Nat × State) (s : State) : State :=
  if !(twOn s) then s
  else match splitWrite f bs with
    | none => twResult code rLength s
    | some (n, rest) =>
      if !(countOk f n) then twResult code rBadArg s
      else if rest.length < n ∨ n + 1 < rest.length then twResult code rLength s
      else if rest.length = n + 1 ∧ rest.getD n 0 ≠ crc8 (pecInput code f bs n s) then twResult code rBcrc (twRaise 0x010 s)
      else if rest.length = n ∧ s.rbit (.tw .CFG) 0 29 = true then twResult code rBcrc s
      else
        let (r, t) := run (rest.take n) s
        twResult code r (if hasEffect r then t else s)

/-- A read transaction: `run` gives the result, the data bytes and the state; `counted` tells a Read Block. `end_` keeps
TW_RESULT where it is `none`. -/
def twReadRun (code : Nat) (counted keep : Bool) (k : TwTake) (run : Nat → State → Nat × List Byte × State) (s : State) : State :=
  if !(twOn s) then s
  else
    let (r, data, t) := run k.acked s
    let sent := (if counted then [BitVec.ofNat 8 data.length] else []) ++ data
    let pec := crc8 ([twAddrByte false s, BitVec.ofNat 8 code, twAddrByte true s] ++ sent)
    let t := updTw (fun w => { w with
      busy := false
      out := sent ++ (if k.pec then [pec] else []) }) t
    let t := if keep then t else twResult code r t
    if k.extra = 0 then t else twRaise 0x100 t

/-! ### Commands without a window -/

/-- TW_STATUS: the status byte and the last final RESULT. TW_RESULT keeps its value (log entry 53). -/
def twStatusRun (_acked : Nat) (s : State) : Nat × List Byte × State :=
  (rOk, [BitVec.ofNat 8 (twStatus s), BitVec.ofNat 8 (s.rfld (.tw .RESULT) 0 7 0)], s)

/-- TW_HELLO: the two words of R361 with version 2; NEW clears. -/
def twHelloRun (_acked : Nat) (s : State) : Nat × List Byte × State :=
  let ws : List Word := [at_ 0x9640 16 ||| at_ 2 8 ||| at_ 2 0, at_ (b2n (chained s)) 1 ||| at_ (b2n (certified s)) 0]
  (rOk, ofWords ws, s.clrReg (.tw .NSRC) 0 0x20)

/-- TW_POINTER. -/
def pointerRun (bs : List Byte) (s : State) : Nat × State :=
  let off := leNat (bs.take 3)
  let n := (bs.getD 3 0).toNat
  if off % 4 ≠ 0 ∨ n = 0 ∨ 63 < n then (rBadArg, s) else (rOk, s.setReg (.tw .PTR) 0 (at_ n 26 ||| at_ off 0))

/-- OFFSET goes on by a number of words. -/
def pointerOn (n : Nat) (s : State) : State := s.setFld (.tw .PTR) 0 23 0 ((s.rfld (.tw .PTR) 0 23 0 + 4 * n) % 2 ^ 24)

/-- Words read from an offset; a word has its side effects only when its fourth byte is acknowledged (R398, R401). -/
def twWords (limit : Nat) : Nat → Nat → Nat → State → List Word × State
  | 0, _, _, s => ([], s)
  | n + 1, off, acked, s =>
    let (w, t) := if off < limit then portRead .twoWire off s else (0, s)
    let (ws, t) := twWords limit n (off + 4) (acked - 4) (if 4 ≤ acked then t else { s with freeCount := t.freeCount })
    (w :: ws, t)

/-- TW_READ_REG. -/
def twReadReg (acked : Nat) (s : State) : Nat × List Byte × State :=
  let off := s.rfld (.tw .PTR) 0 23 0
  let n := s.rfld (.tw .PTR) 0 31 26
  match governing false false off s with
  | none => (rDenied, List.replicate (4 * n) 0, s)
  | some w =>
    let (ws, t) := twWords (rangeEnd w) n off acked s
    (windowResult false false off n s, ofWords ws, pointerOn n t)

/-- TW_WRITE_REG. -/
def twWriteReg (bs : List Byte) (s : State) : Nat × State :=
  let ws := toWords bs
  let (r, t) := windowWrites .twoWire false (s.rfld (.tw .PTR) 0 23 0) ws s
  (r, pointerOn ws.length t)

/-! ### Batch blocks (R400 to R402) -/

/-- Bytes unread from the cursor's offset. -/
def unreadBytes (c : Cursor) : Nat := 4 * c.avail - c.offset

/-- `n` bytes of the queue from the cursor's offset. -/
def queueBytes (s : State) (c : Cursor) (n : Nat) : List Byte :=
  ((List.range ((c.offset + n + 3) / 4)).flatMap (fun i => wordBytes (queueWord s (c.index + i)))).drop c.offset |>.take n

/-- The block that a read of cursor 1 returns, and whether it begins with a read EPOCH. -/
def twBlock (s : State) : List Byte × Bool :=
  let c := s.merger.cursors[1]
  if c.avail = 0 then ([], false)
  else
    let head := if c.offset = 0 then ofWords (readEpoch s 1) else []
    let n := min (s.rfld (.tw .BCFG) 0 7 0) (unreadBytes c + head.length)
    ((head ++ queueBytes s c (n - head.length)).take n, c.offset == 0)

/-- What `acked` bytes of a block deliver. -/
def blockTaken (bytes : List Byte) (epoch : Bool) (acked : Nat) : Unacked :=
  let n := min acked bytes.length
  { bytes := bytes, queued := if epoch then n - 12 else n, epoch := epoch && decide (12 ≤ n) }

/-- An undelivered block is delivered (R402). -/
def deliverHeld (s : State) : State :=
  match s.tw.sent with
  | some u => deliver 1 u (updTw (fun w => { w with sent := none }) s)
  | none => s

/-- What refuses a batch read on this port (R400). -/
def batchRefused (s : State) : Nat :=
  if s.rbit (.hp .CFG) 0 29 then rNotOwner else if cursorOn s 1 then rOk else rState

/-- A new block. -/
def newBlock (acked : Nat) (s : State) : Nat × List Byte × State :=
  let r := batchRefused s
  if r ≠ rOk then (r, [], s)
  else
    let (bytes, epoch) := twBlock s
    let u := blockTaken bytes epoch acked
    if bytes.isEmpty then (rOk, [], s)
    else if s.rbit (.tw .CFG) 0 28 then (rOk, bytes, updTw (fun w => { w with sent := some u }) s)
    else (rOk, bytes, deliver 1 u s)

/-- TW_READ_BATCH. -/
def twBatch (acked : Nat) (s : State) : Nat × List Byte × State := newBlock acked (deliverHeld s)

/-- A block that begins at offset 0 begins with a read EPOCH, whose header is its first word. -/
def heldEpoch (s : State) : Bool := s.merger.cursors[1].offset == 0

/-- TW_BATCH_AGAIN with BDEFER at 1. -/
def twAgain (acked : Nat) (s : State) : Nat × List Byte × State :=
  let r := batchRefused s
  if r ≠ rOk then (r, [], s)
  else match s.tw.sent with
    | some u =>
      let v := blockTaken u.bytes (heldEpoch s) acked
      let w : Unacked := { bytes := u.bytes, queued := max u.queued v.queued, epoch := u.epoch || v.epoch }
      (rOk, u.bytes, updTw (fun x => { x with sent := some w }) s)
    | none => newBlock acked s

/-- BATCH_AGAIN with BDEFER at 0: its read address is not acknowledged. -/
def batchAgain (k : TwTake) (s : State) : State :=
  if twOn s && !(s.rbit (.tw .CFG) 0 28) then twRaise 0x020 (updTw (fun w => { w with busy := false }) s)
  else twReadRun 0x06 true false k twAgain s

/-! ### Consist, power, SYNC, almanac, notify -/

/-- An image chunk (R403). -/
def twChunk (bs : List Byte) (s : State) : Nat × State := chunkRun (leNat (bs.take 2)) (toWords (bs.drop 2)) s

/-- The phase byte of the row: verify 1 or apply 2, with unused bits as sent. -/
def phaseByte (p : Nat) (bs : List Byte) : List Byte :=
  match bs with
  | [] => []
  | b :: rest => BitVec.ofNat 8 (b.toNat / 4 * 4 + p) :: rest

def twPhase (j : LongJob) (p : Nat) (bs : List Byte) (s : State) : Nat × State :=
  if (bs.getD 0 0).toNat ≠ p then (rBadArg, s) else longRun 2 0x08 j true s

def twShunt (bs : List Byte) (s : State) : Nat × State :=
  let b := (bs.getD 0 0).toNat
  if 1 < b then (rBadArg, s) else longRun 2 0x09 (.shunt (b == 1)) true s

def twStore (vddOk : Bool) (_bs : List Byte) (s : State) : Nat × State := longRun 2 0x0A .store vddOk s

def twPower (bs : List Byte) (s : State) : Nat × State :=
  let b := (bs.getD 0 0).toNat
  if 3 < b then (rBadArg, s) else (rOk, powerRequest b s)

def twSync (since : Nat) (_bs : List Byte) (s : State) : Nat × State := (rOk, syncRun (.tw .SYNCL) (.tw .SYNCH) since s)

def twSyncRead (_acked : Nat) (s : State) : Nat × List Byte × State :=
  (rOk, ofWords [s.reg (.tw .SYNCL), s.reg (.tw .SYNCH)], s)

def twAlmanacPtr (bs : List Byte) (s : State) : Nat × State :=
  let v := leNat (bs.take 2)
  if v / 1024 % 4 ≠ 0 ∨ v / 4096 = 0 then (rBadArg, s) else (rOk, s.setReg (.tw .APTR) 0 (at_ v 0))

def twAlmanac (_acked : Nat) (s : State) : Nat × List Byte × State :=
  let first := s.rfld (.tw .APTR) 0 9 0
  let n := s.rfld (.tw .APTR) 0 15 12
  (rOk, ofWords (almanacRun first n s), s.setFld (.tw .APTR) 0 9 0 ((first + n) % 1024))

def twNotifyCfg (bs : List Byte) (s : State) : Nat × State :=
  let v := leNat (bs.take 2)
  if 128 ≤ v then (rBadArg, s) else (rOk, twNotice s (s.setReg (.tw .NMASK) 0 (at_ v 0)))

/-- A code or a form that the port does not know (R395): no effect but CMDERR. -/
def twUnknown (s : State) : State :=
  if twOn s then twRaise 0x020 (updTw (fun w => { w with busy := false }) s) else s

/-! ### Time limits (R392, R393) -/

/-- STRETCH_TIMEOUT in a transaction with command code `code`. -/
def stretchTimeout (code : Nat) (s : State) : State :=
  if twOn s then twResult code rBusy (twRaise 0x200 s) else s

/-- BUS_TIMEOUT. -/
def busTimeout (s : State) : State :=
  if s.rbit (.tw .CFG) 0 31 && s.clk.busOn && s.power.hub == .on then
    twRaise 0x400 (updTw (fun w => { w with
      busy := false
      held := none }) s)
  else s

/-! ### Wake by address (R406, R407) -/

/-- ADDRESS_MATCH: in Lull the matcher acknowledges, holds SCL and raises the two-wire match wake. -/
def addressMatch (s : State) : State :=
  if s.power.hub == .lull && s.rbit (.tw .CFG) 0 31 && s.tw.held.isNone then
    let t := updTw (fun w => { w with
      busy := true
      held := some s.now }) s
    levelsFrom s (updPower (fun p => { p with twMatch := true }) t)
  else s

/-- TW_TAKEOVER: the port runs and takes the held transaction over. -/
def twTakeover (s : State) : State :=
  if s.tw.held.isSome && s.clk.busOn && s.power.hub == .on then
    levelsFrom s (updPower (fun p => { p with twMatch := false }) (updTw (fun w => { w with held := none }) s))
  else s

/-- MATCHER_RELEASE: no takeover within 60 µs of the hold. -/
def matcherRelease (s : State) : State :=
  match s.tw.held with
  | some t =>
    if reached s (stAdd t (us 60)) then
      let u := updPower (fun p => { p with twMatch := false }) (updTw (fun w => { w with
        busy := false
        held := none }) s)
      twRaise 0x200 (levelsFrom s u)
    else s
  | none => s

/-- CALM_ADDRESS_WAKE: in Calm a match of the address starts the wake, without ACK. -/
def calmAddressWake (s : State) : State := if s.power.hub == .calm then calmWake (wakeIsDue 5 s) else s

/-! ### Host Notify (R409, R410) -/

/-- The three bytes of the message. -/
def notifyBytes (s : State) : List Byte :=
  [twAddrByte false s, ((twSources s &&& s.reg (.tw .NMASK)) &&& 0xFF).setWidth 8, BitVec.ofNat 8 (twStatus s)]

/-- A failed attempt: the eighth abandons the notification. -/
def notifyFailed (hi lo : Nat) (s : State) : State :=
  let s := updTw (fun w => { w with tries := w.tries + 1 }) (s.countFld (.tw .NOTIFYLOST) 0 hi lo 1)
  if 8 ≤ s.tw.tries then twRaise 0x800 (updTw (fun w => { w with notify := false }) s) else s

/-- HOST_NOTIFY: an attempt on an idle bus and its end. -/
def hostNotify (e : NotifyEnd) (s : State) : State :=
  if !(twOn s) || !s.tw.notify || s.power.parked[9] then s
  else match e with
    | .sent => updTw (fun w => { w with
        notify := false
        out := notifyBytes s }) s
    | .arb => notifyFailed 15 0 s
    | .nack => notifyFailed 31 16 s

end Sys2Proof.Machine
end

