-- ==== Sys2Proof/Machine/Tick.lean ====
section
/-! DEFINITION. The passing of time: what one clock edge does when no command waits (R14, R17 to R23, R430, R447, R480, R499).
DESIGN CHOICE, log entry 7: a step on an empty queue is one BUSCLK edge, or one X32 edge while BUSCLK is stopped. The work
of an edge that needs nothing from outside is done here; every other event has its own command. -/
namespace Sys2Proof.Machine

/-! ### Counters -/

/-- One X32 edge while the Vane counter is the stamp source (R21). -/
def vaneCount (c : Clock) : Clock :=
  if 16 ≤ c.acc + 11 then { c with
    acc := c.acc + 11 - 16
    vane := stAdd c.vane 2930 }
  else { c with
    acc := c.acc + 11
    vane := stAdd c.vane 2929 }

/-- An X32 edge while BUSCLK runs: a realignment (R20), or step 3 of R23. -/
def x32Edge (c : Clock) : Clock :=
  match c.source with
  | .bus => { c with
      vane := c.bus
      acc := 0 }
  | .vane => { vaneCount c with handoverDue := true }

/-- One BUSCLK edge: 16/46,875 of an X32 period passes (R21). -/
def busCount (c : Clock) : Clock :=
  let c := { c with
    edge := c.edge + 1
    bus := stAdd c.bus 1 }
  if 46875 ≤ c.x32phase + 16 then
    let c := { c with x32phase := c.x32phase + 16 - 46875 }
    if c.x32On then x32Edge c else c
  else { c with x32phase := c.x32phase + 16 }

/-! ### Timers -/

/-- The count edges of the BUSCLK edge that ends (R447, R448, R452). -/
def settleAll (s : State) : State := (List.finRange 16).foldl (fun s n => settle n s) s

/-- The next edge is a count edge candidate of every running timer; captures of the last edge publish CAP (R466). -/
def timersNext (s : State) : State :=
  let caps := (List.finRange 16).filter (fun n => s.timers[n].capDue)
  let s := { s with timers := s.timers.map (fun (t : Timer) => { t with
    due := t.run
    capDue := false }) }
  caps.foldl (fun s n => publish prTimer n.val 3 s) s

/-! ### Edges -/

/-- Power control's sampling of the handshake, and its outcome (R499, R501). -/
def handshakeEdge (s : State) : State :=
  if s.power.phase = .handshake then handshakeTimeout (handshakeCommit (handshakeRefuse (sampleBlocks s))) else s

/-- The merger at an edge (R243, R246, R255). -/
def mergerEdge (s : State) : State := overflowExit (recordWrite (epochWrite (stampHighChange s)))

/-- Levels that the passing of the stamp raises: the RTC alarm (R510). -/
def alarmEdge (before s : State) : State := levelsFrom before s

/-- One BUSCLK edge with its work. -/
def busTick (s : State) : State :=
  let before := s
  let s := settleAll s
  let s := stampHandover s
  let s := { s with clk := busCount s.clk }
  let s := timersNext s
  let s := eventDelivery s
  let s := mergerEdge s
  let s := almanacWrite s
  let s := alarmEdge before s
  let s := interruptRoute s
  let s := faultRelease s
  let s := handshakeEdge s
  performWaiting (noteBusy s)

/-- One X32 edge while BUSCLK is stopped (R17, R21). -/
def x32Tick (s : State) : State :=
  if s.clk.x32On then
    let before := s
    let s := { s with clk := vaneCount s.clk }
    faultRelease (alarmEdge before (almanacWrite s))
  else s

/-- The hub with no command waiting: time passes, unless the hub has no power. -/
def idle (s : State) : State :=
  match s.power.hub with
  | .off => s
  | _ => if s.clk.busOn then busTick s else x32Tick s

end Sys2Proof.Machine
end

