-- ==== Sys2Proof/Machine/RegAccess.lean ====
section
/-! DEFINITION. Commands that are one register access: a 32-bit read or write of a named register by an accessor, through
the same gates as any access (R35 to R43); and the small choices that some commands make. A port's access is one that its
window has granted (R364). -/
namespace Sys2Proof.Machine

/-! ### One access -/

/-- A write of entry `i` of a register by an accessor. -/
def regPut (a : Accessor) (r : Reg) (i : Nat) (v : Word) (s : State) : State :=
  regWrite a r (wr r v i) (writeReg a { reg := r, i := i, bus := 0 }) s

/-- A read of entry `i` of a register by an accessor. -/
def regGet (a : Accessor) (r : Reg) (i : Nat) (s : State) : State :=
  regRead a r (rd r i) (readReg a { reg := r, i := i, bus := 0 }) s

/-- A write of a register of drawbar block `b`. -/
def busPut (a : Accessor) (r : Reg) (b : Fin 2) (v : Word) (s : State) : State :=
  regWrite a r (wr r v 0 b.val) (writeReg a { reg := r, i := 0, bus := b }) s

/-- A read of a register of drawbar block `b`. -/
def busGet (a : Accessor) (r : Reg) (b : Fin 2) (s : State) : State :=
  regRead a r (rd r 0 b.val) (readReg a { reg := r, i := 0, bus := b }) s

/-- The low word of a wide value (R38). -/
def wideRead (a : Accessor) (w : WideValue) (s : State) : State :=
  match w with
  | .stamp => regGet a (.pw .STAMPL) 0 s
  | .members n => regGet a (.cw .TMEML) n.val s
  | .accumulator p => regGet a (.cw .ACCL) p.val s
  | .position => regGet a (.ds .POSL) 0 s
  | .captureStamp => regGet a (.tm .CAPSTL) 0 s
  | .oldest => regGet a (.rk .OLDL) 0 s
  | .uid => regGet a (.nv .UIDL) 0 s
  | .hostSync => regGet a (.hp .SYNCL) 0 s
  | .twSync => regGet a (.tw .SYNCL) 0 s
  | .alarm => regGet a (.vn .ALARML) 0 s
  | .lastEvent => regGet a (.ev .LASTST) 0 s
  | .packet b => busGet a (.db .AR) b s

/-- The low-word write of a writable wide value (R38); its high word was staged by a plain register write. -/
def wideWrite (a : Accessor) (w : WideInput) (v : Word) (s : State) : State :=
  match w with
  | .position => regPut a (.ds .POSL) 0 v s
  | .alarm => regPut a (.vn .ALARML) 0 v s

/-- A write of a select register (R37, R43). -/
def selectWrite (a : Accessor) (q : SelectName) (v : Word) (s : State) : State :=
  match q with
  | .lanes => regPut a (.ln .SEL) 0 v s
  | .drives => regPut a (.ds .SEL) 0 v s
  | .timers => regPut a (.tm .SEL) 0 v s
  | .profiles => regPut a (.sp .SEL) 0 v s
  | .channels => regPut a (.ev .SEL) 0 v s
  | .actuators b => busPut a (.db .ASEL) b v s

/-- A write of a factory trim register (R112). -/
def trimWrite (a : Accessor) (which : TrimName) (v : Word) (s : State) : State :=
  match which with
  | .reference => regPut a (.ca .TRIMREF) 0 v s
  | .temperature => regPut a (.ca .TRIMTS) 0 v s
  | .vrc => regPut a (.ca .TRIMVRC) 0 v s
  | .drawbar => regPut a (.ca .TRIMDB) 0 v s
  | .sets => regPut a (.ca .SETINIT) 0 v s

/-- A write of a binding entry of the selected channel (R440). -/
def routeWrite (a : Accessor) (e : RouteEntry) (v : Word) (s : State) : State :=
  match e with
  | .pub k => regPut a (.ev .PUB) k.val v s
  | .sub k => regPut a (.ev .SUB) k.val v s

/-! ### Slots, timers, task inputs -/

/-- A command of a drive slot (R201). Only FWD, REV and OFF have task inputs (R442); parked slots start nothing (R499); a
service commands the slots it owns (R204). -/
def slotCommand (code value : Nat) (act : Fin 32 → CmdSource → State → State) (via : SlotVia) (s : State) : State :=
  match via with
  | .register a => regPut a (.ds .CMD) 0 (at_ code 28 ||| at_ value 0) s
  | .task d => if 3 < code ∨ (code ≠ 3 ∧ s.power.parked[4] = true) then s else act d .task s
  | .service n d => if s.slots[d].owner = n.val + 1 then act d (.service (n.val + 1)) s else s

/-- START, STOP or CLEAR by TM_CMD or by the task input (R449 to R451); parked timers start nothing (R499). -/
def timerVia (bits : Nat) (act : Fin 16 → State → State) (via : TimerVia) (s : State) : State :=
  match via with
  | .register a => regPut a (.tm .CMD) 0 (BitVec.ofNat 32 bits) s
  | .task n => if bits = 1 ∧ s.power.parked[12] = true then s else act n s

/-- A capture (R461): a pin edge counts in TIOMODE 2 and of the kind that EDGE selects. -/
def captureVia (via : CaptureVia) (s : State) : State :=
  match via with
  | .register a => regPut a (.tm .CMD) 0 8 s
  | .task n => timerCapture n (settle n s)
  | .pin n rising =>
    let kind := s.rfld (.tm .CFG) n.val 27 26
    if s.rfld (.tm .CFG) n.val 29 28 = 2 ∧ (kind = 2 ∨ (kind = 0 ∧ rising) ∨ (kind = 1 ∧ !rising)) then
      timerCapture n (settle n s)
    else s

/-- The count edge of this BUSCLK edge is the one that a command names. -/
def takeEdge (n : Fin 16) (s : State) : State := updTimer n (fun t => { t with due := false }) s

/-- TIMER_WRAP (R447). -/
def wrapEdge (n : Fin 16) (s : State) : State := if wrapNext s n then timerWrap n (takeEdge n s) else s

/-- COMPARE_FIRE (R453): the count edge at which the count takes the value of a compare that has not fired. -/
def compareEdge (n : Fin 16) (s : State) : State :=
  let t := s.timers[n]
  if t.run && !wrapNext s n &&
     ((!t.aFired && t.count + 1 == s.reg (.tm .CMPA) n.val) || (!t.bFired && t.count + 1 == s.reg (.tm .CMPB) n.val)) then
    countEdge n (takeEdge n s)
  else s

/-- The task input of stored command `k` (R336, R442): busy while its last command is queued or in its exchange. -/
def storedTask (b : Fin 2) (k : Fin 8) (s : State) : State :=
  if storedBusy s b k.val then s.orReg (.ev .STAT) 0 (2 ^ 2) else storedTrigger b k.val s

/-- The trigger input of sensor profile `k` (R416, R436). -/
def profileTask (k : Fin 16) (s : State) : State :=
  let (missed, t) := profileTrigger k s
  if missed then (t.orReg (.ev .SPMISS) 0 (2 ^ k.val)).orReg (.ev .STAT) 0 (2 ^ 2) else t

/-! ### Ports -/

/-- BADOP_FRAME (R363, R385): an OP that the table or the mode does not have. -/
def badOpFrame (op : BitVec 8) (f : HostFrame) (s : State) : State :=
  if opAvailable op.toNat s then s else hostFrame op.toNat id f true 0 s

/-- TW_UNKNOWN_CODE (R395). -/
def twUnknownCode (code : BitVec 8) (s : State) : State := if code.toNat ≤ 0x10 then s else twUnknown s

/-! ### Cores, wakes, resets, storage -/

/-- A fault of an application core that runs (R474). -/
def coreFails (x : Fin 2) (why : CoreFault) (s : State) : State :=
  let y : Fin 3 := ix 3 x.val
  if (s.ic.cores[y]).inReset then s
  else match why with
    | .tcm addr => tcmError y addr s
    | .lockup => coreFault y 3 s

/-- CORE_WFI (R493); in Lull a pending interrupt of the Vane keeps it running. -/
def coreWaits (x : Fin 3) (s : State) : State :=
  if x = vaneCore ∧ s.power.hub = .lull ∧ vaneIrq s = true then s else coreWfi x s

/-- WAKE_LATCH_SET (R488). -/
def wakeLatch (w : WakeLatch) (s : State) : State :=
  match w with
  | .pin k => wakeLatchSet (ix 160 (64 + k.val)) s
  | .hostSelect => wakeLatchSet 70 s

/-- PIN_RESET (R522, R523): RESET_N low for `low` nanoseconds. Between 200 ns and 1 µs it is undefined whether the hub
resets: a free value decides. -/
def pinReset (low : Nat) (s : State) : State :=
  if s.power.hub = .off ∨ low < 200 then s
  else if 1000 ≤ low then keepReset causePin s
  else
    let (v, s) := s.free 1
    if v = 1 then keepReset causePin s else s

/-- NV_CMD STORE (R538), with the supply's state at the edge. -/
def storeCommand (a : Accessor) (vddOk : Bool) (s : State) : State :=
  regWrite a (.nv .CMD) (wr (.nv .CMD) (at_ 5 28)) (fun v s => nvWrite a .CMD 0 vddOk v s) s

/-- A write of SE_CMD (R561). -/
def mailbox (code : Nat) (a : Accessor) (slot : Fin 32) (len : BitVec 16) (s : State) : State :=
  regPut a (.se .CMD) 0 (at_ code 24 ||| at_ slot.val 16 ||| len.setWidth 32) s

end Sys2Proof.Machine
end

