-- ==== Sys2Proof/Machine/ConsistRows.lean ====
section
/-! DEFINITION. The commands of trains, spares, diagnostics and the consist loader (chapters 04 and 05). -/
namespace Sys2Proof.Machine

/-- CARRIAGE_SUBST_COMPLETE (R150): The spare has loaded from the cache and the train has restarted; the merger
takes GAP and CARRIAGE_SUBST. -/
def execCarriageSubstComplete (n : Fin 16) (s : State) : Host.Outcome State Fault Refusal :=
  .next (carSubstComplete n s)

/-- OUTLET_WORD_RELEASE (R143): The outlet releases a word to the merger as MEASURE and/or to drive slots. -/
def execOutletWordRelease (n : Fin 16) (o : Fin 4) (s : State) : Host.Outcome State Fault Refusal :=
  .next (outletRelease n o s)

/-- TRAIN_START (R140): A CW_TSTART bit starts a READY or STOPPED train; its carriages clear their state and reload
state words. -/
def execTrainStart (a : Accessor) (mask : BitVec 16) (s : State) : Host.Outcome State Fault Refusal :=
  .next (regPut a (.cw .TSTART) 0 (mask.setWidth 32) s)

/-- TRAIN_START_COMPLETE (R140): When the last carriage has finished its start, taps pass words and the train is
WARMING or RUNNING. -/
def execTrainStartComplete (n : Fin 16) (s : State) : Host.Outcome State Fault Refusal :=
  .next (loaderStarted (trainStartComplete n s))

/-- TRAIN_STOP (R142): A CW_TSTOP bit stops the taps and makes the train DRAINING. -/
def execTrainStop (a : Accessor) (mask : BitVec 16) (s : State) : Host.Outcome State Fault Refusal :=
  .next (regPut a (.cw .TSTOP) 0 (mask.setWidth 32) s)

/-- TRAIN_DRAINED (R142): When all FIFOs are empty and every carriage waits, the train becomes STOPPED. -/
def execTrainDrained (n : Fin 16) (s : State) : Host.Outcome State Fault Refusal := .next (trainDrained n s)

/-- DRAIN_CUT (R142): 100 µs after a stop the train becomes STOPPED, discards its words, and gets GAPs with CAUSE
10. -/
def execDrainCut (n : Fin 16) (s : State) : Host.Outcome State Fault Refusal := .next (drainCut n s)

/-- SPARE_BIST_ROUND (R149): A free spare's built-in test round ends; a failure fences the spare. -/
def execSpareBistRound (k : Fin 4) (pass : Bool) (s : State) : Host.Outcome State Fault Refusal :=
  .next (bistRound k pass s)

/-- CARRIAGE_RETEST (R157): CW_PCMD.RETEST starts a retest of a fenced position. -/
def execCarriageRetest (a : Accessor) (p : Fin 68) (s : State) : Host.Outcome State Fault Refusal :=
  .next (regPut a (.cw .PCMD) 0 (at_ 1 31 ||| at_ p.val 0) s)

/-- CARRIAGE_RETEST_DONE (R157): A retest ends; the position becomes free spare or recovered, or returns to fenced
with CAUSE 6. -/
def execCarriageRetestDone (p : Fin 68) (pass : Bool) (s : State) : Host.Outcome State Fault Refusal :=
  .next (carRetestDone p pass s)

/-- DIAGNOSTIC_WRITE (R160): A diagnostic store write is ignored with DIAGWR in a running train, and otherwise
applied. -/
def execDiagnosticWrite (a : Accessor) (p : Fin 68) (w : Fin 512) (v : Word) (s : State) : Host.Outcome State Fault Refusal :=
  .next (busWrite a (carAddr p w.val) 4 v s)

/-- CONSIST_VERIFY (R181): CW_LDCMD CMD 1 locks the staging buffer and checks the staged image up to BADSECT. -/
def execConsistVerify (a : Accessor) (s : State) : Host.Outcome State Fault Refusal :=
  .next (regPut a (.cw .LDCMD) 0 1 s)

/-- APPLY_FULL_IMAGE (R182): CW_LDCMD CMD 2 checks or rechecks the staged full image and starts the full load. -/
def execApplyFullImage (a : Accessor) (s : State) : Host.Outcome State Fault Refusal :=
  .next (regPut a (.cw .LDCMD) 0 2 s)

/-- APPLY_SHUNT_IMAGE (R182): CW_LDCMD CMD 3 checks the staged shunt image and starts an in-place shunt or a
handover. -/
def execApplyShuntImage (a : Accessor) (handover : Bool) (s : State) : Host.Outcome State Fault Refusal :=
  .next (regPut a (.cw .LDCMD) 0 (3 ||| at_ (b2n handover) 5) s)

/-- APPLY_SLOT (R180): CW_LDCMD CMD 4 checks and applies a consist slot as a full image. -/
def execApplySlot (a : Accessor) (slot : Fin 2) (s : State) : Host.Outcome State Fault Refusal :=
  .next (regPut a (.cw .LDCMD) 0 (4 ||| at_ slot.val 4) s)

/-- CONSIST_ABORT (R615): CW_LDCMD CMD 5 aborts a verify, a check or a handover before E, or ends the lock. -/
def execConsistAbort (a : Accessor) (s : State) : Host.Outcome State Fault Refusal :=
  .next (regPut a (.cw .LDCMD) 0 5 s)

/-- CONSIST_CHECK_DONE (R174): The image check ends with a result code, and the image is staged or applied. -/
def execConsistCheckDone (s : State) : Host.Outcome State Fault Refusal := .next (checkDone s)

/-- FULL_LOAD_TRAINS_STOPPED (R186): Once every train is STOPPED, all trains become EMPTY and the loader writes the
new consist. -/
def execFullLoadTrainsStopped (s : State) : Host.Outcome State Fault Refusal := .next (fullTrainsStopped s)

/-- FULL_LOAD_WRITTEN (R186): Loading ends; the trains are READY, the active registers update, and autostart or lane
enables follow. -/
def execFullLoadWritten (s : State) : Host.Outcome State Fault Refusal := .next (fullWritten s)

/-- IN_PLACE_SHUNT_STOPPED (R189): The shunted trains are STOPPED, become EMPTY and are rewritten. -/
def execInPlaceShuntStopped (s : State) : Host.Outcome State Fault Refusal := .next (shuntStopped s)

/-- IN_PLACE_SHUNT_LOADED (R189): The shunted trains are READY and start if AUTOSTART is 1. -/
def execInPlaceShuntLoaded (s : State) : Host.Outcome State Fault Refusal := .next (shuntLoaded s)

/-- HANDOVER_STAGING_LOADED (R190): The staging train is written and started with its outputs suppressed. -/
def execHandoverStagingLoaded (s : State) : Host.Outcome State Fault Refusal := .next (stagingLoaded s)

/-- HANDOVER_OLD_STOPPED (R190): The old carriage set has passed Sw on every stream, or 100 µs have passed; it
becomes EMPTY. -/
def execHandoverOldStopped (s : State) : Host.Outcome State Fault Refusal := .next (handoverOldStopped s)

/-- HANDOVER_TIMEOUT (R191): E has not come within CW_SHCTRL.LIMIT; the handover ends with TIMEOUT. -/
def execHandoverTimeout (s : State) : Host.Outcome State Fault Refusal := .next (handoverTimeout s)

/-- STAGING_CONFIG_WRITE (R194): A write of CW_STGBASE or CW_STGLEN is ignored if staged, busy or out of range. -/
def execStagingConfigWrite (a : Accessor) (length : Bool) (v : Word) (s : State) : Host.Outcome State Fault Refusal :=
  .next (regPut a (if length then .cw .STGLEN else .cw .STGBASE) 0 v s)

end Sys2Proof.Machine
end

