-- ==== Sys2Proof/Machine/CoreRows.lean ====
section
/-! DEFINITION. The commands of the interrupt controller and the processors (chapters 15 and 16). -/
namespace Sys2Proof.Machine

/-- INTERRUPT_ROUTE (R480): A pending source is routed to the eligible processor with the lowest running level. -/
def execInterruptRoute (s : State) : Host.Outcome State Fault Refusal := .next (interruptRoute s)

/-- INTERRUPT_CLAIM (R483): A read of IC_CLAIMx takes the highest routed source into service. -/
def execInterruptClaim (a : Accessor) (x : Fin 3) (s : State) : Host.Outcome State Fault Refusal :=
  .next (regGet a (.ic .CLAIMx) x.val s)

/-- INTERRUPT_COMPLETE (R484): A write of IC_COMPLETEx ends service of a source. -/
def execInterruptComplete (a : Accessor) (x : Fin 3) (v : Word) (s : State) : Host.Outcome State Fault Refusal :=
  .next (regPut a (.ic .COMPLETEx) x.val v s)

/-- SOFTWARE_INTERRUPT_SET (R485): IC_SWSET sets software source latches. -/
def execSoftwareInterruptSet (a : Accessor) (v : Word) (s : State) : Host.Outcome State Fault Refusal :=
  .next (regPut a (.ic .SWSET) 0 v s)

/-- SOURCE_CONFIG_WRITE (R486): A write of IC_SRCn changes priority or target. -/
def execSourceConfigWrite (a : Accessor) (n : Fin 160) (v : Word) (s : State) : Host.Outcome State Fault Refusal :=
  .next (regPut a (.ic .SRC) n.val v s)

/-- CORE_ACCEPT_WRITE (R481): A write of IC_CPUCTLx.ACCEPT lets a core take sources. -/
def execCoreAcceptWrite (a : Accessor) (x : Fin 3) (v : Word) (s : State) : Host.Outcome State Fault Refusal :=
  .next (regPut a (.ic .CPUCTLx) x.val (v &&& ~~~1) s)

/-- CORE_RESET_REQUEST (R474): A write of IC_CPUCTLx.RESET causes a fault reset with cause 4. -/
def execCoreResetRequest (a : Accessor) (x : Fin 3) (v : Word) (s : State) : Host.Outcome State Fault Refusal :=
  .next (regPut a (.ic .CPUCTLx) x.val (v ||| 1) s)

/-- CORE_FAULT_RESET (R475): A core fault stops the core, ends its services and latches its reset source. -/
def execCoreFaultReset (x : Fin 2) (why : CoreFault) (s : State) : Host.Outcome State Fault Refusal :=
  .next (coreFails x why s)

/-- CORE_RESTART (R475): 32 BUSCLK cycles after a fault, the core leaves reset at the boot ROM. -/
def execCoreRestart (x : Fin 3) (s : State) : Host.Outcome State Fault Refusal := .next (coreRestart x s)

/-- WAKE_LATCH_SET (R488): A wake-source edge sets its asynchronous latch. -/
def execWakeLatchSet (w : WakeLatch) (s : State) : Host.Outcome State Fault Refusal := .next (wakeLatch w s)

/-- CORE_WFI (R493): WFI halts the core, or stops it when the floor is Breeze. -/
def execCoreWfi (x : Fin 3) (s : State) : Host.Outcome State Fault Refusal := .next (coreWaits x s)

/-- CORE_WAKE (R494): A stopped core resumes 5 µs after a source is routed to it. -/
def execCoreWake (x : Fin 3) (s : State) : Host.Outcome State Fault Refusal := .next (coreWake x s)

/-- FENCE_I (R472): FENCE.I invalidates the instruction cache. -/
def execFenceI (x : Fin 3) (s : State) : Host.Outcome State Fault Refusal := .next (fenceI x s)

end Sys2Proof.Machine
end

