-- ==== Sys2Proof/Machine/DrawbarRows.lean ====
section
/-! DEFINITION. The commands of the drawbar links (chapters 08 and 09). -/
namespace Sys2Proof.Machine

/-- PHY_ENABLE (R312): Setting DB_PHYCFG.EN puts the receiver in LISTEN. -/
def execPhyEnable (a : Accessor) (b : Fin 2) (v : Word) (s : State) : Host.Outcome State Fault Refusal :=
  .next (busPut a (.db .PHYCFG) b (v ||| 0x80000000) s)

/-- PHY_DISABLE (R312): Clearing DB_PHYCFG.EN ramps the driver down and puts the receiver in OFF. -/
def execPhyDisable (a : Accessor) (b : Fin 2) (v : Word) (s : State) : Host.Outcome State Fault Refusal :=
  .next (busPut a (.db .PHYCFG) b (v &&& 0x7FFFFFFF) s)

/-- CANDIDATE_FOUND (R301): Eight symbols that match the preamble above DETTHR start a candidate in SYNC. -/
def execCandidateFound (b : Fin 2) (matching : Nat) (level : Nat) (clipped : Bool) (s : State) : Host.Outcome State Fault Refusal :=
  .next (noteClip b clipped (candidateFound b matching level s))

/-- SYNC_FOUND (R302): The sync word matches with SYNCTHR symbols, and the receiver enters HEADER. -/
def execSyncFound (b : Fin 2) (matching : Nat) (level : Nat) (rival : Option Nat) (clipped : Bool) (s : State) : Host.Outcome State Fault Refusal :=
  .next (syncFound b matching level rival clipped s)

/-- SYNC_DEADLINE (R302): No sync by symbol 48 abandons the candidate and counts it in FALSE. -/
def execSyncDeadline (b : Fin 2) (s : State) : Host.Outcome State Fault Refusal := .next (syncDeadline b s)

/-- HEADER_DECODED (R303): The header's bits are available; it is accepted, or rejected back to LISTEN. -/
def execHeaderDecoded (b : Fin 2) (h : Word) (clipped : Bool) (s : State) : Host.Outcome State Fault Refusal :=
  .next (headerDecoded b h clipped s)

/-- RECEPTION_COMPLETE (R303): The body is decoded and passes to the protocol layer for the CRC, tag and match
checks. -/
def execReceptionComplete (b : Fin 2) (bytes : List Byte) (track : List TrackIn) (clipped : Bool) (s : State) : Host.Outcome State Fault Refusal :=
  .next (receptionComplete b bytes track clipped s)

/-- CAPTURE (R307): A stronger packet captures the reception in progress. -/
def execCapture (b : Fin 2) (how : CaptureCase) (s : State) : Host.Outcome State Fault Refusal :=
  .next (capture b how s)

/-- TRANSMISSION_END (R282): The last symbol of a transmission ends, and the receiver is blanked. -/
def execTransmissionEnd (b : Fin 2) (s : State) : Host.Outcome State Fault Refusal := .next (transmissionEnd b s)

/-- BLANK_END (R279): 16 µs after the last symbol, the receiver returns to LISTEN. -/
def execBlankEnd (b : Fin 2) (s : State) : Host.Outcome State Fault Refusal := .next (blankEnd b s)

/-- TX_OVERCURRENT (R284): The driver current limit trips; the transmission ends and TXOC is set. -/
def execTxOvercurrent (b : Fin 2) (s : State) : Host.Outcome State Fault Refusal := .next (txOvercurrent b s)

/-- LISTENER_DETECT (R310): The B0 listener detects carrier energy for TIME periods and raises a wake. -/
def execListenerDetect (s : State) : Host.Outcome State Fault Refusal := .next (listenerDetect s)

/-- EXCHANGE_START (R326): A slot's exchange starts at its boundary, or 100 µs after the previous exchange. -/
def execExchangeStart (b : Fin 2) (s : State) : Host.Outcome State Fault Refusal := .next (exchangeStart b s)

/-- RESPONSE_TIMEOUT (R326): No sync by te + 700 µs fails the try with cause 1. -/
def execResponseTimeout (b : Fin 2) (s : State) : Host.Outcome State Fault Refusal := .next (responseTimeout b s)

/-- COMMAND_COMMIT (R330): A DB_ACMDH write queues a command, or refuses it. -/
def execCommandCommit (a : Accessor) (b : Fin 2) (v : Word) (s : State) : Host.Outcome State Fault Refusal :=
  .next (busPut a (.db .ACMDH) b v s)

/-- TIMETABLE_RUN (R324): Setting DB_LCFG.RUN makes entry 0 take the next boundary. -/
def execTimetableRun (a : Accessor) (b : Fin 2) (v : Word) (s : State) : Host.Outcome State Fault Refusal :=
  .next (busPut a (.db .LCFG) b (v ||| 0x80000000) s)

/-- TIMETABLE_HALT (R324): Clearing DB_LCFG.RUN ends the timetable after the exchange in progress. -/
def execTimetableHalt (a : Accessor) (b : Fin 2) (v : Word) (s : State) : Host.Outcome State Fault Refusal :=
  .next (busPut a (.db .LCFG) b (v &&& 0x7FFFFFFF) s)

/-- ENUM_GO (R340): DB_ENCTL.GO starts an enumeration walk. -/
def execEnumGo (a : Accessor) (b : Fin 2) (v : Word) (s : State) : Host.Outcome State Fault Refusal :=
  .next (busPut a (.db .ENCTL) b (v ||| 0x80000000) s)

/-- ENUM_STOP (R340): DB_ENCTL.STOP ends the walk at the present step. -/
def execEnumStop (a : Accessor) (b : Fin 2) (v : Word) (s : State) : Host.Outcome State Fault Refusal :=
  .next (busPut a (.db .ENCTL) b ((v ||| 0x40000000) &&& 0x7FFFFFFF) s)

/-- STORED_COMMAND_TRIGGER (R336): An event on drawbar task input k commits stored command k as urgent. -/
def execStoredCommandTrigger (b : Fin 2) (k : Fin 8) (s : State) : Host.Outcome State Fault Refusal :=
  .next (storedTask b k s)

/-- AUID_WRITE (R349): A DB_AUID write makes the selected address free or expected. -/
def execAuidWrite (a : Accessor) (b : Fin 2) (v : Word) (s : State) : Host.Outcome State Fault Refusal :=
  .next (busPut a (.db .AUID) b v s)

/-- SECOND_WATCH_CANDIDATE (R305): The second-watch correlator finds its own preamble candidate while the main path
is in SYNC, HEADER or BODY. -/
def execSecondWatchCandidate (b : Fin 2) (matching : Nat) (level : Nat) (s : State) : Host.Outcome State Fault Refusal :=
  .next (watchCandidate b matching level s)

/-- SECOND_WATCH_SYNC (R307): The second watch finds sync; below L_cap, or with CAPEN at 0 during HEADER or BODY,
the sync is dropped and counted in WEAK. -/
def execSecondWatchSync (b : Fin 2) (matching : Nat) (level : Nat) (s : State) : Host.Outcome State Fault Refusal :=
  .next (watchSync b matching level s)

/-- SECOND_WATCH_DEADLINE (R302): The second watch's candidate reaches its 48-symbol deadline without sync and is
abandoned, so the watch can seek again. -/
def execSecondWatchDeadline (b : Fin 2) (s : State) : Host.Outcome State Fault Refusal := .next (watchDeadline b s)

end Sys2Proof.Machine
end

