-- ==== Sys2Proof/Machine/EnclaveRows.lean ====
section
/-! DEFINITION. The commands of the security enclave (chapter 18). -/
namespace Sys2Proof.Machine

/-- HASH (R561): Mailbox SHA-256 of a buffer. -/
def execHash (a : Accessor) (slot : Fin 32) (len : BitVec 16) (s : State) : Host.Outcome State Fault Refusal :=
  .next (mailbox 0x01 a slot len s)

/-- VERIFY (R561): Mailbox ECDSA verification of a digest. -/
def execVerify (a : Accessor) (slot : Fin 32) (len : BitVec 16) (s : State) : Host.Outcome State Fault Refusal :=
  .next (mailbox 0x02 a slot len s)

/-- CMAC (R561): Mailbox AES-CMAC tag. -/
def execCmac (a : Accessor) (slot : Fin 32) (len : BitVec 16) (s : State) : Host.Outcome State Fault Refusal :=
  .next (mailbox 0x03 a slot len s)

/-- CTR (R561): Mailbox AES-CTR encryption. -/
def execCtr (a : Accessor) (slot : Fin 32) (len : BitVec 16) (s : State) : Host.Outcome State Fault Refusal :=
  .next (mailbox 0x04 a slot len s)

/-- RANDOM (R561): Mailbox random bytes from the entropy source. -/
def execRandom (a : Accessor) (slot : Fin 32) (len : BitVec 16) (s : State) : Host.Outcome State Fault Refusal :=
  .next (mailbox 0x05 a slot len s)

/-- KEY_INSTALL (R552): Installs a key record into a slot. -/
def execKeyInstall (a : Accessor) (slot : Fin 32) (len : BitVec 16) (s : State) : Host.Outcome State Fault Refusal :=
  .next (mailbox 0x10 a slot len s)

/-- KEY_REVOKE (R552): Revokes a key slot. -/
def execKeyRevoke (a : Accessor) (slot : Fin 32) (len : BitVec 16) (s : State) : Host.Outcome State Fault Refusal :=
  .next (mailbox 0x11 a slot len s)

/-- KEY_INFO (R561): Returns type, origin and usage of a slot. -/
def execKeyInfo (a : Accessor) (slot : Fin 32) (len : BitVec 16) (s : State) : Host.Outcome State Fault Refusal :=
  .next (mailbox 0x12 a slot len s)

/-- SETMIN (R553): Raises the minimum firmware or consist serial. -/
def execSetmin (a : Accessor) (slot : Fin 32) (len : BitVec 16) (s : State) : Host.Outcome State Fault Refusal :=
  .next (mailbox 0x20 a slot len s)

/-- WINSET (R554): Stores a new window table and writes HP_WIN. -/
def execWinset (a : Accessor) (slot : Fin 32) (len : BitVec 16) (s : State) : Host.Outcome State Fault Refusal :=
  .next (mailbox 0x21 a slot len s)

/-- ADVANCE (R549): Moves the lifecycle from PROVISION to SECURED and resets. -/
def execAdvance (a : Accessor) (slot : Fin 32) (len : BitVec 16) (s : State) : Host.Outcome State Fault Refusal :=
  .next (mailbox 0x30 a slot len s)

/-- DECOMMISSION (R549): Moves the lifecycle to DECOMMISSIONED on a signed record and resets. -/
def execDecommission (a : Accessor) (slot : Fin 32) (len : BitVec 16) (s : State) : Host.Outcome State Fault Refusal :=
  .next (mailbox 0x31 a slot len s)

/-- MAILBOX_DONE (R561): A mailbox command completes with DONE or ERR and a result. -/
def execMailboxDone (storeOk : Bool) (s : State) : Host.Outcome State Fault Refusal := .next (mailboxDone storeOk s)

/-- SECLOCK_SET (R546): A0 sets SECLOCK and stops being a secure accessor. -/
def execSeclockSet (a : Accessor) (v : Word) (s : State) : Host.Outcome State Fault Refusal :=
  .next (regPut a (.se .SECCTL) 0 (v ||| 0x80000000) s)

/-- SECDBG_CHALLENGE (R550): The enclave offers a debug challenge over SECDBG. -/
def execSecdbgChallenge (s : State) : Host.Outcome State Fault Refusal := .next (debugChallenge s)

/-- SECDBG_RESPONSE (R550): A matching token opens the debug port; failures count. -/
def execSecdbgResponse (slot : Fin 32) (mac : BitVec 128) (s : State) : Host.Outcome State Fault Refusal :=
  .next (debugResponse slot mac s)

/-- ENTROPY_FAIL (R556): A health test failure stops the entropy source. -/
def execEntropyFail (repetition : Bool) (s : State) : Host.Outcome State Fault Refusal :=
  .next (entropyFail repetition s)

/-- ENCLAVE_SENSOR_TRIP (R557): A fault sensor trip erases enclave RAM and requests a reset. -/
def execEnclaveSensorTrip (t : EncTrip) (s : State) : Host.Outcome State Fault Refusal := .next (enclaveTrip t s)

end Sys2Proof.Machine
end

