-- ==== Sys2Proof/Machine/HostRows.lean ====
section
/-! DEFINITION. The commands of the host port (chapter 10). -/
namespace Sys2Proof.Machine

/-- FRAME_SELECT (R359): A falling HSEL_N starts a frame and loads the status byte. -/
def execFrameSelect (s : State) : Host.Outcome State Fault Refusal := .next (frameSelect s)

/-- STATUS_POLL (R354): A one-word frame returns word 0 and changes nothing. -/
def execStatusPoll (s : State) : Host.Outcome State Fault Refusal := .next (pollFrame s)

/-- HELLO (R361): Agrees the Teril version and returns the device identity. -/
def execHello (f : HostFrame) (s : State) : Host.Outcome State Fault Refusal := .next (hostFrame 0x01 id f true 0 s)

/-- READ_REG (R364): Reads COUNT words through the host window. -/
def execReadReg (f : HostFrame) (s : State) : Host.Outcome State Fault Refusal :=
  .next (hostFrame 0x02 id f true 0 s)

/-- WRITE_REG (R366): Writes COUNT words through the host window, in ascending order. -/
def execWriteReg (f : HostFrame) (s : State) : Host.Outcome State Fault Refusal :=
  .next (performWaiting (hostFrame 0x03 id f true 0 s))

/-- READ_BATCH (R369): Returns records of cursor 0 or 1, or repeats the last response. -/
def execReadBatch (f : HostFrame) (s : State) : Host.Outcome State Fault Refusal :=
  .next (hostFrame 0x04 id f true 0 s)

/-- LOAD_CONSIST_CHUNK (R372): Writes an image chunk into the staging buffer. -/
def execLoadConsistChunk (f : HostFrame) (s : State) : Host.Outcome State Fault Refusal :=
  .next (hostFrame 0x05 (withPhase 0) f true 0 s)

/-- LOAD_CONSIST_VERIFY (R373): Issues CW_LDCMD verify as a long command. -/
def execLoadConsistVerify (f : HostFrame) (s : State) : Host.Outcome State Fault Refusal :=
  .next (hostFrame 0x05 (withPhase 1) f true 0 s)

/-- LOAD_CONSIST_APPLY (R373): Issues a full-image apply as a long command. -/
def execLoadConsistApply (f : HostFrame) (s : State) : Host.Outcome State Fault Refusal :=
  .next (hostFrame 0x05 (withPhase 2) f true 0 s)

/-- SHUNT (R373): Issues a shunt apply as a long command. -/
def execShunt (f : HostFrame) (s : State) : Host.Outcome State Fault Refusal := .next (hostFrame 0x06 id f true 0 s)

/-- STORE (R374): Starts a settings store as a long command. -/
def execStore (f : HostFrame) (vddOk : Bool) (s : State) : Host.Outcome State Fault Refusal :=
  .next (hostFrame 0x07 id f vddOk 0 s)

/-- POWER_REQ (R375): Passes a power-state request to power control. -/
def execPowerReq (f : HostFrame) (s : State) : Host.Outcome State Fault Refusal :=
  .next (performWaiting (hostFrame 0x08 id f true 0 s))

/-- SYNC (R376): Records the stamp of the closing HSEL_N edge in HP_SYNCL and HP_SYNCH. -/
def execSync (f : HostFrame) (since : Fin 4) (s : State) : Host.Outcome State Fault Refusal :=
  .next (hostFrame 0x09 id f true since.val s)

/-- ALMANAC_READ (R377): Returns COUNT almanac entries by index. -/
def execAlmanacRead (f : HostFrame) (s : State) : Host.Outcome State Fault Refusal :=
  .next (hostFrame 0x0A id f true 0 s)

/-- NOTIFY_CFG (R378): Writes HP_NMASK. -/
def execNotifyCfg (f : HostFrame) (s : State) : Host.Outcome State Fault Refusal :=
  .next (hostFrame 0x0B id f true 0 s)

/-- SESSION_OPEN (R379): Exchanges nonces and opens a secure session. -/
def execSessionOpen (f : HostFrame) (s : State) : Host.Outcome State Fault Refusal :=
  .next (hostFrame 0x0C (withAction 1) f true 0 s)

/-- SESSION_CLOSE (R381): Closes the session and erases its key. -/
def execSessionClose (f : HostFrame) (s : State) : Host.Outcome State Fault Refusal :=
  .next (hostFrame 0x0C (withAction 2) f true 0 s)

/-- NO_OPERATION (R385): Chain-mode OP 0 does nothing. -/
def execNoOperation (f : HostFrame) (s : State) : Host.Outcome State Fault Refusal :=
  .next (hostFrame 0x00 id f true 0 s)

/-- LONG_COMMAND_DONE (R374): A long command completes; OUTCOME is recorded and DONE is set. -/
def execLongCommandDone (s : State) : Host.Outcome State Fault Refusal :=
  .next (longDone 1 (.hp .STAT) s.host.longOut s)

/-- HOST_SWIRQ (R378): A write of HP_SWIRQ sets HP_NSRC.SW. -/
def execHostSwirq (a : Accessor) (v : Word) (s : State) : Host.Outcome State Fault Refusal :=
  .next (regPut a (.hp .SWIRQ) 0 v s)

/-- HOST_PORT_CONFIG (R350): A write of HP_CFG enables or disables the port; a clear of EN closes any session. -/
def execHostPortConfig (a : Accessor) (v : Word) (s : State) : Host.Outcome State Fault Refusal :=
  .next (regPut a (.hp .CFG) 0 v s)

/-- BADOP_FRAME (R363): A host-port command frame with an OP that the table does not list, or that chain mode does
not carry, ends with BADOP and sets CMDERR. -/
def execBadopFrame (op : BitVec 8) (f : HostFrame) (s : State) : Host.Outcome State Fault Refusal :=
  .next (badOpFrame op f s)

end Sys2Proof.Machine
end

