-- ==== Sys2Proof/Machine/LaneRows.lean ====
section
/-! DEFINITION. The commands of the acquisition lanes and of calibration (chapters 02 and 03). -/
namespace Sys2Proof.Machine

/-- LANE_ENABLE (R71): A write of 1 to an LN_ENABLE bit that is 0 starts the lane's first scan cycle. -/
def execLaneEnable (a : Accessor) (mask : BitVec 16) (s : State) : Host.Outcome State Fault Refusal :=
  .next (regPut a (.ln .ENABLE) 0 (s.reg (.ln .ENABLE) ||| mask.setWidth 32) s)

/-- LANE_STOP (R71): A write of 0 to an LN_ENABLE bit stops the lane and discards its partial word, with no GAP. -/
def execLaneStop (a : Accessor) (mask : BitVec 16) (s : State) : Host.Outcome State Fault Refusal :=
  .next (regPut a (.ln .ENABLE) 0 (s.reg (.ln .ENABLE) &&& ~~~(mask.setWidth 32)) s)

/-- LANE_COMMIT (R70): LN_CMD.COMMIT marks the shadow scan list for loading at the next scan-cycle start. -/
def execLaneCommit (a : Accessor) (s : State) : Host.Outcome State Fault Refusal := .next (regPut a (.ln .CMD) 0 1 s)

/-- LANE_RESTART (R72): LN_CMD.RESTART abandons the present cycle and starts a new one at entry 0 on the same edge.
-/
def execLaneRestart (a : Accessor) (s : State) : Host.Outcome State Fault Refusal :=
  .next (regPut a (.ln .CMD) 0 2 s)

/-- LANE_TESTNOW (R77): LN_CMD.TESTNOW makes the lane run its next reference test at the next boundary, without
waiting for its lane timer. -/
def execLaneTestnow (a : Accessor) (s : State) : Host.Outcome State Fault Refusal :=
  .next (regPut a (.ln .CMD) 0 4 s)

/-- SCAN_CYCLE_START (R68): A scan cycle starts on its start condition: free running, the period schedule, or a
trigger event. -/
def execScanCycleStart (k : Fin 16) (trigger : Bool) (s : State) : Host.Outcome State Fault Refusal :=
  .next (if trigger then startCondition k s else cycleStart k s)

/-- SETTLE_END (R67): LN_SETTLE cycles after a visit's switch, the lane begins that visit's conversions. -/
def execSettleEnd (k : Fin 16) (s : State) : Host.Outcome State Fault Refusal := .next (settleEnd k s)

/-- CONVERSION_COMPLETE (R56): A 24-cycle conversion ends and its code passes to the decimator. -/
def execConversionComplete (k : Fin 16) (code : BitVec 16) (consistent : Bool) (cmOut : Bool) (s : State) : Host.Outcome State Fault Refusal :=
  .next (conversion k code consistent cmOut s)

/-- WITHHELD_WORD_RELEASE (R76): A withheld word is released after 11 further conversions pass with no second
inconsistency. -/
def execWithheldWordRelease (k : Fin 16) (s : State) : Host.Outcome State Fault Refusal :=
  .next (releaseCleared k (s.lanes[k]).withheld.length s)

/-- LANE_SUBST_COMPLETE (R82): The spare has taken over the logical lane; the merger takes GAP and LANE_SUBST and
resumes the stream. -/
def execLaneSubstComplete (k : Fin 16) (s : State) : Host.Outcome State Fault Refusal :=
  .next (laneSubstComplete k s)

/-- LANE_TIMER_TICK (R77): A lane timer expires every 96,000 ticks and makes a reference test due. -/
def execLaneTimerTick (p : Fin 18) (s : State) : Host.Outcome State Fault Refusal := .next (laneTimerTick p s)

/-- REFERENCE_TEST_START (R77): A due reference test starts at the first boundary, idle time or word end. -/
def execReferenceTestStart (p : Fin 18) (s : State) : Host.Outcome State Fault Refusal := .next (testStart p s)

/-- REFERENCE_TEST_DONE (R78): A reference test conversion ends and is compared with its expected value. -/
def execReferenceTestDone (p : Fin 18) (value : BitVec 24) (consistent : Bool) (s : State) : Host.Outcome State Fault Refusal :=
  .next (testDone p value.toInt consistent s)

/-- LANE_RETEST (R88): LN_PCMD.RETEST starts an 18-conversion retest of a fenced physical lane. -/
def execLaneRetest (a : Accessor) (s : State) : Host.Outcome State Fault Refusal :=
  .next (regPut a (.ln .PCMD) 0 1 s)

/-- LANE_RETEST_DONE (R88): A retest ends; on a pass the lane joins LN_POOL, and on a failure it stays fenced with
CAUSE 4. -/
def execLaneRetestDone (p : Fin 18) (values : List (BitVec 24)) (consistent : Bool) (s : State) : Host.Outcome State Fault Refusal :=
  .next (laneRetestDone p (values.map (fun x => x.toInt)) consistent s)

/-- TEMPERATURE_READING (R96): Every 1 ms the temperature monitor writes CA_TEMP. -/
def execTemperatureReading (t : BitVec 16) (s : State) : Host.Outcome State Fault Refusal :=
  .next (temperatureReading t s)

/-- CAL_RUN_REQUEST (R97): A write of 1 to a CA_RUN bit makes that lane pending. -/
def execCalRunRequest (a : Accessor) (mask : BitVec 16) (s : State) : Host.Outcome State Fault Refusal :=
  .next (regPut a (.ca .RUN) 0 (mask.setWidth 32) s)

/-- CAL_LANE_SELECT (R98): When the engine is idle, it selects the lowest pending lane and decides between a loan
and a hold. -/
def execCalLaneSelect (s : State) : Host.Outcome State Fault Refusal := .next (calSelect s)

/-- CAL_RUN_START (R104): A run starts at t0, the first word end or idle point at least 24 µs after selection. -/
def execCalRunStart (s : State) : Host.Outcome State Fault Refusal := .next (calStart s)

/-- CAL_RUN_END (R101): At t0 + 180 µs the engine folds the measured codes into the sets, releases the DAC and emits
CAL_DONE. -/
def execCalRunEnd (codes : List Int) (verify : Int) (consistent : Bool) (s : State) : Host.Outcome State Fault Refusal :=
  .next (calEnd codes verify consistent s)

/-- LOAN_END (R105): At the first word end after t0 + 180 µs + settle, the home lane takes over and the spare
returns to the pool. -/
def execLoanEnd (k : Fin 16) (s : State) : Host.Outcome State Fault Refusal := .next (loanEnd k s)

/-- STALE_WORD_DUE (R106): During a hold, a scheduled word falls due and is released with STALE set. -/
def execStaleWordDue (k : Fin 16) (s : State) : Host.Outcome State Fault Refusal := .next (staleWord k s)

/-- HOLD_RESUME (R106): At the first scheduled word start after settling, conversion resumes and STALE_END is
emitted. -/
def execHoldResume (k : Fin 16) (s : State) : Host.Outcome State Fault Refusal := .next (holdResume k s)

/-- CAL_SETS_WRITE (R113): A write to CA_SETS is ignored with SETBUSY during a run of that lane; otherwise it
applies at the next visit. -/
def execCalSetsWrite (a : Accessor) (j : Fin 400) (v : Word) (s : State) : Host.Outcome State Fault Refusal :=
  .next (regPut a (.ca .SETS) j.val v s)

/-- DAC_CODE_WRITE (R115): A write of CA_DACVAL is held while the engine owns the DAC. -/
def execDacCodeWrite (a : Accessor) (v : Word) (s : State) : Host.Outcome State Fault Refusal :=
  .next (regPut a (.ca .DACVAL) 0 v s)

/-- TRIM_WRITE (R112): A secure owner's write of a factory trim register takes effect at the next BUSCLK edge. -/
def execTrimWrite (a : Accessor) (which : TrimName) (v : Word) (s : State) : Host.Outcome State Fault Refusal :=
  .next (trimWrite a which v s)

end Sys2Proof.Machine
end

