-- ==== Sys2Proof/Machine/PowerRows.lean ====
section
/-! DEFINITION. The commands of power control, the Vane and the clocks (chapter 16). -/
namespace Sys2Proof.Machine

/-- REQUEST_GALE (R493): A Gale request sets the floor and starts accepting cores. -/
def execRequestGale (a : Accessor) (s : State) : Host.Outcome State Fault Refusal :=
  .next (performWaiting (regPut a (.pw .REQ) 0 0 s))

/-- REQUEST_BREEZE (R493): A Breeze request sets the floor to Breeze. -/
def execRequestBreeze (a : Accessor) (s : State) : Host.Outcome State Fault Refusal :=
  .next (performWaiting (regPut a (.pw .REQ) 0 1 s))

/-- REQUEST_LULL (R499): A Lull request starts the handshake. -/
def execRequestLull (a : Accessor) (s : State) : Host.Outcome State Fault Refusal :=
  .next (performWaiting (regPut a (.pw .REQ) 0 2 s))

/-- REQUEST_CALM (R499): A Calm request starts the handshake, or exits Lull first. -/
def execRequestCalm (a : Accessor) (s : State) : Host.Outcome State Fault Refusal :=
  .next (performWaiting (regPut a (.pw .REQ) 0 3 s))

/-- VANE_WAKE_REQUEST (R505): VN_CTRL.WAKE decides an exit from Lull. -/
def execVaneWakeRequest (a : Accessor) (v : Word) (s : State) : Host.Outcome State Fault Refusal :=
  .next (regPut a (.vn .CTRL) 0 (v ||| 0x80000000) s)

/-- VANE_CALM_REQUEST (R498): VN_CTRL.CALM requests Calm. -/
def execVaneCalmRequest (a : Accessor) (v : Word) (s : State) : Host.Outcome State Fault Refusal :=
  .next (regPut a (.vn .CTRL) 0 (v ||| 0x40000000) s)

/-- HANDSHAKE_COMMIT (R501): Every block answers ACK, and the entry commits at EC. -/
def execHandshakeCommit (s : State) : Host.Outcome State Fault Refusal := .next (handshakeCommit s)

/-- HANDSHAKE_REFUSE (R501): A block answers REFUSE and the entry aborts. -/
def execHandshakeRefuse (s : State) : Host.Outcome State Fault Refusal := .next (performWaiting (handshakeRefuse s))

/-- HANDSHAKE_TIMEOUT (R501): No commit within HSTMO aborts the entry. -/
def execHandshakeTimeout (s : State) : Host.Outcome State Fault Refusal :=
  .next (performWaiting (handshakeTimeout s))

/-- LULL_ENTERED (R502): At EB, after signing, the stamp source passes to the Vane counter and domains switch off.
-/
def execLullEntered (s : State) : Host.Outcome State Fault Refusal := .next (lullEntered s)

/-- LULL_EXIT (R505): A wake decides an exit; the Vane starts the PLL and raises MAIN. -/
def execLullExit (s : State) : Host.Outcome State Fault Refusal := .next (lullExit s)

/-- PLL_LOCKED (R504): BUSCLK gives its first edge, and the retention checks begin. -/
def execPllLocked (s : State) : Host.Outcome State Fault Refusal := .next (pllLocked s)

/-- BREEZE_REACHED (R504): At ER the hub is in Breeze and parked blocks resume. -/
def execBreezeReached (s : State) : Host.Outcome State Fault Refusal := .next (performWaiting (breezeReached s))

/-- CALM_ENTERED (R506): After compaction and signing, VANE switches off and Calm is reached. -/
def execCalmEntered (s : State) : Host.Outcome State Fault Refusal := .next (calmEntered s)

/-- CALM_WAKE (R507): A wake in Calm powers VANE and boots through Lull. -/
def execCalmWake (s : State) : Host.Outcome State Fault Refusal := .next (calmWake s)

/-- DOMAIN_IDLE_OFF (R495): An AUTO domain idle for IDLE × 10 µs switches off. -/
def execDomainIdleOff (d : Fin 5) (s : State) : Host.Outcome State Fault Refusal := .next (domainOff d s)

/-- DOMAIN_WAKE (R495): An access that needs an off domain switches it on. -/
def execDomainWake (d : Fin 5) (s : State) : Host.Outcome State Fault Refusal :=
  .next (performWaiting (domainWake d s))

/-- RETENTION_CHECK_DONE (R514): A bank's signature check ends and unblocks the bank. -/
def execRetentionCheckDone (bank : Fin 16) (ok : Bool) (canary : Bool) (s : State) : Host.Outcome State Fault Refusal :=
  .next (retentionDone bank ok canary s)

/-- PAD_RELEASE (R511): PW_PADREL releases latched pad groups. -/
def execPadRelease (a : Accessor) (groups : BitVec 3) (s : State) : Host.Outcome State Fault Refusal :=
  .next (regPut a (.pw .PADREL) 0 (groups.setWidth 32) s)

/-- CLOCK_SOURCE_WRITE (R521): PW_CLK.SRC moves the PLL to the new reference. -/
def execClockSourceWrite (a : Accessor) (v : Word) (s : State) : Host.Outcome State Fault Refusal :=
  .next (regPut a (.pw .CLK) 0 v s)

/-- MONITOR_SCAN (R518): Every PERIOD X32 edges the Lull monitor converts and filters its channels. -/
def execMonitorScan (codes : Vector (BitVec 12) 8) (s : State) : Host.Outcome State Fault Refusal :=
  .next (monitorScan codes s)

/-- VANE_CAPTURE_EDGE (R519): An edge on TIO0 to TIO3 counts and may set the capture latch. -/
def execVaneCaptureEdge (n : Fin 4) (rising : Bool) (s : State) : Host.Outcome State Fault Refusal :=
  .next (captureEdge n rising s)

/-- WAKE_PIN_CHANGE (R509): A debounced WAKE pin change sets the latch or asserts the level. -/
def execWakePinChange (k : Fin 4) (level : Bool) (s : State) : Host.Outcome State Fault Refusal :=
  .next (wakePinChange k level s)

/-- RTC_ALARM (R510): The stamp reaches the alarm value, and the alarm asserts. -/
def execRtcAlarm (s : State) : Host.Outcome State Fault Refusal := .next (rtcAlarm s)

/-- CRYSTAL_RUNNING (R589): The 16 MHz crystal oscillator reaches oscillation within 2 ms after PW_CLK.XEN, and
PW_CLK.XRUN becomes 1. -/
def execCrystalRunning (s : State) : Host.Outcome State Fault Refusal := .next (crystalRunning s)

/-- X32_START (R589): The 32.768 kHz oscillator starts, up to 1.5 s after power-on, and X32 edges begin to drive the
RTC and the Vane counter. -/
def execX32Start (s : State) : Host.Outcome State Fault Refusal := .next (x32Start s)

end Sys2Proof.Machine
end

