-- ==== Sys2Proof/Machine/RecordRows.lean ====
section
/-! DEFINITION. The commands of records, the almanac, the watchdogs and the monitors (chapter 07). -/
namespace Sys2Proof.Machine

/-- RECORD_ARRIVE (R244): A record reaches the merger and is judged against its class front. -/
def execRecordArrive (s : State) : Host.Outcome State Fault Refusal := .next (recordArrive s)

/-- RECORD_WRITE (R243): Held records below their front are numbered and written into the batch queue. -/
def execRecordWrite (s : State) : Host.Outcome State Fault Refusal := .next (recordWrite s)

/-- OVERFLOW_EXIT (R255): Free space reaches RK_OVFREE; the merger writes OVERFLOW and an all-sources GAP with CAUSE
7. -/
def execOverflowExit (s : State) : Host.Outcome State Fault Refusal := .next (overflowExit s)

/-- CURSOR_ENABLE (R250): A write of RK_CnCTRL.EN sets the cursor to the queue head, or disables it. -/
def execCursorEnable (a : Accessor) (c : Fin 4) (v : Word) (s : State) : Host.Outcome State Fault Refusal :=
  .next (regPut a (.rk .CnCTRL) c.val v s)

/-- CURSOR_ACK (R253): A write to RK_CnACK delivers words on cursor 2 or 3, or sets ACKERR. -/
def execCursorAck (a : Accessor) (c : Fin 4) (v : Word) (s : State) : Host.Outcome State Fault Refusal :=
  .next (regPut a (.rk .CnACK) c.val v s)

/-- SW_RECORD_COMMIT (R277): RK_SWHDR commits a firmware SERVICE record, or sets SWREJ. -/
def execSwRecordCommit (a : Accessor) (v : Word) (s : State) : Host.Outcome State Fault Refusal :=
  .next (regPut a (.rk .SWHDR) 0 v s)

/-- HORIZON_WRITE (R248): A valid RK_HORIZON write moves the acquisition front at once. -/
def execHorizonWrite (a : Accessor) (v : Word) (s : State) : Host.Outcome State Fault Refusal :=
  .next (regPut a (.rk .HORIZON) 0 v s)

/-- ALMANAC_WRITE (R268): An almanac entry is written at AL_WIDX, which then advances. -/
def execAlmanacWrite (s : State) : Host.Outcome State Fault Refusal := .next (almanacWrite s)

/-- ALMANAC_LOG_COMMIT (R269): AL_LOGH commits a firmware almanac entry from the holding registers. -/
def execAlmanacLogCommit (a : Accessor) (v : Word) (s : State) : Host.Outcome State Fault Refusal :=
  .next (regPut a (.al .LOGH) 0 v s)

/-- WATCHDOG_ENABLE (R273): Setting AL_WDCTLn.EN starts the watchdog. -/
def execWatchdogEnable (a : Accessor) (n : Fin 3) (v : Word) (s : State) : Host.Outcome State Fault Refusal :=
  .next (regPut a (.al .WDCTL) n.val (v ||| 0x80000000) s)

/-- WATCHDOG_KICK (R273): A write of AL_WDKICKn by the watched processor restarts its timeout. -/
def execWatchdogKick (a : Accessor) (n : Fin 3) (v : Word) (s : State) : Host.Outcome State Fault Refusal :=
  .next (regPut a (.al .WDKICK) n.val v s)

/-- WATCHDOG_EXPIRE (R273): A watchdog expires and resets its processor. -/
def execWatchdogExpire (n : Fin 3) (s : State) : Host.Outcome State Fault Refusal := .next (wdTimeout n s)

/-- XTAL_FAIL (R274): Loss of the 16 MHz crystal moves the PLL to the internal RC. -/
def execXtalFail (s : State) : Host.Outcome State Fault Refusal := .next (xtalFail s)

/-- PLL_FAIL (R274): BUSCLK outside ±3 % resets the hub with cause CLKFAIL. -/
def execPllFail (measured : BitVec 16) (s : State) : Host.Outcome State Fault Refusal := .next (pllFail measured s)

/-- VRC_FAIL (R274): VRC outside ±15 % sets the VRC fault flag. -/
def execVrcFail (measured : BitVec 16) (s : State) : Host.Outcome State Fault Refusal := .next (vrcFail measured s)

/-- X32_FAIL (R274): No X32 edge in 4 periods stops the RTC and the Lull stamps. -/
def execX32Fail (s : State) : Host.Outcome State Fault Refusal := .next (x32Fail s)

/-- LOCKSTEP_MISMATCH (R274): A Vane lockstep mismatch resets the Vane. -/
def execLockstepMismatch (pc : Word) (s : State) : Host.Outcome State Fault Refusal := .next (lockstep pc s)

/-- FAULT_PIN_RELEASE (R275): FAULT_N is released once no condition holds and 1 ms has passed. -/
def execFaultPinRelease (s : State) : Host.Outcome State Fault Refusal := .next (faultRelease s)

/-- FAULT_READY (R275): A write of AL_FCTL.READY marks boot complete. -/
def execFaultReady (a : Accessor) (v : Word) (s : State) : Host.Outcome State Fault Refusal :=
  .next (regPut a (.al .FCTL) 0 (v ||| 1) s)

/-- SOFTWARE_FAULT (R275): A write of AL_FCTL.SWFAULT sets AL_FSTAT.SW. -/
def execSoftwareFault (a : Accessor) (v : Word) (s : State) : Host.Outcome State Fault Refusal :=
  .next (regPut a (.al .FCTL) 0 (v ||| 4) s)

end Sys2Proof.Machine
end

