-- ==== Sys2Proof/Machine/RouterRows.lean ====
section
/-! DEFINITION. The commands of the event router and the timers (chapters 13 and 14). -/
namespace Sys2Proof.Machine

/-- EVENT_DELIVERY (R431): At a delivery edge the router runs the hop check, gate changes and gate judgement, then
delivers. -/
def execEventDelivery (s : State) : Host.Outcome State Fault Refusal := .next (eventDelivery s)

/-- SOFTWARE_PUBLISH (R439): A write to EV_SWPUBL or EV_SWPUBH publishes on owned channels. -/
def execSoftwarePublish (a : Accessor) (high : Bool) (v : Word) (s : State) : Host.Outcome State Fault Refusal :=
  .next (regPut a (if high then .ev .SWPUBH else .ev .SWPUBL) 0 v s)

/-- GATE_WRITE (R434): A write of EV_GATE opens or closes group gates. -/
def execGateWrite (a : Accessor) (v : Word) (s : State) : Host.Outcome State Fault Refusal :=
  .next (regPut a (.ev .GATE) 0 v s)

/-- ROUTE_ENTRY_WRITE (R440): A write of EV_PUBk or EV_SUBk changes a router binding. -/
def execRouteEntryWrite (a : Accessor) (e : RouteEntry) (v : Word) (s : State) : Host.Outcome State Fault Refusal :=
  .next (routeWrite a e v s)

/-- TIMER_START (R449): A START task input or TM_CMD.START starts the timer. -/
def execTimerStart (via : TimerVia) (s : State) : Host.Outcome State Fault Refusal :=
  .next (timerVia 1 timerStart via s)

/-- TIMER_GROUP_START (R449): A TM_GSTART write starts several timers on one edge. -/
def execTimerGroupStart (a : Accessor) (mask : BitVec 16) (s : State) : Host.Outcome State Fault Refusal :=
  .next (regPut a (.tm .GSTART) 0 (mask.setWidth 32) s)

/-- TIMER_STOP (R450): A STOP task input or TM_CMD.STOP stops the timer. -/
def execTimerStop (via : TimerVia) (s : State) : Host.Outcome State Fault Refusal :=
  .next (timerVia 2 timerStop via s)

/-- TIMER_CLEAR (R451): CLEAR zeroes the counter and fired flags and applies a pending RELOAD. -/
def execTimerClear (via : TimerVia) (s : State) : Host.Outcome State Fault Refusal :=
  .next (timerVia 4 timerClear via s)

/-- TIMER_CAPTURE (R462): A capture latches the count and the 48-bit stamp. -/
def execTimerCapture (via : CaptureVia) (s : State) : Host.Outcome State Fault Refusal := .next (captureVia via s)

/-- TIMER_COUNT_EVENT (R448): A COUNT task delivery advances an event-counting timer. -/
def execTimerCountEvent (n : Fin 16) (s : State) : Host.Outcome State Fault Refusal := .next (timerCountEvent n s)

/-- TIMER_WRAP (R447): The counter passes RELOAD to 0; flags clear, actions apply and WRAP publishes. -/
def execTimerWrap (n : Fin 16) (s : State) : Host.Outcome State Fault Refusal := .next (wrapEdge n s)

/-- COMPARE_FIRE (R453): The count reaches CMPA or CMPB; the compare fires and publishes. -/
def execCompareFire (n : Fin 16) (s : State) : Host.Outcome State Fault Refusal := .next (compareEdge n s)

/-- COMPARE_WRITE (R454): A write of TM_CMPA or TM_CMPB is judged against the present count. -/
def execCompareWrite (a : Accessor) (second : Bool) (v : Word) (s : State) : Host.Outcome State Fault Refusal :=
  .next (regPut a (if second then .tm .CMPB else .tm .CMPA) 0 v s)

/-- RELOAD_WRITE (R458): A RELOAD write is buffered or applied at once, possibly causing a SHORT wrap. -/
def execReloadWrite (a : Accessor) (v : Word) (s : State) : Host.Outcome State Fault Refusal :=
  .next (regPut a (.tm .RELOAD) 0 v s)

/-- TIMER_CONFIG_WRITE (R469): A TM_CFG or TM_CNT write is ignored with CFGREJ while the timer runs. -/
def execTimerConfigWrite (a : Accessor) (count : Bool) (v : Word) (s : State) : Host.Outcome State Fault Refusal :=
  .next (regPut a (if count then .tm .CNT else .tm .CFG) 0 v s)

/-- OUTPUT_LEVEL_WRITE (R464): A TM_OUT write sets the level and the actions. -/
def execOutputLevelWrite (a : Accessor) (v : Word) (s : State) : Host.Outcome State Fault Refusal :=
  .next (regPut a (.tm .OUT) 0 v s)

/-- CAPTURE_READ (R463): A read of TM_CAP clears CAPFULL. -/
def execCaptureRead (a : Accessor) (s : State) : Host.Outcome State Fault Refusal := .next (regGet a (.tm .CAP) 0 s)

end Sys2Proof.Machine
end

