-- ==== Sys2Proof/Machine/SensorRows.lean ====
section
/-! DEFINITION. The commands of the sensor port (chapter 12). -/
namespace Sys2Proof.Machine

/-- PROFILE_TRIGGER (R416): A trigger event makes a sensor profile pending, or is missed while it is busy. -/
def execProfileTrigger (k : Fin 16) (s : State) : Host.Outcome State Fault Refusal := .next (profileTask k s)

/-- PROFILE_GO (R416): SP_PCMD.GO makes the selected profile pending. -/
def execProfileGo (a : Accessor) (s : State) : Host.Outcome State Fault Refusal := .next (regPut a (.sp .PCMD) 0 1 s)

/-- SENSOR_FRAME_START (R417): The idle port starts a pending flash operation or the lowest pending profile. -/
def execSensorFrameStart (s : State) : Host.Outcome State Fault Refusal := .next (frameStart s)

/-- SENSOR_FRAME_END (R417): A frame's end edge takes the reading and delivers records, memory, slots and DONE. -/
def execSensorFrameEnd (data : List Byte) (s : State) : Host.Outcome State Fault Refusal := .next (frameEnd data s)

/-- WINDOW_READ (R420): A flash-window read is served from the cache or fetches a line. -/
def execWindowRead (a : Accessor) (off : BitVec 26) (size : Nat) (s : State) : Host.Outcome State Fault Refusal :=
  .next (busRead a (0x60000000 + off.toNat) size s)

/-- WINDOW_WRITE (R421): A flash-window write collects into the page buffer. -/
def execWindowWrite (a : Accessor) (off : BitVec 26) (size : Nat) (v : Word) (s : State) : Host.Outcome State Fault Refusal :=
  .next (busWrite a (0x60000000 + off.toNat) size v s)

/-- PAGE_BUFFER_IDLE (R421): 50 µs without a write programs the page buffer. -/
def execPageBufferIdle (s : State) : Host.Outcome State Fault Refusal := .next (bufferIdle s)

/-- FLASH_STATUS_POLL (R422): Every INT µs a status poll checks WIPBIT and ends the operation when clear. -/
def execFlashStatusPoll (status : Byte) (s : State) : Host.Outcome State Fault Refusal := .next (statusPoll status s)

/-- FLASH_OPERATION_TIMEOUT (R422): Polling beyond TMO ends the operation with TIMEOUT. -/
def execFlashOperationTimeout (s : State) : Host.Outcome State Fault Refusal := .next (flashTimeout s)

/-- FLASH_ERASE_SECTOR (R423): SP_FCMD OP 1 erases a 4 KiB sector. -/
def execFlashEraseSector (a : Accessor) (addr : BitVec 26) (s : State) : Host.Outcome State Fault Refusal :=
  .next (regPut a (.sp .FCMD) 0 (at_ 1 28 ||| addr.setWidth 32) s)

/-- FLASH_ERASE_BLOCK (R423): SP_FCMD OP 2 erases a 64 KiB block. -/
def execFlashEraseBlock (a : Accessor) (addr : BitVec 26) (s : State) : Host.Outcome State Fault Refusal :=
  .next (regPut a (.sp .FCMD) 0 (at_ 2 28 ||| addr.setWidth 32) s)

/-- FLASH_ERASE_DEVICE (R423): SP_FCMD OP 3 erases the whole device. -/
def execFlashEraseDevice (a : Accessor) (s : State) : Host.Outcome State Fault Refusal :=
  .next (regPut a (.sp .FCMD) 0 (at_ 3 28) s)

/-- FLASH_PROGRAM_BUFFER (R421): SP_FCMD OP 4 programs the page buffer. -/
def execFlashProgramBuffer (a : Accessor) (s : State) : Host.Outcome State Fault Refusal :=
  .next (regPut a (.sp .FCMD) 0 (at_ 4 28) s)

/-- CACHE_INVALIDATE (R423): SP_FCMD OP 5 invalidates the read cache. -/
def execCacheInvalidate (a : Accessor) (s : State) : Host.Outcome State Fault Refusal :=
  .next (regPut a (.sp .FCMD) 0 (at_ 5 28) s)

/-- MODE_FAULT (R424): SMM_N low releases the port's outputs and abandons the frame or flash operation. -/
def execModeFault (low : Bool) (s : State) : Host.Outcome State Fault Refusal := .next (modeFault low s)

/-- PROFILE_BUFFER_WRITE (R419): A write of SP_PBUF or SP_PPHASE is ignored if the buffer would leave allowed SRAM.
-/
def execProfileBufferWrite (a : Accessor) (phase : Bool) (v : Word) (s : State) : Host.Outcome State Fault Refusal :=
  .next (regPut a (if phase then .sp .PPHASE else .sp .PBUF) 0 v s)

end Sys2Proof.Machine
end

