-- ==== Sys2Proof/Machine/SlotRows.lean ====
section
/-! DEFINITION. The commands of the drive slots and the resident services (chapter 06). -/
namespace Sys2Proof.Machine

/-- SLOT_FWD (R201): A FWD command or task input moves the slot from IDLE or COAST to RUN_FWD. -/
def execSlotFwd (via : SlotVia) (s : State) : Host.Outcome State Fault Refusal :=
  .next (slotCommand 1 0 (fun d src s => slotDrive d false src s) via s)

/-- SLOT_REV (R201): A REV command or task input moves the slot from IDLE or COAST to RUN_REV. -/
def execSlotRev (via : SlotVia) (s : State) : Host.Outcome State Fault Refusal :=
  .next (slotCommand 2 0 (fun d src s => slotDrive d true src s) via s)

/-- SLOT_OFF (R201): An OFF command or task input releases a driven slot into COAST. -/
def execSlotOff (via : SlotVia) (s : State) : Host.Outcome State Fault Refusal :=
  .next (slotCommand 3 0 slotOff via s)

/-- SLOT_SPEED (R201): A SPEED command performs the path action with VALUE. -/
def execSlotSpeed (via : SlotVia) (value : BitVec 16) (s : State) : Host.Outcome State Fault Refusal :=
  .next (slotCommand 4 value.toNat (fun d src s => slotSpeed d value.toNat src s) via s)

/-- SLOT_CLEAR (R201): A CLEAR command returns a TRIPPED slot to IDLE. -/
def execSlotClear (via : SlotVia) (s : State) : Host.Outcome State Fault Refusal :=
  .next (slotCommand 5 0 slotClear via s)

/-- SLOT_PINCH (R215): The PINCH task input reverses a driven slot, or publishes OFF. -/
def execSlotPinch (d : Fin 32) (s : State) : Host.Outcome State Fault Refusal := .next (slotPinch d s)

/-- COAST_END (R202): STILL ms without motion evidence ends COAST; the slot adds the coast estimate and becomes
IDLE. -/
def execCoastEnd (d : Fin 32) (s : State) : Host.Outcome State Fault Refusal := .next (coastEnd d s)

/-- REVERSE_END (R215): After BACK counts, or on TREV expiry, the slot publishes OFF and enters COAST. -/
def execReverseEnd (d : Fin 32) (s : State) : Host.Outcome State Fault Refusal := .next (reverseEnd d s)

/-- REPORT_TICK (R222): The DS_REPORT period expires and the slot's periodic MEASURE reports fall due. -/
def execReportTick (d : Fin 32) (s : State) : Host.Outcome State Fault Refusal := .next (reportTick d s)

/-- POSITION_WRITE (R208): A write of DS_POSL sets the position, VALID and DIRTY, and clears DOUBT and CORR. -/
def execPositionWrite (a : Accessor) (v : Word) (s : State) : Host.Outcome State Fault Refusal :=
  .next (regPut a (.ds .POSL) 0 v s)

/-- COOLANT_ENABLE (R225): A write of DS_CLCTL.EN starts or ends Coolant Loop and its ownership of its slots. -/
def execCoolantEnable (a : Accessor) (v : Word) (s : State) : Host.Outcome State Fault Refusal :=
  .next (regPut a (.ds .CLCTL) 0 v s)

/-- COOLANT_STEP (R226): Every PERIOD ms the loop computes the demand and sends pump and fan speeds. -/
def execCoolantStep (s : State) : Host.Outcome State Fault Refusal := .next (coolantStep s)

/-- DRY_RESTART (R227): WAIT seconds after a dry stop the loop restarts the pump at rpm_min. -/
def execDryRestart (k : Fin 2) (s : State) : Host.Outcome State Fault Refusal := .next (pumpRestart k s)

/-- SERVICE_REQUEST_TAKEN (R225): A resident service takes a pending request within 100 µs and clears its GO. -/
def execServiceRequestTaken (homing : Bool) (s : State) : Host.Outcome State Fault Refusal :=
  .next (serviceTaken homing s)

/-- RECALL_GO (R229): DS_PRCTL.GO starts a Position Recall of memory MEM. -/
def execRecallGo (a : Accessor) (mem : Fin 4) (s : State) : Host.Outcome State Fault Refusal :=
  .next (regPut a (.ds .PRCTL) 0 (at_ 1 31 ||| at_ mem.val 28) s)

/-- RECALL_STOP (R229): DS_PRCTL.STOP aborts the recall and sends OFF to its moving slots. -/
def execRecallStop (a : Accessor) (s : State) : Host.Outcome State Fault Refusal :=
  .next (regPut a (.ds .PRCTL) 0 (at_ 1 30 ||| (s.reg (.ds .PRCTL) &&& 0x30000000)) s)

/-- RECALL_SAVE (R230): DS_PRCTL.SAVE copies valid slot positions into memory MEM. -/
def execRecallSave (a : Accessor) (mem : Fin 4) (s : State) : Host.Outcome State Fault Refusal :=
  .next (regPut a (.ds .PRCTL) 0 (at_ 1 27 ||| at_ mem.val 28) s)

/-- RECALL_TIMEOUT (R229): TMO × 0.1 s without DONE aborts the recall. -/
def execRecallTimeout (s : State) : Host.Outcome State Fault Refusal := .next (recallTimeout s)

/-- HOMING_GO (R231): DS_FHCTL.GO starts homing of the slots in DS_FHMASK. -/
def execHomingGo (a : Accessor) (s : State) : Host.Outcome State Fault Refusal :=
  .next (regPut a (.ds .FHCTL) 0 (at_ 1 31 ||| (s.reg (.ds .FHCTL) &&& 0x30000000)) s)

/-- HOMING_STOP (R231): DS_FHCTL.STOP aborts homing. -/
def execHomingStop (a : Accessor) (s : State) : Host.Outcome State Fault Refusal :=
  .next (regPut a (.ds .FHCTL) 0 (at_ 1 30 ||| (s.reg (.ds .FHCTL) &&& 0x30000000)) s)

/-- HOMING_TIMEOUT (R231): A slot that reaches no end stop within TMO fails homing. -/
def execHomingTimeout (d : Fin 32) (s : State) : Host.Outcome State Fault Refusal := .next (homingTimeout d s)

/-- AUTO_HOMING_START (R232): A masked slot that gained DOUBT is homed once it is IDLE and unowned. -/
def execAutoHomingStart (which : AutoHoming) (s : State) : Host.Outcome State Fault Refusal :=
  .next (autoHoming which s)

end Sys2Proof.Machine
end

