-- ==== Sys2Proof/Machine/StorageRows.lean ====
section
/-! DEFINITION. The commands of reset, boot and persistent storage (chapter 17). -/
namespace Sys2Proof.Machine

/-- POWER_ON_RESET (R522): Supplies rise above threshold; the whole hub resets and boots. -/
def execPowerOnReset (strap : Fin 9) (s : State) : Host.Outcome State Fault Refusal :=
  .next (powerOnReset strap.val s)

/-- BROWN_OUT_RESET (R522): VDD33 or VDDA falls below threshold for 2 µs; a system reset follows. -/
def execBrownOutReset (s : State) : Host.Outcome State Fault Refusal := .next (brownOut s)

/-- PIN_RESET (R523): RESET_N low for 1 µs causes a system reset. -/
def execPinReset (low : Nat) (s : State) : Host.Outcome State Fault Refusal := .next (pinReset low s)

/-- SOFTWARE_RESET (R522): A write of 0x0000_C3A5 to NV_SYSRST causes a system reset. -/
def execSoftwareReset (a : Accessor) (s : State) : Host.Outcome State Fault Refusal :=
  .next (regPut a (.nv .SYSRST) 0 0x0000C3A5 s)

/-- ENCLAVE_RESET (R522): The enclave requests a system reset. -/
def execEnclaveReset (s : State) : Host.Outcome State Fault Refusal := .next (enclaveReset s)

/-- BOOT_COMPLETE (R526): After verification and consist load, A0 and the Vane leave reset. -/
def execBootComplete (s : State) : Host.Outcome State Fault Refusal := .next (bootComplete s)

/-- A1_START (R529): A write of NV_A1START by A0 releases A1. -/
def execA1Start (a : Accessor) (v : Word) (s : State) : Host.Outcome State Fault Refusal :=
  .next (regPut a (.nv .A1START) 0 v s)

/-- NVM_OPEN (R533): Erases a bank's marker and opens the bank. -/
def execNvmOpen (a : Accessor) (b : Fin 2) (s : State) : Host.Outcome State Fault Refusal :=
  .next (regPut a (.nv .CMD) 0 (at_ 1 28 ||| at_ b.val 0) s)

/-- NVM_ERASE (R533): Erases an 8 KiB sector of an open bank. -/
def execNvmErase (a : Accessor) (s : State) : Host.Outcome State Fault Refusal :=
  .next (regPut a (.nv .CMD) 0 (at_ 2 28) s)

/-- NVM_PROGRAM (R533): Programs a 16-byte unit. -/
def execNvmProgram (a : Accessor) (s : State) : Host.Outcome State Fault Refusal :=
  .next (regPut a (.nv .CMD) 0 (at_ 3 28) s)

/-- NVM_COMMIT (R534): Verifies a bank and writes its marker. -/
def execNvmCommit (a : Accessor) (b : Fin 2) (s : State) : Host.Outcome State Fault Refusal :=
  .next (regPut a (.nv .CMD) 0 (at_ 4 28 ||| at_ b.val 0) s)

/-- NVM_STORE (R538): Stores the dirty settings pages. -/
def execNvmStore (a : Accessor) (vddOk : Bool) (s : State) : Host.Outcome State Fault Refusal :=
  .next (storeCommand a vddOk s)

/-- NVM_CLOSE (R533): Closes the bank. -/
def execNvmClose (a : Accessor) (b : Fin 2) (s : State) : Host.Outcome State Fault Refusal :=
  .next (regPut a (.nv .CMD) 0 (at_ 6 28 ||| at_ b.val 0) s)

/-- NVM_OPERATION_DONE (R533): An NVM operation ends with a result in NV_STAT. -/
def execNvmOperationDone (readBackOk : Bool) (s : State) : Host.Outcome State Fault Refusal :=
  .next (nvDone readBackOk s)

/-- STORE_PAGE_WRITTEN (R538): A page's new copy is programmed and verified. -/
def execStorePageWritten (readBackOk : Bool) (vddOk : Bool) (s : State) : Host.Outcome State Fault Refusal :=
  .next (storePageWritten readBackOk vddOk s)

/-- SETTINGS_WRITE (R537): A write to a settings image page sets its NV_DIRTY bit. -/
def execSettingsWrite (a : Accessor) (page : Fin 32) (off : Fin 2048) (size : Nat) (v : Word) (s : State) : Host.Outcome State Fault Refusal :=
  .next (busWrite a (0x20120000 + 0x800 * page.val + off.val) size v s)

end Sys2Proof.Machine
end

