-- ==== Sys2Proof/Machine/SystemRows.lean ====
section
/-! DEFINITION. The commands of the stamp and of plain register accesses (chapters 01 and 07). -/
namespace Sys2Proof.Machine

/-- STAMP_HIGH_CHANGE (R246): Stamp bits [47:32] change at stamp B; the merger starts the epoch barrier and holds
records stamped at or after B. -/
def execStampHighChange (s : State) : Host.Outcome State Fault Refusal := .next (stampHighChange s)

/-- EPOCH_WRITE (R246): Once every class front has passed B, the merger writes EPOCH stamped B and then releases the
held records. -/
def execEpochWrite (s : State) : Host.Outcome State Fault Refusal := .next (epochWrite s)

/-- STAMP_HANDOVER (R23): On the first BUSCLK edge after the exit X32 increment, the BUSCLK counter loads the Vane
counter and becomes the stamp source again. -/
def execStampHandover (s : State) : Host.Outcome State Fault Refusal := .next (performWaiting (stampHandover s))

/-- WIDE_VALUE_READ (R38): A low-word read of a wide value snapshots every word of that value into the accessor's
holding register. -/
def execWideValueRead (a : Accessor) (w : WideValue) (s : State) : Host.Outcome State Fault Refusal :=
  .next (wideRead a w s)

/-- WIDE_VALUE_WRITE (R38): A low-word write commits the staged high words and the low word on one BUSCLK edge. -/
def execWideValueWrite (a : Accessor) (w : WideInput) (v : Word) (s : State) : Host.Outcome State Fault Refusal :=
  .next (wideWrite a w v s)

/-- SELECT_WRITE (R43): A write of a per-accessor select register; a value out of range is ignored. -/
def execSelectWrite (a : Accessor) (q : SelectName) (v : Word) (s : State) : Host.Outcome State Fault Refusal :=
  .next (selectWrite a q v s)

/-- REGISTER_WRITE (R40): A write to a register that has no row of its own; it takes effect at its accepting edge
under the field's access type. -/
def execRegisterWrite (a : Accessor) (addr : Word) (size : Nat) (v : Word) (s : State) : Host.Outcome State Fault Refusal :=
  .next (performWaiting (busWrite a addr.toNat size v s))

/-- STALLED_ACCESS_COMPLETE (R35): An access stalled on a domain that was off completes once that domain is ready.
-/
def execStalledAccessComplete (a : Accessor) (s : State) : Host.Outcome State Fault Refusal :=
  .next (stalledComplete a s)

/-- READ_CLEAR_ACCESS (R7): A processor or port read of an RC field returns the field and clears it. -/
def execReadClearAccess (a : Accessor) (addr : Word) (size : Nat) (s : State) : Host.Outcome State Fault Refusal :=
  .next (busRead a addr.toNat size s)

end Sys2Proof.Machine
end

