-- ==== Sys2Proof/Machine/TwoWireRows.lean ====
section
/-! DEFINITION. The commands of the two-wire port (chapter 11). -/
namespace Sys2Proof.Machine

/-- TW_STATUS (R395): Returns the status byte and the last result. -/
def execTwStatus (k : TwTake) (s : State) : Host.Outcome State Fault Refusal :=
  .next (twReadRun 0x00 false true k twStatusRun s)

/-- TW_HELLO (R395): Returns the HELLO words and clears TW_NSRC.NEW. -/
def execTwHello (k : TwTake) (s : State) : Host.Outcome State Fault Refusal :=
  .next (twReadRun 0x01 true false k twHelloRun s)

/-- TW_POINTER (R398): Sets TW_PTR. -/
def execTwPointer (bytes : List Byte) (s : State) : Host.Outcome State Fault Refusal :=
  .next (twWriteRun 0x02 (.block 4 4 1 0) bytes pointerRun s)

/-- TW_READ_REG (R398): Reads WORDS words from the pointer through the window. -/
def execTwReadReg (k : TwTake) (s : State) : Host.Outcome State Fault Refusal :=
  .next (twReadRun 0x03 true false k twReadReg s)

/-- TW_WRITE_REG (R398): Writes words at the pointer through the window. -/
def execTwWriteReg (bytes : List Byte) (s : State) : Host.Outcome State Fault Refusal :=
  .next (performWaiting (twWriteRun 0x04 (.block 4 252 4 0) bytes twWriteReg s))

/-- TW_READ_BATCH (R400): Reads a block of cursor 1. -/
def execTwReadBatch (k : TwTake) (s : State) : Host.Outcome State Fault Refusal :=
  .next (twReadRun 0x05 true false k twBatch s)

/-- TW_BATCH_AGAIN (R402): Returns the undelivered block again. -/
def execTwBatchAgain (k : TwTake) (s : State) : Host.Outcome State Fault Refusal := .next (batchAgain k s)

/-- TW_LOAD_CONSIST_CHUNK (R403): Writes an image chunk into the staging buffer. -/
def execTwLoadConsistChunk (bytes : List Byte) (s : State) : Host.Outcome State Fault Refusal :=
  .next (twWriteRun 0x07 (.block 6 254 4 2) bytes twChunk s)

/-- TW_LOAD_CONSIST_VERIFY (R403): Issues a consist verify as a long command. -/
def execTwLoadConsistVerify (bytes : List Byte) (s : State) : Host.Outcome State Fault Refusal :=
  .next (twWriteRun 0x08 (.bytes 1) (phaseByte 1 bytes) (twPhase .verify 1) s)

/-- TW_LOAD_CONSIST_APPLY (R403): Issues a consist apply as a long command. -/
def execTwLoadConsistApply (bytes : List Byte) (s : State) : Host.Outcome State Fault Refusal :=
  .next (twWriteRun 0x08 (.bytes 1) (phaseByte 2 bytes) (twPhase .apply 2) s)

/-- TW_SHUNT (R403): Issues a shunt as a long command. -/
def execTwShunt (bytes : List Byte) (s : State) : Host.Outcome State Fault Refusal :=
  .next (twWriteRun 0x09 (.bytes 1) bytes twShunt s)

/-- TW_STORE (R403): Starts a settings store as a long command. -/
def execTwStore (bytes : List Byte) (vddOk : Bool) (s : State) : Host.Outcome State Fault Refusal :=
  .next (twWriteRun 0x0A (.bytes 0) bytes (twStore vddOk) s)

/-- TW_POWER_REQ (R395): Passes a power-state request to power control. -/
def execTwPowerReq (bytes : List Byte) (s : State) : Host.Outcome State Fault Refusal :=
  .next (performWaiting (twWriteRun 0x0B (.bytes 1) bytes twPower s))

/-- TW_SYNC (R404): Records the stamp of the STOP condition. -/
def execTwSync (bytes : List Byte) (since : Fin 4) (s : State) : Host.Outcome State Fault Refusal :=
  .next (twWriteRun 0x0C (.bytes 0) bytes (twSync since.val) s)

/-- TW_SYNC_READ (R404): Returns the SYNC stamp and count. -/
def execTwSyncRead (k : TwTake) (s : State) : Host.Outcome State Fault Refusal :=
  .next (twReadRun 0x0D true false k twSyncRead s)

/-- TW_ALMANAC_PTR (R395): Sets the almanac first index and count. -/
def execTwAlmanacPtr (bytes : List Byte) (s : State) : Host.Outcome State Fault Refusal :=
  .next (twWriteRun 0x0E (.bytes 2) bytes twAlmanacPtr s)

/-- TW_ALMANAC_READ (R405): Returns almanac entries and advances the index. -/
def execTwAlmanacRead (k : TwTake) (s : State) : Host.Outcome State Fault Refusal :=
  .next (twReadRun 0x0F true false k twAlmanac s)

/-- TW_NOTIFY_CFG (R395): Writes TW_NMASK. -/
def execTwNotifyCfg (bytes : List Byte) (s : State) : Host.Outcome State Fault Refusal :=
  .next (twWriteRun 0x10 (.bytes 2) bytes twNotifyCfg s)

/-- TW_LONG_DONE (R403): A two-wire long command completes and sets TW_STAT.DONE. -/
def execTwLongDone (s : State) : Host.Outcome State Fault Refusal := .next (longDone 2 (.tw .STAT) s.tw.longOut s)

/-- STRETCH_TIMEOUT (R392): A stretch reaching 25 ms releases SCL and voids the transaction. -/
def execStretchTimeout (code : BitVec 8) (s : State) : Host.Outcome State Fault Refusal :=
  .next (stretchTimeout code.toNat s)

/-- BUS_TIMEOUT (R393): SCL low for 35 ms abandons the transaction. -/
def execBusTimeout (s : State) : Host.Outcome State Fault Refusal := .next (busTimeout s)

/-- ADDRESS_MATCH (R406): In Lull the matcher ACKs its address, holds SCL and raises a wake. -/
def execAddressMatch (s : State) : Host.Outcome State Fault Refusal := .next (addressMatch s)

/-- TW_TAKEOVER (R406): The port takes over the held transaction and releases SCL. -/
def execTwTakeover (s : State) : Host.Outcome State Fault Refusal := .next (twTakeover s)

/-- MATCHER_RELEASE (R406): 60 µs without takeover releases SCL and sets STRETCHOUT. -/
def execMatcherRelease (s : State) : Host.Outcome State Fault Refusal := .next (matcherRelease s)

/-- CALM_ADDRESS_WAKE (R407): In Calm an address match starts a wake, without ACK. -/
def execCalmAddressWake (s : State) : Host.Outcome State Fault Refusal := .next (calmAddressWake s)

/-- HOST_NOTIFY (R410): On an idle bus the hub sends a Host Notify to address 0x08. -/
def execHostNotify (e : NotifyEnd) (s : State) : Host.Outcome State Fault Refusal := .next (hostNotify e s)

/-- TW_SWIRQ_SET (R409): A write of TW_SWIRQ sets TW_NSRC.SW. -/
def execTwSwirqSet (a : Accessor) (v : Word) (s : State) : Host.Outcome State Fault Refusal :=
  .next (regPut a (.tw .SWIRQ) 0 v s)

/-- TW_UNKNOWN_CODE (R395): A two-wire transaction with an unlisted command code is NACKed and sets TW_STAT.CMDERR.
-/
def execTwUnknownCode (code : BitVec 8) (s : State) : Host.Outcome State Fault Refusal :=
  .next (twUnknownCode code s)

end Sys2Proof.Machine
end

