-- ==== Sys2Proof/Machine/Dispatch.lean ====
section
/-! DEFINITION. The meaning of every command: one arm per constructor, one direct call each. -/
namespace Sys2Proof.Machine

/-- The effect of a command on everything but the queue. -/
def exec (i : Instr) (s : State) : Host.Outcome State Fault Refusal :=
  match i with
  | .stampHighChange => Sys2Proof.Machine.execStampHighChange s
  | .epochWrite => Sys2Proof.Machine.execEpochWrite s
  | .stampHandover => Sys2Proof.Machine.execStampHandover s
  | .wideValueRead a w => Sys2Proof.Machine.execWideValueRead a w s
  | .wideValueWrite a w v => Sys2Proof.Machine.execWideValueWrite a w v s
  | .selectWrite a q v => Sys2Proof.Machine.execSelectWrite a q v s
  | .registerWrite a addr size v => Sys2Proof.Machine.execRegisterWrite a addr size v s
  | .stalledAccessComplete a => Sys2Proof.Machine.execStalledAccessComplete a s
  | .laneEnable a mask => Sys2Proof.Machine.execLaneEnable a mask s
  | .laneStop a mask => Sys2Proof.Machine.execLaneStop a mask s
  | .laneCommit a => Sys2Proof.Machine.execLaneCommit a s
  | .laneRestart a => Sys2Proof.Machine.execLaneRestart a s
  | .laneTestnow a => Sys2Proof.Machine.execLaneTestnow a s
  | .scanCycleStart k trigger => Sys2Proof.Machine.execScanCycleStart k trigger s
  | .settleEnd k => Sys2Proof.Machine.execSettleEnd k s
  | .conversionComplete k code consistent cmOut => Sys2Proof.Machine.execConversionComplete k code consistent cmOut s
  | .withheldWordRelease k => Sys2Proof.Machine.execWithheldWordRelease k s
  | .laneSubstComplete k => Sys2Proof.Machine.execLaneSubstComplete k s
  | .laneTimerTick p => Sys2Proof.Machine.execLaneTimerTick p s
  | .referenceTestStart p => Sys2Proof.Machine.execReferenceTestStart p s
  | .referenceTestDone p value consistent => Sys2Proof.Machine.execReferenceTestDone p value consistent s
  | .laneRetest a => Sys2Proof.Machine.execLaneRetest a s
  | .laneRetestDone p values consistent => Sys2Proof.Machine.execLaneRetestDone p values consistent s
  | .temperatureReading t => Sys2Proof.Machine.execTemperatureReading t s
  | .calRunRequest a mask => Sys2Proof.Machine.execCalRunRequest a mask s
  | .calLaneSelect => Sys2Proof.Machine.execCalLaneSelect s
  | .calRunStart => Sys2Proof.Machine.execCalRunStart s
  | .calRunEnd codes verify consistent => Sys2Proof.Machine.execCalRunEnd codes verify consistent s
  | .loanEnd k => Sys2Proof.Machine.execLoanEnd k s
  | .staleWordDue k => Sys2Proof.Machine.execStaleWordDue k s
  | .holdResume k => Sys2Proof.Machine.execHoldResume k s
  | .calSetsWrite a j v => Sys2Proof.Machine.execCalSetsWrite a j v s
  | .dacCodeWrite a v => Sys2Proof.Machine.execDacCodeWrite a v s
  | .trimWrite a which v => Sys2Proof.Machine.execTrimWrite a which v s
  | .nop p chk => Sys2Proof.Machine.execNop p chk s
  | .wait p chk => Sys2Proof.Machine.execWait p chk s
  | .move p chk => Sys2Proof.Machine.execMove p chk s
  | .scale p chk => Sys2Proof.Machine.execScale p chk s
  | .fir p chk => Sys2Proof.Machine.execFir p chk s
  | .biq p chk => Sys2Proof.Machine.execBiq p chk s
  | .cic p chk => Sys2Proof.Machine.execCic p chk s
  | .rect p chk => Sys2Proof.Machine.execRect p chk s
  | .env p chk => Sys2Proof.Machine.execEnv p chk s
  | .thr p chk => Sys2Proof.Machine.execThr p chk s
  | .cnt p chk => Sys2Proof.Machine.execCnt p chk s
  | .peak p chk => Sys2Proof.Machine.execPeak p chk s
  | .lut p chk => Sys2Proof.Machine.execLut p chk s
  | .recStep p chk => Sys2Proof.Machine.execRec p chk s
  | .sq p chk => Sys2Proof.Machine.execSq p chk s
  | .sqrt p chk => Sys2Proof.Machine.execSqrt p chk s
  | .dly p chk => Sys2Proof.Machine.execDly p chk s
  | .evt p chk => Sys2Proof.Machine.execEvt p chk s
  | .jmp p chk => Sys2Proof.Machine.execJmp p chk s
  | .clr p chk => Sys2Proof.Machine.execClr p chk s
  | .invalidOperation p => Sys2Proof.Machine.execInvalidOperation p s
  | .emitAfterStall p => Sys2Proof.Machine.execEmitAfterStall p s
  | .couplingWordArrive d parityError => Sys2Proof.Machine.execCouplingWordArrive d parityError s
  | .carriageSubstComplete n => Sys2Proof.Machine.execCarriageSubstComplete n s
  | .outletWordRelease n o => Sys2Proof.Machine.execOutletWordRelease n o s
  | .trainStart a mask => Sys2Proof.Machine.execTrainStart a mask s
  | .trainStartComplete n => Sys2Proof.Machine.execTrainStartComplete n s
  | .trainStop a mask => Sys2Proof.Machine.execTrainStop a mask s
  | .trainDrained n => Sys2Proof.Machine.execTrainDrained n s
  | .drainCut n => Sys2Proof.Machine.execDrainCut n s
  | .spareBistRound k pass => Sys2Proof.Machine.execSpareBistRound k pass s
  | .carriageRetest a p => Sys2Proof.Machine.execCarriageRetest a p s
  | .carriageRetestDone p pass => Sys2Proof.Machine.execCarriageRetestDone p pass s
  | .diagnosticWrite a p w v => Sys2Proof.Machine.execDiagnosticWrite a p w v s
  | .consistVerify a => Sys2Proof.Machine.execConsistVerify a s
  | .applyFullImage a => Sys2Proof.Machine.execApplyFullImage a s
  | .applyShuntImage a handover => Sys2Proof.Machine.execApplyShuntImage a handover s
  | .applySlot a slot => Sys2Proof.Machine.execApplySlot a slot s
  | .consistAbort a => Sys2Proof.Machine.execConsistAbort a s
  | .consistCheckDone => Sys2Proof.Machine.execConsistCheckDone s
  | .fullLoadTrainsStopped => Sys2Proof.Machine.execFullLoadTrainsStopped s
  | .fullLoadWritten => Sys2Proof.Machine.execFullLoadWritten s
  | .inPlaceShuntStopped => Sys2Proof.Machine.execInPlaceShuntStopped s
  | .inPlaceShuntLoaded => Sys2Proof.Machine.execInPlaceShuntLoaded s
  | .handoverStagingLoaded => Sys2Proof.Machine.execHandoverStagingLoaded s
  | .handoverOldStopped => Sys2Proof.Machine.execHandoverOldStopped s
  | .handoverTimeout => Sys2Proof.Machine.execHandoverTimeout s
  | .stagingConfigWrite a length v => Sys2Proof.Machine.execStagingConfigWrite a length v s
  | .slotFwd via => Sys2Proof.Machine.execSlotFwd via s
  | .slotRev via => Sys2Proof.Machine.execSlotRev via s
  | .slotOff via => Sys2Proof.Machine.execSlotOff via s
  | .slotSpeed via value => Sys2Proof.Machine.execSlotSpeed via value s
  | .slotClear via => Sys2Proof.Machine.execSlotClear via s
  | .slotPinch d => Sys2Proof.Machine.execSlotPinch d s
  | .coastEnd d => Sys2Proof.Machine.execCoastEnd d s
  | .reverseEnd d => Sys2Proof.Machine.execReverseEnd d s
  | .reportTick d => Sys2Proof.Machine.execReportTick d s
  | .positionWrite a v => Sys2Proof.Machine.execPositionWrite a v s
  | .coolantEnable a v => Sys2Proof.Machine.execCoolantEnable a v s
  | .coolantStep => Sys2Proof.Machine.execCoolantStep s
  | .dryRestart k => Sys2Proof.Machine.execDryRestart k s
  | .serviceRequestTaken homing => Sys2Proof.Machine.execServiceRequestTaken homing s
  | .recallGo a mem => Sys2Proof.Machine.execRecallGo a mem s
  | .recallStop a => Sys2Proof.Machine.execRecallStop a s
  | .recallSave a mem => Sys2Proof.Machine.execRecallSave a mem s
  | .recallTimeout => Sys2Proof.Machine.execRecallTimeout s
  | .homingGo a => Sys2Proof.Machine.execHomingGo a s
  | .homingStop a => Sys2Proof.Machine.execHomingStop a s
  | .homingTimeout d => Sys2Proof.Machine.execHomingTimeout d s
  | .autoHomingStart which => Sys2Proof.Machine.execAutoHomingStart which s
  | .recordArrive => Sys2Proof.Machine.execRecordArrive s
  | .recordWrite => Sys2Proof.Machine.execRecordWrite s
  | .overflowExit => Sys2Proof.Machine.execOverflowExit s
  | .cursorEnable a c v => Sys2Proof.Machine.execCursorEnable a c v s
  | .cursorAck a c v => Sys2Proof.Machine.execCursorAck a c v s
  | .swRecordCommit a v => Sys2Proof.Machine.execSwRecordCommit a v s
  | .horizonWrite a v => Sys2Proof.Machine.execHorizonWrite a v s
  | .almanacWrite => Sys2Proof.Machine.execAlmanacWrite s
  | .almanacLogCommit a v => Sys2Proof.Machine.execAlmanacLogCommit a v s
  | .watchdogEnable a n v => Sys2Proof.Machine.execWatchdogEnable a n v s
  | .watchdogKick a n v => Sys2Proof.Machine.execWatchdogKick a n v s
  | .watchdogExpire n => Sys2Proof.Machine.execWatchdogExpire n s
  | .xtalFail => Sys2Proof.Machine.execXtalFail s
  | .pllFail measured => Sys2Proof.Machine.execPllFail measured s
  | .vrcFail measured => Sys2Proof.Machine.execVrcFail measured s
  | .x32Fail => Sys2Proof.Machine.execX32Fail s
  | .lockstepMismatch pc => Sys2Proof.Machine.execLockstepMismatch pc s
  | .faultPinRelease => Sys2Proof.Machine.execFaultPinRelease s
  | .faultReady a v => Sys2Proof.Machine.execFaultReady a v s
  | .softwareFault a v => Sys2Proof.Machine.execSoftwareFault a v s
  | .phyEnable a b v => Sys2Proof.Machine.execPhyEnable a b v s
  | .phyDisable a b v => Sys2Proof.Machine.execPhyDisable a b v s
  | .candidateFound b matching level clipped => Sys2Proof.Machine.execCandidateFound b matching level clipped s
  | .syncFound b matching level rival clipped => Sys2Proof.Machine.execSyncFound b matching level rival clipped s
  | .syncDeadline b => Sys2Proof.Machine.execSyncDeadline b s
  | .headerDecoded b h clipped => Sys2Proof.Machine.execHeaderDecoded b h clipped s
  | .receptionComplete b bytes track clipped => Sys2Proof.Machine.execReceptionComplete b bytes track clipped s
  | .capture b how => Sys2Proof.Machine.execCapture b how s
  | .transmissionEnd b => Sys2Proof.Machine.execTransmissionEnd b s
  | .blankEnd b => Sys2Proof.Machine.execBlankEnd b s
  | .txOvercurrent b => Sys2Proof.Machine.execTxOvercurrent b s
  | .listenerDetect => Sys2Proof.Machine.execListenerDetect s
  | .exchangeStart b => Sys2Proof.Machine.execExchangeStart b s
  | .responseTimeout b => Sys2Proof.Machine.execResponseTimeout b s
  | .commandCommit a b v => Sys2Proof.Machine.execCommandCommit a b v s
  | .timetableRun a b v => Sys2Proof.Machine.execTimetableRun a b v s
  | .timetableHalt a b v => Sys2Proof.Machine.execTimetableHalt a b v s
  | .enumGo a b v => Sys2Proof.Machine.execEnumGo a b v s
  | .enumStop a b v => Sys2Proof.Machine.execEnumStop a b v s
  | .storedCommandTrigger b k => Sys2Proof.Machine.execStoredCommandTrigger b k s
  | .auidWrite a b v => Sys2Proof.Machine.execAuidWrite a b v s
  | .frameSelect => Sys2Proof.Machine.execFrameSelect s
  | .statusPoll => Sys2Proof.Machine.execStatusPoll s
  | .hello f => Sys2Proof.Machine.execHello f s
  | .readReg f => Sys2Proof.Machine.execReadReg f s
  | .writeReg f => Sys2Proof.Machine.execWriteReg f s
  | .readBatch f => Sys2Proof.Machine.execReadBatch f s
  | .loadConsistChunk f => Sys2Proof.Machine.execLoadConsistChunk f s
  | .loadConsistVerify f => Sys2Proof.Machine.execLoadConsistVerify f s
  | .loadConsistApply f => Sys2Proof.Machine.execLoadConsistApply f s
  | .shunt f => Sys2Proof.Machine.execShunt f s
  | .store f vddOk => Sys2Proof.Machine.execStore f vddOk s
  | .powerReq f => Sys2Proof.Machine.execPowerReq f s
  | .sync f since => Sys2Proof.Machine.execSync f since s
  | .almanacRead f => Sys2Proof.Machine.execAlmanacRead f s
  | .notifyCfg f => Sys2Proof.Machine.execNotifyCfg f s
  | .sessionOpen f => Sys2Proof.Machine.execSessionOpen f s
  | .sessionClose f => Sys2Proof.Machine.execSessionClose f s
  | .noOperation f => Sys2Proof.Machine.execNoOperation f s
  | .longCommandDone => Sys2Proof.Machine.execLongCommandDone s
  | .hostSwirq a v => Sys2Proof.Machine.execHostSwirq a v s
  | .hostPortConfig a v => Sys2Proof.Machine.execHostPortConfig a v s
  | .twStatus k => Sys2Proof.Machine.execTwStatus k s
  | .twHello k => Sys2Proof.Machine.execTwHello k s
  | .twPointer bytes => Sys2Proof.Machine.execTwPointer bytes s
  | .twReadReg k => Sys2Proof.Machine.execTwReadReg k s
  | .twWriteReg bytes => Sys2Proof.Machine.execTwWriteReg bytes s
  | .twReadBatch k => Sys2Proof.Machine.execTwReadBatch k s
  | .twBatchAgain k => Sys2Proof.Machine.execTwBatchAgain k s
  | .twLoadConsistChunk bytes => Sys2Proof.Machine.execTwLoadConsistChunk bytes s
  | .twLoadConsistVerify bytes => Sys2Proof.Machine.execTwLoadConsistVerify bytes s
  | .twLoadConsistApply bytes => Sys2Proof.Machine.execTwLoadConsistApply bytes s
  | .twShunt bytes => Sys2Proof.Machine.execTwShunt bytes s
  | .twStore bytes vddOk => Sys2Proof.Machine.execTwStore bytes vddOk s
  | .twPowerReq bytes => Sys2Proof.Machine.execTwPowerReq bytes s
  | .twSync bytes since => Sys2Proof.Machine.execTwSync bytes since s
  | .twSyncRead k => Sys2Proof.Machine.execTwSyncRead k s
  | .twAlmanacPtr bytes => Sys2Proof.Machine.execTwAlmanacPtr bytes s
  | .twAlmanacRead k => Sys2Proof.Machine.execTwAlmanacRead k s
  | .twNotifyCfg bytes => Sys2Proof.Machine.execTwNotifyCfg bytes s
  | .twLongDone => Sys2Proof.Machine.execTwLongDone s
  | .stretchTimeout code => Sys2Proof.Machine.execStretchTimeout code s
  | .busTimeout => Sys2Proof.Machine.execBusTimeout s
  | .addressMatch => Sys2Proof.Machine.execAddressMatch s
  | .twTakeover => Sys2Proof.Machine.execTwTakeover s
  | .matcherRelease => Sys2Proof.Machine.execMatcherRelease s
  | .calmAddressWake => Sys2Proof.Machine.execCalmAddressWake s
  | .hostNotify e => Sys2Proof.Machine.execHostNotify e s
  | .twSwirqSet a v => Sys2Proof.Machine.execTwSwirqSet a v s
  | .profileTrigger k => Sys2Proof.Machine.execProfileTrigger k s
  | .profileGo a => Sys2Proof.Machine.execProfileGo a s
  | .sensorFrameStart => Sys2Proof.Machine.execSensorFrameStart s
  | .sensorFrameEnd data => Sys2Proof.Machine.execSensorFrameEnd data s
  | .windowRead a off size => Sys2Proof.Machine.execWindowRead a off size s
  | .windowWrite a off size v => Sys2Proof.Machine.execWindowWrite a off size v s
  | .pageBufferIdle => Sys2Proof.Machine.execPageBufferIdle s
  | .flashStatusPoll status => Sys2Proof.Machine.execFlashStatusPoll status s
  | .flashOperationTimeout => Sys2Proof.Machine.execFlashOperationTimeout s
  | .flashEraseSector a addr => Sys2Proof.Machine.execFlashEraseSector a addr s
  | .flashEraseBlock a addr => Sys2Proof.Machine.execFlashEraseBlock a addr s
  | .flashEraseDevice a => Sys2Proof.Machine.execFlashEraseDevice a s
  | .flashProgramBuffer a => Sys2Proof.Machine.execFlashProgramBuffer a s
  | .cacheInvalidate a => Sys2Proof.Machine.execCacheInvalidate a s
  | .modeFault low => Sys2Proof.Machine.execModeFault low s
  | .profileBufferWrite a phase v => Sys2Proof.Machine.execProfileBufferWrite a phase v s
  | .eventDelivery => Sys2Proof.Machine.execEventDelivery s
  | .softwarePublish a high v => Sys2Proof.Machine.execSoftwarePublish a high v s
  | .gateWrite a v => Sys2Proof.Machine.execGateWrite a v s
  | .routeEntryWrite a e v => Sys2Proof.Machine.execRouteEntryWrite a e v s
  | .timerStart via => Sys2Proof.Machine.execTimerStart via s
  | .timerGroupStart a mask => Sys2Proof.Machine.execTimerGroupStart a mask s
  | .timerStop via => Sys2Proof.Machine.execTimerStop via s
  | .timerClear via => Sys2Proof.Machine.execTimerClear via s
  | .timerCapture via => Sys2Proof.Machine.execTimerCapture via s
  | .timerCountEvent n => Sys2Proof.Machine.execTimerCountEvent n s
  | .timerWrap n => Sys2Proof.Machine.execTimerWrap n s
  | .compareFire n => Sys2Proof.Machine.execCompareFire n s
  | .compareWrite a second v => Sys2Proof.Machine.execCompareWrite a second v s
  | .reloadWrite a v => Sys2Proof.Machine.execReloadWrite a v s
  | .timerConfigWrite a count v => Sys2Proof.Machine.execTimerConfigWrite a count v s
  | .outputLevelWrite a v => Sys2Proof.Machine.execOutputLevelWrite a v s
  | .captureRead a => Sys2Proof.Machine.execCaptureRead a s
  | .interruptRoute => Sys2Proof.Machine.execInterruptRoute s
  | .interruptClaim a x => Sys2Proof.Machine.execInterruptClaim a x s
  | .interruptComplete a x v => Sys2Proof.Machine.execInterruptComplete a x v s
  | .softwareInterruptSet a v => Sys2Proof.Machine.execSoftwareInterruptSet a v s
  | .sourceConfigWrite a n v => Sys2Proof.Machine.execSourceConfigWrite a n v s
  | .coreAcceptWrite a x v => Sys2Proof.Machine.execCoreAcceptWrite a x v s
  | .coreResetRequest a x v => Sys2Proof.Machine.execCoreResetRequest a x v s
  | .coreFaultReset x why => Sys2Proof.Machine.execCoreFaultReset x why s
  | .coreRestart x => Sys2Proof.Machine.execCoreRestart x s
  | .wakeLatchSet w => Sys2Proof.Machine.execWakeLatchSet w s
  | .coreWfi x => Sys2Proof.Machine.execCoreWfi x s
  | .coreWake x => Sys2Proof.Machine.execCoreWake x s
  | .fenceI x => Sys2Proof.Machine.execFenceI x s
  | .requestGale a => Sys2Proof.Machine.execRequestGale a s
  | .requestBreeze a => Sys2Proof.Machine.execRequestBreeze a s
  | .requestLull a => Sys2Proof.Machine.execRequestLull a s
  | .requestCalm a => Sys2Proof.Machine.execRequestCalm a s
  | .vaneWakeRequest a v => Sys2Proof.Machine.execVaneWakeRequest a v s
  | .vaneCalmRequest a v => Sys2Proof.Machine.execVaneCalmRequest a v s
  | .handshakeCommit => Sys2Proof.Machine.execHandshakeCommit s
  | .handshakeRefuse => Sys2Proof.Machine.execHandshakeRefuse s
  | .handshakeTimeout => Sys2Proof.Machine.execHandshakeTimeout s
  | .lullEntered => Sys2Proof.Machine.execLullEntered s
  | .lullExit => Sys2Proof.Machine.execLullExit s
  | .pllLocked => Sys2Proof.Machine.execPllLocked s
  | .breezeReached => Sys2Proof.Machine.execBreezeReached s
  | .calmEntered => Sys2Proof.Machine.execCalmEntered s
  | .calmWake => Sys2Proof.Machine.execCalmWake s
  | .domainIdleOff d => Sys2Proof.Machine.execDomainIdleOff d s
  | .domainWake d => Sys2Proof.Machine.execDomainWake d s
  | .retentionCheckDone bank ok canary => Sys2Proof.Machine.execRetentionCheckDone bank ok canary s
  | .padRelease a groups => Sys2Proof.Machine.execPadRelease a groups s
  | .clockSourceWrite a v => Sys2Proof.Machine.execClockSourceWrite a v s
  | .monitorScan codes => Sys2Proof.Machine.execMonitorScan codes s
  | .vaneCaptureEdge n rising => Sys2Proof.Machine.execVaneCaptureEdge n rising s
  | .wakePinChange k level => Sys2Proof.Machine.execWakePinChange k level s
  | .rtcAlarm => Sys2Proof.Machine.execRtcAlarm s
  | .powerOnReset strap => Sys2Proof.Machine.execPowerOnReset strap s
  | .brownOutReset => Sys2Proof.Machine.execBrownOutReset s
  | .pinReset low => Sys2Proof.Machine.execPinReset low s
  | .softwareReset a => Sys2Proof.Machine.execSoftwareReset a s
  | .enclaveReset => Sys2Proof.Machine.execEnclaveReset s
  | .bootComplete => Sys2Proof.Machine.execBootComplete s
  | .a1Start a v => Sys2Proof.Machine.execA1Start a v s
  | .nvmOpen a b => Sys2Proof.Machine.execNvmOpen a b s
  | .nvmErase a => Sys2Proof.Machine.execNvmErase a s
  | .nvmProgram a => Sys2Proof.Machine.execNvmProgram a s
  | .nvmCommit a b => Sys2Proof.Machine.execNvmCommit a b s
  | .nvmStore a vddOk => Sys2Proof.Machine.execNvmStore a vddOk s
  | .nvmClose a b => Sys2Proof.Machine.execNvmClose a b s
  | .nvmOperationDone readBackOk => Sys2Proof.Machine.execNvmOperationDone readBackOk s
  | .storePageWritten readBackOk vddOk => Sys2Proof.Machine.execStorePageWritten readBackOk vddOk s
  | .settingsWrite a page off size v => Sys2Proof.Machine.execSettingsWrite a page off size v s
  | .hash a slot len => Sys2Proof.Machine.execHash a slot len s
  | .verify a slot len => Sys2Proof.Machine.execVerify a slot len s
  | .cmac a slot len => Sys2Proof.Machine.execCmac a slot len s
  | .ctr a slot len => Sys2Proof.Machine.execCtr a slot len s
  | .random a slot len => Sys2Proof.Machine.execRandom a slot len s
  | .keyInstall a slot len => Sys2Proof.Machine.execKeyInstall a slot len s
  | .keyRevoke a slot len => Sys2Proof.Machine.execKeyRevoke a slot len s
  | .keyInfo a slot len => Sys2Proof.Machine.execKeyInfo a slot len s
  | .setmin a slot len => Sys2Proof.Machine.execSetmin a slot len s
  | .winset a slot len => Sys2Proof.Machine.execWinset a slot len s
  | .advance a slot len => Sys2Proof.Machine.execAdvance a slot len s
  | .decommission a slot len => Sys2Proof.Machine.execDecommission a slot len s
  | .mailboxDone storeOk => Sys2Proof.Machine.execMailboxDone storeOk s
  | .seclockSet a v => Sys2Proof.Machine.execSeclockSet a v s
  | .secdbgChallenge => Sys2Proof.Machine.execSecdbgChallenge s
  | .secdbgResponse slot mac => Sys2Proof.Machine.execSecdbgResponse slot mac s
  | .entropyFail repetition => Sys2Proof.Machine.execEntropyFail repetition s
  | .enclaveSensorTrip t => Sys2Proof.Machine.execEnclaveSensorTrip t s
  | .readClearAccess a addr size => Sys2Proof.Machine.execReadClearAccess a addr size s
  | .secondWatchCandidate b matching level => Sys2Proof.Machine.execSecondWatchCandidate b matching level s
  | .secondWatchSync b matching level => Sys2Proof.Machine.execSecondWatchSync b matching level s
  | .secondWatchDeadline b => Sys2Proof.Machine.execSecondWatchDeadline b s
  | .badopFrame op f => Sys2Proof.Machine.execBadopFrame op f s
  | .twUnknownCode code => Sys2Proof.Machine.execTwUnknownCode code s
  | .crystalRunning => Sys2Proof.Machine.execCrystalRunning s
  | .x32Start => Sys2Proof.Machine.execX32Start s

end Sys2Proof.Machine
end

