-- ==== Sys2Proof/Safety.lean ====
section
/-! DEFINITION. What claims about the hub say: that its tables are in canonical form, that a step goes on, and what a step
leaves unchanged. -/
namespace Sys2Proof.Machine

/-- Memory and register file are in canonical form (log entry 1). -/
structure Canonical (s : State) : Prop where
  mem : Memory.wf s.mem
  regs : RegFile.wf s.regs

/-- The clocks agree with R19 and R21: while BUSCLK is stopped the Vane counter is the stamp source, the fractional
accumulator has four bits, and the phase of X32 stays below one X32 period. -/
structure ClockOk (c : Clock) : Prop where
  source : c.busOn = false → c.source = .vane
  acc : c.acc < 16
  phase : c.x32phase < 46875

/-- What every step keeps. -/
structure Sound (s : State) : Prop extends Canonical s where
  clock : ClockOk s.clk

/-- FAULT_N is low whenever a condition of R275 holds. -/
def FaultShown (s : State) : Prop := faultCond s = true → s.safety.pinLow = true

/-- The parts of the hub's state beside the register file, the queue and the count of free values. -/
inductive Part where
  | acc | mem | clk | merger | safety | router | timers | drawbar | slots | loop | prRun | homing
  | lanes | phys | cal | coach | sensor | ic | power | nvm | enclave | host | tw
  deriving DecidableEq, Repr

/-- Part `p` is the same in `t` as in `s`. -/
def Part.same (p : Part) (s t : State) : Prop :=
  match p with
  | .acc => t.acc = s.acc
  | .mem => t.mem = s.mem
  | .clk => t.clk = s.clk
  | .merger => t.merger = s.merger
  | .safety => t.safety = s.safety
  | .router => t.router = s.router
  | .timers => t.timers = s.timers
  | .drawbar => t.drawbar = s.drawbar
  | .slots => t.slots = s.slots
  | .loop => t.loop = s.loop
  | .prRun => t.prRun = s.prRun
  | .homing => t.homing = s.homing
  | .lanes => t.lanes = s.lanes
  | .phys => t.phys = s.phys
  | .cal => t.cal = s.cal
  | .coach => t.coach = s.coach
  | .sensor => t.sensor = s.sensor
  | .ic => t.ic = s.ic
  | .power => t.power = s.power
  | .nvm => t.nvm = s.nvm
  | .enclave => t.enclave = s.enclave
  | .host => t.host = s.host
  | .tw => t.tw = s.tw

/-- `t` differs from `s` only in the parts of `P` and in stored bits of the registers of `R`. The canonical forms of memory
and register file and the laws of the clocks are kept, the queue of waiting commands is untouched, and no free value is drawn twice. -/
structure Within (P : Part → Prop) (R : Reg → Prop) (s t : State) : Prop where
  mem : Memory.wf s.mem → Memory.wf t.mem
  regs : RegFile.wf s.regs → RegFile.wf t.regs
  clock : ClockOk s.clk → ClockOk t.clk
  pending : t.pending = s.pending
  free : s.freeCount ≤ t.freeCount
  parts : ∀ p, P p ∨ p.same s t
  file : ∀ r u, R r ∨ t.reg r u = s.reg r u


/-! ### Register accesses -/

/-- A write of `v` by an accessor reaches its register: the accessor sees the block, the block is on (R35, R36), and the work
of the write is not postponed (R495, R499). -/
def WriteReaches (a : Accessor) (r : Reg) (v : Word) (s : State) : Prop :=
  gate a r true s = .ok ∧ (postponed r v s).2 = 0

/-- A read by an accessor reaches its register (R35, R36). -/
def ReadReaches (a : Accessor) (r : Reg) (s : State) : Prop := gate a r false s = .ok

/-- What the accessor's last access answered. -/
def lastAnswer (a : Accessor) (s : State) : Answer := (s.acc[accIx a]).answer

/-- No postponed work waits, and no long command waits for its block. -/
def NothingWaits (s : State) : Prop := s.power.waiting = [] ∧ s.host.issue = none ∧ s.tw.issue = none

/-- The registers of `t` are those of `s`, but for the listed units. -/
def RegsBut (l : List (Reg × Nat)) (s t : State) : Prop := ∀ r u, (r, u) ∉ l → t.reg r u = s.reg r u

/-- The parts of `t` beside the register file are those of `s`, but for the listed ones. -/
def PartsBut (l : List Part) (s t : State) : Prop := ∀ p, p ∉ l → p.same s t

end Sys2Proof.Machine
end

