-- ==== Sys2Proof/Footprint.lean ====
section
/-! DEFINITION. The footprint of each command: the parts of the hub and the registers that it may change. A command that can
start any other work, such as a register access by address, a port's frame, a reset or the end of a wait, may change all. -/
namespace Sys2Proof.Machine

/-- What a command may change: everything; parts of the state and any register; or parts of the state and registers. -/
inductive Footprint where
  | all
  | parts (parts : List Part)
  | only (parts : List Part) (regs : List Reg)
  deriving DecidableEq, Repr

/-- The part lies in the footprint. -/
def Footprint.hasPart (f : Footprint) (p : Part) : Prop :=
  match f with
  | .all => True
  | .parts ps => p ∈ ps
  | .only ps _ => p ∈ ps

/-- The register lies in the footprint. -/
def Footprint.hasReg (f : Footprint) (r : Reg) : Prop :=
  match f with
  | .all => True
  | .parts _ => True
  | .only _ rs => r ∈ rs

/-- The footprint of a command. -/
def footprint (c : Instr) : Footprint :=
  match c with
  | .stampHighChange => .only [.merger] []
  | .epochWrite | .recordWrite => .only [.mem, .merger, .safety, .router, .ic, .tw] [.rk .STAT, .rk .LATE, .rk .OVCNT,
    .rk .CnSTAT]
  | .stampHandover | .registerWrite _ _ _ _ | .stalledAccessComplete _ | .diagnosticWrite _ _ _ _ | .stagingConfigWrite
    _ _ _ | .pllFail _ | .hello _ | .readReg _ | .writeReg _ | .readBatch _ | .loadConsistChunk _ | .loadConsistVerify _ |
    .loadConsistApply _ | .shunt _ | .store _ _ | .powerReq _ | .sync _ _ | .almanacRead _ | .notifyCfg _ | .sessionOpen _
    | .sessionClose _ | .noOperation _ | .twWriteReg _ | .twPowerReq _ | .windowWrite _ _ _ _ | .profileBufferWrite _ _ _
    | .softwarePublish _ _ _ | .compareWrite _ _ _ | .timerConfigWrite _ _ _ | .requestGale _ | .requestBreeze _ |
    .requestLull _ | .requestCalm _ | .handshakeRefuse | .handshakeTimeout | .breezeReached | .calmEntered | .domainWake _
    | .powerOnReset _ | .brownOutReset | .pinReset _ | .softwareReset _ | .enclaveReset | .nvmStore _ _ | .settingsWrite _
    _ _ _ _ | .mailboxDone _ | .enclaveSensorTrip _ | .badopFrame _ _ => .all
  | .wideValueRead _ _ => .only [.acc] [.pw .STAMPH, .cw .TMEMH, .cw .ACCH, .ds .POSH, .tm .CAPSTH, .rk .OLDH, .nv
    .UIDH, .hp .SYNCH, .tw .SYNCH, .vn .ALARMH, .ev .LASTINF, .db .AR]
  | .wideValueWrite _ _ _ => .only [.acc, .safety, .slots, .ic, .power, .tw] [.vn .WAKECFG, .vn .WSTAT, .vn .ALARMH, .vn
    .ALARML, .vn .MONCFG, .vn .CH, .vn .THR, .vn .CAPCFG, .vn .WAKEEN, .vn .IEN, .vn .MONSTAT, .vn .CTRL]
  | .selectWrite _ _ _ => .only [.acc, .power] [.ln .SEL, .ds .SEL, .tm .SEL, .sp .SEL, .ev .SEL, .db .ASEL]
  | .laneEnable _ _ | .laneStop _ _ => .only [.acc, .merger, .safety, .router, .drawbar, .slots, .lanes, .phys, .cal,
    .coach, .ic, .power, .host, .tw] [.ln .ENABLE, .ca .STAT, .ca .LTEMP, .ca .RUN, .ln .STAT, .al .FSTAT, .ln .FAULTS,
    .rk .STAT, .cw .TFAULT, .cw .LDSTAT, .ds .EVENTS, .db .LSTAT]
  | .laneCommit _ | .laneRestart _ | .laneTestnow _ => .only [.acc, .safety, .lanes, .phys, .ic, .power, .tw] [.ln
    .STAT]
  | .scanCycleStart _ _ | .settleEnd _ => .only [.safety, .lanes, .ic, .tw] [.ln .STAT]
  | .conversionComplete _ _ _ _ => .only [.merger, .safety, .router, .drawbar, .slots, .lanes, .phys, .cal, .coach, .ic,
    .host, .tw] [.ln .ICNT, .ca .STAT, .ca .LTEMP, .ca .RUN, .al .FSTAT, .ln .STAT, .ln .FAULTS, .rk .STAT, .cw .TFAULT,
    .cw .LDSTAT, .ds .EVENTS, .db .LSTAT, .ln .LAST, .cw .TAPOVR]
  | .withheldWordRelease _ => .only [.merger, .safety, .lanes, .coach, .ic, .tw] [.ln .LAST, .cw .TAPOVR]
  | .laneSubstComplete _ => .only [.merger, .safety, .lanes, .ic, .tw] [.ln .STAT, .ca .RUN, .ln .FAULTS]
  | .laneTimerTick _ | .referenceTestStart _ => .only [.phys] []
  | .referenceTestDone _ _ _ => .only [.merger, .safety, .router, .drawbar, .slots, .lanes, .phys, .cal, .coach, .ic,
    .host, .tw] [.ln .ICNT, .ca .STAT, .ca .LTEMP, .ca .RUN, .al .FSTAT, .ln .STAT, .ln .FAULTS, .rk .STAT, .cw .TFAULT,
    .cw .LDSTAT, .ds .EVENTS, .db .LSTAT]
  | .laneRetest _ => .only [.acc, .phys, .power] []
  | .laneRetestDone _ _ _ => .only [.safety, .phys] []
  | .temperatureReading _ => .only [.safety, .cal, .ic, .tw] [.ca .TEMP, .ca .RUN]
  | .calRunRequest _ _ => .only [.acc, .power] [.ca .RUN]
  | .calLaneSelect => .only [.phys, .cal] [.ca .RUN]
  | .calRunStart => .only [.merger, .lanes, .cal] [.ca .RUN]
  | .calRunEnd _ _ _ => .only [.merger, .safety, .router, .drawbar, .slots, .lanes, .phys, .cal, .coach, .ic, .host,
    .tw] [.ca .STAT, .ca .LTEMP, .ca .RUN, .ln .STAT, .ln .FAULTS, .al .FSTAT, .rk .STAT, .cw .TFAULT, .cw .LDSTAT, .ds
    .EVENTS, .db .LSTAT, .ca .SETS]
  | .loanEnd _ => .only [.lanes, .phys] []
  | .staleWordDue _ => .only [.merger, .safety, .router, .lanes, .coach, .ic, .tw] [.ln .LAST, .cw .TAPOVR, .ln .STAT]
  | .holdResume _ => .only [.merger, .lanes] []
  | .calSetsWrite _ _ _ => .only [.acc, .safety, .ic, .power, .tw] [.ca .STAT, .ca .SETS]
  | .dacCodeWrite _ _ => .only [.acc, .cal, .power] [.ca .DACVAL]
  | .trimWrite _ _ _ => .only [.acc, .power] [.ca .TRIMREF, .ca .TRIMTS, .ca .TRIMVRC, .ca .TRIMDB, .ca .SETINIT]
  | .nop _ _ | .wait _ _ | .move _ _ | .scale _ _ | .fir _ _ | .biq _ _ | .cic _ _ | .rect _ _ | .env _ _ | .thr _ _ |
    .cnt _ _ | .peak _ _ | .lut _ _ | .recStep _ _ | .sq _ _ | .sqrt _ _ | .dly _ _ | .evt _ _ | .jmp _ _ | .clr _ _ =>
    .only [.mem, .merger, .safety, .router, .drawbar, .slots, .coach, .ic, .host, .tw] [.al .FSTAT, .cw .STAT, .rk .STAT,
    .cw .TFAULT, .cw .LDSTAT, .ds .EVENTS, .db .LSTAT, .cw .NSUBST, .cw .RETRY]
  | .invalidOperation _ | .couplingWordArrive _ _ => .only [.mem, .merger, .safety, .router, .drawbar, .slots, .coach,
    .ic, .host, .tw] [.al .FSTAT, .cw .STAT, .rk .STAT, .cw .TFAULT, .cw .LDSTAT, .ds .EVENTS, .db .LSTAT, .cw .NSUBST]
  | .emitAfterStall _ | .trainDrained _ | .carriageRetestDone _ _ => .only [.coach] []
  | .carriageSubstComplete _ => .parts [.mem, .merger, .safety, .router, .drawbar, .slots, .coach, .ic, .host, .tw]
  | .outletWordRelease _ _ => .parts [.merger, .safety, .router, .drawbar, .slots, .loop, .prRun, .homing, .coach, .ic,
    .tw]
  | .trainStart _ _ | .carriageRetest _ _ => .only [.acc, .coach, .power] []
  | .trainStartComplete _ => .parts [.mem, .merger, .safety, .router, .drawbar, .slots, .lanes, .phys, .cal, .coach,
    .ic, .host, .tw]
  | .trainStop _ _ => .only [.acc, .safety, .router, .drawbar, .slots, .coach, .ic, .power, .host, .tw] [.cw .LDSTAT,
    .db .LSTAT]
  | .drainCut _ => .only [.merger, .safety, .coach, .ic, .tw] [.rk .STAT]
  | .spareBistRound _ _ => .only [.safety, .coach, .ic, .tw] [.cw .STAT]
  | .consistVerify _ | .applyFullImage _ | .applyShuntImage _ _ | .applySlot _ _ | .consistAbort _ => .only [.acc, .mem,
    .merger, .safety, .router, .drawbar, .slots, .lanes, .phys, .cal, .coach, .ic, .power, .host, .tw] [.cw .LDSTAT, .db
    .LSTAT, .ln .ENABLE, .ca .STAT, .ca .LTEMP, .ca .RUN, .ln .STAT, .al .FSTAT, .ln .FAULTS, .rk .STAT, .cw .TFAULT, .ds
    .EVENTS]
  | .consistCheckDone => .only [.mem, .merger, .safety, .router, .drawbar, .slots, .lanes, .phys, .cal, .coach, .ic,
    .host, .tw] [.cw .LDSTAT, .db .LSTAT, .ln .ENABLE, .ca .STAT, .ca .LTEMP, .ca .RUN, .ln .STAT, .al .FSTAT, .ln
    .FAULTS, .rk .STAT, .cw .TFAULT, .ds .EVENTS]
  | .fullLoadTrainsStopped => .parts [.mem, .safety, .slots, .lanes, .coach, .ic, .tw]
  | .fullLoadWritten | .inPlaceShuntLoaded => .only [.merger, .safety, .router, .drawbar, .slots, .lanes, .phys, .cal,
    .coach, .ic, .host, .tw] [.rk .STAT, .cw .TFAULT, .cw .LDSTAT, .ds .EVENTS, .db .LSTAT, .cw .ACTSER, .cw .ACTID, .cw
    .ACTSRC, .ln .ENABLE, .ca .STAT, .ca .LTEMP, .ca .RUN, .ln .STAT, .al .FSTAT, .ln .FAULTS]
  | .inPlaceShuntStopped => .parts [.mem, .safety, .slots, .coach, .ic, .tw]
  | .handoverStagingLoaded => .only [.merger, .safety, .router, .drawbar, .slots, .coach, .ic, .host, .tw] [.rk .STAT,
    .cw .TFAULT, .cw .LDSTAT, .ds .EVENTS, .db .LSTAT]
  | .handoverOldStopped | .handoverTimeout => .only [.safety, .coach, .ic, .host, .tw] [.cw .LDSTAT]
  | .slotFwd _ | .slotRev _ | .slotOff _ | .slotSpeed _ _ | .slotClear _ => .only [.acc, .merger, .safety, .router,
    .timers, .drawbar, .slots, .prRun, .homing, .ic, .power, .tw] [.ds .STAT, .ds .EVENTS, .db .LSTAT, .tm .STAT, .tm
    .OUT, .tm .CMPA]
  | .slotPinch _ => .only [.merger, .safety, .router, .drawbar, .slots, .prRun, .homing, .ic, .tw] [.ds .STAT, .ds
    .EVENTS, .db .LSTAT]
  | .coastEnd _ | .recallTimeout => .only [.merger, .safety, .router, .drawbar, .slots, .prRun, .ic, .tw] [.ds .STAT,
    .ds .EVENTS, .db .LSTAT]
  | .reverseEnd _ => .only [.merger, .safety, .router, .drawbar, .slots, .prRun, .homing, .ic, .tw] [.db .LSTAT, .ds
    .STAT, .ds .EVENTS]
  | .reportTick _ => .only [.merger, .slots] []
  | .positionWrite _ _ => .only [.acc, .slots, .power] []
  | .coolantEnable _ _ => .only [.acc, .merger, .slots, .loop, .power] [.ds .CLCTL]
  | .coolantStep => .only [.merger, .safety, .router, .timers, .drawbar, .slots, .loop, .ic, .tw] [.ds .STAT, .tm .STAT,
    .tm .OUT, .tm .CMPA, .db .LSTAT]
  | .dryRestart _ => .only [.merger, .safety, .router, .timers, .drawbar, .slots, .loop, .ic, .tw] [.ds .STAT, .tm
    .STAT, .tm .OUT, .tm .CMPA, .db .LSTAT, .ds .EVENTS]
  | .serviceRequestTaken _ => .only [.merger, .safety, .router, .drawbar, .slots, .prRun, .homing, .ic, .tw] [.ds
    .FHCTL, .ds .STAT, .ds .EVENTS, .db .LSTAT, .ds .PRCTL]
  | .recallGo _ _ | .recallStop _ | .recallSave _ _ => .only [.acc, .merger, .safety, .router, .drawbar, .slots, .prRun,
    .ic, .power, .nvm, .tw] [.ds .PRCTL, .ds .PRSTAT, .ds .PRMEM, .ds .STAT, .ds .EVENTS, .db .LSTAT]
  | .homingGo _ | .homingStop _ => .only [.acc, .merger, .safety, .router, .drawbar, .slots, .homing, .ic, .power, .tw]
    [.ds .FHCTL, .ds .STAT, .ds .EVENTS, .db .LSTAT]
  | .homingTimeout _ | .autoHomingStart _ => .only [.merger, .safety, .router, .drawbar, .slots, .homing, .ic, .tw] [.ds
    .STAT, .ds .EVENTS, .db .LSTAT]
  | .recordArrive => .only [.merger, .safety, .ic, .tw] [.rk .STAT, .rk .LATE]
  | .overflowExit => .only [.mem, .merger, .safety, .router, .ic, .tw] [.rk .OVCNT, .rk .STAT, .rk .CnSTAT]
  | .cursorEnable _ _ _ => .only [.acc, .merger, .power, .host, .tw] [.rk .CnCTRL]
  | .cursorAck _ _ _ => .only [.acc, .merger, .safety, .ic, .power, .tw] [.rk .CnSTAT]
  | .swRecordCommit _ _ => .only [.acc, .merger, .safety, .ic, .power, .tw] [.rk .STAT]
  | .horizonWrite _ _ => .only [.acc, .power] [.rk .HORIZON]
  | .almanacWrite => .only [.mem, .safety] [.al .WIDX, .al .COUNT]
  | .almanacLogCommit _ _ => .only [.acc, .safety, .power] []
  | .watchdogEnable _ _ _ => .only [.acc, .safety, .ic, .power, .tw] [.al .WDCTL]
  | .watchdogKick _ _ _ => .parts [.acc, .safety, .ic, .power, .tw]
  | .watchdogExpire _ | .lockstepMismatch _ => .parts [.acc, .safety, .ic, .tw]
  | .xtalFail => .only [.safety, .ic, .tw] [.al .FSTAT, .pw .CLK]
  | .vrcFail _ => .only [.safety, .ic, .tw] [.al .FSTAT, .al .CLKSTAT]
  | .x32Fail => .only [.clk, .safety, .ic, .tw] [.al .FSTAT, .al .CLKSTAT]
  | .faultPinRelease => .only [.safety] []
  | .faultReady _ _ | .softwareFault _ _ => .only [.acc, .safety, .ic, .power, .tw] [.al .FCTL, .al .FSTAT]
  | .phyEnable _ _ _ | .phyDisable _ _ _ => .only [.acc, .drawbar, .power] [.db .PHYCFG]
  | .candidateFound _ _ _ _ | .headerDecoded _ _ _ => .only [.safety, .drawbar, .ic, .tw] [.db .PHYFLG, .db .CNT]
  | .syncFound _ _ _ _ _ => .only [.safety, .drawbar, .ic, .tw] [.db .PHYFLG, .db .CNT, .db .RXLEVEL]
  | .syncDeadline _ | .secondWatchDeadline _ => .only [.drawbar] [.db .CNT]
  | .receptionComplete _ _ _ _ => .only [.merger, .safety, .router, .drawbar, .ic, .tw] [.db .PHYFLG, .db .DRIFT, .db
    .ACNT, .db .LSTAT, .db .LOST, .db .ALARM, .db .AUID]
  | .capture _ _ | .secondWatchSync _ _ _ => .only [.merger, .safety, .router, .drawbar, .ic, .tw] [.db .CNT, .db
    .RXLEVEL, .db .ACNT, .db .LSTAT, .db .LOST]
  | .transmissionEnd _ | .blankEnd _ | .secondWatchCandidate _ _ _ => .only [.drawbar] []
  | .txOvercurrent _ => .only [.safety, .drawbar, .ic, .tw] [.db .PHYFLG]
  | .listenerDetect | .addressMatch | .twTakeover | .wakeLatchSet _ | .wakePinChange _ _ | .rtcAlarm => .only [.safety,
    .ic, .power, .tw] [.vn .WSTAT]
  | .exchangeStart _ => .only [.merger, .safety, .router, .drawbar, .ic, .tw] [.db .ACNT, .db .LSTAT, .db .LOST, .db
    .CNT]
  | .responseTimeout _ => .only [.merger, .safety, .router, .drawbar, .ic, .tw] [.db .ACNT, .db .LSTAT, .db .LOST]
  | .commandCommit _ _ _ => .only [.acc, .safety, .drawbar, .ic, .power, .tw] [.db .LSTAT]
  | .timetableRun _ _ _ | .timetableHalt _ _ _ => .only [.acc, .drawbar, .power] [.db .LCFG]
  | .enumGo _ _ _ | .enumStop _ _ _ => .only [.acc, .drawbar, .power] [.db .ENCTL]
  | .storedCommandTrigger _ _ => .only [.safety, .drawbar, .ic, .tw] [.ev .STAT, .db .LSTAT]
  | .auidWrite _ _ _ => .only [.acc, .drawbar, .power] [.db .AUID]
  | .frameSelect => .only [.safety, .ic, .power, .host, .tw] [.vn .WSTAT]
  | .statusPoll => .only [.host] []
  | .longCommandDone => .only [.safety, .ic, .host, .tw] [.hp .STAT, .hp .LONG]
  | .hostSwirq _ _ => .only [.acc, .safety, .ic, .power, .tw] [.hp .NSRC]
  | .hostPortConfig _ _ => .only [.acc, .power, .host, .tw] [.hp .CFG]
  | .twStatus _ | .twSyncRead _ | .stretchTimeout _ => .only [.safety, .ic, .tw] [.tw .STAT, .tw .RESULT]
  | .twHello _ => .only [.safety, .ic, .tw] [.tw .STAT, .tw .RESULT, .tw .NSRC]
  | .twPointer _ => .only [.safety, .ic, .tw] [.tw .STAT, .tw .RESULT, .tw .PTR]
  | .twReadReg _ => .parts [.safety, .timers, .ic, .tw]
  | .twReadBatch _ | .twBatchAgain _ => .only [.merger, .safety, .ic, .tw] [.tw .STAT, .tw .RESULT]
  | .twLoadConsistChunk _ => .only [.mem, .safety, .ic, .tw] [.tw .STAT, .tw .RESULT, .cw .STGLEN, .nv .DIRTY]
  | .twLoadConsistVerify _ | .twLoadConsistApply _ | .twShunt _ | .twStore _ _ => .only [.mem, .merger, .safety,
    .router, .drawbar, .slots, .lanes, .phys, .cal, .coach, .ic, .power, .nvm, .host, .tw] [.tw .STAT, .tw .RESULT, .nv
    .STAT, .nv .DIRTY, .cw .LDSTAT, .db .LSTAT, .ln .ENABLE, .ca .STAT, .ca .LTEMP, .ca .RUN, .ln .STAT, .al .FSTAT, .ln
    .FAULTS, .rk .STAT, .cw .TFAULT, .ds .EVENTS, .tw .LONG]
  | .twSync _ _ => .only [.safety, .ic, .tw] [.tw .STAT, .tw .RESULT, .tw .SYNCH, .tw .SYNCL]
  | .twAlmanacPtr _ | .twAlmanacRead _ => .only [.safety, .ic, .tw] [.tw .STAT, .tw .RESULT, .tw .APTR]
  | .twNotifyCfg _ => .only [.safety, .ic, .tw] [.tw .STAT, .tw .RESULT, .tw .NMASK]
  | .twLongDone => .only [.safety, .ic, .host, .tw] [.tw .STAT, .tw .LONG]
  | .busTimeout | .twUnknownCode _ => .only [.safety, .ic, .tw] [.tw .STAT]
  | .matcherRelease => .only [.safety, .ic, .power, .tw] [.tw .STAT, .vn .WSTAT]
  | .calmAddressWake | .lullExit | .calmWake => .only [.safety, .ic, .power, .tw] [.pw .WAKE]
  | .hostNotify _ => .only [.safety, .ic, .tw] [.tw .NOTIFYLOST, .tw .STAT]
  | .twSwirqSet _ _ => .only [.acc, .safety, .ic, .power, .tw] [.tw .NSRC]
  | .profileTrigger _ => .only [.safety, .sensor, .ic, .tw] [.ev .STAT, .ev .SPMISS]
  | .profileGo _ | .flashEraseSector _ _ | .flashEraseBlock _ _ | .flashEraseDevice _ | .flashProgramBuffer _ |
    .cacheInvalidate _ => .only [.acc, .sensor, .power] []
  | .sensorFrameStart | .pageBufferIdle => .only [.sensor] []
  | .sensorFrameEnd _ => .only [.acc, .mem, .merger, .safety, .router, .drawbar, .slots, .sensor, .ic, .tw] [.nv .DIRTY,
    .sp .PSTAT, .ds .EVENTS, .ds .STAT, .db .LSTAT, .sp .PCNT, .sp .FCCNT]
  | .windowRead _ _ _ | .readClearAccess _ _ _ => .parts [.acc, .safety, .timers, .sensor, .ic, .power, .tw]
  | .flashStatusPoll _ | .flashOperationTimeout => .only [.safety, .sensor, .ic, .tw] [.sp .FSTAT]
  | .modeFault _ => .only [.acc, .safety, .router, .sensor, .ic, .tw] [.sp .STAT, .sp .PSTAT, .sp .PCNT, .sp .FSTAT]
  | .eventDelivery => .parts [.merger, .safety, .router, .timers, .drawbar, .slots, .prRun, .homing, .lanes, .sensor,
    .ic, .tw]
  | .gateWrite _ _ => .only [.acc, .router, .power] [.ev .GATE]
  | .routeEntryWrite _ _ _ => .only [.acc, .safety, .ic, .power, .tw] [.ev .STAT, .ev .PUB, .ev .SUB]
  | .timerStart _ | .timerStop _ | .timerClear _ | .timerCapture _ => .only [.acc, .safety, .router, .timers, .drawbar,
    .ic, .power, .tw] [.tm .STAT, .tm .OUT, .tm .CAP, .db .LSTAT]
  | .timerGroupStart _ _ => .only [.acc, .safety, .router, .timers, .ic, .power, .tw] [.tm .STAT, .tm .OUT]
  | .timerCountEvent _ | .timerWrap _ | .compareFire _ => .only [.safety, .router, .timers, .drawbar, .ic, .tw] [.db
    .LSTAT, .tm .STAT, .tm .OUT]
  | .reloadWrite _ _ => .only [.acc, .safety, .router, .timers, .drawbar, .ic, .power, .tw] [.db .LSTAT, .tm .STAT, .tm
    .OUT, .tm .RELOAD]
  | .outputLevelWrite _ _ => .only [.acc, .power] [.tm .OUT]
  | .captureRead _ => .only [.acc, .timers] []
  | .interruptRoute | .coreRestart _ | .coreWfi _ | .fenceI _ => .only [.ic] []
  | .interruptClaim _ _ => .only [.acc, .ic] []
  | .interruptComplete _ _ _ => .only [.acc, .safety, .ic, .power, .tw] [.ic .STAT]
  | .softwareInterruptSet _ _ | .a1Start _ _ => .only [.acc, .ic, .power] []
  | .sourceConfigWrite _ _ _ => .only [.acc, .power] [.ic .SRC]
  | .coreAcceptWrite _ _ _ | .coreResetRequest _ _ _ => .parts [.acc, .ic, .power]
  | .coreFaultReset _ _ => .parts [.acc, .mem, .safety, .ic, .tw]
  | .coreWake _ => .only [.safety, .ic] []
  | .vaneWakeRequest _ _ | .vaneCalmRequest _ _ => .parts [.acc, .merger, .safety, .router, .drawbar, .slots, .lanes,
    .phys, .cal, .coach, .ic, .power, .host, .tw]
  | .handshakeCommit => .only [.mem, .merger, .safety, .router, .lanes, .coach, .ic, .power, .tw] [.ln .LAST, .cw
    .TAPOVR, .rk .STAT, .rk .LATE, .rk .OVCNT, .rk .CnSTAT, .al .WIDX, .al .COUNT]
  | .lullEntered => .only [.mem, .clk, .merger, .safety, .router, .drawbar, .slots, .lanes, .phys, .cal, .coach,
    .sensor, .ic, .power, .host, .tw] [.pw .STAT, .vn .CAPCNT, .vn .MONSTAT, .pw .WAKE, .ca .STAT, .ca .LTEMP, .ca .RUN,
    .ln .STAT, .al .FSTAT, .ln .FAULTS, .rk .STAT, .cw .TFAULT, .cw .LDSTAT, .ds .EVENTS, .db .LSTAT]
  | .pllLocked => .only [.clk, .power] []
  | .domainIdleOff _ => .only [.mem, .coach, .power] []
  | .retentionCheckDone _ _ _ => .parts [.mem, .merger, .safety, .router, .drawbar, .slots, .coach, .ic, .power, .nvm,
    .tw]
  | .padRelease _ _ => .only [.acc, .power] []
  | .clockSourceWrite _ _ => .only [.acc, .power] [.pw .CLK]
  | .monitorScan _ => .only [.mem, .safety, .ic, .power, .tw] [.vn .MONSTAT, .vn .WSTAT]
  | .vaneCaptureEdge _ _ => .only [.safety, .ic, .power, .tw] [.vn .CAPCNT, .vn .WSTAT]
  | .bootComplete => .parts [.mem, .merger, .safety, .router, .drawbar, .slots, .lanes, .phys, .cal, .coach, .ic, .nvm,
    .enclave, .host, .tw]
  | .nvmOpen _ _ | .nvmErase _ | .nvmProgram _ | .nvmCommit _ _ | .nvmClose _ _ => .only [.acc, .safety, .slots, .ic,
    .power, .nvm, .host, .tw] [.nv .STAT, .nv .DIRTY]
  | .nvmOperationDone _ => .only [.mem, .safety, .ic, .nvm, .host, .tw] [.nv .STAT]
  | .storePageWritten _ _ => .parts [.mem, .safety, .slots, .ic, .nvm, .host, .tw]
  | .hash _ _ _ | .verify _ _ _ | .cmac _ _ _ | .ctr _ _ _ | .random _ _ _ | .keyInstall _ _ _ | .keyRevoke _ _ _ |
    .keyInfo _ _ _ | .setmin _ _ _ | .winset _ _ _ | .advance _ _ _ | .decommission _ _ _ => .only [.acc, .safety, .ic,
    .power, .enclave, .tw] [.se .STAT]
  | .seclockSet _ _ => .only [.acc, .safety, .ic, .power, .tw] [.se .SECCTL]
  | .secdbgChallenge => .only [.enclave] []
  | .secdbgResponse _ _ => .only [.safety, .enclave] []
  | .entropyFail _ => .only [.safety, .ic, .enclave, .tw] [.al .FSTAT]
  | .crystalRunning => .only [.safety, .ic, .tw] [.pw .CLK]
  | .x32Start => .only [.clk, .safety, .ic, .tw] [.al .CLKSTAT]

end Sys2Proof.Machine
end

