-- ==== Sys2Proof/Claims.lean ====
section
/-! DEFINITION. The vocabulary of the statements: what an access reaches and returns, and what a command leaves alone. -/
namespace Sys2Proof.Machine

/-! ### Wide values and selects (R37, R38, R43) -/

/-- The low register of a wide value. -/
def wideReg : WideValue → Reg
  | .stamp => .pw .STAMPL
  | .members _ => .cw .TMEML
  | .accumulator _ => .cw .ACCL
  | .position => .ds .POSL
  | .captureStamp => .tm .CAPSTL
  | .oldest => .rk .OLDL
  | .uid => .nv .UIDL
  | .hostSync => .hp .SYNCL
  | .twSync => .tw .SYNCL
  | .alarm => .vn .ALARML
  | .lastEvent => .ev .LASTST
  | .packet _ => .db .AR

/-- A wide value as an accessor sees it: its low word, and each higher word with the accessor's unit that holds it. -/
def wideWords (a : Accessor) (s : State) : WideValue → Word × List (Reg × Nat × Word)
  | .stamp => (stLo s.now, [(.pw .STAMPH, accU a, at_ (stHi s.now) 0)])
  | .members n => (memberMask s.coach.trains[n] 0, [(.cw .TMEMH, accU a, memberMask s.coach.trains[n] 32)])
  | .accumulator p =>
    ((s.coach.cars[p]).acc.setWidth 32, [(.cw .ACCH, accU a, ((s.coach.cars[p]).acc >>> 32).setWidth 32)])
  | .position =>
    let x := s.slots[selSlot a s]
    (x.pos, [(.ds .POSH, accU a,
      at_ (b2n x.valid) 31 ||| at_ (b2n x.doubt) 30 ||| at_ (b2n x.dirty) 29 ||| at_ x.corr 0)])
  | .captureStamp =>
    let t := (s.timers[selTimer a s]).capStamp
    (stLo t, [(.tm .CAPSTH, accU a, at_ (stHi t) 0)])
  | .oldest => (stLo (oldestUnread s), [(.rk .OLDH, accU a, at_ (stHi (oldestUnread s)) 0)])
  | .uid => (s.nvm.factory.uid.setWidth 32, [(.nv .UIDH, accU a, (s.nvm.factory.uid >>> 32).setWidth 32)])
  | .hostSync => (s.reg (.hp .SYNCL), [(.hp .SYNCH, holdU a, s.reg (.hp .SYNCH))])
  | .twSync => (s.reg (.tw .SYNCL), [(.tw .SYNCH, holdU a, s.reg (.tw .SYNCH))])
  | .alarm => (s.reg (.vn .ALARML), [(.vn .ALARMH, holdU a, s.reg (.vn .ALARMH))])
  | .lastEvent =>
    let c := selChannel a s
    (s.reg (.ev .LASTST) c, [(.ev .LASTINF, 64 + accU a, s.reg (.ev .LASTINF) c)])
  | .packet b =>
    let ws := s.drawbar[b].acts[asel a b s].last
    (ws.getD 0 0, (List.range 9).map (fun j => (.db .AR, (b.val * 6 + accU a) * 16 + (j + 1), ws.getD (j + 1) 0)))

/-- The select register of a unit set. -/
def selectRegOf : SelectName → Reg
  | .lanes => .ln .SEL
  | .drives => .ds .SEL
  | .timers => .tm .SEL
  | .profiles => .sp .SEL
  | .channels => .ev .SEL
  | .actuators _ => .db .ASEL

/-- Where an accessor's own copy of a select register is kept. -/
def selectUnit (a : Accessor) : SelectName → Nat
  | .actuators b => b.val * 6 + accU a
  | _ => accU a

/-- The width of a select field, and the range of its unit set (R43). -/
def selectRange : SelectName → Nat × Nat × Nat
  | .lanes => (6, 0, 33)
  | .drives => (5, 0, 31)
  | .timers => (4, 0, 15)
  | .profiles => (4, 0, 15)
  | .channels => (6, 0, 63)
  | .actuators _ => (5, 1, 31)

/-- The counters that a read clears, with the unit that a reading accessor reaches (R7, R37). -/
def counterUnit (a : Accessor) (x : RegRef) (s : State) : Option Nat :=
  match x.reg with
  | .ln .ICNT => if selOf (.ln .SEL) a s ≤ 15 then some (selLane a s).val else none
  | .cw .RETRY => some 0
  | .ds .RIPSTAT => some (selSlot a s).val
  | .rk .LATE => some 0
  | .db .CNT => if x.i < 4 then some (x.bus.val * 4 + x.i) else none
  | .db .ACNT => some (actU x.bus (asel a x.bus s).val)
  | .hp .FRAMES => some 0
  | .tw .NOTIFYLOST => some 0
  | .sp .FCCNT => some 0
  | .sp .PCNT => some (selProfile a s).val
  | .ev .CCNT => some (selChannel a s).val
  | _ => none

/-! ### Carriages (R120 to R137, R610 to R613) -/

/-- The present instruction of position `p`. -/
def present (s : State) (p : Fin 68) : Micro := entryAt s.coach.cars[p] (s.coach.cars[p]).pc

/-- Position `p` runs (R139, R150), nothing of it is stalled (R124), and its present instruction is `op`. -/
def AtOp (op : Nat) (p : Fin 68) (s : State) : Prop :=
  carRuns s p = true ∧ (s.coach.cars[p]).stalled = none ∧ (present s p).op = op

/-- Moreover COND holds, and the store words that it reads have their parity (R123, R147). -/
def Executes (op : Nat) (p : Fin 68) (s : State) : Prop :=
  AtOp op p s ∧ condTrue s.coach.cars[p] (present s p) = true ∧ readsBad s p (present s p) = false

/-- A number saturated to 32 bits (R121). -/
def clamp32 (x : Int) : Int := max (-2147483648) (min 2147483647 x)

/-- A number shifted right by SH, rounded half up and saturated (R121, R612). -/
def shifted (x : Int) (sh : Nat) : Int := clamp32 ((2 * x + 2 ^ sh) / (2 * 2 ^ sh))

/-- A number saturated to the 64 bits of ACC (R121). -/
def clamp64 (x : Int) : Int := max (-9223372036854775808) (min 9223372036854775807 x)

/-- ACC after products are added one by one, each sum saturated (R121). -/
def accSum (start : Int) (ps : List Int) : Int := ps.foldl (fun a x => clamp64 (a + x)) (clamp64 start)

/-- Result `v` has gone where DST names (R122, R124, R134); `x` and `acc` are X and ACC apart from DST. An output port's words
are on their way to every destination of the port when each has room, and the carriage stalls with the word otherwise. -/
def Delivers (p : Fin 68) (v : Int) (x : Word) (acc : BitVec 64) (s t : State) : Prop :=
  let d := (present s p).dst
  let w := BitVec.ofInt 32 v
  let fs := emission s p d w
  let c := t.coach.cars[p]
  c.x = (if d = 2 then w else x) ∧ c.acc = (if d = 3 then BitVec.ofInt 64 (clamp64 v) else acc) ∧
  (if d = 0 ∨ d = 1 ∨ d = 4 then
    (roomFor s fs = true → t.coach.flights = s.coach.flights ++ fs ∧ c.stalled = none) ∧
    (roomFor s fs = false → t.coach.flights = s.coach.flights ∧ c.stalled = some { dst := d, value := w })
   else t.coach.flights = s.coach.flights ∧ c.stalled = none)

/-- The next entry is `n`, and nothing outside position `p` and the words on their way has changed, except store bytes of
the position at the words of `ws`. -/
def CarFrame (p : Fin 68) (ws : List Nat) (n : Fin 64) (s t : State) : Prop :=
  let c := t.coach.cars[p]
  let b := s.coach.cars[p]
  c.pc = n ∧ c.prog = b.prog ∧ c.cond = b.cond ∧ c.logical = b.logical ∧ c.train = b.train ∧ c.cause = b.cause ∧
  RegsBut [] s t ∧ PartsBut [.coach, .mem] s t ∧
  (∀ a, (∀ i ∈ ws, a < carAddr p i ∨ carAddr p i + 4 ≤ a) → t.readByte a = s.readByte a) ∧
  (∀ q : Fin 68, q ≠ p → t.coach.cars[q] = s.coach.cars[q]) ∧ t.coach.trains = s.coach.trains ∧
  t.coach.taps = s.coach.taps ∧ t.coach.serve = s.coach.serve ∧ t.coach.routes = s.coach.routes ∧
  t.coach.loader = s.coach.loader

/-- The operations of the carriages (R125). -/
def carOps : List (Nat × (Fin 68 → CarCheck → Instr)) :=
  [(0x00, .nop), (0x01, .wait), (0x02, .move), (0x03, .scale), (0x04, .fir), (0x05, .biq), (0x06, .cic), (0x07, .rect),
   (0x08, .env), (0x09, .thr), (0x0A, .cnt), (0x0B, .peak), (0x0C, .lut), (0x0D, .recStep), (0x0E, .sq), (0x0F, .sqrt),
   (0x10, .dly), (0x11, .evt), (0x12, .jmp), (0x13, .clr)]

/-! ### Drive slots (R195 to R223) -/

/-- A command of a drive slot reaches slot `d`: by a register write of its selector, by a task input (FWD, REV and OFF only;
parked slots start nothing), or by the service that owns the slot (R201, R204, R442, R499). -/
def SlotReached (code value : Nat) (d : Fin 32) (s : State) : SlotVia → Prop
  | .register a => WriteReaches a (.ds .CMD) (at_ code 28 ||| at_ value 0) s ∧ selSlot a s = d
  | .task e => e = d ∧ code ≤ 3 ∧ (code = 3 ∨ s.power.parked[4] = false)
  | .service n e => e = d ∧ (s.slots[d]).owner = n.val + 1

/-- The service, if any, that owns the slot is the sender (R204). -/
def SlotAllowed (d : Fin 32) (s : State) : SlotVia → Prop
  | .service _ _ => True
  | _ => (s.slots[d]).owner = 0

/-- Source code in EVENT DATA (R223). -/
def viaCode : SlotVia → Nat
  | .register _ => 0
  | .task _ => 1
  | .service _ _ => 2

/-- No cause has acted on the slot at this edge (R203). -/
def Unranked (d : Fin 32) (s : State) : Prop := (s.slots[d]).actEdge ≠ s.clk.edge ∨ (s.slots[d]).actRank = 0

/-- Output `o` of slot `d` is published at this edge, and on path 2 its drive command is queued; a slot that is not enabled
publishes nothing (R195, R198, R199). -/
def SlotPublishes (d : Fin 32) (o : Nat) (s t : State) : Prop :=
  if slotOn s d = true then
    (∃ q : Publication, t.router.inflight = s.router.inflight ++ [q] ∧ q.producer = 3 ∧ q.inst = d.val ∧ q.output = o ∧
      q.edge = s.clk.edge) ∧
    t.drawbar = (if s.rfld (.ds .ACT) d.val 31 30 = 2
      then (slotCommit (ix 2 (s.rfld (.ds .ACT) d.val 29 29)) (ix 32 (s.rfld (.ds .ACT) d.val 28 24)) (o + 1) 0 s).drawbar
      else s.drawbar)
  else t.router = s.router ∧ t.drawbar = s.drawbar

/-- An EVENT record of slot `d` with this code and DATA has reached the merger, if the slot is enabled (R223). -/
def SlotEvents (d : Fin 32) (code data : Nat) (s t : State) : Prop :=
  slotOn s d = true → ∃ r ∈ t.merger.arriving, r.typ = tEvent ∧ r.source = 0x40 + d.val ∧
    fld (r.body.getD 0 0) 31 27 = d.val ∧ fld (r.body.getD 0 0) 26 20 = code ∧ fld (r.body.getD 0 0) 15 0 = data

/-- No other slot, no memory, no lane and nothing of Coachwork has changed. -/
def SlotFrame (d : Fin 32) (s t : State) : Prop :=
  (∀ e : Fin 32, e ≠ d → t.slots[e] = s.slots[e]) ∧ t.mem = s.mem ∧ t.lanes = s.lanes ∧ t.phys = s.phys ∧ t.coach = s.coach

/-- A command has been rejected: CMDREJ is set and nothing else has changed but the accessor's answer (R201). -/
def SlotRejects (d : Fin 32) (s t : State) : Prop :=
  t.rbit (.ds .STAT) d.val 5 = true ∧ t.slots = s.slots ∧ RegsBut [(.ds .STAT, d.val)] s t ∧
  PartsBut [.acc, .safety, .ic, .tw] s t

/-! ### Records, the almanac and FAULT_N (R234 to R276) -/

/-- The words of a record as it would be written now (R234). -/
def recWords (r : Rec) (seq : Nat) : List Word :=
  header r.typ (r.body.length + 2) r.source seq :: stLo r.stamp :: r.body

/-- These words have been written into the ring at the head, which has moved behind them, and no other byte of memory has
changed. -/
def Queues (ws : List Word) (s t : State) : Prop :=
  t.merger.head = (s.merger.head + ws.length) % queueWords ∧
  (∀ i < ws.length, queueWord t (s.merger.head + i) = ws.getD i 0) ∧
  ∀ x, (∀ i < ws.length, x < queueBase + 4 * ((s.merger.head + i) % queueWords) ∨
    queueBase + 4 * ((s.merger.head + i) % queueWords) + 4 ≤ x) → t.readByte x = s.readByte x

/-- The merger may write, and no record of a reset, a handover or a barrier comes first. -/
def MergerFree (s : State) : Prop :=
  mergerWrites s = true ∧ s.merger.restartDue = false ∧ s.merger.epochDue = none ∧ s.merger.barrier = none ∧
  s.merger.arriving = [] ∧ s.merger.overflow = none ∧ s.merger.head < queueWords

/-- One almanac entry, stamped at this edge, waits to be written behind those that waited before (R268). -/
def Logs (code cls source data : Nat) (s t : State) : Prop :=
  t.safety.pending = s.safety.pending ++ [{ stamp := s.now, code := code, cls := cls, source := source, data := data }]

/-- A fault flag is set, and FAULT_N is low if the flag drives it (R275, R276). -/
def Raises (b : Nat) (s t : State) : Prop :=
  t.rbit (.al .FSTAT) 0 b = true ∧ (s.rbit (.al .FMASK) 0 b = true → t.safety.pinLow = true)

/-! ### Drawbar links (R278 to R349) -/

/-- Nothing beyond bus `b`'s own record has changed in the drawbar links. -/
def OtherBus (b : Fin 2) (s t : State) : Prop := ∀ c : Fin 2, c ≠ b → t.drawbar[c] = s.drawbar[c]

/-- The main path of bus `b` listens, with the CHAN, AMP and LOOP last written, and no candidate is held (R312). -/
def Listens (b : Fin 2) (t : State) : Prop :=
  let p := t.drawbar[b].phy
  p.state = .listen ∧ p.watch = none ∧ p.head = none ∧ p.cfg = t.reg (.db .PHYCFG) b.val

/-- A 16-bit counter in bits [31:16] or [15:0] of a register has counted one more, up to 0xFFFF. -/
def Counted (r : Reg) (u hi lo : Nat) (s t : State) : Prop := t.rfld r u hi lo = min 65535 (s.rfld r u hi lo + 1)

/-- A packet with these header fields goes out on bus `b` as the first try of, or a retry in, an exchange (R282 to R291, R315,
R318, R344). -/
def Sends (b : Fin 2) (addr typ : Nat) (payload : List Byte) (answered : Bool) (s t : State) : Prop :=
  ∃ x : Exchange, (t.drawbar[b]).exch = some x ∧ x.addr = addr ∧ x.ptype = typ ∧ x.answered = answered ∧ x.te = none ∧
    (t.drawbar[b]).slot = none ∧ (t.drawbar[b]).phy.driving = true ∧
    (looped (s.drawbar[b]).phy = false → (t.drawbar[b]).phy.state = .transmit) ∧
    (let h := packHeader addr typ payload.length x.seq x.ver x.tag
     let key := (drawbarKey s (acfg s b addr 20 16)).getD []
     let tag := if x.tag then drawbarTag key 0 (s.drawbar[b].acts[ix 32 addr]).nonce.toNat x.fc h payload else []
     (t.drawbar[b]).phy.tones = frameTones h (payload ++ crc16Bytes (wordBytes h ++ payload) ++ tag)) ∧
    (recOf s b addr = 2 ∨ typ = 4 ∨ typ = 5 → ∃ r ∈ t.merger.arriving, r.typ = tLinkMsg ∧ r.source = 0x60 + b.val ∧
      r.stamp = s.now ∧ (r.body.getD 0 0).getLsbD 31 = true)

/-- A slot waits on bus `b` and an exchange may start at this edge (R326, R328). -/
def MayStart (b : Fin 2) (w : DbWork) (s : State) : Prop :=
  (s.drawbar[b]).slot = some w ∧ (s.drawbar[b]).exch = none ∧ (s.drawbar[b]).phy.state ≠ .off ∧
  (∀ t, (s.drawbar[b]).exchEnd = some t → 9600 ≤ (s.now - t).toNat) ∧ (s.power.parked)[6 + b.val]! = false ∧
  s.clk.edge % 3 = 0

/-- A LINK_LOST of bus `b` has reached the merger (R239, R333). -/
def LinkLost (b : Fin 2) (addr cause tries : Nat) (t : State) : Prop :=
  ∃ r ∈ t.merger.arriving, r.typ = tLinkLost ∧ r.source = 0x60 + b.val ∧ fld (r.body.getD 0 0) 31 27 = addr ∧
    fld (r.body.getD 0 0) 19 16 = cause ∧ fld (r.body.getD 0 0) 15 14 = tries

/-! ### Host port (R350 to R387) -/

/-- The port takes direct-mode frames, a version is agreed, and no session is open (R350, R354, R361). -/
def DirectPort (s : State) : Prop :=
  hostOn s = true ∧ chained s = false ∧ recovery s = false ∧ s.host.session = none ∧ 1 ≤ s.rfld (.hp .VER) 0 7 0

/-- A direct-mode command frame with its check words right: ARG0, ARG1 and the words of its body (R354, R355). -/
def FrameOf (op a0 a1 : Nat) (body : List Word) (f : HostFrame) : Prop :=
  a0 < 2 ^ 24 ∧ a1 < 2 ^ 16 ∧ ∃ tr : Word,
    f = .direct (BitVec.ofNat 24 a0)
      (at_ (crc16 (wordBe (at_ op 24 ||| at_ a0 0) ++ [BitVec.ofNat 8 (a1 / 256), BitVec.ofNat 8 a1])).toNat 16 ||| at_ a1 0)
      (body ++ [tr]) 0 ∧ fld tr 15 0 = crcWords body

/-- A command frame has ended with this result (R353, R358, R360): HP_RESULT, the counters and HP_STAT show it, and HSDO
carried word 0, the header echo, the response words and the trailer with `shown`. -/
def FrameEnds (op a0 r shown : Nat) (resp : List Word) (s t : State) : Prop :=
  t.rfld (.hp .RESULT) 0 15 8 = op ∧ t.rfld (.hp .RESULT) 0 7 0 = r ∧ t.host.selected = false ∧
  (r = 0 ∨ r = 8 → Counted (.hp .FRAMES) 0 31 16 s t) ∧ (r ≠ 0 → s.reg (.hp .STAT) ||| BitVec.ofNat 32 (hostFlag r) = t.reg (.hp .STAT)) ∧
  t.host.out = [(frameWord0 s).setWidth 32, at_ op 24 ||| at_ a0 0] ++ resp ++ [at_ shown 24 ||| at_ (crcWords resp) 0]

/-- The registers in which a frame shows its end. -/
def frameRegs : List (Reg × Nat) := [(.hp .RESULT, 0), (.hp .FRAMES, 0), (.hp .STAT, 0)]

/-- The parts of the hub that the end of a frame may touch. -/
def frameParts : List Part := [.host, .safety, .ic, .tw]

/-! ### Two-wire port (R388 to R411) -/

/-- A transaction has ended with this result (R396, R411). -/
def TwEnds (code r : Nat) (s t : State) : Prop :=
  t.rfld (.tw .RESULT) 0 15 8 = code ∧ t.rfld (.tw .RESULT) 0 7 0 = r ∧ t.tw.busy = false ∧
  (r ≠ 0 → t.reg (.tw .STAT) = s.reg (.tw .STAT) ||| BitVec.ofNat 32 (twFlag r))

/-- A read transaction of command `code` returned `data`, with its PEC if the controller took it (R395, R397). -/
def TwReturns (code : Nat) (k : TwTake) (counted : Bool) (data : List Byte) (s t : State) : Prop :=
  let sent := (if counted then [BitVec.ofNat 8 data.length] else []) ++ data
  let addr (rw : Nat) : Byte := BitVec.ofNat 8 (s.rfld (.tw .ADDR) 0 6 0 * 2 + rw)
  t.tw.out = sent ++ (if k.pec then [crc8 ([addr 0, BitVec.ofNat 8 code, addr 1] ++ sent)] else [])

/-- The registers in which a transaction shows its end. -/
def twRegs : List (Reg × Nat) := [(.tw .RESULT, 0), (.tw .STAT, 0)]

/-- The parts of the hub that the end of a transaction may touch. -/
def twParts : List Part := [.tw, .safety, .ic]

end Sys2Proof.Machine
end

