-- ==== Sys2Proof/Certificates/Slice0/Obligations.lean ====
section
/-! DEFINITION. The statements about the hub, for the provers. -/
open Sys2Proof Sys2Proof.Machine

/-- A step takes the command at the front of the queue and runs it on the state with the queue's rest. -/
def Obligations.StepRunsFrontCommand : Prop :=
  ∀ (c : Instr) (rest : List Instr) (s : State), s.pending = c :: rest → step s = exec c { s with pending := rest }

/-- With no command waiting time passes; log entry 7 says which edge (the model's choice). Without X32 edges the stamp stands
still while BUSCLK is stopped (R17). -/
def Obligations.EmptyQueueTicks : Prop :=
  ∀ s : State, s.pending = [] →
    (s.power.hub = .off → step s = .next s) ∧
    (s.power.hub ≠ .off → s.clk.busOn = false → s.clk.x32On = false → step s = .next s) ∧
    (s.power.hub ≠ .off → s.clk.busOn = false → s.clk.x32On = true →
      ∃ t, step s = .next t ∧ t.clk = vaneCount s.clk ∧ t.pending = []) ∧
    ∃ t, step s = .next t ∧ t.pending = []

/-- R21: each X32 edge adds 2,929 or 2,930 by the accumulator, and sixteen edges add 46,875. -/
def Obligations.SixteenX32Edges : Prop :=
  ∀ c : Clock, c.acc < 16 →
    (vaneCount c).vane = stAdd c.vane (if 16 ≤ c.acc + 11 then 2930 else 2929) ∧
    (vaneCount c).acc = (c.acc + 11) % 16 ∧
    (Nat.repeat vaneCount 16 c).vane = stAdd c.vane 46875 ∧ (Nat.repeat vaneCount 16 c).acc = c.acc ∧
    (Nat.repeat vaneCount 16 c).source = c.source ∧ (Nat.repeat vaneCount 16 c).bus = c.bus

/-- The invariant holds right after reset. -/
def Obligations.ResetIsSound : Prop := Sound State.reset ∧ State.reset.pending = []

/-- Every step answers a next state and keeps the invariant: canonical memory and registers, and the Vane counter is the
stamp source whenever BUSCLK is stopped (R19). -/
def Obligations.StepKeepsSound : Prop := ∀ s : State, Sound s → ∃ t, step s = .next t ∧ Sound t

/-- The frame of every command: it changes only what its footprint names, never the queue. -/
def Obligations.CommandFootprint : Prop :=
  ∀ (c : Instr) (s : State), ∃ t, exec c s = .next t ∧ Within (footprint c).hasPart (footprint c).hasReg s t

/-- R38: a read of the low word takes a snapshot of every word of the value into the accessor's holding register.
R38, R208: the low-word write commits all words of a writable wide value; a position write sets VALID and clears DOUBT
and CORR.
Where the rules leave it open, a clause follows the model's choice (log entry 26). -/
def Obligations.WideValueAccesses : Prop :=
  (∀ (a : Accessor) (w : WideValue) (s : State), RegFile.wf s.regs → ReadReaches a (wideReg w) s →
     ∃ t, exec (.wideValueRead a w) s = .next t ∧
       lastAnswer a t = .data (wideWords a s w).1 ∧
       (∀ e ∈ (wideWords a s w).2, t.reg e.1 e.2.1 = e.2.2) ∧
       ∀ b, b ≠ a → ∀ e ∈ (wideWords b s w).2, t.reg e.1 e.2.1 = s.reg e.1 e.2.1) ∧
  ((∀ (a : Accessor) (v : Word) (s : State), WriteReaches a (.ds .POSL) v s →
     ∃ t, exec (.wideValueWrite a .position v) s = .next t ∧ exec (.positionWrite a v) s = .next t ∧
       lastAnswer a t = .done ∧
       (let d := selSlot a s
        t.slots[d].pos = v ∧ t.slots[d].valid = true ∧ t.slots[d].doubt = false ∧ t.slots[d].corr = 0 ∧
        t.slots[d].dirty = (s.slots[d].dirty || s.rbit (.ds .CFG) d.val 27) ∧
        ∀ e : Fin 32, e ≠ d → t.slots[e] = s.slots[e]) ∧
       RegsBut [] s t ∧ PartsBut [.acc, .slots] s t) ∧
   (∀ (a : Accessor) (v : Word) (s : State), RegFile.wf s.regs → WriteReaches a (.vn .ALARML) v s →
     ∃ t, exec (.wideValueWrite a .alarm v) s = .next t ∧ lastAnswer a t = .done ∧
       t.reg (.vn .ALARML) 0 = v ∧ t.reg (.vn .ALARMH) 0 = s.reg (.vn .ALARMH) (holdU a) ∧
       t.slots = s.slots ∧ t.mem = s.mem))

/-- R43 (and R37 for the other accessors' copies). -/
def Obligations.SelectWrites : Prop :=
  ∀ (a : Accessor) (q : SelectName) (v : Word) (s : State), RegFile.wf s.regs → WriteReaches a (selectRegOf q) v s →
    ∃ t, exec (.selectWrite a q v) s = .next t ∧ lastAnswer a t = .done ∧
      (let (n, lo, hi) := selectRange q
       let f := v.toNat % 2 ^ n
       t.reg (selectRegOf q) (selectUnit a q) =
         if lo ≤ f ∧ f ≤ hi then BitVec.ofNat 32 f else s.reg (selectRegOf q) (selectUnit a q)) ∧
      RegsBut [(selectRegOf q, selectUnit a q)] s t ∧ PartsBut [.acc] s t

/-- R34 to R36 and R40: what a register write does.
R35: a stalled access completes normally once the domain is ready.
Where the rules leave it open, a clause follows the model's choice (log entries 28 and 42). -/
def Obligations.RegisterWritesAndStalls : Prop :=
  (∀ (a : Accessor) (addr v : Word) (s : State), NothingWaits s →
     regionOf addr.toNat 4 = .registers → addr.toNat % 4 = 0 → sees a .registers s = true →
     (∀ x rep, regAt addr.toNat = some (some x, rep) → WriteReaches a x.reg v s →
       exec (.registerWrite a addr 4 v) s = .next (performWaiting ((writeReg a x v s).answer a .done))) ∧
     (∀ rep, regAt addr.toNat = some (none, rep) → WriteReaches a rep v s →
       exec (.registerWrite a addr 4 v) s = .next (s.answer a .done)) ∧
     (∀ x rep, regAt addr.toNat = some (some x, rep) → gate a x.reg true s = .busError →
       exec (.registerWrite a addr 4 v) s = .next (s.answer a .busError)) ∧
     (∀ x rep, regAt addr.toNat = some (some x, rep) → gate a x.reg true s = .stall →
       exec (.registerWrite a addr 4 v) s = .next (s.stall a { addr := addr.toNat, size := 4, write := some v })) ∧
     (∀ size, size = 1 ∨ size = 2 → exec (.registerWrite a addr size v) s = .next (s.answer a .busError))) ∧
  ((∀ (a : Accessor) (s : State), (s.acc[accIx a]).stalled = none → exec (.stalledAccessComplete a) s = .next s) ∧
   (∀ (a : Accessor) (addr : Nat) (v : Word) (x : RegRef) (rep : Reg) (s : State),
     (s.acc[accIx a]).stalled = some { addr := addr, size := 4, write := some v } →
     regionOf addr 4 = .registers → addr % 4 = 0 → sees a .registers s = true → regAt addr = some (some x, rep) →
     WriteReaches a x.reg v s →
     ∃ u, PartsBut [.acc] s u ∧ RegsBut [] s u ∧ (u.acc[accIx a]).stalled = none ∧
       exec (.stalledAccessComplete a) s = .next ((writeReg a x v u).answer a .done)))

/-- R7 and R10: a read of an RC field returns it and clears it; the debug port clears nothing. -/
def Obligations.ReadClearAccesses : Prop :=
  ∀ (a : Accessor) (addr : Word) (x : RegRef) (rep : Reg) (u : Nat) (s : State), RegFile.wf s.regs →
    regionOf addr.toNat 4 = .registers → addr.toNat % 4 = 0 → sees a .registers s = true →
    regAt addr.toNat = some (some x, rep) → counterUnit a x s = some u → ReadReaches a x.reg s →
    ∃ t, exec (.readClearAccess a addr 4) s = .next t ∧ lastAnswer a t = .data (s.reg x.reg u) ∧
      t.reg x.reg u = (if a = .debug then s.reg x.reg u else s.reg x.reg u &&& ~~~(BitVec.ofNat 32 x.reg.info.rc)) ∧
      RegsBut [(x.reg, u)] s t ∧ PartsBut [.acc] s t

/-- R23 step 4 and R27.
R246: the epoch barrier and its EPOCH record.
Where the rules leave it open, a clause follows the model's choice (log entries 4 and 27). -/
def Obligations.StampHandoverAndEpoch : Prop :=
  ((∀ s : State, s.clk.source = .vane → s.clk.busOn = true → s.clk.handoverDue = true →
     ∃ u, exec .stampHandover s = .next (performWaiting u) ∧
       u.clk = { s.clk with bus := s.clk.vane, source := .bus, handoverDue := false } ∧ u.now = s.now ∧
       (s.merger.restartDue = false → stHi s.now ≠ s.merger.highDone → s.power.parked[1] = false →
         u.merger.epochDue = some s.now)) ∧
   (∀ s : State, s.clk.source = .bus ∨ s.clk.handoverDue = false → exec .stampHandover s = .next (performWaiting s)) ∧
   ∀ s : State, NothingWaits s → performWaiting s = s) ∧
  ((∀ s : State, s.clk.source = .bus → s.merger.barrier = none → s.merger.restartDue = false →
     s.merger.epochDue = none → stHi s.now ≠ s.merger.highDone →
     exec .stampHighChange s = .next { s with merger := { s.merger with
       barrier := some (BitVec.ofNat 48 (stHi s.now * 2 ^ 32)) } }) ∧
   (∀ (b : Stamp) (s : State), Memory.wf s.mem → s.merger.barrier = some b → mergerWrites s = true →
     frontsPast s b = true → s.merger.arriving = [] → s.merger.held = [] → s.merger.restartDue = false →
     s.merger.epochDue = none → s.merger.overflow = none → 3 ≤ queueFree s → s.merger.head < queueWords →
     ∃ t, exec .epochWrite s = .next t ∧ t.merger.barrier = none ∧ t.merger.highDone = stHi b ∧
       t.merger.epochHigh = stHi b ∧ t.merger.head = (s.merger.head + 3) % queueWords ∧
       queueWord t s.merger.head = header tEpoch 3 srcRecords (seqOf s srcRecords) ∧
       queueWord t (s.merger.head + 1) = stLo b ∧ queueWord t (s.merger.head + 2) = at_ (stHi b) 0 ∧
       ∀ x, (∀ i < 3, x < queueBase + 4 * ((s.merger.head + i) % queueWords) ∨
           queueBase + 4 * ((s.merger.head + i) % queueWords) + 4 ≤ x) → t.readByte x = s.readByte x))

/-- R71: setting a bit of LN_ENABLE starts the lane's first scan cycle at the accepting edge.
R71: writing 0 stops the lane at that edge; the partial sample word is discarded.
Where the rules leave it open, a clause follows the model's choice (log entries 22 and 57). -/
def Obligations.LanesStartAndStop : Prop :=
  (∀ (a : Accessor) (mask : BitVec 16) (s : State), RegFile.wf s.regs →
     WriteReaches a (.ln .ENABLE) (s.reg (.ln .ENABLE) ||| mask.setWidth 32) s → s.cal.phase = .idle →
     (∀ k : Fin 16, mask.getLsbD k.val = true → laneOn s k = false →
       (s.lanes[k]).parked = false ∧ (s.lanes[k]).phase = .off ∧ (s.lanes[k]).commit = false ∧
         (s.phys[(s.lanes[k]).serving]).cond = .inService k) →
     ∃ t, exec (.laneEnable a mask) s = .next t ∧ lastAnswer a t = .done ∧
       t.reg (.ln .ENABLE) = (s.reg (.ln .ENABLE) ||| mask.setWidth 32) &&& 0xFFFF ∧ t.phys = s.phys ∧
       ∀ k : Fin 16,
         let l := t.lanes[k]
         if mask.getLsbD k.val = true ∧ laneOn s k = false then
           l.phase = .settling ∧ l.entry = 0 ∧ l.visitAt = s.now ∧ l.streamStart = s.now ∧ l.schedE = s.now ∧
           l.lastStamp = none ∧ l.withheld = [] ∧ l.sum = 0 ∧ l.count = 0 ∧ l.vpar = false ∧
           l.wordsLeft = scCount (s.lanes[k]).list.entries[0] ∧ l.list = (s.lanes[k]).list ∧ l.serving = (s.lanes[k]).serving
         else l = s.lanes[k]) ∧
  (∀ (a : Accessor) (mask : BitVec 16) (s : State), RegFile.wf s.regs →
     WriteReaches a (.ln .ENABLE) (s.reg (.ln .ENABLE) &&& ~~~(mask.setWidth 32)) s →
     ∃ t, exec (.laneStop a mask) s = .next t ∧ lastAnswer a t = .done ∧
       t.reg (.ln .ENABLE) = (s.reg (.ln .ENABLE) &&& ~~~(mask.setWidth 32)) &&& 0xFFFF ∧ t.mem = s.mem ∧
       ∀ k : Fin 16,
         let l := t.lanes[k]
         if mask.getLsbD k.val = true ∧ laneOn s k = true then
           (l.phase = .off ∨ (l.phase = (s.lanes[k]).phase ∧ (l.phase = .connecting ∨ l.phase = .stopped))) ∧
           l.withheld = [] ∧ l.sum = 0 ∧ l.count = 0 ∧ l.open_ = none ∧ l.cal = .none ∧ l.heldStart = false
         else l = s.lanes[k])

/-- R70, R72, R87 and LN_CMD. -/
def Obligations.LaneCommands : Prop :=
  (∀ (a : Accessor) (s : State), WriteReaches a (.ln .CMD) 1 s → selOf (.ln .SEL) a s ≤ 15 →
    ∃ t, exec (.laneCommit a) s = .next t ∧ lastAnswer a t = .done ∧
      t.lanes = upd s.lanes (selLane a s) (fun l => { l with commit := true }) ∧ RegsBut [] s t ∧
      PartsBut [.acc, .lanes] s t) ∧
  (∀ (a : Accessor) (s : State), WriteReaches a (.ln .CMD) 4 s → selOf (.ln .SEL) a s ≤ 15 →
    ∃ t, exec (.laneTestnow a) s = .next t ∧ lastAnswer a t = .done ∧
      t.phys = upd s.phys (s.lanes[selLane a s]).serving (fun x => { x with testDue := true }) ∧ RegsBut [] s t ∧
      PartsBut [.acc, .phys] s t) ∧
  (∀ (a : Accessor) (s : State), WriteReaches a (.ln .CMD) 2 s → selOf (.ln .SEL) a s ≤ 15 →
    let k := selLane a s
    (s.lanes[k]).commit = false →
    ∃ t, exec (.laneRestart a) s = .next t ∧ lastAnswer a t = .done ∧
      (∀ j : Fin 16, j ≠ k → t.lanes[j] = s.lanes[j]) ∧
      ((s.lanes[k]).phase = .connecting → t.lanes[k] = { s.lanes[k] with heldRestart := true }) ∧
      ((s.lanes[k]).phase = .idle ∨ (s.lanes[k]).phase = .settling ∨ (s.lanes[k]).phase = .converting →
        (t.lanes[k]).phase = .settling ∧ (t.lanes[k]).entry = 0 ∧ (t.lanes[k]).visitAt = s.now ∧
        (t.lanes[k]).schedE = s.now ∧ (t.lanes[k]).streamStart = s.now ∧ (t.lanes[k]).lastStamp = none ∧
        (t.lanes[k]).sum = 0 ∧ (t.lanes[k]).count = 0) ∧
      RegsBut [] s t ∧ PartsBut [.acc, .lanes] s t) ∧
  ∀ (a : Accessor) (s : State), 16 ≤ selOf (.ln .SEL) a s →
    (WriteReaches a (.ln .CMD) 1 s → exec (.laneCommit a) s = .next (s.answer a .done)) ∧
    (WriteReaches a (.ln .CMD) 2 s → exec (.laneRestart a) s = .next (s.answer a .done)) ∧
    (WriteReaches a (.ln .CMD) 4 s → exec (.laneTestnow a) s = .next (s.answer a .done))

/-- R67 to R69.
R56 to R62: summing, the value, the stamp and the layout of a sample word. -/
def Obligations.ScanCyclesAndConversions : Prop :=
  ((∀ (k : Fin 16) (trigger : Bool) (s : State), laneOn s k = true → (s.lanes[k]).parked = false →
     (s.lanes[k]).phase = .idle → testing s (s.lanes[k]).serving = false → (s.lanes[k]).commit = false →
     (trigger = true ∨ laneTriggered s k = false ∧ ((s.lanes[k]).list.period = 0 ∨
       ticks (s.lanes[k]).schedE s.now % (s.lanes[k]).list.period = 0 ∧ (s.lanes[k]).schedE ≠ s.now)) →
     ∃ t, exec (.scanCycleStart k trigger) s = .next t ∧ (t.lanes[k]).phase = .settling ∧ (t.lanes[k]).entry = 0 ∧
       (t.lanes[k]).visitAt = s.now ∧ (t.lanes[k]).sum = 0 ∧ (t.lanes[k]).count = 0 ∧
       (t.lanes[k]).vpar = (s.lanes[k]).parity[0] ∧
       (∀ j : Fin 16, j ≠ k → t.lanes[j] = s.lanes[j]) ∧ RegsBut [] s t ∧ PartsBut [.lanes] s t) ∧
   (∀ (k : Fin 16) (s : State), RegFile.wf s.regs → laneOn s k = true → (s.lanes[k]).parked = false →
     (s.lanes[k]).phase = .settling ∨ (s.lanes[k]).phase = .converting →
     ∃ t, exec (.scanCycleStart k true) s = .next t ∧ t.lanes = s.lanes ∧
       t.reg (.ln .STAT) k.val = s.reg (.ln .STAT) k.val ||| 0x40 ∧ RegsBut [(.ln .STAT, k.val)] s t ∧
       PartsBut [.safety, .ic, .tw] s t) ∧
   ∀ (k : Fin 16) (s : State), (s.lanes[k]).phase = .settling →
     2 * (s.lanes[k]).list.settle ≤ sinceTicks (s.lanes[k]).visitAt s.now → testing s (s.lanes[k]).serving = false →
     exec (.settleEnd k) s = .next { s with lanes := upd s.lanes k (fun l => { l with phase := .converting }) }) ∧
  (∀ (k : Fin 16) (code : BitVec 16) (cmOut : Bool) (s : State), RegFile.wf s.regs →
     let l := s.lanes[k]
     let d := scDec (curEntry l)
     l.phase = .converting → l.cal ≠ .hold → testing s l.serving = false → (s.phys[l.serving]).since = none →
     let clip := l.clip || (code == 0x8000 || code == 0x7FFF) || cmOut
     (l.count + 1 < d →
       ∃ t, exec (.conversionComplete k code true cmOut) s = .next t ∧
         t.lanes = upd s.lanes k (fun x => { x with sum := x.sum + code.toInt, count := x.count + 1, clip := clip }) ∧
         t.phys = s.phys ∧ t.merger = s.merger ∧ t.rbit (.ln .STAT) k.val 1 = (cmOut || s.rbit (.ln .STAT) k.val 1)) ∧
     (l.count + 1 = d → 2 ≤ l.wordsLeft → l.dirty = false → l.withheld = [] → s.rfld (.ln .CTRL) k.val 31 30 = 0 →
       ∃ t, exec (.conversionComplete k code true cmOut) s = .next t ∧
         (let v : Int := max (-8388608) (min 8388607 ((512 * (l.sum + code.toInt) + d) / (2 * d)));
          t.reg (.ln .LAST) k.val =
             BitVec.ofInt 32 (v * 256) ||| at_ (b2n clip) 6 ||| at_ (b2n (decide (l.serving ≠ homeLane k))) 5 |||
               at_ l.entry.val 2 ||| at_ (b2n l.vpar) 1 ||| at_ (b2n l.first) 0) ∧
         (t.lanes[k]).lastStamp = some (stSub s.now 40) ∧ (t.lanes[k]).sum = 0 ∧ (t.lanes[k]).count = 0 ∧
         (t.lanes[k]).wordsLeft = l.wordsLeft - 1 ∧ (t.lanes[k]).first = false ∧ (t.lanes[k]).phase = .converting ∧
         (∀ j : Fin 16, j ≠ k → t.lanes[j] = s.lanes[j]) ∧ t.phys = s.phys))

/-- R75 and R82 steps 1 and 2: declaration of a lane fault.
R82 step 5 to R84, and R76.
Where the rules leave it open, a clause follows the model's choice (log entry 56). -/
def Obligations.LaneSubstitutions : Prop :=
  (∀ (k : Fin 16) (code : BitVec 16) (cmOut : Bool) (q : Fin 18) (rest : List (Fin 18)) (n : Nat) (s : State),
     let l := s.lanes[k]
     l.phase = .converting → l.cal = .none → testing s l.serving = false → (s.phys[l.serving]).since = some n →
     (s.phys[l.serving]).cond = .inService k → s.cal.phase = .idle → freeLanes s = q :: rest →
     ∃ t, exec (.conversionComplete k code false cmOut) s = .next t ∧
       (t.phys[l.serving]).cond = .fenced ∧ (t.phys[l.serving]).cause = 1 ∧ (t.phys[q]).cond = .inService k ∧
       (∀ p : Fin 18, p ≠ q → p ≠ l.serving → t.phys[p] = s.phys[p]) ∧
       (t.lanes[k]).serving = q ∧ (t.lanes[k]).phase = .connecting ∧ (t.lanes[k]).withheld = [] ∧
       (t.lanes[k]).sum = 0 ∧ (t.lanes[k]).count = 0 ∧
       (∃ x : LaneSubst, (t.lanes[k]).subst = some x ∧ x.fenced = l.serving ∧ x.spare = q ∧ x.cause = 1 ∧
         x.fromLoan = false ∧ x.chosen = s.now ∧ x.gapStart = some (laneGapStart l) ∧ x.idle = false) ∧
       (∀ j : Fin 16, j ≠ k → t.lanes[j] = s.lanes[j]) ∧
       ∃ h : RecoveryHold, t.merger.holds = s.merger.holds ++ [h] ∧ h.source = k.val ∧ h.stream = 0 ∧
         h.stamp = stMax (laneGapStart l) (acqFront s) ∧ h.start = laneGapStart l ∧
         h.moved = stLt (laneGapStart l) (acqFront s) ∧ h.needGap = true ∧ h.needSubst = true) ∧
  ((∀ (k : Fin 16) (x : LaneSubst) (s : State), RegFile.wf s.regs → (s.lanes[k]).subst = some x →
     (s.lanes[k]).phase ≠ .connecting → x.loanCut = false →
     ∃ t, exec (.laneSubstComplete k) s = .next t ∧ (t.lanes[k]).subst = none ∧
       (t.lanes[k]).serving = (s.lanes[k]).serving ∧ t.phys = s.phys ∧
       t.rbit (.ln .FAULTS) 0 k.val = true ∧ t.rbit (.ln .STAT) k.val 4 = true ∧ t.rbit (.ca .RUN) 0 k.val = true ∧
       (∃ r ∈ t.merger.arriving, r.typ = tLaneSubst ∧ r.source = k.val ∧ r.stamp = x.chosen ∧
         r.body = [at_ k.val 28 ||| at_ x.fenced.val 23 ||| at_ x.spare.val 18 ||| at_ x.cause 14 |||
           at_ (b2n x.fromLoan) 13, poolWord s]) ∧
       (x.gapStart ≠ none → ∃ r ∈ t.merger.arriving, r.typ = tGap ∧ r.source = k.val)) ∧
   (∀ (k : Fin 16) (w : LaneWord) (s : State), RegFile.wf s.regs → (s.lanes[k]).withheld = [w] → w.clear = true →
     s.rfld (.ln .CTRL) k.val 31 30 = 0 →
     ∃ t, exec (.withheldWordRelease k) s = .next t ∧ (t.lanes[k]).withheld = [] ∧
       t.reg (.ln .LAST) k.val = w.word ∧ (t.lanes[k]).lastStamp = some w.stamp ∧
       RegsBut [(.ln .LAST, k.val)] s t ∧ PartsBut [.lanes] s t ∧ ∀ j : Fin 16, j ≠ k → t.lanes[j] = s.lanes[j]))

/-- R96 to R98, R103, R104 and R106: from a reading to the start of a run.
R93, R94, R101 and R102: the end of a run, and what folding does to the interpolated code.
Where the rules leave it open, a clause follows the model's choice (log entry 58). -/
def Obligations.Calibrations : Prop :=
  ((∀ (t16 : BitVec 16) (s : State), RegFile.wf s.regs → s.clk.busOn = true →
     ∃ t, exec (.temperatureReading t16) s = .next t ∧ t.reg (.ca .TEMP) = 0x80000000 ||| t16.setWidth 32 ∧
       (s.rbit (.ca .CTRL) 0 0 = false → t.reg (.ca .RUN) = s.reg (.ca .RUN)) ∧
       (tempValid s = false → t.cal.firstTemp = 0x80000000 ||| t16.setWidth 32 ∧ t.cal.firstValid = s.now) ∧
       t.lanes = s.lanes ∧ t.phys = s.phys) ∧
   (∀ (a : Accessor) (mask : BitVec 16) (s : State), RegFile.wf s.regs → WriteReaches a (.ca .RUN) (mask.setWidth 32) s →
     ∃ t, exec (.calRunRequest a mask) s = .next t ∧ lastAnswer a t = .done ∧
       t.reg (.ca .RUN) = s.reg (.ca .RUN) ||| mask.setWidth 32 ∧ RegsBut [(.ca .RUN, 0)] s t ∧ PartsBut [.acc] s t) ∧
   (∀ (k : Fin 16) (rest : List (Fin 16)) (s : State), s.cal.phase = .idle → tempValid s = true → s.clk.busOn = true →
     s.power.parked[2] = false → (∀ j : Fin 16, (s.lanes[j]).phase ≠ .stopped) → calCandidates s = k :: rest →
     let need := if s.rfld (.ca .SPARE) 0 1 0 = 1 then 2 else if s.rfld (.ca .SPARE) 0 1 0 = 2 then 1 else 19
     let borrows : Prop := laneOn s k = true ∧ need ≤ (freeLanes s).length
     ∃ t, exec .calLaneSelect s = .next t ∧ t.cal.phase = .waiting ∧ t.cal.lane = k ∧ t.cal.t0 = s.now ∧
       t.cal.phys = (s.lanes[k]).serving ∧ t.lanes = s.lanes ∧ RegsBut [] s t ∧
       (borrows → t.cal.mode = 2 ∧ ∃ q, (freeLanes s).head? = some q ∧ t.cal.spare = some q ∧
         t.phys = upd s.phys q (fun x => { x with cond := .loan k })) ∧
       (¬borrows → t.cal.mode = (if laneOn s k = true then 1 else 3) ∧ t.cal.spare = none ∧ t.phys = s.phys)) ∧
   (∀ (s : State), RegFile.wf s.regs → s.cal.phase = .waiting → us 24 ≤ sinceTicks s.cal.t0 s.now →
     atPoint s.lanes[s.cal.lane] = true → testing s s.cal.phys = false → s.power.parked[2] = false →
     let k := s.cal.lane
     ∃ t, exec .calRunStart s = .next t ∧ t.cal.phase = .running ∧ t.cal.t0 = s.now ∧ t.cal.lane = k ∧
       t.cal.temp = s.reg (.ca .TEMP) ∧ t.reg (.ca .RUN) = s.reg (.ca .RUN) &&& ~~~(BitVec.ofNat 32 (2 ^ k.val)) ∧
       RegsBut [(.ca .RUN, 0)] s t ∧ (∀ j : Fin 16, j ≠ k → t.lanes[j] = s.lanes[j]) ∧
       (s.cal.mode = 1 → (t.lanes[k]).cal = .hold ∧ ∃ r ∈ t.merger.arriving, r.typ = tStaleBegin ∧ r.source = k.val ∧
         r.stamp = s.now ∧ r.body = [at_ (s.lanes[k]).entry.val 29]) ∧
       (∀ q, s.cal.mode = 2 → s.cal.spare = some q → (t.lanes[k]).cal = .loan s.cal.phys ∧ (t.lanes[k]).serving = q) ∧
       (s.cal.mode = 3 → s.cal.spare = none → t.lanes = s.lanes))) ∧
  ((∀ (codes : List Int) (verify : Int) (s : State), RegFile.wf s.regs → s.cal.phase = .running →
     codes.length = 18 → (∀ x ∈ codes, 0 ≤ x ∧ x ≤ 63) → -4194 ≤ verify - expectRef → verify - expectRef ≤ 4194 →
     us 180 ≤ sinceTicks s.cal.t0 s.now →
     ∃ t, exec (.calRunEnd codes verify true) s = .next t ∧ t.cal.phase = .idle ∧
       t.reg (.ca .LTEMP) s.cal.lane.val = at_ 1 30 ||| (s.cal.temp &&& 0xFFFF) ∧ t.phys = s.phys ∧
       (∃ r ∈ t.merger.arriving, r.typ = tCalDone ∧ r.source = s.cal.lane.val ∧ r.stamp = s.now) ∧
       ∀ i, i / 25 ≠ s.cal.lane.val → t.reg (.ca .SETS) i = s.reg (.ca .SETS) i) ∧
   (∀ (codes : List Int) (verify : Int) (k : Fin 16) (s : State), RegFile.wf s.regs → s.cal.phase = .running →
     us 54 ≤ sinceTicks s.cal.t0 s.now → s.cal.lane = k → (s.phys[s.cal.phys]).cond = .inService k →
     (∀ p, (s.lanes[k]).cal ≠ .loan p) →
     ∃ t, exec (.calRunEnd codes verify false) s = .next t ∧ t.cal.phase = .idle ∧
       t.reg (.ca .LTEMP) k.val = at_ 3 30 ||| (s.cal.temp &&& 0xFFFF) ∧ t.rbit (.ca .STAT) 0 2 = true ∧
       (t.phys[s.cal.phys]).cond = .fenced ∧ (t.phys[s.cal.phys]).cause = 3 ∧
       ∀ i, t.reg (.ca .SETS) i = s.reg (.ca .SETS) i) ∧
   ∀ (c : Nat → Nat) (t4 e : Int), (∀ j ∈ setsAt t4, 0 ≤ (c j : Int) + e ∧ (c j : Int) + e ≤ 63) →
     (interp (fun j => if j ∈ setsAt t4 then ((c j : Int) + e).toNat else c j) t4 : Int) = interp c t4 + e)

/-- R105, R106, R112, R113 and R115.
R77 to R81 and R88.
Where the rules leave it open, a clause follows the model's choice (log entries 56 and 75). -/
def Obligations.HoldsLoansAndReferenceTests : Prop :=
  ((∀ (k : Fin 16) (home : Fin 18) (s : State), (s.lanes[k]).cal = .loan home → calSettled s k = true →
     atPoint s.lanes[k] = true →
     ∃ t, exec (.loanEnd k) s = .next t ∧ (t.lanes[k]).cal = .none ∧ (t.lanes[k]).serving = home ∧
       t.phys = upd s.phys (s.lanes[k]).serving (fun x => { x with cond := .free }) ∧
       (∀ j : Fin 16, j ≠ k → t.lanes[j] = s.lanes[j]) ∧ RegsBut [] s t ∧ PartsBut [.lanes, .phys] s t) ∧
   (∀ (k : Fin 16) (s : State), RegFile.wf s.regs → (s.lanes[k]).cal = .hold → (s.lanes[k]).phase = .converting →
     (s.lanes[k]).withheld = [] → 2 ≤ (s.lanes[k]).wordsLeft → s.rfld (.ln .CTRL) k.val 31 30 = 0 →
     let l := s.lanes[k]
     ∃ t, exec (.staleWordDue k) s = .next t ∧
       t.reg (.ln .LAST) k.val = sampleWord (match l.lastFresh[l.entry] with | some w => w.toInt / 256 | none => 0)
         true false (decide (l.serving ≠ homeLane k)) l.entry l.vpar l.first ∧
       (t.lanes[k]).lastStamp = some (stSub s.now 40) ∧ (t.lanes[k]).wordsLeft = l.wordsLeft - 1 ∧
       (t.lanes[k]).lastFresh = l.lastFresh ∧ RegsBut [(.ln .LAST, k.val)] s t ∧ PartsBut [.lanes] s t) ∧
   (∀ (k : Fin 16) (s : State), (s.lanes[k]).cal = .hold → calSettled s k = true → (s.lanes[k]).phase = .converting →
     ∃ t, exec (.holdResume k) s = .next t ∧ (t.lanes[k]).cal = .none ∧ (t.lanes[k]).phase = .converting ∧
       (∃ r ∈ t.merger.arriving, r.typ = tStaleEnd ∧ r.source = k.val ∧ r.stamp = s.now) ∧ RegsBut [] s t ∧
       PartsBut [.lanes, .merger] s t) ∧
   (∀ (a : Accessor) (j : Fin 400) (v : Word) (s : State), RegFile.wf s.regs → WriteReaches a (.ca .SETS) v s →
     ∃ t, exec (.calSetsWrite a j v) s = .next t ∧ lastAnswer a t = .done ∧
       (s.cal.phase = .running ∧ s.cal.lane.val = j.val / 25 →
         t.rbit (.ca .STAT) 0 4 = true ∧ ∀ i, t.reg (.ca .SETS) i = s.reg (.ca .SETS) i) ∧
       (¬(s.cal.phase = .running ∧ s.cal.lane.val = j.val / 25) →
         t.reg (.ca .SETS) j.val = v &&& (if j.val % 5 = 4 then 0x3F3F else 0x3F3F3F3F) ∧
         RegsBut [(.ca .SETS, j.val)] s t ∧ PartsBut [.acc] s t)) ∧
   (∀ (a : Accessor) (v : Word) (s : State), RegFile.wf s.regs → WriteReaches a (.ca .DACVAL) v s →
     ∃ t, exec (.dacCodeWrite a v) s = .next t ∧ lastAnswer a t = .done ∧ t.reg (.ca .DACVAL) = v &&& 0xFFF ∧
       t.cal.dac = (if s.cal.phase = .running then s.cal.dac else v.toNat % 4096) ∧
       RegsBut [(.ca .DACVAL, 0)] s t ∧ PartsBut [.acc, .cal] s t) ∧
   ∀ (a : Accessor) (which : TrimName) (v : Word) (s : State), RegFile.wf s.regs →
     let (r, mask) : Reg × Word := match which with
       | .reference => (.ca .TRIMREF, 0xFF) | .temperature => (.ca .TRIMTS, 0x3FF) | .vrc => (.ca .TRIMVRC, 0xFF)
       | .drawbar => (.ca .TRIMDB, 0x3F3F) | .sets => (.ca .SETINIT, 0)
     WriteReaches a r v s →
     ∃ t, exec (.trimWrite a which v) s = .next t ∧ lastAnswer a t = .done ∧
       t.reg r = (if secure a s = true then (s.reg r &&& ~~~mask) ||| (v &&& mask) else s.reg r) ∧
       RegsBut [(r, 0)] s t ∧ PartsBut [.acc] s t) ∧
  ((∀ (p : Fin 18) (s : State), (s.phys[p]).cond ≠ .fenced → (s.phys[p]).cond ≠ .retesting →
     exec (.laneTimerTick p) s = .next { s with phys := upd s.phys p (fun x => { x with testDue := true }) }) ∧
   (∀ (p : Fin 18) (s : State), (s.phys[p]).cond = .free → (s.phys[p]).testDue = true → (s.phys[p]).test = none →
     suspended s p = false → s.power.parked[1] = false →
     ∃ t, exec (.referenceTestStart p) s = .next t ∧ (t.phys[p]).testDue = false ∧
       (∃ x : RefTest, (t.phys[p]).test = some x ∧ x.again = false ∧
         x.gain = (if (s.phys[p]).tests % 2 = 1 ∧ s.cal.phase ≠ .running then some ((s.phys[p]).oddFree % 6) else none)) ∧
       (∀ q : Fin 18, q ≠ p → t.phys[q] = s.phys[q]) ∧ RegsBut [] s t ∧ PartsBut [.phys] s t) ∧
   (∀ (p : Fin 18) (value : BitVec 24) (x : RefTest) (s : State), (s.phys[p]).cond = .free → (s.phys[p]).test = some x →
     (s.phys[p]).since = none →
     let expected := match x.gain with | some g => expectDac g | none => expectRef
     (-41943 ≤ value.toInt - expected → value.toInt - expected ≤ 41943 →
       ∃ t, exec (.referenceTestDone p value true) s = .next t ∧ (t.phys[p]).test = none ∧ (t.phys[p]).testPass = true ∧
         (t.phys[p]).testValue = value.toInt ∧ (t.phys[p]).tests = (s.phys[p]).tests + 1 ∧ (t.phys[p]).cond = .free ∧
         RegsBut [] s t ∧ PartsBut [.phys] s t) ∧
     (value.toInt - expected < -41943 ∨ 41943 < value.toInt - expected →
       ∃ t, exec (.referenceTestDone p value true) s = .next t ∧ (t.phys[p]).testPass = false ∧
         (x.again = false → (t.phys[p]).test = some { x with again := true } ∧ (t.phys[p]).cond = .free) ∧
         (x.again = true → (t.phys[p]).test = none ∧ (t.phys[p]).cond = .fenced ∧ (t.phys[p]).cause = 2))) ∧
   (∀ (a : Accessor) (s : State), WriteReaches a (.ln .PCMD) 1 s → 16 ≤ selOf (.ln .SEL) a s →
     let p := selPhys a s
     ((s.phys[p]).cond = .fenced → ∃ t, exec (.laneRetest a) s = .next t ∧ lastAnswer a t = .done ∧
       t.phys = upd s.phys p (fun x => { x with cond := .retesting }) ∧ RegsBut [] s t ∧ PartsBut [.acc, .phys] s t) ∧
     ((s.phys[p]).cond ≠ .fenced → exec (.laneRetest a) s = .next (s.answer a .done))) ∧
   ∀ (p : Fin 18) (values : List (BitVec 24)) (consistent : Bool) (s : State), (s.phys[p]).cond = .retesting →
     values.length = 18 →
     ∃ t, exec (.laneRetestDone p values consistent) s = .next t ∧
       (let pass : Prop := consistent = true ∧ ∀ i < 18, -41943 ≤ (values.getD i 0).toInt - retestExpect i ∧
             (values.getD i 0).toInt - retestExpect i ≤ 41943
        (pass → (t.phys[p]).cond = .free ∧ (t.phys[p]).cause = 0) ∧
        (¬pass → (t.phys[p]).cond = .fenced ∧ (t.phys[p]).cause = 4)) ∧
       (∀ q : Fin 18, q ≠ p → t.phys[q] = s.phys[q]) ∧ t.lanes = s.lanes)

/-- The operations of a carriage that use no store word (R120 to R124, R612).
Where the rules leave it open, a clause follows the model's choice (log entry 59). -/
def Obligations.CarriageArithmetic : Prop :=
  ∀ (p : Fin 68) (s : State),
    let c := s.coach.cars[p]
    let m := present s p
    let sh := shOf m
    (Executes 0x00 p s → exec (.nop p .clean) s = .next (setPc p (c.pc + 1) s)) ∧
    (Executes 0x02 p s → m.src = 4 ∨ m.src = 5 →
      ∃ t, exec (.move p .clean) s = .next t ∧ CarFrame p [] (c.pc + 1) s t ∧
        Delivers p (if m.src = 4 then c.x.toInt else shifted c.acc.toInt sh) c.x c.acc s t) ∧
    (Executes 0x03 p s →
      let k : BitVec 24 := m.imm.setWidth 24
      let v := shifted (c.x.toInt * k.toInt) sh
      ∃ t, exec (.scale p .clean) s = .next t ∧ CarFrame p [] (c.pc + 1) s t ∧
        Delivers p v (BitVec.ofInt 32 v) c.acc s t) ∧
    (Executes 0x07 p s →
      let v : Int := if c.x.toInt < 0 then clamp32 (-c.x.toInt) else c.x.toInt
      ∃ t, exec (.rect p .clean) s = .next t ∧ CarFrame p [] (c.pc + 1) s t ∧
        Delivers p v (BitVec.ofInt 32 v) c.acc s t) ∧
    (Executes 0x0E p s →
      ∃ t, exec (.sq p .clean) s = .next t ∧ CarFrame p [] (c.pc + 1) s t ∧ (t.coach.cars[p]).x = c.x ∧
        (t.coach.cars[p]).acc = BitVec.ofInt 64 (clamp64 (c.acc.toInt + c.x.toInt * c.x.toInt)) ∧
        (t.coach.cars[p]).sat = (c.sat || decide (9223372036854775807 < c.acc.toInt + c.x.toInt * c.x.toInt)) ∧
        t.coach.flights = s.coach.flights) ∧
    (Executes 0x0F p s →
      ∃ (r : Nat) (t : State), exec (.sqrt p .clean) s = .next t ∧ CarFrame p [] (c.pc + 1) s t ∧
        (let n := (shifted c.acc.toInt sh).toNat; r * r ≤ n ∧ n < (r + 1) * (r + 1)) ∧
        Delivers p (r : Int) (BitVec.ofNat 32 r) c.acc s t) ∧
    (Executes 0x12 p s → exec (.jmp p .clean) s = .next (setPc p (Fin.ofNat 64 m.imm.toNat) s)) ∧
    (Executes 0x13 p s →
      ∃ t, exec (.clr p .clean) s = .next t ∧ CarFrame p [] (c.pc + 1) s t ∧ (t.coach.cars[p]).x = c.x ∧
        (t.coach.cars[p]).acc = 0 ∧ t.coach.flights = s.coach.flights ∧
        (if m.imm.getLsbD 31 = true then (t.coach.cars[p]).rs = 0 ∧ (t.coach.cars[p]).flags = 0
         else (t.coach.cars[p]).rs = c.rs ∧ (t.coach.cars[p]).flags = c.flags))

/-- R124, R125 and R127 to R131, R613.
Where the rules leave it open, a clause follows the model's choice (log entries 18 and 59). -/
def Obligations.CarriageStreams : Prop :=
  (∀ (last : Option Word) (l t v : Word) (qual : Bool) (rest : List PortWord), last = none ∨ last = some l →
    takeData l (wordsFor last t v qual ++ rest) = some (v, t, qual, rest)) ∧
  (∀ (p : Fin 68) (s : State),
    let c := s.coach.cars[p]
    let m := present s p
    let k : Fin 4 := Fin.ofNat 4 m.src
    let owed : Bool → Vector Bool 2 := fun q => if q then #v[true, true] else c.owed
    (∀ v st qual rest, Executes 0x01 p s → m.src ≤ 3 → m.dst = 2 ∨ m.dst = 3 →
      takeData c.inStamp[k] (dropMarks c.fifo[k]) = some (v, st, qual, rest) →
      ∃ t, exec (.wait p .clean) s = .next t ∧ CarFrame p [] (c.pc + 1) s t ∧
        (t.coach.cars[p]).fifo = c.fifo.set k.val rest ∧ (t.coach.cars[p]).sx = some st ∧
        (t.coach.cars[p]).inStamp = c.inStamp.set k.val st ∧ (t.coach.cars[p]).owed = owed qual ∧
        (t.coach.cars[p]).x = (if m.dst = 2 then v else c.x) ∧
        (t.coach.cars[p]).acc = (if m.dst = 3 then BitVec.ofInt 64 (clamp64 (v.toInt * 2 ^ shOf m)) else c.acc) ∧
        t.coach.flights = s.coach.flights) ∧
    (∀ v st qual rest, Executes 0x02 p s → m.src ≤ 3 →
      takeData c.inStamp[k] (dropMarks c.fifo[k]) = some (v, st, qual, rest) →
      let took := updCar p (fun c => { c with
        fifo := c.fifo.set k.val rest, sx := some st, inStamp := c.inStamp.set k.val st, owed := owed qual }) s
      ∃ t, exec (.move p .clean) s = .next t ∧ CarFrame p [] (c.pc + 1) s t ∧
        (t.coach.cars[p]).fifo = c.fifo.set k.val rest ∧ (t.coach.cars[p]).sx = some st ∧
        (t.coach.cars[p]).inStamp = c.inStamp.set k.val st ∧ Delivers p v.toInt c.x c.acc took t) ∧
    (∀ (i : Fin 68 → CarCheck → Instr) (op : Nat), (op, i) ∈ [(0x01, Instr.wait), (0x02, Instr.move)] →
      Executes op p s → m.src ≤ 3 → takeData c.inStamp[k] (dropMarks c.fifo[k]) = none →
      exec (i p .clean) s = .next (updCar p (fun c => { c with fifo := c.fifo.set k.val (dropMarks c.fifo[k]) }) s)) ∧
    (∀ e : Emission, c.stalled = some e →
      let fs := emission s p e.dst e.value
      (roomFor s fs = false → exec (.emitAfterStall p) s = .next s) ∧
      (roomFor s fs = true → ∃ t, exec (.emitAfterStall p) s = .next t ∧ CarFrame p [] c.pc s t ∧
        (t.coach.cars[p]).stalled = none ∧ (t.coach.cars[p]).x = c.x ∧ (t.coach.cars[p]).acc = c.acc ∧
        t.coach.flights = s.coach.flights ++ fs))) ∧
  (∀ (p sender : Fin 68) (k : Fin 4) (w : PortWord) (before after : List Flight) (s : State),
    s.coach.flights = before ++ { dst := .port p k, word := w, sender := sender } :: after →
    (∀ f ∈ before, f.dst ≠ .port p k) →
    ∃ t, exec (.couplingWordArrive (.port p k) false) s = .next t ∧ t.coach.flights = before ++ after ∧
      (t.coach.cars[p]).fifo = (s.coach.cars[p]).fifo.set k.val ((s.coach.cars[p]).fifo[k] ++ [w]) ∧
      (t.coach.cars[p]).owed = (if w.side = .mark then #v[true, true] else (s.coach.cars[p]).owed) ∧
      (∀ q : Fin 68, q ≠ p → t.coach.cars[q] = s.coach.cars[q]) ∧ t.coach.trains = s.coach.trains ∧
      RegsBut [] s t ∧ PartsBut [.coach] s t) ∧
  ∀ (n : Fin 16) (i : Fin 4) (sender : Fin 68) (w : PortWord) (before after : List Flight) (s : State),
    s.coach.flights = before ++ { dst := .outlet n i, word := w, sender := sender } :: after →
    (∀ f ∈ before, f.dst ≠ .outlet n i) →
    ∃ t, exec (.couplingWordArrive (.outlet n i) false) s = .next t ∧ t.coach.flights = before ++ after ∧
      (t.coach.trains[n]).outq[i] = (s.coach.trains[n]).outq[i] ++ [w] ∧ t.coach.cars = s.coach.cars ∧
      RegsBut [] s t ∧ PartsBut [.coach] s t

/-- The filters of a carriage (R610 to R612). -/
def Obligations.CarriageFilters : Prop :=
  ∀ (p : Fin 68) (s : State), Memory.wf s.mem →
    let c := s.coach.cars[p]
    let m := present s p
    let h := hiddenAt c c.pc
    let sh := shOf m
    let word (i : Nat) : Int := (carWord s p (m.base + i)).toInt
    (Executes 0x04 p s → m.dst ≠ 3 → m.base + 2 * m.len + 1 ≤ 512 → (carWord s p (m.base + 2 * m.len)).toNat < m.len →
      let ratio := max 1 (fld m.imm 11 0)
      let new := ((carWord s p (m.base + 2 * m.len)).toNat + 1) % m.len
      let line (i : Nat) : Int := if i = new then c.x.toInt else word (m.len + i)
      ∃ t, exec (.fir p .clean) s = .next t ∧ CarFrame p [m.base + m.len + new, m.base + 2 * m.len] (c.pc + 1) s t ∧
        carWord t p (m.base + 2 * m.len) = BitVec.ofNat 32 new ∧ carWord t p (m.base + m.len + new) = c.x ∧
        (h.phase + 1 < ratio → (hiddenAt t.coach.cars[p] c.pc).phase = h.phase + 1 ∧ (t.coach.cars[p]).acc = c.acc ∧
          (t.coach.cars[p]).x = c.x ∧ t.coach.flights = s.coach.flights) ∧
        (h.phase + 1 ≥ ratio → (hiddenAt t.coach.cars[p] c.pc).phase = 0 ∧
          (let acc := accSum (if m.imm.getLsbD 31 then c.acc.toInt else 0)
             ((List.range m.len).map (fun i => word i * line ((new + m.len - i) % m.len)));
           Delivers p (shifted acc sh) c.x (BitVec.ofInt 64 acc) s t))) ∧
    (Executes 0x05 p s → m.dst ≠ 3 → 1 ≤ m.len → m.base + 7 * m.len ≤ 512 →
      ∃ (acc y : Nat → Int) (t : State), exec (.biq p .clean) s = .next t ∧
        CarFrame p ((List.range m.len).flatMap (fun k => [m.base + 7 * k + 5, m.base + 7 * k + 6])) (c.pc + 1) s t ∧
        (∀ k < m.len,
          acc k = accSum 0 [word (7 * k) * (if k = 0 then c.x.toInt else y (k - 1)),
            word (7 * k + 1) * (if k = 0 then h.x1.toInt else word (7 * (k - 1) + 5)),
            word (7 * k + 2) * (if k = 0 then h.x2.toInt else word (7 * (k - 1) + 6)),
            -(word (7 * k + 3) * word (7 * k + 5)), -(word (7 * k + 4) * word (7 * k + 6))] ∧
          y k = shifted (acc k) sh ∧ carWord t p (m.base + 7 * k + 5) = BitVec.ofInt 32 (y k) ∧
          carWord t p (m.base + 7 * k + 6) = carWord s p (m.base + 7 * k + 5)) ∧
        (hiddenAt t.coach.cars[p] c.pc).x1 = c.x ∧ (hiddenAt t.coach.cars[p] c.pc).x2 = h.x1 ∧
        Delivers p (y (m.len - 1)) c.x (BitVec.ofInt 64 (acc (m.len - 1))) s t) ∧
    (∀ n, Executes 0x06 p s → fld m.imm 3 0 = n → 1 ≤ n → m.base + 2 * n ≤ 512 →
      ∃ (v d : Nat → Word) (t : State), exec (.cic p .clean) s = .next t ∧
        CarFrame p ((List.range (2 * n)).map (fun i => m.base + i)) (c.pc + 1) s t ∧
        (∀ i < n, v i = carWord s p (m.base + i) + (if i = 0 then c.x else v (i - 1)) ∧
          carWord t p (m.base + i) = v i ∧
          d i = (if i = 0 then v (n - 1) else d (i - 1)) - carWord s p (m.base + n + i)) ∧
        (h.phase + 1 < fld m.imm 15 4 → (hiddenAt t.coach.cars[p] c.pc).phase = h.phase + 1 ∧
          (∀ i < n, carWord t p (m.base + n + i) = carWord s p (m.base + n + i)) ∧ (t.coach.cars[p]).x = c.x ∧
          (t.coach.cars[p]).acc = c.acc ∧ t.coach.flights = s.coach.flights) ∧
        (h.phase + 1 ≥ fld m.imm 15 4 → (hiddenAt t.coach.cars[p] c.pc).phase = 0 ∧
          (∀ i < n, carWord t p (m.base + n + i) = (if i = 0 then v (n - 1) else d (i - 1))) ∧
          Delivers p ((2 * (d (n - 1)).toInt + 2 ^ sh) / (2 * 2 ^ sh)) c.x c.acc s t)) ∧
    (Executes 0x08 p s → m.base < 512 →
      let mag : Int := clamp32 (if c.x.toInt < 0 then -c.x.toInt else c.x.toInt)
      let y := word 0 + (2 * ((mag - word 0) * (m.imm.toNat % 65536 : Nat)) + 65536) / 131072
      ∃ t, exec (.env p .clean) s = .next t ∧ CarFrame p [m.base] (c.pc + 1) s t ∧
        carWord t p m.base = BitVec.ofInt 32 (clamp32 y) ∧
        Delivers p (clamp32 y) (BitVec.ofInt 32 (clamp32 y)) c.acc s t)

/-- Thresholds, counters, tables and events of a carriage (R126, R144, R610 to R612).
Where the rules leave it open, a clause follows the model's choice (log entry 59). -/
def Obligations.CarriageTables : Prop :=
  ∀ (p : Fin 68) (s : State), Memory.wf s.mem → RegFile.wf s.regs →
    let c := s.coach.cars[p]
    let m := present s p
    let f := fld m.imm 1 0
    let word (i : Nat) : Int := (carWord s p (m.base + i)).toInt
    let event (n : Nat) (t : State) : Prop :=
      if (s.coach.trains[c.train]).evtEdge[n % 4]! = some s.clk.edge then
        t.router = s.router ∧ t.reg (.cw .STAT) = s.reg (.cw .STAT) ||| 0x100
      else (∃ q : Publication, t.router.inflight = s.router.inflight ++ [q] ∧ q.producer = 2 ∧ q.inst = c.train.val ∧
        q.output = n % 4 ∧ q.edge = s.clk.edge + 1 ∧ q.hop = 0) ∧ RegsBut [] s t
    (Executes 0x09 p s → m.base + 2 ≤ 512 →
      ∃ t, exec (.thr p .clean) s = .next t ∧ CarFrame p [] (c.pc + 1) s t ∧ (t.coach.cars[p]).x = c.x ∧
        ∀ j < 4, (t.coach.cars[p]).flags.getLsbD j =
          (if j = f then (if word 0 < c.x.toInt then true else if c.x.toInt < word 1 then false else c.flags.getLsbD j)
           else c.flags.getLsbD j)) ∧
    (Executes 0x0A p s → m.base < 512 →
      let rise := c.flags.getLsbD f && !(hiddenAt c c.pc).flag
      let n := carWord s p m.base + (if rise then 1 else 0)
      ∃ t, exec (.cnt p .clean) s = .next t ∧ CarFrame p [m.base] (c.pc + 1) s t ∧ carWord t p m.base = n ∧
        (hiddenAt t.coach.cars[p] c.pc).flag = c.flags.getLsbD f ∧ Delivers p n.toInt c.x c.acc s t) ∧
    (Executes 0x0B p s → m.base + 3 ≤ 512 → (carWord s p (m.base + 2)).toNat < m.len →
      let n := (carWord s p (m.base + 2)).toNat
      let up := n = 0 ∨ word 0 < c.x.toInt
      ∃ t, exec (.peak p .clean) s = .next t ∧ CarFrame p [m.base, m.base + 1, m.base + 2] (c.pc + 1) s t ∧
        carWord t p m.base = (if up then c.x else carWord s p m.base) ∧
        carWord t p (m.base + 1) = (if up then BitVec.ofNat 32 n else carWord s p (m.base + 1)) ∧
        carWord t p (m.base + 2) = BitVec.ofNat 32 ((n + 1) % m.len) ∧
        (n + 1 = m.len → Delivers p (if up then c.x.toInt else word 0) c.x c.acc s t) ∧
        (n + 1 < m.len → (t.coach.cars[p]).x = c.x ∧ t.coach.flights = s.coach.flights)) ∧
    (Executes 0x0C p s → m.base + m.len + 1 ≤ 512 →
      let n := (c.x.toInt + 2147483648).toNat * m.len
      let i := n / 2 ^ 32
      ∃ t, exec (.lut p .clean) s = .next t ∧ CarFrame p [] (c.pc + 1) s t ∧
        Delivers p (clamp32 (word i + (2 * ((word (i + 1) - word i) * (n % 2 ^ 32 : Nat)) + 2 ^ 32) / 2 ^ 33)) c.x c.acc s t) ∧
    (Executes 0x0D p s → m.base + 64 ≤ 512 →
      let b := 16 * c.rs.val + c.flags.toNat
      let e := (carWord s p (m.base + b / 4)).toNat / 2 ^ (8 * (b % 4)) % 256
      ∃ t, exec (.recStep p .clean) s = .next t ∧ (t.coach.cars[p]).pc = c.pc + 1 ∧
        (t.coach.cars[p]).rs.val = e / 16 ∧ (t.coach.cars[p]).flags = c.flags ∧ (t.coach.cars[p]).x = c.x ∧
        (e / 8 % 2 = 1 → event (e % 4) t) ∧ (e / 8 % 2 = 0 → t.router = s.router ∧ RegsBut [] s t) ∧
        (∀ q : Fin 68, q ≠ p → t.coach.cars[q] = s.coach.cars[q]) ∧
        (e / 4 % 2 = 0 ∨ (∀ d, (entryAt c d).op ≠ 0x0A) → t.mem = s.mem) ∧
        (e / 4 % 2 = 1 → ∀ (d : Fin 64) (k : Nat), 1 ≤ k → k ≤ 64 → d = c.pc + Fin.ofNat 64 k →
          (entryAt c d).op = 0x0A → (∀ j, 1 ≤ j → j < k → (entryAt c (c.pc + Fin.ofNat 64 j)).op ≠ 0x0A) →
          carWord t p (entryAt c d).base = 0 ∧
          ∀ a, a < carAddr p (entryAt c d).base ∨ carAddr p (entryAt c d).base + 4 ≤ a → t.readByte a = s.readByte a)) ∧
    (Executes 0x10 p s → m.base + m.len + 1 ≤ 512 → (carWord s p (m.base + m.len)).toNat < m.len →
      let i := (carWord s p (m.base + m.len)).toNat
      ∃ t, exec (.dly p .clean) s = .next t ∧ CarFrame p [m.base + i, m.base + m.len] (c.pc + 1) s t ∧
        carWord t p (m.base + i) = c.x ∧ carWord t p (m.base + m.len) = BitVec.ofNat 32 ((i + 1) % m.len) ∧
        Delivers p (word i) c.x c.acc s t) ∧
    (Executes 0x11 p s →
      ∃ t, exec (.evt p .clean) s = .next t ∧ (t.coach.cars[p]) = { c with pc := c.pc + 1 } ∧ event f t ∧ t.mem = s.mem)

/-- R120, R123, R146 to R148, and R150 step 1.
Where the rules leave it open, a clause follows the model's choice (log entry 60). -/
def Obligations.CarriageChecks : Prop :=
  let faulty (p : Fin 68) (cause : Nat) (s t : State) : Prop :=
    (t.coach.cars[p]).cond = .fenced ∧ (t.coach.cars[p]).cause = cause ∧
    t.rbit (.cw .STAT) 0 cause = true ∧
    ∀ q, chooseSpare s (s.coach.cars[p]).logical = some q → (s.coach.cars[p]).cond = .serving → q ≠ p →
      (s.coach.trains[(s.coach.cars[p]).train]).state = .running →
      (s.coach.trains[(s.coach.cars[p]).train]).subst = none →
      let n := (s.coach.cars[p]).train
      t.coach.serve[(s.coach.cars[p]).logical] = some q ∧ (t.coach.cars[q]).cond = .serving ∧
      (t.coach.cars[q]).logical = (s.coach.cars[p]).logical ∧ (t.coach.trains[n]).state = .warming ∧
      (t.coach.trains[n]).wleft = (s.coach.trains[n]).settle ∧ (t.coach.trains[n]).outq = Vector.replicate 4 [] ∧
      (∃ x : TrainSubst, (t.coach.trains[n]).subst = some x ∧ x.loaded = false ∧
        x.parts = [{ logical := (s.coach.cars[p]).logical, fenced := p, spare := q, cause := cause, chosen := s.now }]) ∧
      ∀ k : Fin 16, k ≠ n → t.coach.trains[k] = s.coach.trains[k]
  (∀ (op : Nat) (i : Fin 68 → CarCheck → Instr), (op, i) ∈ carOps → ∀ (p : Fin 68) (s : State), RegFile.wf s.regs →
    AtOp op p s →
    (condTrue s.coach.cars[p] (present s p) = false →
      exec (i p .clean) s = .next (setPc p ((s.coach.cars[p]).pc + 1) s)) ∧
    (∃ t, exec (i p .programParity) s = .next t ∧ faulty p 3 s t) ∧
    (Executes op p s → op ∈ [0x03, 0x04, 0x05, 0x08, 0x0C, 0x0E, 0x0F] →
      ∃ t, exec (i p .residue) s = .next t ∧ faulty p 1 s t)) ∧
  (∀ (p : Fin 68) (s : State), RegFile.wf s.regs → AtOp 0x3F p s → condTrue s.coach.cars[p] (present s p) = true →
    ∃ t, exec (.invalidOperation p) s = .next t ∧ faulty p 3 s t) ∧
  ∀ (p : Fin 68) (k : Fin 4) (s : State), RegFile.wf s.regs → (∃ f ∈ s.coach.flights, f.dst = .port p k) →
    (s.coach.cars[p]).cond = .serving ∨ (s.coach.cars[p]).cond = .idle →
    ∃ t, exec (.couplingWordArrive (.port p k) true) s = .next t ∧ faulty p 4 s t

/-- R139, R140 and R142.
Where the rules leave it open, a clause follows the model's choice (log entry 60). -/
def Obligations.TrainsStartAndStop : Prop :=
  (∀ (a : Accessor) (mask : BitVec 16) (s : State), WriteReaches a (.cw .TSTART) (mask.setWidth 32) s →
    s.coach.loader.hand = none →
    ∃ t, exec (.trainStart a mask) s = .next t ∧ lastAnswer a t = .done ∧ t.coach.cars = s.coach.cars ∧
      RegsBut [] s t ∧ PartsBut [.acc, .coach] s t ∧
      ∀ n : Fin 16,
        let r := s.coach.trains[n]
        t.coach.trains[n] = (if mask.getLsbD n.val = true ∧ (r.state = .ready ∨ r.state = .stopped) ∧ r.starting = false
          then { r with starting := true, stopHeld := false } else r)) ∧
  (∀ (n : Fin 16) (s : State), Memory.wf s.mem →
    let r := s.coach.trains[n]
    r.starting = true → r.subst = none → s.coach.loader.phase = .idle → s.coach.loader.hand = none →
    ∃ t, exec (.trainStartComplete n) s = .next t ∧ (t.coach.trains[n]).starting = false ∧
      (∀ k : Fin 16, k ≠ n → t.coach.trains[k] = s.coach.trains[k]) ∧ RegsBut [] s t ∧ PartsBut [.coach, .mem] s t ∧
      (r.stopHeld = true → (t.coach.trains[n]).state = .stopped ∧ t.coach.cars = s.coach.cars ∧ t.mem = s.mem) ∧
      (r.stopHeld = false →
        (t.coach.trains[n]).state = (if r.settle = 0 then .running else .warming) ∧ (t.coach.trains[n]).wleft = r.settle ∧
        (t.coach.trains[n]).runStart = s.now ∧
        ∀ k ∈ r.members, ∀ p, s.coach.serve[k] = some p →
          let c := t.coach.cars[p]
          c.x = 0 ∧ c.sx = none ∧ c.acc = 0 ∧ c.flags = 0 ∧ c.rs = 0 ∧ c.pc = 0 ∧ c.hidden = [] ∧ c.sat = false ∧
          c.prog = (s.coach.cars[p]).prog ∧
          ((∀ j ∈ r.members, s.coach.serve[j] = some p → j = k) → ∀ i < 512,
            carWord t p i = (if cacheMark s k i then cacheStore s k i else carWord s p i)))) ∧
  (∀ (a : Accessor) (mask : BitVec 16) (s : State), WriteReaches a (.cw .TSTOP) (mask.setWidth 32) s →
    s.coach.loader.hand = none → (∀ n : Fin 16, (s.coach.trains[n]).subst = none) →
    ∃ t, exec (.trainStop a mask) s = .next t ∧ lastAnswer a t = .done ∧ t.coach.cars = s.coach.cars ∧ t.mem = s.mem ∧
      (∀ n : Fin 16,
        let r := s.coach.trains[n]
        t.coach.trains[n] = (if mask.getLsbD n.val = true then
          if r.starting = true then { r with stopHeld := true }
          else if r.state = .running ∨ r.state = .warming then { r with state := .draining, drainAt := s.now, quiet := false }
          else r else r)) ∧
      ∀ d : Fin 32, (∀ n : Fin 16, mask.getLsbD n.val = true → slotUsesTrain s d n.val = false) → t.slots[d] = s.slots[d]) ∧
  (∀ (n : Fin 16) (s : State), (s.coach.trains[n]).state = .draining → (s.coach.trains[n]).subst = none →
    trainQuiet s n = true → s.coach.loader.hand = none →
    exec (.trainDrained n) s = .next (updTrain n (fun t => { t with state := .stopped }) s)) ∧
  ∀ (n : Fin 16) (s : State),
    let r := s.coach.trains[n]
    r.state = .draining → r.subst = none → 9600 ≤ sinceTicks r.drainAt s.now → s.coach.loader.hand = none →
    ∃ t, exec (.drainCut n) s = .next t ∧ (t.coach.trains[n]).state = .stopped ∧
      (t.coach.trains[n]).outq = Vector.replicate 4 [] ∧
      (∀ (p : Fin 68), (s.coach.cars[p]).cond = .serving → (s.coach.cars[p]).train = n →
        (t.coach.cars[p]).fifo = Vector.replicate 4 []) ∧
      (∀ k : Fin 16, k ≠ n → t.coach.trains[k] = s.coach.trains[k]) ∧
      (r.quiet = true → t.merger = s.merger) ∧
      (r.quiet = false → (∀ h ∈ s.merger.holds, h.source ≠ 0x20 + n.val) → ∀ i : Fin 4, (r.outlets[i]).getLsbD 31 = true → (r.outlets[i]).getLsbD 16 = true →
        ∃ x ∈ t.merger.arriving, x.typ = tGap ∧ x.source = 0x20 + n.val ∧ fld (x.body.getD 0 0) 31 28 = 10 ∧
          fld (x.body.getD 0 0) 27 26 = i.val ∧ fld (x.body.getD 0 0) 25 25 = 1 ∧ x.body.getD 1 0 = stLo (gapStart r i))

/-- R149 to R152, R157 and R160.
R141 and R143.
Where the rules leave it open, a clause follows the model's choice (log entries 20 and 60). -/
def Obligations.SubstitutesSparesAndOutlets : Prop :=
  ((∀ (n : Fin 16) (x : TrainSubst) (part : CarSubst) (s : State), RegFile.wf s.regs →
     let r := s.coach.trains[n]
     r.subst = some x → x.parts = [part] → x.loaded = false → x.stopAt = none → s.coach.loader.hand = none →
     cacheOk s part.logical = true → part.logical ∈ r.members → s.coach.serve[part.logical] = some part.spare →
     ∃ t, exec (.carriageSubstComplete n) s = .next t ∧ (t.coach.trains[n]).subst = none ∧
       (t.coach.trains[n]).state = (if r.settle = 0 then .running else .warming) ∧ (t.coach.trains[n]).wleft = r.settle ∧
       (t.coach.trains[n]).runStart = s.now ∧
       (t.coach.cars[part.spare]).prog =
         (List.range 64).map (fun i => BitVec.ofNat 64 (leNat (s.readBytes (cacheAddr part.logical + 8 * i) 8))) ∧
       (t.coach.cars[part.spare]).pc = 0 ∧ t.coach.shown[part.logical] = part.spare ∧
       t.rbit (.cw .STAT) 0 0 = true ∧ t.rbit (.cw .TFAULT) 0 n.val = true ∧
       t.rfld (.cw .NSUBST) 0 7 0 = min 255 (s.rfld (.cw .NSUBST) 0 7 0 + 1) ∧
       (∀ k : Fin 16, k ≠ n → t.coach.trains[k] = s.coach.trains[k]) ∧
       (∃ q ∈ t.merger.arriving, q.typ = tCarriageSubst ∧ q.source = 0x20 + n.val ∧ q.stamp = part.chosen ∧
         q.body.head? = some (at_ part.logical.val 26 ||| at_ part.fenced.val 19 ||| at_ part.spare.val 12 |||
           at_ n.val 8 ||| at_ part.cause 4)) ∧
       (∀ i : Fin 4, (x.starts[i]).isSome = true → ∃ q ∈ t.merger.arriving, q.typ = tGap ∧ q.source = 0x20 + n.val ∧
         fld (q.body.getD 0 0) 31 28 = 3 ∧ fld (q.body.getD 0 0) 27 26 = i.val) ∧
       ∃ e ∈ t.safety.pending, e.code = 0x301) ∧
   (∀ (k : Fin 4) (s : State), RegFile.wf s.regs →
     let p : Fin 68 := Fin.ofNat 68 (64 + k.val)
     exec (.spareBistRound k true) s = .next s ∧
     (s.rbit (.cw .CTRL) 0 0 = true → (s.coach.cars[p]).cond = .spare →
       ∃ t, exec (.spareBistRound k false) s = .next t ∧ (t.coach.cars[p]).cond = .fenced ∧ (t.coach.cars[p]).cause = 5 ∧
         t.rbit (.cw .STAT) 0 5 = true ∧ t.merger = s.merger ∧ RegsBut [(.cw .STAT, 0)] s t ∧
         ∀ q : Fin 68, q ≠ p → t.coach.cars[q] = s.coach.cars[q])) ∧
   (∀ (a : Accessor) (p : Fin 68) (s : State), WriteReaches a (.cw .PCMD) (at_ 1 31 ||| at_ p.val 0) s →
     ((s.coach.cars[p]).cond = .fenced → ∃ t, exec (.carriageRetest a p) s = .next t ∧ lastAnswer a t = .done ∧
       t.coach = (updCar p (fun c => { c with cond := .retesting }) s).coach ∧ RegsBut [] s t ∧ PartsBut [.acc, .coach] s t) ∧
     ((s.coach.cars[p]).cond ≠ .fenced → exec (.carriageRetest a p) s = .next (s.answer a .done))) ∧
   (∀ (p : Fin 68) (s : State), (s.coach.cars[p]).cond = .retesting →
     exec (.carriageRetestDone p true) s = .next (updCar p (fun c => { c with
       cond := if p.val < 64 then .recovered else .spare, cause := 0 }) s) ∧
     exec (.carriageRetestDone p false) s = .next (updCar p (fun c => { c with cond := .fenced, cause := 6 }) s)) ∧
   ∀ (a : Accessor) (p : Fin 68) (w : Fin 512) (v : Word) (s : State), Memory.wf s.mem → RegFile.wf s.regs →
     a = .a0 ∨ a = .a1 → s.clk.busOn = true → s.power.dom[2] = true →
     let r := s.coach.trains[(s.coach.cars[p]).train]
     let live : Prop := (s.coach.cars[p]).cond = .serving ∧ (r.state = .running ∨ r.state = .warming ∨ r.state = .draining)
     ∃ t, exec (.diagnosticWrite a p w v) s = .next t ∧ lastAnswer a t = .done ∧
       (live → t.mem = s.mem ∧ t.rbit (.cw .STAT) 0 7 = true ∧ RegsBut [(.cw .STAT, 0)] s t) ∧
       (¬live → carWord t p w.val = v ∧ RegsBut [] s t ∧
         ∀ x, x < carAddr p w.val ∨ carAddr p w.val + 4 ≤ x → t.readByte x = s.readByte x)) ∧
  (∀ (n : Fin 16) (i : Fin 4) (v low : Word) (qual : Bool) (rest : List PortWord) (s : State),
     let r := s.coach.trains[n]
     s.coach.loader.hand = none → r.subst = none → takeData r.outStamp[i] (dropMarks r.outq[i]) = some (v, low, qual, rest) →
     ∃ (st : Stamp) (t : State), exec (.outletWordRelease n i) s = .next t ∧ stLo st = low ∧ sinceTicks st s.now < 2 ^ 32 ∧
       (t.coach.trains[n]).outq[i] = rest ∧ (t.coach.trains[n]).lastRel[i] = some st ∧
       (∀ k : Fin 16, k ≠ n → t.coach.trains[k] = s.coach.trains[k]) ∧ t.coach.cars = s.coach.cars ∧ t.mem = s.mem ∧
       ((r.outlets[i]).getLsbD 16 = false → (r.outlets[i]).getLsbD 17 = false → t.merger = s.merger) ∧
       ((r.outlets[i]).getLsbD 16 = true → ∃ q ∈ t.merger.arriving, q.typ = tMeasure ∧ q.source = 0x20 + n.val ∧
         q.stamp = st ∧ q.body = [at_ i.val 30 ||| at_ (b2n qual) 29 ||| at_ (b2n (r.state == .warming)) 28, v]) ∧
       ((r.outlets[i]).getLsbD 17 = false → t.slots = s.slots ∧ RegsBut [] s t) ∧
       (r.state = .warming → i = 0 → r.wleft ≠ 0 → (t.coach.trains[n]).wleft = r.wleft - 1 ∧
         (t.coach.trains[n]).state = (if r.wleft = 1 then .running else .warming)) ∧
       (r.state ≠ .warming ∨ i ≠ 0 ∨ r.wleft = 0 → (t.coach.trains[n]).wleft = r.wleft ∧ (t.coach.trains[n]).state = r.state))

/-- R174, R181, R182, R193, R194 and R615.
Where the rules leave it open, a clause follows the model's choice (log entries 42 and 61). -/
def Obligations.LoaderCommands : Prop :=
  (∀ (a : Accessor) (i : Instr) (v : Word) (cmd src : Nat) (s : State),
    (i, v, cmd, src) ∈ [(Instr.consistVerify a, 0x01, 1, 3), (.applyFullImage a, 0x02, 2, 3), (.applyShuntImage a false, 0x03, 3, 3),
      (.applyShuntImage a true, 0x23, 3, 3), (.applySlot a 0, 0x04, 4, 1), (.applySlot a 1, 0x14, 4, 2)] →
    WriteReaches a (.cw .LDCMD) v s →
    (s.coach.loader.phase = .idle → (s.coach.loader.staged = true → cmd = 1 ∨ cmd = 4) →
      ∃ t, exec i s = .next t ∧ lastAnswer a t = .done ∧ t.coach.loader.phase = .checking ∧ t.coach.loader.cmd = cmd ∧
        t.coach.loader.started = s.now ∧ t.coach.loader.source = src ∧
        t.coach.loader.locked = (s.coach.loader.locked || decide (cmd ≠ 4)) ∧
        t.coach.loader.staged = s.coach.loader.staged ∧ t.coach.trains = s.coach.trains ∧ t.coach.cars = s.coach.cars ∧
        RegsBut [] s t ∧ PartsBut [.acc, .coach] s t) ∧
    (s.coach.loader.phase = .idle → s.coach.loader.staged = true → RegFile.wf s.regs →
      cmd = 2 ∧ (unpack (stagedBytes s)).full = false ∨ cmd = 3 ∧ (unpack (stagedBytes s)).full = true →
      ∃ t, exec i s = .next t ∧ lastAnswer a t = .done ∧ t.coach.loader.phase = .idle ∧ t.coach.loader.result = 9 ∧
        t.coach.loader.locked = false ∧ t.coach.loader.staged = false ∧ t.rbit (.cw .LDSTAT) 0 2 = true ∧
        t.coach.trains = s.coach.trains ∧ t.coach.cars = s.coach.cars ∧ RegsBut [(.cw .LDSTAT, 0)] s t) ∧
    (s.coach.loader.phase ≠ .idle → RegFile.wf s.regs →
      ∃ t, exec i s = .next t ∧ lastAnswer a t = .done ∧ t.coach.loader = { s.coach.loader with result := 10 } ∧
        t.rbit (.cw .LDSTAT) 0 2 = true ∧ t.coach.trains = s.coach.trains ∧ t.coach.cars = s.coach.cars ∧
        t.lanes = s.lanes ∧ t.slots = s.slots ∧ RegsBut [(.cw .LDSTAT, 0)] s t)) ∧
  (∀ (a : Accessor) (s : State), RegFile.wf s.regs → WriteReaches a (.cw .LDCMD) 5 s →
    (s.coach.loader.phase = .checking → ∃ t, exec (.consistAbort a) s = .next t ∧ lastAnswer a t = .done ∧
      t.coach.loader.phase = .idle ∧ t.coach.loader.result = 13 ∧ t.coach.loader.locked = false ∧
      t.coach.loader.staged = false ∧ t.rbit (.cw .LDSTAT) 0 2 = true ∧ t.coach.trains = s.coach.trains ∧
      t.coach.cars = s.coach.cars ∧ RegsBut [(.cw .LDSTAT, 0)] s t) ∧
    (s.coach.loader.phase = .idle → ∃ t, exec (.consistAbort a) s = .next t ∧ lastAnswer a t = .done ∧
      t.coach.loader = { s.coach.loader with locked := false, staged := false } ∧ t.coach.trains = s.coach.trains ∧
      t.coach.cars = s.coach.cars ∧ RegsBut [] s t ∧ PartsBut [.acc, .coach] s t) ∧
    (s.coach.loader.phase = .stopping ∨ s.coach.loader.phase = .loading →
      exec (.consistAbort a) s = .next (s.answer a .done))) ∧
  (∀ (s : State), RegFile.wf s.regs → s.coach.loader.phase = .checking →
    let l := s.coach.loader
    let code := checkImage (jobBytes s) (jobLength s) l.byHandover s
    (code ≠ 0 → ∃ t, exec .consistCheckDone s = .next t ∧ t.coach.loader.phase = .idle ∧ t.coach.loader.result = code ∧
      t.rbit (.cw .LDSTAT) 0 2 = true ∧ t.coach.trains = s.coach.trains ∧ t.coach.cars = s.coach.cars ∧
      RegsBut [(.cw .LDSTAT, 0)] s t ∧ PartsBut [.coach, .safety, .ic, .tw, .host] s t ∧
      (l.cmd = 4 → ∃ e ∈ t.safety.pending, e.code = 0x401)) ∧
    (code = 0 → l.cmd = 1 → ∃ t, exec .consistCheckDone s = .next t ∧ t.coach.loader.phase = .idle ∧
      t.coach.loader.result = 0 ∧ t.coach.loader.staged = true ∧ t.coach.loader.locked = l.locked ∧
      t.rbit (.cw .LDSTAT) 0 1 = true ∧ t.coach.trains = s.coach.trains ∧ t.coach.cars = s.coach.cars ∧
      RegsBut [(.cw .LDSTAT, 0)] s t) ∧
    (code = 0 → l.cmd = 2 ∨ l.cmd = 4 → (unpack (jobBytes s)).full = true → l.hand = none →
      (∀ n : Fin 16, (s.coach.trains[n]).subst = none) →
      ∃ t, exec .consistCheckDone s = .next t ∧ t.coach.loader.phase = .stopping ∧
        t.coach.loader.image = some (unpack (jobBytes s)) ∧ t.reg (.ln .ENABLE) = 0 ∧ t.coach.cars = s.coach.cars ∧
        ∀ n : Fin 16, (t.coach.trains[n]).state =
          (if ((s.coach.trains[n]).state = .running ∨ (s.coach.trains[n]).state = .warming) ∧ (s.coach.trains[n]).starting = false
           then .draining else (s.coach.trains[n]).state))) ∧
  ∀ (a : Accessor) (length : Bool) (v : Word) (s : State), RegFile.wf s.regs →
    let r : CwReg := if length then .STGLEN else .STGBASE
    WriteReaches a (.cw r) v s →
    let base := if length then (s.reg (.cw .STGBASE)).toNat else v.toNat / 4096 * 4096
    let len := if length then v.toNat % 524288 else (s.reg (.cw .STGLEN)).toNat % 524288
    let free : Prop := 0x20000000 ≤ base ∧ base < 0x20180000 ∧ base + len ≤ 0x20180000 ∧ len ≤ 262144 ∧
      ∀ b ∈ [6, 7, 9, 10, 11], base + max len 1 ≤ 0x20000000 + 0x20000 * b ∨ 0x20000000 + 0x20000 * (b + 1) ≤ base
    ∃ t, exec (.stagingConfigWrite a length v) s = .next t ∧ lastAnswer a t = .done ∧ RegsBut [(.cw r, 0)] s t ∧
      PartsBut [.acc] s t ∧
      (s.coach.loader.staged = false → s.coach.loader.phase = .idle → free →
        t.reg (.cw r) = (if length then (s.reg (.cw r) &&& 0xFFF80000) ||| (v &&& 0x7FFFF)
          else (s.reg (.cw r) &&& 0xFFF) ||| (v &&& 0xFFFFF000))) ∧
      (s.coach.loader.staged = true ∨ s.coach.loader.phase ≠ .idle ∨ ¬free → t.reg (.cw r) = s.reg (.cw r))

/-- R186 steps 2 to 4 and R189 steps 3 and 4.
Where the rules leave it open, a clause follows the model's choice (log entries 19, 23, 61 and 62). -/
def Obligations.LoadsAndShunts : Prop :=
  let written (x : TrainImage) (r : Train) : Prop :=
    r.state = .loading ∧ r.head.val = x.head % 64 ∧ r.settle = x.settle ∧ (∀ k : Fin 64, k ∈ r.members ↔ x.members.testBit k.val)
  (∀ (im : Image) (s : State), Memory.wf s.mem → s.coach.loader.phase = .stopping → s.coach.loader.image = some im → im.full = true →
    (∀ n : Fin 16, trainAtRest s.coach.trains[n] = true) → (im.trains.map (fun x => x.num)).Nodup → (im.cars.map (fun c => c.car)).Nodup →
    ∃ t, exec .fullLoadTrainsStopped s = .next t ∧ t.coach.loader.phase = .loading ∧ t.coach.loader.image = some im ∧
      (∀ x ∈ im.trains, written x t.coach.trains[x.num]) ∧
      (∀ n : Fin 16, (∀ x ∈ im.trains, x.num ≠ n) → (t.coach.trains[n]).state = .empty) ∧
      (∀ c ∈ im.cars, ∀ x ∈ im.trains, (∀ y ∈ im.trains, y.members.testBit c.car.val → y = x) → x.members.testBit c.car.val = true →
        let home : Fin 68 := Fin.ofNat 68 c.car.val
        (s.coach.cars[home]).cond ≠ .fenced → (s.coach.cars[home]).cond ≠ .retesting →
        (∀ k : Fin 64, k ≠ c.car → s.coach.serve[k] ≠ some home) →
        t.coach.serve[c.car] = some home ∧ (t.coach.cars[home]).cond = .serving ∧ (t.coach.cars[home]).train = x.num ∧
        ∀ i < 64, (t.coach.cars[home]).prog.getD i 0 = c.prog.getD i 0xFC00000000000000)) ∧
  (∀ (im : Image) (s : State), RegFile.wf s.regs → s.coach.loader.phase = .loading → s.coach.loader.image = some im →
    im.autostart = false → im.lanes = [] → s.coach.loader.hand = none →
    (∀ x ∈ im.trains, im.trainMask.testBit x.num.val) →
    ∃ t, (if im.full then exec .fullLoadWritten s = .next t else exec .inPlaceShuntLoaded s = .next t) ∧
      t.coach.loader.phase = .idle ∧ t.coach.loader.result = 0 ∧ t.coach.loader.cacheValid = true ∧
      t.rbit (.cw .LDSTAT) 0 1 = true ∧ t.reg (.cw .ACTID) = im.ident ∧ t.reg (.cw .ACTSER) = im.serial ∧
      (im.full = true → t.reg (.cw .ACTSRC) = BitVec.ofNat 32 s.coach.loader.source) ∧
      (im.full = false → t.rbit (.cw .ACTSRC) 0 31 = true) ∧
      ∀ n : Fin 16,
        (im.trainMask.testBit n.val = true → (s.coach.trains[n]).state = .loading →
          (t.coach.trains[n]).state = (if trainUnfit s n then .faulted else .ready)) ∧
        (im.trainMask.testBit n.val = false → t.coach.trains[n] = s.coach.trains[n])) ∧
  ∀ (im : Image) (s : State), s.coach.loader.phase = .stopping → s.coach.loader.image = some im → im.full = false →
    (∀ n : Fin 16, im.trainMask.testBit n.val = true → trainAtRest s.coach.trains[n] = true) →
    (∀ x ∈ im.trains, im.trainMask.testBit x.num.val) → (im.trains.map (fun x => x.num)).Nodup →
    ∃ t, exec .inPlaceShuntStopped s = .next t ∧ t.coach.loader.phase = .loading ∧
      (∀ x ∈ im.trains, written x t.coach.trains[x.num]) ∧
      (∀ n : Fin 16, im.trainMask.testBit n.val = false → t.coach.trains[n] = s.coach.trains[n]) ∧ t.lanes = s.lanes

/-- R190 and R191.
Where the rules leave it open, a clause follows the model's choice (log entry 61). -/
def Obligations.Handovers : Prop :=
  (∀ (h : Handover) (s : State), s.coach.loader.hand = some h → h.passed = false → (s.coach.trains[h.m]).state = .loading →
    (s.coach.trains[h.m]).starting = false → trainUnfit s h.m = false →
    ∃ t, exec .handoverStagingLoaded s = .next t ∧
      t.coach.trains[h.m] = { s.coach.trains[h.m] with state := .ready, starting := true, stopHeld := false } ∧
      (∀ n : Fin 16, n ≠ h.m → t.coach.trains[n] = s.coach.trains[n]) ∧ t.coach.cars = s.coach.cars ∧ RegsBut [] s t ∧
      PartsBut [.coach] s t) ∧
  (∀ (h : Handover) (i : Fin 4) (v low : Word) (qual : Bool) (rest : List PortWord) (s : State), RegFile.wf s.regs →
    let r := s.coach.trains[h.m]
    s.coach.loader.hand = some h → h.passed = false → h.n ≠ h.m → r.state = .warming → r.subst = none →
    takeData r.outStamp[i] (dropMarks r.outq[i]) = some (v, low, qual, rest) →
    ∃ t, exec (.outletWordRelease h.m i) s = .next t ∧ t.merger = s.merger ∧
      (i ≠ 0 ∨ 1 < r.wleft → (t.coach.trains[h.m]).state = .warming ∧ t.coach.trains[h.n] = s.coach.trains[h.n]) ∧
      (i = 0 → r.wleft = 1 →
        (t.coach.trains[h.n]).state = .running ∧ (t.coach.trains[h.n]).members = r.members ∧
        (t.coach.trains[h.n]).outlets = r.outlets ∧ (t.coach.trains[h.n]).lastRel = (s.coach.trains[h.n]).lastRel ∧
        (t.coach.trains[h.m]).members = (s.coach.trains[h.n]).members ∧
        (t.coach.trains[h.m]).state = (if (s.coach.trains[h.n]).state = .faulted then .faulted else .draining) ∧
        t.reg (.cw .SHSTAMP) = low ∧
        (∀ p : Fin 68, (s.coach.cars[p]).cond = .serving → (s.coach.cars[p]).train = h.m → (t.coach.cars[p]).train = h.n) ∧
        ∃ g : Handover, t.coach.loader.hand = some g ∧ g.passed = true ∧ g.n = h.n ∧ g.m = h.m ∧ stLo g.sw = low ∧ g.atE = s.now)) ∧
  (∀ (h : Handover) (s : State), RegFile.wf s.regs → s.coach.loader.hand = some h → h.passed = true →
    (∀ i : Fin 4, (s.coach.trains[h.m]).outlets[i].getLsbD 31 = true → h.oldDone[i] = true) ∨ 9600 ≤ sinceTicks h.atE s.now →
    ∃ t, exec .handoverOldStopped s = .next t ∧ (t.coach.trains[h.m]).state = .empty ∧ (t.coach.trains[h.m]).members = [] ∧
      (∀ n : Fin 16, n ≠ h.m → t.coach.trains[n] = s.coach.trains[n]) ∧
      (∀ p : Fin 68, (s.coach.cars[p]).cond = .serving → (s.coach.cars[p]).train = h.m → (t.coach.cars[p]).cond = .idle) ∧
      t.coach.loader.phase = .idle ∧ t.coach.loader.hand = none ∧ t.coach.loader.result = 0 ∧
      t.rbit (.cw .LDSTAT) 0 1 = true ∧ t.merger = s.merger ∧ ∃ e ∈ t.safety.pending, e.code = 0x402) ∧
  ∀ (h : Handover) (s : State), RegFile.wf s.regs → s.coach.loader.hand = some h → h.passed = false →
    96000 * ((s.reg (.cw .SHCTRL)).toNat / 65536) ≤ sinceTicks h.e0 s.now →
    ∃ t, exec .handoverTimeout s = .next t ∧ (t.coach.trains[h.m]).state = .empty ∧
      (∀ n : Fin 16, n ≠ h.m → t.coach.trains[n] = s.coach.trains[n]) ∧ t.coach.loader.phase = .idle ∧
      t.coach.loader.hand = none ∧ t.coach.loader.result = 12 ∧ t.rbit (.cw .LDSTAT) 0 2 = true ∧ t.merger = s.merger

/-- R201 and R204.
Where the rules leave it open, a clause follows the model's choice (log entry 17). -/
def Obligations.SlotCommands : Prop :=
  ∀ (via : SlotVia) (d : Fin 32) (s : State), RegFile.wf s.regs → Unranked d s →
    let x := s.slots[d]
    (∀ back : Bool, SlotReached (1 + b2n back) 0 d s via →
      let i := if back then Instr.slotRev via else .slotFwd via
      (SlotAllowed d s via → x.mstate = .idle ∨ x.mstate = .coast →
        ∃ t, exec i s = .next t ∧ (t.slots[d]).mstate = (if back then .runRev else .runFwd) ∧ (t.slots[d]).backward = back ∧
          (t.slots[d]).first = true ∧ (t.slots[d]).k = 0 ∧ (t.slots[d]).words = 0 ∧ (t.slots[d]).pos = x.pos ∧
          (t.slots[d]).owner = x.owner ∧ SlotPublishes d (b2n back) s t ∧ SlotEvents d (1 + b2n back) (viaCode via) s t ∧
          SlotFrame d s t) ∧
      (¬SlotAllowed d s via ∨ ¬(x.mstate = .idle ∨ x.mstate = .coast) → ∃ t, exec i s = .next t ∧ SlotRejects d s t)) ∧
    (SlotReached 3 0 d s via → SlotAllowed d s via →
      (x.mstate = .runFwd ∨ x.mstate = .runRev ∨ x.mstate = .reverse →
        ∃ t, exec (.slotOff via) s = .next t ∧ (t.slots[d]).mstate = .coast ∧ (t.slots[d]).pos = x.pos ∧
          (t.slots[d]).owner = x.owner ∧ SlotPublishes d 2 s t ∧ SlotEvents d 3 (viaCode via) s t ∧ SlotFrame d s t) ∧
      (x.mstate = .idle ∨ x.mstate = .coast ∨ x.mstate = .tripped ∨ x.mstate = .degraded →
        ∃ t, exec (.slotOff via) s = .next t ∧ (t.slots[d]).mstate = x.mstate ∧ (t.slots[d]).pos = x.pos ∧ SlotFrame d s t ∧
          RegsBut [] s t ∧ PartsBut [.acc, .slots] s t)) ∧
    (SlotReached 3 0 d s via → x.owner = 1 → (∀ n e, via ≠ .service n e) → x.mstate = .runFwd →
      ∃ t, exec (.slotOff via) s = .next t ∧ (t.slots[d]).mstate = .coast ∧ (t.slots[d]).owner = 0) ∧
    (∀ v : BitVec 16, SlotReached 4 v.toNat d s via →
      (SlotAllowed d s via → x.mstate ≠ .degraded →
        ∃ t, exec (.slotSpeed via v) s = .next t ∧ (t.slots[d]).mstate = x.mstate ∧ (t.slots[d]).pos = x.pos ∧ SlotFrame d s t ∧
          (slotOn s d = false ∨ s.rfld (.ds .ACT) d.val 31 30 = 0 → RegsBut [] s t ∧ PartsBut [.acc, .slots] s t) ∧
          (slotOn s d = true → s.rfld (.ds .ACT) d.val 31 30 = 1 →
            t.reg (.tm .CMPA) (s.rfld (.ds .ACT) d.val 23 20) = v.setWidth 32) ∧
          (slotOn s d = true → s.rfld (.ds .ACT) d.val 31 30 = 2 →
            t.drawbar = (slotCommit (ix 2 (s.rfld (.ds .ACT) d.val 29 29)) (ix 32 (s.rfld (.ds .ACT) d.val 28 24)) 4 v.toNat s).drawbar)) ∧
      (¬SlotAllowed d s via ∨ x.mstate = .degraded → ∃ t, exec (.slotSpeed via v) s = .next t ∧ SlotRejects d s t)) ∧
    (SlotReached 5 0 d s via →
      (SlotAllowed d s via → x.mstate = .tripped →
        ∃ t, exec (.slotClear via) s = .next t ∧ (t.slots[d]).mstate = .idle ∧ (t.slots[d]).pos = x.pos ∧ SlotFrame d s t ∧
          RegsBut [] s t ∧ PartsBut [.acc, .slots] s t) ∧
      (¬SlotAllowed d s via ∨ x.mstate ≠ .tripped → ∃ t, exec (.slotClear via) s = .next t ∧ SlotRejects d s t))

/-- R202, R206, R208, R215 and R222.
Where the rules leave it open, a clause follows the model's choice (log entries 16 and 63). -/
def Obligations.SlotPinchAndTimes : Prop :=
  (∀ (d : Fin 32) (s : State), RegFile.wf s.regs → Unranked d s → (s.slots[d]).owner = 0 →
    let x := s.slots[d]
    let en := s.rbit (.ds .PINCH) d.val 31
    let dir := s.rbit (.ds .PINCH) d.val 30
    let running : Prop := x.mstate = .runFwd ∨ x.mstate = .runRev
    let guarded : Prop := x.mstate = (if dir then .runRev else .runFwd)
    (x.mstate = .reverse → exec (.slotPinch d) s = .next s) ∧
    (en = true → guarded → ∃ t, exec (.slotPinch d) s = .next t ∧ (t.slots[d]).mstate = .reverse ∧
      (t.slots[d]).pinchPos = x.pos ∧ (t.slots[d]).pinchAt = s.now ∧ (t.slots[d]).first = true ∧ (t.slots[d]).k = 0 ∧
      (t.slots[d]).pos = x.pos ∧ t.rbit (.ds .STAT) d.val 4 = true ∧ SlotEvents d 9 0 s t ∧ SlotFrame d s t ∧
      (slotOn s d = true → t.rbit (.ds .EVENTS) 0 d.val = true ∧
        ∃ q : Publication, q ∈ t.router.inflight ∧ q.producer = 3 ∧ q.inst = d.val ∧ q.output = (if dir then 0 else 1))) ∧
    (en = true → running → ¬guarded → ∃ t, exec (.slotPinch d) s = .next t ∧ (t.slots[d]).mstate = .coast ∧
      t.rbit (.ds .STAT) d.val 4 = true ∧ SlotEvents d 9 2 s t ∧ SlotFrame d s t) ∧
    (x.mstate ≠ .reverse → ¬(en = true ∧ running) → ∃ t, exec (.slotPinch d) s = .next t ∧ SlotEvents d 9 1 s t ∧ SlotFrame d s t ∧
      (t.slots[d]).mstate = (if x.mstate = .runFwd ∨ x.mstate = .runRev then .coast else x.mstate) ∧
      (slotOn s d = true → ∃ q : Publication, q ∈ t.router.inflight ∧ q.producer = 3 ∧ q.inst = d.val ∧ q.output = 2)) ∧
    (x.mstate = .reverse →
      let n := (x.pos.toInt - x.pinchPos.toInt).natAbs
      let back := s.rfld (.ds .PINCH) d.val 29 16
      (back ≤ n → ∃ t, exec (.reverseEnd d) s = .next t ∧ (t.slots[d]).mstate = .coast ∧ SlotPublishes d 2 s t ∧
        t.merger = s.merger ∧ SlotFrame d s t) ∧
      (n < back → 96000 * s.rfld (.ds .PINCH) d.val 15 0 ≤ sinceTicks x.pinchAt s.now →
        ∃ t, exec (.reverseEnd d) s = .next t ∧ (t.slots[d]).mstate = .coast ∧ SlotEvents d 10 (min n 0xFFFF) s t ∧
          SlotFrame d s t))) ∧
  (∀ (d : Fin 32) (s : State), RegFile.wf s.regs → Unranked d s → s.prRun.state ≠ 1 → (s.slots[d]).mstate = .coast →
    96000 * s.rfld (.ds .SPEED) d.val 15 0 ≤ sinceTicks (s.slots[d]).motion s.now →
    let x := s.slots[d]
    let tcoast := s.rfld (.ds .RIPCFG) d.val 10 0
    let c : Nat := if s.rfld (.ds .CFG) d.val 30 28 = 0 ∧ 2 ≤ x.words
      then (96000 * tcoast + x.offPavg) / (2 * x.offPavg) - x.coastM else 0
    0 < x.offPavg →
    ∃ t, exec (.coastEnd d) s = .next t ∧ (t.slots[d]).mstate = .idle ∧
      (t.slots[d]).pos = x.pos + BitVec.ofInt 32 (if x.backward then -(c : Int) else c) ∧ SlotEvents d 4 (c % 65536) s t ∧
      SlotFrame d s t ∧ RegsBut [] s t ∧
      (slotOn s d = true → ∃ r ∈ t.merger.arriving, r.typ = tMeasure ∧ r.source = 0x40 + d.val ∧
        fld (r.body.getD 0 0) 26 23 = 15 ∧ r.body.getD 1 0 = (t.slots[d]).pos)) ∧
  (∀ (d : Fin 32) (s : State), slotOn s d = true → 0 < s.rfld (.ds .REPORT) d.val 31 16 →
    96000 * s.rfld (.ds .REPORT) d.val 31 16 ≤ sinceTicks (s.slots[d]).reportAt s.now →
    ∃ t, exec (.reportTick d) s = .next t ∧ (t.slots[d]).due = s.rfld (.ds .REPORT) d.val 14 0 ∧
      (t.slots[d]).pos = (s.slots[d]).pos ∧ SlotFrame d s t ∧ RegsBut [] s t ∧ PartsBut [.slots, .merger] s t ∧
      (s.rbit (.ds .REPORT) d.val 15 = true → ∃ r ∈ t.merger.arriving, r.typ = tMeasure ∧ r.source = 0x40 + d.val ∧
        fld (r.body.getD 0 0) 26 23 = 15 ∧ r.body.getD 1 0 = (s.slots[d]).pos)) ∧
  ∀ (a : Accessor) (v : Word) (s : State), WriteReaches a (.ds .POSL) v s →
    let x := s.slots[selSlot a s]
    exec (.positionWrite a v) s = .next (({ s with slots := s.slots.set (selSlot a s).val { x with
      pos := v, valid := true, doubt := false, corr := 0, taken := false,
      dirty := x.dirty || s.rbit (.ds .CFG) (selSlot a s).val 27 } }).answer a .done)

/-- R205.
R225 to R228.
Where the rules leave it open, a clause follows the model's choice (log entries 15, 63 and 64). -/
def Obligations.RippleCountAndCoolantLoop : Prop :=
  (∀ (d : Fin 32) (corr : Bool) (stamp : Stamp) (s : State), RegFile.wf s.regs →
     let x := s.slots[d]
     let t := countWord d corr 1 stamp s
     let y := t.slots[d]
     let dt := (stLo stamp - x.sLast).toNat
     let p := x.pAvg
     let lo := s.rfld (.ds .RIPCFG) d.val 31 24
     let hi := s.rfld (.ds .RIPCFG) d.val 23 16
     let nmax := s.rfld (.ds .RIPCFG) d.val 15 12
     let dir : Int := if x.mstate = .runFwd then 1 else if x.mstate = .coast ∧ x.backward = false then 1 else -1
     let moves (n : Nat) : Prop := y.pos = x.pos + BitVec.ofInt 32 (dir * n)
     let next (iv : Nat) : Nat := ((p : Int) + Int.tdiv ((iv : Int) - p) 8).toNat
     (x.mstate = .idle ∨ x.mstate = .tripped ∨ x.mstate = .degraded →
       y = x ∧ t.rfld (.ds .RIPSTAT) d.val 7 0 = min 255 (s.rfld (.ds .RIPSTAT) d.val 7 0 + 1) ∧
       RegsBut [(.ds .RIPSTAT, d.val)] s t) ∧
     (x.mstate = .runFwd ∨ x.mstate = .runRev ∨ x.mstate = .reverse ∨ x.mstate = .coast →
       (x.first = true → moves 1 ∧ y.first = false ∧ y.sLast = stLo stamp ∧ y.k = x.k ∧ y.pAvg = p) ∧
       (x.first = false → x.k = 0 → moves 1 ∧ y.sLast = stLo stamp ∧ y.k = 1 ∧ y.pAvg = dt) ∧
       (x.first = false → 0 < x.k → x.k < 4 ∨ corr = false → moves 1 ∧ y.sLast = stLo stamp ∧ y.k = x.k + 1 ∧ y.pAvg = next dt) ∧
       (x.first = false → 4 ≤ x.k → corr = true → 0 < p →
         (dt < p * lo / 16 → y.pos = x.pos ∧ y.sLast = x.sLast ∧ y.pAvg = p ∧ y.k = x.k ∧
           t.rfld (.ds .RIPSTAT) d.val 15 8 = min 255 (s.rfld (.ds .RIPSTAT) d.val 15 8 + 1)) ∧
         (p * lo / 16 ≤ dt → dt ≤ p * hi / 16 →
           moves 1 ∧ y.sLast = stLo stamp ∧ y.k = x.k + 1 ∧ y.pAvg = next dt ∧ y.doubt = x.doubt) ∧
         (p * lo / 16 ≤ dt → p * hi / 16 < dt →
           let n := (2 * dt + p) / (2 * p)
           (nmax + 1 < n → moves 1 ∧ y.doubt = true ∧ y.pAvg = next dt ∧ SlotEvents d 16 (min (dt / p) 0xFFFF) s t) ∧
           (1 ≤ n → n ≤ nmax + 1 → moves n ∧ y.doubt = x.doubt ∧ y.pAvg = next (dt / n) ∧
             t.rfld (.ds .RIPSTAT) d.val 31 16 = min 65535 (s.rfld (.ds .RIPSTAT) d.val 31 16 + (n - 1))))))) ∧
  (let service (code : Nat) (t : State) : Prop := ∃ r ∈ t.merger.arriving, r.typ = tService ∧ r.source = 0x71 ∧
     fld (r.body.getD 0 0) 31 28 = 1 ∧ fld (r.body.getD 0 0) 27 20 = code
   (∀ (a : Accessor) (v : Word) (s : State), RegFile.wf s.regs → WriteReaches a (.ds .CLCTL) v s →
     let was := s.rbit (.ds .CLCTL) 0 31
     ∃ t, exec (.coolantEnable a v) s = .next t ∧ lastAnswer a t = .done ∧ t.rbit (.ds .CLCTL) 0 31 = v.getLsbD 31 ∧
       t.rbit (.ds .CLCTL) 0 30 = (if was then s.rbit (.ds .CLCTL) 0 30 else v.getLsbD 30) ∧ RegsBut [(.ds .CLCTL, 0)] s t ∧
       PartsBut [.acc, .slots, .loop, .merger] s t ∧
       (was = false → v.getLsbD 31 = true → t.loop.iAcc = 0 ∧ t.loop.u = 0 ∧ t.loop.lost = 0 ∧ t.loop.stepAt = s.now ∧
         service 1 t ∧ ∀ d ∈ loopSlots s, (t.slots[d]).owner = (if (s.slots[d]).owner = 0 then 1 else (s.slots[d]).owner)) ∧
       (was = true → v.getLsbD 31 = false → service 7 t ∧ ∀ d : Fin 32, (t.slots[d]).owner ≠ 1) ∧
       (was = v.getLsbD 31 → t.loop = s.loop ∧ t.slots = s.slots ∧ t.merger = s.merger)) ∧
   (∀ (s : State), RegFile.wf s.regs → s.rbit (.ds .CLCTL) 0 31 = true → s.clk.busOn = true →
     96000 * s.rfld (.ds .CLSET) 0 15 0 ≤ ticks s.loop.stepAt s.now →
     (∀ x, hottest s = some x →
       let e : Int := x - ((s.reg (.ds .CLSET)).extractLsb 31 16).toInt
       let up := Int.tdiv ((s.rfld (.ds .CLGAIN) 0 31 16 : Int) * e) 100
       let di := if s.rbit (.ds .CLCTL) 0 30 then 0
         else Int.tdiv ((s.rfld (.ds .CLGAIN) 0 15 0 : Int) * e * (s.rfld (.ds .CLSET) 0 15 0 : Int)) 100
       let u := up + Int.tdiv (s.loop.iAcc + di) 1000
       let acc := if (u < 1000 ∨ di < 0) ∧ (u > 0 ∨ di > 0) then s.loop.iAcc + di else s.loop.iAcc
       ∃ t, exec .coolantStep s = .next t ∧ t.loop.iAcc = acc ∧
         t.loop.u = max 0 (min 1000 (up + Int.tdiv acc 1000)) ∧ t.loop.tmax = x ∧ t.loop.lost = 0 ∧ t.loop.stepAt = s.now ∧
         t.mem = s.mem ∧ t.lanes = s.lanes ∧ (10 ≤ (t.loop.u - s.loop.stepU).natAbs → service 2 t)) ∧
     (hottest s = none → ∃ t, exec .coolantStep s = .next t ∧ t.loop.lost = s.loop.lost + 1 ∧ t.loop.stepAt = s.now ∧
       t.loop.iAcc = s.loop.iAcc ∧ (2 ≤ s.loop.lost → t.loop.u = 1000 ∧ service 6 t) ∧
       (s.loop.lost < 2 → t.loop.u = s.loop.u))) ∧
   ∀ (k : Fin 2) (d : Fin 32) (s : State), clSlot s .CLDRV k.val = some d → (s.loop.pumps[k]).stopped = true →
     (s.loop.pumps[k]).fault = false → s.rbit (.ds .CLCTL) 0 30 = false → s.rbit (.ds .CLCTL) 0 31 = true →
     96000 * 1000 * s.rfld (.ds .CLDRY) 0 31 16 ≤ ticks (s.loop.pumps[k]).at_ s.now →
     ∃ t, exec (.dryRestart k) s = .next t ∧ (t.loop.pumps[k]).stopped = false ∧
       (t.loop.pumps[k]).retries = (s.loop.pumps[k]).retries + 1 ∧ service 4 t ∧ SlotFrame d s t ∧
       ((s.slots[d]).mstate = .idle ∨ (s.slots[d]).mstate = .coast → (s.slots[d]).owner = 0 ∨ (s.slots[d]).owner = 1 →
         (t.slots[d]).mstate = .runFwd))

/-- R225 and R229 to R233.
Where the rules leave it open, a clause follows the model's choice (log entry 64). -/
def Obligations.RecallAndHoming : Prop :=
  let service (n code : Nat) (t : State) : Prop := ∃ r ∈ t.merger.arriving, r.typ = tService ∧ r.source = 0x70 + n ∧
    fld (r.body.getD 0 0) 31 28 = n ∧ fld (r.body.getD 0 0) 27 20 = code
  (∀ (a : Accessor) (mem : Fin 4) (s : State), RegFile.wf s.regs →
    WriteReaches a (.ds .PRCTL) (at_ 1 31 ||| at_ mem.val 28) s →
    ∃ t, exec (.recallGo a mem) s = .next t ∧ lastAnswer a t = .done ∧ t.rbit (.ds .PRCTL) 0 31 = true ∧
      t.rfld (.ds .PRCTL) 0 29 28 = mem.val ∧ t.slots = s.slots ∧ t.prRun = s.prRun ∧ RegsBut [(.ds .PRCTL, 0)] s t) ∧
  (∀ (a : Accessor) (s : State), RegFile.wf s.regs →
    WriteReaches a (.ds .FHCTL) (at_ 1 31 ||| (s.reg (.ds .FHCTL) &&& 0x30000000)) s →
    ∃ t, exec (.homingGo a) s = .next t ∧ lastAnswer a t = .done ∧ t.rbit (.ds .FHCTL) 0 31 = true ∧ t.slots = s.slots ∧
      t.homing = s.homing ∧ RegsBut [(.ds .FHCTL, 0)] s t) ∧
  (∀ (s : State), RegFile.wf s.regs → s.power.parked[4] = false → s.rbit (.ds .PRCTL) 0 31 = true →
    (∀ e ∈ prEntries s, (s.slots[e.2]).owner = 0 ∨ (s.slots[e.2]).owner = 2) →
    ((∀ e ∈ prEntries s, (s.slots[e.2]).valid = true ∧ (s.slots[e.2]).doubt = false) → prEntries s ≠ [] →
      (∀ e ∈ prEntries s, s.rfld (.ds .PRPAR) 0 31 24 <
        ((s.reg (.ds .PRMEM) (s.rfld (.ds .PRCTL) 0 29 28 * 8 + e.1.val)).toInt - (s.slots[e.2]).pos.toInt).natAbs) →
      ∃ t, exec (.serviceRequestTaken false) s = .next t ∧ t.rbit (.ds .PRCTL) 0 31 = false ∧ t.prRun.state = 1 ∧
        t.prRun.started = s.now ∧ t.prRun.mem = s.rfld (.ds .PRCTL) 0 29 28 ∧ service 2 1 t ∧
        ∀ e ∈ prEntries s, (t.slots[e.2]).owner = 2) ∧
    (∀ e ∈ prEntries s, (s.slots[e.2]).valid = false ∨ (s.slots[e.2]).doubt = true →
      ∃ t, exec (.serviceRequestTaken false) s = .next t ∧ t.rbit (.ds .PRCTL) 0 31 = false ∧ t.prRun.state = 4 ∧
        service 2 8 t ∧ t.slots = s.slots)) ∧
  (∀ (s : State) (e : Fin 8 × Fin 32), RegFile.wf s.regs → s.power.parked[4] = false → s.rbit (.ds .PRCTL) 0 31 = true →
    e ∈ prEntries s → (s.slots[e.2]).owner = 1 ∨ (s.slots[e.2]).owner = 3 →
    ∃ t, exec (.serviceRequestTaken false) s = .next t ∧ t.rbit (.ds .PRCTL) 0 31 = false ∧ service 2 9 t ∧ t.slots = s.slots) ∧
  (∀ (a : Accessor) (s : State), RegFile.wf s.regs → s.prRun.state = 1 →
    (WriteReaches a (.ds .PRCTL) (at_ 1 30 ||| (s.reg (.ds .PRCTL) &&& 0x30000000)) s →
      ∃ t, exec (.recallStop a) s = .next t ∧ lastAnswer a t = .done ∧ t.prRun.state = 3 ∧ t.prRun.code = 7 ∧ service 2 7 t ∧
        ∀ d : Fin 32, (t.slots[d]).owner ≠ 2) ∧
    (96000 * 100 * s.rfld (.ds .PRPAR) 0 15 0 ≤ ticks s.prRun.started s.now →
      ∃ t, exec .recallTimeout s = .next t ∧ t.prRun.state = 3 ∧ t.prRun.code = 6 ∧ service 2 6 t ∧
        ∀ d : Fin 32, (t.slots[d]).owner ≠ 2)) ∧
  (∀ (a : Accessor) (mem : Fin 4) (s : State), RegFile.wf s.regs → s.prRun.state ≠ 1 →
    WriteReaches a (.ds .PRCTL) (at_ 1 27 ||| at_ mem.val 28) s →
    ∃ t, exec (.recallSave a mem) s = .next t ∧ lastAnswer a t = .done ∧ t.slots = s.slots ∧
      ∀ (k : Fin 8) (d : Fin 32), recallSlot s k.val = some d →
        (let good := (s.slots[d]).valid && !(s.slots[d]).doubt;
         t.reg (.ds .PRMEM) (mem.val * 8 + k.val) = (if good then (s.slots[d]).pos else s.reg (.ds .PRMEM) (mem.val * 8 + k.val)) ∧
         (good = false → t.rbit (.ds .PRSTAT) 0 8 = true))) ∧
  (∀ (s : State), RegFile.wf s.regs → s.power.parked[4] = false → s.rbit (.ds .FHCTL) 0 31 = true →
    (∀ d : Fin 32, bit (s.reg (.ds .FHMASK)) d.val = true → (s.slots[d]).owner = 0 ∧ (s.slots[d]).mstate = .idle) →
    s.reg (.ds .FHMASK) ≠ 0 → 0 < s.rfld (.ds .FHPAR) 0 15 12 →
    ∃ t, exec (.serviceRequestTaken true) s = .next t ∧ t.rbit (.ds .FHCTL) 0 31 = false ∧ t.homing.running = true ∧ service 3 1 t ∧
      (∀ d : Fin 32, bit (s.reg (.ds .FHMASK)) d.val = true → (t.slots[d]).owner = 3 ∧
        (t.homing.phase[d] = .seeking → (t.slots[d]).doubt = true) ∧ t.homing.phase[d] ≠ .none) ∧
      ∀ d : Fin 32, bit (s.reg (.ds .FHMASK)) d.val = false → t.slots[d] = s.slots[d]) ∧
  (∀ (a : Accessor) (s : State), RegFile.wf s.regs → s.homing.running = true →
    WriteReaches a (.ds .FHCTL) (at_ 1 30 ||| (s.reg (.ds .FHCTL) &&& 0x30000000)) s →
    ∃ t, exec (.homingStop a) s = .next t ∧ lastAnswer a t = .done ∧ t.homing.running = false ∧ service 3 5 t ∧
      t.rbit (.ds .FHCTL) 0 31 = false ∧ ∀ d : Fin 32, (t.slots[d]).owner ≠ 3) ∧
  (∀ (d : Fin 32) (s : State), s.homing.phase[d] = .seeking → 96000 * 100 * s.rfld (.ds .FHPAR) 0 11 0 ≤ ticks s.homing.since[d] s.now →
    ∃ t, exec (.homingTimeout d) s = .next t ∧ t.homing.phase[d] = .failed ∧ service 3 4 t ∧
      (t.slots[d]).mstate ≠ .runFwd ∧ (t.slots[d]).mstate ≠ .runRev) ∧
  ∀ (d : Fin 32) (s : State), s.power.parked[4] = false → s.rbit (.ds .FHCTL) 0 29 = true → homable s d = true →
    (s.slots[d]).doubt = true → (s.slots[d]).freeDoubt = true → s.homing.running = false → 0 < s.rfld (.ds .FHPAR) 0 15 12 →
    Unranked d s →
    ∃ t, exec (.autoHomingStart (.slot d)) s = .next t ∧ t.homing.running = true ∧ t.homing.phase[d] = .seeking ∧
      (t.slots[d]).owner = 3 ∧ (t.slots[d]).mstate = (if s.rbit (.ds .CFG) d.val 25 then .runFwd else .runRev) ∧
      ∀ e : Fin 32, e ≠ d → t.slots[e] = s.slots[e]

/-- R237, R243, R244, R254 and R255.
Where the rules leave it open, a clause follows the model's choice (log entry 27). -/
def Obligations.RecordsJudgedAndWritten : Prop :=
  (∀ (r : Rec) (rest : List Rec) (s : State), RegFile.wf s.regs → s.merger.arriving = r :: rest →
    let f := front s r.cls
    (r.cls = .sys ∨ stLt r.stamp f = false → ∃ t, exec .recordArrive s = .next t ∧ t.merger.arriving = rest ∧
      t.merger.held = s.merger.held ++ [r] ∧ t.merger.head = s.merger.head ∧ t.merger.seqs = s.merger.seqs ∧
      RegsBut [] s t ∧ PartsBut [.merger] s t) ∧
    (r.cls ≠ .sys → stLt r.stamp f = true → ∃ t g, exec .recordArrive s = .next t ∧ t.merger.arriving = rest ∧
      t.merger.held = s.merger.held ++ [g] ∧ g.typ = tGap ∧ g.source = r.source ∧ g.stamp = f ∧ g.now = true ∧
      fld (g.body.getD 0 0) 31 28 = 6 ∧ g.body.getD 1 0 = stLo r.stamp ∧ g.body.getD 2 0 = stLo (stAdd r.stamp 1) ∧
      t.rfld (.rk .LATE) 0 15 0 = min 65535 (s.rfld (.rk .LATE) 0 15 0 + 1) ∧ t.rbit (.rk .STAT) 0 4 = true ∧
      RegsBut [(.rk .LATE, 0), (.rk .STAT, 0)] s t ∧ PartsBut [.merger, .safety, .ic, .tw] s t)) ∧
  (∀ (r : Rec) (s : State), RegFile.wf s.regs → Memory.wf s.mem → Sparse.rising s.merger.seqs = true → MergerFree s →
    s.merger.held.filter (dueRec s) = [r] →
    (r.body.length + 2 ≤ queueFree s → ∃ t, exec .recordWrite s = .next t ∧ Queues (recWords r (seqOf s r.source)) s t ∧
      seqOf t r.source = (seqOf s r.source + 1) % 4096 ∧ (∀ q, q ≠ r.source → seqOf t q = seqOf s q) ∧
      t.merger.held = s.merger.held.filter (fun x => !(dueRec s x)) ∧ t.merger.overflow = none ∧
      ∀ c : Fin 4,
        (t.merger.cursors[c]).avail = (s.merger.cursors[c]).avail + (if cursorOn s c then r.body.length + 2 else 0) ∧
        (t.merger.cursors[c]).index = (s.merger.cursors[c]).index ∧ (t.merger.cursors[c]).offset = (s.merger.cursors[c]).offset ∧
        (t.rbit (.rk .CnSTAT) c.val 31 = true ↔ s.rbit (.rk .CnSTAT) c.val 31 = true ∨ cursorOn s c = true ∧
          ((s.rfld (.rk .CnWMARK) c.val 16 0 ≠ 0 ∧ s.rfld (.rk .CnWMARK) c.val 16 0 ≤ (t.merger.cursors[c]).avail) ∨
           r.typ ≤ 14 ∧ s.rbit (.rk .CnCTRL) c.val r.typ = true))) ∧
    (queueFree s < r.body.length + 2 → ∃ t o, exec .recordWrite s = .next t ∧ t.merger.overflow = some o ∧ o.records = 1 ∧
      o.words = r.body.length + 2 ∧ o.lo = r.stamp ∧ o.hi = r.stamp ∧ t.merger.head = s.merger.head ∧
      t.merger.seqs = s.merger.seqs ∧ t.mem = s.mem ∧ t.merger.cursors = s.merger.cursors ∧
      t.merger.held = s.merger.held.filter (fun x => !(dueRec s x)) ∧ t.rbit (.rk .STAT) 0 5 = true ∧
      (t.reg (.rk .OVCNT)).toNat = min (2 ^ 32 - 1) ((s.reg (.rk .OVCNT)).toNat + 1))) ∧
  (∀ (x y a b : Rec) (s : State), Memory.wf s.mem → Sparse.rising s.merger.seqs = true → MergerFree s →
    s.merger.held.filter (dueRec s) = [x, y] → x.body.length + y.body.length + 4 ≤ queueFree s →
    (let yFirst : Prop := y.cls = .acq ∧ x.cls ≠ .acq ∨ y.cls = .link ∧ x.cls = .sys ∨
        y.cls = x.cls ∧ (stLt y.stamp x.stamp = true ∨ y.stamp = x.stamp ∧ y.source < x.source)
     (yFirst → a = y ∧ b = x) ∧ (¬yFirst → a = x ∧ b = y)) →
    ∃ t, exec .recordWrite s = .next t ∧
      Queues (recWords a (seqOf s a.source) ++
        recWords b (if a.source = b.source then (seqOf s b.source + 1) % 4096 else seqOf s b.source)) s t) ∧
  ∀ (o : Overflow) (s : State), RegFile.wf s.regs → Memory.wf s.mem → Sparse.rising s.merger.seqs = true →
    s.merger.overflow = some o → mergerWrites s = true → s.rfld (.rk .OVFREE) 0 16 0 ≤ queueFree s → 10 ≤ queueFree s →
    s.merger.head < queueWords →
    ∃ t, exec .overflowExit s = .next t ∧ t.merger.overflow = none ∧ t.merger.held = s.merger.held ∧
      Queues ([header tOverflow 4 0x70 (seqOf s 0x70), stLo s.now, at_ o.records 0, at_ o.cursors 28 ||| at_ o.words 0,
               header tGap 6 0xFF (seqOf s 0xFF), stLo s.now] ++ gapBody 7 0 false false o.lo (stAdd o.hi 1)) s t ∧
      Logs 0x501 1 0xE7 o.records s t

/-- R248, R250, R253 and R277.
Where the rules leave it open, a clause follows the model's choice (log entry 65). -/
def Obligations.CursorsAndCommits : Prop :=
  (∀ (a : Accessor) (c : Fin 4) (v : Word) (s : State), RegFile.wf s.regs → WriteReaches a (.rk .CnCTRL) v s →
    ∃ t, exec (.cursorEnable a c v) s = .next t ∧ lastAnswer a t = .done ∧
      t.reg (.rk .CnCTRL) c.val = ((s.reg (.rk .CnCTRL) c.val &&& ~~~0x80007FFF) ||| (v &&& 0x80007FFF)) ∧
      RegsBut [(.rk .CnCTRL, c.val)] s t ∧ PartsBut [.acc, .merger, .host, .tw] s t ∧ t.merger.head = s.merger.head ∧
      (∀ d : Fin 4, d ≠ c → t.merger.cursors[d] = s.merger.cursors[d]) ∧
      (v.getLsbD 31 = true → cursorOn s c = true → t.merger = s.merger) ∧
      (v.getLsbD 31 = true → cursorOn s c = false → (t.merger.cursors[c]).index = s.merger.head ∧
        (t.merger.cursors[c]).offset = 0 ∧ (t.merger.cursors[c]).avail = 0 ∧
        (t.merger.cursors[c]).high = s.merger.epochHigh) ∧
      (v.getLsbD 31 = false → (t.merger.cursors[c]).index = 0 ∧ (t.merger.cursors[c]).offset = 0 ∧
        (t.merger.cursors[c]).avail = 0 ∧ (t.merger.cursors[c]).high = 0)) ∧
  (∀ (a : Accessor) (c : Fin 4) (v : Word) (s : State), RegFile.wf s.regs → WriteReaches a (.rk .CnACK) v s → 2 ≤ c.val →
    let n := v.toNat % 2 ^ 17
    let x := s.merger.cursors[c]
    let own : Prop := c = 2 ∧ a = .a0 ∨ c = 3 ∧ a = .a1
    (own → x.offset = 0 → 0 < n → n ≤ x.avail → x.avail ≤ queueWords → recLen s x.index = n →
      ∃ t, exec (.cursorAck a c v) s = .next t ∧ lastAnswer a t = .done ∧
        (t.merger.cursors[c]).index = (x.index + n) % queueWords ∧ (t.merger.cursors[c]).offset = 0 ∧
        (t.merger.cursors[c]).avail = x.avail - n ∧ RegsBut [] s t ∧ PartsBut [.acc, .merger] s t ∧
        ∀ d : Fin 4, d ≠ c → t.merger.cursors[d] = s.merger.cursors[d]) ∧
    (¬own ∨ x.avail < n ∨ 0 < n ∧ n < recLen s x.index →
      ∃ t, exec (.cursorAck a c v) s = .next t ∧ lastAnswer a t = .done ∧ t.rbit (.rk .CnSTAT) c.val 29 = true ∧
        RegsBut [(.rk .CnSTAT, c.val)] s t ∧ PartsBut [.acc, .safety, .ic, .tw] s t)) ∧
  (∀ (a : Accessor) (v : Word) (s : State), RegFile.wf s.regs → WriteReaches a (.rk .SWHDR) v s →
    let good : Prop := (a = .a0 ∨ a = .a1 ∨ a = .vane) ∧ fld v 31 26 = 0x0E ∧ 0x71 ≤ fld v 19 12 ∧ fld v 19 12 ≤ 0x73
    (good → ∃ t r, exec (.swRecordCommit a v) s = .next t ∧ lastAnswer a t = .done ∧
      t.merger.arriving = s.merger.arriving ++ [r] ∧ r.cls = .sys ∧ r.typ = 0x0E ∧ r.source = fld v 19 12 ∧ r.stamp = s.now ∧
      r.body = [s.reg (.rk .SWD2) (accU a), s.reg (.rk .SWD3) (accU a)] ∧ RegsBut [] s t ∧ PartsBut [.acc, .merger] s t) ∧
    (¬good → ∃ t, exec (.swRecordCommit a v) s = .next t ∧ lastAnswer a t = .done ∧ t.rbit (.rk .STAT) 0 2 = true ∧
      RegsBut [(.rk .STAT, 0)] s t ∧ PartsBut [.acc, .safety, .ic, .tw] s t)) ∧
  ∀ (a : Accessor) (v : Word) (s : State), RegFile.wf s.regs → WriteReaches a (.rk .HORIZON) v s →
    let n := v.toNat % 2 ^ 18
    (1920 ≤ n → n ≤ 192000 → ∃ t, exec (.horizonWrite a v) s = .next t ∧ lastAnswer a t = .done ∧
      t.rfld (.rk .HORIZON) 0 17 0 = n ∧ (s.merger.holds = [] → acqFront t = s.now - BitVec.ofNat 48 n) ∧
      RegsBut [(.rk .HORIZON, 0)] s t ∧ PartsBut [.acc] s t) ∧
    (n < 1920 ∨ 192000 < n → exec (.horizonWrite a v) s = .next (s.answer a .done))

/-- R267 to R269 and R273.
Where the rules leave it open, a clause follows the model's choice (log entry 41). -/
def Obligations.AlmanacAndWatchdogs : Prop :=
  (∀ (x y e o : AlmEntry) (s : State), RegFile.wf s.regs → Memory.wf s.mem → s.power.vaneOn = true →
    (s.nvm.booting = true → coreHeld s vaneCore = false) →
    s.safety.pending = [x, y] →
    (let yFirst : Prop := stLt y.stamp x.stamp = true ∨ y.stamp = x.stamp ∧ y.source < x.source
     (yFirst → e = y ∧ o = x) ∧ (¬yFirst → e = x ∧ o = y)) →
    let i := (s.reg (.al .WIDX)).toNat % 1024
    let ws : List Word := [stLo e.stamp,
      BitVec.ofNat 32 (e.code % 2 ^ 12 * 2 ^ 20) ||| BitVec.ofNat 32 (e.cls * 2 ^ 16) ||| BitVec.ofNat 32 (stHi e.stamp),
      BitVec.ofNat 32 (e.data % 2 ^ 24 * 2 ^ 8) ||| BitVec.ofNat 32 e.source, BitVec.ofNat 32 (e.data / 2 ^ 24)]
    ∃ t, exec .almanacWrite s = .next t ∧ t.safety.pending = [o] ∧
      (t.reg (.al .WIDX)).toNat = (i + 1) % 1024 ∧
      (t.reg (.al .COUNT)).toNat = min (2 ^ 32 - 1) ((s.reg (.al .COUNT)).toNat + 1) ∧
      (∀ k < 4, t.readWord (0x24000000 + 16 * i + 4 * k) = ws.getD k 0) ∧
      (∀ b, b < 0x24000000 + 16 * i ∨ 0x24000000 + 16 * i + 16 ≤ b → t.readByte b = s.readByte b) ∧
      RegsBut [(.al .WIDX, 0), (.al .COUNT, 0)] s t ∧ PartsBut [.mem, .safety] s t) ∧
  (∀ (a : Accessor) (v : Word) (s : State), WriteReaches a (.al .LOGH) v s →
    (0xF00 ≤ fld v 31 20 → fld v 19 16 ≤ 3 → ∃ t, exec (.almanacLogCommit a v) s = .next t ∧ lastAnswer a t = .done ∧
      Logs (fld v 31 20) (fld v 19 16) (fld v 7 0)
        ((s.reg (.al .LOGD0) (accU a)).toNat + fld (s.reg (.al .LOGD1) (accU a)) 23 0 * 2 ^ 32) s t ∧
      RegsBut [] s t ∧ PartsBut [.acc, .safety] s t) ∧
    (fld v 31 20 < 0xF00 ∨ 3 < fld v 19 16 → exec (.almanacLogCommit a v) s = .next (s.answer a .done))) ∧
  (∀ (a : Accessor) (n : Fin 3) (v : Word) (s : State), RegFile.wf s.regs → WriteReaches a (.al .WDCTL) (v ||| 0x80000000) s →
    (s.rbit (.al .WDCTL) n.val 31 = false → ∃ t, exec (.watchdogEnable a n v) s = .next t ∧ lastAnswer a t = .done ∧
      t.rbit (.al .WDCTL) n.val 31 = true ∧
      t.rfld (.al .WDCTL) n.val 15 0 = (if v.toNat % 65536 = 0 then s.rfld (.al .WDCTL) n.val 15 0 else v.toNat % 65536) ∧
      t.safety.kick[n] = s.now ∧ t.safety.kicked[n] = false ∧ (∀ m : Fin 3, m ≠ n → t.safety.kick[m] = s.safety.kick[m]) ∧
      RegsBut [(.al .WDCTL, n.val)] s t ∧ PartsBut [.acc, .safety, .tw] s t) ∧
    (s.rbit (.al .WDCTL) n.val 31 = true → exec (.watchdogEnable a n v) s = .next (s.answer a .done))) ∧
  (∀ (a : Accessor) (n : Fin 3) (v : Word) (s : State), RegFile.wf s.regs → WriteReaches a (.al .WDKICK) v s →
    s.rbit (.al .WDCTL) n.val 31 = true →
    let own : Prop := a = (if n = 0 then .a0 else if n = 1 then .a1 else .vane)
    let early : Prop := s.safety.kicked[n] = true ∧
      4 * ((s.now - s.safety.kick[n]).toNat) < 96000 * s.rfld (.al .WDCTL) n.val 15 0
    (own → v = 0xA5A5 → ¬early → ∃ t, exec (.watchdogKick a n v) s = .next t ∧ lastAnswer a t = .done ∧
      t.safety.kick[n] = s.now ∧ t.safety.kicked[n] = true ∧ RegsBut [] s t ∧ PartsBut [.acc, .safety] s t) ∧
    (∀ cause, own ∧ (v ≠ 0xA5A5 ∧ cause = 3 ∨ v = 0xA5A5 ∧ early ∧ cause = 2) →
      ∃ t, exec (.watchdogKick a n v) s = .next t ∧ Raises n.val s t ∧ Logs 0x801 4 0xE6 (n.val + 256 * cause) s t ∧
        (t.ic.cores[n]).inReset = true ∧ t.rfld (.ic .CPUSTATx) n.val 31 28 = 1 ∧ t.safety.kick[n] = s.now) ∧
    (¬own → exec (.watchdogKick a n v) s = .next (s.answer a .done))) ∧
  ∀ (n : Fin 3) (s : State), RegFile.wf s.regs → s.rbit (.al .WDCTL) n.val 31 = true → (s.ic.cores[n]).stopped = false →
    s.power.vaneOn = true →
    (96000 * s.rfld (.al .WDCTL) n.val 15 0 ≤ (s.now - s.safety.kick[n]).toNat →
      ∃ t, exec (.watchdogExpire n) s = .next t ∧ Raises n.val s t ∧ Logs 0x801 4 0xE6 (n.val + 256) s t ∧
        (t.ic.cores[n]).inReset = true ∧ t.rfld (.ic .CPUSTATx) n.val 31 28 = 1 ∧ t.safety.kick[n] = s.now ∧ t.mem = s.mem) ∧
    ((s.now - s.safety.kick[n]).toNat < 96000 * s.rfld (.al .WDCTL) n.val 15 0 → exec (.watchdogExpire n) s = .next s)

/-- R274 and R275.
Where the rules leave it open, a clause follows the model's choice (log entry 72). -/
def Obligations.MonitorsAndFaultPin : Prop :=
  (∀ s : State, RegFile.wf s.regs → s.rbit (.pw .CLK) 0 0 = true →
    ∃ t, exec .xtalFail s = .next t ∧ t.rbit (.pw .CLK) 0 0 = false ∧ t.rbit (.pw .CLK) 0 31 = false ∧ Raises 4 s t ∧
      Logs 0x803 2 0xE6 0 s t ∧ t.clk = s.clk ∧ RegsBut [(.pw .CLK, 0), (.al .FSTAT, 0)] s t ∧
      PartsBut [.safety, .ic, .tw] s t) ∧
  (∀ (m : BitVec 16) (s : State), RegFile.wf s.regs → s.power.hub = .on → m.toNat < 850 ∨ 1150 < m.toNat →
    ∃ t, exec (.vrcFail m) s = .next t ∧ Raises 6 s t ∧ Logs 0x805 3 0xE6 m.toNat s t ∧
      RegsBut [(.al .CLKSTAT, 0), (.al .FSTAT, 0)] s t ∧ PartsBut [.safety, .ic, .tw] s t) ∧
  (∀ s : State, RegFile.wf s.regs → s.clk.x32On = true →
    ∃ t, exec .x32Fail s = .next t ∧ t.clk = { s.clk with x32On := false } ∧ Raises 7 s t ∧ Logs 0x806 3 0xE6 0 s t ∧
      RegsBut [(.al .CLKSTAT, 0), (.al .FSTAT, 0)] s t ∧ PartsBut [.clk, .safety, .ic, .tw] s t) ∧
  (∀ (pc : Word) (s : State), RegFile.wf s.regs → s.power.vaneOn = true →
    ∃ t, exec (.lockstepMismatch pc) s = .next t ∧ Raises 3 s t ∧ Logs 0x802 4 0xE6 pc.toNat s t ∧
      (t.ic.cores[(2 : Fin 3)]).inReset = true ∧ t.rfld (.ic .CPUSTATx) 2 31 28 = 5 ∧
      (coreHeld s vaneCore = false → (t.ic.cores[(2 : Fin 3)]).restartAt = some (s.now + 192))) ∧
  (∀ (m : BitVec 16) (s : State), s.power.hub = .on → s.clk.busOn = true → m.toNat < 970 ∨ 1030 < m.toNat →
    RegFile.wf s.regs →
    ∃ t, exec (.pllFail m) s = .next t ∧ t.nvm.pllFault = true ∧ t.nvm.booting = true ∧ t.rbit (.nv .RSTCAUSE) 0 3 = true ∧
      t.now = s.now ∧ t.pending = s.pending ∧
      ∃ e ∈ t.safety.pending, e.code = 0x804 ∧ e.cls = 4 ∧ e.data = m.toNat ∧ e.stamp = s.now) ∧
  (∀ s : State, (s.power.hub = .on ∨ s.power.hub = .lull) → s.safety.pinLow = true →
    (faultCond s = false → 96000 ≤ (s.now - s.safety.lowSince).toNat →
      exec .faultPinRelease s = .next { s with safety := { s.safety with pinLow := false } }) ∧
    (faultCond s = true ∨ (s.now - s.safety.lowSince).toNat < 96000 → exec .faultPinRelease s = .next s)) ∧
  (∀ (a : Accessor) (v : Word) (s : State), RegFile.wf s.regs → v.getLsbD 2 = false → WriteReaches a (.al .FCTL) (v ||| 1) s →
    ∃ t, exec (.faultReady a v) s = .next t ∧ lastAnswer a t = .done ∧ t.rbit (.al .FCTL) 0 0 = true ∧
      t.rbit (.al .FCTL) 0 1 = v.getLsbD 1 ∧ (v.getLsbD 1 = true → t.safety.pinLow = true) ∧
      RegsBut [(.al .FCTL, 0)] s t ∧ PartsBut [.acc, .safety, .ic, .tw] s t) ∧
  ∀ (a : Accessor) (v : Word) (s : State), RegFile.wf s.regs → WriteReaches a (.al .FCTL) (v ||| 4) s →
    ∃ t, exec (.softwareFault a v) s = .next t ∧ lastAnswer a t = .done ∧ Raises 15 s t ∧
      t.rbit (.al .FCTL) 0 0 = (s.rbit (.al .FCTL) 0 0 || v.getLsbD 0) ∧ t.rbit (.al .FCTL) 0 1 = v.getLsbD 1 ∧
      RegsBut [(.al .FCTL, 0), (.al .FSTAT, 0)] s t ∧ PartsBut [.acc, .safety, .ic, .tw] s t

/-- R300 to R303, R310 and R312.
Where the rules leave it open, a clause follows the model's choice (log entries 54 and 69). -/
def Obligations.ReceiverStates : Prop :=
  (∀ (a : Accessor) (b : Fin 2) (v : Word) (s : State), RegFile.wf s.regs →
    (WriteReaches a (.db .PHYCFG) (v ||| 0x80000000) s → s.rbit (.db .PHYCFG) b.val 31 = false →
      (s.drawbar[b]).phy.state = .off → s.power.dom[domLink b.val] = true →
      ∃ t, exec (.phyEnable a b v) s = .next t ∧ lastAnswer a t = .done ∧ Listens b t ∧
        t.reg (.db .PHYCFG) b.val = ((s.reg (.db .PHYCFG) b.val &&& ~~~0xCF000003) ||| ((v ||| 0x80000000) &&& 0xCF000003)) ∧
        (t.drawbar[b]).exch = (s.drawbar[b]).exch ∧ (t.drawbar[b]).acts = (s.drawbar[b]).acts ∧ OtherBus b s t ∧
        RegsBut [(.db .PHYCFG, b.val)] s t ∧ PartsBut [.acc, .drawbar] s t) ∧
    (WriteReaches a (.db .PHYCFG) (v &&& 0x7FFFFFFF) s → s.rbit (.db .PHYCFG) b.val 31 = true →
      ∃ t, exec (.phyDisable a b v) s = .next t ∧ lastAnswer a t = .done ∧ (t.drawbar[b]).phy.state = .off ∧
        (t.drawbar[b]).phy.driving = false ∧ (t.drawbar[b]).phy.watch = none ∧ (t.drawbar[b]).phy.head = none ∧
        t.rbit (.db .PHYCFG) b.val 31 = false ∧ OtherBus b s t ∧ RegsBut [(.db .PHYCFG, b.val)] s t ∧
        PartsBut [.acc, .drawbar] s t)) ∧
  (∀ (b : Fin 2) (m l : Nat) (clip : Bool) (s : State), RegFile.wf s.regs →
    ((s.drawbar[b]).phy.state = .listen → 7 ≤ m → s.rfld (.db .RXCFG) b.val 23 16 ≤ l →
      ∃ t, exec (.candidateFound b m l clip) s = .next t ∧ (t.drawbar[b]).phy.state = .sync ∧
        Counted (.db .CNT) (b.val * 4) 31 16 s t ∧ (clip = true → t.rbit (.db .PHYFLG) b.val 2 = true) ∧
        (t.drawbar[b]).acts = (s.drawbar[b]).acts ∧ OtherBus b s t ∧
        RegsBut [(.db .CNT, b.val * 4), (.db .PHYFLG, b.val)] s t ∧ PartsBut [.drawbar, .safety, .ic, .tw] s t) ∧
    ((s.drawbar[b]).phy.state = .listen → m < 7 ∨ l < s.rfld (.db .RXCFG) b.val 23 16 →
      exec (.candidateFound b m l clip) s = .next s)) ∧
  (∀ (b : Fin 2) (m l : Nat) (rival : Option Nat) (s : State), RegFile.wf s.regs → l ≤ 255 →
    (∀ r, rival = some r → r ≤ 255) → (s.drawbar[b]).phy.state = .sync →
    (s.rfld (.db .RXCFG) b.val 12 8 ≤ m → m ≤ 16 →
      ∃ t, exec (.syncFound b m l rival false) s = .next t ∧ (t.drawbar[b]).phy.state = .header ∧
        (t.drawbar[b]).phy.syncStamp = s.now ∧ (t.drawbar[b]).phy.watch = none ∧ Counted (.db .CNT) (b.val * 4) 15 0 s t ∧
        t.rfld (.db .RXLEVEL) b.val 7 0 = (if (s.drawbar[b]).phy.watch.isSome then max l (rival.getD 0) else l) ∧
        (t.drawbar[b]).exch = (s.drawbar[b]).exch ∧ OtherBus b s t ∧
        RegsBut [(.db .CNT, b.val * 4), (.db .RXLEVEL, b.val)] s t ∧ PartsBut [.drawbar] s t) ∧
    (m < s.rfld (.db .RXCFG) b.val 12 8 → exec (.syncFound b m l rival false) s = .next s)) ∧
  (∀ (b : Fin 2) (s : State), RegFile.wf s.regs →
    ((s.drawbar[b]).phy.state = .sync → ∃ t, exec (.syncDeadline b) s = .next t ∧ Listens b t ∧
      Counted (.db .CNT) (b.val * 4 + 1) 31 16 s t ∧ (t.drawbar[b]).exch = (s.drawbar[b]).exch ∧ OtherBus b s t ∧
      RegsBut [(.db .CNT, b.val * 4 + 1)] s t ∧ PartsBut [.drawbar] s t) ∧
    ((s.drawbar[b]).phy.state ≠ .sync → exec (.syncDeadline b) s = .next s) ∧
    ((s.drawbar[b]).phy.state = .blank → ∃ t, exec (.blankEnd b) s = .next t ∧ Listens b t ∧
      (t.drawbar[b]).exch = (s.drawbar[b]).exch ∧ OtherBus b s t ∧ RegsBut [] s t ∧ PartsBut [.drawbar] s t) ∧
    ((s.drawbar[b]).phy.state ≠ .blank → exec (.blankEnd b) s = .next s)) ∧
  (∀ (b : Fin 2) (h : Word) (s : State), RegFile.wf s.regs → (s.drawbar[b]).phy.state = .header →
    (fld h 13 12 = 0 ∨ 32 < fld h 23 18 → ∃ t, exec (.headerDecoded b h false) s = .next t ∧ Listens b t ∧
      Counted (.db .CNT) (b.val * 4 + 1) 15 0 s t ∧ RegsBut [(.db .CNT, b.val * 4 + 1)] s t ∧ PartsBut [.drawbar] s t) ∧
    (fld h 13 12 ≠ 0 → fld h 23 18 ≤ 32 → ∃ t, exec (.headerDecoded b h false) s = .next t ∧
      (t.drawbar[b]).phy = { (s.drawbar[b]).phy with state := .body, head := some h } ∧ OtherBus b s t ∧
      RegsBut [] s t ∧ PartsBut [.drawbar] s t)) ∧
  ∀ s : State, RegFile.wf s.regs → s.power.hub = .lull →
    (s.rbit (.db .LSNCFG) 0 31 = true → s.power.exit = .none → s.power.listener = false → s.power.vaneOn = true →
      ∃ t, exec .listenerDetect s = .next t ∧ t.power.listener = true ∧ t.power.wakeDue.testBit 7 = true ∧
        t.rbit (.vn .WSTAT) 0 7 = true ∧ t.mem = s.mem ∧ t.drawbar = s.drawbar) ∧
    (s.rbit (.db .LSNCFG) 0 31 = false → exec .listenerDetect s = .next s)

/-- R305 to R307.
Where the rules leave it open, a clause follows the model's choice (log entry 69). -/
def Obligations.SecondWatchAndCapture : Prop :=
  (∀ (b : Fin 2) (m l : Nat) (s : State), (s.drawbar[b]).phy.state = .sync ∨ (s.drawbar[b]).phy.state = .header ∨
      (s.drawbar[b]).phy.state = .body → (s.drawbar[b]).phy.watch = none →
    (7 ≤ m → s.rfld (.db .RXCFG) b.val 23 16 ≤ l → ∃ t, exec (.secondWatchCandidate b m l) s = .next t ∧
      (t.drawbar[b]).phy = { (s.drawbar[b]).phy with watch := some { level := l, foundAt := s.now } } ∧
      (t.drawbar[b]).exch = (s.drawbar[b]).exch ∧ OtherBus b s t ∧ RegsBut [] s t ∧ PartsBut [.drawbar] s t) ∧
    (m < 7 ∨ l < s.rfld (.db .RXCFG) b.val 23 16 → exec (.secondWatchCandidate b m l) s = .next s)) ∧
  (∀ (b : Fin 2) (m l : Nat) (w : Watch) (s : State), RegFile.wf s.regs → l ≤ 255 → (s.drawbar[b]).phy.watch = some w →
    s.rfld (.db .RXCFG) b.val 12 8 ≤ m → m ≤ 16 →
    let cap := s.rfld (.db .RXLEVEL) b.val 7 0 + 2 * s.rfld (.db .CAPCFG) b.val 3 0
    let midway : Prop := (s.drawbar[b]).phy.state = .header ∨ (s.drawbar[b]).phy.state = .body
    ((s.drawbar[b]).phy.state = .sync → ∃ t, exec (.secondWatchSync b m l) s = .next t ∧
      (t.drawbar[b]).phy.state = .header ∧ (t.drawbar[b]).phy.watch = none ∧ (t.drawbar[b]).phy.syncStamp = s.now ∧
      t.rfld (.db .RXLEVEL) b.val 7 0 = l ∧ Counted (.db .CNT) (b.val * 4) 15 0 s t ∧
      (t.drawbar[b]).exch = (s.drawbar[b]).exch ∧ OtherBus b s t ∧
      RegsBut [(.db .CNT, b.val * 4), (.db .RXLEVEL, b.val)] s t ∧ PartsBut [.drawbar] s t) ∧
    (midway → s.rbit (.db .CAPCFG) b.val 31 = false ∨ l < cap → ∃ t, exec (.secondWatchSync b m l) s = .next t ∧
      (t.drawbar[b]).phy = { (s.drawbar[b]).phy with watch := none } ∧ Counted (.db .CNT) (b.val * 4 + 2) 15 0 s t ∧
      (t.drawbar[b]).exch = (s.drawbar[b]).exch ∧ OtherBus b s t ∧ RegsBut [(.db .CNT, b.val * 4 + 2)] s t ∧
      PartsBut [.drawbar] s t) ∧
    (midway → s.rbit (.db .CAPCFG) b.val 31 = true → cap ≤ l →
      exec (.secondWatchSync b m l) s = exec (.capture b (.sync m l)) s ∧
      ∃ t, exec (.capture b (.sync m l)) s = .next t ∧ (t.drawbar[b]).phy.state = .header ∧
        (t.drawbar[b]).phy.watch = none ∧ (t.drawbar[b]).phy.syncStamp = s.now ∧ t.rfld (.db .RXLEVEL) b.val 7 0 = l ∧
        Counted (.db .CNT) (b.val * 4) 15 0 s t ∧ Counted (.db .CNT) (b.val * 4 + 2) 31 16 s t ∧
        (∀ x te, (s.drawbar[b]).exch = some x → x.answered = true → x.te = some te → (t.drawbar[b]).exch = none) ∧
        OtherBus b s t)) ∧
  (∀ (b : Fin 2) (l : Nat) (w : Watch) (s : State), RegFile.wf s.regs → (s.drawbar[b]).phy.watch = some w →
    (s.drawbar[b]).phy.state = .header ∨ (s.drawbar[b]).phy.state = .body →
    let cap := s.rfld (.db .RXLEVEL) b.val 7 0 + 2 * s.rfld (.db .CAPCFG) b.val 3 0
    (s.rbit (.db .CAPCFG) b.val 31 = true → cap ≤ l → (s.now - w.foundAt).toNat < 8 * 768 →
      ∃ t, exec (.capture b (.level l)) s = .next t ∧ (t.drawbar[b]).phy.state = .sync ∧ (t.drawbar[b]).phy.watch = none ∧
        (t.drawbar[b]).phy.head = none ∧ Counted (.db .CNT) (b.val * 4 + 2) 31 16 s t ∧
        (∀ x te, (s.drawbar[b]).exch = some x → x.answered = true → x.te = some te → (t.drawbar[b]).exch = none) ∧
        OtherBus b s t) ∧
    (s.rbit (.db .CAPCFG) b.val 31 = false ∨ l < cap ∨ 8 * 768 ≤ (s.now - w.foundAt).toNat →
      exec (.capture b (.level l)) s = .next s)) ∧
  ∀ (b : Fin 2) (w : Watch) (s : State), RegFile.wf s.regs → (s.drawbar[b]).phy.watch = some w →
    ∃ t, exec (.secondWatchDeadline b) s = .next t ∧ (t.drawbar[b]).phy = { (s.drawbar[b]).phy with watch := none } ∧
      Counted (.db .CNT) (b.val * 4 + 1) 31 16 s t ∧ (t.drawbar[b]).exch = (s.drawbar[b]).exch ∧ OtherBus b s t ∧
      RegsBut [(.db .CNT, b.val * 4 + 1)] s t ∧ PartsBut [.drawbar] s t

/-- R284, R326, R333 to R335.
Where the rules leave it open, a clause follows the model's choice (log entries 12, 13, 14 and 69). -/
def Obligations.ExchangesStartAndEnd : Prop :=
  (∀ (b : Fin 2) (w : DbWork) (s : State), MayStart b w s → (s.drawbar[b]).phy.heldOff = false →
    let d := s.drawbar[b]
    (∀ (n : Fin 32) (c : DbCmd) (cs : List DbCmd), w = .command n.val → (d.acts[n]).queue = c :: cs →
      ∃ t seq fc, exec (.exchangeStart b) s = .next t ∧ Sends b n.val (if c.poll then 0 else 1) c.payload (decide (n ≠ 0)) s t ∧
        (∀ x, (t.drawbar[b]).exch = some x → x.seq = seq ∧ x.tries = c.tries) ∧
        ((t.drawbar[b]).acts[n]).queue = { c with seq := some seq, fc := fc } :: cs ∧
        (∀ q, c.seq = some q → seq = q) ∧
        (c.seq = none → (d.acts[n]).tags = false → seq = ((d.acts[n]).seq + 1) % 16) ∧
        (c.seq = none → (d.acts[n]).tags = true → seq = ((d.acts[n]).fc + 1) % 16) ∧
        OtherBus b s t ∧ RegsBut [(.db .CNT, b.val * 4 + 3)] s t) ∧
    (∀ n : Fin 32, w = .poll n.val → ∃ t, exec (.exchangeStart b) s = .next t ∧ Sends b n.val 0 [] true s t ∧ OtherBus b s t) ∧
    (w = .contention → ∃ t, exec (.exchangeStart b) s = .next t ∧ Sends b 0 0 [BitVec.ofNat 8 d.ackAddr] true s t ∧
      (t.drawbar[b]).ackAddr = 0) ∧
    (∀ p m, w = .probe p m → d.walk = true → ∃ t, exec (.exchangeStart b) s = .next t ∧
      Sends b 0 4 (BitVec.ofNat 8 m :: leBytes p 4) true s t) ∧
    (w = .release → ∃ t, exec (.exchangeStart b) s = .next t ∧ Sends b 0 1 [0xF0] false s t ∧
      (t.drawbar[b]).releaseDue = false) ∧
    (∀ g gs, w = .assign → d.assigns = g :: gs → s.enclave.entFail = false → ∃ t, exec (.exchangeStart b) s = .next t ∧
      Sends b 0 5 (leBytes g.uid 4 ++ [BitVec.ofNat 8 g.addr,
        BitVec.ofNat 8 (g.version + (if g.rate23 then 4 else 0) + (if g.tags then 8 else 0))] ++ leBytes g.nonce.toNat 4) true s t)) ∧
  (∀ (b : Fin 2) (w : DbWork) (s : State), (s.drawbar[b]).slot = some w →
    (s.drawbar[b]).exch.isSome = true ∨ (s.drawbar[b]).phy.state = .off ∨ s.clk.edge % 3 ≠ 0 ∨
      (∃ t, (s.drawbar[b]).exchEnd = some t ∧ (s.now - t).toNat < 9600) → exec (.exchangeStart b) s = .next s) ∧
  (∀ (b : Fin 2) (n : Fin 32) (s : State), RegFile.wf s.regs → MayStart b (.poll n.val) s → (s.drawbar[b]).phy.heldOff = true →
    ∃ t, exec (.exchangeStart b) s = .next t ∧ (t.drawbar[b]).exch = none ∧ (t.drawbar[b]).phy = (s.drawbar[b]).phy ∧
      LinkLost b n.val 1 0 t) ∧
  (∀ (b : Fin 2) (s : State), (s.drawbar[b]).phy.driving = true →
    (looped (s.drawbar[b]).phy = false →
      ∃ t, exec (.transmissionEnd b) s = .next t ∧ (t.drawbar[b]).phy.state = .blank ∧ (t.drawbar[b]).phy.driving = false ∧
        OtherBus b s t ∧ RegsBut [] s t ∧ PartsBut [.drawbar] s t) ∧
    (∀ x, (s.drawbar[b]).exch = some x → x.answered = true → ∃ t, exec (.transmissionEnd b) s = .next t ∧
      (t.drawbar[b]).exch = some { x with te := some s.now } ∧ (t.drawbar[b]).acts = (s.drawbar[b]).acts) ∧
    (∀ x c cs, (s.drawbar[b]).exch = some x → x.answered = false → x.work = .command 0 →
      ((s.drawbar[b]).acts[(0 : Fin 32)]).queue = c :: cs → ∃ t, exec (.transmissionEnd b) s = .next t ∧
        (t.drawbar[b]).exch = none ∧ (t.drawbar[b]).exchEnd = some s.now ∧
        ((t.drawbar[b]).acts[(0 : Fin 32)]).queue =
          (if c.tries < s.rfld (.db .ACFG) (b.val * 32 + 1) 29 28 then { c with tries := c.tries + 1 } :: cs else cs))) ∧
  (∀ (b : Fin 2) (s : State), (s.drawbar[b]).phy.driving = false → exec (.transmissionEnd b) s = .next s ∧
    exec (.txOvercurrent b) s = .next s) ∧
  (∀ (b : Fin 2) (s : State), RegFile.wf s.regs → (s.drawbar[b]).phy.driving = true →
    let third : Prop := 2 ≤ ((s.drawbar[b]).phy.trips.filter (fun u => decide ((s.now - u).toNat ≤ 9600000))).length
    ∃ t, exec (.txOvercurrent b) s = .next t ∧ t.rbit (.db .PHYFLG) b.val 3 = true ∧ (t.drawbar[b]).phy.driving = false ∧
      (third → (t.drawbar[b]).phy.heldOff = true ∧ Logs 0x601 3 (0x60 + b.val) (b.val + 2) s t) ∧
      (¬third → (t.drawbar[b]).phy.heldOff = (s.drawbar[b]).phy.heldOff ∧ Logs 0x601 1 (0x60 + b.val) b.val s t) ∧
      OtherBus b s t ∧ RegsBut [(.db .PHYFLG, b.val)] s t ∧ PartsBut [.drawbar, .safety, .ic, .tw] s t) ∧
  ∀ (b : Fin 2) (x : Exchange) (te : Stamp) (s : State), RegFile.wf s.regs → (s.drawbar[b]).exch = some x → x.te = some te →
    x.answered = true → x.seq < 16 → x.ptype < 8 → (s.drawbar[b]).phy.state ≠ .header → (s.drawbar[b]).phy.state ≠ .body →
    ((s.now - te).toNat < 67200 → exec (.responseTimeout b) s = .next s) ∧
    (67200 ≤ (s.now - te).toNat →
      (∀ n : Fin 32, x.work = .poll n.val → x.addr = n.val → ∃ t, exec (.responseTimeout b) s = .next t ∧
        (t.drawbar[b]).exch = none ∧ (t.drawbar[b]).exchEnd = some s.now ∧ LinkLost b n.val 1 0 t ∧
        ((t.drawbar[b]).acts[n]).misses = min 255 (((s.drawbar[b]).acts[n]).misses + 1) ∧
        (((s.drawbar[b]).acts[n]).state = 2 → s.rfld (.db .ACFG) (b.val * 32 + n.val) 15 8 ≤ ((s.drawbar[b]).acts[n]).misses + 1 →
          ((s.drawbar[b]).acts[n]).misses < 255 → ((t.drawbar[b]).acts[n]).state = 3)) ∧
      (∀ (n : Fin 32) (c : DbCmd) (cs : List DbCmd), n ≠ 0 → x.work = .command n.val → x.addr = n.val →
        ((s.drawbar[b]).acts[n]).queue = c :: cs → c.poll = false →
        (c.tries < s.rfld (.db .ACFG) (b.val * 32 + n.val) 29 28 → ∃ t, exec (.responseTimeout b) s = .next t ∧
          (t.drawbar[b]).exch = none ∧ ((t.drawbar[b]).acts[n]).queue = { c with tries := c.tries + 1 } :: cs ∧
          t.merger = s.merger) ∧
        (s.rfld (.db .ACFG) (b.val * 32 + n.val) 29 28 ≤ c.tries → c.tries ≤ 3 → ∃ t, exec (.responseTimeout b) s = .next t ∧
          (t.drawbar[b]).exch = none ∧ ((t.drawbar[b]).acts[n]).queue = cs ∧ LinkLost b n.val 1 c.tries t ∧
          t.rbit (.db .LOST) b.val n.val = true ∧ t.rbit (.db .LSTAT) b.val 1 = true)))

/-- R303, R309, R318, R326, R334 and R338.
Where the rules leave it open, a clause follows the model's choice (log entry 69). -/
def Obligations.ReceptionsCompleted : Prop :=
  (∀ (b : Fin 2) (h : Word) (bytes : List Byte) (track : List TrackIn) (s : State), RegFile.wf s.regs →
    (s.drawbar[b]).phy.state = .body → (s.drawbar[b]).phy.head = some h → bytes.length = bodyBytes h →
    let p := s.drawbar[b].phy
    let len := fld h 23 18
    let crcOk : Prop := crc16 (wordBytes h ++ bytes.take (len + 2)) = 0
    (∃ t, exec (.receptionComplete b bytes track false) s = .next t ∧
      t.rfld (.db .DRIFT) b.val 15 0 = (BitVec.ofInt 16 (trackAll track)).toNat ∧
      (p.watch = none → Listens b t) ∧ (∀ w, p.watch = some w → (t.drawbar[b]).phy.state = .sync ∧
        (t.drawbar[b]).phy.watch = none ∧ (t.drawbar[b]).phy.head = none) ∧ OtherBus b s t) ∧
    (¬crcOk → (s.drawbar[b]).exch = none → ∃ t, exec (.receptionComplete b bytes track false) s = .next t ∧
      t.merger = s.merger ∧ (t.drawbar[b]).acts = (s.drawbar[b]).acts ∧ RegsBut [(.db .DRIFT, b.val)] s t ∧
      PartsBut [.drawbar] s t) ∧
    (¬crcOk → ∀ (x : Exchange) (te : Stamp) (n : Fin 32), (s.drawbar[b]).exch = some x → x.answered = true → x.te = some te →
      x.work = .poll n.val → x.addr = n.val → x.seq < 16 → ∃ t, exec (.receptionComplete b bytes track false) s = .next t ∧
        (t.drawbar[b]).exch = none ∧ LinkLost b n.val 3 0 t) ∧
    (crcOk → ∀ (x : Exchange) (te : Stamp) (n : Fin 32) (c : DbCmd) (cs : List DbCmd), (s.drawbar[b]).exch = some x →
      x.answered = true → x.te = some te → x.work = .command n.val → x.addr = n.val → x.tag = false → hasTag h = false →
      fld h 26 24 = 2 → fld h 31 27 = n.val → fld h 17 14 = x.seq → n ≠ 0 → ((s.drawbar[b]).acts[n]).queue = c :: cs →
      ∃ t, exec (.receptionComplete b bytes track false) s = .next t ∧ (t.drawbar[b]).exch = none ∧
        ((t.drawbar[b]).acts[n]).queue = cs ∧ ((t.drawbar[b]).acts[n]).misses = 0 ∧
        ((t.drawbar[b]).acts[n]).state = (if ((s.drawbar[b]).acts[n]).state = 3 then 2 else ((s.drawbar[b]).acts[n]).state) ∧
        (s.rfld (.db .ACFG) (b.val * 32 + n.val) 31 30 ≠ 0 → ∃ r ∈ t.merger.arriving, r.typ = tLinkMsg ∧
          r.source = 0x60 + b.val ∧ r.stamp = p.syncStamp)) ∧
    (crcOk → (s.drawbar[b]).exch = none → fld h 26 24 = 3 → fld h 31 27 ≠ 0 → ∃ t, exec (.receptionComplete b bytes track false) s = .next t ∧
      t.rbit (.db .ALARM) b.val (fld h 31 27) = true ∧ t.rbit (.db .LSTAT) b.val 2 = true ∧
      (t.drawbar[b]).ackAddr = fld h 31 27 ∧ ((t.drawbar[b]).acts[ix 32 (fld h 31 27)]).alseq = fld h 17 14 ∧
      ∃ r ∈ t.merger.arriving, r.typ = tLinkMsg ∧ r.source = 0x60 + b.val ∧ r.stamp = p.syncStamp)) ∧
  ∀ (b : Fin 2) (bytes : List Byte) (track : List TrackIn) (s : State), (s.drawbar[b]).phy.state ≠ .body →
    exec (.receptionComplete b bytes track false) s = .next s

/-- R324, R327, R330, R332, R336, R340 and R349.
Where the rules leave it open, a clause follows the model's choice (log entries 42 and 69). -/
def Obligations.QueuesAndWalks : Prop :=
  (∀ (a : Accessor) (b : Fin 2) (v : Word) (s : State), RegFile.wf s.regs → WriteReaches a (.db .ACMDH) v s →
    let len := fld v 5 0
    let n : Fin 32 := if v.getLsbD 29 then 0 else asel a b s
    let q := ((s.drawbar[b]).acts[n]).queue
    let st := ((s.drawbar[b]).acts[n]).state
    let valid : Prop := len ≤ 32 ∧ (len ≠ 0 ∨ v.getLsbD 30 = true) ∧ (n = 0 ∨ st = 2 ∨ st = 3)
    let room : Prop := q.length < 8 ∧ poolUsed s.drawbar[b] < 64
    let refused (k : Nat) : Prop := ∃ t, exec (.commandCommit a b v) s = .next t ∧ lastAnswer a t = .done ∧
      t.rbit (.db .LSTAT) b.val k = true ∧ RegsBut [(.db .LSTAT, b.val)] s t ∧ PartsBut [.acc, .safety, .ic, .tw] s t
    (valid → fits s b n len = true → room → ∃ t c, exec (.commandCommit a b v) s = .next t ∧ lastAnswer a t = .done ∧
      ((t.drawbar[b]).acts[n]).queue = q ++ [c] ∧ c.urgent = v.getLsbD 31 ∧ c.poll = v.getLsbD 30 ∧ c.commit = s.now ∧
      c.seq = none ∧ c.tries = 0 ∧ c.payload.length = len ∧
      (∀ i < len, (c.payload.getD i 0).toNat =
        (s.reg (.db .ACMD) ((b.val * 6 + accU a) * 8 + i / 4)).toNat / 256 ^ (i % 4) % 256) ∧
      (∀ m : Fin 32, m ≠ n → (t.drawbar[b]).acts[m] = (s.drawbar[b]).acts[m]) ∧ OtherBus b s t ∧ RegsBut [] s t ∧
      PartsBut [.acc, .drawbar] s t) ∧
    (¬valid → refused 8) ∧ (valid → fits s b n len = false → refused 5) ∧ (valid → fits s b n len = true → ¬room → refused 6)) ∧
  (∀ (b : Fin 2) (k : Fin 8) (s : State), RegFile.wf s.regs →
    let w := s.reg (.db .STCMD) (b.val * 8 + k.val)
    let n : Fin 32 := ix 32 (fld w 28 24)
    let code := fld w 23 16
    let payload : List Byte := if code = 4 ∨ 0x80 ≤ code ∧ code ≤ 0xEF
      then [BitVec.ofNat 8 code, BitVec.ofNat 8 (fld w 15 0), BitVec.ofNat 8 (fld w 15 8)] else [BitVec.ofNat 8 code]
    (w.getLsbD 31 = true → storedBusy s b k.val = false →
      (n = 0 ∨ ((s.drawbar[b]).acts[n]).state = 2 ∨ ((s.drawbar[b]).acts[n]).state = 3) → fits s b n payload.length = true →
      ((s.drawbar[b]).acts[n]).queue.length < 8 → poolUsed s.drawbar[b] < 64 →
      ∃ t c, exec (.storedCommandTrigger b k) s = .next t ∧
        ((t.drawbar[b]).acts[n]).queue = ((s.drawbar[b]).acts[n]).queue ++ [c] ∧ c.urgent = true ∧ c.poll = false ∧
        c.payload = payload ∧ c.commit = s.now ∧ OtherBus b s t ∧ RegsBut [] s t ∧ PartsBut [.drawbar] s t) ∧
    (w.getLsbD 31 = false → storedBusy s b k.val = false → exec (.storedCommandTrigger b k) s = .next s) ∧
    (storedBusy s b k.val = true → ∃ t, exec (.storedCommandTrigger b k) s = .next t ∧ t.rbit (.ev .STAT) 0 2 = true ∧
      t.drawbar = s.drawbar)) ∧
  (∀ (a : Accessor) (b : Fin 2) (v : Word) (s : State), RegFile.wf s.regs → fld v 1 0 = 1 ∨ fld v 1 0 = 2 →
    (WriteReaches a (.db .LCFG) (v ||| 0x80000000) s → s.rbit (.db .LCFG) b.val 31 = false →
      ∃ t, exec (.timetableRun a b v) s = .next t ∧ lastAnswer a t = .done ∧ t.rbit (.db .LCFG) b.val 31 = true ∧
        t.rfld (.db .LCFG) b.val 21 16 = fld v 21 16 ∧ t.rfld (.db .LCFG) b.val 27 24 = fld v 27 24 ∧
        (t.drawbar[b]).ttNext = 0 ∧ (t.drawbar[b]).exch = (s.drawbar[b]).exch ∧ OtherBus b s t ∧
        RegsBut [(.db .LCFG, b.val)] s t ∧ PartsBut [.acc, .drawbar] s t) ∧
    (WriteReaches a (.db .LCFG) (v &&& 0x7FFFFFFF) s → s.rbit (.db .LCFG) b.val 31 = true →
      ∃ t, exec (.timetableHalt a b v) s = .next t ∧ lastAnswer a t = .done ∧ t.rbit (.db .LCFG) b.val 31 = false ∧
        (t.drawbar[b]).slot = none ∧ (t.drawbar[b]).exch = (s.drawbar[b]).exch ∧ OtherBus b s t ∧
        RegsBut [(.db .LCFG, b.val)] s t ∧ PartsBut [.acc, .drawbar] s t)) ∧
  (∀ (a : Accessor) (b : Fin 2) (v : Word) (s : State), RegFile.wf s.regs → v.getLsbD 30 = false →
    WriteReaches a (.db .ENCTL) (v ||| 0x80000000) s → (s.drawbar[b]).walk = false →
    let entry (j : Nat) : Nat := (s.reg (.db .TT) (b.val * 16 + j / 4)).toNat / 256 ^ (j % 4) % 256
    let hasEnum : Prop := ∃ j ≤ s.rfld (.db .LCFG) b.val 21 16, entry j / 32 = 4
    ∃ t, exec (.enumGo a b v) s = .next t ∧ lastAnswer a t = .done ∧ OtherBus b s t ∧
      (hasEnum → (t.drawbar[b]).walk = true ∧ (t.drawbar[b]).stack = [(0, 0)] ∧ (t.drawbar[b]).enState = 1 ∧
        (t.drawbar[b]).found = 0 ∧ (t.drawbar[b]).dupUid = false ∧ (t.drawbar[b]).releaseDue = v.getLsbD 28) ∧
      (¬hasEnum → (t.drawbar[b]).walk = false ∧ (t.drawbar[b]).enState = 3) ∧
      RegsBut [(.db .ENCTL, b.val)] s t ∧ PartsBut [.acc, .drawbar] s t) ∧
  (∀ (a : Accessor) (b : Fin 2) (v : Word) (s : State), WriteReaches a (.db .ENCTL) ((v ||| 0x40000000) &&& 0x7FFFFFFF) s →
    (s.drawbar[b]).walk = true → ∃ t, exec (.enumStop a b v) s = .next t ∧ lastAnswer a t = .done ∧
      (t.drawbar[b]).walk = false ∧ (t.drawbar[b]).stack = [] ∧ (t.drawbar[b]).exch = (s.drawbar[b]).exch ∧
      OtherBus b s t ∧ RegsBut [(.db .ENCTL, b.val)] s t ∧ PartsBut [.acc, .drawbar] s t) ∧
  ∀ (a : Accessor) (b : Fin 2) (v : Word) (s : State), RegFile.wf s.regs → WriteReaches a (.db .AUID) v s →
    let n := asel a b s
    (((s.drawbar[b]).acts[n]).state ≤ 1 → ∃ t, exec (.auidWrite a b v) s = .next t ∧ lastAnswer a t = .done ∧
      t.reg (.db .AUID) (b.val * 32 + n.val) = v ∧ ((t.drawbar[b]).acts[n]).state = (if v = 0 then 0 else 1) ∧
      (∀ m : Fin 32, m ≠ n → (t.drawbar[b]).acts[m] = (s.drawbar[b]).acts[m]) ∧ OtherBus b s t ∧
      RegsBut [(.db .AUID, b.val * 32 + n.val)] s t ∧ PartsBut [.acc, .drawbar] s t) ∧
    (2 ≤ ((s.drawbar[b]).acts[n]).state → exec (.auidWrite a b v) s = .next (s.answer a .done))

/-- R352 to R363.
Where the rules leave it open, a clause follows the model's choice (log entry 52). -/
def Obligations.HostFramesAndResults : Prop :=
  (∀ s : State, hostOn s = true → s.power.hub ≠ .calm →
    (∃ t, exec .frameSelect s = .next t ∧ t.host.selected = true ∧ t.host.word0 = firstOut s ∧ RegsBut [(.vn .WSTAT, 0)] s t) ∧
    (chained s = false → ∃ t, exec .statusPoll s = .next t ∧ t.host.out = [(frameWord0 s).setWidth 32] ∧
      t.host.selected = false ∧ RegsBut [] s t ∧ PartsBut [.host] s t)) ∧
  (∀ (op : Nat) (mk : HostFrame → Instr) (force : Nat → Nat),
    (op, mk, force) ∈ [(1, .hello, id), (2, .readReg, id), (3, .writeReg, id), (5, .loadConsistChunk, withPhase 0),
      (5, .loadConsistVerify, withPhase 1), (5, .loadConsistApply, withPhase 2), (6, .shunt, id),
      (7, (fun f => .store f true), id), (8, .powerReq, id), (9, (fun f => .sync f 0), id), (0xA, .almanacRead, id),
      (0xB, .notifyCfg, id), (0xC, .sessionOpen, withAction 1), (0xC, .sessionClose, withAction 2)] →
    ∀ (a0 : BitVec 24) (w1 : Word) (rest : List Word) (extra : Nat) (s : State), RegFile.wf s.regs → DirectPort s →
      NothingWaits s →
      let i := mk (.direct a0 w1 rest extra)
      let arg := force a0.toNat % 2 ^ 24
      let a1 := w1.toNat % 65536
      let hcrc : Prop := w1.toNat / 65536 =
        (crc16 (wordBe (at_ op 24 ||| at_ arg 0) ++ [BitVec.ofNat 8 (a1 / 256), BitVec.ofNat 8 a1])).toNat
      let n := max (bodyWords op (force a0.toNat) a1).1 (bodyWords op (force a0.toNat) a1).2 + 3
      let bcrc : Prop := (rest.getD (n - 3) 0).toNat % 65536 = crcWords (rest.take (n - 3))
      let ends (r flag : Nat) : Prop := ∃ t, exec i s = .next t ∧ t.rfld (.hp .RESULT) 0 15 8 = op ∧
        t.rfld (.hp .RESULT) 0 7 0 = r ∧ t.rbit (.hp .STAT) 0 flag = true ∧ t.host.selected = false ∧
        RegsBut frameRegs s t ∧ PartsBut frameParts s t
      (extra % 32 ≠ 0 → ∃ t, exec i s = .next t ∧ t.rbit (.hp .STAT) 0 1 = true ∧ Counted (.hp .FRAMES) 0 15 0 s t ∧
        t.reg (.hp .RESULT) = s.reg (.hp .RESULT) ∧ RegsBut frameRegs s t ∧ PartsBut frameParts s t) ∧
      (extra = 0 → ¬hcrc → ends 2 3) ∧
      (extra = 0 → hcrc → n ≤ rest.length + 2 → ¬bcrc → ends 3 4) ∧
      (extra = 0 → hcrc → rest.length + 2 ≠ n → (n ≤ rest.length + 2 → bcrc) → ends 1 2 ∧
        ∃ t, exec i s = .next t ∧ Counted (.hp .FRAMES) 0 15 0 s t)) ∧
  (∀ (op : BitVec 8) (a0 a1 : Nat) (f : HostFrame) (s : State), RegFile.wf s.regs → DirectPort s →
    op = 0 ∨ 12 < op.toNat → FrameOf op.toNat a0 a1 [] f →
    ∃ t, exec (.badopFrame op f) s = .next t ∧ FrameEnds op.toNat a0 4 4 [] s t ∧ RegsBut frameRegs s t ∧
      PartsBut frameParts s t) ∧
  (∀ (f : HostFrame) (s : State), RegFile.wf s.regs → DirectPort s → s.rfld (.hp .VER) 0 7 0 = 1 →
    (FrameOf 6 0 0 [] f → ∃ t, exec (.shunt f) s = .next t ∧ FrameEnds 6 0 5 5 [] s t ∧ RegsBut frameRegs s t ∧
      PartsBut frameParts s t) ∧
    (∀ b, FrameOf 12 1 0 b f → b.length = 2 → ∃ t, exec (.sessionOpen f) s = .next t ∧ FrameEnds 12 1 5 0xFF [0, 0] s t ∧
      RegsBut frameRegs s t ∧ PartsBut frameParts s t)) ∧
  ∀ (f : HostFrame) (s : State), RegFile.wf s.regs → DirectPort s → NothingWaits s →
    (∀ b, FrameOf 1 0 0 b f → b.length = 2 → ∃ t, exec (.hello f) s = .next t ∧ FrameEnds 1 0 6 6 [0, 0] s t ∧
      RegsBut frameRegs s t ∧ PartsBut frameParts s t) ∧
    (∀ a0, 3 < a0 → FrameOf 8 a0 0 [] f → ∃ t, exec (.powerReq f) s = .next t ∧ FrameEnds 8 a0 6 6 [] s t ∧
      RegsBut frameRegs s t ∧ PartsBut frameParts s t)

/-- R361, R364 to R366, R375 to R378 and R385.
Where the rules leave it open, a clause follows the model's choice (log entries 50, 51 and 52). -/
def Obligations.HostCommands : Prop :=
  (∀ (f : HostFrame) (s : State), RegFile.wf s.regs → DirectPort s →
    (∀ v b, 1 ≤ v → v < 256 → FrameOf 1 v 0 b f → b.length = 2 → ∃ t, exec (.hello f) s = .next t ∧
      FrameEnds 1 v 0 0 [0x96400200 ||| BitVec.ofNat 32 (min v 3), if certified s then 1 else 0] s t ∧
      t.rfld (.hp .VER) 0 7 0 = min v 3 ∧ t.rbit (.hp .VER) 0 8 = true ∧ RegsBut ((.hp .VER, 0) :: frameRegs) s t ∧
      PartsBut frameParts s t) ∧
    (∀ off b, FrameOf 2 off 1 b f → off % 4 = 0 → b.length = 1 →
      (governing false false off s = none → ∃ t, exec (.readReg f) s = .next t ∧ FrameEnds 2 off 7 7 [0] s t ∧
        RegsBut frameRegs s t ∧ PartsBut frameParts s t) ∧
      (∀ w q rep, governing false false off s = some w → off + 4 ≤ rangeEnd w →
        regAt (0x40000000 + off) = some (some q, rep) → ReadReaches .host q.reg s → q.reg ≠ .hp .FRAMES →
        ∃ t, exec (.readReg f) s = .next t ∧ FrameEnds 2 off 0 0 [(readReg .host q s).1] s t)) ∧
    (∀ off b w q rep, FrameOf 2 off 2 b f → off % 4 = 0 → b.length = 2 → governing false false off s = some w →
      rangeEnd w = off + 4 → regAt (0x40000000 + off) = some (some q, rep) → ReadReaches .host q.reg s → q.reg ≠ .hp .FRAMES →
      ∃ t, exec (.readReg f) s = .next t ∧ FrameEnds 2 off 8 8 [(readReg .host q s).1, 0] s t) ∧
    (∀ (c : Fin 4) (v : Word), NothingWaits s → FrameOf 3 (0x40104 + 32 * c.val) 1 [v] f →
      (governing true false (0x40104 + 32 * c.val) s = none → ∃ t, exec (.writeReg f) s = .next t ∧
        FrameEnds 3 (0x40104 + 32 * c.val) 7 0xFF [0] s t ∧ RegsBut frameRegs s t ∧ PartsBut frameParts s t) ∧
      (∀ w, governing true false (0x40104 + 32 * c.val) s = some w → ∃ t, exec (.writeReg f) s = .next t ∧
        FrameEnds 3 (0x40104 + 32 * c.val) 0 0xFF [0] s t ∧
        t.reg (.rk .CnWMARK) c.val = ((s.reg (.rk .CnWMARK) c.val &&& ~~~0x1FFFF) ||| (v &&& 0x1FFFF)) ∧
        RegsBut ((.rk .CnWMARK, c.val) :: frameRegs) s t ∧ PartsBut (.acc :: frameParts) s t)) ∧
    (∀ a0, a0 ≤ 3 → FrameOf 8 a0 0 [] f → ∃ t, exec (.powerReq f) s = .next (performWaiting t) ∧
      t.power = (powerRequest a0 s).power ∧ t.rfld (.hp .RESULT) 0 15 8 = 8 ∧ t.rfld (.hp .RESULT) 0 7 0 = 0 ∧
      t.host.out = [(frameWord0 s).setWidth 32, at_ 8 24 ||| at_ a0 0, at_ (crcWords []) 0]) ∧
    (∀ (since : Fin 4) b, FrameOf 9 0 0 b f → b.length = 2 → ∃ t, exec (.sync f since) s = .next t ∧
      FrameEnds 9 0 0 0 [s.reg (.hp .SYNCL), s.reg (.hp .SYNCH)] s t ∧
      t.reg (.hp .SYNCL) = stLo (s.now - BitVec.ofNat 48 since.val) ∧
      t.rfld (.hp .SYNCH) 0 15 0 = stHi (s.now - BitVec.ofNat 48 since.val) ∧
      t.rfld (.hp .SYNCH) 0 31 16 = (s.rfld (.hp .SYNCH) 0 31 16 + 1) % 65536 ∧
      RegsBut ([(.hp .SYNCL, 0), (.hp .SYNCH, 0)] ++ frameRegs) s t ∧ PartsBut frameParts s t) ∧
    (∀ first n b, first < 1024 → 1 ≤ n → n ≤ 256 → FrameOf 10 first n b f → b.length = 4 * n →
      ∃ t ws, exec (.almanacRead f) s = .next t ∧ FrameEnds 10 first 0 0 ws s t ∧ ws.length = 4 * n ∧
        (∀ j < n, ∀ k < 4, ws.getD (4 * j + k) 0 = s.readWord (0x24000000 + 16 * ((first + j) % 1024) + 4 * k)) ∧
        RegsBut frameRegs s t ∧ PartsBut frameParts s t) ∧
    (∀ m, m < 65536 → FrameOf 11 m 0 [] f → ∃ t, exec (.notifyCfg f) s = .next t ∧ FrameEnds 11 m 0 0 [] s t ∧
      t.reg (.hp .NMASK) = BitVec.ofNat 32 (m % 128) ∧ RegsBut ((.hp .NMASK, 0) :: frameRegs) s t ∧
      PartsBut frameParts s t)) ∧
  ∀ (s : State), RegFile.wf s.regs → hostOn s = true → chained s = true → recovery s = false → 1 ≤ s.rfld (.hp .VER) 0 7 0 →
    ∃ t, exec (.noOperation (.chain 0 0 0 0)) s = .next t ∧ t.rfld (.hp .RESULT) 0 7 0 = 0 ∧ t.rfld (.hp .RESULT) 0 15 8 = 0 ∧
      t.host.out = [((frameWord0 s) >>> 32).setWidth 32, (frameWord0 s).setWidth 32] ∧ t.host.chainData = 0 ∧
      t.host.chainAt = some s.now ∧ RegsBut frameRegs s t ∧ PartsBut frameParts s t

/-- R350, R368 to R374 and R378 to R381.
Where the rules leave it open, a clause follows the model's choice (log entries 37 and 52). -/
def Obligations.HostBatchesLongCommandsSessions : Prop :=
  (∀ (f : HostFrame) (b : List Word) (m : Nat) (s : State), RegFile.wf s.regs → DirectPort s → FrameOf 4 0 m b f → 66 ≤ m → m ≤ 1024 →
    b.length = m → s.rbit (.rk .CnCTRL) 0 31 = true → (s.merger.cursors[(0 : Fin 4)]).offset = 0 → s.host.sent[(0 : Fin 2)] = none →
    let c := s.merger.cursors[(0 : Fin 4)]
    (c.avail = 0 → ∃ t, exec (.readBatch f) s = .next t ∧ FrameEnds 4 0 0 0 (List.replicate m 0xFC1FFFFF) s t ∧
      t.merger = s.merger ∧ t.host.sent = s.host.sent ∧ RegsBut frameRegs s t) ∧
    (0 < c.avail → recLen s c.index = c.avail → ∃ t u, exec (.readBatch f) s = .next t ∧
      (let ws := readEpoch s 0 ++ (List.range c.avail).map (fun k => queueWord s (c.index + k))
       FrameEnds 4 0 0 0 (ws ++ List.replicate (m - ws.length) 0xFC1FFFFF) s t ∧ toWords u.bytes = ws) ∧
      u.queued = 4 * c.avail ∧ u.epoch = true ∧ t.host.sent[(0 : Fin 2)] = some u ∧ t.merger = s.merger ∧
      RegsBut frameRegs s t)) ∧
  (∀ (f : HostFrame) (b ws : List Word) (u : Unacked) (m : Nat) (s : State), RegFile.wf s.regs → DirectPort s →
    FrameOf 4 0x800000 m b f → 66 ≤ m → m ≤ 1024 → b.length = m → s.rbit (.rk .CnCTRL) 0 31 = true →
    (s.merger.cursors[(0 : Fin 4)]).offset = 0 → s.host.sent[(0 : Fin 2)] = some u → u.bytes = ofWords ws → ws.length ≤ m →
    ∃ t, exec (.readBatch f) s = .next t ∧ FrameEnds 4 0x800000 0 0 (ws ++ List.replicate (m - ws.length) 0xFC1FFFFF) s t ∧
      t.host.sent = s.host.sent ∧ t.merger = s.merger ∧ RegsBut frameRegs s t) ∧
  (∀ (a1 : Nat) (rest : List Word) (u : Unacked) (extra : Nat) (s : State), RegFile.wf s.regs → DirectPort s → a1 < 65536 →
    extra % 32 ≠ 0 → s.host.sent[(0 : Fin 2)] = some u → u.epoch = true →
    let c := s.merger.cursors[(0 : Fin 4)]
    c.offset = 0 → 0 < c.avail → recLen s c.index = c.avail → u.queued = 4 * c.avail →
    ∃ t, exec (.readBatch (.direct 0 (at_ (crc16 (wordBe 0x04000000 ++ [BitVec.ofNat 8 (a1 / 256), BitVec.ofNat 8 a1])).toNat 16 |||
        at_ a1 0) rest extra)) s = .next t ∧ t.host.sent[(0 : Fin 2)] = none ∧
      (t.merger.cursors[(0 : Fin 4)]).avail = 0 ∧ (t.merger.cursors[(0 : Fin 4)]).index = (c.index + c.avail) % queueWords ∧
      (t.merger.cursors[(0 : Fin 4)]).readSeq = (c.readSeq + 1) % 4096 ∧ t.rbit (.hp .STAT) 0 1 = true) ∧
  (∀ (f : HostFrame) (ws : List Word) (s : State), RegFile.wf s.regs → Memory.wf s.mem → DirectPort s → 1 ≤ ws.length →
    ws.length ≤ 1024 → FrameOf 5 0 ws.length ws f → chunkPlace (s.reg (.cw .STGBASE)).toNat (4 * ws.length) = true →
    (s.coach.loader.locked = false → ∃ t, exec (.loadConsistChunk f) s = .next t ∧
      FrameEnds 5 0 0 0xFF (List.replicate ws.length 0) s t ∧
      (∀ j < ws.length, t.readWord ((s.reg (.cw .STGBASE)).toNat + 4 * j) = ws.getD j 0) ∧
      t.rfld (.cw .STGLEN) 0 18 0 = 4 * ws.length ∧ RegsBut ((.cw .STGLEN, 0) :: frameRegs) s t ∧
      PartsBut (.mem :: frameParts) s t) ∧
    (s.coach.loader.locked = true → ∃ t, exec (.loadConsistChunk f) s = .next t ∧
      FrameEnds 5 0 9 0xFF (List.replicate ws.length 0) s t ∧ RegsBut frameRegs s t ∧ PartsBut frameParts s t)) ∧
  (∀ (op a0 : Nat) (mk : HostFrame → Instr) (f : HostFrame) (s : State), RegFile.wf s.regs → DirectPort s →
    2 ≤ s.rfld (.hp .VER) 0 7 0 → FrameOf op a0 0 [] f →
    (op, a0, mk) ∈ [(5, 0x400000, Instr.loadConsistVerify), (5, 0x800000, .loadConsistApply), (6, 0, .shunt), (6, 1, .shunt),
      (7, 0, (fun f => .store f true))] →
    let running := s.rbit (.hp .LONG) 0 23
    let staged : Prop := s.coach.loader.staged = true
    (running = true → ∃ t, exec (mk f) s = .next t ∧ FrameEnds op a0 9 9 [] s t ∧ RegsBut frameRegs s t ∧
      PartsBut frameParts s t) ∧
    (running = false → (op = 6 ∧ (¬staged ∨ s.coach.loader.kind ≠ 1) ∨ a0 = 0x800000 ∧ (¬staged ∨ s.coach.loader.kind ≠ 0)) →
      ∃ t, exec (mk f) s = .next t ∧ FrameEnds op a0 10 10 [] s t ∧ RegsBut frameRegs s t ∧ PartsBut frameParts s t) ∧
    (running = false → a0 = 0x400000 → s.power.parked[3] = false → s.power.dom[domFab] = true → s.coach.loader.phase = .idle →
      ∃ t, exec (mk f) s = .next t ∧ FrameEnds op a0 0 0 [] s t ∧ t.rbit (.hp .LONG) 0 23 = true ∧
        t.rfld (.hp .LONG) 0 31 24 = 5 ∧ t.coach.loader.phase = .checking ∧ t.coach.loader.cmd = 1 ∧ t.coach.loader.port = 1) ∧
    (running = false → a0 = 0x800000 → staged → s.coach.loader.kind = 0 → s.power.parked[3] = false → s.power.dom[domFab] = true →
      s.coach.loader.phase = .idle → imShunt (stagedBytes s) = false → (unpack (stagedBytes s)).full = true →
      ∃ t, exec (mk f) s = .next t ∧ FrameEnds op a0 0 0 [] s t ∧ t.rbit (.hp .LONG) 0 23 = true ∧
        t.coach.loader.phase = .stopping ∧ t.coach.loader.image = some (unpack (stagedBytes s)) ∧ t.reg (.ln .ENABLE) = 0) ∧
    (running = false → op = 6 → a0 = 0 → staged → s.coach.loader.kind = 1 → s.power.parked[3] = false →
      s.power.dom[domFab] = true → s.coach.loader.phase = .idle → imShunt (stagedBytes s) = true →
      (unpack (stagedBytes s)).full = false → conflicts s (unpack (stagedBytes s)) false = false → s.rbit (.cw .SHCTRL) 0 0 = false →
      ∃ t, exec (mk f) s = .next t ∧ FrameEnds op a0 0 0 [] s t ∧ t.rbit (.hp .LONG) 0 23 = true ∧
        t.coach.loader.phase = .stopping ∧ t.coach.loader.image = some (unpack (stagedBytes s))) ∧
    (running = false → op = 7 → s.power.parked[14] = false → s.nvm.op = none →
      ∃ t, exec (mk f) s = .next t ∧ FrameEnds op a0 0 0 [] s t ∧ t.rbit (.hp .LONG) 0 23 = true ∧
        ∃ o, t.nvm.op = some o ∧ o.op = 5 ∧ o.port = 1)) ∧
  (∀ (o : Nat) (s : State), RegFile.wf s.regs → s.host.longOut = some o → s.rbit (.hp .LONG) 0 23 = true →
    ∃ t, exec .longCommandDone s = .next t ∧ t.rfld (.hp .LONG) 0 15 0 = o % 65536 ∧ t.rbit (.hp .LONG) 0 23 = false ∧
      t.rbit (.hp .STAT) 0 0 = true ∧ t.host.longOut = none ∧ RegsBut [(.hp .LONG, 0), (.hp .STAT, 0)] s t ∧
      PartsBut frameParts s t) ∧
  (∀ (f : HostFrame) (nh : List Word) (k : Fin 32) (s : State), RegFile.wf s.regs → DirectPort s → s.rfld (.hp .VER) 0 7 0 = 3 →
    FrameOf 12 (1 + 256 * k.val) 0 nh f → nh.length = 2 → hasUsage s.enclave.slots[k] 2 128 = true → s.enclave.entFail = false →
    ∃ t n0 n1, exec (.sessionOpen f) s = .next t ∧ FrameEnds 12 (1 + 256 * k.val) 0 0xFF [n0, n1] s t ∧ t.host.fails = 0 ∧
      ∃ x, t.host.session = some x ∧ x.slot = k.val ∧ x.ctr = 0 ∧
        x.key = cmacBytes (s.enclave.slots[k]).key (1 :: (nh.flatMap wordBe ++ wordBe n0 ++ wordBe n1))) ∧
  (∀ (x : Session) (tag : Word) (s : State), RegFile.wf s.regs → hostOn s = true → chained s = false → recovery s = false →
    s.host.session = some x → s.rfld (.hp .VER) 0 7 0 = 3 → x.ctr < 0xFFFFFFFE →
    let w1 : Word := at_ (crc16 (wordBe 0x0C000002 ++ [0, 0])).toNat 16
    let f : HostFrame := .direct 2 w1 [tag, at_ (crcWords [tag]) 0] 0
    (tag = sessionTag x 0 [0x0C000002, w1] → ∃ t, exec (.sessionClose f) s = .next t ∧ t.host.session = none ∧
      t.rfld (.hp .RESULT) 0 7 0 = 0) ∧
    (tag ≠ sessionTag x 0 [0x0C000002, w1] → ∃ t, exec (.sessionClose f) s = .next t ∧ t.rfld (.hp .RESULT) 0 7 0 = 11 ∧
      t.host.fails = s.host.fails + 1 ∧ t.rbit (.hp .STAT) 0 8 = true ∧
      t.host.session = (if 2 ≤ s.host.fails then none else some x))) ∧
  ∀ (a : Accessor) (v : Word) (s : State), RegFile.wf s.regs →
    (WriteReaches a (.hp .SWIRQ) v s → v.getLsbD 0 = true → ∃ t, exec (.hostSwirq a v) s = .next t ∧ lastAnswer a t = .done ∧
      t.rbit (.hp .NSRC) 0 6 = true ∧ RegsBut [(.hp .NSRC, 0)] s t ∧ PartsBut [.acc, .safety, .ic, .tw] s t) ∧
    (WriteReaches a (.hp .SWIRQ) v s → v.getLsbD 0 = false → exec (.hostSwirq a v) s = .next (s.answer a .done)) ∧
    (WriteReaches a (.hp .CFG) v s → ∃ t, exec (.hostPortConfig a v) s = .next t ∧ lastAnswer a t = .done ∧
      t.rbit (.hp .CFG) 0 31 = v.getLsbD 31 ∧
      t.rbit (.hp .CFG) 0 30 = (if s.rbit (.hp .CFG) 0 31 then s.rbit (.hp .CFG) 0 30 else v.getLsbD 30) ∧
      (v.getLsbD 31 = false → t.host.session = none) ∧ (v.getLsbD 31 = true → t.host = s.host) ∧
      RegsBut [(.hp .CFG, 0)] s t ∧ PartsBut [.acc, .host, .tw] s t)

/-- R395 to R399, R403 and R404.
Where the rules leave it open, a clause follows the model's choice (log entry 53). -/
def Obligations.TwoWireWrites : Prop :=
  (∀ (code : Nat) (mk : List Byte → Instr) (f : TwForm) (adj : List Byte → List Byte),
    (code, mk, f, adj) ∈ [(0x02, .twPointer, .block 4 4 1 0, id), (0x04, .twWriteReg, .block 4 252 4 0, id),
      (0x07, .twLoadConsistChunk, .block 6 254 4 2, id), (0x08, .twLoadConsistVerify, .bytes 1, phaseByte 1),
      (0x08, .twLoadConsistApply, .bytes 1, phaseByte 2), (0x09, .twShunt, .bytes 1, id),
      (0x0A, (fun b => .twStore b true), .bytes 0, id), (0x0B, .twPowerReq, .bytes 1, id),
      (0x0C, (fun b => .twSync b 0), .bytes 0, id), (0x0E, .twAlmanacPtr, .bytes 2, id), (0x10, .twNotifyCfg, .bytes 2, id)] →
    ∀ (bs : List Byte) (s : State), RegFile.wf s.regs → twOn s = true → NothingWaits s →
      let b := adj bs
      let stops (r : Nat) : Prop := ∃ t, exec (mk bs) s = .next t ∧ TwEnds code r s t ∧ RegsBut twRegs s t ∧ PartsBut twParts s t
      let bad : Prop := ∃ t, exec (mk bs) s = .next t ∧ t.rfld (.tw .RESULT) 0 7 0 = 3 ∧ RegsBut twRegs s t ∧ PartsBut twParts s t
      let addr : Byte := BitVec.ofNat 8 (s.rfld (.tw .ADDR) 0 6 0 * 2)
      match f with
      | .bytes n =>
        (b.length < n ∨ n + 1 < b.length → stops 1) ∧
        (b.length = n + 1 → b.getD n 0 ≠ crc8 ([addr, BitVec.ofNat 8 code] ++ b.take n) → bad ∧
          ∃ t, exec (mk bs) s = .next t ∧ t.rbit (.tw .STAT) 0 4 = true) ∧
        (b.length = n → s.rbit (.tw .CFG) 0 29 = true → bad)
      | .block lo hi step rest =>
        (b = [] → stops 1) ∧
        (∀ c d, b = c :: d →
          (¬(lo ≤ c.toNat ∧ c.toNat ≤ hi ∧ (c.toNat - rest) % step = 0) → stops 6) ∧
          (lo ≤ c.toNat → c.toNat ≤ hi → (c.toNat - rest) % step = 0 →
            (d.length < c.toNat ∨ c.toNat + 1 < d.length → stops 1) ∧
            (d.length = c.toNat + 1 → d.getD c.toNat 0 ≠ crc8 ([addr, BitVec.ofNat 8 code] ++ b.take (c.toNat + 1)) → bad ∧
              ∃ t, exec (mk bs) s = .next t ∧ t.rbit (.tw .STAT) 0 4 = true) ∧
            (d.length = c.toNat → s.rbit (.tw .CFG) 0 29 = true → bad)))) ∧
  ∀ (s : State), RegFile.wf s.regs → twOn s = true → NothingWaits s → s.rbit (.tw .CFG) 0 29 = false →
    let run := s.rbit (.tw .LONG) 0 23
    (∀ o0 o1 o2 n : Byte, o0.toNat % 4 = 0 → 1 ≤ n.toNat → n.toNat ≤ 63 →
      ∃ t, exec (.twPointer [4, o0, o1, o2, n]) s = .next t ∧ TwEnds 2 0 s t ∧
        t.rfld (.tw .PTR) 0 31 26 = n.toNat ∧ t.rfld (.tw .PTR) 0 23 0 = o0.toNat + 256 * o1.toNat + 65536 * o2.toNat ∧
        RegsBut ((.tw .PTR, 0) :: twRegs) s t ∧ PartsBut twParts s t) ∧
    (∀ (c : Fin 4) (v : Word), s.rfld (.tw .PTR) 0 23 0 = 0x40104 + 32 * c.val →
      (governing true false (0x40104 + 32 * c.val) s = none →
        ∃ t, exec (.twWriteReg (4 :: wordBytes v)) s = .next t ∧ TwEnds 4 7 s t ∧ RegsBut twRegs s t ∧ PartsBut twParts s t) ∧
      (∀ w, governing true false (0x40104 + 32 * c.val) s = some w → s.clk.busOn = true →
        ∃ t, exec (.twWriteReg (4 :: wordBytes v)) s = .next t ∧ TwEnds 4 0 s t ∧
          t.reg (.rk .CnWMARK) c.val = ((s.reg (.rk .CnWMARK) c.val &&& ~~~0x1FFFF) ||| (v &&& 0x1FFFF)) ∧
          t.rfld (.tw .PTR) 0 23 0 = 0x40108 + 32 * c.val ∧
          RegsBut ((.rk .CnWMARK, c.val) :: (.tw .PTR, 0) :: twRegs) s t ∧ PartsBut (.acc :: twParts) s t)) ∧
    (∀ ws : List Word, 1 ≤ ws.length → ws.length ≤ 63 → Memory.wf s.mem → s.coach.loader.locked = false →
      chunkPlace (s.reg (.cw .STGBASE)).toNat (4 * ws.length) = true →
      ∃ t, exec (.twLoadConsistChunk (BitVec.ofNat 8 (4 * ws.length + 2) :: 0 :: 0 :: ofWords ws)) s = .next t ∧ TwEnds 7 0 s t ∧
        (∀ j < ws.length, t.readWord ((s.reg (.cw .STGBASE)).toNat + 4 * j) = ws.getD j 0) ∧
        t.rfld (.cw .STGLEN) 0 18 0 = 4 * ws.length ∧ RegsBut ((.cw .STGLEN, 0) :: twRegs) s t ∧ PartsBut (.mem :: twParts) s t) ∧
    (run = false → s.power.parked[3] = false → s.power.dom[domFab] = true → s.coach.loader.phase = .idle →
      ∃ t, exec (.twLoadConsistVerify [1]) s = .next t ∧ TwEnds 8 0 s t ∧ t.rbit (.tw .LONG) 0 23 = true ∧
        t.coach.loader.phase = .checking ∧ t.coach.loader.cmd = 1 ∧ t.coach.loader.port = 2) ∧
    (run = false → s.coach.loader.staged = true → s.coach.loader.kind = 0 → s.power.parked[3] = false →
      s.power.dom[domFab] = true → s.coach.loader.phase = .idle → imShunt (stagedBytes s) = false →
      (unpack (stagedBytes s)).full = true →
      ∃ t, exec (.twLoadConsistApply [2]) s = .next t ∧ TwEnds 8 0 s t ∧ t.rbit (.tw .LONG) 0 23 = true ∧
        t.coach.loader.phase = .stopping) ∧
    (run = false → s.coach.loader.staged = true → s.coach.loader.kind = 1 → s.power.parked[3] = false →
      s.power.dom[domFab] = true → s.coach.loader.phase = .idle → imShunt (stagedBytes s) = true →
      (unpack (stagedBytes s)).full = false → conflicts s (unpack (stagedBytes s)) false = false → s.rbit (.cw .SHCTRL) 0 0 = false →
      ∃ t, exec (.twShunt [0]) s = .next t ∧ TwEnds 9 0 s t ∧ t.rbit (.tw .LONG) 0 23 = true ∧
        t.coach.loader.phase = .stopping) ∧
    (run = false → s.power.parked[14] = false → s.nvm.op = none →
      ∃ t, exec (.twStore [] true) s = .next t ∧ TwEnds 10 0 s t ∧ t.rbit (.tw .LONG) 0 23 = true ∧
        ∃ o, t.nvm.op = some o ∧ o.op = 5 ∧ o.port = 2) ∧
    (run = false → s.coach.loader.staged = false →
      (∃ t, exec (.twLoadConsistApply [2]) s = .next t ∧ TwEnds 8 10 s t ∧ RegsBut twRegs s t ∧ PartsBut twParts s t) ∧
      (∃ t, exec (.twShunt [0]) s = .next t ∧ TwEnds 9 10 s t ∧ RegsBut twRegs s t ∧ PartsBut twParts s t)) ∧
    (run = true → ∀ code i, (code, i) ∈ [(8, Instr.twLoadConsistVerify [1]), (8, .twLoadConsistApply [2]), (9, .twShunt [0]),
        (10, .twStore [] true)] →
      ∃ t, exec i s = .next t ∧ TwEnds code 9 s t ∧ RegsBut twRegs s t ∧ PartsBut twParts s t) ∧
    (∀ p : Byte, p.toNat ≤ 3 → ∃ t, exec (.twPowerReq [p]) s = .next (performWaiting t) ∧
      t.power = (powerRequest p.toNat s).power ∧ t.rfld (.tw .RESULT) 0 15 8 = 11 ∧ t.rfld (.tw .RESULT) 0 7 0 = 0) ∧
    (∀ since : Fin 4, ∃ t, exec (.twSync [] since) s = .next t ∧ TwEnds 12 0 s t ∧
      t.reg (.tw .SYNCL) = stLo (s.now - BitVec.ofNat 48 since.val) ∧
      t.rfld (.tw .SYNCH) 0 15 0 = stHi (s.now - BitVec.ofNat 48 since.val) ∧
      t.rfld (.tw .SYNCH) 0 31 16 = (s.rfld (.tw .SYNCH) 0 31 16 + 1) % 65536 ∧
      RegsBut ([(.tw .SYNCL, 0), (.tw .SYNCH, 0)] ++ twRegs) s t ∧ PartsBut twParts s t) ∧
    (∀ lo hi : Byte, hi.toNat / 4 % 4 = 0 → 16 ≤ hi.toNat → ∃ t, exec (.twAlmanacPtr [lo, hi]) s = .next t ∧ TwEnds 14 0 s t ∧
      t.reg (.tw .APTR) = BitVec.ofNat 32 (lo.toNat + 256 * hi.toNat) ∧ RegsBut ((.tw .APTR, 0) :: twRegs) s t ∧
      PartsBut twParts s t) ∧
    (∀ m : Byte, m.toNat < 128 → ∃ t, exec (.twNotifyCfg [m, 0]) s = .next t ∧ TwEnds 16 0 s t ∧
      t.reg (.tw .NMASK) = BitVec.ofNat 32 m.toNat ∧ RegsBut ((.tw .NMASK, 0) :: twRegs) s t ∧ PartsBut twParts s t)

/-- R392, R393, R395, R398, R400 to R402, R404 to R407, R409 and R410.
Where the rules leave it open, a clause follows the model's choice (log entry 53). -/
def Obligations.TwoWireReadsAndWatch : Prop :=
  (∀ (k : TwTake) (s : State), RegFile.wf s.regs → twOn s = true →
    let extra (t : State) : Prop := k.extra ≠ 0 → t.rbit (.tw .STAT) 0 8 = true
    (∃ t, exec (.twStatus k) s = .next t ∧ TwReturns 0 k false [BitVec.ofNat 8 (twStatus s), BitVec.ofNat 8 (s.rfld (.tw .RESULT) 0 7 0)] s t ∧
      extra t ∧ RegsBut [(.tw .STAT, 0)] s t ∧ PartsBut twParts s t) ∧
    (∃ t, exec (.twHello k) s = .next t ∧ t.rbit (.tw .NSRC) 0 5 = false ∧ t.rfld (.tw .RESULT) 0 7 0 = 0 ∧
      TwReturns 1 k true (wordBytes 0x96400202 ++ wordBytes ((if chained s then 2 else 0) ||| (if certified s then 1 else 0))) s t ∧
      extra t ∧ RegsBut ((.tw .NSRC, 0) :: twRegs) s t ∧ PartsBut twParts s t) ∧
    (∀ q rep, s.rfld (.tw .PTR) 0 31 26 = 1 → s.rfld (.tw .PTR) 0 23 0 % 4 = 0 →
      let off := s.rfld (.tw .PTR) 0 23 0
      (governing false false off s = none → ∃ t, exec (.twReadReg k) s = .next t ∧ TwReturns 3 k true [0, 0, 0, 0] s t ∧
        t.rfld (.tw .RESULT) 0 7 0 = 7 ∧ t.rbit (.tw .STAT) 0 7 = true ∧ RegsBut twRegs s t ∧ PartsBut twParts s t) ∧
      (∀ w, governing false false off s = some w → regAt (0x40000000 + off) = some (some q, rep) → ReadReaches .twoWire q.reg s →
        ∃ t, exec (.twReadReg k) s = .next t ∧ TwReturns 3 k true (wordBytes (readReg .twoWire q s).1) s t ∧
          t.rfld (.tw .RESULT) 0 7 0 = 0 ∧ t.rfld (.tw .PTR) 0 23 0 = (off + 4) % 2 ^ 24 ∧
          (k.acked < 4 → RegsBut ((.tw .PTR, 0) :: twRegs) s t))) ∧
    (∃ t, exec (.twSyncRead k) s = .next t ∧
      TwReturns 13 k true (wordBytes (s.reg (.tw .SYNCL)) ++ wordBytes (s.reg (.tw .SYNCH))) s t ∧ extra t ∧
      RegsBut twRegs s t ∧ PartsBut twParts s t) ∧
    (∃ t, exec (.twAlmanacRead k) s = .next t ∧
      TwReturns 15 k true (ofWords (almanacRun (s.rfld (.tw .APTR) 0 9 0) (s.rfld (.tw .APTR) 0 15 12) s)) s t ∧
      t.rfld (.tw .APTR) 0 9 0 = (s.rfld (.tw .APTR) 0 9 0 + s.rfld (.tw .APTR) 0 15 12) % 1024 ∧
      t.rfld (.tw .APTR) 0 15 12 = s.rfld (.tw .APTR) 0 15 12 ∧ RegsBut ((.tw .APTR, 0) :: twRegs) s t ∧ PartsBut twParts s t)) ∧
  (∀ (k : TwTake) (s : State), RegFile.wf s.regs → twOn s = true → s.rbit (.hp .CFG) 0 29 = false → s.rbit (.rk .CnCTRL) 1 31 = true →
    k.extra = 0 →
    let c := s.merger.cursors[(1 : Fin 4)]
    let ws := ofWords (readEpoch s 1) ++ (List.range c.avail).flatMap (fun j => wordBytes (queueWord s (c.index + j)))
    let one : Prop := c.offset = 0 ∧ 0 < c.avail ∧ recLen s c.index = c.avail ∧ 4 * c.avail + 12 ≤ s.rfld (.tw .BCFG) 0 7 0
    (s.tw.sent = none → c.avail = 0 → ∃ t, exec (.twReadBatch k) s = .next t ∧ TwReturns 5 k true [] s t ∧ t.merger = s.merger) ∧
    (s.tw.sent = none → one → s.rbit (.tw .CFG) 0 28 = false → ws.length ≤ k.acked →
      ∃ t, exec (.twReadBatch k) s = .next t ∧ TwReturns 5 k true ws s t ∧ (t.merger.cursors[(1 : Fin 4)]).avail = 0 ∧
        (t.merger.cursors[(1 : Fin 4)]).index = (c.index + c.avail) % queueWords ∧
        (t.merger.cursors[(1 : Fin 4)]).readSeq = (c.readSeq + 1) % 4096) ∧
    (s.tw.sent = none → one → s.rbit (.tw .CFG) 0 28 = true → ws.length ≤ k.acked →
      ∃ t u v, exec (.twReadBatch k) s = .next t ∧ TwReturns 5 k true ws s t ∧ t.merger = s.merger ∧
        (∃ x, t.tw.sent = some x ∧ x.bytes = ws) ∧
        exec (.twBatchAgain k) t = .next u ∧ TwReturns 6 k true ws t u ∧ u.merger = s.merger ∧
        exec (.twReadBatch k) u = .next v ∧ TwReturns 5 k true [] u v ∧ (v.merger.cursors[(1 : Fin 4)]).avail = 0) ∧
    (s.rbit (.tw .CFG) 0 28 = false → ∃ t, exec (.twBatchAgain k) s = .next t ∧ t.rbit (.tw .STAT) 0 5 = true ∧
      t.merger = s.merger ∧ RegsBut twRegs s t ∧ PartsBut twParts s t)) ∧
  (∀ (code : BitVec 8) (s : State), RegFile.wf s.regs → twOn s = true →
    (∃ t, exec (.stretchTimeout code) s = .next t ∧ t.rbit (.tw .STAT) 0 9 = true ∧ t.rfld (.tw .RESULT) 0 7 0 = 9 ∧
      t.tw.busy = false ∧ RegsBut twRegs s t ∧ PartsBut twParts s t) ∧
    (∃ t, exec .busTimeout s = .next t ∧ t.rbit (.tw .STAT) 0 10 = true ∧ t.tw.busy = false ∧ RegsBut [(.tw .STAT, 0)] s t ∧
      PartsBut twParts s t) ∧
    (0x10 < code.toNat → ∃ t, exec (.twUnknownCode code) s = .next t ∧ t.rbit (.tw .STAT) 0 5 = true ∧
      RegsBut [(.tw .STAT, 0)] s t ∧ PartsBut twParts s t)) ∧
  (∀ s : State, RegFile.wf s.regs →
    (s.power.hub = .lull → s.rbit (.tw .CFG) 0 31 = true → s.tw.held = none → s.power.exit = .none → s.power.twMatch = false →
      ∃ t, exec .addressMatch s = .next t ∧ t.tw.held = some s.now ∧ t.power.twMatch = true ∧ t.power.wakeDue.testBit 5 = true) ∧
    (s.tw.held.isSome = true → s.clk.busOn = true → s.power.hub = .on →
      ∃ t, exec .twTakeover s = .next t ∧ t.tw.held = none ∧ t.power.twMatch = false) ∧
    (∀ h, s.tw.held = some h → reached s (h + 5760) = true → ∃ t, exec .matcherRelease s = .next t ∧ t.tw.held = none ∧
      t.power.twMatch = false ∧ t.rbit (.tw .STAT) 0 9 = true) ∧
    (s.power.hub = .calm → ∃ t, exec .calmAddressWake s = .next t ∧ t.power.hub = .lull ∧ t.power.vaneOn = true ∧
      t.rbit (.pw .WAKE) 0 5 = true) ∧
    (s.power.hub ≠ .calm → exec .calmAddressWake s = .next s)) ∧
  (∀ s : State, RegFile.wf s.regs → twOn s = true → s.tw.notify = true → s.power.parked[9] = false →
    (∃ t, exec (.hostNotify .sent) s = .next t ∧ t.tw.notify = false ∧
      t.tw.out = [BitVec.ofNat 8 (s.rfld (.tw .ADDR) 0 6 0 * 2), (twSources s &&& s.reg (.tw .NMASK)).setWidth 8,
        BitVec.ofNat 8 (twStatus s)] ∧ RegsBut [] s t ∧ PartsBut [.tw] s t) ∧
    (∀ e hi lo, (e, hi, lo) ∈ [(NotifyEnd.arb, 15, 0), (.nack, 31, 16)] → ∃ t, exec (.hostNotify e) s = .next t ∧
      Counted (.tw .NOTIFYLOST) 0 hi lo s t ∧ (s.tw.tries < 7 → t.tw.notify = true ∧ t.tw.tries = s.tw.tries + 1) ∧
      (7 ≤ s.tw.tries → t.rbit (.tw .STAT) 0 11 = true))) ∧
  (∀ (a : Accessor) (v : Word) (s : State), RegFile.wf s.regs → WriteReaches a (.tw .SWIRQ) v s →
    (v.getLsbD 0 = true → ∃ t, exec (.twSwirqSet a v) s = .next t ∧ lastAnswer a t = .done ∧ t.rbit (.tw .NSRC) 0 6 = true ∧
      RegsBut [(.tw .NSRC, 0)] s t ∧ PartsBut (.acc :: twParts) s t) ∧
    (v.getLsbD 0 = false → exec (.twSwirqSet a v) s = .next (s.answer a .done))) ∧
  ∀ (o : Nat) (s : State), RegFile.wf s.regs → s.tw.longOut = some o → s.rbit (.tw .LONG) 0 23 = true →
    ∃ t, exec .twLongDone s = .next t ∧ t.rfld (.tw .LONG) 0 15 0 = o % 65536 ∧ t.rbit (.tw .LONG) 0 23 = false ∧
      t.rbit (.tw .STAT) 0 0 = true ∧ t.tw.longOut = none ∧ RegsBut [(.tw .LONG, 0), (.tw .STAT, 0)] s t ∧ PartsBut twParts s t

/-- R414 to R419 and R424.
Where the rules leave it open, a clause follows the model's choice (log entry 66). -/
def Obligations.SensorProfiles : Prop :=
  (∀ (k : Fin 16) (s : State), RegFile.wf s.regs →
    (s.rbit (.sp .PCFG) k.val 31 = false ∨ s.rbit (.sp .PCFG) k.val 19 = false → exec (.profileTrigger k) s = .next s) ∧
    (s.rbit (.sp .PCFG) k.val 31 = true → s.rbit (.sp .PCFG) k.val 19 = true →
      (s.sensor.pend[k] = false → s.sensor.lastProf ≠ some k →
        exec (.profileTrigger k) s = .next { s with sensor := { s.sensor with pend := upd s.sensor.pend k (fun _ => true) } }) ∧
      (s.sensor.pend[k] = true ∨ (s.sensor.lastProf = some k ∧ s.sensor.frame.isSome = true) →
        ∃ t, exec (.profileTrigger k) s = .next t ∧ t.rbit (.ev .SPMISS) 0 k.val = true ∧ t.rbit (.ev .STAT) 0 2 = true ∧
          t.sensor = s.sensor ∧ RegsBut [(.ev .SPMISS, 0), (.ev .STAT, 0)] s t ∧ PartsBut [.safety, .ic, .tw] s t))) ∧
  (∀ (a : Accessor) (s : State), WriteReaches a (.sp .PCMD) 1 s →
    let k := selProfile a s
    ∃ t, exec (.profileGo a) s = .next t ∧ lastAnswer a t = .done ∧ RegsBut [] s t ∧ PartsBut [.acc, .sensor] s t ∧
      (s.rbit (.sp .PCFG) k.val 31 = true → s.sensor.pend[k] = false → s.sensor.lastProf ≠ some k →
        t.sensor = { s.sensor with pend := upd s.sensor.pend k (fun _ => true) }) ∧
      (s.rbit (.sp .PCFG) k.val 31 = false ∨ s.sensor.pend[k] = true ∨
        (s.sensor.lastProf = some k ∧ s.sensor.frame.isSome = true) → t.sensor = s.sensor)) ∧
  (∀ (s : State), s.clk.busOn = true → s.power.parked[10] = false → s.sensor.op = none →
    (∀ i : Fin 6, (s.acc[i]).stalled = none) →
    (s.rbit (.sp .CFG) 0 31 = false ∨ s.sensor.frame.isSome = true ∨ s.rbit (.sp .STAT) 0 1 = true ∨
        (s.rbit (.sp .CFG) 0 30 = true ∧ s.sensor.smmLow = true) ∨
        stLe (stAdd s.sensor.selHigh (s.rfld (.sp .CFG) 0 7 0)) s.now = false ∨ (∀ k : Fin 16, s.sensor.pend[k] = false) →
      exec .sensorFrameStart s = .next s) ∧
    (∀ k : Fin 16, s.rbit (.sp .CFG) 0 31 = true → s.sensor.frame = none → s.rbit (.sp .STAT) 0 1 = false →
      (s.rbit (.sp .CFG) 0 30 = false ∨ s.sensor.smmLow = false) →
      stLe (stAdd s.sensor.selHigh (s.rfld (.sp .CFG) 0 7 0)) s.now = true →
      s.sensor.pend[k] = true → (∀ j : Fin 16, j < k → s.sensor.pend[j] = false) → s.rfld (.sp .PPHASE) k.val 25 24 ≤ 2 →
      let f (hi lo : Nat) := s.rfld (.sp .PPHASE) k.val hi lo
      let lanes (code : Nat) : Nat := if code = 1 then 2 else if code = 2 then 4 else 1
      let cmd := s.rfld (.sp .PCMDV) k.val 15 0
      let addr := (s.reg (.sp .PADDR) k.val).toNat
      let n := f 25 24 * 8 / lanes (f 31 30) + f 23 21 * 8 / lanes (f 29 28) + f 20 16 + f 12 0 * 8 / lanes (f 27 26)
      let div := s.rfld (.sp .PCFG) k.val 23 20 + 1
      ∃ t x, exec .sensorFrameStart s = .next t ∧ t.sensor.frame = some x ∧ x.work = .profile k ∧
        x.endAt = stAdd s.now (s.rfld (.sp .CFG) 0 15 8 + 2 * n * div) ∧ x.selHigh = stAdd x.endAt div ∧
        x.out = (if f 25 24 = 2 then [BitVec.ofNat 8 (cmd / 256), BitVec.ofNat 8 cmd]
            else if f 25 24 = 1 then [BitVec.ofNat 8 cmd] else []) ++
          (List.range (f 23 21)).map (fun i => BitVec.ofNat 8 (addr / 256 ^ (f 23 21 - 1 - i))) ++
          (if s.rbit (.sp .PCFG) k.val 28 = true
            then (List.range (f 12 0)).map (fun i => s.readByte ((s.reg (.sp .PBUF) k.val).toNat + i)) else []) ∧
        t.sensor.pend = upd s.sensor.pend k (fun _ => false) ∧ t.sensor.lastProf = some k ∧
        t.sensor.scsa = (if s.rbit (.sp .PCFG) k.val 29 = true then s.sensor.scsa else s.rfld (.sp .PCFG) k.val 27 24) ∧
        RegsBut [] s t ∧ PartsBut [.sensor] s t)) ∧
  (∀ (k : Fin 16) (data : List Byte) (x : SpFrame) (s : State), RegFile.wf s.regs → Memory.wf s.mem →
    s.sensor.frame = some x → x.work = .profile k → stLe x.endAt s.now = true → s.rbit (.sp .PCFG) k.val 28 = false →
    0 < data.length → data.length = s.rfld (.sp .PPHASE) k.val 12 0 → data.length ≤ 4096 →
    let len := data.length
    let base := (s.reg (.sp .PBUF) k.val).toNat
    ∃ t, exec (.sensorFrameEnd data) s = .next t ∧ t.sensor.frame = none ∧ t.sensor.selHigh = x.selHigh ∧
      t.sensor.pend = s.sensor.pend ∧ t.rbit (.sp .PSTAT) k.val 1 = true ∧ Counted (.sp .PCNT) k.val 31 16 s t ∧
      (s.rbit (.sp .PCFG) k.val 12 = true → ∀ i, 240 * i < len → ∃ r ∈ t.merger.arriving, r.typ = tMeasure ∧
        r.source = 0xC0 + k.val ∧ r.stamp = s.now ∧
        r.body = (at_ k.val 28 ||| at_ (min 240 (len - 240 * i)) 16 ||| at_ (b2n (decide (240 * i + 240 < len))) 15) ::
          toWords ((data.drop (240 * i)).take 240)) ∧
      (s.rbit (.sp .PCFG) k.val 10 = true → sramRangeOk base len = true →
        ∀ i < len, t.readByte (base + i) = data.getD i 0) ∧
      (s.rbit (.sp .PCFG) k.val 10 = false → t.mem = s.mem) ∧
      (s.rbit (.sp .PCFG) k.val 11 = true → len < s.rfld (.sp .PAXIS) k.val 11 0 + 2 →
        t.rbit (.sp .PSTAT) k.val 2 = true ∧ t.slots = s.slots) ∧
      (s.rbit (.sp .PCFG) k.val 11 = false → t.slots = s.slots) ∧
      (∀ d : Fin 32, s.rbit (.sp .PCFG) k.val 11 = true → s.rfld (.sp .PAXIS) k.val 11 0 + 2 ≤ len → slotOn s d = true →
        s.rbit (.ds .IMBAL) d.val 31 = true → s.rfld (.ds .IMBAL) d.val 27 24 = k.val → (s.slots[d]).winCount = 0 →
        1 < s.rfld (.ds .IMBAL) d.val 23 16 →
        let o := s.rfld (.sp .PAXIS) k.val 11 0
        let axis : Int := (if s.rbit (.sp .PAXIS) k.val 12 = true then data.getD o 0 ++ data.getD (o + 1) 0
          else data.getD (o + 1) 0 ++ data.getD o 0 : BitVec 16).toInt
        (t.slots[d]).winCount = 1 ∧ (t.slots[d]).winMax = axis ∧ (t.slots[d]).winMin = axis) ∧
      (s.rbit (.sp .PCFG) k.val 11 = false → s.rbit (.sp .PEVT) k.val 31 = true → ∃ q : Publication,
        t.router.inflight = s.router.inflight ++ [q] ∧ q.channel = some (ix 64 (s.rfld (.sp .PEVT) k.val 29 24)) ∧
        q.edge = s.clk.edge)) ∧
  (∀ (a : Accessor) (v : Word) (s : State), RegFile.wf s.regs →
    let k := selProfile a s
    let bad (base len : Nat) : Prop := 0 < len ∧ sramRangeOk base len = false
    (WriteReaches a (.sp .PBUF) v s →
      ∃ t, exec (.profileBufferWrite a false v) s = .next t ∧ lastAnswer a t = .done ∧
        (bad (v &&& 0xFFFFFFFC).toNat (s.rfld (.sp .PPHASE) k.val 12 0) → t.reg (.sp .PBUF) k.val = s.reg (.sp .PBUF) k.val) ∧
        (¬bad (v &&& 0xFFFFFFFC).toNat (s.rfld (.sp .PPHASE) k.val 12 0) →
          t.reg (.sp .PBUF) k.val = (s.reg (.sp .PBUF) k.val &&& 3) ||| (v &&& 0xFFFFFFFC)) ∧
        RegsBut [(.sp .PBUF, k.val)] s t ∧ PartsBut [.acc] s t) ∧
    (WriteReaches a (.sp .PPHASE) v s →
      let refused : Prop := fld v 31 30 = 3 ∨ fld v 29 28 = 3 ∨ fld v 27 26 = 3 ∨ 4 < fld v 23 21 ∨ 4096 < fld v 12 0 ∨
        bad (s.reg (.sp .PBUF) k.val).toNat (fld v 12 0)
      ∃ t, exec (.profileBufferWrite a true v) s = .next t ∧ lastAnswer a t = .done ∧
        (refused → t.reg (.sp .PPHASE) k.val = s.reg (.sp .PPHASE) k.val) ∧
        (¬refused → t.reg (.sp .PPHASE) k.val = (s.reg (.sp .PPHASE) k.val &&& 0xE000) ||| (v &&& 0xFFFF1FFF)) ∧
        RegsBut [(.sp .PPHASE, k.val)] s t ∧ PartsBut [.acc] s t) ∧
    (∀ base len, sramRangeOk base len = true ↔ 0x20000000 ≤ base ∧ base + len ≤ 0x20180000 ∧
      ∀ b ∈ [6, 7, 9, 10, 11], base + len ≤ 0x20000000 + 0x20000 * b ∨ 0x20000000 + 0x20000 * b + 0x20000 ≤ base)) ∧
  (∀ (low : Bool) (s : State), s.sensor.frame = none ∨ low = false ∨ s.rbit (.sp .CFG) 0 30 = false →
    exec (.modeFault low) s = .next { s with sensor := { s.sensor with smmLow := low } }) ∧
  ∀ (k : Fin 16) (x : SpFrame) (s : State), RegFile.wf s.regs → s.sensor.frame = some x → x.work = .profile k →
    s.sensor.op = none → s.rbit (.sp .CFG) 0 30 = true → (∀ i : Fin 6, (s.acc[i]).stalled = none) →
    ∃ t, exec (.modeFault true) s = .next t ∧ t.sensor.frame = none ∧ t.sensor.pend = s.sensor.pend ∧
      t.rbit (.sp .STAT) 0 1 = true ∧ t.rbit (.sp .PSTAT) k.val 3 = true ∧ Counted (.sp .PCNT) k.val 15 0 s t ∧
      t.merger = s.merger ∧ t.mem = s.mem ∧ t.slots = s.slots ∧
      (s.rbit (.sp .PEVT) k.val 23 = true → ∃ q : Publication, t.router.inflight = s.router.inflight ++ [q] ∧
        q.channel = some (ix 64 (s.rfld (.sp .PEVT) k.val 21 16)) ∧ q.edge = s.clk.edge) ∧
      RegsBut [(.sp .STAT, 0), (.sp .PSTAT, k.val), (.sp .PCNT, k.val)] s t ∧
      PartsBut [.sensor, .router, .safety, .ic, .tw] s t

/-- R420 to R424.
Where the rules leave it open, a clause follows the model's choice (log entries 24, 55 and 66). -/
def Obligations.FlashWindow : Prop :=
  let begins (code addr : Nat) (bytes : List Byte) (t : State) : Prop := ∃ o, t.sensor.op = some o ∧ o.code = code ∧
    o.addr = addr ∧ o.bytes = bytes ∧ o.step = .enable
  (∀ (a : Accessor) (off : BitVec 26) (size : Nat) (s : State), RegFile.wf s.regs → size = 1 ∨ size = 2 ∨ size = 4 →
    regionOf (0x60000000 + off.toNat) size = .window → sees a .window s = true → s.clk.busOn = true →
    let n := off.toNat
    let lost : Prop := s.rbit (.sp .CFG) 0 31 = false ∨ (s.rbit (.sp .FCFG) 0 14 = false ∧ 0x1000000 ≤ n)
    let fails (t : State) : Prop := lastAnswer a t = .busError ∧ t.rbit (.sp .STAT) 0 2 = true ∧
      RegsBut [(.sp .STAT, 0)] s t ∧ PartsBut [.acc, .safety, .ic, .tw] s t
    (lost → (∃ t, exec (.windowRead a off size) s = .next t ∧ fails t) ∧
      ∀ v, ∃ t, exec (.windowWrite a off size v) s = .next t ∧ fails t) ∧
    (¬lost → s.sensor.buf = none →
      (∀ c : CacheLine, c.line = n / 32 → s.sensor.cache.find? (fun x => x.line == n / 32) = some c →
        ∃ t, exec (.windowRead a off size) s = .next t ∧
          lastAnswer a t = .bytes ((List.range size).map (fun i => c.bytes.getD ((n + i) % 32) 0)) ∧
          t.sensor.cache.head? = some c ∧ RegsBut [] s t ∧ PartsBut [.acc, .sensor] s t) ∧
      ((∀ c ∈ s.sensor.cache, c.line ≠ n / 32) →
        (s.rbit (.sp .STAT) 0 1 = true → ∃ t, exec (.windowRead a off size) s = .next t ∧ fails t) ∧
        (s.rbit (.sp .STAT) 0 1 = false → ∃ t, exec (.windowRead a off size) s = .next t ∧
          t.acc[accIx a] = { answer := .stalled, stalled := some { addr := 0x60000000 + n, size := size, write := none } } ∧
          (s.sensor.frame.isSome = true → Counted (.sp .FCCNT) 0 15 0 s t) ∧
          RegsBut [(.sp .FCCNT, 0)] s t ∧ PartsBut [.acc] s t))) ∧
    (¬lost → ∀ b : PageBuf, s.sensor.buf = some b → s.sensor.op = none →
      ∃ t, exec (.windowRead a off size) s = .next t ∧ begins 1 b.start b.bytes t ∧ t.sensor.buf = none) ∧
    (¬lost → ∀ v : Word, (∀ c ∈ s.sensor.cache, c.line ≠ n / 32) →
      (s.sensor.op.isSome = true → ∃ t, exec (.windowWrite a off size v) s = .next t ∧
        t.acc[accIx a] = { answer := .stalled, stalled := some { addr := 0x60000000 + n, size := size, write := some v } } ∧
        RegsBut [] s t ∧ PartsBut [.acc] s t) ∧
      (s.sensor.op = none →
        let bs := (wordBytes v).take size
        ∃ t, exec (.windowWrite a off size v) s = .next t ∧ lastAnswer a t = .done ∧ t.sensor.cache = s.sensor.cache ∧
          RegsBut [] s t ∧ PartsBut [.acc, .sensor] s t ∧
          (s.sensor.buf = none → (n + size) % 256 ≠ 0 →
            t.sensor.op = none ∧ t.sensor.buf = some { start := n, bytes := bs, last := s.now }) ∧
          (∀ b, s.sensor.buf = some b → b.start + b.bytes.length = n → n / 256 = b.start / 256 →
            ((n + size) % 256 ≠ 0 → t.sensor.op = none ∧
              t.sensor.buf = some { start := b.start, bytes := b.bytes ++ bs, last := s.now }) ∧
            ((n + size) % 256 = 0 → t.sensor.buf = none ∧ begins 1 b.start (b.bytes ++ bs) t)) ∧
          (∀ b, s.sensor.buf = some b → b.start + b.bytes.length ≠ n ∨ n / 256 ≠ b.start / 256 → (n + size) % 256 ≠ 0 →
            begins 1 b.start b.bytes t ∧ t.sensor.buf = some { start := n, bytes := bs, last := s.now })))) ∧
  (∀ (b : PageBuf) (s : State), s.sensor.buf = some b → s.sensor.op = none →
    (us 50 ≤ sinceTicks b.last s.now → ∃ t, exec .pageBufferIdle s = .next t ∧ begins 1 b.start b.bytes t ∧
      t.sensor.buf = none ∧ t.sensor.cache = s.sensor.cache ∧ RegsBut [] s t ∧ PartsBut [.sensor] s t) ∧
    (sinceTicks b.last s.now < us 50 → exec .pageBufferIdle s = .next s)) ∧
  (∀ (status : Byte) (x : SpFrame) (o : FlashOp) (s : State), RegFile.wf s.regs → s.sensor.frame = some x →
    s.sensor.op = some o → x.work = .poll → stLe x.endAt s.now = true →
    ∃ t, exec (.flashStatusPoll status) s = .next t ∧ t.sensor.frame = none ∧
      (status.getLsbD (s.rfld (.sp .FPROG) 0 2 0) = true → t.sensor.op = some { o with
        nextPoll := stAdd s.now (us (s.rfld (.sp .FPOLL) 0 31 16)) } ∧ RegsBut [] s t ∧ PartsBut [.sensor] s t) ∧
      (status.getLsbD (s.rfld (.sp .FPROG) 0 2 0) = false → t.rbit (.sp .FSTAT) 0 0 = true ∧
        RegsBut [(.sp .FSTAT, 0)] s t ∧ PartsBut [.sensor, .safety, .ic, .tw] s t ∧
        (s.sensor.after = none → s.sensor.bufDue = false → t.sensor.op = none) ∧
        (∀ e, s.sensor.after = some e → t.sensor.op = some e))) ∧
  (∀ (o : FlashOp) (s : State), RegFile.wf s.regs → s.sensor.op = some o → o.step = .polling →
    (ms (10 * s.rfld (.sp .FPOLL) 0 15 0) ≤ sinceTicks o.pollStart s.now → s.sensor.after = none → s.sensor.bufDue = false →
      ∃ t, exec .flashOperationTimeout s = .next t ∧ t.sensor.op = none ∧ t.rbit (.sp .FSTAT) 0 2 = true ∧
        RegsBut [(.sp .FSTAT, 0)] s t ∧ PartsBut [.sensor, .safety, .ic, .tw] s t) ∧
    (sinceTicks o.pollStart s.now < ms (10 * s.rfld (.sp .FPOLL) 0 15 0) → exec .flashOperationTimeout s = .next s)) ∧
  (∀ (a : Accessor) (addr : BitVec 26) (s : State) (op : Nat) (c : Instr) (v : Word),
    (op, c, v) ∈ [(1, Instr.flashEraseSector a addr, 0x10000000 ||| addr.setWidth 32),
      (2, .flashEraseBlock a addr, 0x20000000 ||| addr.setWidth 32), (3, .flashEraseDevice a, 0x30000000),
      (4, .flashProgramBuffer a, 0x40000000), (5, .cacheInvalidate a, 0x50000000)] →
    WriteReaches a (.sp .FCMD) v s →
    ∃ t, exec c s = .next t ∧ lastAnswer a t = .done ∧ RegsBut [] s t ∧ PartsBut [.acc, .sensor] s t ∧
      (s.sensor.op.isSome = true → t.sensor = s.sensor) ∧
      (s.sensor.op = none → op ≤ 3 → s.sensor.buf = none →
        begins (op + 1) (if op = 3 then 0 else addr.toNat) [] t ∧ t.sensor.cache = []) ∧
      (∀ b, s.sensor.op = none → op ≤ 3 → s.sensor.buf = some b → begins 1 b.start b.bytes t ∧ t.sensor.buf = none ∧
        ∃ o, t.sensor.after = some o ∧ o.code = op + 1 ∧ o.addr = (if op = 3 then 0 else addr.toNat)) ∧
      (∀ b, s.sensor.op = none → op = 4 → s.sensor.buf = some b → begins 1 b.start b.bytes t ∧ t.sensor.buf = none) ∧
      (s.sensor.op = none → op = 5 → t.sensor.cache = [] ∧ t.sensor.op = none))

/-- R430 to R436, R438 to R440, R443 and R444.
Where the rules leave it open, a clause follows the model's choice (log entry 67). -/
def Obligations.RouterDelivers : Prop :=
  let small (p : Publication) : Prop := p.producer < 256 ∧ p.inst < 256 ∧ p.output < 256
  (∀ (p : Publication) (c : Fin 64) (s : State), RegFile.wf s.regs → s.router.inflight = [p] → p.channel = some c →
    small p → p.busServed = false → dueEdge p ≤ s.clk.edge → s.power.parked[11] = false →
    let hops : Bool := decide (p.hop < 8 ∧ p.hop ≤ s.rfld (.ev .CTRL) 0 2 0)
    let base (i : Nat) : Bool := if hops then (s.rbit (.ev .GATE) 0 i || s.rbit (.ev .CCFG) c.val (8 + i)) &&
      !(s.rbit (.ev .CCFG) c.val i) else s.rbit (.ev .GATE) 0 i
    let after (i : Nat) : Bool := match s.router.gateHeld with
      | some (v, gs) => if gs.testBit i then v.testBit i else base i
      | none => base i
    let seen : Reg := if c.val < 32 then .ev .SEENL else .ev .SEENH
    let noSub : Prop := ∀ k < 8, s.rbit (.ev .SUB) (c.val * 8 + k) 31 = false
    let noLane : Prop := ∀ k < 16, s.rbit (.ln .CTRL) k 29 = false ∨ s.rfld (.ln .CTRL) k 28 23 ≠ c.val
    let bound (j : Nat) : Prop := s.rbit (.sp .PCFG) j 19 = true ∧ s.rfld (.sp .PCFG) j 18 13 = c.val
    let only (code inst input : Nat) : Prop := noLane ∧ (∀ j < 16, ¬bound j) ∧ ∃ k < 8,
      (∀ j < 8, s.rbit (.ev .SUB) (c.val * 8 + j) 31 = decide (j = k)) ∧
      s.rfld (.ev .SUB) (c.val * 8 + k) 23 16 = code ∧ s.rfld (.ev .SUB) (c.val * 8 + k) 15 8 = inst ∧
      s.rfld (.ev .SUB) (c.val * 8 + k) 7 0 = input
    let evRegs : List (Reg × Nat) := [(.ev .GATE, 0), (.ev .CSTAT, c.val), (.ev .CCNT, c.val), (.ev .STAT, 0)]
    let delivered (t : State) : Prop := (∀ i < 8, t.rbit (.ev .GATE) 0 i = after i) ∧
      t.rbit seen 0 (c.val % 32) = true ∧ Counted (.ev .CCNT) c.val 31 16 s t ∧
      t.reg (.ev .LASTST) c.val = stLo s.now ∧ t.rfld (.ev .LASTINF) c.val 31 29 = p.hop ∧
      t.rbit (.ev .LASTINF) c.val 28 = p.sw
    (hops = false → ∃ t, exec .eventDelivery s = .next t ∧ t.rbit (.ev .CSTAT) c.val 3 = true ∧
      t.rbit (.ev .STAT) 0 3 = true ∧ Counted (.ev .CCNT) c.val 15 0 s t ∧ (∀ i < 8, t.rbit (.ev .GATE) 0 i = after i) ∧
      t.router.inflight = [] ∧ t.router.last = s.router.last ∧ RegsBut evRegs s t ∧ PartsBut [.router, .safety, .ic, .tw] s t) ∧
    (hops = true → after (c.val / 8) = false → ∃ t, exec .eventDelivery s = .next t ∧ t.rbit (.ev .CSTAT) c.val 2 = true ∧
      Counted (.ev .CCNT) c.val 15 0 s t ∧ (∀ i < 8, t.rbit (.ev .GATE) 0 i = after i) ∧
      t.router.inflight = [] ∧ t.router.last = s.router.last ∧ RegsBut evRegs s t ∧ PartsBut [.router, .safety, .ic, .tw] s t) ∧
    (hops = true → after (c.val / 8) = true →
      (noSub → noLane → (∀ j < 16, ¬bound j) → ∃ t, exec .eventDelivery s = .next t ∧ delivered t ∧
        RegsBut ((seen, 0) :: (.ev .LASTST, c.val) :: (.ev .LASTINF, c.val) :: evRegs) s t ∧
        PartsBut [.router, .safety, .ic, .tw] s t) ∧
      (only 7 0 0 → ∃ t, exec .eventDelivery s = .next t ∧ delivered t ∧ ∃ r ∈ t.merger.arriving, r.typ = tEvent ∧
        r.source = 0x80 + c.val ∧ r.stamp = s.now ∧ fld (r.body.getD 0 0) 31 26 = c.val ∧ fld (r.body.getD 0 0) 25 23 = p.hop ∧
        bit (r.body.getD 0 0) 22 = p.sw ∧ (p.sw = false →
          fld (r.body.getD 1 0) 31 24 = p.producer ∧ fld (r.body.getD 1 0) 23 16 = p.inst ∧
          fld (r.body.getD 1 0) 15 8 = p.output)) ∧
      (∀ i < 16, only 8 0 i → ∃ t, exec .eventDelivery s = .next t ∧ delivered t ∧ (t.ic.sources[ix 160 i]).latch = true) ∧
      (∀ n : Fin 16, only 4 n.val 0 → s.timers[n].run = false → s.power.parked[12] = false →
        (∀ e ∈ s.router.last, e.2.edge ≠ s.clk.edge) → ∃ t, exec .eventDelivery s = .next t ∧ delivered t ∧
          t.timers[n].run = true ∧ ∀ e, s.clk.edge ≤ e → e ≤ s.clk.edge + 4 →
            hopOf 4 n.val { t with clk := { t.clk with edge := e } } = p.hop + 1) ∧
      (∀ k : Fin 16, noSub → noLane → bound k.val → (∀ j < 16, j ≠ k.val → ¬bound j) → s.rbit (.sp .PCFG) k.val 31 = true →
        ∃ t, exec .eventDelivery s = .next t ∧ delivered t ∧
          (s.sensor.pend[k] = true → t.rbit (.ev .SPMISS) 0 k.val = true ∧ t.rbit (.ev .STAT) 0 2 = true ∧
            t.sensor = s.sensor) ∧
          (s.sensor.pend[k] = false → s.sensor.lastProf ≠ some k →
            t.sensor = { s.sensor with pend := upd s.sensor.pend k (fun _ => true) })))) ∧
  (∀ (p q : Publication) (c : Fin 64) (s : State), RegFile.wf s.regs → s.router.inflight = [p, q] →
    p.channel = some c → q.channel = some c → small p → small q → p.busServed = false → q.busServed = false → dueEdge p ≤ s.clk.edge →
    dueEdge q ≤ s.clk.edge → s.power.parked[11] = false → p.hop < 8 → p.hop ≤ s.rfld (.ev .CTRL) 0 2 0 →
    q.hop ≤ p.hop → s.router.gateHeld = none → s.rbit (.ev .GATE) 0 (c.val / 8) = true → s.rfld (.ev .CCFG) c.val 7 0 = 0 →
    ∃ t, exec .eventDelivery s = .next t ∧ t.rbit (.ev .CSTAT) c.val 1 = true ∧ Counted (.ev .CCNT) c.val 31 16 s t ∧
      t.rfld (.ev .LASTINF) c.val 31 29 = p.hop) ∧
  (∀ s : State, (∀ p ∈ s.router.inflight, s.clk.edge < dueEdge p) ∨ s.power.parked[11] = true →
    exec .eventDelivery s = .next s) ∧
  (∀ (a : Accessor) (c : Fin 64) (s : State), mayWriteChannel a c s = true ↔
    (a, s.rfld (.ev .CCFG) c.val 31 30) ∈ [(.a0, 0), (.a1, 1), (.vane, 2)] ∧
    (s.rbit (.ev .CCFG) c.val 29 = false ∨ secure a s = true)) ∧
  (∀ (a : Accessor) (high : Bool) (v : Word) (s : State), RegFile.wf s.regs →
    WriteReaches a (if high then .ev .SWPUBH else .ev .SWPUBL) v s →
    let named (c : Fin 64) : Bool := decide (c.val / 32 = b2n high) && bit v (c.val % 32)
    let pub (c : Fin 64) : Publication := ⟨some c, s.clk.edge, true, 0, true, 0, 0, 0, 5, false⟩
    ∃ t, exec (.softwarePublish a high v) s = .next t ∧ lastAnswer a t = .done ∧
      t.router.inflight = s.router.inflight ++
        ((List.finRange 64).filter (fun c => named c && mayWriteChannel a c s)).map pub ∧
      ((∃ c, named c = true ∧ mayWriteChannel a c s = false) → t.rbit (.ev .STAT) 0 0 = true) ∧
      ((∀ c, named c = true → mayWriteChannel a c s = true) → RegsBut [] s t) ∧
      RegsBut [(.ev .STAT, 0)] s t ∧ PartsBut [.acc, .router, .safety, .ic, .tw] s t) ∧
  (∀ (a : Accessor) (v : Word) (s : State), RegFile.wf s.regs → WriteReaches a (.ev .GATE) v s →
    let may (g : Nat) : Prop := ∀ c : Fin 64, c.val / 8 = g → s.rfld (.ev .CCFG) c.val 31 30 ≠ 3 ∧
      (s.rbit (.ev .CCFG) c.val 29 = true → mayWriteChannel a c s = true)
    ∃ t, exec (.gateWrite a v) s = .next t ∧ lastAnswer a t = .done ∧ RegsBut [(.ev .GATE, 0)] s t ∧
      PartsBut [.acc, .router] s t ∧
      ((∀ p ∈ s.router.inflight, s.clk.edge < dueEdge p) → t.router = s.router ∧
        ∀ g < 8, (may g → t.rbit (.ev .GATE) 0 g = bit v g) ∧ (¬may g → t.rbit (.ev .GATE) 0 g = s.rbit (.ev .GATE) 0 g)) ∧
      ((∃ p ∈ s.router.inflight, dueEdge p ≤ s.clk.edge) → RegsBut [] s t ∧ ∃ gs, t.router.gateHeld = some (v.toNat % 256, gs) ∧
        ∀ g < 8, gs.testBit g = true ↔ may g)) ∧
  ∀ (a : Accessor) (k : Nat) (v : Word) (s : State), RegFile.wf s.regs →
    let c := selChannel a s
    let code := fld v 23 16
    let inst := fld v 15 8
    let item := fld v 7 0
    let fits (table : List (Nat × Nat × Nat)) : Prop := ∃ row ∈ table, code = row.1 ∧ inst < row.2.1 ∧ item < row.2.2
    (∀ hk : k < 4, WriteReaches a (.ev .PUB) v s →
      let u := c.val * 8 + k
      let listed := fits [(1, 16, 2), (3, 32, 4), (4, 16, 4), (5, 2, 3), (6, 16, 2), (7, 1, 4)]
      let held : Prop := s.rbit (.ev .PUB) u 31 = true ∧ s.rfld (.ev .PUB) u 23 16 = 2
      ∃ t, exec (.routeEntryWrite a (.pub ⟨k, hk⟩) v) s = .next t ∧ lastAnswer a t = .done ∧
        (mayWriteChannel a c s = false → t.rbit (.ev .STAT) 0 0 = true ∧ t.reg (.ev .PUB) u = s.reg (.ev .PUB) u) ∧
        (held ∨ (bit v 31 = true ∧ ¬listed) → t.reg (.ev .PUB) u = s.reg (.ev .PUB) u) ∧
        (mayWriteChannel a c s = true → ¬held → (bit v 31 = false ∨ listed) →
          t.reg (.ev .PUB) u = (s.reg (.ev .PUB) u &&& 0x7F000000) ||| (v &&& 0x80FFFFFF)) ∧
        RegsBut [(.ev .PUB, u), (.ev .STAT, 0)] s t ∧ PartsBut [.acc, .safety, .ic, .tw] s t) ∧
    ∀ hk : k < 8, WriteReaches a (.ev .SUB) v s →
      let u := c.val * 8 + k
      let listed := fits [(1, 16, 1), (3, 32, 4), (4, 16, 5), (5, 2, 8), (6, 16, 1), (7, 1, 1), (8, 1, 16)]
      ∃ t, exec (.routeEntryWrite a (.sub ⟨k, hk⟩) v) s = .next t ∧ lastAnswer a t = .done ∧
        (mayWriteChannel a c s = false → t.rbit (.ev .STAT) 0 0 = true ∧ t.reg (.ev .SUB) u = s.reg (.ev .SUB) u) ∧
        (bit v 31 = true → ¬listed → t.reg (.ev .SUB) u = s.reg (.ev .SUB) u) ∧
        (mayWriteChannel a c s = true → (bit v 31 = false ∨ listed) → t.rbit (.ev .SUB) u 31 = bit v 31 ∧
          t.rfld (.ev .SUB) u 23 0 = fld v 23 0 ∧ t.rbit (.ev .SUB) u 30 = (s.rbit (.ev .SUB) u 30 && !(bit v 30)) ∧
          t.rbit (.ev .SUB) u 29 = (s.rbit (.ev .SUB) u 29 && !(bit v 29))) ∧
        RegsBut [(.ev .SUB, u), (.ev .STAT, 0)] s t ∧ PartsBut [.acc, .safety, .ic, .tw] s t

/-- R449 to R451, R454, R456, R461 to R464.
Where the rules leave it open, a clause follows the model's choice (log entry 68). -/
def Obligations.TimersRunAndCapture : Prop :=
  let by_ (bits : Word) (n : Fin 16) (s : State) : TimerVia → Prop
    | .register a => WriteReaches a (.tm .CMD) bits s ∧ selTimer a s = n
    | .task m => m = n ∧ (bits = 1 → s.power.parked[12] = false)
  let act (code : Nat) (old : Bool) : Bool := if code = 1 then true else if code = 2 then false else if code = 3 then !old else old
  let others (n : Fin 16) (s t : State) : Prop := ∀ m : Fin 16, m ≠ n → t.timers[m] = s.timers[m]
  let tmRegs (n : Fin 16) : List (Reg × Nat) := [(.tm .STAT, n.val), (.tm .OUT, n.val)]
  (∀ (n : Fin 16) (via : TimerVia) (s : State), RegFile.wf s.regs → by_ 1 n s via →
    let x := s.timers[n]
    let o (hi lo : Nat) := s.rfld (.tm .OUT) n.val hi lo
    let level := s.rbit (.tm .OUT) n.val 31
    let cmpA := s.reg (.tm .CMPA) n.val
    let cmpB := s.reg (.tm .CMPB) n.val
    let firesA : Bool := !x.aFired && decide (cmpA ≤ x.count)
    let firesB : Bool := !x.bFired && decide (cmpB ≤ x.count)
    let fire (y : Timer) : Timer := { y with aFired := x.aFired || firesA, bFired := x.bFired || firesB }
    ∃ t, exec (.timerStart via) s = .next t ∧ others n s t ∧ RegsBut (tmRegs n) s t ∧
      PartsBut [.acc, .timers, .router, .safety, .ic, .tw] s t ∧
      (x.run = true → t.timers = s.timers ∧ RegsBut [] s t ∧ PartsBut [.acc] s t) ∧
      (x.run = false → t.timers[n] = fire { x with run := true, pre := 0, due := false } ∧
        t.rbit (.tm .OUT) n.val 31 = act (o 3 2) ((fun l => if firesB then act (o 5 4) l else l)
          (if firesA then act (o 7 6) level else level)) ∧
        (∃ qs, t.router.inflight = s.router.inflight ++ qs ∧ qs.length = b2n firesA + b2n firesB ∧
          (∀ q ∈ qs, q.producer = 4 ∧ q.inst = n.val ∧ q.edge = s.clk.edge) ∧
          qs.map (fun q => q.output) = (if firesA then [0] else []) ++ (if firesB then [1] else [])) ∧
        (firesA = true → t.rbit (.tm .STAT) n.val 4 = true) ∧ (firesB = true → t.rbit (.tm .STAT) n.val 5 = true) ∧
        (x.aFired = false → x.count < cmpA → x.reload < cmpA → t.rbit (.tm .STAT) n.val 1 = true) ∧
        (x.bFired = false → x.count < cmpB → x.reload < cmpB → t.rbit (.tm .STAT) n.val 1 = true))) ∧
  (∀ (a : Accessor) (mask : BitVec 16) (s : State), WriteReaches a (.tm .GSTART) (mask.setWidth 32) s →
    ∃ t, exec (.timerGroupStart a mask) s = .next t ∧ lastAnswer a t = .done ∧ ∀ n : Fin 16,
      t.timers[n].run = (s.timers[n].run || mask.getLsbD n.val) ∧ t.timers[n].count = s.timers[n].count ∧
      (mask.getLsbD n.val = true → s.timers[n].run = false → t.timers[n].pre = 0) ∧
      (mask.getLsbD n.val = false ∨ s.timers[n].run = true → t.timers[n] = s.timers[n])) ∧
  (∀ (n : Fin 16) (via : TimerVia) (s : State), RegFile.wf s.regs → by_ 2 n s via →
    ∃ t, exec (.timerStop via) s = .next t ∧ t.timers = upd s.timers n (fun x => { x with run := false }) ∧
      t.rbit (.tm .OUT) n.val 31 = (if s.timers[n].run then act (s.rfld (.tm .OUT) n.val 1 0) (s.rbit (.tm .OUT) n.val 31)
        else s.rbit (.tm .OUT) n.val 31) ∧ RegsBut [(.tm .OUT, n.val)] s t ∧ PartsBut [.acc, .timers] s t) ∧
  (∀ (n : Fin 16) (via : TimerVia) (s : State), RegFile.wf s.regs → by_ 4 n s via →
    let rl := s.reg (.tm .RELOAD) n.val
    let x := s.timers[n]
    let zero (y : Timer) : Timer := { y with count := 0, pre := 0, aFired := false, bFired := false, due := false }
    ∃ t, exec (.timerClear via) s = .next t ∧ others n s t ∧
      t.timers[n] = zero { x with pend := false, reload := if x.pend then rl else x.reload } ∧
      (x.pend = true → rl < s.reg (.tm .CMPA) n.val ∨ rl < s.reg (.tm .CMPB) n.val → t.rbit (.tm .STAT) n.val 1 = true) ∧
      RegsBut [(.tm .STAT, n.val)] s t ∧ PartsBut [.acc, .timers, .safety, .ic, .tw] s t) ∧
  (∀ (n : Fin 16) (via : CaptureVia) (s : State), RegFile.wf s.regs → s.timers[n].due = false →
    (match via with
      | .register a => WriteReaches a (.tm .CMD) 8 s ∧ selTimer a s = n
      | .task m => m = n
      | .pin m rising => m = n ∧ s.rfld (.tm .CFG) n.val 29 28 = 2 ∧
        (s.rfld (.tm .CFG) n.val 27 26 = 2 ∨ s.rfld (.tm .CFG) n.val 27 26 = if rising then 0 else 1)) →
    ¬(s.timers[n].capDue = true ∧ s.timers[n].capStamp = s.now) →
    ∃ t, exec (.timerCapture via) s = .next t ∧ t.reg (.tm .CAP) n.val = s.timers[n].count ∧
      t.timers = upd s.timers n (fun x => { x with full := true, capStamp := s.now, capDue := true }) ∧
      t.rbit (.tm .STAT) n.val 7 = true ∧
      t.rbit (.tm .STAT) n.val 0 = (s.rbit (.tm .STAT) n.val 0 || s.timers[n].full) ∧
      RegsBut [(.tm .CAP, n.val), (.tm .STAT, n.val)] s t ∧ PartsBut [.acc, .timers, .safety, .ic, .tw] s t) ∧
  (∀ (n : Fin 16) (rising : Bool) (s : State), s.rfld (.tm .CFG) n.val 29 28 ≠ 2 ∨
      s.rfld (.tm .CFG) n.val 27 26 = (if rising then 1 else 0) → exec (.timerCapture (.pin n rising)) s = .next s) ∧
  ∀ (a : Accessor) (s : State), ReadReaches a (.tm .CAP) s →
    let n := selTimer a s
    ∃ t, exec (.captureRead a) s = .next t ∧ lastAnswer a t = .data (s.reg (.tm .CAP) n.val) ∧
      t.timers = (if a = .debug then s.timers else upd s.timers n (fun x => { x with full := false })) ∧
      RegsBut [] s t ∧ PartsBut [.acc, .timers] s t

/-- R447, R448, R453 to R455, R458 to R460, R464, R466 and R469.
Where the rules leave it open, a clause follows the model's choice (log entry 68). -/
def Obligations.TimersCountAndWrites : Prop :=
  let others (n : Fin 16) (s t : State) : Prop := ∀ m : Fin 16, m ≠ n → t.timers[m] = s.timers[m]
  let publishes (n : Fin 16) (output : Nat) (s t : State) : Prop := ∃ q ∈ t.router.inflight, q.producer = 4 ∧ q.inst = n.val ∧
    q.output = output ∧ q.edge = s.clk.edge
  let parts : List Part := [.acc, .timers, .router, .safety, .ic, .tw]
  (∀ (n : Fin 16) (s : State), RegFile.wf s.regs →
    let x := s.timers[n]
    let p := s.rfld (.tm .CFG) n.val 23 16 + 1
    (x.run = false ∨ s.rbit (.tm .CFG) n.val 30 = false → exec (.timerCountEvent n) s = .next s) ∧
    (x.run = true → s.rbit (.tm .CFG) n.val 30 = true →
      (x.pre + 1 < p → ∃ t, exec (.timerCountEvent n) s = .next t ∧ others n s t ∧ t.timers[n] = { x with pre := x.pre + 1 } ∧
        RegsBut [] s t ∧ PartsBut [.timers] s t) ∧
      (p ≤ x.pre + 1 → x.count < x.reload → ∃ t, exec (.timerCountEvent n) s = .next t ∧ others n s t ∧
        t.timers[n].count = x.count + 1 ∧ t.timers[n].pre = 0 ∧ t.timers[n].run = true ∧
        RegsBut [(.tm .STAT, n.val), (.tm .OUT, n.val)] s t ∧ PartsBut parts s t) ∧
      (p ≤ x.pre + 1 → x.reload ≤ x.count → ∃ t, exec (.timerCountEvent n) s = .next t ∧ others n s t ∧
        t.timers[n].count = 0 ∧ t.timers[n].pre = 0 ∧ t.rbit (.tm .STAT) n.val 6 = true ∧ publishes n 2 s t))) ∧
  (∀ (n : Fin 16) (s : State), RegFile.wf s.regs →
    let x := s.timers[n]
    let rl := s.reg (.tm .RELOAD) n.val
    let a0 : Bool := decide (s.reg (.tm .CMPA) n.val = 0)
    let b0 : Bool := decide (s.reg (.tm .CMPB) n.val = 0)
    let zero (y : Timer) : Timer := { y with count := 0, pre := 0, due := false, aFired := a0, bFired := b0 }
    (x.run = false ∨ x.count < x.reload → exec (.timerWrap n) s = .next s) ∧
    (x.run = true → x.reload ≤ x.count → ∃ t, exec (.timerWrap n) s = .next t ∧ others n s t ∧
      t.timers[n] = zero { x with pend := false, reload := if x.pend then rl else x.reload } ∧
      t.rbit (.tm .STAT) n.val 6 = true ∧ publishes n 2 s t ∧
      (s.reg (.tm .CMPA) n.val = 0 → publishes n 0 s t ∧ t.rbit (.tm .STAT) n.val 4 = true) ∧
      (s.reg (.tm .CMPB) n.val = 0 → publishes n 1 s t ∧ t.rbit (.tm .STAT) n.val 5 = true) ∧
      t.mem = s.mem ∧ t.lanes = s.lanes ∧ t.slots = s.slots)) ∧
  (∀ (n : Fin 16) (s : State), RegFile.wf s.regs →
    let x := s.timers[n]
    (x.run = false ∨ x.reload ≤ x.count ∨ ((x.aFired = true ∨ x.count + 1 ≠ s.reg (.tm .CMPA) n.val) ∧
        (x.bFired = true ∨ x.count + 1 ≠ s.reg (.tm .CMPB) n.val)) → exec (.compareFire n) s = .next s) ∧
    (x.run = true → x.count < x.reload → x.aFired = false → x.count + 1 = s.reg (.tm .CMPA) n.val →
      (x.bFired = true ∨ x.count + 1 ≠ s.reg (.tm .CMPB) n.val) → ∃ t, exec (.compareFire n) s = .next t ∧ others n s t ∧
        t.timers[n] = { x with count := x.count + 1, pre := 0, due := false, aFired := true } ∧
        t.rbit (.tm .STAT) n.val 4 = true ∧ publishes n 0 s t ∧
        (s.rfld (.tm .OUT) n.val 7 6 = 1 → t.rbit (.tm .OUT) n.val 31 = true) ∧
        (s.rfld (.tm .OUT) n.val 7 6 = 2 → t.rbit (.tm .OUT) n.val 31 = false) ∧
        RegsBut [(.tm .STAT, n.val), (.tm .OUT, n.val)] s t ∧ PartsBut parts s t)) ∧
  (∀ (a : Accessor) (second : Bool) (v : Word) (s : State), RegFile.wf s.regs →
    let n := selTimer a s
    let r : Reg := if second then .tm .CMPB else .tm .CMPA
    let x := s.timers[n]
    let fired := if second then x.bFired else x.aFired
    let mark (y : Timer) : Timer := if second then { y with bFired := true } else { y with aFired := true }
    WriteReaches a r v s → x.due = false →
    ∃ t, exec (.compareWrite a second v) s = .next t ∧ lastAnswer a t = .done ∧ t.reg r n.val = v ∧ others n s t ∧
      RegsBut [(r, n.val), (.tm .STAT, n.val), (.tm .OUT, n.val)] s t ∧ PartsBut parts s t ∧
      (x.run = false ∨ fired = true → t.timers = s.timers ∧ RegsBut [(r, n.val)] s t ∧ PartsBut [.acc] s t) ∧
      (x.run = true → fired = false → v ≤ x.count → t.timers[n] = mark x ∧ publishes n (b2n second) s t ∧
        t.rbit (.tm .STAT) n.val (if second then 5 else 4) = true) ∧
      (x.run = true → fired = false → x.count < v → x.reload < v →
        t.timers = s.timers ∧ t.router = s.router ∧ t.rbit (.tm .STAT) n.val 1 = true) ∧
      (x.run = true → fired = false → x.count < v → v ≤ x.reload →
        t.timers = s.timers ∧ RegsBut [(r, n.val)] s t ∧ PartsBut [.acc] s t)) ∧
  (∀ (a : Accessor) (v : Word) (s : State), RegFile.wf s.regs →
    let n := selTimer a s
    let x := s.timers[n]
    WriteReaches a (.tm .RELOAD) v s → x.due = false →
    ∃ t, exec (.reloadWrite a v) s = .next t ∧ lastAnswer a t = .done ∧ t.reg (.tm .RELOAD) n.val = v ∧ others n s t ∧
      (x.run = true → s.rbit (.tm .CFG) n.val 31 = false → t.timers[n] = { x with pend := true } ∧
        RegsBut [(.tm .RELOAD, n.val)] s t ∧ PartsBut [.acc, .timers] s t) ∧
      (x.run = false ∨ s.rbit (.tm .CFG) n.val 31 = true → t.timers[n] = { x with reload := v, pend := false } ∧
        (v < x.count → t.rbit (.tm .STAT) n.val 2 = true) ∧
        (v < s.reg (.tm .CMPA) n.val ∨ v < s.reg (.tm .CMPB) n.val → t.rbit (.tm .STAT) n.val 1 = true) ∧
        RegsBut [(.tm .RELOAD, n.val), (.tm .STAT, n.val)] s t ∧ PartsBut [.acc, .timers, .safety, .ic, .tw] s t)) ∧
  (∀ (a : Accessor) (count : Bool) (v : Word) (s : State), RegFile.wf s.regs →
    let n := selTimer a s
    let x := s.timers[n]
    WriteReaches a (if count then .tm .CNT else .tm .CFG) v s →
    ∃ t, exec (.timerConfigWrite a count v) s = .next t ∧ lastAnswer a t = .done ∧
      (x.run = true → t.timers = s.timers ∧ t.rbit (.tm .STAT) n.val 3 = true ∧ RegsBut [(.tm .STAT, n.val)] s t ∧
        PartsBut [.acc, .safety, .ic, .tw] s t) ∧
      (x.run = false → count = true → t.timers = upd s.timers n (fun y => { y with count := v }) ∧ RegsBut [] s t ∧
        PartsBut [.acc, .timers] s t) ∧
      (x.run = false → count = false → t.timers = s.timers ∧ RegsBut [(.tm .CFG, n.val)] s t ∧ PartsBut [.acc] s t ∧
        t.reg (.tm .CFG) n.val = if fld v 29 28 = 3 ∨ fld v 27 26 = 3 then s.reg (.tm .CFG) n.val
          else (s.reg (.tm .CFG) n.val &&& 0x0300FFFF) ||| (v &&& 0xFCFF0000))) ∧
  ∀ (a : Accessor) (v : Word) (s : State), RegFile.wf s.regs →
    let n := selTimer a s
    WriteReaches a (.tm .OUT) v s →
    ∃ t, exec (.outputLevelWrite a v) s = .next t ∧ lastAnswer a t = .done ∧
      t.reg (.tm .OUT) n.val = (s.reg (.tm .OUT) n.val &&& 0x7FFFFC00) ||| (v &&& 0x800003FF) ∧
      RegsBut [(.tm .OUT, n.val)] s t ∧ PartsBut [.acc] s t

/-- R478 to R481, R483 to R488. -/
def Obligations.InterruptsServed : Prop :=
  let prio (s : State) (n : Fin 160) : Nat := s.rfld (.ic .SRC) n.val 3 0
  let taken (s : State) (n : Fin 160) : Bool := isPending s n || (s.ic.sources[n]).service.isSome
  (∀ (s : State) (x : Fin 3), (∀ n : Fin 160, (s.ic.sources[n]).service = some x → (s.ic.sources[n]).prio ≤ coreLevel s x) ∧
    (coreLevel s x = 0 ∨ ∃ n : Fin 160, (s.ic.sources[n]).service = some x ∧ (s.ic.sources[n]).prio = coreLevel s x)) ∧
  (∀ s : State, s.clk.busOn = true →
    let named (n : Fin 160) (x : Fin 3) : Bool := s.rbit (.ic .SRC) n.val (8 + x.val)
    let accepts (x : Fin 3) : Bool := (s.ic.cores[x]).stopped || s.rbit (.ic .CPUCTLx) x.val 31
    let level (x : Fin 3) : Nat := if (s.ic.cores[x]).stopped then 0 else coreLevel s x
    let other (x : Fin 3) : Fin 3 := if x = 0 then 1 else 0
    let target (n : Fin 160) (x : Fin 3) : Prop := accepts x = true ∧ (named n x = true ∨
      (x ≠ 2 ∧ named n (other x) = true ∧ ∀ y, named n y = true → accepts y = false))
    let eligible_ (n : Fin 160) (x : Fin 3) : Prop := prio s n ≠ 0 ∧ target n x ∧ s.rfld (.ic .THRx) x.val 3 0 < prio s n ∧
      level x < prio s n
    ∃ t, exec .interruptRoute s = .next t ∧ RegsBut [] s t ∧ PartsBut [.ic] s t ∧
      (∀ n : Fin 160, { t.ic.sources[n] with routed := none } = { s.ic.sources[n] with routed := none } ∧
        (isPending s n = false ∨ (∀ x, ¬eligible_ n x) → (t.ic.sources[n]).routed = none) ∧
        (∀ x, isPending s n = true → eligible_ n x →
          (∀ y, eligible_ n y → level x < level y ∨ (level x = level y ∧ x ≤ y)) →
          (t.ic.sources[n]).routed = some x ∧ (t.ic.cores[x]).wfi = false))) ∧
  (∀ (a : Accessor) (x : Fin 3) (s : State), ReadReaches a (.ic .CLAIMx) s →
    (a = coreAcc x → ∀ n : Fin 160, (s.ic.sources[n]).routed = some x → isPending s n = true →
      (s.ic.sources[n]).arrivals ≤ 15 →
      (∀ m : Fin 160, (s.ic.sources[m]).routed = some x → isPending s m = true → m = n ∨ prio s m < prio s n ∨
        (prio s m = prio s n ∧ n < m)) →
      ∃ t w, exec (.interruptClaim a x) s = .next t ∧ lastAnswer a t = .data w ∧ bit w 31 = true ∧
        fld w 27 24 = (s.ic.sources[n]).arrivals ∧ fld w 23 20 = prio s n ∧ fld w 7 0 = n.val ∧
        (t.ic.sources[n]).latch = false ∧ (t.ic.sources[n]).service = some x ∧ (t.ic.sources[n]).prio = prio s n ∧
        (t.ic.sources[n]).arrivals = 0 ∧ (∀ m : Fin 160, m ≠ n → t.ic.sources[m] = s.ic.sources[m]) ∧
        t.ic.cores = s.ic.cores ∧ RegsBut [] s t ∧ PartsBut [.acc, .ic] s t) ∧
    (a ≠ coreAcc x ∨ (∀ n : Fin 160, (s.ic.sources[n]).routed = some x → isPending s n = false) →
      exec (.interruptClaim a x) s = .next (s.answer a (.data 0)))) ∧
  (∀ (a : Accessor) (x : Fin 3) (v : Word) (s : State), RegFile.wf s.regs → WriteReaches a (.ic .COMPLETEx) v s →
    ∃ t, exec (.interruptComplete a x v) s = .next t ∧ lastAnswer a t = .done ∧
      (∀ n : Fin 160, fld v 7 0 = n.val → (s.ic.sources[n]).service = some x →
        t.ic.sources = upd s.ic.sources n (fun y => { y with service := none, prio := 0 }) ∧ RegsBut [] s t ∧
        PartsBut [.acc, .ic] s t) ∧
      ((∀ n : Fin 160, fld v 7 0 = n.val → (s.ic.sources[n]).service ≠ some x) →
        t.rbit (.ic .STAT) 0 0 = true ∧ t.ic.sources = s.ic.sources ∧ RegsBut [(.ic .STAT, 0)] s t)) ∧
  (∀ (a : Accessor) (v : Word) (s : State), WriteReaches a (.ic .SWSET) v s →
    ∃ t, exec (.softwareInterruptSet a v) s = .next t ∧ lastAnswer a t = .done ∧ RegsBut [] s t ∧ PartsBut [.acc, .ic] s t ∧
      ∀ n : Fin 160, t.ic.sources[n] = if 80 ≤ n.val ∧ n.val < 96 ∧ bit v (n.val - 80) = true then
          { s.ic.sources[n] with latch := true, arrivals := (if taken s n then min 15 ((s.ic.sources[n]).arrivals + 1)
            else (s.ic.sources[n]).arrivals) }
        else s.ic.sources[n]) ∧
  (∀ (a : Accessor) (n : Fin 160) (v : Word) (s : State), RegFile.wf s.regs → WriteReaches a (.ic .SRC) v s →
    ∃ t, exec (.sourceConfigWrite a n v) s = .next t ∧ lastAnswer a t = .done ∧
      (55 ≤ n.val ∧ n.val ≤ 63 ∨ 96 ≤ n.val → t.reg (.ic .SRC) n.val = s.reg (.ic .SRC) n.val) ∧
      (¬(55 ≤ n.val ∧ n.val ≤ 63 ∨ 96 ≤ n.val) →
        t.reg (.ic .SRC) n.val = (s.reg (.ic .SRC) n.val &&& ~~~0x70F) ||| (v &&& 0x70F)) ∧
      RegsBut [(.ic .SRC, n.val)] s t ∧ PartsBut [.acc] s t) ∧
  (∀ (k : Fin 4) (s : State), RegFile.wf s.regs →
    (s.rbit (.vn .WAKECFG) 0 (8 * k.val + 7) = false ∨ s.rbit (.vn .WAKECFG) 0 (8 * k.val + 6) = true →
      exec (.wakeLatchSet (.pin k)) s = .next s) ∧
    (s.rbit (.vn .WAKECFG) 0 (8 * k.val + 7) = true → s.rbit (.vn .WAKECFG) 0 (8 * k.val + 6) = false →
      s.power.phase ≠ .committed → ∃ t, exec (.wakeLatchSet (.pin k)) s = .next t ∧
        (t.ic.sources[ix 160 (64 + k.val)]).latch = true ∧ (s.power.vaneOn = true → t.rbit (.vn .WSTAT) 0 k.val = true) ∧
        RegsBut [(.vn .WSTAT, 0)] s t ∧ PartsBut [.ic, .power, .safety, .tw] s t)) ∧
  ∀ s : State, RegFile.wf s.regs → s.power.hub ≠ .calm → s.power.phase ≠ .committed →
    ∃ t, exec (.wakeLatchSet .hostSelect) s = .next t ∧ (t.ic.sources[(70 : Fin 160)]).latch = true ∧
      (s.power.vaneOn = true → t.rbit (.vn .WSTAT) 0 6 = true) ∧ RegsBut [(.vn .WSTAT, 0)] s t ∧
      PartsBut [.ic, .power, .safety, .tw] s t

/-- R472, R474, R475, R481, R490, R493, R494 and R529.
Where the rules leave it open, a clause follows the model's choice (log entries 6 and 40). -/
def Obligations.ProcessorsResetAndWait : Prop :=
  let faulted (x : Fin 3) (cause : Nat) (s t : State) : Prop :=
    (t.ic.cores[x]).inReset = true ∧ (t.ic.cores[x]).stopped = false ∧ (t.ic.cores[x]).icache = false ∧
    (t.ic.cores[x]).restartAt = (if (s.ic.cores[x]).inReset = true ∧ (s.ic.cores[x]).restartAt = none then none
      else some (stAdd s.now 32)) ∧
    (∀ n : Fin 160, (t.ic.sources[n]).service =
      if (s.ic.sources[n]).service = some x then none else (s.ic.sources[n]).service) ∧
    t.rbit (.ic .CPUCTLx) x.val 31 = false ∧ t.rfld (.ic .CPUSTATx) x.val 31 28 = cause ∧
    t.rfld (.ic .CPUSTATx) x.val 7 0 = min 255 (s.rfld (.ic .CPUSTATx) x.val 7 0 + 1) ∧
    (∀ q : SelectName, t.reg (selectRegOf q) (selectUnit (coreAcc x) q) = (selectRegOf q).resetVal (selectUnit (coreAcc x) q)) ∧
    (t.ic.sources[ix 160 (77 + x.val)]).latch = true ∧ (∀ y : Fin 3, y ≠ x → t.ic.cores[y] = s.ic.cores[y]) ∧
    t.lanes = s.lanes ∧ t.phys = s.phys ∧ t.coach = s.coach ∧ t.slots = s.slots ∧ t.timers = s.timers ∧ t.merger = s.merger
  (∀ (a : Accessor) (x : Fin 3) (v : Word) (s : State), RegFile.wf s.regs →
    (WriteReaches a (.ic .CPUCTLx) (v &&& ~~~1) s → ∃ t, exec (.coreAcceptWrite a x v) s = .next t ∧ lastAnswer a t = .done ∧
      t.rbit (.ic .CPUCTLx) x.val 31 = (if x = 2 then s.rbit (.ic .CPUCTLx) x.val 31 else bit v 31) ∧
      RegsBut [(.ic .CPUCTLx, x.val)] s t ∧ PartsBut [.acc] s t) ∧
    (WriteReaches a (.ic .CPUCTLx) (v ||| 1) s → ∃ t, exec (.coreResetRequest a x v) s = .next t ∧ lastAnswer a t = .done ∧
      (x ≠ 2 → faulted x 4 s t ∧ t.mem = s.mem ∧ t.safety = s.safety) ∧
      (x = 2 → RegsBut [] s t ∧ PartsBut [.acc] s t))) ∧
  (∀ (x : Fin 2) (why : CoreFault) (s : State), RegFile.wf s.regs →
    let y : Fin 3 := ix 3 x.val
    ((s.ic.cores[y]).inReset = true → exec (.coreFaultReset x why) s = .next s) ∧
    ((s.ic.cores[y]).inReset = false → ∃ t, exec (.coreFaultReset x why) s = .next t ∧
      match why with
      | .lockup => faulted y 3 s t ∧ t.mem = s.mem ∧ t.safety = s.safety
      | .tcm addr => faulted y 2 s t ∧ Logs 0x807 3 (0xE0 + x.val) addr.toNat s t ∧ t.rbit (.al .FSTAT) 0 9 = true ∧
        (Memory.wf s.mem → ∀ i, t.readByte i = if tcmBase y ≤ i ∧ i < tcmBase y + 65536 then 0 else s.readByte i))) ∧
  (∀ (x : Fin 3) (s : State),
    ((s.ic.cores[x]).restartAt = none → exec (.coreRestart x) s = .next s) ∧
    (∀ e, (s.ic.cores[x]).restartAt = some e → (s.ic.cores[x]).inReset = true →
      (s.clk.source = .bus → stLt s.now e = true → exec (.coreRestart x) s = .next s) ∧
      (stLe e s.now = true → ∃ t, exec (.coreRestart x) s = .next t ∧ (t.ic.cores[x]).inReset = false ∧
        (t.ic.cores[x]).restartAt = none ∧ (x = 1 → (t.ic.cores[x]).entry = s.ic.a1Entry) ∧
        (∀ b : Fin 2, x = 0 → s.nvm.booted = some b → (t.ic.cores[x]).entry =
          BitVec.ofNat 32 (0x08000000 + 0x100000 * b.val) + s.readWord (0x08000000 + 0x100000 * b.val + 0x18)) ∧
        (∀ y : Fin 3, y ≠ x → t.ic.cores[y] = s.ic.cores[y]) ∧ t.ic.sources = s.ic.sources ∧ RegsBut [] s t ∧
        PartsBut [.ic] s t))) ∧
  (∀ (x : Fin 3) (s : State), s.power.hub ≠ .lull → (s.ic.cores[x]).inReset = false → (s.ic.cores[x]).stopped = false →
    let routed : Prop := ∃ n : Fin 160, (s.ic.sources[n]).routed = some x ∧ isPending s n = true
    (routed → exec (.coreWfi x) s = .next s) ∧
    (¬routed → ∃ t, exec (.coreWfi x) s = .next t ∧ (t.ic.cores[x]).wfi = true ∧
      (s.power.floorBreeze = true → x ≠ 2 → (t.ic.cores[x]).stopped = true ∧ (t.ic.cores[x]).stoppedAt = s.now) ∧
      (s.power.floorBreeze = false ∨ x = 2 → (t.ic.cores[x]).stopped = false) ∧
      (∀ y : Fin 3, y ≠ x → t.ic.cores[y] = s.ic.cores[y]) ∧ t.ic.sources = s.ic.sources ∧ RegsBut [] s t ∧ PartsBut [.ic] s t)) ∧
  (∀ (x : Fin 3) (s : State),
    ((s.ic.cores[x]).wakeAt = none ∨ (s.ic.cores[x]).stopped = false → exec (.coreWake x) s = .next s) ∧
    (∀ e, (s.ic.cores[x]).wakeAt = some e → (s.ic.cores[x]).stopped = true → s.clk.busOn = true → stLe e s.now = true →
      ∃ t, exec (.coreWake x) s = .next t ∧ (t.ic.cores[x]).stopped = false ∧ (t.ic.cores[x]).wfi = false ∧
        (t.ic.cores[x]).wakeAt = none ∧ (∀ y : Fin 3, y ≠ x → t.ic.cores[y] = s.ic.cores[y]) ∧
        t.ic.sources = s.ic.sources ∧ RegsBut [] s t ∧ PartsBut [.ic, .safety] s t)) ∧
  ∀ (x : Fin 3) (s : State),
    exec (.fenceI x) s = .next { s with ic := { s.ic with cores := upd s.ic.cores x (fun c => { c with icache := false }) } }

/-- R493, R496 to R501, R505 and R521.
Where the rules leave it open, a clause follows the model's choice (log entries 35 and 36). -/
def Obligations.PowerRequests : Prop :=
  (∀ (n : Fin 4) (a : Accessor) (s : State), RegFile.wf s.regs → NothingWaits s →
    WriteReaches a (.pw .REQ) (BitVec.ofNat 32 n.val) s →
    let c : Instr := match n with
      | 0 => .requestGale a
      | 1 => .requestBreeze a
      | 2 => .requestLull a
      | 3 => .requestCalm a
    let p := s.power
    let result (t : State) : Nat := t.rfld (.pw .STAT) 0 22 20
    let starts (t : State) : Prop := t.power.phase = .handshake ∧ t.power.target = n.val ∧ t.power.e0 = s.now ∧
      t.power.floorBreeze = true ∧ (∀ i : Fin 19, t.power.acked[i] = false) ∧ t.power.parked = p.parked ∧ t.power.hub = .on
    (a ∉ [.a0, .a1, .vane] → exec c s = .next (s.answer a .done)) ∧
    (a ∈ [.a0, .a1, .vane] → p.hub = .on →
      (p.phase = .idle → ∃ t, exec c s = .next t ∧ lastAnswer a t = .done ∧ RegsBut [] s t ∧ PartsBut [.acc, .power, .ic] s t ∧
        (n = 0 → t.power = { p with target := 0, floorBreeze := false } ∧ ∀ x : Fin 3, (s.ic.cores[x]).stopped = true →
          s.rbit (.ic .CPUCTLx) x.val 31 = true → (s.ic.cores[x]).wakeAt = none →
          (t.ic.cores[x]).wakeAt = some (stAdd s.now 480)) ∧
        (n = 1 → t.power = { p with target := 1, floorBreeze := true } ∧ t.ic = s.ic) ∧
        (2 ≤ n → starts t ∧ t.power.floorBefore = p.floorBreeze ∧ t.ic = s.ic)) ∧
      (p.phase = .handshake → p.target = n.val → ∃ t, exec c s = .next t ∧ t.rbit (.pw .STAT) 0 3 = true ∧ t.power = p ∧
        RegsBut [(.pw .STAT, 0)] s t ∧ PartsBut [.acc, .safety, .ic, .tw] s t) ∧
      (p.phase = .handshake → p.target ≠ n.val → ∃ t, exec c s = .next t ∧ result t = 4 ∧
        (2 ≤ n → starts t ∧ t.power.floorBefore = p.floorBefore ∧ RegsBut [(.pw .STAT, 0)] s t ∧
          PartsBut [.acc, .power] s t) ∧
        (n < 2 → t.power.phase = .idle ∧ t.power.floorBreeze = decide (n = 1) ∧ ∀ i : Fin 19, t.power.parked[i] = false)) ∧
      (p.phase = .committed → p.target = n.val → ∃ t, exec c s = .next t ∧ t.rbit (.pw .STAT) 0 3 = true ∧ t.power = p) ∧
      (p.phase = .committed → p.target ≠ n.val → ∃ t, exec c s = .next t ∧ t.power = { p with queued := some n.val } ∧
        RegsBut [] s t ∧ PartsBut [.acc, .power] s t)) ∧
    (a ∈ [.a0, .a1, .vane] → p.hub = .lull → n ≠ 2 ∨ p.exit ≠ .none → ∃ t, exec c s = .next t ∧
      t.power.after = some n.val ∧ t.power.exit = (if p.exit = .none then .pll else p.exit) ∧ RegsBut [] s t ∧
      PartsBut [.acc, .power] s t)) ∧
  (∀ (a : Accessor) (v : Word) (s : State), RegFile.wf s.regs →
    (WriteReaches a (.vn .CTRL) (v ||| 0x80000000) s → bit v 30 = false →
      ∃ t, exec (.vaneWakeRequest a v) s = .next t ∧ lastAnswer a t = .done ∧ t.rbit (.vn .CTRL) 0 29 = bit v 29 ∧
        (a = .vane → s.power.hub = .lull → s.power.exit = .none → t.power = { s.power with exit := .pll } ∧
          t.rbit (.pw .WAKE) 0 13 = true) ∧
        (a ≠ .vane ∨ s.power.hub ≠ .lull → RegsBut [(.vn .CTRL, 0)] s t ∧ PartsBut [.acc] s t) ∧
        RegsBut [(.vn .CTRL, 0), (.pw .WAKE, 0)] s t ∧ PartsBut [.acc, .power, .safety, .ic, .tw] s t) ∧
    (WriteReaches a (.vn .CTRL) (v ||| 0x40000000) s → bit v 31 = false →
      ∃ t, exec (.vaneCalmRequest a v) s = .next t ∧ lastAnswer a t = .done ∧ t.rbit (.vn .CTRL) 0 29 = bit v 29 ∧
        (a = .vane → s.power.hub = .on → s.power.phase = .idle → t.power.phase = .handshake ∧ t.power.target = 3 ∧
          t.power.e0 = s.now ∧ t.power.floorBreeze = true ∧ t.power.floorBefore = s.power.floorBreeze) ∧
        (a = .vane → s.power.hub = .lull → t.power.after = some 3 ∧
          t.power.exit = (if s.power.exit = .none then .pll else s.power.exit)) ∧
        (a ≠ .vane → RegsBut [(.vn .CTRL, 0)] s t ∧ PartsBut [.acc] s t))) ∧
  (∀ (s : State), s.power.phase = .handshake → s.now ≠ s.power.e0 → s.power.target = 2 →
    (∀ c : Fin 19, 1 ≤ c.val → c.val ≤ 15 → s.power.acked[c] = true ∧ s.power.parked[c] = true) →
    (∀ k : Fin 16, (s.lanes[k]).parked = true) →
    (∀ x : Fin 3, x.val < 2 → s.rbit (.pw .HOLD) 0 x.val = false ∧ ((s.ic.cores[x]).inReset = true ∨
      ((s.ic.cores[x]).stopped = true ∧ (s.ic.cores[x]).wakeAt = none))) → s.rbit (.vn .CTRL) 0 29 = false →
    ∃ t, exec .handshakeCommit s = .next t ∧ t.power.phase = .committed ∧ t.power.ec = s.now ∧ t.power.parked = s.power.parked ∧
      t.power.hub = s.power.hub ∧ RegsBut [] s t ∧ PartsBut [.power] s t) ∧
  (∀ (s : State), RegFile.wf s.regs → NothingWaits s →
    let aborted (result block : Nat) (t : State) : Prop := t.rfld (.pw .STAT) 0 22 20 = result ∧
      t.rfld (.pw .STAT) 0 19 15 = block ∧ t.rbit (.pw .STAT) 0 2 = true ∧ t.power.phase = .idle ∧
      t.power.floorBreeze = s.power.floorBefore ∧ (∀ i : Fin 19, t.power.parked[i] = false) ∧ t.timers = s.timers ∧
      t.nvm = s.nvm
    (s.power.phase ≠ .handshake → exec .handshakeCommit s = .next s ∧ exec .handshakeRefuse s = .next s ∧
      exec .handshakeTimeout s = .next s) ∧
    (s.power.phase = .handshake → s.now ≠ s.power.e0 →
      (∀ c, refusing (sampleBlocks s) = some c → (∃ t, exec .handshakeRefuse s = .next t ∧ aborted 2 c t) ∧
        exec .handshakeCommit s = .next s) ∧
      (refusing (sampleBlocks s) = none → exec .handshakeRefuse s = .next s) ∧
      (∀ c, lacking (sampleBlocks s) = some c → exec .handshakeCommit s = .next s ∧
        (ms (s.rfld (.pw .CTRL) 0 7 0) ≤ ticks s.power.e0 s.now → ∃ t, exec .handshakeTimeout s = .next t ∧ aborted 3 c t)) ∧
      (ticks s.power.e0 s.now < ms (s.rfld (.pw .CTRL) 0 7 0) → exec .handshakeTimeout s = .next s))) ∧
  ∀ (s : State) (x : Fin 3), x.val < 2 → s.rbit (.pw .HOLD) 0 x.val = true → answerOf s (16 + x.val) = .refuse

/-- R495, R505, R508 to R511, R518, R519, R521 and R589.
Where the rules leave it open, a clause follows the model's choice (log entries 38 and 48). -/
def Obligations.DomainsPadsAndWakes : Prop :=
  let wakes : List Part := [.power, .safety, .ic, .tw]
  (∀ (d : Fin 5) (s : State), s.power.hub = .on →
    (s.power.dom[d] = true → s.rbit (.pw .DOMCTL) 0 d.val = true → domainBusy s d = false →
      us (10 * s.rfld (.pw .DOMCTL) 0 15 8) ≤ ticks s.power.busyAt[d] s.now → ∃ t, exec (.domainIdleOff d) s = .next t ∧
        t.power = { s.power with dom := upd s.power.dom d (fun _ => false) } ∧ RegsBut [] s t ∧
        (d.val ≠ 2 → PartsBut [.power] s t) ∧ (d.val = 2 → PartsBut [.power, .mem, .coach] s t ∧
          (∀ k : Fin 68, (t.coach.cars[k]).prog = [] ∧ ∀ j : Fin 4, (t.coach.cars[k]).fifo[j] = []) ∧
          (Memory.wf s.mem → ∀ x, (0x30000000 ≤ x ∧ x < 0x30022000 → t.readByte x = 0) ∧
            (x < 0x30000000 ∨ 0x30022000 ≤ x → t.readByte x = s.readByte x)))) ∧
    (s.power.dom[d] = false ∨ s.rbit (.pw .DOMCTL) 0 d.val = false ∨ domainBusy s d = true →
      exec (.domainIdleOff d) s = .next s) ∧
    (NothingWaits s → s.power.dom[d] = false → (∃ i : Fin 6, (s.acc[i]).stalled.isSome = true) →
      (3 ≤ d.val → s.rbit (.db .PHYCFG) (d.val - 3) 31 = false) → ∃ t, exec (.domainWake d) s = .next t ∧
        t.power = { s.power with dom := upd s.power.dom d (fun _ => true), busyAt := upd s.power.busyAt d (fun _ => s.now) } ∧
        RegsBut [] s t ∧ PartsBut [.power] s t)) ∧
  (∀ (a : Accessor) (g : BitVec 3) (s : State), WriteReaches a (.pw .PADREL) (g.setWidth 32) s →
    ∃ t, exec (.padRelease a g) s = .next t ∧ lastAnswer a t = .done ∧ RegsBut [] s t ∧ PartsBut [.acc, .power] s t ∧
      t.power.pads.groups = s.power.pads.groups &&& (7 - g.toNat) ∧ t.power.pads.tio = s.power.pads.tio) ∧
  (∀ (a : Accessor) (v : Word) (s : State), RegFile.wf s.regs → WriteReaches a (.pw .CLK) v s →
    ∃ t, exec (.clockSourceWrite a v) s = .next t ∧ lastAnswer a t = .done ∧ RegsBut [(.pw .CLK, 0)] s t ∧
      PartsBut [.acc] s t ∧ (bit v 0 = true → s.rbit (.pw .CLK) 0 31 = false → t.reg (.pw .CLK) 0 = s.reg (.pw .CLK) 0) ∧
      (bit v 0 = false ∨ s.rbit (.pw .CLK) 0 31 = true → t.rbit (.pw .CLK) 0 0 = bit v 0 ∧ t.rbit (.pw .CLK) 0 1 = bit v 1 ∧
        t.rbit (.pw .CLK) 0 31 = (bit v 1 && s.rbit (.pw .CLK) 0 31))) ∧
  (∀ s : State, RegFile.wf s.regs →
    (s.rbit (.pw .CLK) 0 1 = true → ∃ t, exec .crystalRunning s = .next t ∧ t.rbit (.pw .CLK) 0 31 = true ∧
      RegsBut [(.pw .CLK, 0)] s t ∧ PartsBut [.safety, .ic, .tw] s t) ∧
    (s.rbit (.pw .CLK) 0 1 = false → exec .crystalRunning s = .next s) ∧
    ∃ t, exec .x32Start s = .next t ∧ t.clk = { s.clk with x32On := true } ∧ t.rbit (.al .CLKSTAT) 0 3 = true ∧
      RegsBut [(.al .CLKSTAT, 0)] s t ∧ PartsBut [.clk, .safety, .ic, .tw] s t) ∧
  (∀ (codes : Vector (BitVec 12) 8) (s : State), RegFile.wf s.regs →
    (s.power.mon.run = false ∨ s.power.hub ≠ .lull → exec (.monitorScan codes) s = .next s) ∧
    (s.power.mon.run = true → s.power.hub = .lull → s.rbit (.vn .MONCFG) 0 30 = false →
      let x (k : Fin 8) : Nat := (codes[ix 8 (s.rfld (.vn .CH) k.val 26 24)]).toNat
      let hi (k : Fin 8) : Nat := s.rfld (.vn .THR) k.val 27 16
      let y (k : Fin 8) : Int := (s.power.mon.chans[k]).y +
        (16 * (x k : Int) - (s.power.mon.chans[k]).y) / (2 ^ s.rfld (.vn .CH) k.val 19 16 : Nat)
      let v (k : Fin 8) : Nat := (y k).toNat / 16
      let want (k : Fin 8) : Bool := if (s.power.mon.chans[k]).state then decide (s.rfld (.vn .THR) k.val 11 0 < v k)
        else decide (hi k ≤ v k)
      let turns (k : Fin 8) : Prop := s.rbit (.vn .CH) k.val 31 = true ∧ (s.power.mon.chans[k]).valid = true ∧
        want k ≠ (s.power.mon.chans[k]).state ∧ s.rfld (.vn .CH) k.val 15 12 < (s.power.mon.chans[k]).cnt + 1
      ∃ t, exec (.monitorScan codes) s = .next t ∧ RegsBut [(.vn .WSTAT, 0)] s t ∧ PartsBut wakes s t ∧
        (∀ k : Fin 8,
          (s.rbit (.vn .CH) k.val 31 = false → t.power.mon.chans[k] = s.power.mon.chans[k]) ∧
          (s.rbit (.vn .CH) k.val 31 = true → (s.power.mon.chans[k]).valid = false →
            t.power.mon.chans[k] = { state := decide (hi k ≤ x k), valid := true, y := 16 * x k, cnt := 0 }) ∧
          (s.rbit (.vn .CH) k.val 31 = true → (s.power.mon.chans[k]).valid = true →
            (t.power.mon.chans[k]).y = (y k).toNat ∧ (t.power.mon.chans[k]).valid = true ∧
            (want k = (s.power.mon.chans[k]).state → (t.power.mon.chans[k]).state = want k ∧ (t.power.mon.chans[k]).cnt = 0) ∧
            (turns k → (t.power.mon.chans[k]).state = want k ∧ (t.power.mon.chans[k]).cnt = 0) ∧
            (want k ≠ (s.power.mon.chans[k]).state → ¬turns k →
              (t.power.mon.chans[k]).state = (s.power.mon.chans[k]).state ∧
              (t.power.mon.chans[k]).cnt = (s.power.mon.chans[k]).cnt + 1))) ∧
        ((∃ k, turns k ∧ s.rbit (.vn .CH) k.val (if want k then 0 else 1) = true) → s.power.vaneOn = true →
          t.rbit (.vn .WSTAT) 0 12 = true) ∧
        ((∀ k, turns k → s.rbit (.vn .CH) k.val (if want k then 0 else 1) = false) → RegsBut [] s t))) ∧
  (∀ (n : Fin 4) (rising : Bool) (s : State), RegFile.wf s.regs →
    let kind := s.rfld (.vn .CAPCFG) n.val 29 28
    let before := s.rfld (.vn .CAPCNT) n.val 15 0
    let counts : Prop := s.power.hub = .lull ∧ s.rbit (.vn .CAPCFG) n.val 31 = true ∧ kind ≠ (if rising then 1 else 0)
    (¬counts → exec (.vaneCaptureEdge n rising) s = .next s) ∧
    (counts → ∃ t, exec (.vaneCaptureEdge n rising) s = .next t ∧ Counted (.vn .CAPCNT) n.val 15 0 s t ∧
      RegsBut [(.vn .CAPCNT, n.val), (.vn .WSTAT, 0)] s t ∧ PartsBut wakes s t ∧
      (s.rfld (.vn .CAPCFG) n.val 15 0 = before + 1 → s.power.phase = .idle →
        (t.ic.sources[ix 160 (72 + n.val)]).latch = true ∧ (s.power.vaneOn = true → t.rbit (.vn .WSTAT) 0 (8 + n.val) = true)) ∧
      (s.rfld (.vn .CAPCFG) n.val 15 0 ≠ before + 1 → RegsBut [(.vn .CAPCNT, n.val)] s t ∧ PartsBut [] s t))) ∧
  (∀ (k : Fin 4) (level : Bool) (s : State), RegFile.wf s.regs →
    let edgeMode : Prop := s.rbit (.vn .WAKECFG) 0 (8 * k.val + 6) = false
    let on : Bool := s.rbit (.vn .WAKECFG) 0 (8 * k.val + 7)
    let falling : Bool := s.rbit (.vn .WAKECFG) 0 (8 * k.val + 5)
    (s.power.wakePin[k] = level → exec (.wakePinChange k level) s = .next s) ∧
    (s.power.wakePin[k] ≠ level → ∃ t, exec (.wakePinChange k level) s = .next t ∧ t.power.wakePin[k] = level ∧
      (∀ j : Fin 4, j ≠ k → t.power.wakePin[j] = s.power.wakePin[j]) ∧ RegsBut [(.vn .WSTAT, 0)] s t ∧ PartsBut wakes s t ∧
      (edgeMode → on = true → level ≠ falling → s.power.phase = .idle →
        (t.ic.sources[ix 160 (64 + k.val)]).latch = true ∧ (s.power.vaneOn = true → t.rbit (.vn .WSTAT) 0 k.val = true)) ∧
      (edgeMode → on = false ∨ level = falling → RegsBut [] s t ∧ PartsBut [.power] s t))) ∧
  ∀ s : State, RegFile.wf s.regs →
    let alarm := s.rfld (.vn .ALARMH) 0 15 0 * 2 ^ 32 + (s.reg (.vn .ALARML) 0).toNat
    (s.rbit (.vn .ALARMH) 0 31 = true → alarm ≤ s.now.toNat → ∃ t, exec .rtcAlarm s = .next t ∧
      (s.power.vaneOn = true → t.rbit (.vn .WSTAT) 0 4 = true) ∧ RegsBut [(.vn .WSTAT, 0)] s t ∧ PartsBut wakes s t) ∧
    (s.rbit (.vn .ALARMH) 0 31 = false ∨ s.now.toNat < alarm → exec .rtcAlarm s = .next s)

/-- R502 to R504, R506, R507, R511, R513, R514, R516, R518 and R519.
Where the rules leave it open, a clause follows the model's choice (log entries 33 and 37). -/
def Obligations.LullAndCalm : Prop :=
  let off (s : State) (x : Nat) : Prop := ∃ k : Nat, (k < 12 ∧ s.rbit (.pw .RETCFG) 0 k = false ∧
      0x20000000 + 0x20000 * k ≤ x ∧ x < 0x20000000 + 0x20000 * k + 0x20000) ∨
    (1 ≤ k ∧ k < 4 ∧ s.rfld (.pw .RETCFG) 0 (15 + 2 * k) (14 + 2 * k) = 2 ∧
      0x24000000 + 0x4000 * k ≤ x ∧ x < 0x24000000 + 0x4000 * k + 0x4000)
  let stores (x : Nat) : Prop := 0x30000000 ≤ x ∧ x < 0x30022000
  (∀ s : State, RegFile.wf s.regs → Memory.wf s.mem →
    (s.power.phase ≠ .committed ∨ ticks s.power.ec s.now < 32768 ∨ s.power.target ≠ 2 → exec .lullEntered s = .next s) ∧
    (s.power.phase = .committed → 32768 ≤ ticks s.power.ec s.now → s.power.target = 2 → s.power.hub = .on →
      s.power.queued = none → ∃ t, exec .lullEntered s = .next t ∧ t.power.hub = .lull ∧ t.power.phase = .idle ∧
        t.clk.source = .vane ∧ t.clk.vane = s.now ∧ t.now = s.now ∧ t.clk.busOn = false ∧ t.power.pads.groups = 7 ∧
        (∀ n < 4, t.reg (.vn .CAPCNT) n = 0) ∧ t.power.mon.run = s.rbit (.vn .MONCFG) 0 31 ∧
        (∀ k : Fin 8, (t.power.mon.chans[k]).valid = false) ∧ (∀ d : Fin 5, t.power.dom[d] = false) ∧
        t.sensor.cache = [] ∧ (∀ k : Fin 16, t.sensor.pend[k] = false) ∧ t.rfld (.pw .STAT) 0 22 20 = 1 ∧
        (∀ x, off s x ∨ stores x → t.readByte x = 0) ∧ (∀ x, ¬off s x → ¬stores x → t.readByte x = s.readByte x) ∧
        t.lanes = s.lanes ∧ t.slots = s.slots ∧ t.timers = s.timers ∧ t.merger = s.merger ∧ t.nvm = s.nvm ∧
        RegsBut ([(.pw .STAT, 0), (.vn .MONSTAT, 0), (.pw .WAKE, 0)] ++ (List.range 4).map (fun n => (.vn .CAPCNT, n))) s t)) ∧
  (∀ s : State, RegFile.wf s.regs →
    (s.power.hub = .lull → s.power.exit = .none → s.power.wakeDue ≠ 0 → ∃ t, exec .lullExit s = .next t ∧
      t.power = { s.power with exit := .pll, wakeDue := 0 } ∧ (∀ b < 18, s.power.wakeDue.testBit b = true →
        t.rbit (.pw .WAKE) 0 b = true) ∧ RegsBut [(.pw .WAKE, 0)] s t ∧ PartsBut [.power, .safety, .ic, .tw] s t) ∧
    (s.power.hub ≠ .lull ∨ s.power.exit ≠ .none ∨ s.power.wakeDue = 0 → exec .lullExit s = .next s)) ∧
  (∀ s : State,
    (s.power.hub = .lull → s.power.exit = .pll → ∃ t, exec .pllLocked s = .next t ∧ t.clk.busOn = true ∧ t.clk.edge = 0 ∧
      t.clk.source = s.clk.source ∧ t.clk.vane = s.clk.vane ∧ t.power.exit = .clocks ∧
      (s.nvm.fromCalm = false → ∀ k : Fin 16, k.val < 12 → t.power.blocked[k] = true) ∧ RegsBut [] s t ∧
      PartsBut [.clk, .power] s t) ∧
    (s.power.hub ≠ .lull ∨ s.power.exit ≠ .pll → exec .pllLocked s = .next s)) ∧
  (∀ s : State, RegFile.wf s.regs → NothingWaits s →
    (s.power.hub = .lull → s.power.exit = .clocks → s.nvm.fromCalm = false → s.power.after = none →
      ∃ t, exec .breezeReached s = .next t ∧ t.power.hub = .on ∧ t.power.exit = .none ∧ t.power.floorBreeze = true ∧
        t.rbit (.pw .STAT) 0 1 = true ∧ (∀ d : Fin 5, t.power.dom[d] = decide (2 ≤ d.val)) ∧
        (∀ i : Fin 19, t.power.parked[i] = (decide (i.val = 1) && s.power.parked[1])) ∧
        (∀ x : Fin 3, (t.ic.cores[x]).icache = false) ∧
        (∀ n : Fin 16, t.timers[n] = { s.timers[n] with pre := 0 }) ∧
        t.power.pads.groups = (if s.rbit (.pw .CTRL) 0 31 = true then s.power.pads.groups &&& 0 else s.power.pads.groups)) ∧
    (s.power.hub ≠ .lull ∨ s.power.exit ≠ .clocks → exec .breezeReached s = .next s)) ∧
  (∀ s : State, RegFile.wf s.regs → Memory.wf s.mem →
    (s.power.phase = .committed → s.power.target = 3 → s.power.hub = .on → 1024 ≤ ticks s.power.ec s.now →
      ∃ t, exec .calmEntered s = .next t ∧ t.power.hub = .calm ∧ t.power.vaneOn = false ∧ t.clk.busOn = false ∧
        t.now = s.now ∧ t.power.pads.groups = 7 ∧ t.power.wakePin = s.power.wakePin ∧ t.nvm.fromCalm = true ∧
        (∀ r, r ∈ [VnReg.WAKEEN, .WAKECFG, .ALARML, .ALARMH] → t.reg (.vn r) 0 = s.reg (.vn r) 0) ∧
        t.reg (.tw .ADDR) 0 = s.reg (.tw .ADDR) 0 ∧ t.safety.pinLow = s.safety.pinLow ∧
        (∀ k, t.reg (.ln .CTRL) k = 0) ∧ (∀ x, 0x20000000 ≤ x → x < 0x20180000 → t.readByte x = 0) ∧
        (s.nvm.op = none → ∀ x, 0x08000000 ≤ x → x < 0x08820000 → t.readByte x = s.readByte x)) ∧
    (s.power.phase ≠ .committed ∨ s.power.target ≠ 3 ∨ s.power.hub ≠ .on → exec .calmEntered s = .next s)) ∧
  (∀ s : State, RegFile.wf s.regs →
    (s.power.hub = .calm → s.power.wakeDue ≠ 0 → ∃ t, exec .calmWake s = .next t ∧ t.power.hub = .lull ∧
      t.power.vaneOn = true ∧ t.power.exit = .pll ∧ t.power.wakeDue = 0 ∧ t.power.blocked[12] = true ∧
      (t.ic.cores[(2 : Fin 3)]).inReset = false ∧ (∀ b < 18, s.power.wakeDue.testBit b = true → t.rbit (.pw .WAKE) 0 b = true) ∧
      RegsBut [(.pw .WAKE, 0)] s t ∧ PartsBut [.power, .safety, .ic, .tw] s t) ∧
    (s.power.hub ≠ .calm ∨ s.power.wakeDue = 0 → exec .calmWake s = .next s)) ∧
  ∀ (k : Fin 16) (s : State), RegFile.wf s.regs → Memory.wf s.mem →
    let base := if k.val < 12 then 0x20000000 + 0x20000 * k.val else 0x24000000 + 0x4000 * (k.val - 12)
    let size := if k.val < 12 then 0x20000 else 0x4000
    (s.power.blocked[k] = false → ∀ ok canary, exec (.retentionCheckDone k ok canary) s = .next s) ∧
    (s.power.blocked[k] = true → s.power.bankOff[k] = false → k.val ∉ [10, 11] → ∀ canary : Bool,
      ∃ t, exec (.retentionCheckDone k true canary) s = .next t ∧ t.power.blocked[k] = false ∧ t.mem = s.mem ∧
        (canary = true → t.rbit (.pw .RETSTAT) 0 (16 + k.val) = true ∧
          Logs 0x702 1 0xE4 (if k.val < 12 then k.val else k.val + 4) s t) ∧
        (canary = false → RegsBut [] s t ∧ PartsBut [.power] s t) ∧
        RegsBut [(.pw .RETSTAT, 0)] s t ∧ PartsBut [.power, .safety, .ic, .tw] s t) ∧
    (s.power.blocked[k] = true → s.power.bankOff[k] = false → k.val ∉ [6, 7, 9, 10, 11, 12] →
      ∃ t, exec (.retentionCheckDone k false false) s = .next t ∧ t.power.blocked[k] = false ∧
        t.rbit (.pw .RETSTAT) 0 k.val = true ∧ t.rbit (.pw .WAKE) 0 16 = true ∧ t.rbit (.al .FSTAT) 0 8 = true ∧
        Logs 0x701 3 0xE4 (if k.val < 12 then k.val else k.val + 4) s t ∧
        (∀ x, base ≤ x → x < base + size → t.readByte x = 0) ∧
        (∀ x, x < base ∨ base + size ≤ x → t.readByte x = s.readByte x))

/-- R522 to R526, R528, R529 and R532.
Where the rules leave it open, a clause follows the model's choice (log entries 33, 43 and 73). -/
def Obligations.ResetsAndBoot : Prop :=
  let clean (t : State) : Prop := t.nvm.booting = true ∧ t.nvm.booted = none ∧ t.power.hub = .on ∧ t.clk.busOn = true ∧
    (∀ x : Fin 3, (t.ic.cores[x]).inReset = true ∧ (t.ic.cores[x]).restartAt = none) ∧ (∀ k, t.reg (.ln .CTRL) k = 0) ∧
    (∀ k : Fin 16, (t.lanes[k]).phase = .off) ∧ (∀ n : Fin 16, (t.timers[n]).run = false) ∧
    (∀ x, 0x20000000 ≤ x → x < 0x20180000 → t.readByte x = 0)
  let flashKept (s t : State) : Prop := s.nvm.op = none → ∀ x, 0x08000000 ≤ x → x < 0x08820000 → t.readByte x = s.readByte x
  let inVane (x : Nat) : Prop := 0x24000000 ≤ x ∧ x < 0x24010000
  let reset (cause : Nat) (vane : Bool) (s t : State) : Prop := clean t ∧ flashKept s t ∧ t.now = s.now ∧
    t.reg (.nv .RSTCAUSE) 0 = s.reg (.nv .RSTCAUSE) 0 ||| BitVec.ofNat 32 (2 ^ cause) ∧
    (∀ r, r ∈ [Reg.vn .WAKEEN, .vn .WAKECFG, .vn .ALARML, .vn .ALARMH, .pw .WAKE, .tw .ADDR] → t.reg r 0 = s.reg r 0) ∧
    t.power.wakePin = s.power.wakePin ∧ t.power.pads = s.power.pads ∧
    (s.nvm.op = none → vane = true → t.reg (.al .WIDX) 0 = s.reg (.al .WIDX) 0 ∧ ∀ x, inVane x → t.readByte x = s.readByte x) ∧
    (vane = false → t.reg (.al .WIDX) 0 = 0 ∧ ∀ x, inVane x → t.readByte x = 0)
  (∀ (strap : Fin 9) (s : State), RegFile.wf s.regs → Memory.wf s.mem → ∃ t, exec (.powerOnReset strap) s = .next t ∧
    clean t ∧ flashKept s t ∧ t.now = 0 ∧ t.reg (.nv .RSTCAUSE) 0 = 1 ∧
    t.reg (.tw .ADDR) 0 = BitVec.ofNat 32 (256 * strap.val + 0x38 + strap.val) ∧ (∀ x, inVane x → t.readByte x = 0)) ∧
  (∀ s : State, RegFile.wf s.regs → Memory.wf s.mem →
    (s.power.hub = .on ∨ s.power.hub = .lull → ∃ t, exec .brownOutReset s = .next t ∧ reset 1 false s t) ∧
    (s.power.hub = .calm ∨ s.power.hub = .off → exec .brownOutReset s = .next s) ∧
    (s.power.hub ≠ .calm → ∃ t, exec .enclaveReset s = .next t ∧ reset 5 true s t) ∧
    (s.power.hub ≠ .calm → s.power.hub ≠ .off → ∀ low,
      (low < 200 → exec (.pinReset low) s = .next s) ∧
      (200 ≤ low → low < 1000 → ∃ t, exec (.pinReset low) s = .next t ∧
        (t = { s with freeCount := s.freeCount + 1 } ∨ reset 2 true s t)) ∧
      (1000 ≤ low → ∃ t, exec (.pinReset low) s = .next t ∧ reset 2 true s t)) ∧
    (∀ a : Accessor, WriteReaches a (.nv .SYSRST) 0xC3A5 s → s.power.hub ≠ .calm →
      ∃ t, exec (.softwareReset a) s = .next t ∧ reset 4 true s t ∧ lastAnswer a t = .done)) ∧
  (∀ s : State, RegFile.wf s.regs → Memory.wf s.mem →
    (s.nvm.booting = false ∨ s.power.hub ≠ .on ∨ s.clk.busOn = false → exec .bootComplete s = .next s) ∧
    (∀ b c : Fin 2, (bootOrder s).head? = some b → markerValid s b = true ∧
      (markerValid s c = true → markerSeq s c ≤ markerSeq s b)) ∧
    (s.nvm.booting = true → s.power.hub = .on → s.clk.busOn = true → ∃ t, exec .bootComplete s = .next t ∧
      t.nvm.booting = false ∧ (t.ic.cores[(0 : Fin 3)]).inReset = false ∧
      (s.nvm.fromCalm = false → (t.ic.cores[(2 : Fin 3)]).inReset = false) ∧
      (∃ e ∈ t.safety.pending, e.code = 0x901) ∧
      (∀ b : Fin 2, (bootOrder s).head? = some b → verifyFirmware s b = 0 → s.enclave.life ≠ 3 → s.enclave.katFails < 2 →
        t.nvm.booted = some b ∧ t.rfld (.nv .BOOTSTAT) 0 31 28 = 0 ∧ t.rfld (.nv .BOOTSTAT) 0 27 27 = b.val ∧
        (t.ic.cores[(0 : Fin 3)]).entry = BitVec.ofNat 32 (0x08000000 + 0x100000 * b.val +
          (t.readWord (0x08000000 + 0x100000 * b.val + 0x14)).toNat)) ∧
      ((∀ b ∈ bootOrder s, verifyFirmware s b ≠ 0) ∨ s.enclave.life = 3 → t.nvm.booted = none ∧
        t.rfld (.nv .BOOTSTAT) 0 31 28 = 2 ∧ t.reg (.hp .CFG) 0 = 0x80000000 ∧ t.reg (.hp .WIN) 0 = 0xCD000DFF ∧
        (t.ic.cores[(0 : Fin 3)]).entry = 0 ∧ (∃ e ∈ t.safety.pending, e.code = 0x903) ∧ t.coach = s.coach))) ∧
  ∀ (a : Accessor) (v : Word) (s : State), WriteReaches a (.nv .A1START) v s →
    ∃ t, exec (.a1Start a v) s = .next t ∧ lastAnswer a t = .done ∧ RegsBut [] s t ∧ PartsBut [.acc, .ic] s t ∧
      (a = .a0 → (s.ic.cores[(1 : Fin 3)]).inReset = true → (s.ic.cores[(1 : Fin 3)]).restartAt = none →
        (t.ic.cores[(1 : Fin 3)]).restartAt = some (stAdd s.now 32) ∧ t.ic.a1Entry = v &&& 0xFFFFFFFE ∧
        t.ic.cores[(0 : Fin 3)] = s.ic.cores[(0 : Fin 3)] ∧ t.ic.sources = s.ic.sources) ∧
      (a ≠ .a0 ∨ (s.ic.cores[(1 : Fin 3)]).inReset = false ∨ (s.ic.cores[(1 : Fin 3)]).restartAt ≠ none → t.ic = s.ic)

/-- R531 to R534, R536 to R538 and R540.
Where the rules leave it open, a clause follows the model's choice (log entries 44, 45 and 46). -/
def Obligations.StorageOperations : Prop :=
  let result (r : Nat) (t : State) : Prop := t.rfld (.nv .STAT) 0 27 24 = r ∧ t.rbit (.nv .STAT) 0 (if r = 0 then 0 else 1) = true
  let bank (b : Fin 2) : Nat := 0x08000000 + 0x100000 * b.val
  let sides : List Part := [.safety, .ic, .tw]
  let starts (op : Nat) (t : State) : Prop := ∃ o, t.nvm.op = some o ∧ o.op = op
  (∀ (a : Accessor) (b : Fin 2) (s : State), RegFile.wf s.regs →
    let addr := s.rfld (.nv .ADDR) 0 20 0
    let x : Fin 2 := ix 2 (addr / 0x100000)
    let marker : Prop := 0xBE000 ≤ addr % 0x100000 ∧ addr % 0x100000 < 0xC0000
    let cmds : List (Instr × Nat) := [(.nvmOpen a b, 0x10000000 + b.val), (.nvmErase a, 0x20000000),
      (.nvmProgram a, 0x30000000), (.nvmCommit a b, 0x40000000 + b.val), (.nvmStore a true, 0x50000000),
      (.nvmStore a false, 0x50000000), (.nvmClose a b, 0x60000000 + b.val)]
    let ends (c : Instr) (r : Nat) : Prop := ∃ t, exec c s = .next t ∧ lastAnswer a t = .done ∧ result r t ∧ t.nvm = s.nvm ∧
      RegsBut [(.nv .STAT, 0)] s t ∧ PartsBut (.acc :: sides) s t
    (∀ c v, (c, v) ∈ cmds → WriteReaches a (.nv .CMD) (BitVec.ofNat 32 v) s →
      (s.nvm.op.isSome = true → ends c 8) ∧
      (s.nvm.op = none →
        (c = .nvmOpen a b → (s.nvm.booted = some b → ends c 10) ∧
          (s.nvm.booted ≠ some b → ∃ t, exec c s = .next t ∧ lastAnswer a t = .done ∧ starts 1 t ∧ RegsBut [] s t ∧
            PartsBut [.acc, .nvm, .power] s t)) ∧
        (c = .nvmErase a → (s.nvm.open_[x] = false → ends c 7) ∧ (s.nvm.open_[x] = true → marker → ends c 10) ∧
          (s.nvm.open_[x] = true → ¬marker → ∃ t o, exec c s = .next t ∧ lastAnswer a t = .done ∧ t.nvm.op = some o ∧
            o.op = 2 ∧ o.addr = addr ∧ RegsBut [] s t ∧ PartsBut [.acc, .nvm, .power] s t)) ∧
        (c = .nvmProgram a → (s.nvm.open_[x] = false → ends c 7) ∧ (s.nvm.open_[x] = true → marker → ends c 10) ∧
          (s.nvm.open_[x] = true → ¬marker → addr % 16 ≠ 0 → ends c 12) ∧
          (s.nvm.open_[x] = true → ¬marker → addr % 16 = 0 → (∃ i < 16, s.readByte (0x08000000 + addr + i) ≠ 0xFF) → ends c 11) ∧
          (s.nvm.open_[x] = true → ¬marker → addr % 16 = 0 → (∀ i < 16, s.readByte (0x08000000 + addr + i) = 0xFF) →
            ∃ t o, exec c s = .next t ∧ lastAnswer a t = .done ∧ t.nvm.op = some o ∧ o.op = 3 ∧ o.addr = addr ∧
              o.data = (List.range 4).map (fun i => s.reg (.nv .WDATA) i) ∧ RegsBut [] s t ∧
              PartsBut [.acc, .nvm, .power] s t)) ∧
        (c = .nvmCommit a b → (s.nvm.open_[b] = false → ends c 7) ∧
          (s.nvm.open_[b] = true → ∃ t, exec c s = .next t ∧ lastAnswer a t = .done ∧ starts 4 t ∧ t.nvm.commitAct = true ∧
            RegsBut [] s t ∧ PartsBut [.acc, .nvm, .power] s t)) ∧
        (c = .nvmClose a b → ∃ t, exec c s = .next t ∧ lastAnswer a t = .done ∧ result 0 t ∧ t.nvm.open_[b] = false ∧
          t.nvm.op = none ∧ RegsBut [(.nv .STAT, 0)] s t ∧ PartsBut (.acc :: .nvm :: sides) s t))) ∧
    (∀ vdd : Bool, WriteReaches a (.nv .CMD) 0x50000000 s → s.nvm.op = none →
      let pages := (List.range 32).filter (fun p => bit (nvDirty s) p)
      (pages = [] ∨ vdd = true → ∃ t o, exec (.nvmStore a vdd) s = .next t ∧ lastAnswer a t = .done ∧ t.nvm.op = some o ∧
        o.op = 5 ∧ o.pages = pages ∧ t.nvm.storeAct = true ∧ t.rfld (.nv .STAT) 0 23 16 = 0 ∧
        ∀ p rest, pages = p :: rest → p < 31 → t.rbit (.nv .DIRTY) 0 p = false ∧
          o.buffer = (List.range 2040).map (fun i => s.readByte (0x20120000 + 0x800 * p + i))) ∧
      (pages ≠ [] → vdd = false → ∃ t, exec (.nvmStore a vdd) s = .next t ∧ lastAnswer a t = .done ∧ t.nvm.op = none ∧
        result 9 t ∧ t.nvm.storeAct = false ∧ t.mem = s.mem))) ∧
  (∀ (ok : Bool) (o : NvOp) (b : Fin 2) (s : State), RegFile.wf s.regs → Memory.wf s.mem → s.nvm.op = some o → o.bank = b.val →
    let erased (lo : Nat) (t : State) : Prop := ∀ x, (lo ≤ x ∧ x < lo + 8192 → t.readByte x = 0xFF) ∧
      (x < lo ∨ lo + 8192 ≤ x → t.readByte x = s.readByte x)
    (o.op = 1 → ∃ t, exec (.nvmOperationDone ok) s = .next t ∧ t.nvm.op = none ∧ result 0 t ∧ t.nvm.open_[b] = true ∧
      erased (bank b + 0xBE000) t) ∧
    (o.op = 2 → o.addr < 0x200000 → ∃ t, exec (.nvmOperationDone ok) s = .next t ∧ t.nvm.op = none ∧ result 0 t ∧
      t.nvm.open_ = s.nvm.open_ ∧ erased (0x08000000 + o.addr / 8192 * 8192) t) ∧
    (o.op = 3 → o.data.length = 4 → o.addr + 16 ≤ 0x200000 → ∃ t, exec (.nvmOperationDone ok) s = .next t ∧ t.nvm.op = none ∧
      result 0 t ∧ (∀ i < 4, t.readWord (0x08000000 + o.addr + 4 * i) = o.data.getD i 0) ∧
      ∀ x, x < 0x08000000 + o.addr ∨ 0x08000000 + o.addr + 16 ≤ x → t.readByte x = s.readByte x) ∧
    (o.op = 4 → verifyFirmware s b ≠ 0 → ∃ t, exec (.nvmOperationDone ok) s = .next t ∧ t.nvm.op = none ∧
      result (verifyFirmware s b) t ∧ t.nvm.open_ = s.nvm.open_ ∧ t.nvm.commitAct = false ∧ t.mem = s.mem) ∧
    (∀ y : Fin 2, ok = true → o.op = 4 → verifyFirmware s b = 0 → checkBytes (slotBytes s b.val) 262144 s = 0 →
      s.nvm.booted = some y → y ≠ b → ∃ t, exec (.nvmOperationDone ok) s = .next t ∧ t.nvm.op = none ∧ result 0 t ∧
        t.nvm.open_[b] = false ∧ t.nvm.commitAct = false ∧ markerValid t b = true ∧
        markerSeq t b = (markerSeq s y + 1) % 2 ^ 32 ∧
        ∀ x, x < bank b + 0xBE000 ∨ bank b + 0xC0000 ≤ x → t.readByte x = s.readByte x)) ∧
  (∀ (ok : Bool) (s : State), s.nvm.op = none → exec (.nvmOperationDone ok) s = .next s ∧
    ∀ vdd, exec (.storePageWritten ok vdd) s = .next s) ∧
  (∀ (vdd : Bool) (o : NvOp) (p : Nat) (s : State), RegFile.wf s.regs → Memory.wf s.mem → s.nvm.op = some o → o.op = 5 →
    o.pages = [p] → p < 31 → o.buffer.length = 2040 →
    let copy (c : Nat) : Nat := 0x08800000 + 0x1000 * p + 0x800 * c
    let c := if currentCopy s p = some 0 then 1 else 0
    (∃ t, exec (.storePageWritten true vdd) s = .next t ∧ t.nvm.op = some { o with pages := [], buffer := [] } ∧
      (∀ i < 2040, t.readByte (copy c + i) = o.buffer.getD i 0) ∧
      (∀ x, currentCopy s p = some x → copySeq t p c = (copySeq s p x + 1) % 2 ^ 32) ∧
      (currentCopy s p = none → copySeq t p c = 1) ∧
      (∀ i < 2048, t.readByte (copy (1 - c) + i) = s.readByte (copy (1 - c) + i)) ∧
      t.rfld (.nv .STAT) 0 23 16 = min 255 (s.rfld (.nv .STAT) 0 23 16 + 1)) ∧
    ∃ t, exec (.storePageWritten false vdd) s = .next t ∧ t.nvm.op = some { o with pages := [], buffer := [], bad := true } ∧
      t.rbit (.nv .DIRTY) 0 p = true ∧ Logs 0x906 3 0xE5 (p + 32 * c) s t ∧ copyValid t p c = false ∧
      ∀ i < 2048, t.readByte (copy (1 - c) + i) = s.readByte (copy (1 - c) + i)) ∧
  ∀ (a : Accessor) (page : Fin 32) (off : Fin 2048) (size : Nat) (v : Word) (s : State), RegFile.wf s.regs → Memory.wf s.mem →
    size = 1 ∨ size = 2 ∨ size = 4 → sees a .sram s = true → s.clk.busOn = true → s.power.blocked[9] = false →
    (page.val = 31 ∨ 2040 ≤ off.val → exec (.settingsWrite a page off size v) s = .next (s.answer a .busError)) ∧
    let at0 := 0x20120000 + 0x800 * page.val + off.val
    (page.val < 31 → off.val + size ≤ 2040 → (∀ i < size, stagingLocked s (at0 + i) = false) →
      ∃ t, exec (.settingsWrite a page off size v) s = .next t ∧ lastAnswer a t = .done ∧ t.rbit (.nv .DIRTY) 0 page.val = true ∧
        (∀ i < size, t.readByte (at0 + i) = byteOf v i) ∧ (∀ x, x < at0 ∨ at0 + size ≤ x → t.readByte x = s.readByte x) ∧
        RegsBut [(.nv .DIRTY, 0)] s t ∧ PartsBut [.acc, .mem] s t)

/-- R546 and R561. -/
def Obligations.MailboxCommandsStart : Prop :=
  (∀ (a : Accessor) (slot : Fin 32) (len : BitVec 16) (s : State), RegFile.wf s.regs →
    let cmds : List (Instr × Nat) := [(.hash a slot len, 1), (.verify a slot len, 2), (.cmac a slot len, 3),
      (.ctr a slot len, 4), (.random a slot len, 5), (.keyInstall a slot len, 0x10), (.keyRevoke a slot len, 0x11),
      (.keyInfo a slot len, 0x12), (.setmin a slot len, 0x20), (.winset a slot len, 0x21), (.advance a slot len, 0x30),
      (.decommission a slot len, 0x31)]
    ∀ c code, (c, code) ∈ cmds → WriteReaches a (.se .CMD) (at_ code 24 ||| at_ slot.val 16 ||| len.setWidth 32) s →
      ∃ t, exec c s = .next t ∧ lastAnswer a t = .done ∧
        (∀ o, (a, o) ∈ [(Accessor.a0, 0), (.a1, 1), (.vane, 2)] →
          (s.enclave.job = none → RegsBut [] s t ∧ PartsBut [.acc, .enclave] s t ∧ t.enclave = { s.enclave with job := some ⟨code, slot.val, len.toNat, (s.reg (.se .BUFA)).toNat, (s.reg (.se .DEST)).toNat, s.reg (.se .ARG), a, s.now⟩, owner := o }) ∧
          (s.enclave.job ≠ none → RegsBut [(.se .STAT, 0)] s t ∧ PartsBut [.acc, .safety, .ic, .tw] s t ∧
            t.reg (.se .STAT) = s.reg (.se .STAT) ||| 16)) ∧
        (a = .debug → RegsBut [] s t ∧ PartsBut [.acc] s t)) ∧
  ∀ (a : Accessor) (v : Word) (s : State), RegFile.wf s.regs → WriteReaches a (.se .SECCTL) (v ||| 0x80000000) s →
    ∃ t, exec (.seclockSet a v) s = .next t ∧ lastAnswer a t = .done ∧
      (a = .a0 → t.rbit (.se .SECCTL) 0 31 = true ∧ secure .a0 t = false ∧ RegsBut [(.se .SECCTL, 0)] s t ∧
        PartsBut [.acc, .safety, .ic, .tw] s t) ∧
      (a ≠ .a0 → RegsBut [] s t ∧ PartsBut [.acc] s t)

/-- R545, R549, R551 to R555, R558, R561 and R617. The order of the tests and the upper time bounds, which count as 0, are the
model's (log entries 6 and 47). -/
def Obligations.MailboxResults : Prop :=
  ∀ (ok : Bool) (j : EncJob) (s : State), RegFile.wf s.regs → Memory.wf s.mem → s.enclave.job = some j →
    (encWaits s = true ∨ ticks j.start s.now < jobTicks j → exec (.mailboxDone ok) s = .next s) ∧
    (encWaits s = false → jobTicks j ≤ ticks j.start s.now →
      let ended (r : Nat) (e : Enclave) (t : State) : Prop := t.enclave = { e with job := none, result := r } ∧
        t.rbit (.se .STAT) 0 (if r = 0 then 1 else 2) = true
      let stat : List (Reg × Nat) := [(.se .STAT, 0)]
      let ends (r : Nat) : Prop := ∃ t, exec (.mailboxDone ok) s = .next t ∧ ended r s.enclave t ∧ RegsBut stat s t ∧
        PartsBut [.enclave, .safety, .ic, .tw] s t
      let gives (n : Nat) (bs : List Byte) : Prop := ∃ t, exec (.mailboxDone ok) s = .next t ∧ ended 0 s.enclave t ∧
        (∀ i < n, t.readByte (j.dest + i) = if sramLocked s (j.dest + i) then s.readByte (j.dest + i) else bs.getD i 0) ∧
        (∀ x, x < j.dest ∨ j.dest + n ≤ x → t.readByte x = s.readByte x) ∧ RegsBut ((.nv .DIRTY, 0) :: stat) s t ∧
        PartsBut [.enclave, .mem, .safety, .ic, .tw] s t
      let key := s.enclave.slots[ix 32 j.slot]
      let root := s.enclave.slots[(0 : Fin 32)]
      let input := s.readBytes j.buf (inputBytes j)
      let uid := leBytes s.nvm.factory.uid.toNat 8
      let known : List Nat := [1, 2, 3, 4, 5, 0x10, 0x11, 0x12, 0x20, 0x21, 0x30, 0x31]
      let reset (life : Nat) (t : State) : Prop := t.enclave.life = life ∧ t.nvm.booting = true ∧ t.now = s.now ∧
        t.rbit (.nv .RSTCAUSE) 0 5 = true ∧ ∃ e ∈ t.safety.pending, e.code = 0xA01 ∧ e.source = 0xE3 ∧ e.data = life
      (j.cmd ∉ known → ends 1) ∧
      (j.cmd ∈ [0x20, 0x21, 0x30] → secure j.by_ s = false → ends 5) ∧
      (j.cmd = 0x30 → secure j.by_ s = true →
        (s.enclave.life ≠ 1 → ends 6) ∧
        (s.enclave.life = 1 → s.power.hub ≠ .calm → ∃ t, exec (.mailboxDone ok) s = .next t ∧ reset 2 t ∧
          t.enclave.slots = s.enclave.slots)) ∧
      (j.cmd ∈ known → j.cmd ≠ 0x30 → (j.cmd = 0x20 ∨ j.cmd = 0x21 → secure j.by_ s = true) →
        (buffersOk j = false → ends 2) ∧
        (buffersOk j = true →
          (j.cmd = 1 → gives 32 (leBytes (Config.sha256 input).toNat 32)) ∧
          (j.cmd = 2 → ends (if hasUsage key 1 3 = false then 3
            else if Config.ecdsaOk key.key (input.take 32) (input.drop 32) then 0 else 4)) ∧
          (j.cmd = 3 → (hasUsage key 2 16 = false → ends 3) ∧
            (hasUsage key 2 16 = true → gives 16 (leBytes (Config.cmac key.key input).toNat 16))) ∧
          (j.cmd = 4 → (hasUsage key 2 32 = false → ends 3) ∧
            (hasUsage key 2 32 = true → gives j.len ((List.range j.len).map (fun i =>
              input.getD (16 + i) 0 ^^^ (Config.ctrStream key.key (input.take 16) j.len).getD i 0)))) ∧
          (j.cmd = 5 → (j.len = 0 ∨ 1024 < j.len → ends 2) ∧
            (1 ≤ j.len → j.len ≤ 1024 → (s.enclave.entFail = true → ends 7) ∧
              (s.enclave.entFail = false → ∃ t, exec (.mailboxDone ok) s = .next t ∧ ended 0 s.enclave t ∧
                (∀ i < j.len, sramLocked s (j.dest + i) = true → t.readByte (j.dest + i) = s.readByte (j.dest + i)) ∧
                (∀ x, x < j.dest ∨ j.dest + j.len ≤ x → t.readByte x = s.readByte x) ∧
                RegsBut ((.nv .DIRTY, 0) :: stat) s t ∧ PartsBut [.enclave, .mem, .safety, .ic, .tw] s t))) ∧
          (j.cmd = 0x12 → (key.typ = 0 → ends 3) ∧
            (key.typ = 1 ∨ key.typ = 2 → gives 16 ([BitVec.ofNat 8 key.typ, BitVec.ofNat 8 key.origin,
              BitVec.ofNat 8 key.usage, BitVec.ofNat 8 (key.usage / 256), 0, 0, 0, 0] ++
              (if key.typ = 1 then (leBytes (Config.sha256 key.key).toNat 32).take 8 else List.replicate 8 0)))) ∧
          (j.cmd = 0x20 →
            let consist := j.len % 2 = 1
            let old := if consist then s.enclave.minCon else s.enclave.minFw
            let top (n : Nat) : Prop := if consist then n = (s.reg (.cw .ACTSER)).toNat
              else ∀ b, s.nvm.booted = some b → n = u32 (bankByte s b) 0x0C
            let raised (t : State) : Prop := RegsBut stat s t ∧ PartsBut [.enclave, .safety, .ic, .tw] s t ∧
              if consist then ended 0 { s.enclave with minCon := j.arg } t else ended 0 { s.enclave with minFw := j.arg } t
            ∀ n, top n → consist ∨ s.nvm.booted ≠ none → (n < j.arg.toNat → ends 2) ∧
              (j.arg.toNat ≤ n → (j.arg.toNat ≤ old.toNat → ends 0) ∧
                (old.toNat < j.arg.toNat → (ok = false → ends 8) ∧
                  (ok = true → ∃ t, exec (.mailboxDone ok) s = .next t ∧ raised t)))) ∧
          (j.cmd = 0x21 →
            let range (i : Fin 8) : Word := s.readWord (j.buf + 4 * i.val) &&& 0xFFFF1FFF
            let covers (w : Word) : Prop := fld w 28 16 ≤ fld w 12 0 ∧ fld w 28 16 ≤ 0xEFF ∧ 0xE00 ≤ fld w 12 0
            ((∃ i, covers (range i)) → ends 2) ∧
            ((∀ i, ¬covers (range i)) → (ok = false → ends 8) ∧
              (ok = true → ∃ t, exec (.mailboxDone ok) s = .next t ∧ ended 0 { s.enclave with win := Vector.ofFn range } t ∧
                (∀ i : Fin 8, t.reg (.hp .WIN) i.val = range i) ∧
                (∀ r u, r ≠ .hp .WIN → (r, u) ∉ stat → t.reg r u = s.reg r u) ∧ PartsBut [.enclave, .safety, .ic, .tw] s t ∧
                (certified s = true → certified t = false → Logs 0xA08 1 0xE3 1 s t) ∧
                (certified s = false → t.safety.pending = s.safety.pending)))) ∧
          (j.cmd = 0x31 → (s.enclave.life ≠ 2 → ends 6) ∧
            (s.enclave.life = 2 → (root.typ ≠ 1 → ends 3) ∧
              (root.typ = 1 →
                let good : Prop := input.take 8 = uid ∧
                  Config.ecdsaOk root.key (leBytes (Config.sha256 (input.take 8)).toNat 32) (input.drop 8) = true
                (¬good → ends 4) ∧
                (good → s.power.hub ≠ .calm → ∃ t, exec (.mailboxDone ok) s = .next t ∧ reset 3 t ∧
                  ∀ x : Fin 32, t.enclave.slots[x] = if x.val = 0 then root else KeySlot.reset)))) ∧
          (j.cmd = 0x10 ∨ j.cmd = 0x11 →
            let install : Bool := j.cmd == 0x10
            let r := keyRecord s j.buf
            let plain : Bool := s.enclave.life == 1
            let signed : Prop := r.uid = uid ∧ (if plain then allZero r.sig = true
              else Config.ecdsaOk root.key (leBytes (Config.sha256 r.signed).toNat 32) r.sig = true)
            (s.enclave.life ≠ 1 → s.enclave.life ≠ 2 → ends 6) ∧
            (s.enclave.life = 1 → secure j.by_ s = false → ends 5) ∧
            ((s.enclave.life = 1 ∧ secure j.by_ s = true) ∨ s.enclave.life = 2 →
              (recordOk r install plain = false → ends 2) ∧
              (recordOk r install plain = true → (s.enclave.life = 2 → root.typ ≠ 1 → ends 3) ∧
                ((s.enclave.life = 2 → root.typ = 1) → (¬signed → ends 4) ∧ (signed → (ok = false → ends 8) ∧
                  (ok = true → ∃ t, exec (.mailboxDone ok) s = .next t ∧ t.enclave.life = s.enclave.life ∧
                    t.enclave.job = none ∧ t.enclave.result = 0 ∧ t.rbit (.se .STAT) 0 1 = true ∧
                    RegsBut stat s t ∧ PartsBut [.enclave, .safety, .ic, .tw] s t ∧
                    (∀ x : Fin 32, x.val ≠ r.slot → t.enclave.slots[x] = s.enclave.slots[x]) ∧
                    (install = false → t.enclave.slots[ix 32 r.slot] = KeySlot.reset ∧ Logs 0xA03 0 0xE3 r.slot s t) ∧
                    (install = true → Logs 0xA02 0 0xE3 (r.slot + r.usage * 65536) s t ∧
                      t.enclave.slots[ix 32 r.slot] = ⟨r.typ, r.usage, b2n (!plain), if r.typ = 1 then r.key else if plain then r.key.take 16 else leBytes (Config.aesDecrypt s.nvm.factory.kdu (r.key.take 16)).toNat 16⟩))))))))))

/-- R548, R550, R556 to R558 and R617.
Where the rules leave it open, a clause follows the model's choice (log entry 70). -/
def Obligations.DebugPortAndEnclaveFaults : Prop :=
  (∀ s : State,
    let locked : Prop := s.enclave.life = 2 ∧ s.enclave.dbgOpen = false
    let offered : Prop := locked ∧ s.enclave.entFail = false ∧ s.enclave.dbgFails < 3
    (¬offered → exec .secdbgChallenge s = .next s) ∧
    (offered → ∃ t c, exec .secdbgChallenge s = .next t ∧ c.length = 16 ∧ RegsBut [] s t ∧ PartsBut [.enclave] s t ∧
      t.enclave = { s.enclave with challenge := some c })) ∧
  (∀ (slot : Fin 32) (mac : BitVec 128) (s : State),
    (s.enclave.challenge = none → exec (.secdbgResponse slot mac) s = .next s) ∧
    (∀ c, s.enclave.challenge = some c →
      let k := s.enclave.slots[slot]
      let good : Prop := k.typ = 2 ∧ bit (BitVec.ofNat 16 k.usage) 8 = true ∧
        Config.cmac k.key (c ++ leBytes s.nvm.factory.uid.toNat 8) = mac
      ∃ t, exec (.secdbgResponse slot mac) s = .next t ∧ RegsBut [] s t ∧ PartsBut [.enclave, .safety] s t ∧
        (good → t.enclave = { s.enclave with challenge := none, dbgOpen := true } ∧ certified t = false ∧
          (∃ e es, t.safety.pending = s.safety.pending ++ e :: es ∧ e.code = 0xA05 ∧ e.cls = 1 ∧ e.source = 0xE3 ∧
            e.data = slot.val ∧ (es = [] ↔ certified s = false) ∧
            ∀ f ∈ es, f.code = 0xA08 ∧ f.cls = 1 ∧ f.source = 0xE3 ∧ f.data = 0)) ∧
        (¬good → t.safety = s.safety ∧
          t.enclave = { s.enclave with challenge := none, dbgFails := s.enclave.dbgFails + 1 }))) ∧
  (∀ (repetition : Bool) (s : State), RegFile.wf s.regs →
    (s.enclave.entFail = true → exec (.entropyFail repetition) s = .next s) ∧
    (s.enclave.entFail = false → ∃ t, exec (.entropyFail repetition) s = .next t ∧
      t.enclave = { s.enclave with entFail := true } ∧ Raises 14 s t ∧ Logs 0xA04 3 0xE3 (if repetition then 1 else 0) s t ∧
      RegsBut [(.al .FSTAT, 0)] s t ∧ PartsBut [.enclave, .safety, .ic, .tw] s t)) ∧
  ∀ (w : EncTrip) (code n : Nat) (s : State), RegFile.wf s.regs → Memory.wf s.mem → s.power.hub ≠ .calm →
    (w, code, n) ∈ [(EncTrip.aes, 0xA06, 1), (.sha, 0xA06, 2), (.ecdsa, 0xA06, 3), (.keyStore, 0xA06, 4), (.supply, 0xA07, 1),
      (.clock, 0xA07, 2), (.temperature, 0xA07, 3)] →
    let kat : Prop := w ∈ [EncTrip.aes, .sha, .ecdsa]
    (kat → s.nvm.booting = false → exec (.enclaveSensorTrip w) s = .next s) ∧
    ((kat → s.nvm.booting = true) → ∃ t, exec (.enclaveSensorTrip w) s = .next t ∧ t.nvm.booting = true ∧ t.nvm.booted = none ∧
      t.now = s.now ∧ t.rbit (.nv .RSTCAUSE) 0 5 = true ∧ t.host.session = none ∧ t.enclave.job = none ∧
      t.enclave.challenge = none ∧ t.enclave.slots = s.enclave.slots ∧ t.enclave.life = s.enclave.life ∧
      (∃ e ∈ t.safety.pending, e.code = code ∧ e.cls = 4 ∧ e.source = 0xE3 ∧ e.data = n) ∧
      (kat → t.enclave.katFails = s.enclave.katFails + 1) ∧ (¬kat → t.enclave.katFails = s.enclave.katFails))
end

