-- ==== Sys2Proof/Laws/Access.lean ====
section
/-! SUPPORT. What a register access does once its block is reached. -/
namespace Sys2Proof.Machine
set_option Elab.async false

theorem regPut_reaches {a : Accessor} {r : Reg} {v : Word} {s : State} (h : WriteReaches a r v s) (i : Nat) :
    regPut a r i v s = (writeReg a { reg := r, i := i, bus := 0 } v s).answer a .done := by
  simp [regPut, regWrite, wr, h.1, h.2]

theorem busPut_reaches {a : Accessor} {r : Reg} {v : Word} {s : State} (h : WriteReaches a r v s) (b : Fin 2) :
    busPut a r b v s = (writeReg a { reg := r, i := 0, bus := b } v s).answer a .done := by
  simp [busPut, regWrite, wr, h.1, h.2]

theorem regGet_reaches {a : Accessor} {r : Reg} {s : State} (h : ReadReaches a r s) (i : Nat) :
    regGet a r i s = ((readReg a { reg := r, i := i, bus := 0 } s).2).answer a
      (.data (readReg a { reg := r, i := i, bus := 0 } s).1) := by
  simp only [ReadReaches] at h
  simp [regGet, regRead, h]

theorem busGet_reaches {a : Accessor} {r : Reg} {s : State} (h : ReadReaches a r s) (b : Fin 2) :
    busGet a r b s = ((readReg a { reg := r, i := 0, bus := b } s).2).answer a
      (.data (readReg a { reg := r, i := 0, bus := b } s).1) := by
  simp only [ReadReaches] at h
  simp [busGet, regRead, h]

/-- A write to a block whose domain is off waits (R35). -/
theorem regPut_stall {a : Accessor} {r : Reg} {v : Word} {s : State} (h : gate a r true s = .stall) (i : Nat) :
    regPut a r i v s = s.stall a (wr r v i) := by
  simp [regPut, regWrite, h]

/-- A write outside the accessor's view has no effect (R36). -/
theorem regPut_busError {a : Accessor} {r : Reg} {v : Word} {s : State} (h : gate a r true s = .busError) (i : Nat) :
    regPut a r i v s = s.answer a .busError := by
  simp [regPut, regWrite, h]

end Sys2Proof.Machine
end

