-- ==== Sys2Proof/Laws/Sparse.lean ====
section
/-! SUPPORT. Laws of sparse tables: a write is read back, leaves every other key alone, and keeps the canonical form. -/
namespace Sys2Proof.Machine.Sparse
set_option Elab.async false

variable {α : Type}

theorem get_erase_other (d : Nat → α) (m : List (Nat × α)) (k j : Nat) (h : j ≠ k) :
    get d (erase m k) j = get d m j := by
  induction m with
  | nil => rfl
  | cons e m ih =>
    obtain ⟨i, v⟩ := e
    by_cases hi : i = k
    · subst hi; simp [erase, get, Ne.symm h]
    · simp [erase, get, hi, ih]

theorem get_insert_other (d : Nat → α) (m : List (Nat × α)) (k j : Nat) (v : α) (h : j ≠ k) :
    get d (insert m k v) j = get d m j := by
  induction m with
  | nil => simp [insert, get, Ne.symm h]
  | cons e m ih =>
    obtain ⟨i, w⟩ := e
    by_cases h1 : k < i
    · simp [insert, get, h1, Ne.symm h]
    · by_cases h2 : k = i
      · subst h2; simp [insert, get, Ne.symm h]
      · simp [insert, get, h1, h2, ih]

theorem get_insert_same (d : Nat → α) (m : List (Nat × α)) (k : Nat) (v : α) :
    get d (insert m k v) k = v := by
  induction m with
  | nil => simp [insert, get]
  | cons e m ih =>
    obtain ⟨i, w⟩ := e
    by_cases h1 : k < i
    · simp [insert, get, h1]
    · by_cases h2 : k = i
      · simp [insert, get, h2]
      · simp [insert, get, h1, h2, ih, Ne.symm h2]

theorem get_of_rising (d : Nat → α) (m : List (Nat × α)) (lo k : Nat) (h : risingFrom lo m = true) (hk : k < lo) :
    get d m k = d k := by
  induction m generalizing lo with
  | nil => rfl
  | cons e m ih =>
    obtain ⟨i, w⟩ := e
    simp only [risingFrom, Bool.and_eq_true, decide_eq_true_eq] at h
    have : i ≠ k := by omega
    simp [get, this, ih (i + 1) h.2 (by omega)]

theorem get_erase_same (d : Nat → α) (m : List (Nat × α)) (lo k : Nat) (h : risingFrom lo m = true) :
    get d (erase m k) k = d k := by
  induction m generalizing lo with
  | nil => rfl
  | cons e m ih =>
    obtain ⟨i, w⟩ := e
    simp only [risingFrom, Bool.and_eq_true, decide_eq_true_eq] at h
    by_cases hi : i = k
    · subst hi; simpa [erase] using get_of_rising d m _ _ h.2 (Nat.lt_succ_self _)
    · simp [erase, get, hi, ih _ h.2]

/-- A write leaves every other key alone. -/
theorem get_set_other [DecidableEq α] (d e : Nat → α) (m : List (Nat × α)) (k j : Nat) (v : α) (h : j ≠ k) :
    get d (set e m k v) j = get d m j := by
  unfold set
  split
  · exact get_erase_other d m k j h
  · exact get_insert_other d m k j v h

/-- A write is read back. -/
theorem get_set_same [DecidableEq α] (d : Nat → α) (m : List (Nat × α)) (k : Nat) (v : α) (h : rising m = true) :
    get d (set d m k v) k = v := by
  unfold set
  split
  · next hv => rw [hv]; exact get_erase_same d m 0 k h
  · exact get_insert_same d m k v

/-- Reading looks at the default of the key it reads and at no other. -/
theorem get_default_congr (d e : Nat → α) (m : List (Nat × α)) (k : Nat) (h : d k = e k) : get d m k = get e m k := by
  induction m with
  | nil => exact h
  | cons x m ih => simp [get, ih]

theorem risingFrom_mono (m : List (Nat × α)) (lo hi : Nat) (h : risingFrom hi m = true) (hl : lo ≤ hi) :
    risingFrom lo m = true := by
  cases m with
  | nil => rfl
  | cons e m =>
    simp only [risingFrom, Bool.and_eq_true, decide_eq_true_eq] at h ⊢
    exact ⟨by omega, h.2⟩

theorem risingFrom_erase (m : List (Nat × α)) (lo k : Nat) (h : risingFrom lo m = true) :
    risingFrom lo (erase m k) = true := by
  induction m generalizing lo with
  | nil => rfl
  | cons e m ih =>
    simp only [risingFrom, Bool.and_eq_true, decide_eq_true_eq] at h
    by_cases hi : e.1 = k
    · simpa [erase, hi] using risingFrom_mono m lo _ h.2 (by omega)
    · simp [erase, hi, risingFrom, h.1, ih _ h.2]

theorem risingFrom_insert (m : List (Nat × α)) (lo k : Nat) (v : α) (h : risingFrom lo m = true) (hk : lo ≤ k) :
    risingFrom lo (insert m k v) = true := by
  induction m generalizing lo with
  | nil => simp [insert, risingFrom, hk]
  | cons e m ih =>
    obtain ⟨i, w⟩ := e
    simp only [risingFrom, Bool.and_eq_true, decide_eq_true_eq] at h
    by_cases h1 : k < i
    · have : k + 1 ≤ i := h1
      simp [insert, h1, risingFrom, hk, h.2, this]
    · by_cases h2 : k = i
      · subst h2; simp [insert, risingFrom, hk, h.2]
      · simp [insert, h1, h2, risingFrom, h.1, ih (i + 1) h.2 (by omega)]

/-- A write keeps the keys rising. -/
theorem rising_set [DecidableEq α] (d : Nat → α) (m : List (Nat × α)) (k : Nat) (v : α) (h : rising m = true) :
    rising (set d m k v) = true := by
  unfold set
  split
  · exact risingFrom_erase m 0 k h
  · exact risingFrom_insert m 0 k v h (Nat.zero_le k)

theorem risingFrom_filter (m : List (Nat × α)) (lo : Nat) (p : Nat × α → Bool) (h : risingFrom lo m = true) :
    risingFrom lo (m.filter p) = true := by
  induction m generalizing lo with
  | nil => rfl
  | cons e m ih =>
    simp only [risingFrom, Bool.and_eq_true, decide_eq_true_eq] at h
    by_cases hp : p e
    · simpa [hp, risingFrom, h.1] using ih _ h.2
    · simpa [hp] using risingFrom_mono (m.filter p) lo _ (ih _ h.2) (by omega)

/-- Dropping entries keeps the keys rising. -/
theorem rising_filter (m : List (Nat × α)) (p : Nat × α → Bool) (h : rising m = true) : rising (m.filter p) = true :=
  risingFrom_filter m 0 p h

/-- A range that reads as its defaults again keeps the keys rising. -/
theorem rising_clear (m : List (Nat × α)) (p : Nat → Bool) (h : rising m = true) : rising (clear p m) = true :=
  risingFrom_filter m 0 _ h

/-- The canonical form is: keys rising, and no entry equal to the default of its key. -/
theorem wfFrom_iff [DecidableEq α] (d : Nat → α) (m : List (Nat × α)) (lo : Nat) :
    wfFrom d lo m = true ↔ risingFrom lo m = true ∧ ∀ e ∈ m, e.2 ≠ d e.1 := by
  induction m generalizing lo with
  | nil => simp [wfFrom, risingFrom]
  | cons e m ih => simp [wfFrom, risingFrom, ih, and_assoc, and_left_comm]

theorem mem_erase {m : List (Nat × α)} {k : Nat} {e : Nat × α} (h : e ∈ erase m k) : e ∈ m := by
  induction m with
  | nil => exact h
  | cons x m ih =>
    by_cases hx : x.1 = k
    · simp only [erase, hx, if_pos] at h; exact List.mem_cons_of_mem _ h
    · simp only [erase, hx, if_neg, not_false_eq_true, List.mem_cons] at h ⊢
      exact h.imp id ih

theorem mem_insert {m : List (Nat × α)} {k : Nat} {v : α} {e : Nat × α} (h : e ∈ insert m k v) : e = (k, v) ∨ e ∈ m := by
  induction m with
  | nil => exact Or.inl (by simpa [insert] using h)
  | cons x m ih =>
    simp only [insert] at h
    split at h
    · simpa using h
    · split at h
      · rcases List.mem_cons.1 h with h | h
        · exact Or.inl h
        · exact Or.inr (List.mem_cons_of_mem _ h)
      · rcases List.mem_cons.1 h with h | h
        · exact Or.inr (h ▸ List.mem_cons_self)
        · exact (ih h).imp id (List.mem_cons_of_mem _)

/-- A write keeps the canonical form. -/
theorem wf_set [DecidableEq α] (d : Nat → α) (m : List (Nat × α)) (k : Nat) (v : α) (h : wf d m = true) :
    wf d (set d m k v) = true := by
  obtain ⟨hr, hd⟩ := (wfFrom_iff d m 0).1 h
  refine (wfFrom_iff d _ 0).2 ⟨rising_set d m k v hr, ?_⟩
  intro e he
  unfold set at he
  split at he
  · exact hd e (mem_erase he)
  · next hv =>
    rcases mem_insert he with rfl | he
    · exact hv
    · exact hd e he

/-- Dropping entries keeps the canonical form. -/
theorem wf_filter [DecidableEq α] (d : Nat → α) (m : List (Nat × α)) (p : Nat × α → Bool) (h : wf d m = true) :
    wf d (m.filter p) = true := by
  obtain ⟨hr, hd⟩ := (wfFrom_iff d m 0).1 h
  exact (wfFrom_iff d _ 0).2 ⟨rising_filter m p hr, fun e he => hd e (List.mem_filter.1 he).1⟩

/-- A range that reads as its defaults again keeps the canonical form. -/
theorem wf_clear [DecidableEq α] (d : Nat → α) (m : List (Nat × α)) (p : Nat → Bool) (h : wf d m = true) :
    wf d (clear p m) = true :=
  wf_filter d m _ h

theorem rising_of_wf [DecidableEq α] {d : Nat → α} {m : List (Nat × α)} (h : wf d m = true) : rising m = true :=
  ((wfFrom_iff d m 0).1 h).1

/-- Reading a cleared key gives its default. -/
theorem get_clear (d : Nat → α) (m : List (Nat × α)) (p : Nat → Bool) (k : Nat) :
    get d (clear p m) k = if p k then d k else get d m k := by
  induction m with
  | nil => simp [clear, get]
  | cons e m ih =>
    obtain ⟨i, w⟩ := e
    unfold clear at ih ⊢
    by_cases hp : p i <;> by_cases hk : i = k
    · subst hk; simp [List.filter, hp, ih]
    · simp [List.filter, hp, ih, get, hk]
    · subst hk; simp [List.filter, hp, get]
    · simp [List.filter, hp, ih, get, hk]

end Sys2Proof.Machine.Sparse
end

