-- ==== Sys2Proof/Laws/State.lean ====
section
/-! SUPPORT. What each named update of the state does to each field: the field it writes, and every other field as before. -/
namespace Sys2Proof.Machine
set_option Elab.async false

/-! #### State.writeByte -/

@[simp] theorem State.writeByte_regs (s : State) (a : Nat) (b : Byte) : (s.writeByte a b).regs = s.regs := rfl
@[simp] theorem State.writeByte_mem (s : State) (a : Nat) (b : Byte) :
    (s.writeByte a b).mem = Sparse.set memDefault s.mem a b := rfl
@[simp] theorem State.writeByte_acc (s : State) (a : Nat) (b : Byte) : (s.writeByte a b).acc = s.acc := rfl
@[simp] theorem State.writeByte_freeCount (s : State) (a : Nat) (b : Byte) : (s.writeByte a b).freeCount = s.freeCount := rfl
@[simp] theorem State.writeByte_clk (s : State) (a : Nat) (b : Byte) : (s.writeByte a b).clk = s.clk := rfl
@[simp] theorem State.writeByte_merger (s : State) (a : Nat) (b : Byte) : (s.writeByte a b).merger = s.merger := rfl
@[simp] theorem State.writeByte_safety (s : State) (a : Nat) (b : Byte) : (s.writeByte a b).safety = s.safety := rfl
@[simp] theorem State.writeByte_router (s : State) (a : Nat) (b : Byte) : (s.writeByte a b).router = s.router := rfl
@[simp] theorem State.writeByte_timers (s : State) (a : Nat) (b : Byte) : (s.writeByte a b).timers = s.timers := rfl
@[simp] theorem State.writeByte_drawbar (s : State) (a : Nat) (b : Byte) : (s.writeByte a b).drawbar = s.drawbar := rfl
@[simp] theorem State.writeByte_slots (s : State) (a : Nat) (b : Byte) : (s.writeByte a b).slots = s.slots := rfl
@[simp] theorem State.writeByte_loop (s : State) (a : Nat) (b : Byte) : (s.writeByte a b).loop = s.loop := rfl
@[simp] theorem State.writeByte_prRun (s : State) (a : Nat) (b : Byte) : (s.writeByte a b).prRun = s.prRun := rfl
@[simp] theorem State.writeByte_homing (s : State) (a : Nat) (b : Byte) : (s.writeByte a b).homing = s.homing := rfl
@[simp] theorem State.writeByte_lanes (s : State) (a : Nat) (b : Byte) : (s.writeByte a b).lanes = s.lanes := rfl
@[simp] theorem State.writeByte_phys (s : State) (a : Nat) (b : Byte) : (s.writeByte a b).phys = s.phys := rfl
@[simp] theorem State.writeByte_cal (s : State) (a : Nat) (b : Byte) : (s.writeByte a b).cal = s.cal := rfl
@[simp] theorem State.writeByte_coach (s : State) (a : Nat) (b : Byte) : (s.writeByte a b).coach = s.coach := rfl
@[simp] theorem State.writeByte_sensor (s : State) (a : Nat) (b : Byte) : (s.writeByte a b).sensor = s.sensor := rfl
@[simp] theorem State.writeByte_ic (s : State) (a : Nat) (b : Byte) : (s.writeByte a b).ic = s.ic := rfl
@[simp] theorem State.writeByte_power (s : State) (a : Nat) (b : Byte) : (s.writeByte a b).power = s.power := rfl
@[simp] theorem State.writeByte_nvm (s : State) (a : Nat) (b : Byte) : (s.writeByte a b).nvm = s.nvm := rfl
@[simp] theorem State.writeByte_enclave (s : State) (a : Nat) (b : Byte) : (s.writeByte a b).enclave = s.enclave := rfl
@[simp] theorem State.writeByte_host (s : State) (a : Nat) (b : Byte) : (s.writeByte a b).host = s.host := rfl
@[simp] theorem State.writeByte_tw (s : State) (a : Nat) (b : Byte) : (s.writeByte a b).tw = s.tw := rfl
@[simp] theorem State.writeByte_pending (s : State) (a : Nat) (b : Byte) : (s.writeByte a b).pending = s.pending := rfl
@[simp] theorem State.writeByte_reg (s : State) (a : Nat) (b : Byte) (q : Reg) (v : Nat) :
    (s.writeByte a b).reg q v = s.reg q v := rfl

/-! #### State.eraseRange -/

@[simp] theorem State.eraseRange_regs (s : State) (a n : Nat) : (s.eraseRange a n).regs = s.regs := rfl
@[simp] theorem State.eraseRange_mem (s : State) (a n : Nat) :
    (s.eraseRange a n).mem = Sparse.clear (fun k => decide (a ≤ k) && decide (k < a + n)) s.mem := rfl
@[simp] theorem State.eraseRange_acc (s : State) (a n : Nat) : (s.eraseRange a n).acc = s.acc := rfl
@[simp] theorem State.eraseRange_freeCount (s : State) (a n : Nat) : (s.eraseRange a n).freeCount = s.freeCount := rfl
@[simp] theorem State.eraseRange_clk (s : State) (a n : Nat) : (s.eraseRange a n).clk = s.clk := rfl
@[simp] theorem State.eraseRange_merger (s : State) (a n : Nat) : (s.eraseRange a n).merger = s.merger := rfl
@[simp] theorem State.eraseRange_safety (s : State) (a n : Nat) : (s.eraseRange a n).safety = s.safety := rfl
@[simp] theorem State.eraseRange_router (s : State) (a n : Nat) : (s.eraseRange a n).router = s.router := rfl
@[simp] theorem State.eraseRange_timers (s : State) (a n : Nat) : (s.eraseRange a n).timers = s.timers := rfl
@[simp] theorem State.eraseRange_drawbar (s : State) (a n : Nat) : (s.eraseRange a n).drawbar = s.drawbar := rfl
@[simp] theorem State.eraseRange_slots (s : State) (a n : Nat) : (s.eraseRange a n).slots = s.slots := rfl
@[simp] theorem State.eraseRange_loop (s : State) (a n : Nat) : (s.eraseRange a n).loop = s.loop := rfl
@[simp] theorem State.eraseRange_prRun (s : State) (a n : Nat) : (s.eraseRange a n).prRun = s.prRun := rfl
@[simp] theorem State.eraseRange_homing (s : State) (a n : Nat) : (s.eraseRange a n).homing = s.homing := rfl
@[simp] theorem State.eraseRange_lanes (s : State) (a n : Nat) : (s.eraseRange a n).lanes = s.lanes := rfl
@[simp] theorem State.eraseRange_phys (s : State) (a n : Nat) : (s.eraseRange a n).phys = s.phys := rfl
@[simp] theorem State.eraseRange_cal (s : State) (a n : Nat) : (s.eraseRange a n).cal = s.cal := rfl
@[simp] theorem State.eraseRange_coach (s : State) (a n : Nat) : (s.eraseRange a n).coach = s.coach := rfl
@[simp] theorem State.eraseRange_sensor (s : State) (a n : Nat) : (s.eraseRange a n).sensor = s.sensor := rfl
@[simp] theorem State.eraseRange_ic (s : State) (a n : Nat) : (s.eraseRange a n).ic = s.ic := rfl
@[simp] theorem State.eraseRange_power (s : State) (a n : Nat) : (s.eraseRange a n).power = s.power := rfl
@[simp] theorem State.eraseRange_nvm (s : State) (a n : Nat) : (s.eraseRange a n).nvm = s.nvm := rfl
@[simp] theorem State.eraseRange_enclave (s : State) (a n : Nat) : (s.eraseRange a n).enclave = s.enclave := rfl
@[simp] theorem State.eraseRange_host (s : State) (a n : Nat) : (s.eraseRange a n).host = s.host := rfl
@[simp] theorem State.eraseRange_tw (s : State) (a n : Nat) : (s.eraseRange a n).tw = s.tw := rfl
@[simp] theorem State.eraseRange_pending (s : State) (a n : Nat) : (s.eraseRange a n).pending = s.pending := rfl
@[simp] theorem State.eraseRange_reg (s : State) (a n : Nat) (q : Reg) (v : Nat) :
    (s.eraseRange a n).reg q v = s.reg q v := rfl

/-! #### State.setReg -/

@[simp] theorem State.setReg_regs (s : State) (r : Reg) (u : Nat) (w : Word) :
    (s.setReg r u w).regs = Sparse.set (fun _ => r.resetVal u) s.regs (r.key u) w := rfl
@[simp] theorem State.setReg_mem (s : State) (r : Reg) (u : Nat) (w : Word) : (s.setReg r u w).mem = s.mem := rfl
@[simp] theorem State.setReg_acc (s : State) (r : Reg) (u : Nat) (w : Word) : (s.setReg r u w).acc = s.acc := rfl
@[simp] theorem State.setReg_freeCount (s : State) (r : Reg) (u : Nat) (w : Word) : (s.setReg r u w).freeCount = s.freeCount := rfl
@[simp] theorem State.setReg_clk (s : State) (r : Reg) (u : Nat) (w : Word) : (s.setReg r u w).clk = s.clk := rfl
@[simp] theorem State.setReg_merger (s : State) (r : Reg) (u : Nat) (w : Word) : (s.setReg r u w).merger = s.merger := rfl
@[simp] theorem State.setReg_safety (s : State) (r : Reg) (u : Nat) (w : Word) : (s.setReg r u w).safety = s.safety := rfl
@[simp] theorem State.setReg_router (s : State) (r : Reg) (u : Nat) (w : Word) : (s.setReg r u w).router = s.router := rfl
@[simp] theorem State.setReg_timers (s : State) (r : Reg) (u : Nat) (w : Word) : (s.setReg r u w).timers = s.timers := rfl
@[simp] theorem State.setReg_drawbar (s : State) (r : Reg) (u : Nat) (w : Word) : (s.setReg r u w).drawbar = s.drawbar := rfl
@[simp] theorem State.setReg_slots (s : State) (r : Reg) (u : Nat) (w : Word) : (s.setReg r u w).slots = s.slots := rfl
@[simp] theorem State.setReg_loop (s : State) (r : Reg) (u : Nat) (w : Word) : (s.setReg r u w).loop = s.loop := rfl
@[simp] theorem State.setReg_prRun (s : State) (r : Reg) (u : Nat) (w : Word) : (s.setReg r u w).prRun = s.prRun := rfl
@[simp] theorem State.setReg_homing (s : State) (r : Reg) (u : Nat) (w : Word) : (s.setReg r u w).homing = s.homing := rfl
@[simp] theorem State.setReg_lanes (s : State) (r : Reg) (u : Nat) (w : Word) : (s.setReg r u w).lanes = s.lanes := rfl
@[simp] theorem State.setReg_phys (s : State) (r : Reg) (u : Nat) (w : Word) : (s.setReg r u w).phys = s.phys := rfl
@[simp] theorem State.setReg_cal (s : State) (r : Reg) (u : Nat) (w : Word) : (s.setReg r u w).cal = s.cal := rfl
@[simp] theorem State.setReg_coach (s : State) (r : Reg) (u : Nat) (w : Word) : (s.setReg r u w).coach = s.coach := rfl
@[simp] theorem State.setReg_sensor (s : State) (r : Reg) (u : Nat) (w : Word) : (s.setReg r u w).sensor = s.sensor := rfl
@[simp] theorem State.setReg_ic (s : State) (r : Reg) (u : Nat) (w : Word) : (s.setReg r u w).ic = s.ic := rfl
@[simp] theorem State.setReg_power (s : State) (r : Reg) (u : Nat) (w : Word) : (s.setReg r u w).power = s.power := rfl
@[simp] theorem State.setReg_nvm (s : State) (r : Reg) (u : Nat) (w : Word) : (s.setReg r u w).nvm = s.nvm := rfl
@[simp] theorem State.setReg_enclave (s : State) (r : Reg) (u : Nat) (w : Word) : (s.setReg r u w).enclave = s.enclave := rfl
@[simp] theorem State.setReg_host (s : State) (r : Reg) (u : Nat) (w : Word) : (s.setReg r u w).host = s.host := rfl
@[simp] theorem State.setReg_tw (s : State) (r : Reg) (u : Nat) (w : Word) : (s.setReg r u w).tw = s.tw := rfl
@[simp] theorem State.setReg_pending (s : State) (r : Reg) (u : Nat) (w : Word) : (s.setReg r u w).pending = s.pending := rfl
@[simp] theorem State.setReg_readByte (s : State) (r : Reg) (u : Nat) (w : Word) (i : Nat) :
    (s.setReg r u w).readByte i = s.readByte i := rfl

/-! #### State.answer -/

@[simp] theorem State.answer_regs (s : State) (a : Accessor) (w : Answer) : (s.answer a w).regs = s.regs := rfl
@[simp] theorem State.answer_mem (s : State) (a : Accessor) (w : Answer) : (s.answer a w).mem = s.mem := rfl
@[simp] theorem State.answer_acc (s : State) (a : Accessor) (w : Answer) :
    (s.answer a w).acc = upd s.acc (accIx a) (fun x => { x with answer := w }) := rfl
@[simp] theorem State.answer_freeCount (s : State) (a : Accessor) (w : Answer) : (s.answer a w).freeCount = s.freeCount := rfl
@[simp] theorem State.answer_clk (s : State) (a : Accessor) (w : Answer) : (s.answer a w).clk = s.clk := rfl
@[simp] theorem State.answer_merger (s : State) (a : Accessor) (w : Answer) : (s.answer a w).merger = s.merger := rfl
@[simp] theorem State.answer_safety (s : State) (a : Accessor) (w : Answer) : (s.answer a w).safety = s.safety := rfl
@[simp] theorem State.answer_router (s : State) (a : Accessor) (w : Answer) : (s.answer a w).router = s.router := rfl
@[simp] theorem State.answer_timers (s : State) (a : Accessor) (w : Answer) : (s.answer a w).timers = s.timers := rfl
@[simp] theorem State.answer_drawbar (s : State) (a : Accessor) (w : Answer) : (s.answer a w).drawbar = s.drawbar := rfl
@[simp] theorem State.answer_slots (s : State) (a : Accessor) (w : Answer) : (s.answer a w).slots = s.slots := rfl
@[simp] theorem State.answer_loop (s : State) (a : Accessor) (w : Answer) : (s.answer a w).loop = s.loop := rfl
@[simp] theorem State.answer_prRun (s : State) (a : Accessor) (w : Answer) : (s.answer a w).prRun = s.prRun := rfl
@[simp] theorem State.answer_homing (s : State) (a : Accessor) (w : Answer) : (s.answer a w).homing = s.homing := rfl
@[simp] theorem State.answer_lanes (s : State) (a : Accessor) (w : Answer) : (s.answer a w).lanes = s.lanes := rfl
@[simp] theorem State.answer_phys (s : State) (a : Accessor) (w : Answer) : (s.answer a w).phys = s.phys := rfl
@[simp] theorem State.answer_cal (s : State) (a : Accessor) (w : Answer) : (s.answer a w).cal = s.cal := rfl
@[simp] theorem State.answer_coach (s : State) (a : Accessor) (w : Answer) : (s.answer a w).coach = s.coach := rfl
@[simp] theorem State.answer_sensor (s : State) (a : Accessor) (w : Answer) : (s.answer a w).sensor = s.sensor := rfl
@[simp] theorem State.answer_ic (s : State) (a : Accessor) (w : Answer) : (s.answer a w).ic = s.ic := rfl
@[simp] theorem State.answer_power (s : State) (a : Accessor) (w : Answer) : (s.answer a w).power = s.power := rfl
@[simp] theorem State.answer_nvm (s : State) (a : Accessor) (w : Answer) : (s.answer a w).nvm = s.nvm := rfl
@[simp] theorem State.answer_enclave (s : State) (a : Accessor) (w : Answer) : (s.answer a w).enclave = s.enclave := rfl
@[simp] theorem State.answer_host (s : State) (a : Accessor) (w : Answer) : (s.answer a w).host = s.host := rfl
@[simp] theorem State.answer_tw (s : State) (a : Accessor) (w : Answer) : (s.answer a w).tw = s.tw := rfl
@[simp] theorem State.answer_pending (s : State) (a : Accessor) (w : Answer) : (s.answer a w).pending = s.pending := rfl
@[simp] theorem State.answer_reg (s : State) (a : Accessor) (w : Answer) (q : Reg) (v : Nat) :
    (s.answer a w).reg q v = s.reg q v := rfl
@[simp] theorem State.answer_readByte (s : State) (a : Accessor) (w : Answer) (i : Nat) :
    (s.answer a w).readByte i = s.readByte i := rfl

/-! #### State.stall -/

@[simp] theorem State.stall_regs (s : State) (a : Accessor) (x : Access) : (s.stall a x).regs = s.regs := rfl
@[simp] theorem State.stall_mem (s : State) (a : Accessor) (x : Access) : (s.stall a x).mem = s.mem := rfl
@[simp] theorem State.stall_acc (s : State) (a : Accessor) (x : Access) :
    (s.stall a x).acc = upd s.acc (accIx a) (fun _ => { answer := .stalled, stalled := some x }) := rfl
@[simp] theorem State.stall_freeCount (s : State) (a : Accessor) (x : Access) : (s.stall a x).freeCount = s.freeCount := rfl
@[simp] theorem State.stall_clk (s : State) (a : Accessor) (x : Access) : (s.stall a x).clk = s.clk := rfl
@[simp] theorem State.stall_merger (s : State) (a : Accessor) (x : Access) : (s.stall a x).merger = s.merger := rfl
@[simp] theorem State.stall_safety (s : State) (a : Accessor) (x : Access) : (s.stall a x).safety = s.safety := rfl
@[simp] theorem State.stall_router (s : State) (a : Accessor) (x : Access) : (s.stall a x).router = s.router := rfl
@[simp] theorem State.stall_timers (s : State) (a : Accessor) (x : Access) : (s.stall a x).timers = s.timers := rfl
@[simp] theorem State.stall_drawbar (s : State) (a : Accessor) (x : Access) : (s.stall a x).drawbar = s.drawbar := rfl
@[simp] theorem State.stall_slots (s : State) (a : Accessor) (x : Access) : (s.stall a x).slots = s.slots := rfl
@[simp] theorem State.stall_loop (s : State) (a : Accessor) (x : Access) : (s.stall a x).loop = s.loop := rfl
@[simp] theorem State.stall_prRun (s : State) (a : Accessor) (x : Access) : (s.stall a x).prRun = s.prRun := rfl
@[simp] theorem State.stall_homing (s : State) (a : Accessor) (x : Access) : (s.stall a x).homing = s.homing := rfl
@[simp] theorem State.stall_lanes (s : State) (a : Accessor) (x : Access) : (s.stall a x).lanes = s.lanes := rfl
@[simp] theorem State.stall_phys (s : State) (a : Accessor) (x : Access) : (s.stall a x).phys = s.phys := rfl
@[simp] theorem State.stall_cal (s : State) (a : Accessor) (x : Access) : (s.stall a x).cal = s.cal := rfl
@[simp] theorem State.stall_coach (s : State) (a : Accessor) (x : Access) : (s.stall a x).coach = s.coach := rfl
@[simp] theorem State.stall_sensor (s : State) (a : Accessor) (x : Access) : (s.stall a x).sensor = s.sensor := rfl
@[simp] theorem State.stall_ic (s : State) (a : Accessor) (x : Access) : (s.stall a x).ic = s.ic := rfl
@[simp] theorem State.stall_power (s : State) (a : Accessor) (x : Access) : (s.stall a x).power = s.power := rfl
@[simp] theorem State.stall_nvm (s : State) (a : Accessor) (x : Access) : (s.stall a x).nvm = s.nvm := rfl
@[simp] theorem State.stall_enclave (s : State) (a : Accessor) (x : Access) : (s.stall a x).enclave = s.enclave := rfl
@[simp] theorem State.stall_host (s : State) (a : Accessor) (x : Access) : (s.stall a x).host = s.host := rfl
@[simp] theorem State.stall_tw (s : State) (a : Accessor) (x : Access) : (s.stall a x).tw = s.tw := rfl
@[simp] theorem State.stall_pending (s : State) (a : Accessor) (x : Access) : (s.stall a x).pending = s.pending := rfl
@[simp] theorem State.stall_reg (s : State) (a : Accessor) (x : Access) (q : Reg) (v : Nat) :
    (s.stall a x).reg q v = s.reg q v := rfl
@[simp] theorem State.stall_readByte (s : State) (a : Accessor) (x : Access) (i : Nat) :
    (s.stall a x).readByte i = s.readByte i := rfl

/-! #### updSource -/

@[simp] theorem updSource_regs (n : Fin 160) (f : IntSource → IntSource) (s : State) :
    (updSource n f s).regs = s.regs := rfl
@[simp] theorem updSource_mem (n : Fin 160) (f : IntSource → IntSource) (s : State) :
    (updSource n f s).mem = s.mem := rfl
@[simp] theorem updSource_acc (n : Fin 160) (f : IntSource → IntSource) (s : State) :
    (updSource n f s).acc = s.acc := rfl
@[simp] theorem updSource_freeCount (n : Fin 160) (f : IntSource → IntSource) (s : State) :
    (updSource n f s).freeCount = s.freeCount := rfl
@[simp] theorem updSource_clk (n : Fin 160) (f : IntSource → IntSource) (s : State) :
    (updSource n f s).clk = s.clk := rfl
@[simp] theorem updSource_merger (n : Fin 160) (f : IntSource → IntSource) (s : State) :
    (updSource n f s).merger = s.merger := rfl
@[simp] theorem updSource_safety (n : Fin 160) (f : IntSource → IntSource) (s : State) :
    (updSource n f s).safety = s.safety := rfl
@[simp] theorem updSource_router (n : Fin 160) (f : IntSource → IntSource) (s : State) :
    (updSource n f s).router = s.router := rfl
@[simp] theorem updSource_timers (n : Fin 160) (f : IntSource → IntSource) (s : State) :
    (updSource n f s).timers = s.timers := rfl
@[simp] theorem updSource_drawbar (n : Fin 160) (f : IntSource → IntSource) (s : State) :
    (updSource n f s).drawbar = s.drawbar := rfl
@[simp] theorem updSource_slots (n : Fin 160) (f : IntSource → IntSource) (s : State) :
    (updSource n f s).slots = s.slots := rfl
@[simp] theorem updSource_loop (n : Fin 160) (f : IntSource → IntSource) (s : State) :
    (updSource n f s).loop = s.loop := rfl
@[simp] theorem updSource_prRun (n : Fin 160) (f : IntSource → IntSource) (s : State) :
    (updSource n f s).prRun = s.prRun := rfl
@[simp] theorem updSource_homing (n : Fin 160) (f : IntSource → IntSource) (s : State) :
    (updSource n f s).homing = s.homing := rfl
@[simp] theorem updSource_lanes (n : Fin 160) (f : IntSource → IntSource) (s : State) :
    (updSource n f s).lanes = s.lanes := rfl
@[simp] theorem updSource_phys (n : Fin 160) (f : IntSource → IntSource) (s : State) :
    (updSource n f s).phys = s.phys := rfl
@[simp] theorem updSource_cal (n : Fin 160) (f : IntSource → IntSource) (s : State) :
    (updSource n f s).cal = s.cal := rfl
@[simp] theorem updSource_coach (n : Fin 160) (f : IntSource → IntSource) (s : State) :
    (updSource n f s).coach = s.coach := rfl
@[simp] theorem updSource_sensor (n : Fin 160) (f : IntSource → IntSource) (s : State) :
    (updSource n f s).sensor = s.sensor := rfl
@[simp] theorem updSource_ic (n : Fin 160) (f : IntSource → IntSource) (s : State) :
    (updSource n f s).ic = { s.ic with sources := upd s.ic.sources n f } := rfl
@[simp] theorem updSource_power (n : Fin 160) (f : IntSource → IntSource) (s : State) :
    (updSource n f s).power = s.power := rfl
@[simp] theorem updSource_nvm (n : Fin 160) (f : IntSource → IntSource) (s : State) :
    (updSource n f s).nvm = s.nvm := rfl
@[simp] theorem updSource_enclave (n : Fin 160) (f : IntSource → IntSource) (s : State) :
    (updSource n f s).enclave = s.enclave := rfl
@[simp] theorem updSource_host (n : Fin 160) (f : IntSource → IntSource) (s : State) :
    (updSource n f s).host = s.host := rfl
@[simp] theorem updSource_tw (n : Fin 160) (f : IntSource → IntSource) (s : State) :
    (updSource n f s).tw = s.tw := rfl
@[simp] theorem updSource_pending (n : Fin 160) (f : IntSource → IntSource) (s : State) :
    (updSource n f s).pending = s.pending := rfl
@[simp] theorem updSource_reg (n : Fin 160) (f : IntSource → IntSource) (s : State) (q : Reg) (v : Nat) :
    (updSource n f s).reg q v = s.reg q v := rfl
@[simp] theorem updSource_readByte (n : Fin 160) (f : IntSource → IntSource) (s : State) (i : Nat) :
    (updSource n f s).readByte i = s.readByte i := rfl

/-! #### updCoach -/

@[simp] theorem updCoach_regs (f : Coach → Coach) (s : State) : (updCoach f s).regs = s.regs := rfl
@[simp] theorem updCoach_mem (f : Coach → Coach) (s : State) : (updCoach f s).mem = s.mem := rfl
@[simp] theorem updCoach_acc (f : Coach → Coach) (s : State) : (updCoach f s).acc = s.acc := rfl
@[simp] theorem updCoach_freeCount (f : Coach → Coach) (s : State) : (updCoach f s).freeCount = s.freeCount := rfl
@[simp] theorem updCoach_clk (f : Coach → Coach) (s : State) : (updCoach f s).clk = s.clk := rfl
@[simp] theorem updCoach_merger (f : Coach → Coach) (s : State) : (updCoach f s).merger = s.merger := rfl
@[simp] theorem updCoach_safety (f : Coach → Coach) (s : State) : (updCoach f s).safety = s.safety := rfl
@[simp] theorem updCoach_router (f : Coach → Coach) (s : State) : (updCoach f s).router = s.router := rfl
@[simp] theorem updCoach_timers (f : Coach → Coach) (s : State) : (updCoach f s).timers = s.timers := rfl
@[simp] theorem updCoach_drawbar (f : Coach → Coach) (s : State) : (updCoach f s).drawbar = s.drawbar := rfl
@[simp] theorem updCoach_slots (f : Coach → Coach) (s : State) : (updCoach f s).slots = s.slots := rfl
@[simp] theorem updCoach_loop (f : Coach → Coach) (s : State) : (updCoach f s).loop = s.loop := rfl
@[simp] theorem updCoach_prRun (f : Coach → Coach) (s : State) : (updCoach f s).prRun = s.prRun := rfl
@[simp] theorem updCoach_homing (f : Coach → Coach) (s : State) : (updCoach f s).homing = s.homing := rfl
@[simp] theorem updCoach_lanes (f : Coach → Coach) (s : State) : (updCoach f s).lanes = s.lanes := rfl
@[simp] theorem updCoach_phys (f : Coach → Coach) (s : State) : (updCoach f s).phys = s.phys := rfl
@[simp] theorem updCoach_cal (f : Coach → Coach) (s : State) : (updCoach f s).cal = s.cal := rfl
@[simp] theorem updCoach_coach (f : Coach → Coach) (s : State) : (updCoach f s).coach = f s.coach := rfl
@[simp] theorem updCoach_sensor (f : Coach → Coach) (s : State) : (updCoach f s).sensor = s.sensor := rfl
@[simp] theorem updCoach_ic (f : Coach → Coach) (s : State) : (updCoach f s).ic = s.ic := rfl
@[simp] theorem updCoach_power (f : Coach → Coach) (s : State) : (updCoach f s).power = s.power := rfl
@[simp] theorem updCoach_nvm (f : Coach → Coach) (s : State) : (updCoach f s).nvm = s.nvm := rfl
@[simp] theorem updCoach_enclave (f : Coach → Coach) (s : State) : (updCoach f s).enclave = s.enclave := rfl
@[simp] theorem updCoach_host (f : Coach → Coach) (s : State) : (updCoach f s).host = s.host := rfl
@[simp] theorem updCoach_tw (f : Coach → Coach) (s : State) : (updCoach f s).tw = s.tw := rfl
@[simp] theorem updCoach_pending (f : Coach → Coach) (s : State) : (updCoach f s).pending = s.pending := rfl
@[simp] theorem updCoach_reg (f : Coach → Coach) (s : State) (q : Reg) (v : Nat) :
    (updCoach f s).reg q v = s.reg q v := rfl
@[simp] theorem updCoach_readByte (f : Coach → Coach) (s : State) (i : Nat) :
    (updCoach f s).readByte i = s.readByte i := rfl

/-! #### updBus -/

@[simp] theorem updBus_regs (b : Fin 2) (f : Drawbar → Drawbar) (s : State) : (updBus b f s).regs = s.regs := rfl
@[simp] theorem updBus_mem (b : Fin 2) (f : Drawbar → Drawbar) (s : State) : (updBus b f s).mem = s.mem := rfl
@[simp] theorem updBus_acc (b : Fin 2) (f : Drawbar → Drawbar) (s : State) : (updBus b f s).acc = s.acc := rfl
@[simp] theorem updBus_freeCount (b : Fin 2) (f : Drawbar → Drawbar) (s : State) :
    (updBus b f s).freeCount = s.freeCount := rfl
@[simp] theorem updBus_clk (b : Fin 2) (f : Drawbar → Drawbar) (s : State) : (updBus b f s).clk = s.clk := rfl
@[simp] theorem updBus_merger (b : Fin 2) (f : Drawbar → Drawbar) (s : State) : (updBus b f s).merger = s.merger := rfl
@[simp] theorem updBus_safety (b : Fin 2) (f : Drawbar → Drawbar) (s : State) : (updBus b f s).safety = s.safety := rfl
@[simp] theorem updBus_router (b : Fin 2) (f : Drawbar → Drawbar) (s : State) : (updBus b f s).router = s.router := rfl
@[simp] theorem updBus_timers (b : Fin 2) (f : Drawbar → Drawbar) (s : State) : (updBus b f s).timers = s.timers := rfl
@[simp] theorem updBus_drawbar (b : Fin 2) (f : Drawbar → Drawbar) (s : State) :
    (updBus b f s).drawbar = upd s.drawbar b f := rfl
@[simp] theorem updBus_slots (b : Fin 2) (f : Drawbar → Drawbar) (s : State) : (updBus b f s).slots = s.slots := rfl
@[simp] theorem updBus_loop (b : Fin 2) (f : Drawbar → Drawbar) (s : State) : (updBus b f s).loop = s.loop := rfl
@[simp] theorem updBus_prRun (b : Fin 2) (f : Drawbar → Drawbar) (s : State) : (updBus b f s).prRun = s.prRun := rfl
@[simp] theorem updBus_homing (b : Fin 2) (f : Drawbar → Drawbar) (s : State) : (updBus b f s).homing = s.homing := rfl
@[simp] theorem updBus_lanes (b : Fin 2) (f : Drawbar → Drawbar) (s : State) : (updBus b f s).lanes = s.lanes := rfl
@[simp] theorem updBus_phys (b : Fin 2) (f : Drawbar → Drawbar) (s : State) : (updBus b f s).phys = s.phys := rfl
@[simp] theorem updBus_cal (b : Fin 2) (f : Drawbar → Drawbar) (s : State) : (updBus b f s).cal = s.cal := rfl
@[simp] theorem updBus_coach (b : Fin 2) (f : Drawbar → Drawbar) (s : State) : (updBus b f s).coach = s.coach := rfl
@[simp] theorem updBus_sensor (b : Fin 2) (f : Drawbar → Drawbar) (s : State) : (updBus b f s).sensor = s.sensor := rfl
@[simp] theorem updBus_ic (b : Fin 2) (f : Drawbar → Drawbar) (s : State) : (updBus b f s).ic = s.ic := rfl
@[simp] theorem updBus_power (b : Fin 2) (f : Drawbar → Drawbar) (s : State) : (updBus b f s).power = s.power := rfl
@[simp] theorem updBus_nvm (b : Fin 2) (f : Drawbar → Drawbar) (s : State) : (updBus b f s).nvm = s.nvm := rfl
@[simp] theorem updBus_enclave (b : Fin 2) (f : Drawbar → Drawbar) (s : State) : (updBus b f s).enclave = s.enclave := rfl
@[simp] theorem updBus_host (b : Fin 2) (f : Drawbar → Drawbar) (s : State) : (updBus b f s).host = s.host := rfl
@[simp] theorem updBus_tw (b : Fin 2) (f : Drawbar → Drawbar) (s : State) : (updBus b f s).tw = s.tw := rfl
@[simp] theorem updBus_pending (b : Fin 2) (f : Drawbar → Drawbar) (s : State) : (updBus b f s).pending = s.pending := rfl
@[simp] theorem updBus_reg (b : Fin 2) (f : Drawbar → Drawbar) (s : State) (q : Reg) (v : Nat) :
    (updBus b f s).reg q v = s.reg q v := rfl
@[simp] theorem updBus_readByte (b : Fin 2) (f : Drawbar → Drawbar) (s : State) (i : Nat) :
    (updBus b f s).readByte i = s.readByte i := rfl

/-! #### updEnc -/

@[simp] theorem updEnc_regs (f : Enclave → Enclave) (s : State) : (updEnc f s).regs = s.regs := rfl
@[simp] theorem updEnc_mem (f : Enclave → Enclave) (s : State) : (updEnc f s).mem = s.mem := rfl
@[simp] theorem updEnc_acc (f : Enclave → Enclave) (s : State) : (updEnc f s).acc = s.acc := rfl
@[simp] theorem updEnc_freeCount (f : Enclave → Enclave) (s : State) : (updEnc f s).freeCount = s.freeCount := rfl
@[simp] theorem updEnc_clk (f : Enclave → Enclave) (s : State) : (updEnc f s).clk = s.clk := rfl
@[simp] theorem updEnc_merger (f : Enclave → Enclave) (s : State) : (updEnc f s).merger = s.merger := rfl
@[simp] theorem updEnc_safety (f : Enclave → Enclave) (s : State) : (updEnc f s).safety = s.safety := rfl
@[simp] theorem updEnc_router (f : Enclave → Enclave) (s : State) : (updEnc f s).router = s.router := rfl
@[simp] theorem updEnc_timers (f : Enclave → Enclave) (s : State) : (updEnc f s).timers = s.timers := rfl
@[simp] theorem updEnc_drawbar (f : Enclave → Enclave) (s : State) : (updEnc f s).drawbar = s.drawbar := rfl
@[simp] theorem updEnc_slots (f : Enclave → Enclave) (s : State) : (updEnc f s).slots = s.slots := rfl
@[simp] theorem updEnc_loop (f : Enclave → Enclave) (s : State) : (updEnc f s).loop = s.loop := rfl
@[simp] theorem updEnc_prRun (f : Enclave → Enclave) (s : State) : (updEnc f s).prRun = s.prRun := rfl
@[simp] theorem updEnc_homing (f : Enclave → Enclave) (s : State) : (updEnc f s).homing = s.homing := rfl
@[simp] theorem updEnc_lanes (f : Enclave → Enclave) (s : State) : (updEnc f s).lanes = s.lanes := rfl
@[simp] theorem updEnc_phys (f : Enclave → Enclave) (s : State) : (updEnc f s).phys = s.phys := rfl
@[simp] theorem updEnc_cal (f : Enclave → Enclave) (s : State) : (updEnc f s).cal = s.cal := rfl
@[simp] theorem updEnc_coach (f : Enclave → Enclave) (s : State) : (updEnc f s).coach = s.coach := rfl
@[simp] theorem updEnc_sensor (f : Enclave → Enclave) (s : State) : (updEnc f s).sensor = s.sensor := rfl
@[simp] theorem updEnc_ic (f : Enclave → Enclave) (s : State) : (updEnc f s).ic = s.ic := rfl
@[simp] theorem updEnc_power (f : Enclave → Enclave) (s : State) : (updEnc f s).power = s.power := rfl
@[simp] theorem updEnc_nvm (f : Enclave → Enclave) (s : State) : (updEnc f s).nvm = s.nvm := rfl
@[simp] theorem updEnc_enclave (f : Enclave → Enclave) (s : State) : (updEnc f s).enclave = f s.enclave := rfl
@[simp] theorem updEnc_host (f : Enclave → Enclave) (s : State) : (updEnc f s).host = s.host := rfl
@[simp] theorem updEnc_tw (f : Enclave → Enclave) (s : State) : (updEnc f s).tw = s.tw := rfl
@[simp] theorem updEnc_pending (f : Enclave → Enclave) (s : State) : (updEnc f s).pending = s.pending := rfl
@[simp] theorem updEnc_reg (f : Enclave → Enclave) (s : State) (q : Reg) (v : Nat) :
    (updEnc f s).reg q v = s.reg q v := rfl
@[simp] theorem updEnc_readByte (f : Enclave → Enclave) (s : State) (i : Nat) :
    (updEnc f s).readByte i = s.readByte i := rfl

/-! #### updHost -/

@[simp] theorem updHost_regs (f : HostPort → HostPort) (s : State) : (updHost f s).regs = s.regs := rfl
@[simp] theorem updHost_mem (f : HostPort → HostPort) (s : State) : (updHost f s).mem = s.mem := rfl
@[simp] theorem updHost_acc (f : HostPort → HostPort) (s : State) : (updHost f s).acc = s.acc := rfl
@[simp] theorem updHost_freeCount (f : HostPort → HostPort) (s : State) : (updHost f s).freeCount = s.freeCount := rfl
@[simp] theorem updHost_clk (f : HostPort → HostPort) (s : State) : (updHost f s).clk = s.clk := rfl
@[simp] theorem updHost_merger (f : HostPort → HostPort) (s : State) : (updHost f s).merger = s.merger := rfl
@[simp] theorem updHost_safety (f : HostPort → HostPort) (s : State) : (updHost f s).safety = s.safety := rfl
@[simp] theorem updHost_router (f : HostPort → HostPort) (s : State) : (updHost f s).router = s.router := rfl
@[simp] theorem updHost_timers (f : HostPort → HostPort) (s : State) : (updHost f s).timers = s.timers := rfl
@[simp] theorem updHost_drawbar (f : HostPort → HostPort) (s : State) : (updHost f s).drawbar = s.drawbar := rfl
@[simp] theorem updHost_slots (f : HostPort → HostPort) (s : State) : (updHost f s).slots = s.slots := rfl
@[simp] theorem updHost_loop (f : HostPort → HostPort) (s : State) : (updHost f s).loop = s.loop := rfl
@[simp] theorem updHost_prRun (f : HostPort → HostPort) (s : State) : (updHost f s).prRun = s.prRun := rfl
@[simp] theorem updHost_homing (f : HostPort → HostPort) (s : State) : (updHost f s).homing = s.homing := rfl
@[simp] theorem updHost_lanes (f : HostPort → HostPort) (s : State) : (updHost f s).lanes = s.lanes := rfl
@[simp] theorem updHost_phys (f : HostPort → HostPort) (s : State) : (updHost f s).phys = s.phys := rfl
@[simp] theorem updHost_cal (f : HostPort → HostPort) (s : State) : (updHost f s).cal = s.cal := rfl
@[simp] theorem updHost_coach (f : HostPort → HostPort) (s : State) : (updHost f s).coach = s.coach := rfl
@[simp] theorem updHost_sensor (f : HostPort → HostPort) (s : State) : (updHost f s).sensor = s.sensor := rfl
@[simp] theorem updHost_ic (f : HostPort → HostPort) (s : State) : (updHost f s).ic = s.ic := rfl
@[simp] theorem updHost_power (f : HostPort → HostPort) (s : State) : (updHost f s).power = s.power := rfl
@[simp] theorem updHost_nvm (f : HostPort → HostPort) (s : State) : (updHost f s).nvm = s.nvm := rfl
@[simp] theorem updHost_enclave (f : HostPort → HostPort) (s : State) : (updHost f s).enclave = s.enclave := rfl
@[simp] theorem updHost_host (f : HostPort → HostPort) (s : State) : (updHost f s).host = f s.host := rfl
@[simp] theorem updHost_tw (f : HostPort → HostPort) (s : State) : (updHost f s).tw = s.tw := rfl
@[simp] theorem updHost_pending (f : HostPort → HostPort) (s : State) : (updHost f s).pending = s.pending := rfl
@[simp] theorem updHost_reg (f : HostPort → HostPort) (s : State) (q : Reg) (v : Nat) :
    (updHost f s).reg q v = s.reg q v := rfl
@[simp] theorem updHost_readByte (f : HostPort → HostPort) (s : State) (i : Nat) :
    (updHost f s).readByte i = s.readByte i := rfl

/-! #### updTw -/

@[simp] theorem updTw_regs (f : TwoWire → TwoWire) (s : State) : (updTw f s).regs = s.regs := rfl
@[simp] theorem updTw_mem (f : TwoWire → TwoWire) (s : State) : (updTw f s).mem = s.mem := rfl
@[simp] theorem updTw_acc (f : TwoWire → TwoWire) (s : State) : (updTw f s).acc = s.acc := rfl
@[simp] theorem updTw_freeCount (f : TwoWire → TwoWire) (s : State) : (updTw f s).freeCount = s.freeCount := rfl
@[simp] theorem updTw_clk (f : TwoWire → TwoWire) (s : State) : (updTw f s).clk = s.clk := rfl
@[simp] theorem updTw_merger (f : TwoWire → TwoWire) (s : State) : (updTw f s).merger = s.merger := rfl
@[simp] theorem updTw_safety (f : TwoWire → TwoWire) (s : State) : (updTw f s).safety = s.safety := rfl
@[simp] theorem updTw_router (f : TwoWire → TwoWire) (s : State) : (updTw f s).router = s.router := rfl
@[simp] theorem updTw_timers (f : TwoWire → TwoWire) (s : State) : (updTw f s).timers = s.timers := rfl
@[simp] theorem updTw_drawbar (f : TwoWire → TwoWire) (s : State) : (updTw f s).drawbar = s.drawbar := rfl
@[simp] theorem updTw_slots (f : TwoWire → TwoWire) (s : State) : (updTw f s).slots = s.slots := rfl
@[simp] theorem updTw_loop (f : TwoWire → TwoWire) (s : State) : (updTw f s).loop = s.loop := rfl
@[simp] theorem updTw_prRun (f : TwoWire → TwoWire) (s : State) : (updTw f s).prRun = s.prRun := rfl
@[simp] theorem updTw_homing (f : TwoWire → TwoWire) (s : State) : (updTw f s).homing = s.homing := rfl
@[simp] theorem updTw_lanes (f : TwoWire → TwoWire) (s : State) : (updTw f s).lanes = s.lanes := rfl
@[simp] theorem updTw_phys (f : TwoWire → TwoWire) (s : State) : (updTw f s).phys = s.phys := rfl
@[simp] theorem updTw_cal (f : TwoWire → TwoWire) (s : State) : (updTw f s).cal = s.cal := rfl
@[simp] theorem updTw_coach (f : TwoWire → TwoWire) (s : State) : (updTw f s).coach = s.coach := rfl
@[simp] theorem updTw_sensor (f : TwoWire → TwoWire) (s : State) : (updTw f s).sensor = s.sensor := rfl
@[simp] theorem updTw_ic (f : TwoWire → TwoWire) (s : State) : (updTw f s).ic = s.ic := rfl
@[simp] theorem updTw_power (f : TwoWire → TwoWire) (s : State) : (updTw f s).power = s.power := rfl
@[simp] theorem updTw_nvm (f : TwoWire → TwoWire) (s : State) : (updTw f s).nvm = s.nvm := rfl
@[simp] theorem updTw_enclave (f : TwoWire → TwoWire) (s : State) : (updTw f s).enclave = s.enclave := rfl
@[simp] theorem updTw_host (f : TwoWire → TwoWire) (s : State) : (updTw f s).host = s.host := rfl
@[simp] theorem updTw_tw (f : TwoWire → TwoWire) (s : State) : (updTw f s).tw = f s.tw := rfl
@[simp] theorem updTw_pending (f : TwoWire → TwoWire) (s : State) : (updTw f s).pending = s.pending := rfl
@[simp] theorem updTw_reg (f : TwoWire → TwoWire) (s : State) (q : Reg) (v : Nat) :
    (updTw f s).reg q v = s.reg q v := rfl
@[simp] theorem updTw_readByte (f : TwoWire → TwoWire) (s : State) (i : Nat) :
    (updTw f s).readByte i = s.readByte i := rfl

/-! #### updLane -/

@[simp] theorem updLane_regs (k : Fin 16) (f : Lane → Lane) (s : State) : (updLane k f s).regs = s.regs := rfl
@[simp] theorem updLane_mem (k : Fin 16) (f : Lane → Lane) (s : State) : (updLane k f s).mem = s.mem := rfl
@[simp] theorem updLane_acc (k : Fin 16) (f : Lane → Lane) (s : State) : (updLane k f s).acc = s.acc := rfl
@[simp] theorem updLane_freeCount (k : Fin 16) (f : Lane → Lane) (s : State) : (updLane k f s).freeCount = s.freeCount := rfl
@[simp] theorem updLane_clk (k : Fin 16) (f : Lane → Lane) (s : State) : (updLane k f s).clk = s.clk := rfl
@[simp] theorem updLane_merger (k : Fin 16) (f : Lane → Lane) (s : State) : (updLane k f s).merger = s.merger := rfl
@[simp] theorem updLane_safety (k : Fin 16) (f : Lane → Lane) (s : State) : (updLane k f s).safety = s.safety := rfl
@[simp] theorem updLane_router (k : Fin 16) (f : Lane → Lane) (s : State) : (updLane k f s).router = s.router := rfl
@[simp] theorem updLane_timers (k : Fin 16) (f : Lane → Lane) (s : State) : (updLane k f s).timers = s.timers := rfl
@[simp] theorem updLane_drawbar (k : Fin 16) (f : Lane → Lane) (s : State) : (updLane k f s).drawbar = s.drawbar := rfl
@[simp] theorem updLane_slots (k : Fin 16) (f : Lane → Lane) (s : State) : (updLane k f s).slots = s.slots := rfl
@[simp] theorem updLane_loop (k : Fin 16) (f : Lane → Lane) (s : State) : (updLane k f s).loop = s.loop := rfl
@[simp] theorem updLane_prRun (k : Fin 16) (f : Lane → Lane) (s : State) : (updLane k f s).prRun = s.prRun := rfl
@[simp] theorem updLane_homing (k : Fin 16) (f : Lane → Lane) (s : State) : (updLane k f s).homing = s.homing := rfl
@[simp] theorem updLane_lanes (k : Fin 16) (f : Lane → Lane) (s : State) :
    (updLane k f s).lanes = upd s.lanes k f := rfl
@[simp] theorem updLane_phys (k : Fin 16) (f : Lane → Lane) (s : State) : (updLane k f s).phys = s.phys := rfl
@[simp] theorem updLane_cal (k : Fin 16) (f : Lane → Lane) (s : State) : (updLane k f s).cal = s.cal := rfl
@[simp] theorem updLane_coach (k : Fin 16) (f : Lane → Lane) (s : State) : (updLane k f s).coach = s.coach := rfl
@[simp] theorem updLane_sensor (k : Fin 16) (f : Lane → Lane) (s : State) : (updLane k f s).sensor = s.sensor := rfl
@[simp] theorem updLane_ic (k : Fin 16) (f : Lane → Lane) (s : State) : (updLane k f s).ic = s.ic := rfl
@[simp] theorem updLane_power (k : Fin 16) (f : Lane → Lane) (s : State) : (updLane k f s).power = s.power := rfl
@[simp] theorem updLane_nvm (k : Fin 16) (f : Lane → Lane) (s : State) : (updLane k f s).nvm = s.nvm := rfl
@[simp] theorem updLane_enclave (k : Fin 16) (f : Lane → Lane) (s : State) : (updLane k f s).enclave = s.enclave := rfl
@[simp] theorem updLane_host (k : Fin 16) (f : Lane → Lane) (s : State) : (updLane k f s).host = s.host := rfl
@[simp] theorem updLane_tw (k : Fin 16) (f : Lane → Lane) (s : State) : (updLane k f s).tw = s.tw := rfl
@[simp] theorem updLane_pending (k : Fin 16) (f : Lane → Lane) (s : State) : (updLane k f s).pending = s.pending := rfl
@[simp] theorem updLane_reg (k : Fin 16) (f : Lane → Lane) (s : State) (q : Reg) (v : Nat) :
    (updLane k f s).reg q v = s.reg q v := rfl
@[simp] theorem updLane_readByte (k : Fin 16) (f : Lane → Lane) (s : State) (i : Nat) :
    (updLane k f s).readByte i = s.readByte i := rfl

/-! #### updPhys -/

@[simp] theorem updPhys_regs (p : Fin 18) (f : PhysLane → PhysLane) (s : State) :
    (updPhys p f s).regs = s.regs := rfl
@[simp] theorem updPhys_mem (p : Fin 18) (f : PhysLane → PhysLane) (s : State) : (updPhys p f s).mem = s.mem := rfl
@[simp] theorem updPhys_acc (p : Fin 18) (f : PhysLane → PhysLane) (s : State) : (updPhys p f s).acc = s.acc := rfl
@[simp] theorem updPhys_freeCount (p : Fin 18) (f : PhysLane → PhysLane) (s : State) :
    (updPhys p f s).freeCount = s.freeCount := rfl
@[simp] theorem updPhys_clk (p : Fin 18) (f : PhysLane → PhysLane) (s : State) : (updPhys p f s).clk = s.clk := rfl
@[simp] theorem updPhys_merger (p : Fin 18) (f : PhysLane → PhysLane) (s : State) :
    (updPhys p f s).merger = s.merger := rfl
@[simp] theorem updPhys_safety (p : Fin 18) (f : PhysLane → PhysLane) (s : State) :
    (updPhys p f s).safety = s.safety := rfl
@[simp] theorem updPhys_router (p : Fin 18) (f : PhysLane → PhysLane) (s : State) :
    (updPhys p f s).router = s.router := rfl
@[simp] theorem updPhys_timers (p : Fin 18) (f : PhysLane → PhysLane) (s : State) :
    (updPhys p f s).timers = s.timers := rfl
@[simp] theorem updPhys_drawbar (p : Fin 18) (f : PhysLane → PhysLane) (s : State) :
    (updPhys p f s).drawbar = s.drawbar := rfl
@[simp] theorem updPhys_slots (p : Fin 18) (f : PhysLane → PhysLane) (s : State) :
    (updPhys p f s).slots = s.slots := rfl
@[simp] theorem updPhys_loop (p : Fin 18) (f : PhysLane → PhysLane) (s : State) :
    (updPhys p f s).loop = s.loop := rfl
@[simp] theorem updPhys_prRun (p : Fin 18) (f : PhysLane → PhysLane) (s : State) :
    (updPhys p f s).prRun = s.prRun := rfl
@[simp] theorem updPhys_homing (p : Fin 18) (f : PhysLane → PhysLane) (s : State) :
    (updPhys p f s).homing = s.homing := rfl
@[simp] theorem updPhys_lanes (p : Fin 18) (f : PhysLane → PhysLane) (s : State) :
    (updPhys p f s).lanes = s.lanes := rfl
@[simp] theorem updPhys_phys (p : Fin 18) (f : PhysLane → PhysLane) (s : State) :
    (updPhys p f s).phys = upd s.phys p f := rfl
@[simp] theorem updPhys_cal (p : Fin 18) (f : PhysLane → PhysLane) (s : State) : (updPhys p f s).cal = s.cal := rfl
@[simp] theorem updPhys_coach (p : Fin 18) (f : PhysLane → PhysLane) (s : State) :
    (updPhys p f s).coach = s.coach := rfl
@[simp] theorem updPhys_sensor (p : Fin 18) (f : PhysLane → PhysLane) (s : State) :
    (updPhys p f s).sensor = s.sensor := rfl
@[simp] theorem updPhys_ic (p : Fin 18) (f : PhysLane → PhysLane) (s : State) : (updPhys p f s).ic = s.ic := rfl
@[simp] theorem updPhys_power (p : Fin 18) (f : PhysLane → PhysLane) (s : State) :
    (updPhys p f s).power = s.power := rfl
@[simp] theorem updPhys_nvm (p : Fin 18) (f : PhysLane → PhysLane) (s : State) : (updPhys p f s).nvm = s.nvm := rfl
@[simp] theorem updPhys_enclave (p : Fin 18) (f : PhysLane → PhysLane) (s : State) :
    (updPhys p f s).enclave = s.enclave := rfl
@[simp] theorem updPhys_host (p : Fin 18) (f : PhysLane → PhysLane) (s : State) :
    (updPhys p f s).host = s.host := rfl
@[simp] theorem updPhys_tw (p : Fin 18) (f : PhysLane → PhysLane) (s : State) : (updPhys p f s).tw = s.tw := rfl
@[simp] theorem updPhys_pending (p : Fin 18) (f : PhysLane → PhysLane) (s : State) :
    (updPhys p f s).pending = s.pending := rfl
@[simp] theorem updPhys_reg (p : Fin 18) (f : PhysLane → PhysLane) (s : State) (q : Reg) (v : Nat) :
    (updPhys p f s).reg q v = s.reg q v := rfl
@[simp] theorem updPhys_readByte (p : Fin 18) (f : PhysLane → PhysLane) (s : State) (i : Nat) :
    (updPhys p f s).readByte i = s.readByte i := rfl

/-! #### updCal -/

@[simp] theorem updCal_regs (f : CalEngine → CalEngine) (s : State) : (updCal f s).regs = s.regs := rfl
@[simp] theorem updCal_mem (f : CalEngine → CalEngine) (s : State) : (updCal f s).mem = s.mem := rfl
@[simp] theorem updCal_acc (f : CalEngine → CalEngine) (s : State) : (updCal f s).acc = s.acc := rfl
@[simp] theorem updCal_freeCount (f : CalEngine → CalEngine) (s : State) : (updCal f s).freeCount = s.freeCount := rfl
@[simp] theorem updCal_clk (f : CalEngine → CalEngine) (s : State) : (updCal f s).clk = s.clk := rfl
@[simp] theorem updCal_merger (f : CalEngine → CalEngine) (s : State) : (updCal f s).merger = s.merger := rfl
@[simp] theorem updCal_safety (f : CalEngine → CalEngine) (s : State) : (updCal f s).safety = s.safety := rfl
@[simp] theorem updCal_router (f : CalEngine → CalEngine) (s : State) : (updCal f s).router = s.router := rfl
@[simp] theorem updCal_timers (f : CalEngine → CalEngine) (s : State) : (updCal f s).timers = s.timers := rfl
@[simp] theorem updCal_drawbar (f : CalEngine → CalEngine) (s : State) : (updCal f s).drawbar = s.drawbar := rfl
@[simp] theorem updCal_slots (f : CalEngine → CalEngine) (s : State) : (updCal f s).slots = s.slots := rfl
@[simp] theorem updCal_loop (f : CalEngine → CalEngine) (s : State) : (updCal f s).loop = s.loop := rfl
@[simp] theorem updCal_prRun (f : CalEngine → CalEngine) (s : State) : (updCal f s).prRun = s.prRun := rfl
@[simp] theorem updCal_homing (f : CalEngine → CalEngine) (s : State) : (updCal f s).homing = s.homing := rfl
@[simp] theorem updCal_lanes (f : CalEngine → CalEngine) (s : State) : (updCal f s).lanes = s.lanes := rfl
@[simp] theorem updCal_phys (f : CalEngine → CalEngine) (s : State) : (updCal f s).phys = s.phys := rfl
@[simp] theorem updCal_cal (f : CalEngine → CalEngine) (s : State) : (updCal f s).cal = f s.cal := rfl
@[simp] theorem updCal_coach (f : CalEngine → CalEngine) (s : State) : (updCal f s).coach = s.coach := rfl
@[simp] theorem updCal_sensor (f : CalEngine → CalEngine) (s : State) : (updCal f s).sensor = s.sensor := rfl
@[simp] theorem updCal_ic (f : CalEngine → CalEngine) (s : State) : (updCal f s).ic = s.ic := rfl
@[simp] theorem updCal_power (f : CalEngine → CalEngine) (s : State) : (updCal f s).power = s.power := rfl
@[simp] theorem updCal_nvm (f : CalEngine → CalEngine) (s : State) : (updCal f s).nvm = s.nvm := rfl
@[simp] theorem updCal_enclave (f : CalEngine → CalEngine) (s : State) : (updCal f s).enclave = s.enclave := rfl
@[simp] theorem updCal_host (f : CalEngine → CalEngine) (s : State) : (updCal f s).host = s.host := rfl
@[simp] theorem updCal_tw (f : CalEngine → CalEngine) (s : State) : (updCal f s).tw = s.tw := rfl
@[simp] theorem updCal_pending (f : CalEngine → CalEngine) (s : State) : (updCal f s).pending = s.pending := rfl
@[simp] theorem updCal_reg (f : CalEngine → CalEngine) (s : State) (q : Reg) (v : Nat) :
    (updCal f s).reg q v = s.reg q v := rfl
@[simp] theorem updCal_readByte (f : CalEngine → CalEngine) (s : State) (i : Nat) :
    (updCal f s).readByte i = s.readByte i := rfl

/-! #### updMerger -/

@[simp] theorem updMerger_regs (f : Merger → Merger) (s : State) : (updMerger f s).regs = s.regs := rfl
@[simp] theorem updMerger_mem (f : Merger → Merger) (s : State) : (updMerger f s).mem = s.mem := rfl
@[simp] theorem updMerger_acc (f : Merger → Merger) (s : State) : (updMerger f s).acc = s.acc := rfl
@[simp] theorem updMerger_freeCount (f : Merger → Merger) (s : State) : (updMerger f s).freeCount = s.freeCount := rfl
@[simp] theorem updMerger_clk (f : Merger → Merger) (s : State) : (updMerger f s).clk = s.clk := rfl
@[simp] theorem updMerger_merger (f : Merger → Merger) (s : State) : (updMerger f s).merger = f s.merger := rfl
@[simp] theorem updMerger_safety (f : Merger → Merger) (s : State) : (updMerger f s).safety = s.safety := rfl
@[simp] theorem updMerger_router (f : Merger → Merger) (s : State) : (updMerger f s).router = s.router := rfl
@[simp] theorem updMerger_timers (f : Merger → Merger) (s : State) : (updMerger f s).timers = s.timers := rfl
@[simp] theorem updMerger_drawbar (f : Merger → Merger) (s : State) : (updMerger f s).drawbar = s.drawbar := rfl
@[simp] theorem updMerger_slots (f : Merger → Merger) (s : State) : (updMerger f s).slots = s.slots := rfl
@[simp] theorem updMerger_loop (f : Merger → Merger) (s : State) : (updMerger f s).loop = s.loop := rfl
@[simp] theorem updMerger_prRun (f : Merger → Merger) (s : State) : (updMerger f s).prRun = s.prRun := rfl
@[simp] theorem updMerger_homing (f : Merger → Merger) (s : State) : (updMerger f s).homing = s.homing := rfl
@[simp] theorem updMerger_lanes (f : Merger → Merger) (s : State) : (updMerger f s).lanes = s.lanes := rfl
@[simp] theorem updMerger_phys (f : Merger → Merger) (s : State) : (updMerger f s).phys = s.phys := rfl
@[simp] theorem updMerger_cal (f : Merger → Merger) (s : State) : (updMerger f s).cal = s.cal := rfl
@[simp] theorem updMerger_coach (f : Merger → Merger) (s : State) : (updMerger f s).coach = s.coach := rfl
@[simp] theorem updMerger_sensor (f : Merger → Merger) (s : State) : (updMerger f s).sensor = s.sensor := rfl
@[simp] theorem updMerger_ic (f : Merger → Merger) (s : State) : (updMerger f s).ic = s.ic := rfl
@[simp] theorem updMerger_power (f : Merger → Merger) (s : State) : (updMerger f s).power = s.power := rfl
@[simp] theorem updMerger_nvm (f : Merger → Merger) (s : State) : (updMerger f s).nvm = s.nvm := rfl
@[simp] theorem updMerger_enclave (f : Merger → Merger) (s : State) : (updMerger f s).enclave = s.enclave := rfl
@[simp] theorem updMerger_host (f : Merger → Merger) (s : State) : (updMerger f s).host = s.host := rfl
@[simp] theorem updMerger_tw (f : Merger → Merger) (s : State) : (updMerger f s).tw = s.tw := rfl
@[simp] theorem updMerger_pending (f : Merger → Merger) (s : State) : (updMerger f s).pending = s.pending := rfl
@[simp] theorem updMerger_reg (f : Merger → Merger) (s : State) (q : Reg) (v : Nat) :
    (updMerger f s).reg q v = s.reg q v := rfl
@[simp] theorem updMerger_readByte (f : Merger → Merger) (s : State) (i : Nat) :
    (updMerger f s).readByte i = s.readByte i := rfl

/-! #### updSp -/

@[simp] theorem updSp_regs (f : SensorPort → SensorPort) (s : State) : (updSp f s).regs = s.regs := rfl
@[simp] theorem updSp_mem (f : SensorPort → SensorPort) (s : State) : (updSp f s).mem = s.mem := rfl
@[simp] theorem updSp_acc (f : SensorPort → SensorPort) (s : State) : (updSp f s).acc = s.acc := rfl
@[simp] theorem updSp_freeCount (f : SensorPort → SensorPort) (s : State) : (updSp f s).freeCount = s.freeCount := rfl
@[simp] theorem updSp_clk (f : SensorPort → SensorPort) (s : State) : (updSp f s).clk = s.clk := rfl
@[simp] theorem updSp_merger (f : SensorPort → SensorPort) (s : State) : (updSp f s).merger = s.merger := rfl
@[simp] theorem updSp_safety (f : SensorPort → SensorPort) (s : State) : (updSp f s).safety = s.safety := rfl
@[simp] theorem updSp_router (f : SensorPort → SensorPort) (s : State) : (updSp f s).router = s.router := rfl
@[simp] theorem updSp_timers (f : SensorPort → SensorPort) (s : State) : (updSp f s).timers = s.timers := rfl
@[simp] theorem updSp_drawbar (f : SensorPort → SensorPort) (s : State) : (updSp f s).drawbar = s.drawbar := rfl
@[simp] theorem updSp_slots (f : SensorPort → SensorPort) (s : State) : (updSp f s).slots = s.slots := rfl
@[simp] theorem updSp_loop (f : SensorPort → SensorPort) (s : State) : (updSp f s).loop = s.loop := rfl
@[simp] theorem updSp_prRun (f : SensorPort → SensorPort) (s : State) : (updSp f s).prRun = s.prRun := rfl
@[simp] theorem updSp_homing (f : SensorPort → SensorPort) (s : State) : (updSp f s).homing = s.homing := rfl
@[simp] theorem updSp_lanes (f : SensorPort → SensorPort) (s : State) : (updSp f s).lanes = s.lanes := rfl
@[simp] theorem updSp_phys (f : SensorPort → SensorPort) (s : State) : (updSp f s).phys = s.phys := rfl
@[simp] theorem updSp_cal (f : SensorPort → SensorPort) (s : State) : (updSp f s).cal = s.cal := rfl
@[simp] theorem updSp_coach (f : SensorPort → SensorPort) (s : State) : (updSp f s).coach = s.coach := rfl
@[simp] theorem updSp_sensor (f : SensorPort → SensorPort) (s : State) : (updSp f s).sensor = f s.sensor := rfl
@[simp] theorem updSp_ic (f : SensorPort → SensorPort) (s : State) : (updSp f s).ic = s.ic := rfl
@[simp] theorem updSp_power (f : SensorPort → SensorPort) (s : State) : (updSp f s).power = s.power := rfl
@[simp] theorem updSp_nvm (f : SensorPort → SensorPort) (s : State) : (updSp f s).nvm = s.nvm := rfl
@[simp] theorem updSp_enclave (f : SensorPort → SensorPort) (s : State) : (updSp f s).enclave = s.enclave := rfl
@[simp] theorem updSp_host (f : SensorPort → SensorPort) (s : State) : (updSp f s).host = s.host := rfl
@[simp] theorem updSp_tw (f : SensorPort → SensorPort) (s : State) : (updSp f s).tw = s.tw := rfl
@[simp] theorem updSp_pending (f : SensorPort → SensorPort) (s : State) : (updSp f s).pending = s.pending := rfl
@[simp] theorem updSp_reg (f : SensorPort → SensorPort) (s : State) (q : Reg) (v : Nat) :
    (updSp f s).reg q v = s.reg q v := rfl
@[simp] theorem updSp_readByte (f : SensorPort → SensorPort) (s : State) (i : Nat) :
    (updSp f s).readByte i = s.readByte i := rfl

/-! #### updLoop -/

@[simp] theorem updLoop_regs (f : CoolantLoop → CoolantLoop) (s : State) : (updLoop f s).regs = s.regs := rfl
@[simp] theorem updLoop_mem (f : CoolantLoop → CoolantLoop) (s : State) : (updLoop f s).mem = s.mem := rfl
@[simp] theorem updLoop_acc (f : CoolantLoop → CoolantLoop) (s : State) : (updLoop f s).acc = s.acc := rfl
@[simp] theorem updLoop_freeCount (f : CoolantLoop → CoolantLoop) (s : State) : (updLoop f s).freeCount = s.freeCount := rfl
@[simp] theorem updLoop_clk (f : CoolantLoop → CoolantLoop) (s : State) : (updLoop f s).clk = s.clk := rfl
@[simp] theorem updLoop_merger (f : CoolantLoop → CoolantLoop) (s : State) : (updLoop f s).merger = s.merger := rfl
@[simp] theorem updLoop_safety (f : CoolantLoop → CoolantLoop) (s : State) : (updLoop f s).safety = s.safety := rfl
@[simp] theorem updLoop_router (f : CoolantLoop → CoolantLoop) (s : State) : (updLoop f s).router = s.router := rfl
@[simp] theorem updLoop_timers (f : CoolantLoop → CoolantLoop) (s : State) : (updLoop f s).timers = s.timers := rfl
@[simp] theorem updLoop_drawbar (f : CoolantLoop → CoolantLoop) (s : State) : (updLoop f s).drawbar = s.drawbar := rfl
@[simp] theorem updLoop_slots (f : CoolantLoop → CoolantLoop) (s : State) : (updLoop f s).slots = s.slots := rfl
@[simp] theorem updLoop_loop (f : CoolantLoop → CoolantLoop) (s : State) : (updLoop f s).loop = f s.loop := rfl
@[simp] theorem updLoop_prRun (f : CoolantLoop → CoolantLoop) (s : State) : (updLoop f s).prRun = s.prRun := rfl
@[simp] theorem updLoop_homing (f : CoolantLoop → CoolantLoop) (s : State) : (updLoop f s).homing = s.homing := rfl
@[simp] theorem updLoop_lanes (f : CoolantLoop → CoolantLoop) (s : State) : (updLoop f s).lanes = s.lanes := rfl
@[simp] theorem updLoop_phys (f : CoolantLoop → CoolantLoop) (s : State) : (updLoop f s).phys = s.phys := rfl
@[simp] theorem updLoop_cal (f : CoolantLoop → CoolantLoop) (s : State) : (updLoop f s).cal = s.cal := rfl
@[simp] theorem updLoop_coach (f : CoolantLoop → CoolantLoop) (s : State) : (updLoop f s).coach = s.coach := rfl
@[simp] theorem updLoop_sensor (f : CoolantLoop → CoolantLoop) (s : State) : (updLoop f s).sensor = s.sensor := rfl
@[simp] theorem updLoop_ic (f : CoolantLoop → CoolantLoop) (s : State) : (updLoop f s).ic = s.ic := rfl
@[simp] theorem updLoop_power (f : CoolantLoop → CoolantLoop) (s : State) : (updLoop f s).power = s.power := rfl
@[simp] theorem updLoop_nvm (f : CoolantLoop → CoolantLoop) (s : State) : (updLoop f s).nvm = s.nvm := rfl
@[simp] theorem updLoop_enclave (f : CoolantLoop → CoolantLoop) (s : State) : (updLoop f s).enclave = s.enclave := rfl
@[simp] theorem updLoop_host (f : CoolantLoop → CoolantLoop) (s : State) : (updLoop f s).host = s.host := rfl
@[simp] theorem updLoop_tw (f : CoolantLoop → CoolantLoop) (s : State) : (updLoop f s).tw = s.tw := rfl
@[simp] theorem updLoop_pending (f : CoolantLoop → CoolantLoop) (s : State) : (updLoop f s).pending = s.pending := rfl
@[simp] theorem updLoop_reg (f : CoolantLoop → CoolantLoop) (s : State) (q : Reg) (v : Nat) :
    (updLoop f s).reg q v = s.reg q v := rfl
@[simp] theorem updLoop_readByte (f : CoolantLoop → CoolantLoop) (s : State) (i : Nat) :
    (updLoop f s).readByte i = s.readByte i := rfl

/-! #### updRecall -/

@[simp] theorem updRecall_regs (f : Recall → Recall) (s : State) : (updRecall f s).regs = s.regs := rfl
@[simp] theorem updRecall_mem (f : Recall → Recall) (s : State) : (updRecall f s).mem = s.mem := rfl
@[simp] theorem updRecall_acc (f : Recall → Recall) (s : State) : (updRecall f s).acc = s.acc := rfl
@[simp] theorem updRecall_freeCount (f : Recall → Recall) (s : State) : (updRecall f s).freeCount = s.freeCount := rfl
@[simp] theorem updRecall_clk (f : Recall → Recall) (s : State) : (updRecall f s).clk = s.clk := rfl
@[simp] theorem updRecall_merger (f : Recall → Recall) (s : State) : (updRecall f s).merger = s.merger := rfl
@[simp] theorem updRecall_safety (f : Recall → Recall) (s : State) : (updRecall f s).safety = s.safety := rfl
@[simp] theorem updRecall_router (f : Recall → Recall) (s : State) : (updRecall f s).router = s.router := rfl
@[simp] theorem updRecall_timers (f : Recall → Recall) (s : State) : (updRecall f s).timers = s.timers := rfl
@[simp] theorem updRecall_drawbar (f : Recall → Recall) (s : State) : (updRecall f s).drawbar = s.drawbar := rfl
@[simp] theorem updRecall_slots (f : Recall → Recall) (s : State) : (updRecall f s).slots = s.slots := rfl
@[simp] theorem updRecall_loop (f : Recall → Recall) (s : State) : (updRecall f s).loop = s.loop := rfl
@[simp] theorem updRecall_prRun (f : Recall → Recall) (s : State) : (updRecall f s).prRun = f s.prRun := rfl
@[simp] theorem updRecall_homing (f : Recall → Recall) (s : State) : (updRecall f s).homing = s.homing := rfl
@[simp] theorem updRecall_lanes (f : Recall → Recall) (s : State) : (updRecall f s).lanes = s.lanes := rfl
@[simp] theorem updRecall_phys (f : Recall → Recall) (s : State) : (updRecall f s).phys = s.phys := rfl
@[simp] theorem updRecall_cal (f : Recall → Recall) (s : State) : (updRecall f s).cal = s.cal := rfl
@[simp] theorem updRecall_coach (f : Recall → Recall) (s : State) : (updRecall f s).coach = s.coach := rfl
@[simp] theorem updRecall_sensor (f : Recall → Recall) (s : State) : (updRecall f s).sensor = s.sensor := rfl
@[simp] theorem updRecall_ic (f : Recall → Recall) (s : State) : (updRecall f s).ic = s.ic := rfl
@[simp] theorem updRecall_power (f : Recall → Recall) (s : State) : (updRecall f s).power = s.power := rfl
@[simp] theorem updRecall_nvm (f : Recall → Recall) (s : State) : (updRecall f s).nvm = s.nvm := rfl
@[simp] theorem updRecall_enclave (f : Recall → Recall) (s : State) : (updRecall f s).enclave = s.enclave := rfl
@[simp] theorem updRecall_host (f : Recall → Recall) (s : State) : (updRecall f s).host = s.host := rfl
@[simp] theorem updRecall_tw (f : Recall → Recall) (s : State) : (updRecall f s).tw = s.tw := rfl
@[simp] theorem updRecall_pending (f : Recall → Recall) (s : State) : (updRecall f s).pending = s.pending := rfl
@[simp] theorem updRecall_reg (f : Recall → Recall) (s : State) (q : Reg) (v : Nat) :
    (updRecall f s).reg q v = s.reg q v := rfl
@[simp] theorem updRecall_readByte (f : Recall → Recall) (s : State) (i : Nat) :
    (updRecall f s).readByte i = s.readByte i := rfl

/-! #### updHoming -/

@[simp] theorem updHoming_regs (f : Homing → Homing) (s : State) : (updHoming f s).regs = s.regs := rfl
@[simp] theorem updHoming_mem (f : Homing → Homing) (s : State) : (updHoming f s).mem = s.mem := rfl
@[simp] theorem updHoming_acc (f : Homing → Homing) (s : State) : (updHoming f s).acc = s.acc := rfl
@[simp] theorem updHoming_freeCount (f : Homing → Homing) (s : State) : (updHoming f s).freeCount = s.freeCount := rfl
@[simp] theorem updHoming_clk (f : Homing → Homing) (s : State) : (updHoming f s).clk = s.clk := rfl
@[simp] theorem updHoming_merger (f : Homing → Homing) (s : State) : (updHoming f s).merger = s.merger := rfl
@[simp] theorem updHoming_safety (f : Homing → Homing) (s : State) : (updHoming f s).safety = s.safety := rfl
@[simp] theorem updHoming_router (f : Homing → Homing) (s : State) : (updHoming f s).router = s.router := rfl
@[simp] theorem updHoming_timers (f : Homing → Homing) (s : State) : (updHoming f s).timers = s.timers := rfl
@[simp] theorem updHoming_drawbar (f : Homing → Homing) (s : State) : (updHoming f s).drawbar = s.drawbar := rfl
@[simp] theorem updHoming_slots (f : Homing → Homing) (s : State) : (updHoming f s).slots = s.slots := rfl
@[simp] theorem updHoming_loop (f : Homing → Homing) (s : State) : (updHoming f s).loop = s.loop := rfl
@[simp] theorem updHoming_prRun (f : Homing → Homing) (s : State) : (updHoming f s).prRun = s.prRun := rfl
@[simp] theorem updHoming_homing (f : Homing → Homing) (s : State) : (updHoming f s).homing = f s.homing := rfl
@[simp] theorem updHoming_lanes (f : Homing → Homing) (s : State) : (updHoming f s).lanes = s.lanes := rfl
@[simp] theorem updHoming_phys (f : Homing → Homing) (s : State) : (updHoming f s).phys = s.phys := rfl
@[simp] theorem updHoming_cal (f : Homing → Homing) (s : State) : (updHoming f s).cal = s.cal := rfl
@[simp] theorem updHoming_coach (f : Homing → Homing) (s : State) : (updHoming f s).coach = s.coach := rfl
@[simp] theorem updHoming_sensor (f : Homing → Homing) (s : State) : (updHoming f s).sensor = s.sensor := rfl
@[simp] theorem updHoming_ic (f : Homing → Homing) (s : State) : (updHoming f s).ic = s.ic := rfl
@[simp] theorem updHoming_power (f : Homing → Homing) (s : State) : (updHoming f s).power = s.power := rfl
@[simp] theorem updHoming_nvm (f : Homing → Homing) (s : State) : (updHoming f s).nvm = s.nvm := rfl
@[simp] theorem updHoming_enclave (f : Homing → Homing) (s : State) : (updHoming f s).enclave = s.enclave := rfl
@[simp] theorem updHoming_host (f : Homing → Homing) (s : State) : (updHoming f s).host = s.host := rfl
@[simp] theorem updHoming_tw (f : Homing → Homing) (s : State) : (updHoming f s).tw = s.tw := rfl
@[simp] theorem updHoming_pending (f : Homing → Homing) (s : State) : (updHoming f s).pending = s.pending := rfl
@[simp] theorem updHoming_reg (f : Homing → Homing) (s : State) (q : Reg) (v : Nat) :
    (updHoming f s).reg q v = s.reg q v := rfl
@[simp] theorem updHoming_readByte (f : Homing → Homing) (s : State) (i : Nat) :
    (updHoming f s).readByte i = s.readByte i := rfl

/-! #### updSlot -/

@[simp] theorem updSlot_regs (d : Fin 32) (f : Slot → Slot) (s : State) : (updSlot d f s).regs = s.regs := rfl
@[simp] theorem updSlot_mem (d : Fin 32) (f : Slot → Slot) (s : State) : (updSlot d f s).mem = s.mem := rfl
@[simp] theorem updSlot_acc (d : Fin 32) (f : Slot → Slot) (s : State) : (updSlot d f s).acc = s.acc := rfl
@[simp] theorem updSlot_freeCount (d : Fin 32) (f : Slot → Slot) (s : State) : (updSlot d f s).freeCount = s.freeCount := rfl
@[simp] theorem updSlot_clk (d : Fin 32) (f : Slot → Slot) (s : State) : (updSlot d f s).clk = s.clk := rfl
@[simp] theorem updSlot_merger (d : Fin 32) (f : Slot → Slot) (s : State) : (updSlot d f s).merger = s.merger := rfl
@[simp] theorem updSlot_safety (d : Fin 32) (f : Slot → Slot) (s : State) : (updSlot d f s).safety = s.safety := rfl
@[simp] theorem updSlot_router (d : Fin 32) (f : Slot → Slot) (s : State) : (updSlot d f s).router = s.router := rfl
@[simp] theorem updSlot_timers (d : Fin 32) (f : Slot → Slot) (s : State) : (updSlot d f s).timers = s.timers := rfl
@[simp] theorem updSlot_drawbar (d : Fin 32) (f : Slot → Slot) (s : State) : (updSlot d f s).drawbar = s.drawbar := rfl
@[simp] theorem updSlot_slots (d : Fin 32) (f : Slot → Slot) (s : State) :
    (updSlot d f s).slots = upd s.slots d f := rfl
@[simp] theorem updSlot_loop (d : Fin 32) (f : Slot → Slot) (s : State) : (updSlot d f s).loop = s.loop := rfl
@[simp] theorem updSlot_prRun (d : Fin 32) (f : Slot → Slot) (s : State) : (updSlot d f s).prRun = s.prRun := rfl
@[simp] theorem updSlot_homing (d : Fin 32) (f : Slot → Slot) (s : State) : (updSlot d f s).homing = s.homing := rfl
@[simp] theorem updSlot_lanes (d : Fin 32) (f : Slot → Slot) (s : State) : (updSlot d f s).lanes = s.lanes := rfl
@[simp] theorem updSlot_phys (d : Fin 32) (f : Slot → Slot) (s : State) : (updSlot d f s).phys = s.phys := rfl
@[simp] theorem updSlot_cal (d : Fin 32) (f : Slot → Slot) (s : State) : (updSlot d f s).cal = s.cal := rfl
@[simp] theorem updSlot_coach (d : Fin 32) (f : Slot → Slot) (s : State) : (updSlot d f s).coach = s.coach := rfl
@[simp] theorem updSlot_sensor (d : Fin 32) (f : Slot → Slot) (s : State) : (updSlot d f s).sensor = s.sensor := rfl
@[simp] theorem updSlot_ic (d : Fin 32) (f : Slot → Slot) (s : State) : (updSlot d f s).ic = s.ic := rfl
@[simp] theorem updSlot_power (d : Fin 32) (f : Slot → Slot) (s : State) : (updSlot d f s).power = s.power := rfl
@[simp] theorem updSlot_nvm (d : Fin 32) (f : Slot → Slot) (s : State) : (updSlot d f s).nvm = s.nvm := rfl
@[simp] theorem updSlot_enclave (d : Fin 32) (f : Slot → Slot) (s : State) : (updSlot d f s).enclave = s.enclave := rfl
@[simp] theorem updSlot_host (d : Fin 32) (f : Slot → Slot) (s : State) : (updSlot d f s).host = s.host := rfl
@[simp] theorem updSlot_tw (d : Fin 32) (f : Slot → Slot) (s : State) : (updSlot d f s).tw = s.tw := rfl
@[simp] theorem updSlot_pending (d : Fin 32) (f : Slot → Slot) (s : State) : (updSlot d f s).pending = s.pending := rfl
@[simp] theorem updSlot_reg (d : Fin 32) (f : Slot → Slot) (s : State) (q : Reg) (v : Nat) :
    (updSlot d f s).reg q v = s.reg q v := rfl
@[simp] theorem updSlot_readByte (d : Fin 32) (f : Slot → Slot) (s : State) (i : Nat) :
    (updSlot d f s).readByte i = s.readByte i := rfl

/-! #### updNvm -/

@[simp] theorem updNvm_regs (f : Nvm → Nvm) (s : State) : (updNvm f s).regs = s.regs := rfl
@[simp] theorem updNvm_mem (f : Nvm → Nvm) (s : State) : (updNvm f s).mem = s.mem := rfl
@[simp] theorem updNvm_acc (f : Nvm → Nvm) (s : State) : (updNvm f s).acc = s.acc := rfl
@[simp] theorem updNvm_freeCount (f : Nvm → Nvm) (s : State) : (updNvm f s).freeCount = s.freeCount := rfl
@[simp] theorem updNvm_clk (f : Nvm → Nvm) (s : State) : (updNvm f s).clk = s.clk := rfl
@[simp] theorem updNvm_merger (f : Nvm → Nvm) (s : State) : (updNvm f s).merger = s.merger := rfl
@[simp] theorem updNvm_safety (f : Nvm → Nvm) (s : State) : (updNvm f s).safety = s.safety := rfl
@[simp] theorem updNvm_router (f : Nvm → Nvm) (s : State) : (updNvm f s).router = s.router := rfl
@[simp] theorem updNvm_timers (f : Nvm → Nvm) (s : State) : (updNvm f s).timers = s.timers := rfl
@[simp] theorem updNvm_drawbar (f : Nvm → Nvm) (s : State) : (updNvm f s).drawbar = s.drawbar := rfl
@[simp] theorem updNvm_slots (f : Nvm → Nvm) (s : State) : (updNvm f s).slots = s.slots := rfl
@[simp] theorem updNvm_loop (f : Nvm → Nvm) (s : State) : (updNvm f s).loop = s.loop := rfl
@[simp] theorem updNvm_prRun (f : Nvm → Nvm) (s : State) : (updNvm f s).prRun = s.prRun := rfl
@[simp] theorem updNvm_homing (f : Nvm → Nvm) (s : State) : (updNvm f s).homing = s.homing := rfl
@[simp] theorem updNvm_lanes (f : Nvm → Nvm) (s : State) : (updNvm f s).lanes = s.lanes := rfl
@[simp] theorem updNvm_phys (f : Nvm → Nvm) (s : State) : (updNvm f s).phys = s.phys := rfl
@[simp] theorem updNvm_cal (f : Nvm → Nvm) (s : State) : (updNvm f s).cal = s.cal := rfl
@[simp] theorem updNvm_coach (f : Nvm → Nvm) (s : State) : (updNvm f s).coach = s.coach := rfl
@[simp] theorem updNvm_sensor (f : Nvm → Nvm) (s : State) : (updNvm f s).sensor = s.sensor := rfl
@[simp] theorem updNvm_ic (f : Nvm → Nvm) (s : State) : (updNvm f s).ic = s.ic := rfl
@[simp] theorem updNvm_power (f : Nvm → Nvm) (s : State) : (updNvm f s).power = s.power := rfl
@[simp] theorem updNvm_nvm (f : Nvm → Nvm) (s : State) : (updNvm f s).nvm = f s.nvm := rfl
@[simp] theorem updNvm_enclave (f : Nvm → Nvm) (s : State) : (updNvm f s).enclave = s.enclave := rfl
@[simp] theorem updNvm_host (f : Nvm → Nvm) (s : State) : (updNvm f s).host = s.host := rfl
@[simp] theorem updNvm_tw (f : Nvm → Nvm) (s : State) : (updNvm f s).tw = s.tw := rfl
@[simp] theorem updNvm_pending (f : Nvm → Nvm) (s : State) : (updNvm f s).pending = s.pending := rfl
@[simp] theorem updNvm_reg (f : Nvm → Nvm) (s : State) (q : Reg) (v : Nat) :
    (updNvm f s).reg q v = s.reg q v := rfl
@[simp] theorem updNvm_readByte (f : Nvm → Nvm) (s : State) (i : Nat) :
    (updNvm f s).readByte i = s.readByte i := rfl

/-! #### updTimer -/

@[simp] theorem updTimer_regs (n : Fin 16) (f : Timer → Timer) (s : State) : (updTimer n f s).regs = s.regs := rfl
@[simp] theorem updTimer_mem (n : Fin 16) (f : Timer → Timer) (s : State) : (updTimer n f s).mem = s.mem := rfl
@[simp] theorem updTimer_acc (n : Fin 16) (f : Timer → Timer) (s : State) : (updTimer n f s).acc = s.acc := rfl
@[simp] theorem updTimer_freeCount (n : Fin 16) (f : Timer → Timer) (s : State) :
    (updTimer n f s).freeCount = s.freeCount := rfl
@[simp] theorem updTimer_clk (n : Fin 16) (f : Timer → Timer) (s : State) : (updTimer n f s).clk = s.clk := rfl
@[simp] theorem updTimer_merger (n : Fin 16) (f : Timer → Timer) (s : State) : (updTimer n f s).merger = s.merger := rfl
@[simp] theorem updTimer_safety (n : Fin 16) (f : Timer → Timer) (s : State) : (updTimer n f s).safety = s.safety := rfl
@[simp] theorem updTimer_router (n : Fin 16) (f : Timer → Timer) (s : State) : (updTimer n f s).router = s.router := rfl
@[simp] theorem updTimer_timers (n : Fin 16) (f : Timer → Timer) (s : State) :
    (updTimer n f s).timers = upd s.timers n f := rfl
@[simp] theorem updTimer_drawbar (n : Fin 16) (f : Timer → Timer) (s : State) : (updTimer n f s).drawbar = s.drawbar := rfl
@[simp] theorem updTimer_slots (n : Fin 16) (f : Timer → Timer) (s : State) : (updTimer n f s).slots = s.slots := rfl
@[simp] theorem updTimer_loop (n : Fin 16) (f : Timer → Timer) (s : State) : (updTimer n f s).loop = s.loop := rfl
@[simp] theorem updTimer_prRun (n : Fin 16) (f : Timer → Timer) (s : State) : (updTimer n f s).prRun = s.prRun := rfl
@[simp] theorem updTimer_homing (n : Fin 16) (f : Timer → Timer) (s : State) : (updTimer n f s).homing = s.homing := rfl
@[simp] theorem updTimer_lanes (n : Fin 16) (f : Timer → Timer) (s : State) : (updTimer n f s).lanes = s.lanes := rfl
@[simp] theorem updTimer_phys (n : Fin 16) (f : Timer → Timer) (s : State) : (updTimer n f s).phys = s.phys := rfl
@[simp] theorem updTimer_cal (n : Fin 16) (f : Timer → Timer) (s : State) : (updTimer n f s).cal = s.cal := rfl
@[simp] theorem updTimer_coach (n : Fin 16) (f : Timer → Timer) (s : State) : (updTimer n f s).coach = s.coach := rfl
@[simp] theorem updTimer_sensor (n : Fin 16) (f : Timer → Timer) (s : State) : (updTimer n f s).sensor = s.sensor := rfl
@[simp] theorem updTimer_ic (n : Fin 16) (f : Timer → Timer) (s : State) : (updTimer n f s).ic = s.ic := rfl
@[simp] theorem updTimer_power (n : Fin 16) (f : Timer → Timer) (s : State) : (updTimer n f s).power = s.power := rfl
@[simp] theorem updTimer_nvm (n : Fin 16) (f : Timer → Timer) (s : State) : (updTimer n f s).nvm = s.nvm := rfl
@[simp] theorem updTimer_enclave (n : Fin 16) (f : Timer → Timer) (s : State) : (updTimer n f s).enclave = s.enclave := rfl
@[simp] theorem updTimer_host (n : Fin 16) (f : Timer → Timer) (s : State) : (updTimer n f s).host = s.host := rfl
@[simp] theorem updTimer_tw (n : Fin 16) (f : Timer → Timer) (s : State) : (updTimer n f s).tw = s.tw := rfl
@[simp] theorem updTimer_pending (n : Fin 16) (f : Timer → Timer) (s : State) : (updTimer n f s).pending = s.pending := rfl
@[simp] theorem updTimer_reg (n : Fin 16) (f : Timer → Timer) (s : State) (q : Reg) (v : Nat) :
    (updTimer n f s).reg q v = s.reg q v := rfl
@[simp] theorem updTimer_readByte (n : Fin 16) (f : Timer → Timer) (s : State) (i : Nat) :
    (updTimer n f s).readByte i = s.readByte i := rfl

/-! #### updPower -/

@[simp] theorem updPower_regs (f : PowerSt → PowerSt) (s : State) : (updPower f s).regs = s.regs := rfl
@[simp] theorem updPower_mem (f : PowerSt → PowerSt) (s : State) : (updPower f s).mem = s.mem := rfl
@[simp] theorem updPower_acc (f : PowerSt → PowerSt) (s : State) : (updPower f s).acc = s.acc := rfl
@[simp] theorem updPower_freeCount (f : PowerSt → PowerSt) (s : State) : (updPower f s).freeCount = s.freeCount := rfl
@[simp] theorem updPower_clk (f : PowerSt → PowerSt) (s : State) : (updPower f s).clk = s.clk := rfl
@[simp] theorem updPower_merger (f : PowerSt → PowerSt) (s : State) : (updPower f s).merger = s.merger := rfl
@[simp] theorem updPower_safety (f : PowerSt → PowerSt) (s : State) : (updPower f s).safety = s.safety := rfl
@[simp] theorem updPower_router (f : PowerSt → PowerSt) (s : State) : (updPower f s).router = s.router := rfl
@[simp] theorem updPower_timers (f : PowerSt → PowerSt) (s : State) : (updPower f s).timers = s.timers := rfl
@[simp] theorem updPower_drawbar (f : PowerSt → PowerSt) (s : State) : (updPower f s).drawbar = s.drawbar := rfl
@[simp] theorem updPower_slots (f : PowerSt → PowerSt) (s : State) : (updPower f s).slots = s.slots := rfl
@[simp] theorem updPower_loop (f : PowerSt → PowerSt) (s : State) : (updPower f s).loop = s.loop := rfl
@[simp] theorem updPower_prRun (f : PowerSt → PowerSt) (s : State) : (updPower f s).prRun = s.prRun := rfl
@[simp] theorem updPower_homing (f : PowerSt → PowerSt) (s : State) : (updPower f s).homing = s.homing := rfl
@[simp] theorem updPower_lanes (f : PowerSt → PowerSt) (s : State) : (updPower f s).lanes = s.lanes := rfl
@[simp] theorem updPower_phys (f : PowerSt → PowerSt) (s : State) : (updPower f s).phys = s.phys := rfl
@[simp] theorem updPower_cal (f : PowerSt → PowerSt) (s : State) : (updPower f s).cal = s.cal := rfl
@[simp] theorem updPower_coach (f : PowerSt → PowerSt) (s : State) : (updPower f s).coach = s.coach := rfl
@[simp] theorem updPower_sensor (f : PowerSt → PowerSt) (s : State) : (updPower f s).sensor = s.sensor := rfl
@[simp] theorem updPower_ic (f : PowerSt → PowerSt) (s : State) : (updPower f s).ic = s.ic := rfl
@[simp] theorem updPower_power (f : PowerSt → PowerSt) (s : State) : (updPower f s).power = f s.power := rfl
@[simp] theorem updPower_nvm (f : PowerSt → PowerSt) (s : State) : (updPower f s).nvm = s.nvm := rfl
@[simp] theorem updPower_enclave (f : PowerSt → PowerSt) (s : State) : (updPower f s).enclave = s.enclave := rfl
@[simp] theorem updPower_host (f : PowerSt → PowerSt) (s : State) : (updPower f s).host = s.host := rfl
@[simp] theorem updPower_tw (f : PowerSt → PowerSt) (s : State) : (updPower f s).tw = s.tw := rfl
@[simp] theorem updPower_pending (f : PowerSt → PowerSt) (s : State) : (updPower f s).pending = s.pending := rfl
@[simp] theorem updPower_reg (f : PowerSt → PowerSt) (s : State) (q : Reg) (v : Nat) :
    (updPower f s).reg q v = s.reg q v := rfl
@[simp] theorem updPower_readByte (f : PowerSt → PowerSt) (s : State) (i : Nat) :
    (updPower f s).readByte i = s.readByte i := rfl

end Sys2Proof.Machine
end

