-- ==== Sys2Proof/Laws/Registers.lean ====
section
/-! SUPPORT. Laws of the memory and of the register file: a write is read back, leaves everything else alone, and keeps the
canonical form; no two registers share a key. -/
namespace Sys2Proof.Machine
set_option Elab.async false

/-! ### Keys -/

theorem Reg.code_lt (r : Reg) : r.code < 1088 := by
  cases r <;> rename_i x <;> cases x <;> decide

theorem Reg.key_mod (r : Reg) (u : Nat) : r.key u % 1088 = r.code := by
  have := r.code_lt
  unfold Reg.key; omega

theorem Reg.key_div (r : Reg) (u : Nat) : r.key u / 1088 = u := by
  have := r.code_lt
  unfold Reg.key; omega

theorem PwReg.ctor_lt (x : PwReg) : x.ctorIdx < 64 := by cases x <;> decide
theorem PwReg.find_self (x : PwReg) : PwReg.all.find? (fun q => q.ctorIdx == x.ctorIdx) = some x := by cases x <;> rfl
theorem LnReg.ctor_lt (x : LnReg) : x.ctorIdx < 64 := by cases x <;> decide
theorem LnReg.find_self (x : LnReg) : LnReg.all.find? (fun q => q.ctorIdx == x.ctorIdx) = some x := by cases x <;> rfl
theorem CaReg.ctor_lt (x : CaReg) : x.ctorIdx < 64 := by cases x <;> decide
theorem CaReg.find_self (x : CaReg) : CaReg.all.find? (fun q => q.ctorIdx == x.ctorIdx) = some x := by cases x <;> rfl
theorem CwReg.ctor_lt (x : CwReg) : x.ctorIdx < 64 := by cases x <;> decide
theorem CwReg.find_self (x : CwReg) : CwReg.all.find? (fun q => q.ctorIdx == x.ctorIdx) = some x := by cases x <;> rfl
theorem DsReg.ctor_lt (x : DsReg) : x.ctorIdx < 64 := by cases x <;> decide
theorem DsReg.find_self (x : DsReg) : DsReg.all.find? (fun q => q.ctorIdx == x.ctorIdx) = some x := by cases x <;> rfl
theorem RkReg.ctor_lt (x : RkReg) : x.ctorIdx < 64 := by cases x <;> decide
theorem RkReg.find_self (x : RkReg) : RkReg.all.find? (fun q => q.ctorIdx == x.ctorIdx) = some x := by cases x <;> rfl
theorem DbReg.ctor_lt (x : DbReg) : x.ctorIdx < 64 := by cases x <;> decide
theorem DbReg.find_self (x : DbReg) : DbReg.all.find? (fun q => q.ctorIdx == x.ctorIdx) = some x := by cases x <;> rfl
theorem HpReg.ctor_lt (x : HpReg) : x.ctorIdx < 64 := by cases x <;> decide
theorem HpReg.find_self (x : HpReg) : HpReg.all.find? (fun q => q.ctorIdx == x.ctorIdx) = some x := by cases x <;> rfl
theorem TwReg.ctor_lt (x : TwReg) : x.ctorIdx < 64 := by cases x <;> decide
theorem TwReg.find_self (x : TwReg) : TwReg.all.find? (fun q => q.ctorIdx == x.ctorIdx) = some x := by cases x <;> rfl
theorem SpReg.ctor_lt (x : SpReg) : x.ctorIdx < 64 := by cases x <;> decide
theorem SpReg.find_self (x : SpReg) : SpReg.all.find? (fun q => q.ctorIdx == x.ctorIdx) = some x := by cases x <;> rfl
theorem EvReg.ctor_lt (x : EvReg) : x.ctorIdx < 64 := by cases x <;> decide
theorem EvReg.find_self (x : EvReg) : EvReg.all.find? (fun q => q.ctorIdx == x.ctorIdx) = some x := by cases x <;> rfl
theorem TmReg.ctor_lt (x : TmReg) : x.ctorIdx < 64 := by cases x <;> decide
theorem TmReg.find_self (x : TmReg) : TmReg.all.find? (fun q => q.ctorIdx == x.ctorIdx) = some x := by cases x <;> rfl
theorem IcReg.ctor_lt (x : IcReg) : x.ctorIdx < 64 := by cases x <;> decide
theorem IcReg.find_self (x : IcReg) : IcReg.all.find? (fun q => q.ctorIdx == x.ctorIdx) = some x := by cases x <;> rfl
theorem NvReg.ctor_lt (x : NvReg) : x.ctorIdx < 64 := by cases x <;> decide
theorem NvReg.find_self (x : NvReg) : NvReg.all.find? (fun q => q.ctorIdx == x.ctorIdx) = some x := by cases x <;> rfl
theorem SeReg.ctor_lt (x : SeReg) : x.ctorIdx < 64 := by cases x <;> decide
theorem SeReg.find_self (x : SeReg) : SeReg.all.find? (fun q => q.ctorIdx == x.ctorIdx) = some x := by cases x <;> rfl
theorem AlReg.ctor_lt (x : AlReg) : x.ctorIdx < 64 := by cases x <;> decide
theorem AlReg.find_self (x : AlReg) : AlReg.all.find? (fun q => q.ctorIdx == x.ctorIdx) = some x := by cases x <;> rfl
theorem VnReg.ctor_lt (x : VnReg) : x.ctorIdx < 64 := by cases x <;> decide
theorem VnReg.find_self (x : VnReg) : VnReg.all.find? (fun q => q.ctorIdx == x.ctorIdx) = some x := by cases x <;> rfl

/-- No register of another block has a code of this block. -/
theorem find_other_block {β : Type} (l : List β) (f : β → Nat) (a b n : Nat) (hf : ∀ q, f q < 64) (hn : n < 64)
    (h : a ≠ b) : l.find? (fun q => a * 64 + f q == b * 64 + n) = none := by
  refine List.find?_eq_none.2 fun q _ => ?_
  have := hf q
  simp only [beq_iff_eq]
  omega

theorem PwReg.find_other (a n : Nat) (hn : n < 64) (h : 0 ≠ a) :
    PwReg.all.find? (fun q => 0 * 64 + q.ctorIdx == a * 64 + n) = none :=
  find_other_block _ _ 0 a n PwReg.ctor_lt hn h

theorem LnReg.find_other (a n : Nat) (hn : n < 64) (h : 1 ≠ a) :
    LnReg.all.find? (fun q => 1 * 64 + q.ctorIdx == a * 64 + n) = none :=
  find_other_block _ _ 1 a n LnReg.ctor_lt hn h

theorem CaReg.find_other (a n : Nat) (hn : n < 64) (h : 2 ≠ a) :
    CaReg.all.find? (fun q => 2 * 64 + q.ctorIdx == a * 64 + n) = none :=
  find_other_block _ _ 2 a n CaReg.ctor_lt hn h

theorem CwReg.find_other (a n : Nat) (hn : n < 64) (h : 3 ≠ a) :
    CwReg.all.find? (fun q => 3 * 64 + q.ctorIdx == a * 64 + n) = none :=
  find_other_block _ _ 3 a n CwReg.ctor_lt hn h

theorem DsReg.find_other (a n : Nat) (hn : n < 64) (h : 4 ≠ a) :
    DsReg.all.find? (fun q => 4 * 64 + q.ctorIdx == a * 64 + n) = none :=
  find_other_block _ _ 4 a n DsReg.ctor_lt hn h

theorem RkReg.find_other (a n : Nat) (hn : n < 64) (h : 5 ≠ a) :
    RkReg.all.find? (fun q => 5 * 64 + q.ctorIdx == a * 64 + n) = none :=
  find_other_block _ _ 5 a n RkReg.ctor_lt hn h

theorem DbReg.find_other (a n : Nat) (hn : n < 64) (h : 6 ≠ a) :
    DbReg.all.find? (fun q => 6 * 64 + q.ctorIdx == a * 64 + n) = none :=
  find_other_block _ _ 6 a n DbReg.ctor_lt hn h

theorem HpReg.find_other (a n : Nat) (hn : n < 64) (h : 7 ≠ a) :
    HpReg.all.find? (fun q => 7 * 64 + q.ctorIdx == a * 64 + n) = none :=
  find_other_block _ _ 7 a n HpReg.ctor_lt hn h

theorem TwReg.find_other (a n : Nat) (hn : n < 64) (h : 8 ≠ a) :
    TwReg.all.find? (fun q => 8 * 64 + q.ctorIdx == a * 64 + n) = none :=
  find_other_block _ _ 8 a n TwReg.ctor_lt hn h

theorem SpReg.find_other (a n : Nat) (hn : n < 64) (h : 9 ≠ a) :
    SpReg.all.find? (fun q => 9 * 64 + q.ctorIdx == a * 64 + n) = none :=
  find_other_block _ _ 9 a n SpReg.ctor_lt hn h

theorem EvReg.find_other (a n : Nat) (hn : n < 64) (h : 10 ≠ a) :
    EvReg.all.find? (fun q => 10 * 64 + q.ctorIdx == a * 64 + n) = none :=
  find_other_block _ _ 10 a n EvReg.ctor_lt hn h

theorem TmReg.find_other (a n : Nat) (hn : n < 64) (h : 11 ≠ a) :
    TmReg.all.find? (fun q => 11 * 64 + q.ctorIdx == a * 64 + n) = none :=
  find_other_block _ _ 11 a n TmReg.ctor_lt hn h

theorem IcReg.find_other (a n : Nat) (hn : n < 64) (h : 12 ≠ a) :
    IcReg.all.find? (fun q => 12 * 64 + q.ctorIdx == a * 64 + n) = none :=
  find_other_block _ _ 12 a n IcReg.ctor_lt hn h

theorem NvReg.find_other (a n : Nat) (hn : n < 64) (h : 13 ≠ a) :
    NvReg.all.find? (fun q => 13 * 64 + q.ctorIdx == a * 64 + n) = none :=
  find_other_block _ _ 13 a n NvReg.ctor_lt hn h

theorem SeReg.find_other (a n : Nat) (hn : n < 64) (h : 14 ≠ a) :
    SeReg.all.find? (fun q => 14 * 64 + q.ctorIdx == a * 64 + n) = none :=
  find_other_block _ _ 14 a n SeReg.ctor_lt hn h

theorem AlReg.find_other (a n : Nat) (hn : n < 64) (h : 15 ≠ a) :
    AlReg.all.find? (fun q => 15 * 64 + q.ctorIdx == a * 64 + n) = none :=
  find_other_block _ _ 15 a n AlReg.ctor_lt hn h

theorem VnReg.find_other (a n : Nat) (hn : n < 64) (h : 16 ≠ a) :
    VnReg.all.find? (fun q => 16 * 64 + q.ctorIdx == a * 64 + n) = none :=
  find_other_block _ _ 16 a n VnReg.ctor_lt hn h

theorem beq_add_left (a x y : Nat) : (a + x == a + y) = (x == y) := by
  rw [Bool.eq_iff_iff]; simp

theorem Reg.find_code (r : Reg) : Reg.all.find? (fun q => q.code == r.code) = some r := by
  cases r with
  | pw x =>
    simp only [Reg.all, List.find?_append, List.find?_map, Function.comp_def, Reg.code, beq_add_left, PwReg.find_self,
      LnReg.find_other 0 _ x.ctor_lt (by decide), CaReg.find_other 0 _ x.ctor_lt (by decide), CwReg.find_other 0 _
      x.ctor_lt (by decide), DsReg.find_other 0 _ x.ctor_lt (by decide), RkReg.find_other 0 _ x.ctor_lt (by decide),
      DbReg.find_other 0 _ x.ctor_lt (by decide), HpReg.find_other 0 _ x.ctor_lt (by decide), TwReg.find_other 0 _
      x.ctor_lt (by decide), SpReg.find_other 0 _ x.ctor_lt (by decide), EvReg.find_other 0 _ x.ctor_lt (by decide),
      TmReg.find_other 0 _ x.ctor_lt (by decide), IcReg.find_other 0 _ x.ctor_lt (by decide), NvReg.find_other 0 _
      x.ctor_lt (by decide), SeReg.find_other 0 _ x.ctor_lt (by decide), AlReg.find_other 0 _ x.ctor_lt (by decide),
      VnReg.find_other 0 _ x.ctor_lt (by decide)]
    rfl
  | ln x =>
    simp only [Reg.all, List.find?_append, List.find?_map, Function.comp_def, Reg.code, beq_add_left, LnReg.find_self,
      PwReg.find_other 1 _ x.ctor_lt (by decide), CaReg.find_other 1 _ x.ctor_lt (by decide), CwReg.find_other 1 _
      x.ctor_lt (by decide), DsReg.find_other 1 _ x.ctor_lt (by decide), RkReg.find_other 1 _ x.ctor_lt (by decide),
      DbReg.find_other 1 _ x.ctor_lt (by decide), HpReg.find_other 1 _ x.ctor_lt (by decide), TwReg.find_other 1 _
      x.ctor_lt (by decide), SpReg.find_other 1 _ x.ctor_lt (by decide), EvReg.find_other 1 _ x.ctor_lt (by decide),
      TmReg.find_other 1 _ x.ctor_lt (by decide), IcReg.find_other 1 _ x.ctor_lt (by decide), NvReg.find_other 1 _
      x.ctor_lt (by decide), SeReg.find_other 1 _ x.ctor_lt (by decide), AlReg.find_other 1 _ x.ctor_lt (by decide),
      VnReg.find_other 1 _ x.ctor_lt (by decide)]
    rfl
  | ca x =>
    simp only [Reg.all, List.find?_append, List.find?_map, Function.comp_def, Reg.code, beq_add_left, CaReg.find_self,
      PwReg.find_other 2 _ x.ctor_lt (by decide), LnReg.find_other 2 _ x.ctor_lt (by decide), CwReg.find_other 2 _
      x.ctor_lt (by decide), DsReg.find_other 2 _ x.ctor_lt (by decide), RkReg.find_other 2 _ x.ctor_lt (by decide),
      DbReg.find_other 2 _ x.ctor_lt (by decide), HpReg.find_other 2 _ x.ctor_lt (by decide), TwReg.find_other 2 _
      x.ctor_lt (by decide), SpReg.find_other 2 _ x.ctor_lt (by decide), EvReg.find_other 2 _ x.ctor_lt (by decide),
      TmReg.find_other 2 _ x.ctor_lt (by decide), IcReg.find_other 2 _ x.ctor_lt (by decide), NvReg.find_other 2 _
      x.ctor_lt (by decide), SeReg.find_other 2 _ x.ctor_lt (by decide), AlReg.find_other 2 _ x.ctor_lt (by decide),
      VnReg.find_other 2 _ x.ctor_lt (by decide)]
    rfl
  | cw x =>
    simp only [Reg.all, List.find?_append, List.find?_map, Function.comp_def, Reg.code, beq_add_left, CwReg.find_self,
      PwReg.find_other 3 _ x.ctor_lt (by decide), LnReg.find_other 3 _ x.ctor_lt (by decide), CaReg.find_other 3 _
      x.ctor_lt (by decide), DsReg.find_other 3 _ x.ctor_lt (by decide), RkReg.find_other 3 _ x.ctor_lt (by decide),
      DbReg.find_other 3 _ x.ctor_lt (by decide), HpReg.find_other 3 _ x.ctor_lt (by decide), TwReg.find_other 3 _
      x.ctor_lt (by decide), SpReg.find_other 3 _ x.ctor_lt (by decide), EvReg.find_other 3 _ x.ctor_lt (by decide),
      TmReg.find_other 3 _ x.ctor_lt (by decide), IcReg.find_other 3 _ x.ctor_lt (by decide), NvReg.find_other 3 _
      x.ctor_lt (by decide), SeReg.find_other 3 _ x.ctor_lt (by decide), AlReg.find_other 3 _ x.ctor_lt (by decide),
      VnReg.find_other 3 _ x.ctor_lt (by decide)]
    rfl
  | ds x =>
    simp only [Reg.all, List.find?_append, List.find?_map, Function.comp_def, Reg.code, beq_add_left, DsReg.find_self,
      PwReg.find_other 4 _ x.ctor_lt (by decide), LnReg.find_other 4 _ x.ctor_lt (by decide), CaReg.find_other 4 _
      x.ctor_lt (by decide), CwReg.find_other 4 _ x.ctor_lt (by decide), RkReg.find_other 4 _ x.ctor_lt (by decide),
      DbReg.find_other 4 _ x.ctor_lt (by decide), HpReg.find_other 4 _ x.ctor_lt (by decide), TwReg.find_other 4 _
      x.ctor_lt (by decide), SpReg.find_other 4 _ x.ctor_lt (by decide), EvReg.find_other 4 _ x.ctor_lt (by decide),
      TmReg.find_other 4 _ x.ctor_lt (by decide), IcReg.find_other 4 _ x.ctor_lt (by decide), NvReg.find_other 4 _
      x.ctor_lt (by decide), SeReg.find_other 4 _ x.ctor_lt (by decide), AlReg.find_other 4 _ x.ctor_lt (by decide),
      VnReg.find_other 4 _ x.ctor_lt (by decide)]
    rfl
  | rk x =>
    simp only [Reg.all, List.find?_append, List.find?_map, Function.comp_def, Reg.code, beq_add_left, RkReg.find_self,
      PwReg.find_other 5 _ x.ctor_lt (by decide), LnReg.find_other 5 _ x.ctor_lt (by decide), CaReg.find_other 5 _
      x.ctor_lt (by decide), CwReg.find_other 5 _ x.ctor_lt (by decide), DsReg.find_other 5 _ x.ctor_lt (by decide),
      DbReg.find_other 5 _ x.ctor_lt (by decide), HpReg.find_other 5 _ x.ctor_lt (by decide), TwReg.find_other 5 _
      x.ctor_lt (by decide), SpReg.find_other 5 _ x.ctor_lt (by decide), EvReg.find_other 5 _ x.ctor_lt (by decide),
      TmReg.find_other 5 _ x.ctor_lt (by decide), IcReg.find_other 5 _ x.ctor_lt (by decide), NvReg.find_other 5 _
      x.ctor_lt (by decide), SeReg.find_other 5 _ x.ctor_lt (by decide), AlReg.find_other 5 _ x.ctor_lt (by decide),
      VnReg.find_other 5 _ x.ctor_lt (by decide)]
    rfl
  | db x =>
    simp only [Reg.all, List.find?_append, List.find?_map, Function.comp_def, Reg.code, beq_add_left, DbReg.find_self,
      PwReg.find_other 6 _ x.ctor_lt (by decide), LnReg.find_other 6 _ x.ctor_lt (by decide), CaReg.find_other 6 _
      x.ctor_lt (by decide), CwReg.find_other 6 _ x.ctor_lt (by decide), DsReg.find_other 6 _ x.ctor_lt (by decide),
      RkReg.find_other 6 _ x.ctor_lt (by decide), HpReg.find_other 6 _ x.ctor_lt (by decide), TwReg.find_other 6 _
      x.ctor_lt (by decide), SpReg.find_other 6 _ x.ctor_lt (by decide), EvReg.find_other 6 _ x.ctor_lt (by decide),
      TmReg.find_other 6 _ x.ctor_lt (by decide), IcReg.find_other 6 _ x.ctor_lt (by decide), NvReg.find_other 6 _
      x.ctor_lt (by decide), SeReg.find_other 6 _ x.ctor_lt (by decide), AlReg.find_other 6 _ x.ctor_lt (by decide),
      VnReg.find_other 6 _ x.ctor_lt (by decide)]
    rfl
  | hp x =>
    simp only [Reg.all, List.find?_append, List.find?_map, Function.comp_def, Reg.code, beq_add_left, HpReg.find_self,
      PwReg.find_other 7 _ x.ctor_lt (by decide), LnReg.find_other 7 _ x.ctor_lt (by decide), CaReg.find_other 7 _
      x.ctor_lt (by decide), CwReg.find_other 7 _ x.ctor_lt (by decide), DsReg.find_other 7 _ x.ctor_lt (by decide),
      RkReg.find_other 7 _ x.ctor_lt (by decide), DbReg.find_other 7 _ x.ctor_lt (by decide), TwReg.find_other 7 _
      x.ctor_lt (by decide), SpReg.find_other 7 _ x.ctor_lt (by decide), EvReg.find_other 7 _ x.ctor_lt (by decide),
      TmReg.find_other 7 _ x.ctor_lt (by decide), IcReg.find_other 7 _ x.ctor_lt (by decide), NvReg.find_other 7 _
      x.ctor_lt (by decide), SeReg.find_other 7 _ x.ctor_lt (by decide), AlReg.find_other 7 _ x.ctor_lt (by decide),
      VnReg.find_other 7 _ x.ctor_lt (by decide)]
    rfl
  | tw x =>
    simp only [Reg.all, List.find?_append, List.find?_map, Function.comp_def, Reg.code, beq_add_left, TwReg.find_self,
      PwReg.find_other 8 _ x.ctor_lt (by decide), LnReg.find_other 8 _ x.ctor_lt (by decide), CaReg.find_other 8 _
      x.ctor_lt (by decide), CwReg.find_other 8 _ x.ctor_lt (by decide), DsReg.find_other 8 _ x.ctor_lt (by decide),
      RkReg.find_other 8 _ x.ctor_lt (by decide), DbReg.find_other 8 _ x.ctor_lt (by decide), HpReg.find_other 8 _
      x.ctor_lt (by decide), SpReg.find_other 8 _ x.ctor_lt (by decide), EvReg.find_other 8 _ x.ctor_lt (by decide),
      TmReg.find_other 8 _ x.ctor_lt (by decide), IcReg.find_other 8 _ x.ctor_lt (by decide), NvReg.find_other 8 _
      x.ctor_lt (by decide), SeReg.find_other 8 _ x.ctor_lt (by decide), AlReg.find_other 8 _ x.ctor_lt (by decide),
      VnReg.find_other 8 _ x.ctor_lt (by decide)]
    rfl
  | sp x =>
    simp only [Reg.all, List.find?_append, List.find?_map, Function.comp_def, Reg.code, beq_add_left, SpReg.find_self,
      PwReg.find_other 9 _ x.ctor_lt (by decide), LnReg.find_other 9 _ x.ctor_lt (by decide), CaReg.find_other 9 _
      x.ctor_lt (by decide), CwReg.find_other 9 _ x.ctor_lt (by decide), DsReg.find_other 9 _ x.ctor_lt (by decide),
      RkReg.find_other 9 _ x.ctor_lt (by decide), DbReg.find_other 9 _ x.ctor_lt (by decide), HpReg.find_other 9 _
      x.ctor_lt (by decide), TwReg.find_other 9 _ x.ctor_lt (by decide), EvReg.find_other 9 _ x.ctor_lt (by decide),
      TmReg.find_other 9 _ x.ctor_lt (by decide), IcReg.find_other 9 _ x.ctor_lt (by decide), NvReg.find_other 9 _
      x.ctor_lt (by decide), SeReg.find_other 9 _ x.ctor_lt (by decide), AlReg.find_other 9 _ x.ctor_lt (by decide),
      VnReg.find_other 9 _ x.ctor_lt (by decide)]
    rfl
  | ev x =>
    simp only [Reg.all, List.find?_append, List.find?_map, Function.comp_def, Reg.code, beq_add_left, EvReg.find_self,
      PwReg.find_other 10 _ x.ctor_lt (by decide), LnReg.find_other 10 _ x.ctor_lt (by decide), CaReg.find_other 10 _
      x.ctor_lt (by decide), CwReg.find_other 10 _ x.ctor_lt (by decide), DsReg.find_other 10 _ x.ctor_lt (by decide),
      RkReg.find_other 10 _ x.ctor_lt (by decide), DbReg.find_other 10 _ x.ctor_lt (by decide), HpReg.find_other 10 _
      x.ctor_lt (by decide), TwReg.find_other 10 _ x.ctor_lt (by decide), SpReg.find_other 10 _ x.ctor_lt (by decide),
      TmReg.find_other 10 _ x.ctor_lt (by decide), IcReg.find_other 10 _ x.ctor_lt (by decide), NvReg.find_other 10 _
      x.ctor_lt (by decide), SeReg.find_other 10 _ x.ctor_lt (by decide), AlReg.find_other 10 _ x.ctor_lt (by decide),
      VnReg.find_other 10 _ x.ctor_lt (by decide)]
    rfl
  | tm x =>
    simp only [Reg.all, List.find?_append, List.find?_map, Function.comp_def, Reg.code, beq_add_left, TmReg.find_self,
      PwReg.find_other 11 _ x.ctor_lt (by decide), LnReg.find_other 11 _ x.ctor_lt (by decide), CaReg.find_other 11 _
      x.ctor_lt (by decide), CwReg.find_other 11 _ x.ctor_lt (by decide), DsReg.find_other 11 _ x.ctor_lt (by decide),
      RkReg.find_other 11 _ x.ctor_lt (by decide), DbReg.find_other 11 _ x.ctor_lt (by decide), HpReg.find_other 11 _
      x.ctor_lt (by decide), TwReg.find_other 11 _ x.ctor_lt (by decide), SpReg.find_other 11 _ x.ctor_lt (by decide),
      EvReg.find_other 11 _ x.ctor_lt (by decide), IcReg.find_other 11 _ x.ctor_lt (by decide), NvReg.find_other 11 _
      x.ctor_lt (by decide), SeReg.find_other 11 _ x.ctor_lt (by decide), AlReg.find_other 11 _ x.ctor_lt (by decide),
      VnReg.find_other 11 _ x.ctor_lt (by decide)]
    rfl
  | ic x =>
    simp only [Reg.all, List.find?_append, List.find?_map, Function.comp_def, Reg.code, beq_add_left, IcReg.find_self,
      PwReg.find_other 12 _ x.ctor_lt (by decide), LnReg.find_other 12 _ x.ctor_lt (by decide), CaReg.find_other 12 _
      x.ctor_lt (by decide), CwReg.find_other 12 _ x.ctor_lt (by decide), DsReg.find_other 12 _ x.ctor_lt (by decide),
      RkReg.find_other 12 _ x.ctor_lt (by decide), DbReg.find_other 12 _ x.ctor_lt (by decide), HpReg.find_other 12 _
      x.ctor_lt (by decide), TwReg.find_other 12 _ x.ctor_lt (by decide), SpReg.find_other 12 _ x.ctor_lt (by decide),
      EvReg.find_other 12 _ x.ctor_lt (by decide), TmReg.find_other 12 _ x.ctor_lt (by decide), NvReg.find_other 12 _
      x.ctor_lt (by decide), SeReg.find_other 12 _ x.ctor_lt (by decide), AlReg.find_other 12 _ x.ctor_lt (by decide),
      VnReg.find_other 12 _ x.ctor_lt (by decide)]
    rfl
  | nv x =>
    simp only [Reg.all, List.find?_append, List.find?_map, Function.comp_def, Reg.code, beq_add_left, NvReg.find_self,
      PwReg.find_other 13 _ x.ctor_lt (by decide), LnReg.find_other 13 _ x.ctor_lt (by decide), CaReg.find_other 13 _
      x.ctor_lt (by decide), CwReg.find_other 13 _ x.ctor_lt (by decide), DsReg.find_other 13 _ x.ctor_lt (by decide),
      RkReg.find_other 13 _ x.ctor_lt (by decide), DbReg.find_other 13 _ x.ctor_lt (by decide), HpReg.find_other 13 _
      x.ctor_lt (by decide), TwReg.find_other 13 _ x.ctor_lt (by decide), SpReg.find_other 13 _ x.ctor_lt (by decide),
      EvReg.find_other 13 _ x.ctor_lt (by decide), TmReg.find_other 13 _ x.ctor_lt (by decide), IcReg.find_other 13 _
      x.ctor_lt (by decide), SeReg.find_other 13 _ x.ctor_lt (by decide), AlReg.find_other 13 _ x.ctor_lt (by decide),
      VnReg.find_other 13 _ x.ctor_lt (by decide)]
    rfl
  | se x =>
    simp only [Reg.all, List.find?_append, List.find?_map, Function.comp_def, Reg.code, beq_add_left, SeReg.find_self,
      PwReg.find_other 14 _ x.ctor_lt (by decide), LnReg.find_other 14 _ x.ctor_lt (by decide), CaReg.find_other 14 _
      x.ctor_lt (by decide), CwReg.find_other 14 _ x.ctor_lt (by decide), DsReg.find_other 14 _ x.ctor_lt (by decide),
      RkReg.find_other 14 _ x.ctor_lt (by decide), DbReg.find_other 14 _ x.ctor_lt (by decide), HpReg.find_other 14 _
      x.ctor_lt (by decide), TwReg.find_other 14 _ x.ctor_lt (by decide), SpReg.find_other 14 _ x.ctor_lt (by decide),
      EvReg.find_other 14 _ x.ctor_lt (by decide), TmReg.find_other 14 _ x.ctor_lt (by decide), IcReg.find_other 14 _
      x.ctor_lt (by decide), NvReg.find_other 14 _ x.ctor_lt (by decide), AlReg.find_other 14 _ x.ctor_lt (by decide),
      VnReg.find_other 14 _ x.ctor_lt (by decide)]
    rfl
  | al x =>
    simp only [Reg.all, List.find?_append, List.find?_map, Function.comp_def, Reg.code, beq_add_left, AlReg.find_self,
      PwReg.find_other 15 _ x.ctor_lt (by decide), LnReg.find_other 15 _ x.ctor_lt (by decide), CaReg.find_other 15 _
      x.ctor_lt (by decide), CwReg.find_other 15 _ x.ctor_lt (by decide), DsReg.find_other 15 _ x.ctor_lt (by decide),
      RkReg.find_other 15 _ x.ctor_lt (by decide), DbReg.find_other 15 _ x.ctor_lt (by decide), HpReg.find_other 15 _
      x.ctor_lt (by decide), TwReg.find_other 15 _ x.ctor_lt (by decide), SpReg.find_other 15 _ x.ctor_lt (by decide),
      EvReg.find_other 15 _ x.ctor_lt (by decide), TmReg.find_other 15 _ x.ctor_lt (by decide), IcReg.find_other 15 _
      x.ctor_lt (by decide), NvReg.find_other 15 _ x.ctor_lt (by decide), SeReg.find_other 15 _ x.ctor_lt (by decide),
      VnReg.find_other 15 _ x.ctor_lt (by decide)]
    rfl
  | vn x =>
    simp only [Reg.all, List.find?_append, List.find?_map, Function.comp_def, Reg.code, beq_add_left, VnReg.find_self,
      PwReg.find_other 16 _ x.ctor_lt (by decide), LnReg.find_other 16 _ x.ctor_lt (by decide), CaReg.find_other 16 _
      x.ctor_lt (by decide), CwReg.find_other 16 _ x.ctor_lt (by decide), DsReg.find_other 16 _ x.ctor_lt (by decide),
      RkReg.find_other 16 _ x.ctor_lt (by decide), DbReg.find_other 16 _ x.ctor_lt (by decide), HpReg.find_other 16 _
      x.ctor_lt (by decide), TwReg.find_other 16 _ x.ctor_lt (by decide), SpReg.find_other 16 _ x.ctor_lt (by decide),
      EvReg.find_other 16 _ x.ctor_lt (by decide), TmReg.find_other 16 _ x.ctor_lt (by decide), IcReg.find_other 16 _
      x.ctor_lt (by decide), NvReg.find_other 16 _ x.ctor_lt (by decide), SeReg.find_other 16 _ x.ctor_lt (by decide),
      AlReg.find_other 16 _ x.ctor_lt (by decide)]
    rfl

theorem Reg.code_inj {q r : Reg} (h : q.code = r.code) : q = r := by
  have hq := q.find_code
  rw [h, r.find_code] at hq
  exact (Option.some.inj hq).symm

/-- No two units share a key. -/
theorem Reg.key_inj {q r : Reg} {u v : Nat} (h : q.key u = r.key v) : q = r ∧ u = v :=
  ⟨Reg.code_inj (by rw [← q.key_mod u, h, r.key_mod v]), by rw [← q.key_div u, h, r.key_div v]⟩

/-- An unlisted key reads as the reset value of its register. -/
theorem regDefault_key (r : Reg) (u : Nat) : regDefault (r.key u) = r.resetVal u := by
  unfold regDefault
  rw [r.key_mod, r.find_code]
  simp only [r.key_div]

/-! ### The register file -/

theorem State.reg_def (s : State) (r : Reg) (u : Nat) : s.reg r u = Sparse.get regDefault s.regs (r.key u) :=
  Sparse.get_default_congr _ _ _ _ (regDefault_key r u).symm

theorem setReg_regs_default (s : State) (r : Reg) (u : Nat) (w : Word) :
    (s.setReg r u w).regs = Sparse.set regDefault s.regs (r.key u) w := by
  simp [Sparse.set, regDefault_key]

theorem RegFile.wf_setReg (s : State) (r : Reg) (u : Nat) (w : Word) (h : RegFile.wf s.regs) :
    RegFile.wf (s.setReg r u w).regs := by
  rw [setReg_regs_default]; exact Sparse.wf_set _ _ _ _ h

/-- A register write is read back. -/
theorem reg_setReg_same (s : State) (r : Reg) (u : Nat) (w : Word) (h : RegFile.wf s.regs) :
    (s.setReg r u w).reg r u = w := by
  rw [State.reg_def, setReg_regs_default]
  exact Sparse.get_set_same _ _ _ _ (Sparse.rising_of_wf h)

/-- A register write leaves every other unit alone. -/
theorem reg_setReg_other (s : State) (r q : Reg) (u v : Nat) (w : Word) (h : q ≠ r ∨ v ≠ u) :
    (s.setReg r u w).reg q v = s.reg q v := by
  have hk : q.key v ≠ r.key u := fun e => by
    obtain ⟨rfl, rfl⟩ := Reg.key_inj e
    simp at h
  rw [State.reg_def, State.reg_def, setReg_regs_default]
  exact Sparse.get_set_other _ _ _ _ _ _ hk

/-- States with the same register file read alike. -/
theorem reg_congr {s t : State} (h : t.regs = s.regs) (r : Reg) (u : Nat) : t.reg r u = s.reg r u := by
  unfold State.reg; rw [h]

/-! ### Memory -/

/-- A byte written is read back. -/
theorem readByte_writeByte_same (s : State) (a : Nat) (b : Byte) (h : Memory.wf s.mem) :
    (s.writeByte a b).readByte a = b :=
  Sparse.get_set_same _ _ _ _ (Sparse.rising_of_wf h)

/-- A byte write leaves every other byte alone. -/
theorem readByte_writeByte_other (s : State) (a x : Nat) (b : Byte) (h : x ≠ a) :
    (s.writeByte a b).readByte x = s.readByte x :=
  Sparse.get_set_other _ _ _ _ _ _ h

/-- Writing bytes changes only the bytes written. -/
theorem readByte_writeBytes_other (s : State) (a x : Nat) (bs : List Byte) (h : x < a ∨ a + bs.length ≤ x) :
    (s.writeBytes a bs).readByte x = s.readByte x := by
  induction bs generalizing s a with
  | nil => rw [State.writeBytes]
  | cons b bs ih =>
    simp only [List.length_cons] at h
    rw [State.writeBytes, ih _ _ (by omega), readByte_writeByte_other _ _ _ _ (by omega)]

theorem writeBytes_mem_wf (s : State) (a : Nat) (bs : List Byte) (h : Memory.wf s.mem) :
    Memory.wf (s.writeBytes a bs).mem := by
  induction bs generalizing s a with
  | nil => rw [State.writeBytes]; exact h
  | cons b bs ih => rw [State.writeBytes]; exact ih _ _ (Sparse.wf_set _ _ _ _ h)

/-- Bytes written are read back. -/
theorem readByte_writeBytes_same (s : State) (a i : Nat) (bs : List Byte) (h : Memory.wf s.mem) (hi : i < bs.length) :
    (s.writeBytes a bs).readByte (a + i) = bs[i] := by
  induction bs generalizing s a i with
  | nil => simp at hi
  | cons b bs ih =>
    rw [State.writeBytes]
    cases i with
    | zero =>
      rw [readByte_writeBytes_other _ _ _ _ (by omega)]
      exact readByte_writeByte_same s a b h
    | succ i =>
      have := ih (s.writeByte a b) (a + 1) i (Sparse.wf_set _ _ _ _ h) (by simpa using hi)
      simpa [Nat.add_assoc, Nat.add_comm 1 i] using this

/-! ### Indices -/

/-- An index taken from a number below the bound is that number. -/
@[simp] theorem ix_val {n : Nat} [NeZero n] (i : Fin n) : ix n i.val = i := by
  unfold ix; exact Fin.ofNat_val_eq_self i

end Sys2Proof.Machine
end

