-- ==== Sys2Proof/Laws/WithinOps.lean ====
section
/-! SUPPORT. What each operation can change, said once: one lemma per operation, that it stays within the parts and registers
it names, keeps the canonical forms and leaves the queue alone. This file: the relation's rules, and Machine/Ops.lean. -/
namespace Sys2Proof.Machine
set_option Elab.async false

set_option linter.unusedVariables false
set_option linter.unusedSimpArgs false

variable {P : Part → Prop} {R : Reg → Prop} {s0 s t : State}

theorem clockOk_vaneCount {c : Clock} (h : ClockOk c) : ClockOk (vaneCount c) := by
  obtain ⟨h1, h2, h3⟩ := h
  unfold vaneCount
  split <;> exact ⟨h1, by dsimp only; omega, h3⟩

theorem clockOk_busCount {c : Clock} (h : ClockOk c) : ClockOk (busCount c) := by
  obtain ⟨h1, h2, h3⟩ := h
  unfold busCount
  dsimp only
  split
  · split
    · unfold x32Edge; dsimp only
      split
      · exact ⟨h1, by dsimp only; omega, by dsimp only; omega⟩
      · have := clockOk_vaneCount (c := { c with edge := c.edge + 1, bus := stAdd c.bus 1, x32phase := c.x32phase + 16 - 46875 })
          ⟨h1, h2, by dsimp only; omega⟩
        exact ⟨this.source, this.acc, this.phase⟩
    · exact ⟨h1, h2, by dsimp only; omega⟩
  · exact ⟨h1, h2, by dsimp only; omega⟩

theorem within_refl (s : State) : Within P R s s :=
  ⟨id, id, id, rfl, Nat.le_refl _, fun p => Or.inr (by cases p <;> rfl), fun _ _ => Or.inr rfl⟩

/-- A state written out field by field. -/
def WithinMk (P : Part → Prop) (R : Reg → Prop) (s0 : State) (a0 : List (Nat × Word)) (a1 : List Host.Cell) (a2 :
    Vector AccessorState 6) (a3 : Nat) (a4 : Clock) (a5 : Merger) (a6 : Safety) (a7 : Router) (a8 : Vector Timer 16)
    (a9 : Vector Drawbar 2) (a10 : Vector Slot 32) (a11 : CoolantLoop) (a12 : Recall) (a13 : Homing) (a14 : Vector
    Lane 16) (a15 : Vector PhysLane 18) (a16 : CalEngine) (a17 : Coach) (a18 : SensorPort) (a19 : IntCtl) (a20 :
    PowerSt) (a21 : Nvm) (a22 : Enclave) (a23 : HostPort) (a24 : TwoWire) (a25 : List Instr) : Prop := Within P R s0
    (State.mk a0 a1 a2 a3 a4 a5 a6 a7 a8 a9 a10 a11 a12 a13 a14 a15 a16 a17 a18 a19 a20 a21 a22 a23 a24 a25)

theorem within_mk : Within P R s0 (State.mk a0 a1 a2 a3 a4 a5 a6 a7 a8 a9 a10 a11 a12
    a13 a14 a15 a16 a17 a18 a19 a20 a21 a22 a23 a24 a25) =
    WithinMk P R s0 a0 a1 a2 a3 a4 a5 a6 a7 a8 a9 a10 a11 a12 a13 a14 a15 a16 a17 a18 a19 a20 a21 a22 a23 a24 a25 := rfl

theorem WithinMk.intro (h : Within P R s0 s) (hr : a0 = s.regs) (hm : a1 = s.mem) (hf : a3 = s.freeCount)
    (hp : a25 = s.pending) (hc : ClockOk s.clk → ClockOk a4 := by first
      | with_reducible exact id | with_reducible exact clockOk_busCount | with_reducible exact clockOk_vaneCount | exact fun h => ⟨h.1, h.2, h.3⟩
      | exact fun h => ⟨nofun, h.2, h.3⟩ | exact fun h => ⟨nofun, h.2, (show 0 < 46875 by decide)⟩
      | exact fun h => ⟨fun _ => rfl, (show 0 < 16 by decide), h.3⟩)
    (h_acc : P .acc ∨ a2 = s.acc := by exact .inr rfl)
    (h_clk : P .clk ∨ a4 = s.clk := by exact .inr rfl) (h_merger : P .merger ∨ a5 = s.merger := by exact .inr rfl)
    (h_safety : P .safety ∨ a6 = s.safety := by exact .inr rfl)
    (h_router : P .router ∨ a7 = s.router := by exact .inr rfl)
    (h_timers : P .timers ∨ a8 = s.timers := by exact .inr rfl)
    (h_drawbar : P .drawbar ∨ a9 = s.drawbar := by exact .inr rfl)
    (h_slots : P .slots ∨ a10 = s.slots := by exact .inr rfl) (h_loop : P .loop ∨ a11 = s.loop := by exact .inr rfl)
    (h_prRun : P .prRun ∨ a12 = s.prRun := by exact .inr rfl)
    (h_homing : P .homing ∨ a13 = s.homing := by exact .inr rfl)
    (h_lanes : P .lanes ∨ a14 = s.lanes := by exact .inr rfl) (h_phys : P .phys ∨ a15 = s.phys := by exact .inr rfl)
    (h_cal : P .cal ∨ a16 = s.cal := by exact .inr rfl) (h_coach : P .coach ∨ a17 = s.coach := by exact .inr rfl)
    (h_sensor : P .sensor ∨ a18 = s.sensor := by exact .inr rfl) (h_ic : P .ic ∨ a19 = s.ic := by exact .inr rfl)
    (h_power : P .power ∨ a20 = s.power := by exact .inr rfl) (h_nvm : P .nvm ∨ a21 = s.nvm := by exact .inr rfl)
    (h_enclave : P .enclave ∨ a22 = s.enclave := by exact .inr rfl)
    (h_host : P .host ∨ a23 = s.host := by exact .inr rfl) (h_tw : P .tw ∨ a24 = s.tw := by exact .inr rfl) : WithinMk
    P R s0 a0 a1 a2 a3 a4 a5 a6 a7 a8 a9 a10 a11 a12 a13 a14 a15 a16 a17 a18 a19 a20 a21 a22 a23 a24 a25 := by
  refine ⟨fun x => hm ▸ h.mem x, fun x => hr ▸ h.regs x, fun x => hc (h.clock x), hp.trans h.pending, hf ▸ h.free, fun p => ?_, fun r u => ?_⟩
  · cases p with
    | mem => exact (h.parts .mem).imp id (fun e => hm.trans e)
    | acc => exact h_acc.elim Or.inl (fun e => (h.parts .acc).imp id (fun e' => e.trans e'))
    | clk => exact h_clk.elim Or.inl (fun e => (h.parts .clk).imp id (fun e' => e.trans e'))
    | merger => exact h_merger.elim Or.inl (fun e => (h.parts .merger).imp id (fun e' => e.trans e'))
    | safety => exact h_safety.elim Or.inl (fun e => (h.parts .safety).imp id (fun e' => e.trans e'))
    | router => exact h_router.elim Or.inl (fun e => (h.parts .router).imp id (fun e' => e.trans e'))
    | timers => exact h_timers.elim Or.inl (fun e => (h.parts .timers).imp id (fun e' => e.trans e'))
    | drawbar => exact h_drawbar.elim Or.inl (fun e => (h.parts .drawbar).imp id (fun e' => e.trans e'))
    | slots => exact h_slots.elim Or.inl (fun e => (h.parts .slots).imp id (fun e' => e.trans e'))
    | loop => exact h_loop.elim Or.inl (fun e => (h.parts .loop).imp id (fun e' => e.trans e'))
    | prRun => exact h_prRun.elim Or.inl (fun e => (h.parts .prRun).imp id (fun e' => e.trans e'))
    | homing => exact h_homing.elim Or.inl (fun e => (h.parts .homing).imp id (fun e' => e.trans e'))
    | lanes => exact h_lanes.elim Or.inl (fun e => (h.parts .lanes).imp id (fun e' => e.trans e'))
    | phys => exact h_phys.elim Or.inl (fun e => (h.parts .phys).imp id (fun e' => e.trans e'))
    | cal => exact h_cal.elim Or.inl (fun e => (h.parts .cal).imp id (fun e' => e.trans e'))
    | coach => exact h_coach.elim Or.inl (fun e => (h.parts .coach).imp id (fun e' => e.trans e'))
    | sensor => exact h_sensor.elim Or.inl (fun e => (h.parts .sensor).imp id (fun e' => e.trans e'))
    | ic => exact h_ic.elim Or.inl (fun e => (h.parts .ic).imp id (fun e' => e.trans e'))
    | power => exact h_power.elim Or.inl (fun e => (h.parts .power).imp id (fun e' => e.trans e'))
    | nvm => exact h_nvm.elim Or.inl (fun e => (h.parts .nvm).imp id (fun e' => e.trans e'))
    | enclave => exact h_enclave.elim Or.inl (fun e => (h.parts .enclave).imp id (fun e' => e.trans e'))
    | host => exact h_host.elim Or.inl (fun e => (h.parts .host).imp id (fun e' => e.trans e'))
    | tw => exact h_tw.elim Or.inl (fun e => (h.parts .tw).imp id (fun e' => e.trans e'))
  · exact (h.file r u).imp id (fun e => (reg_congr hr r u).trans e)

theorem within_foldl {α : Type} {f : State → α → State} {l : List α}
    (hf : ∀ s x, Within P R s0 s → Within P R s0 (f s x)) (h : Within P R s0 s) : Within P R s0 (l.foldl f s) := by
  induction l generalizing s with
  | nil => exact h
  | cons a l ih => exact ih (hf s a h)

theorem within_foldl_snd {α β : Type} {f : β × State → α → β × State} {l : List α} {p : β × State}
    (hf : ∀ q x, Within P R s0 q.2 → Within P R s0 (f q x).2) (h : Within P R s0 p.2) :
    Within P R s0 (l.foldl f p).2 := by
  induction l generalizing p with
  | nil => exact h
  | cons a l ih => exact ih (hf p a h)

theorem within_foldl_fst {α β : Type} {f : State × β → α → State × β} {l : List α} {p : State × β}
    (hf : ∀ q x, Within P R s0 q.1 → Within P R s0 (f q x).1) (h : Within P R s0 p.1) :
    Within P R s0 (l.foldl f p).1 := by
  induction l generalizing p with
  | nil => exact h
  | cons a l ih => exact ih (hf p a h)

theorem within_pair {α : Type} {v : α} {p : α × State} (h : Within P R s0 p.2) (e : p = (v, t)) : Within P R s0 t := by
  subst e; exact h

/-- Drawing free values changes nothing else. -/
theorem within_freeCount {n : Nat} (h : Within P R s0 s) (hn : s0.freeCount ≤ n) :
    Within P R s0 { s with freeCount := n } := by
  refine ⟨h.mem, h.regs, h.clock, h.pending, hn, fun p => ?_, h.file⟩
  cases p <;> exact h.parts _


theorem State.writeByte_within (h : Within P R s0 s) (p_mem : P .mem) : Within P R s0 (State.writeByte s x1 x2) := by
  refine ⟨fun x => by simpa using Sparse.wf_set _ _ _ _ (h.mem x), h.regs, h.clock, h.pending, h.free, fun p => ?_, h.file⟩
  cases p with
  | mem => exact Or.inl p_mem
  | _ => exact h.parts _

theorem State.writeBytes_within (h : Within P R s0 s) (p_mem : P .mem) : Within P R s0 (State.writeBytes s x1 x2) := by
  induction x2 generalizing s x1 with
  | nil => exact h
  | cons b bs ih => rw [State.writeBytes]; exact ih (State.writeByte_within h p_mem)

theorem State.writeWord_within (h : Within P R s0 s) (p_mem : P .mem) : Within P R s0 (State.writeWord s x1 x2) := by
  unfold State.writeWord; try dsimp only
  repeat' first
    | with_reducible assumption | with_reducible refine State.writeBytes_within ?_ p_mem

theorem State.writeWords_within (h : Within P R s0 s) (p_mem : P .mem) : Within P R s0 (State.writeWords s x1 x2) := by
  induction x2 generalizing s x1 with
  | nil => exact h
  | cons w ws ih => rw [State.writeWords]; exact ih (State.writeWord_within h p_mem)

theorem State.eraseRange_within (h : Within P R s0 s) (p_mem : P .mem) : Within P R s0 (State.eraseRange s x1 x2) := by
  refine ⟨fun x => by simpa using Sparse.wf_clear _ _ _ (h.mem x), h.regs, h.clock, h.pending, h.free, fun p => ?_, h.file⟩
  cases p with
  | mem => exact Or.inl p_mem
  | _ => exact h.parts _

theorem State.zeroRange_within (h : Within P R s0 s) (p_mem : P .mem) : Within P R s0 (State.zeroRange s x1 x2) := by
  unfold State.zeroRange; try dsimp only
  repeat' first
    | with_reducible assumption | with_reducible refine State.eraseRange_within ?_ p_mem
    | with_reducible refine State.writeBytes_within ?_ p_mem | with_reducible refine within_pair ?_ (by assumption)
    | split

theorem State.setReg_within (h : Within P R s0 s) (r1 : R x1) : Within P R s0 (State.setReg s x1 x2 x3) := by
  refine ⟨h.mem, fun x => RegFile.wf_setReg _ _ _ _ (h.regs x), h.clock, h.pending, h.free, fun p => ?_, fun r u => ?_⟩
  · cases p <;> exact h.parts _
  · by_cases e : r = x1
    · exact Or.inl (e ▸ r1)
    · exact (h.file r u).imp id (fun e' => (reg_setReg_other s x1 r x2 u x3 (Or.inl e)).trans e')

theorem State.clrReg_within (h : Within P R s0 s) (r1 : R (x1)) : Within P R s0 (State.clrReg s x1 x2 x3) := by
  unfold State.clrReg; try dsimp only
  repeat' first
    | with_reducible assumption | with_reducible refine State.setReg_within ?_ (by assumption)

theorem updSource_within (h : Within P R s0 s) (p_ic : P .ic) : Within P R s0 (updSource x1 x2 s) := by
  unfold updSource; try dsimp only
  repeat' first
    | with_reducible assumption | with_reducible refine within_pair ?_ (by assumption) | split
    | (simp only [within_mk]
       refine WithinMk.intro ?_ rfl rfl rfl rfl (h_ic := .inl p_ic))

theorem arrive_within (h : Within P R s0 s) (p_ic : P .ic) : Within P R s0 (arrive x1 x2 s) := by
  unfold arrive; try dsimp only
  repeat' first
    | with_reducible assumption | with_reducible refine updSource_within ?_ p_ic
    | with_reducible refine within_pair ?_ (by assumption) | split

theorem setLatch_within (h : Within P R s0 s) (p_ic : P .ic) : Within P R s0 (setLatch x1 s) := by
  unfold setLatch; try dsimp only
  repeat' first
    | with_reducible assumption | with_reducible refine updSource_within ?_ p_ic
    | with_reducible refine arrive_within ?_ p_ic

theorem faultPin_within (h : Within P R s0 s) (p_safety : P .safety) : Within P R s0 (faultPin s) := by
  unfold faultPin; try dsimp only
  repeat' first
    | with_reducible assumption | with_reducible refine within_pair ?_ (by assumption) | split
    | (simp only [within_mk]
       refine WithinMk.intro ?_ rfl rfl rfl rfl (h_safety := .inl p_safety))

theorem twNotice_within (h : Within P R s0 s) (p_tw : P .tw) : Within P R s0 (twNotice x1 s) := by
  unfold twNotice; try dsimp only
  repeat' first
    | with_reducible assumption | with_reducible refine within_pair ?_ (by assumption) | split
    | (simp only [within_mk]
       refine WithinMk.intro ?_ rfl rfl rfl rfl (h_tw := .inl p_tw))

theorem State.orReg_within (h : Within P R s0 s) (p_safety : P .safety) (p_ic : P .ic) (p_tw : P .tw) (r1 : R (x1)) :
    Within P R s0 (State.orReg s x1 x2 x3) := by
  unfold State.orReg; try dsimp only
  repeat' first
    | with_reducible assumption | with_reducible refine State.setReg_within ?_ (by assumption)
    | with_reducible refine twNotice_within ?_ p_tw | with_reducible refine arrive_within ?_ p_ic
    | with_reducible refine faultPin_within ?_ p_safety | with_reducible refine within_pair ?_ (by assumption)
    | split

theorem fstat_within (h : Within P R s0 s) (p_safety : P .safety) (p_ic : P .ic) (p_tw : P .tw)
    (r_al_FSTAT : R (.al .FSTAT)) : Within P R s0 (fstat x1 s) := by
  unfold fstat; try dsimp only
  repeat' first
    | with_reducible assumption | with_reducible refine State.orReg_within ?_ p_safety p_ic p_tw (by assumption)

theorem State.setFld_within (h : Within P R s0 s) (r1 : R (x1)) : Within P R s0 (State.setFld s x1 x2 x3 x4 x5) := by
  unfold State.setFld; try dsimp only
  repeat' first
    | with_reducible assumption | with_reducible refine State.setReg_within ?_ (by assumption)

theorem State.countFld_within (h : Within P R s0 s) (r1 : R (x1)) : Within P R s0 (State.countFld s x1 x2 x3 x4 x5) := by
  unfold State.countFld; try dsimp only
  repeat' first
    | with_reducible assumption | with_reducible refine State.setFld_within ?_ (by assumption)

theorem State.plainWrite_within (h : Within P R s0 s) (r1 : R (x2)) : Within P R s0 (State.plainWrite s x1 x2 x3 x4) := by
  unfold State.plainWrite; try dsimp only
  repeat' first
    | with_reducible assumption | with_reducible refine State.setReg_within ?_ (by assumption)

theorem State.readClear_within (h : Within P R s0 s) (r1 : R (x2)) : Within P R s0 (State.readClear s x1 x2 x3) := by
  unfold State.readClear; try dsimp only
  repeat' first
    | with_reducible assumption | with_reducible refine State.clrReg_within ?_ (by assumption)
    | with_reducible refine within_pair ?_ (by assumption) | split

theorem State.answer_within (h : Within P R s0 s) (p_acc : P .acc) : Within P R s0 (State.answer s x1 x2) := by
  unfold State.answer; try dsimp only
  repeat' first
    | with_reducible assumption | with_reducible refine within_pair ?_ (by assumption) | split
    | (simp only [within_mk]
       refine WithinMk.intro ?_ rfl rfl rfl rfl (h_acc := .inl p_acc))

theorem State.stall_within (h : Within P R s0 s) (p_acc : P .acc) : Within P R s0 (State.stall s x1 x2) := by
  unfold State.stall; try dsimp only
  repeat' first
    | with_reducible assumption | with_reducible refine within_pair ?_ (by assumption) | split
    | (simp only [within_mk]
       refine WithinMk.intro ?_ rfl rfl rfl rfl (h_acc := .inl p_acc))

theorem State.free_within (h : Within P R s0 s) : Within P R s0 (State.free x1 s).2 := by
  refine ⟨h.mem, h.regs, h.clock, h.pending, Nat.le_succ_of_le h.free, fun p => ?_, h.file⟩
  cases p <;> exact h.parts _

end Sys2Proof.Machine
end

