-- ==== Sys2Proof/Laws/WithinAccess.lean ====
section
/-! SUPPORT. What each operation of Machine/Access.lean can change: one lemma per operation (see Laws/WithinOps.lean). -/
namespace Sys2Proof.Machine
set_option Elab.async false

set_option linter.unusedVariables false
set_option linter.unusedSimpArgs false

variable {P : Part → Prop} {R : Reg → Prop} {s0 s t : State}

theorem postpone_within (h : Within P R s0 s) (p_power : P .power) : Within P R s0 (postpone x1 x2 x3 x4 s) := by
  unfold postpone; try dsimp only
  repeat' first
    | with_reducible assumption | with_reducible refine within_pair ?_ (by assumption) | split
    | (simp only [within_mk]
       refine WithinMk.intro ?_ rfl rfl rfl rfl (h_power := .inl p_power))

theorem regWrite_within (he : ∀ v s, Within P R s0 s → Within P R s0 (x4 v s)) (h : Within P R s0 s) (p_acc : P .acc) (p_power : P .power) :
    Within P R s0 (regWrite x1 x2 x3 x4 s) := by
  unfold regWrite
  split
  · generalize postponed x2 (x3.write.getD 0) s = p
    obtain ⟨tag, later⟩ := p
    dsimp only
    split
    · exact State.answer_within (he _ _ h) p_acc
    · refine State.answer_within ?_ p_acc
      split
      · exact postpone_within h p_power
      · exact he _ _ (postpone_within h p_power)
  · exact State.answer_within h p_acc
  · exact State.stall_within h p_acc

theorem regRead_within (he : ∀ s, Within P R s0 s → Within P R s0 (x4 s).2) (h : Within P R s0 s) (p_acc : P .acc) :
    Within P R s0 (regRead x1 x2 x3 x4 s) := by
  unfold regRead
  split
  · exact State.answer_within (he _ h) p_acc
  · exact State.answer_within h p_acc
  · exact State.stall_within h p_acc

theorem writeSel_within (h : Within P R s0 s) (r1 : R (x1)) : Within P R s0 (writeSel x1 x2 x3 x4 x5 s) := by
  unfold writeSel; try dsimp only
  repeat' first
    | with_reducible assumption | with_reducible refine State.setReg_within ?_ (by assumption)
    | with_reducible refine within_pair ?_ (by assumption) | split

theorem snapshot_within (h : Within P R s0 s) (r1 : R (x1)) : Within P R s0 (snapshot x1 x2 x3 s) := by
  unfold snapshot; try dsimp only
  repeat' first
    | with_reducible assumption | with_reducible refine State.setReg_within ?_ (by assumption)

theorem resetAccessor_within (h : Within P R s0 s) (rAll : ∀ r, R r) : Within P R s0 (resetAccessor x1 s) := by
  unfold resetAccessor; try dsimp only
  repeat' first
    | with_reducible assumption | with_reducible refine State.setReg_within ?_ (rAll _)
    | with_reducible refine within_foldl (fun _ _ h => ?_) ?_

end Sys2Proof.Machine
end

