-- ==== Sys2Proof/Laws/WithinGuard.lean ====
section
/-! SUPPORT. What each operation of Machine/Guard.lean can change: one lemma per operation (see Laws/WithinOps.lean). -/
namespace Sys2Proof.Machine
set_option Elab.async false

set_option linter.unusedVariables false
set_option linter.unusedSimpArgs false

variable {P : Part → Prop} {R : Reg → Prop} {s0 s t : State}

theorem noteSettings_within (h : Within P R s0 s) (r_nv_DIRTY : R (.nv .DIRTY)) : Within P R s0 (noteSettings x1 s) := by
  unfold noteSettings; try dsimp only
  repeat' first
    | with_reducible assumption | with_reducible refine State.setFld_within ?_ (by assumption)
    | with_reducible refine within_pair ?_ (by assumption) | split

theorem storeSramByte_within (h : Within P R s0 s) (p_mem : P .mem) (r_nv_DIRTY : R (.nv .DIRTY)) : Within P R s0
    (storeSramByte x1 x2 s) := by
  unfold storeSramByte; try dsimp only
  repeat' first
    | with_reducible assumption | with_reducible refine noteSettings_within ?_ r_nv_DIRTY
    | with_reducible refine State.writeByte_within ?_ p_mem | with_reducible refine within_pair ?_ (by assumption)
    | split

theorem storeSram_within (h : Within P R s0 s) (p_mem : P .mem) (r_nv_DIRTY : R (.nv .DIRTY)) : Within P R s0
    (storeSram x1 x2 s) := by
  unfold storeSram; try dsimp only
  repeat' first
    | with_reducible assumption | with_reducible refine storeSramByte_within ?_ p_mem r_nv_DIRTY
    | with_reducible refine within_foldl (fun _ _ h => ?_) ?_

end Sys2Proof.Machine
end

