-- ==== Sys2Proof/Laws/WithinMerger.lean ====
section
/-! SUPPORT. What each operation of Machine/Merger.lean can change: one lemma per operation (see Laws/WithinOps.lean). -/
namespace Sys2Proof.Machine
set_option Elab.async false

set_option linter.unusedVariables false
set_option linter.unusedSimpArgs false

variable {P : Part → Prop} {R : Reg → Prop} {s0 s t : State}

theorem emit_within (h : Within P R s0 s) (p_merger : P .merger) : Within P R s0 (emit x1 x2 x3 x4 x5 s) := by
  unfold emit; try dsimp only
  repeat' first
    | with_reducible assumption | with_reducible refine within_pair ?_ (by assumption) | split
    | (simp only [within_mk]
       refine WithinMk.intro ?_ rfl rfl rfl rfl (h_merger := .inl p_merger))

theorem almanac_within (h : Within P R s0 s) (p_safety : P .safety) : Within P R s0 (almanac x1 x2 x3 x4 s) := by
  unfold almanac; try dsimp only
  repeat' first
    | with_reducible assumption | with_reducible refine within_pair ?_ (by assumption) | split
    | (simp only [within_mk]
       refine WithinMk.intro ?_ rfl rfl rfl rfl (h_safety := .inl p_safety))

theorem declareHold_within (h : Within P R s0 s) (p_merger : P .merger) (p_safety : P .safety) (p_ic : P .ic)
    (p_tw : P .tw) (r_rk_STAT : R (.rk .STAT)) : Within P R s0 (declareHold x1 x2 x3 x4 s) := by
  unfold declareHold; try dsimp only
  repeat' first
    | with_reducible assumption | with_reducible refine State.orReg_within ?_ p_safety p_ic p_tw (by assumption)
    | with_reducible refine within_pair ?_ (by assumption) | split
    | (simp only [within_mk]
       refine WithinMk.intro ?_ rfl rfl rfl rfl (h_merger := .inl p_merger) (h_safety := .inl p_safety) (h_ic :=
           .inl p_ic) (h_tw := .inl p_tw))

theorem emitGap_within (h : Within P R s0 s) (p_merger : P .merger) : Within P R s0 (emitGap x1 x2 x3 x4 x5 x6 s) := by
  unfold emitGap; try dsimp only
  repeat' first
    | with_reducible assumption | with_reducible refine emit_within ?_ p_merger
    | with_reducible refine within_pair ?_ (by assumption) | split

theorem dropHold_within (h : Within P R s0 s) (p_merger : P .merger) : Within P R s0 (dropHold x1 x2 s) := by
  unfold dropHold; try dsimp only
  repeat' first
    | with_reducible assumption | with_reducible refine within_pair ?_ (by assumption) | split
    | (simp only [within_mk]
       refine WithinMk.intro ?_ rfl rfl rfl rfl (h_merger := .inl p_merger))

theorem judge_within (h : Within P R s0 s) (p_merger : P .merger) (p_safety : P .safety) (p_ic : P .ic) (p_tw : P .tw)
    (r_rk_STAT : R (.rk .STAT)) (r_rk_LATE : R (.rk .LATE)) : Within P R s0 (judge x1 s) := by
  unfold judge; try dsimp only
  repeat' first
    | with_reducible assumption | with_reducible refine State.countFld_within ?_ (by assumption)
    | with_reducible refine State.orReg_within ?_ p_safety p_ic p_tw (by assumption)
    | with_reducible refine within_pair ?_ (by assumption) | split
    | (simp only [within_mk]
       refine WithinMk.intro ?_ rfl rfl rfl rfl (h_merger := .inl p_merger) (h_safety := .inl p_safety) (h_ic :=
           .inl p_ic) (h_tw := .inl p_tw))

theorem State.writeQueue_within (h : Within P R s0 s) (p_mem : P .mem) : Within P R s0 (State.writeQueue s x1 x2) := by
  induction x2 generalizing s x1 with
  | nil => exact h
  | cons w ws ih => rw [State.writeQueue]; exact ih (State.writeWord_within h p_mem)

theorem discardRec_within (h : Within P R s0 s) (p_merger : P .merger) (p_safety : P .safety) (p_ic : P .ic)
    (p_tw : P .tw) (r_rk_OVCNT : R (.rk .OVCNT)) (r_rk_STAT : R (.rk .STAT)) : Within P R s0 (discardRec x1 s) := by
  unfold discardRec; try dsimp only
  repeat' first
    | with_reducible assumption | with_reducible refine State.setReg_within ?_ (by assumption)
    | with_reducible refine State.orReg_within ?_ p_safety p_ic p_tw (by assumption)
    | with_reducible refine within_pair ?_ (by assumption) | split
    | (simp only [within_mk]
       refine WithinMk.intro ?_ rfl rfl rfl rfl (h_merger := .inl p_merger) (h_safety := .inl p_safety) (h_ic :=
           .inl p_ic) (h_tw := .inl p_tw))

theorem putRec_within (h : Within P R s0 s) (p_mem : P .mem) (p_merger : P .merger) : Within P R s0 (putRec x1 s) := by
  unfold putRec; try dsimp only
  repeat' first
    | with_reducible assumption | with_reducible refine State.writeQueue_within ?_ p_mem
    | with_reducible refine within_foldl (fun _ _ h => ?_) ?_
    | with_reducible refine within_foldl_snd (fun _ _ h => ?_) ?_
    | with_reducible refine within_foldl_fst (fun _ _ h => ?_) ?_
    | with_reducible refine within_pair ?_ (by assumption) | split
    | (simp only [within_mk]
       refine WithinMk.intro ?_ rfl rfl rfl rfl (h_merger := .inl p_merger))

theorem writeRec_within (h : Within P R s0 s) (p_mem : P .mem) (p_merger : P .merger) (p_safety : P .safety)
    (p_ic : P .ic) (p_tw : P .tw) (r_rk_OVCNT : R (.rk .OVCNT)) (r_rk_STAT : R (.rk .STAT)) : Within P R s0 (writeRec
    x1 s).2 := by
  unfold writeRec; try dsimp only
  repeat' first
    | with_reducible assumption | with_reducible refine putRec_within ?_ p_mem p_merger
    | with_reducible refine discardRec_within ?_ p_merger p_safety p_ic p_tw r_rk_OVCNT r_rk_STAT
    | with_reducible refine within_pair ?_ (by assumption) | split

theorem writeAll_within (h : Within P R s0 s) (p_mem : P .mem) (p_merger : P .merger) (p_safety : P .safety) (p_ic : P .ic) (p_tw : P .tw) (r_rk_OVCNT : R (.rk .OVCNT)) (r_rk_STAT : R (.rk .STAT)) : Within P R s0 (writeAll x1 s).2 := by
  induction x1 generalizing s with
  | nil => exact h
  | cons r rs ih => rw [writeAll]; exact ih (writeRec_within h p_mem p_merger p_safety p_ic p_tw r_rk_OVCNT r_rk_STAT)

theorem setNotes_within (h : Within P R s0 s) (p_safety : P .safety) (p_ic : P .ic) (p_tw : P .tw)
    (r_rk_CnSTAT : R (.rk .CnSTAT)) : Within P R s0 (setNotes x1 s) := by
  unfold setNotes; try dsimp only
  repeat' first
    | with_reducible assumption | with_reducible refine State.orReg_within ?_ p_safety p_ic p_tw (by assumption)
    | with_reducible refine within_foldl (fun _ _ h => ?_) ?_

theorem ackBytes_within (h : Within P R s0 s) (p_merger : P .merger) : Within P R s0 (ackBytes x1 x2 s) := by
  unfold ackBytes; try dsimp only
  repeat' first
    | with_reducible assumption | with_reducible refine within_pair ?_ (by assumption) | split
    | (simp only [within_mk]
       refine WithinMk.intro ?_ rfl rfl rfl rfl (h_merger := .inl p_merger))

theorem cursorToHead_within (h : Within P R s0 s) (p_merger : P .merger) : Within P R s0 (cursorToHead x1 s) := by
  unfold cursorToHead; try dsimp only
  repeat' first
    | with_reducible assumption | with_reducible refine within_pair ?_ (by assumption) | split
    | (simp only [within_mk]
       refine WithinMk.intro ?_ rfl rfl rfl rfl (h_merger := .inl p_merger))

end Sys2Proof.Machine
end

