-- ==== Sys2Proof/Laws/WithinRouter.lean ====
section
/-! SUPPORT. What each operation of Machine/Router.lean can change: one lemma per operation (see Laws/WithinOps.lean). -/
namespace Sys2Proof.Machine
set_option Elab.async false

set_option linter.unusedVariables false
set_option linter.unusedSimpArgs false

variable {P : Part → Prop} {R : Reg → Prop} {s0 s t : State}

theorem enqueuePub_within (h : Within P R s0 s) (p_router : P .router) : Within P R s0 (enqueuePub x1 s) := by
  unfold enqueuePub; try dsimp only
  repeat' first
    | with_reducible assumption | with_reducible refine within_pair ?_ (by assumption) | split
    | (simp only [within_mk]
       refine WithinMk.intro ?_ rfl rfl rfl rfl (h_router := .inl p_router))

theorem publish_within (h : Within P R s0 s) (p_router : P .router) : Within P R s0 (publish x1 x2 x3 s) := by
  unfold publish; try dsimp only
  repeat' first
    | with_reducible assumption | with_reducible refine enqueuePub_within ?_ p_router

theorem publishOn_within (h : Within P R s0 s) (p_router : P .router) : Within P R s0 (publishOn x1 x2 x3 x4 s) := by
  unfold publishOn; try dsimp only
  repeat' first
    | with_reducible assumption | with_reducible refine enqueuePub_within ?_ p_router

theorem publishSw_within (h : Within P R s0 s) (p_router : P .router) : Within P R s0 (publishSw x1 s) := by
  unfold publishSw; try dsimp only
  repeat' first
    | with_reducible assumption | with_reducible refine enqueuePub_within ?_ p_router

theorem ownErr_within (h : Within P R s0 s) (p_safety : P .safety) (p_ic : P .ic) (p_tw : P .tw)
    (r_ev_STAT : R (.ev .STAT)) : Within P R s0 (ownErr s) := by
  unfold ownErr; try dsimp only
  repeat' first
    | with_reducible assumption | with_reducible refine State.orReg_within ?_ p_safety p_ic p_tw (by assumption)

end Sys2Proof.Machine
end

