-- ==== Sys2Proof/Laws/WithinTimers.lean ====
section
/-! SUPPORT. What each operation of Machine/Timers.lean can change: one lemma per operation (see Laws/WithinOps.lean). -/
namespace Sys2Proof.Machine
set_option Elab.async false

set_option linter.unusedVariables false
set_option linter.unusedSimpArgs false

variable {P : Part → Prop} {R : Reg → Prop} {s0 s t : State}

theorem updTimer_within (h : Within P R s0 s) (p_timers : P .timers) : Within P R s0 (updTimer x1 x2 s) := by
  unfold updTimer; try dsimp only
  repeat' first
    | with_reducible assumption | with_reducible refine within_pair ?_ (by assumption) | split
    | (simp only [within_mk]
       refine WithinMk.intro ?_ rfl rfl rfl rfl (h_timers := .inl p_timers))

theorem timerFlag_within (h : Within P R s0 s) (p_safety : P .safety) (p_ic : P .ic) (p_tw : P .tw)
    (r_tm_STAT : R (.tm .STAT)) : Within P R s0 (timerFlag x1 x2 s) := by
  unfold timerFlag; try dsimp only
  repeat' first
    | with_reducible assumption | with_reducible refine State.orReg_within ?_ p_safety p_ic p_tw (by assumption)

theorem outAction_within (h : Within P R s0 s) (r_tm_OUT : R (.tm .OUT)) : Within P R s0 (outAction x1 x2 s) := by
  unfold outAction; try dsimp only
  repeat' first
    | with_reducible assumption | with_reducible refine State.setReg_within ?_ (by assumption)
    | with_reducible refine within_pair ?_ (by assumption) | split

theorem fireA_within (h : Within P R s0 s) (p_safety : P .safety) (p_router : P .router) (p_timers : P .timers)
    (p_ic : P .ic) (p_tw : P .tw) (r_tm_STAT : R (.tm .STAT)) (r_tm_OUT : R (.tm .OUT)) : Within P R s0 (fireA x1 s) := by
  unfold fireA; try dsimp only
  repeat' first
    | with_reducible assumption | with_reducible refine timerFlag_within ?_ p_safety p_ic p_tw r_tm_STAT
    | with_reducible refine publish_within ?_ p_router | with_reducible refine outAction_within ?_ r_tm_OUT
    | with_reducible refine updTimer_within ?_ p_timers

theorem fireB_within (h : Within P R s0 s) (p_safety : P .safety) (p_router : P .router) (p_timers : P .timers)
    (p_ic : P .ic) (p_tw : P .tw) (r_tm_STAT : R (.tm .STAT)) (r_tm_OUT : R (.tm .OUT)) : Within P R s0 (fireB x1 s) := by
  unfold fireB; try dsimp only
  repeat' first
    | with_reducible assumption | with_reducible refine timerFlag_within ?_ p_safety p_ic p_tw r_tm_STAT
    | with_reducible refine publish_within ?_ p_router | with_reducible refine outAction_within ?_ r_tm_OUT
    | with_reducible refine updTimer_within ?_ p_timers

theorem judgeA_within (h : Within P R s0 s) (p_safety : P .safety) (p_router : P .router) (p_timers : P .timers)
    (p_ic : P .ic) (p_tw : P .tw) (r_tm_STAT : R (.tm .STAT)) (r_tm_OUT : R (.tm .OUT)) : Within P R s0 (judgeA x1 s) := by
  unfold judgeA; try dsimp only
  repeat' first
    | with_reducible assumption | with_reducible refine timerFlag_within ?_ p_safety p_ic p_tw r_tm_STAT
    | with_reducible refine fireA_within ?_ p_safety p_router p_timers p_ic p_tw r_tm_STAT r_tm_OUT
    | with_reducible refine within_pair ?_ (by assumption) | split

theorem judgeB_within (h : Within P R s0 s) (p_safety : P .safety) (p_router : P .router) (p_timers : P .timers)
    (p_ic : P .ic) (p_tw : P .tw) (r_tm_STAT : R (.tm .STAT)) (r_tm_OUT : R (.tm .OUT)) : Within P R s0 (judgeB x1 s) := by
  unfold judgeB; try dsimp only
  repeat' first
    | with_reducible assumption | with_reducible refine timerFlag_within ?_ p_safety p_ic p_tw r_tm_STAT
    | with_reducible refine fireB_within ?_ p_safety p_router p_timers p_ic p_tw r_tm_STAT r_tm_OUT
    | with_reducible refine within_pair ?_ (by assumption) | split

theorem takeReload_within (h : Within P R s0 s) (p_safety : P .safety) (p_timers : P .timers) (p_ic : P .ic)
    (p_tw : P .tw) (r_tm_STAT : R (.tm .STAT)) : Within P R s0 (takeReload x1 x2 s) := by
  unfold takeReload; try dsimp only
  repeat' first
    | with_reducible assumption | with_reducible refine timerFlag_within ?_ p_safety p_ic p_tw r_tm_STAT
    | with_reducible refine updTimer_within ?_ p_timers | with_reducible refine within_pair ?_ (by assumption)
    | split

theorem applyPending_within (h : Within P R s0 s) (p_safety : P .safety) (p_timers : P .timers) (p_ic : P .ic)
    (p_tw : P .tw) (r_tm_STAT : R (.tm .STAT)) : Within P R s0 (applyPending x1 s) := by
  unfold applyPending; try dsimp only
  repeat' first
    | with_reducible assumption | with_reducible refine takeReload_within ?_ p_safety p_timers p_ic p_tw r_tm_STAT
    | with_reducible refine within_pair ?_ (by assumption) | split

theorem timerClear_within (h : Within P R s0 s) (p_safety : P .safety) (p_timers : P .timers) (p_ic : P .ic)
    (p_tw : P .tw) (r_tm_STAT : R (.tm .STAT)) : Within P R s0 (timerClear x1 s) := by
  unfold timerClear; try dsimp only
  repeat' first
    | with_reducible assumption | with_reducible refine applyPending_within ?_ p_safety p_timers p_ic p_tw r_tm_STAT
    | with_reducible refine updTimer_within ?_ p_timers

theorem timerStart_within (h : Within P R s0 s) (p_safety : P .safety) (p_router : P .router) (p_timers : P .timers)
    (p_ic : P .ic) (p_tw : P .tw) (r_tm_STAT : R (.tm .STAT)) (r_tm_OUT : R (.tm .OUT)) : Within P R s0 (timerStart x1
    s) := by
  unfold timerStart; try dsimp only
  repeat' first
    | with_reducible assumption
    | with_reducible refine judgeA_within ?_ p_safety p_router p_timers p_ic p_tw r_tm_STAT r_tm_OUT
    | with_reducible refine judgeB_within ?_ p_safety p_router p_timers p_ic p_tw r_tm_STAT r_tm_OUT
    | with_reducible refine outAction_within ?_ r_tm_OUT | with_reducible refine updTimer_within ?_ p_timers
    | with_reducible refine within_pair ?_ (by assumption) | split

theorem timerStop_within (h : Within P R s0 s) (p_timers : P .timers) (r_tm_OUT : R (.tm .OUT)) : Within P R s0
    (timerStop x1 s) := by
  unfold timerStop; try dsimp only
  repeat' first
    | with_reducible assumption | with_reducible refine outAction_within ?_ r_tm_OUT
    | with_reducible refine updTimer_within ?_ p_timers | with_reducible refine within_pair ?_ (by assumption)
    | split

theorem timerCapture_within (h : Within P R s0 s) (p_safety : P .safety) (p_timers : P .timers) (p_ic : P .ic)
    (p_tw : P .tw) (r_tm_CAP : R (.tm .CAP)) (r_tm_STAT : R (.tm .STAT)) : Within P R s0 (timerCapture x1 s) := by
  unfold timerCapture; try dsimp only
  repeat' first
    | with_reducible assumption | with_reducible refine State.setReg_within ?_ (by assumption)
    | with_reducible refine timerFlag_within ?_ p_safety p_ic p_tw r_tm_STAT
    | with_reducible refine updTimer_within ?_ p_timers | with_reducible refine within_pair ?_ (by assumption)
    | split

theorem timerWrapCore_within (h : Within P R s0 s) (p_safety : P .safety) (p_router : P .router)
    (p_timers : P .timers) (p_ic : P .ic) (p_tw : P .tw) (r_tm_STAT : R (.tm .STAT)) (r_tm_OUT : R (.tm .OUT)) :
    Within P R s0 (timerWrapCore x1 s) := by
  unfold timerWrapCore; try dsimp only
  repeat' first
    | with_reducible assumption | with_reducible refine timerFlag_within ?_ p_safety p_ic p_tw r_tm_STAT
    | with_reducible refine fireB_within ?_ p_safety p_router p_timers p_ic p_tw r_tm_STAT r_tm_OUT
    | with_reducible refine applyPending_within ?_ p_safety p_timers p_ic p_tw r_tm_STAT
    | with_reducible refine fireA_within ?_ p_safety p_router p_timers p_ic p_tw r_tm_STAT r_tm_OUT
    | with_reducible refine publish_within ?_ p_router | with_reducible refine outAction_within ?_ r_tm_OUT
    | with_reducible refine updTimer_within ?_ p_timers | with_reducible refine within_pair ?_ (by assumption)
    | split

theorem matchCompares_within (h : Within P R s0 s) (p_safety : P .safety) (p_router : P .router)
    (p_timers : P .timers) (p_ic : P .ic) (p_tw : P .tw) (r_tm_STAT : R (.tm .STAT)) (r_tm_OUT : R (.tm .OUT)) :
    Within P R s0 (matchCompares x1 s) := by
  unfold matchCompares; try dsimp only
  repeat' first
    | with_reducible assumption
    | with_reducible refine fireB_within ?_ p_safety p_router p_timers p_ic p_tw r_tm_STAT r_tm_OUT
    | with_reducible refine fireA_within ?_ p_safety p_router p_timers p_ic p_tw r_tm_STAT r_tm_OUT
    | with_reducible refine within_pair ?_ (by assumption) | split

theorem timerCountUp_within (h : Within P R s0 s) (p_timers : P .timers) : Within P R s0 (timerCountUp x1 s) := by
  unfold timerCountUp; try dsimp only
  repeat' first
    | with_reducible assumption | with_reducible refine updTimer_within ?_ p_timers

end Sys2Proof.Machine
end

