-- ==== Sys2Proof/Laws/WithinDrawbar.lean ====
section
/-! SUPPORT. What each operation of Machine/Drawbar.lean can change: one lemma per operation (see Laws/WithinOps.lean). -/
namespace Sys2Proof.Machine
set_option Elab.async false

set_option linter.unusedVariables false
set_option linter.unusedSimpArgs false

variable {P : Part → Prop} {R : Reg → Prop} {s0 s t : State}

theorem updBus_within (h : Within P R s0 s) (p_drawbar : P .drawbar) : Within P R s0 (updBus x1 x2 s) := by
  unfold updBus; try dsimp only
  repeat' first
    | with_reducible assumption | with_reducible refine within_pair ?_ (by assumption) | split
    | (simp only [within_mk]
       refine WithinMk.intro ?_ rfl rfl rfl rfl (h_drawbar := .inl p_drawbar))

theorem updPhy_within (h : Within P R s0 s) (p_drawbar : P .drawbar) : Within P R s0 (updPhy x1 x2 s) := by
  unfold updPhy; try dsimp only
  repeat' first
    | with_reducible assumption | with_reducible refine updBus_within ?_ p_drawbar

theorem updAct_within (h : Within P R s0 s) (p_drawbar : P .drawbar) : Within P R s0 (updAct x1 x2 x3 s) := by
  unfold updAct; try dsimp only
  repeat' first
    | with_reducible assumption | with_reducible refine updBus_within ?_ p_drawbar

theorem lstat_within (h : Within P R s0 s) (p_safety : P .safety) (p_ic : P .ic) (p_tw : P .tw)
    (r_db_LSTAT : R (.db .LSTAT)) : Within P R s0 (lstat x1 x2 s) := by
  unfold lstat; try dsimp only
  repeat' first
    | with_reducible assumption | with_reducible refine State.orReg_within ?_ p_safety p_ic p_tw (by assumption)

theorem toListen_within (h : Within P R s0 s) (p_drawbar : P .drawbar) : Within P R s0 (toListen x1 s) := by
  unfold toListen; try dsimp only
  repeat' first
    | with_reducible assumption | with_reducible refine updPhy_within ?_ p_drawbar

theorem candidateFound_within (h : Within P R s0 s) (p_drawbar : P .drawbar) (r_db_CNT : R (.db .CNT)) : Within P R s0
    (candidateFound x1 x2 x3 s) := by
  unfold candidateFound; try dsimp only
  repeat' first
    | with_reducible assumption | with_reducible refine State.countFld_within ?_ (by assumption)
    | with_reducible refine updBus_within ?_ p_drawbar | with_reducible refine within_pair ?_ (by assumption) | split

theorem enterHeader_within (h : Within P R s0 s) (p_drawbar : P .drawbar) (r_db_CNT : R (.db .CNT))
    (r_db_RXLEVEL : R (.db .RXLEVEL)) : Within P R s0 (enterHeader x1 x2 x3 s) := by
  unfold enterHeader; try dsimp only
  repeat' first
    | with_reducible assumption | with_reducible refine State.setFld_within ?_ (by assumption)
    | with_reducible refine State.countFld_within ?_ (by assumption)
    | with_reducible refine updPhy_within ?_ p_drawbar

theorem syncDeadline_within (h : Within P R s0 s) (p_drawbar : P .drawbar) (r_db_CNT : R (.db .CNT)) : Within P R s0
    (syncDeadline x1 s) := by
  unfold syncDeadline; try dsimp only
  repeat' first
    | with_reducible assumption | with_reducible refine State.countFld_within ?_ (by assumption)
    | with_reducible refine toListen_within ?_ p_drawbar | with_reducible refine within_pair ?_ (by assumption)
    | split

theorem commit_within (h : Within P R s0 s) (p_safety : P .safety) (p_drawbar : P .drawbar) (p_ic : P .ic)
    (p_tw : P .tw) (r_db_LSTAT : R (.db .LSTAT)) : Within P R s0 (commit x1 x2 x3 x4 x5 x6 x7 s) := by
  unfold commit; try dsimp only
  repeat' first
    | with_reducible assumption | with_reducible refine almanac_within ?_ p_safety
    | with_reducible refine updAct_within ?_ p_drawbar
    | with_reducible refine lstat_within ?_ p_safety p_ic p_tw r_db_LSTAT
    | with_reducible refine within_pair ?_ (by assumption) | split

theorem slotCommit_within (h : Within P R s0 s) (p_safety : P .safety) (p_drawbar : P .drawbar) (p_ic : P .ic)
    (p_tw : P .tw) (r_db_LSTAT : R (.db .LSTAT)) : Within P R s0 (slotCommit x1 x2 x3 x4 s) := by
  unfold slotCommit; try dsimp only
  repeat' first
    | with_reducible assumption | with_reducible refine commit_within ?_ p_safety p_drawbar p_ic p_tw r_db_LSTAT

theorem storedTrigger_within (h : Within P R s0 s) (p_safety : P .safety) (p_drawbar : P .drawbar) (p_ic : P .ic)
    (p_tw : P .tw) (r_db_LSTAT : R (.db .LSTAT)) : Within P R s0 (storedTrigger x1 x2 s) := by
  unfold storedTrigger; try dsimp only
  repeat' first
    | with_reducible assumption | with_reducible refine commit_within ?_ p_safety p_drawbar p_ic p_tw r_db_LSTAT
    | with_reducible refine within_pair ?_ (by assumption) | split

theorem slotBoundary_within (h : Within P R s0 s) (p_safety : P .safety) (p_drawbar : P .drawbar) (p_ic : P .ic)
    (p_tw : P .tw) (r_db_LSTAT : R (.db .LSTAT)) : Within P R s0 (slotBoundary x1 s) := by
  unfold slotBoundary; try dsimp only
  repeat' first
    | with_reducible assumption | with_reducible refine updBus_within ?_ p_drawbar
    | with_reducible refine lstat_within ?_ p_safety p_ic p_tw r_db_LSTAT
    | with_reducible refine within_pair ?_ (by assumption) | split

theorem wrapBoundaries_within (h : Within P R s0 s) (p_safety : P .safety) (p_drawbar : P .drawbar) (p_ic : P .ic)
    (p_tw : P .tw) (r_db_LSTAT : R (.db .LSTAT)) : Within P R s0 (wrapBoundaries x1 s) := by
  unfold wrapBoundaries; try dsimp only
  repeat' first
    | with_reducible assumption
    | with_reducible refine slotBoundary_within ?_ p_safety p_drawbar p_ic p_tw r_db_LSTAT
    | with_reducible refine within_foldl (fun _ _ h => ?_) ?_
    | with_reducible refine within_foldl_snd (fun _ _ h => ?_) ?_
    | with_reducible refine within_foldl_fst (fun _ _ h => ?_) ?_
    | with_reducible refine within_pair ?_ (by assumption) | split

theorem timerWrap_within (h : Within P R s0 s) (p_safety : P .safety) (p_router : P .router) (p_timers : P .timers)
    (p_drawbar : P .drawbar) (p_ic : P .ic) (p_tw : P .tw) (r_db_LSTAT : R (.db .LSTAT)) (r_tm_STAT : R (.tm .STAT))
    (r_tm_OUT : R (.tm .OUT)) : Within P R s0 (timerWrap x1 s) := by
  unfold timerWrap; try dsimp only
  repeat' first
    | with_reducible assumption
    | with_reducible refine timerWrapCore_within ?_ p_safety p_router p_timers p_ic p_tw r_tm_STAT r_tm_OUT
    | with_reducible refine wrapBoundaries_within ?_ p_safety p_drawbar p_ic p_tw r_db_LSTAT

theorem countEdge_within (h : Within P R s0 s) (p_safety : P .safety) (p_router : P .router) (p_timers : P .timers)
    (p_drawbar : P .drawbar) (p_ic : P .ic) (p_tw : P .tw) (r_db_LSTAT : R (.db .LSTAT)) (r_tm_STAT : R (.tm .STAT))
    (r_tm_OUT : R (.tm .OUT)) : Within P R s0 (countEdge x1 s) := by
  unfold countEdge; try dsimp only
  repeat' first
    | with_reducible assumption
    | with_reducible refine matchCompares_within ?_ p_safety p_router p_timers p_ic p_tw r_tm_STAT r_tm_OUT
    | with_reducible refine timerWrap_within ?_ p_safety p_router p_timers p_drawbar p_ic p_tw
                        r_db_LSTAT r_tm_STAT r_tm_OUT
    | with_reducible refine timerCountUp_within ?_ p_timers | with_reducible refine within_pair ?_ (by assumption)
    | split

theorem timerCountEvent_within (h : Within P R s0 s) (p_safety : P .safety) (p_router : P .router)
    (p_timers : P .timers) (p_drawbar : P .drawbar) (p_ic : P .ic) (p_tw : P .tw) (r_db_LSTAT : R (.db .LSTAT))
    (r_tm_STAT : R (.tm .STAT)) (r_tm_OUT : R (.tm .OUT)) : Within P R s0 (timerCountEvent x1 s) := by
  unfold timerCountEvent; try dsimp only
  repeat' first
    | with_reducible assumption
    | with_reducible refine countEdge_within ?_ p_safety p_router p_timers p_drawbar p_ic p_tw
                        r_db_LSTAT r_tm_STAT r_tm_OUT
    | with_reducible refine updTimer_within ?_ p_timers | with_reducible refine within_pair ?_ (by assumption)
    | split

theorem recordSent_within (h : Within P R s0 s) (p_merger : P .merger) : Within P R s0 (recordSent x1 x2 x3 s) := by
  unfold recordSent; try dsimp only
  repeat' first
    | with_reducible assumption | with_reducible refine emit_within ?_ p_merger
    | with_reducible refine within_pair ?_ (by assumption) | split

theorem transmit_within (h : Within P R s0 s) (p_drawbar : P .drawbar) (r_db_CNT : R (.db .CNT)) : Within P R s0
    (transmit x1 x2 x3 s) := by
  unfold transmit; try dsimp only
  repeat' first
    | with_reducible assumption | with_reducible refine State.countFld_within ?_ (by assumption)
    | with_reducible refine updPhy_within ?_ p_drawbar | with_reducible refine within_pair ?_ (by assumption) | split

theorem sendPacket_within (h : Within P R s0 s) (p_merger : P .merger) (p_drawbar : P .drawbar)
    (r_db_CNT : R (.db .CNT)) : Within P R s0 (sendPacket x1 x2 x3 s) := by
  unfold sendPacket; try dsimp only
  repeat' first
    | with_reducible assumption | with_reducible refine recordSent_within ?_ p_merger
    | with_reducible refine transmit_within ?_ p_drawbar r_db_CNT | with_reducible refine updBus_within ?_ p_drawbar
    | with_reducible refine within_pair ?_ (by assumption) | split

theorem startCommand_within (h : Within P R s0 s) (p_merger : P .merger) (p_drawbar : P .drawbar)
    (r_db_CNT : R (.db .CNT)) : Within P R s0 (startCommand x1 x2 s) := by
  unfold startCommand; try dsimp only
  repeat' first
    | with_reducible assumption | with_reducible refine sendPacket_within ?_ p_merger p_drawbar r_db_CNT
    | with_reducible refine updAct_within ?_ p_drawbar | with_reducible refine updBus_within ?_ p_drawbar
    | with_reducible refine within_pair ?_ (by assumption) | split

theorem startPoll_within (h : Within P R s0 s) (p_merger : P .merger) (p_drawbar : P .drawbar)
    (r_db_CNT : R (.db .CNT)) : Within P R s0 (startPoll x1 x2 s) := by
  unfold startPoll; try dsimp only
  repeat' first
    | with_reducible assumption | with_reducible refine sendPacket_within ?_ p_merger p_drawbar r_db_CNT
    | with_reducible refine State.free_within ?_ | with_reducible refine updAct_within ?_ p_drawbar

theorem linkPacket_within (h : Within P R s0 s) (p_merger : P .merger) (p_drawbar : P .drawbar)
    (r_db_CNT : R (.db .CNT)) : Within P R s0 (linkPacket x1 x2 x3 x4 x5 x6 x7 s) := by
  unfold linkPacket; try dsimp only
  repeat' first
    | with_reducible assumption | with_reducible refine sendPacket_within ?_ p_merger p_drawbar r_db_CNT

theorem linkLost_within (h : Within P R s0 s) (p_merger : P .merger) (p_safety : P .safety) (p_router : P .router)
    (p_ic : P .ic) (p_tw : P .tw) (r_db_LSTAT : R (.db .LSTAT)) (r_db_LOST : R (.db .LOST)) : Within P R s0 (linkLost
    x1 x2 x3 x4 x5 x6 s) := by
  unfold linkLost; try dsimp only
  repeat' first
    | with_reducible assumption | with_reducible refine State.orReg_within ?_ p_safety p_ic p_tw (by assumption)
    | with_reducible refine publish_within ?_ p_router | with_reducible refine emit_within ?_ p_merger
    | with_reducible refine lstat_within ?_ p_safety p_ic p_tw r_db_LSTAT
    | with_reducible refine within_pair ?_ (by assumption) | split

theorem assignUnsent_within (h : Within P R s0 s) (p_merger : P .merger) (p_safety : P .safety) (p_router : P .router)
    (p_drawbar : P .drawbar) (p_ic : P .ic) (p_tw : P .tw) (r_db_LSTAT : R (.db .LSTAT)) (r_db_LOST : R (.db .LOST)) :
    Within P R s0 (assignUnsent x1 x2 s) := by
  unfold assignUnsent; try dsimp only
  repeat' first
    | with_reducible assumption | with_reducible refine updBus_within ?_ p_drawbar
    | with_reducible refine linkLost_within ?_ p_merger p_safety p_router p_ic p_tw r_db_LSTAT r_db_LOST
    | with_reducible refine within_pair ?_ (by assumption) | split

theorem startWork_within (h : Within P R s0 s) (p_merger : P .merger) (p_safety : P .safety) (p_router : P .router)
    (p_drawbar : P .drawbar) (p_ic : P .ic) (p_tw : P .tw) (r_db_CNT : R (.db .CNT)) (r_db_LSTAT : R (.db .LSTAT))
    (r_db_LOST : R (.db .LOST)) : Within P R s0 (startWork x1 x2 s) := by
  unfold startWork; try dsimp only
  repeat' first
    | with_reducible assumption | with_reducible refine linkPacket_within ?_ p_merger p_drawbar r_db_CNT
    | with_reducible refine State.free_within ?_
    | with_reducible refine assignUnsent_within ?_ p_merger p_safety p_router p_drawbar p_ic
                        p_tw r_db_LSTAT r_db_LOST
    | with_reducible refine updBus_within ?_ p_drawbar
    | with_reducible refine startPoll_within ?_ p_merger p_drawbar r_db_CNT
    | with_reducible refine startCommand_within ?_ p_merger p_drawbar r_db_CNT
    | with_reducible refine within_pair ?_ (by assumption) | split

theorem endExchange_within (h : Within P R s0 s) (p_drawbar : P .drawbar) : Within P R s0 (endExchange x1 s) := by
  unfold endExchange; try dsimp only
  repeat' first
    | with_reducible assumption | with_reducible refine updBus_within ?_ p_drawbar

theorem mkAssign_within (h : Within P R s0 s) : Within P R s0 (mkAssign x1 x2 x3 x4 s).2 := by
  unfold mkAssign; try dsimp only
  repeat' first
    | with_reducible assumption | with_reducible refine State.free_within ?_

theorem countMiss_within (h : Within P R s0 s) (p_safety : P .safety) (p_drawbar : P .drawbar)
    (r_db_ACNT : R (.db .ACNT)) : Within P R s0 (countMiss x1 x2 s) := by
  unfold countMiss; try dsimp only
  repeat' first
    | with_reducible assumption | with_reducible refine almanac_within ?_ p_safety
    | with_reducible refine State.countFld_within ?_ (by assumption) | with_reducible refine mkAssign_within ?_
    | with_reducible refine updAct_within ?_ p_drawbar | with_reducible refine updBus_within ?_ p_drawbar
    | with_reducible refine within_pair ?_ (by assumption) | split

theorem walkPop_within (h : Within P R s0 s) (p_drawbar : P .drawbar) : Within P R s0 (walkPop x1 s) := by
  unfold walkPop; try dsimp only
  repeat' first
    | with_reducible assumption | with_reducible refine updBus_within ?_ p_drawbar

theorem walkSplit_within (h : Within P R s0 s) (p_drawbar : P .drawbar) : Within P R s0 (walkSplit x1 x2 x3 s) := by
  unfold walkSplit; try dsimp only
  repeat' first
    | with_reducible assumption | with_reducible refine walkPop_within ?_ p_drawbar
    | with_reducible refine updBus_within ?_ p_drawbar | with_reducible refine within_pair ?_ (by assumption) | split

theorem failTry_within (h : Within P R s0 s) (p_merger : P .merger) (p_safety : P .safety) (p_router : P .router)
    (p_drawbar : P .drawbar) (p_ic : P .ic) (p_tw : P .tw) (r_db_ACNT : R (.db .ACNT)) (r_db_LSTAT : R (.db .LSTAT))
    (r_db_LOST : R (.db .LOST)) : Within P R s0 (failTry x1 x2 s) := by
  unfold failTry; try dsimp only
  repeat' first
    | with_reducible assumption | with_reducible refine walkSplit_within ?_ p_drawbar
    | with_reducible refine updAct_within ?_ p_drawbar | with_reducible refine walkPop_within ?_ p_drawbar
    | with_reducible refine endExchange_within ?_ p_drawbar | with_reducible refine updBus_within ?_ p_drawbar
    | with_reducible refine linkLost_within ?_ p_merger p_safety p_router p_ic p_tw r_db_LSTAT r_db_LOST
    | with_reducible refine countMiss_within ?_ p_safety p_drawbar r_db_ACNT
    | with_reducible refine within_pair ?_ (by assumption) | split

theorem enumReply_within (h : Within P R s0 s) (p_safety : P .safety) (p_drawbar : P .drawbar) (p_ic : P .ic)
    (p_tw : P .tw) (r_db_LSTAT : R (.db .LSTAT)) (r_db_AUID : R (.db .AUID)) : Within P R s0 (enumReply x1 x2 x3 s) := by
  unfold enumReply; try dsimp only
  repeat' first
    | with_reducible assumption | with_reducible refine State.setReg_within ?_ (by assumption)
    | with_reducible refine almanac_within ?_ p_safety | with_reducible refine mkAssign_within ?_
    | with_reducible refine updAct_within ?_ p_drawbar | with_reducible refine walkPop_within ?_ p_drawbar
    | with_reducible refine updBus_within ?_ p_drawbar
    | with_reducible refine lstat_within ?_ p_safety p_ic p_tw r_db_LSTAT
    | with_reducible refine within_pair ?_ (by assumption) | split

theorem assignDone_within (h : Within P R s0 s) (p_safety : P .safety) (p_drawbar : P .drawbar) : Within P R s0
    (assignDone x1 s) := by
  unfold assignDone; try dsimp only
  repeat' first
    | with_reducible assumption | with_reducible refine almanac_within ?_ p_safety
    | with_reducible refine updAct_within ?_ p_drawbar | with_reducible refine updBus_within ?_ p_drawbar
    | with_reducible refine within_pair ?_ (by assumption) | split

theorem broadcastDone_within (h : Within P R s0 s) (p_drawbar : P .drawbar) : Within P R s0 (broadcastDone x1 x2 s) := by
  unfold broadcastDone; try dsimp only
  repeat' first
    | with_reducible assumption | with_reducible refine updAct_within ?_ p_drawbar
    | with_reducible refine endExchange_within ?_ p_drawbar | with_reducible refine within_pair ?_ (by assumption)
    | split

theorem transmissionEnd_within (h : Within P R s0 s) (p_drawbar : P .drawbar) : Within P R s0 (transmissionEnd x1 s) := by
  unfold transmissionEnd; try dsimp only
  repeat' first
    | with_reducible assumption | with_reducible refine updPhy_within ?_ p_drawbar
    | with_reducible refine broadcastDone_within ?_ p_drawbar | with_reducible refine updBus_within ?_ p_drawbar
    | with_reducible refine within_pair ?_ (by assumption) | split

theorem recordRx_within (h : Within P R s0 s) (p_merger : P .merger) : Within P R s0 (recordRx x1 x2 x3 s) := by
  unfold recordRx; try dsimp only
  repeat' first
    | with_reducible assumption | with_reducible refine emit_within ?_ p_merger
    | with_reducible refine within_pair ?_ (by assumption) | split

theorem acceptPacket_within (h : Within P R s0 s) (p_merger : P .merger) (p_router : P .router)
    (p_drawbar : P .drawbar) : Within P R s0 (acceptPacket x1 x2 x3 s) := by
  unfold acceptPacket; try dsimp only
  repeat' first
    | with_reducible assumption | with_reducible refine recordRx_within ?_ p_merger
    | with_reducible refine updAct_within ?_ p_drawbar | with_reducible refine publish_within ?_ p_router
    | with_reducible refine within_pair ?_ (by assumption) | split

theorem validAnswer_within (h : Within P R s0 s) (p_drawbar : P .drawbar) : Within P R s0 (validAnswer x1 x2 s) := by
  unfold validAnswer; try dsimp only
  repeat' first
    | with_reducible assumption | with_reducible refine updAct_within ?_ p_drawbar

theorem acceptAlarm_within (h : Within P R s0 s) (p_safety : P .safety) (p_router : P .router)
    (p_drawbar : P .drawbar) (p_ic : P .ic) (p_tw : P .tw) (r_db_LSTAT : R (.db .LSTAT)) (r_db_ALARM : R (.db .ALARM))
    : Within P R s0 (acceptAlarm x1 x2 s) := by
  unfold acceptAlarm; try dsimp only
  repeat' first
    | with_reducible assumption | with_reducible refine updAct_within ?_ p_drawbar
    | with_reducible refine State.orReg_within ?_ p_safety p_ic p_tw (by assumption)
    | with_reducible refine publish_within ?_ p_router | with_reducible refine updBus_within ?_ p_drawbar
    | with_reducible refine lstat_within ?_ p_safety p_ic p_tw r_db_LSTAT
    | with_reducible refine within_pair ?_ (by assumption) | split

theorem answerDone_within (h : Within P R s0 s) (p_safety : P .safety) (p_drawbar : P .drawbar) (p_ic : P .ic)
    (p_tw : P .tw) (r_db_LSTAT : R (.db .LSTAT)) (r_db_AUID : R (.db .AUID)) : Within P R s0 (answerDone x1 x2 x3 s) := by
  unfold answerDone; try dsimp only
  repeat' first
    | with_reducible assumption | with_reducible refine updAct_within ?_ p_drawbar
    | with_reducible refine endExchange_within ?_ p_drawbar
    | with_reducible refine assignDone_within ?_ p_safety p_drawbar
    | with_reducible refine enumReply_within ?_ p_safety p_drawbar p_ic p_tw r_db_LSTAT r_db_AUID
    | with_reducible refine validAnswer_within ?_ p_drawbar | with_reducible refine within_pair ?_ (by assumption)
    | split

theorem receivePacket_within (h : Within P R s0 s) (p_merger : P .merger) (p_safety : P .safety)
    (p_router : P .router) (p_drawbar : P .drawbar) (p_ic : P .ic) (p_tw : P .tw) (r_db_ACNT : R (.db .ACNT))
    (r_db_LSTAT : R (.db .LSTAT)) (r_db_LOST : R (.db .LOST)) (r_db_ALARM : R (.db .ALARM))
    (r_db_AUID : R (.db .AUID)) : Within P R s0 (receivePacket x1 x2 x3 x4 s) := by
  unfold receivePacket; try dsimp only
  repeat' first
    | with_reducible assumption
    | with_reducible refine acceptAlarm_within ?_ p_safety p_router p_drawbar p_ic p_tw r_db_LSTAT r_db_ALARM
    | with_reducible refine acceptPacket_within ?_ p_merger p_router p_drawbar
    | with_reducible refine State.countFld_within ?_ (by assumption)
    | with_reducible refine failTry_within ?_ p_merger p_safety p_router p_drawbar p_ic p_tw
                        r_db_ACNT r_db_LSTAT r_db_LOST
    | with_reducible refine answerDone_within ?_ p_safety p_drawbar p_ic p_tw r_db_LSTAT r_db_AUID
    | with_reducible refine within_pair ?_ (by assumption) | split

theorem takeWatch_within (h : Within P R s0 s) (p_drawbar : P .drawbar) : Within P R s0 (takeWatch x1 x2 s) := by
  unfold takeWatch; try dsimp only
  repeat' first
    | with_reducible assumption | with_reducible refine updPhy_within ?_ p_drawbar

theorem afterReception_within (h : Within P R s0 s) (p_drawbar : P .drawbar) : Within P R s0 (afterReception x1 s) := by
  unfold afterReception; try dsimp only
  repeat' first
    | with_reducible assumption | with_reducible refine takeWatch_within ?_ p_drawbar
    | with_reducible refine toListen_within ?_ p_drawbar | with_reducible refine within_pair ?_ (by assumption)
    | split

theorem phyEnable_within (h : Within P R s0 s) (p_drawbar : P .drawbar) : Within P R s0 (phyEnable x1 s) := by
  unfold phyEnable; try dsimp only
  repeat' first
    | with_reducible assumption | with_reducible refine toListen_within ?_ p_drawbar
    | with_reducible refine within_pair ?_ (by assumption) | split

theorem phyDisable_within (h : Within P R s0 s) (p_drawbar : P .drawbar) : Within P R s0 (phyDisable x1 s) := by
  unfold phyDisable; try dsimp only
  repeat' first
    | with_reducible assumption | with_reducible refine updPhy_within ?_ p_drawbar
    | with_reducible refine transmissionEnd_within ?_ p_drawbar

theorem writePhyCfg_within (h : Within P R s0 s) (p_drawbar : P .drawbar) (r_db_PHYCFG : R (.db .PHYCFG)) : Within P R
    s0 (writePhyCfg x1 x2 s) := by
  unfold writePhyCfg; try dsimp only
  repeat' first
    | with_reducible assumption | with_reducible refine updPhy_within ?_ p_drawbar
    | with_reducible refine State.plainWrite_within ?_ (by assumption)
    | with_reducible refine phyDisable_within ?_ p_drawbar | with_reducible refine phyEnable_within ?_ p_drawbar
    | with_reducible refine within_pair ?_ (by assumption) | split

theorem enumGo_within (h : Within P R s0 s) (p_drawbar : P .drawbar) : Within P R s0 (enumGo x1 s) := by
  unfold enumGo; try dsimp only
  repeat' first
    | with_reducible assumption | with_reducible refine updBus_within ?_ p_drawbar
    | with_reducible refine within_pair ?_ (by assumption) | split

theorem enumStop_within (h : Within P R s0 s) (p_drawbar : P .drawbar) : Within P R s0 (enumStop x1 s) := by
  unfold enumStop; try dsimp only
  repeat' first
    | with_reducible assumption | with_reducible refine updBus_within ?_ p_drawbar

theorem writeEnCtl_within (h : Within P R s0 s) (p_drawbar : P .drawbar) (r_db_ENCTL : R (.db .ENCTL)) : Within P R s0
    (writeEnCtl x1 x2 s) := by
  unfold writeEnCtl; try dsimp only
  repeat' first
    | with_reducible assumption | with_reducible refine State.setReg_within ?_ (by assumption)
    | with_reducible refine enumStop_within ?_ p_drawbar | with_reducible refine enumGo_within ?_ p_drawbar
    | with_reducible refine within_pair ?_ (by assumption) | split

theorem writeLCfg_within (h : Within P R s0 s) (p_drawbar : P .drawbar) (r_db_LCFG : R (.db .LCFG)) : Within P R s0
    (writeLCfg x1 x2 s) := by
  unfold writeLCfg; try dsimp only
  repeat' first
    | with_reducible assumption | with_reducible refine State.plainWrite_within ?_ (by assumption)
    | with_reducible refine updBus_within ?_ p_drawbar | with_reducible refine within_pair ?_ (by assumption) | split

theorem writeAuid_within (h : Within P R s0 s) (p_drawbar : P .drawbar) (r_db_AUID : R (.db .AUID)) : Within P R s0
    (writeAuid x1 x2 x3 s) := by
  unfold writeAuid; try dsimp only
  repeat' first
    | with_reducible assumption | with_reducible refine State.setReg_within ?_ (by assumption)
    | with_reducible refine updAct_within ?_ p_drawbar | with_reducible refine within_pair ?_ (by assumption) | split

theorem writeAcmdh_within (h : Within P R s0 s) (p_safety : P .safety) (p_drawbar : P .drawbar) (p_ic : P .ic)
    (p_tw : P .tw) (r_db_LSTAT : R (.db .LSTAT)) : Within P R s0 (writeAcmdh x1 x2 x3 s) := by
  unfold writeAcmdh; try dsimp only
  repeat' first
    | with_reducible assumption | with_reducible refine commit_within ?_ p_safety p_drawbar p_ic p_tw r_db_LSTAT
    | with_reducible refine lstat_within ?_ p_safety p_ic p_tw r_db_LSTAT
    | with_reducible refine within_pair ?_ (by assumption) | split

theorem readAr_within (h : Within P R s0 s) (r_db_AR : R (.db .AR)) : Within P R s0 (readAr x1 x2 x3 s).2 := by
  unfold readAr; try dsimp only
  repeat' first
    | with_reducible assumption | with_reducible refine State.setReg_within ?_ (by assumption)
    | with_reducible refine within_foldl (fun _ _ h => ?_) ?_
    | with_reducible refine within_foldl_snd (fun _ _ h => ?_) ?_
    | with_reducible refine within_foldl_fst (fun _ _ h => ?_) ?_
    | with_reducible refine within_pair ?_ (by assumption) | split

theorem dbRead_within (h : Within P R s0 s) (r_db_CNT : R (.db .CNT)) (r_db_AR : R (.db .AR))
    (r_db_ACNT : R (.db .ACNT)) : Within P R s0 (dbRead x1 x2 x3 x4 s).2 := by
  unfold dbRead; try dsimp only
  repeat' first
    | with_reducible assumption | with_reducible refine readAr_within ?_ r_db_AR
    | with_reducible refine State.readClear_within ?_ (by assumption)
    | with_reducible refine within_pair ?_ (by assumption) | split

theorem dbWrite_within (h : Within P R s0 s) (p_safety : P .safety) (p_drawbar : P .drawbar) (p_ic : P .ic)
    (p_tw : P .tw) (r_db_PHYCFG : R (.db .PHYCFG)) (r_db_RXCFG : R (.db .RXCFG)) (r_db_CAPCFG : R (.db .CAPCFG))
    (r_db_LSNCFG : R (.db .LSNCFG)) (r_db_PHYFLG : R (.db .PHYFLG)) (r_db_LCFG : R (.db .LCFG))
    (r_db_LSTAT : R (.db .LSTAT)) (r_db_ENCTL : R (.db .ENCTL)) (r_db_ALARM : R (.db .ALARM))
    (r_db_LOST : R (.db .LOST)) (r_db_TT : R (.db .TT)) (r_db_STCMD : R (.db .STCMD)) (r_db_ASEL : R (.db .ASEL))
    (r_db_AUID : R (.db .AUID)) (r_db_ACFG : R (.db .ACFG)) (r_db_ACMD : R (.db .ACMD)) : Within P R s0 (dbWrite x1 x2
    x3 x4 x5 s) := by
  unfold dbWrite; try dsimp only
  repeat' first
    | with_reducible assumption | with_reducible refine State.setReg_within ?_ (by assumption)
    | with_reducible refine writeEnCtl_within ?_ p_drawbar r_db_ENCTL
    | with_reducible refine writePhyCfg_within ?_ p_drawbar r_db_PHYCFG
    | with_reducible refine updPhy_within ?_ p_drawbar
    | with_reducible refine writeLCfg_within ?_ p_drawbar r_db_LCFG
    | with_reducible refine writeAcmdh_within ?_ p_safety p_drawbar p_ic p_tw r_db_LSTAT
    | with_reducible refine State.plainWrite_within ?_ (by assumption)
    | with_reducible refine writeAuid_within ?_ p_drawbar r_db_AUID
    | with_reducible refine within_pair ?_ (by assumption) | split

end Sys2Proof.Machine
end

