-- ==== Sys2Proof/Laws/WithinTimerRegs.lean ====
section
/-! SUPPORT. What each operation of Machine/TimerRegs.lean can change: one lemma per operation (see Laws/WithinOps.lean). -/
namespace Sys2Proof.Machine
set_option Elab.async false

set_option linter.unusedVariables false
set_option linter.unusedSimpArgs false

variable {P : Part → Prop} {R : Reg → Prop} {s0 s t : State}

theorem settle_within (h : Within P R s0 s) (p_safety : P .safety) (p_router : P .router) (p_timers : P .timers)
    (p_drawbar : P .drawbar) (p_ic : P .ic) (p_tw : P .tw) (r_db_LSTAT : R (.db .LSTAT)) (r_tm_STAT : R (.tm .STAT))
    (r_tm_OUT : R (.tm .OUT)) : Within P R s0 (settle x1 s) := by
  unfold settle; try dsimp only
  repeat' first
    | with_reducible assumption
    | with_reducible refine countEdge_within ?_ p_safety p_router p_timers p_drawbar p_ic p_tw
                        r_db_LSTAT r_tm_STAT r_tm_OUT
    | with_reducible refine updTimer_within ?_ p_timers | with_reducible refine within_pair ?_ (by assumption)
    | split

theorem writeCmpA_within (h : Within P R s0 s) (p_safety : P .safety) (p_router : P .router) (p_timers : P .timers)
    (p_drawbar : P .drawbar) (p_ic : P .ic) (p_tw : P .tw) (r_tm_STAT : R (.tm .STAT)) (r_tm_OUT : R (.tm .OUT))
    (r_tm_CMPA : R (.tm .CMPA)) (r_db_LSTAT : R (.db .LSTAT)) : Within P R s0 (writeCmpA x1 x2 s) := by
  unfold writeCmpA; try dsimp only
  repeat' first
    | with_reducible assumption | with_reducible refine State.setReg_within ?_ (by assumption)
    | with_reducible refine settle_within ?_ p_safety p_router p_timers p_drawbar p_ic p_tw
                        r_db_LSTAT r_tm_STAT r_tm_OUT
    | with_reducible refine judgeA_within ?_ p_safety p_router p_timers p_ic p_tw r_tm_STAT r_tm_OUT

theorem writeCmpB_within (h : Within P R s0 s) (p_safety : P .safety) (p_router : P .router) (p_timers : P .timers)
    (p_drawbar : P .drawbar) (p_ic : P .ic) (p_tw : P .tw) (r_tm_STAT : R (.tm .STAT)) (r_tm_OUT : R (.tm .OUT))
    (r_tm_CMPB : R (.tm .CMPB)) (r_db_LSTAT : R (.db .LSTAT)) : Within P R s0 (writeCmpB x1 x2 s) := by
  unfold writeCmpB; try dsimp only
  repeat' first
    | with_reducible assumption | with_reducible refine State.setReg_within ?_ (by assumption)
    | with_reducible refine settle_within ?_ p_safety p_router p_timers p_drawbar p_ic p_tw
                        r_db_LSTAT r_tm_STAT r_tm_OUT
    | with_reducible refine judgeB_within ?_ p_safety p_router p_timers p_ic p_tw r_tm_STAT r_tm_OUT

theorem writeReload_within (h : Within P R s0 s) (p_safety : P .safety) (p_router : P .router) (p_timers : P .timers)
    (p_drawbar : P .drawbar) (p_ic : P .ic) (p_tw : P .tw) (r_db_LSTAT : R (.db .LSTAT)) (r_tm_STAT : R (.tm .STAT))
    (r_tm_OUT : R (.tm .OUT)) (r_tm_RELOAD : R (.tm .RELOAD)) : Within P R s0 (writeReload x1 x2 s) := by
  unfold writeReload; try dsimp only
  repeat' first
    | with_reducible assumption | with_reducible refine State.setReg_within ?_ (by assumption)
    | with_reducible refine timerFlag_within ?_ p_safety p_ic p_tw r_tm_STAT
    | with_reducible refine settle_within ?_ p_safety p_router p_timers p_drawbar p_ic p_tw
                        r_db_LSTAT r_tm_STAT r_tm_OUT
    | with_reducible refine updTimer_within ?_ p_timers
    | with_reducible refine takeReload_within ?_ p_safety p_timers p_ic p_tw r_tm_STAT
    | with_reducible refine within_pair ?_ (by assumption) | split

theorem writeTmCmd_within (h : Within P R s0 s) (p_safety : P .safety) (p_router : P .router) (p_timers : P .timers)
    (p_drawbar : P .drawbar) (p_ic : P .ic) (p_tw : P .tw) (r_tm_STAT : R (.tm .STAT)) (r_tm_OUT : R (.tm .OUT))
    (r_tm_CAP : R (.tm .CAP)) (r_db_LSTAT : R (.db .LSTAT)) : Within P R s0 (writeTmCmd x1 x2 s) := by
  unfold writeTmCmd; try dsimp only
  repeat' first
    | with_reducible assumption
    | with_reducible refine timerCapture_within ?_ p_safety p_timers p_ic p_tw r_tm_CAP r_tm_STAT
    | with_reducible refine settle_within ?_ p_safety p_router p_timers p_drawbar p_ic p_tw
                        r_db_LSTAT r_tm_STAT r_tm_OUT
    | with_reducible refine timerClear_within ?_ p_safety p_timers p_ic p_tw r_tm_STAT
    | with_reducible refine timerStart_within ?_ p_safety p_router p_timers p_ic p_tw r_tm_STAT r_tm_OUT
    | with_reducible refine timerStop_within ?_ p_timers r_tm_OUT
    | with_reducible refine within_pair ?_ (by assumption) | split

theorem writeGStart_within (h : Within P R s0 s) (p_safety : P .safety) (p_router : P .router) (p_timers : P .timers)
    (p_ic : P .ic) (p_tw : P .tw) (r_tm_STAT : R (.tm .STAT)) (r_tm_OUT : R (.tm .OUT)) : Within P R s0 (writeGStart
    x1 s) := by
  unfold writeGStart; try dsimp only
  repeat' first
    | with_reducible assumption
    | with_reducible refine timerStart_within ?_ p_safety p_router p_timers p_ic p_tw r_tm_STAT r_tm_OUT
    | with_reducible refine within_foldl (fun _ _ h => ?_) ?_
    | with_reducible refine within_foldl_snd (fun _ _ h => ?_) ?_
    | with_reducible refine within_foldl_fst (fun _ _ h => ?_) ?_
    | with_reducible refine within_pair ?_ (by assumption) | split

theorem writeTmCfg_within (h : Within P R s0 s) (p_safety : P .safety) (p_ic : P .ic) (p_tw : P .tw)
    (r_tm_STAT : R (.tm .STAT)) (r_tm_CFG : R (.tm .CFG)) : Within P R s0 (writeTmCfg x1 x2 s) := by
  unfold writeTmCfg; try dsimp only
  repeat' first
    | with_reducible assumption | with_reducible refine timerFlag_within ?_ p_safety p_ic p_tw r_tm_STAT
    | with_reducible refine State.plainWrite_within ?_ (by assumption)
    | with_reducible refine within_pair ?_ (by assumption) | split

theorem writeTmCnt_within (h : Within P R s0 s) (p_safety : P .safety) (p_timers : P .timers) (p_ic : P .ic)
    (p_tw : P .tw) (r_tm_STAT : R (.tm .STAT)) : Within P R s0 (writeTmCnt x1 x2 s) := by
  unfold writeTmCnt; try dsimp only
  repeat' first
    | with_reducible assumption | with_reducible refine timerFlag_within ?_ p_safety p_ic p_tw r_tm_STAT
    | with_reducible refine updTimer_within ?_ p_timers | with_reducible refine within_pair ?_ (by assumption)
    | split

theorem readTmCap_within (h : Within P R s0 s) (p_timers : P .timers) : Within P R s0 (readTmCap x1 x2 s).2 := by
  unfold readTmCap; try dsimp only
  repeat' first
    | with_reducible assumption | with_reducible refine updTimer_within ?_ p_timers
    | with_reducible refine within_pair ?_ (by assumption) | split

theorem tmRead_within (h : Within P R s0 s) (p_timers : P .timers) (r_tm_CAPSTH : R (.tm .CAPSTH)) : Within P R s0
    (tmRead x1 x2 s).2 := by
  unfold tmRead; try dsimp only
  repeat' first
    | with_reducible assumption | with_reducible refine readTmCap_within ?_ p_timers
    | with_reducible refine snapshot_within ?_ (by assumption) | with_reducible refine within_pair ?_ (by assumption)
    | split

theorem tmWrite_within (h : Within P R s0 s) (p_safety : P .safety) (p_router : P .router) (p_timers : P .timers)
    (p_drawbar : P .drawbar) (p_ic : P .ic) (p_tw : P .tw) (r_tm_SEL : R (.tm .SEL)) (r_tm_STAT : R (.tm .STAT))
    (r_tm_OUT : R (.tm .OUT)) (r_tm_CAP : R (.tm .CAP)) (r_db_LSTAT : R (.db .LSTAT)) (r_tm_CFG : R (.tm .CFG))
    (r_tm_RELOAD : R (.tm .RELOAD)) (r_tm_CMPA : R (.tm .CMPA)) (r_tm_CMPB : R (.tm .CMPB)) (r_tm_IEN : R (.tm .IEN))
    : Within P R s0 (tmWrite x1 x2 x3 s) := by
  unfold tmWrite; try dsimp only
  repeat' first
    | with_reducible assumption | with_reducible refine writeTmCfg_within ?_ p_safety p_ic p_tw r_tm_STAT r_tm_CFG
    | with_reducible refine writeCmpA_within ?_ p_safety p_router p_timers p_drawbar p_ic p_tw
                        r_tm_STAT r_tm_OUT r_tm_CMPA r_db_LSTAT
    | with_reducible refine writeTmCmd_within ?_ p_safety p_router p_timers p_drawbar p_ic p_tw
                        r_tm_STAT r_tm_OUT r_tm_CAP r_db_LSTAT
    | with_reducible refine writeCmpB_within ?_ p_safety p_router p_timers p_drawbar p_ic p_tw
                        r_tm_STAT r_tm_OUT r_tm_CMPB r_db_LSTAT
    | with_reducible refine writeReload_within ?_ p_safety p_router p_timers p_drawbar p_ic p_tw
                        r_db_LSTAT r_tm_STAT r_tm_OUT r_tm_RELOAD
    | with_reducible refine writeSel_within ?_ (by assumption)
    | with_reducible refine State.plainWrite_within ?_ (by assumption)
    | with_reducible refine writeTmCnt_within ?_ p_safety p_timers p_ic p_tw r_tm_STAT
    | with_reducible refine writeGStart_within ?_ p_safety p_router p_timers p_ic p_tw r_tm_STAT r_tm_OUT
    | with_reducible refine within_pair ?_ (by assumption) | split

end Sys2Proof.Machine
end

