-- ==== Sys2Proof/Laws/WithinSlots.lean ====
section
/-! SUPPORT. What each operation of Machine/Slots.lean can change: one lemma per operation (see Laws/WithinOps.lean). -/
namespace Sys2Proof.Machine
set_option Elab.async false

set_option linter.unusedVariables false
set_option linter.unusedSimpArgs false

variable {P : Part → Prop} {R : Reg → Prop} {s0 s t : State}

theorem updSlot_within (h : Within P R s0 s) (p_slots : P .slots) : Within P R s0 (updSlot x1 x2 s) := by
  unfold updSlot; try dsimp only
  repeat' first
    | with_reducible assumption | with_reducible refine within_pair ?_ (by assumption) | split
    | (simp only [within_mk]
       refine WithinMk.intro ?_ rfl rfl rfl rfl (h_slots := .inl p_slots))

theorem dsFlag_within (h : Within P R s0 s) (p_safety : P .safety) (p_ic : P .ic) (p_tw : P .tw)
    (r_ds_STAT : R (.ds .STAT)) : Within P R s0 (dsFlag x1 x2 s) := by
  unfold dsFlag; try dsimp only
  repeat' first
    | with_reducible assumption | with_reducible refine State.orReg_within ?_ p_safety p_ic p_tw (by assumption)

theorem slotEvent_within (h : Within P R s0 s) (p_merger : P .merger) (p_safety : P .safety) (p_router : P .router)
    (p_ic : P .ic) (p_tw : P .tw) (r_ds_EVENTS : R (.ds .EVENTS)) : Within P R s0 (slotEvent x1 x2 x3 x4 x5 s) := by
  unfold slotEvent; try dsimp only
  repeat' first
    | with_reducible assumption | with_reducible refine State.orReg_within ?_ p_safety p_ic p_tw (by assumption)
    | with_reducible refine publish_within ?_ p_router | with_reducible refine emit_within ?_ p_merger
    | with_reducible refine within_pair ?_ (by assumption) | split

theorem slotMeasure_within (h : Within P R s0 s) (p_merger : P .merger) : Within P R s0 (slotMeasure x1 x2 x3 x4 x5 x6
    s) := by
  unfold slotMeasure; try dsimp only
  repeat' first
    | with_reducible assumption | with_reducible refine emit_within ?_ p_merger
    | with_reducible refine within_pair ?_ (by assumption) | split

theorem positionRecord_within (h : Within P R s0 s) (p_merger : P .merger) : Within P R s0 (positionRecord x1 x2 s) := by
  unfold positionRecord; try dsimp only
  repeat' first
    | with_reducible assumption | with_reducible refine slotMeasure_within ?_ p_merger

theorem slotOut_within (h : Within P R s0 s) (p_safety : P .safety) (p_router : P .router) (p_drawbar : P .drawbar)
    (p_ic : P .ic) (p_tw : P .tw) (r_db_LSTAT : R (.db .LSTAT)) : Within P R s0 (slotOut x1 x2 s) := by
  unfold slotOut; try dsimp only
  repeat' first
    | with_reducible assumption | with_reducible refine slotCommit_within ?_ p_safety p_drawbar p_ic p_tw r_db_LSTAT
    | with_reducible refine publish_within ?_ p_router | with_reducible refine within_pair ?_ (by assumption) | split

theorem slotSpeedOut_within (h : Within P R s0 s) (p_safety : P .safety) (p_router : P .router) (p_timers : P .timers)
    (p_drawbar : P .drawbar) (p_ic : P .ic) (p_tw : P .tw) (r_tm_STAT : R (.tm .STAT)) (r_tm_OUT : R (.tm .OUT))
    (r_tm_CMPA : R (.tm .CMPA)) (r_db_LSTAT : R (.db .LSTAT)) : Within P R s0 (slotSpeedOut x1 x2 s) := by
  unfold slotSpeedOut; try dsimp only
  repeat' first
    | with_reducible assumption
    | with_reducible refine writeCmpA_within ?_ p_safety p_router p_timers p_drawbar p_ic p_tw
                        r_tm_STAT r_tm_OUT r_tm_CMPA r_db_LSTAT
    | with_reducible refine slotCommit_within ?_ p_safety p_drawbar p_ic p_tw r_db_LSTAT
    | with_reducible refine within_pair ?_ (by assumption) | split

theorem movePos_within (h : Within P R s0 s) (p_slots : P .slots) : Within P R s0 (movePos x1 x2 s) := by
  unfold movePos; try dsimp only
  repeat' first
    | with_reducible assumption | with_reducible refine updSlot_within ?_ p_slots

theorem writePosition_within (h : Within P R s0 s) (p_slots : P .slots) : Within P R s0 (writePosition x1 x2 s) := by
  unfold writePosition; try dsimp only
  repeat' first
    | with_reducible assumption | with_reducible refine updSlot_within ?_ p_slots

theorem setDoubt_within (h : Within P R s0 s) (p_slots : P .slots) : Within P R s0 (setDoubt x1 s) := by
  unfold setDoubt; try dsimp only
  repeat' first
    | with_reducible assumption | with_reducible refine updSlot_within ?_ p_slots

theorem coastEst_within (h : Within P R s0 s) : Within P R s0 (coastEst x1 x2 x3 s).2 := by
  unfold coastEst; try dsimp only
  repeat' first
    | with_reducible assumption | with_reducible refine State.free_within ?_
    | with_reducible refine within_pair ?_ (by assumption) | split

theorem startDrive_within (h : Within P R s0 s) (p_slots : P .slots) : Within P R s0 (startDrive x1 x2 x3 s) := by
  unfold startDrive; try dsimp only
  repeat' first
    | with_reducible assumption | with_reducible refine updSlot_within ?_ p_slots

theorem enterCoast_within (h : Within P R s0 s) (p_slots : P .slots) : Within P R s0 (enterCoast x1 s) := by
  unfold enterCoast; try dsimp only
  repeat' first
    | with_reducible assumption | with_reducible refine updSlot_within ?_ p_slots

theorem acted_within (h : Within P R s0 s) (p_slots : P .slots) : Within P R s0 (acted x1 x2 s) := by
  unfold acted; try dsimp only
  repeat' first
    | with_reducible assumption | with_reducible refine updSlot_within ?_ p_slots
    | with_reducible refine within_pair ?_ (by assumption) | split

theorem rejectCmd_within (h : Within P R s0 s) (p_safety : P .safety) (p_ic : P .ic) (p_tw : P .tw)
    (r_ds_STAT : R (.ds .STAT)) : Within P R s0 (rejectCmd x1 s) := by
  unfold rejectCmd; try dsimp only
  repeat' first
    | with_reducible assumption | with_reducible refine dsFlag_within ?_ p_safety p_ic p_tw r_ds_STAT

theorem slotDrive_within (h : Within P R s0 s) (p_merger : P .merger) (p_safety : P .safety) (p_router : P .router)
    (p_drawbar : P .drawbar) (p_slots : P .slots) (p_ic : P .ic) (p_tw : P .tw) (r_ds_STAT : R (.ds .STAT))
    (r_ds_EVENTS : R (.ds .EVENTS)) (r_db_LSTAT : R (.db .LSTAT)) : Within P R s0 (slotDrive x1 x2 x3 s) := by
  unfold slotDrive; try dsimp only
  repeat' first
    | with_reducible assumption | with_reducible refine rejectCmd_within ?_ p_safety p_ic p_tw r_ds_STAT
    | with_reducible refine slotEvent_within ?_ p_merger p_safety p_router p_ic p_tw r_ds_EVENTS
    | with_reducible refine acted_within ?_ p_slots | with_reducible refine startDrive_within ?_ p_slots
    | with_reducible refine slotOut_within ?_ p_safety p_router p_drawbar p_ic p_tw r_db_LSTAT
    | with_reducible refine within_pair ?_ (by assumption) | split

theorem slotOffCore_within (h : Within P R s0 s) (p_merger : P .merger) (p_safety : P .safety) (p_router : P .router)
    (p_drawbar : P .drawbar) (p_slots : P .slots) (p_ic : P .ic) (p_tw : P .tw) (r_ds_STAT : R (.ds .STAT))
    (r_ds_EVENTS : R (.ds .EVENTS)) (r_db_LSTAT : R (.db .LSTAT)) : Within P R s0 (slotOffCore x1 x2 s) := by
  unfold slotOffCore; try dsimp only
  repeat' first
    | with_reducible assumption | with_reducible refine rejectCmd_within ?_ p_safety p_ic p_tw r_ds_STAT
    | with_reducible refine slotEvent_within ?_ p_merger p_safety p_router p_ic p_tw r_ds_EVENTS
    | with_reducible refine acted_within ?_ p_slots | with_reducible refine enterCoast_within ?_ p_slots
    | with_reducible refine slotOut_within ?_ p_safety p_router p_drawbar p_ic p_tw r_db_LSTAT
    | with_reducible refine within_pair ?_ (by assumption) | split

theorem slotSpeed_within (h : Within P R s0 s) (p_safety : P .safety) (p_router : P .router) (p_timers : P .timers)
    (p_drawbar : P .drawbar) (p_slots : P .slots) (p_ic : P .ic) (p_tw : P .tw) (r_ds_STAT : R (.ds .STAT))
    (r_tm_STAT : R (.tm .STAT)) (r_tm_OUT : R (.tm .OUT)) (r_tm_CMPA : R (.tm .CMPA)) (r_db_LSTAT : R (.db .LSTAT)) :
    Within P R s0 (slotSpeed x1 x2 x3 s) := by
  unfold slotSpeed; try dsimp only
  repeat' first
    | with_reducible assumption | with_reducible refine rejectCmd_within ?_ p_safety p_ic p_tw r_ds_STAT
    | with_reducible refine acted_within ?_ p_slots
    | with_reducible refine slotSpeedOut_within ?_ p_safety p_router p_timers p_drawbar p_ic
                        p_tw r_tm_STAT r_tm_OUT r_tm_CMPA r_db_LSTAT
    | with_reducible refine within_pair ?_ (by assumption) | split

theorem slotClear_within (h : Within P R s0 s) (p_safety : P .safety) (p_slots : P .slots) (p_ic : P .ic)
    (p_tw : P .tw) (r_ds_STAT : R (.ds .STAT)) : Within P R s0 (slotClear x1 x2 s) := by
  unfold slotClear; try dsimp only
  repeat' first
    | with_reducible assumption | with_reducible refine rejectCmd_within ?_ p_safety p_ic p_tw r_ds_STAT
    | with_reducible refine acted_within ?_ p_slots | with_reducible refine updSlot_within ?_ p_slots
    | with_reducible refine within_pair ?_ (by assumption) | split

theorem tripSlot_within (h : Within P R s0 s) (p_safety : P .safety) (p_router : P .router) (p_drawbar : P .drawbar)
    (p_slots : P .slots) (p_ic : P .ic) (p_tw : P .tw) (r_ds_STAT : R (.ds .STAT)) (r_db_LSTAT : R (.db .LSTAT)) :
    Within P R s0 (tripSlot x1 x2 x3 s) := by
  unfold tripSlot; try dsimp only
  repeat' first
    | with_reducible assumption | with_reducible refine acted_within ?_ p_slots
    | with_reducible refine updSlot_within ?_ p_slots
    | with_reducible refine dsFlag_within ?_ p_safety p_ic p_tw r_ds_STAT
    | with_reducible refine slotOut_within ?_ p_safety p_router p_drawbar p_ic p_tw r_db_LSTAT

theorem rereference_within (h : Within P R s0 s) (p_slots : P .slots) : Within P R s0 (rereference x1 x2 s) := by
  unfold rereference; try dsimp only
  repeat' first
    | with_reducible assumption | with_reducible refine updSlot_within ?_ p_slots
    | with_reducible refine movePos_within ?_ p_slots

theorem degradeSlot_within (h : Within P R s0 s) (p_merger : P .merger) (p_safety : P .safety) (p_router : P .router)
    (p_drawbar : P .drawbar) (p_slots : P .slots) (p_ic : P .ic) (p_tw : P .tw) (r_ds_EVENTS : R (.ds .EVENTS))
    (r_db_LSTAT : R (.db .LSTAT)) : Within P R s0 (degradeSlot x1 x2 s) := by
  unfold degradeSlot; try dsimp only
  repeat' first
    | with_reducible assumption
    | with_reducible refine slotEvent_within ?_ p_merger p_safety p_router p_ic p_tw r_ds_EVENTS
    | with_reducible refine acted_within ?_ p_slots | with_reducible refine setDoubt_within ?_ p_slots
    | with_reducible refine updSlot_within ?_ p_slots
    | with_reducible refine slotOut_within ?_ p_safety p_router p_drawbar p_ic p_tw r_db_LSTAT
    | with_reducible refine within_pair ?_ (by assumption) | split

theorem slotTrainStopped_within (h : Within P R s0 s) (p_safety : P .safety) (p_router : P .router)
    (p_drawbar : P .drawbar) (p_slots : P .slots) (p_ic : P .ic) (p_tw : P .tw) (r_db_LSTAT : R (.db .LSTAT)) : Within
    P R s0 (slotTrainStopped x1 s) := by
  unfold slotTrainStopped; try dsimp only
  repeat' first
    | with_reducible assumption | with_reducible refine acted_within ?_ p_slots
    | with_reducible refine setDoubt_within ?_ p_slots | with_reducible refine enterCoast_within ?_ p_slots
    | with_reducible refine slotOut_within ?_ p_safety p_router p_drawbar p_ic p_tw r_db_LSTAT
    | with_reducible refine within_pair ?_ (by assumption) | split

theorem degradeTrainSlots_within (h : Within P R s0 s) (p_merger : P .merger) (p_safety : P .safety)
    (p_router : P .router) (p_drawbar : P .drawbar) (p_slots : P .slots) (p_ic : P .ic) (p_tw : P .tw)
    (r_ds_EVENTS : R (.ds .EVENTS)) (r_db_LSTAT : R (.db .LSTAT)) : Within P R s0 (degradeTrainSlots x1 s) := by
  unfold degradeTrainSlots; try dsimp only
  repeat' first
    | with_reducible assumption
    | with_reducible refine degradeSlot_within ?_ p_merger p_safety p_router p_drawbar p_slots
                        p_ic p_tw r_ds_EVENTS r_db_LSTAT
    | with_reducible refine within_foldl (fun _ _ h => ?_) ?_
    | with_reducible refine within_foldl_snd (fun _ _ h => ?_) ?_
    | with_reducible refine within_foldl_fst (fun _ _ h => ?_) ?_
    | with_reducible refine within_pair ?_ (by assumption) | split

theorem stopTrainSlots_within (h : Within P R s0 s) (p_safety : P .safety) (p_router : P .router)
    (p_drawbar : P .drawbar) (p_slots : P .slots) (p_ic : P .ic) (p_tw : P .tw) (r_db_LSTAT : R (.db .LSTAT)) : Within
    P R s0 (stopTrainSlots x1 s) := by
  unfold stopTrainSlots; try dsimp only
  repeat' first
    | with_reducible assumption
    | with_reducible refine slotTrainStopped_within ?_ p_safety p_router p_drawbar p_slots p_ic p_tw r_db_LSTAT
    | with_reducible refine within_foldl (fun _ _ h => ?_) ?_
    | with_reducible refine within_foldl_snd (fun _ _ h => ?_) ?_
    | with_reducible refine within_foldl_fst (fun _ _ h => ?_) ?_
    | with_reducible refine within_pair ?_ (by assumption) | split

theorem slotReconfigured_within (h : Within P R s0 s) (p_slots : P .slots) : Within P R s0 (slotReconfigured x1 s) := by
  unfold slotReconfigured; try dsimp only
  repeat' first
    | with_reducible assumption | with_reducible refine updSlot_within ?_ p_slots

end Sys2Proof.Machine
end

