-- ==== Sys2Proof/Laws/WithinServices.lean ====
section
/-! SUPPORT. What each operation of Machine/Services.lean can change: one lemma per operation (see Laws/WithinOps.lean). -/
namespace Sys2Proof.Machine
set_option Elab.async false

set_option linter.unusedVariables false
set_option linter.unusedSimpArgs false

variable {P : Part → Prop} {R : Reg → Prop} {s0 s t : State}

theorem svcRecord_within (h : Within P R s0 s) (p_merger : P .merger) : Within P R s0 (svcRecord x1 x2 x3 x4 s) := by
  unfold svcRecord; try dsimp only
  repeat' first
    | with_reducible assumption | with_reducible refine emit_within ?_ p_merger

theorem updLoop_within (h : Within P R s0 s) (p_loop : P .loop) : Within P R s0 (updLoop x1 s) := by
  unfold updLoop; try dsimp only
  repeat' first
    | with_reducible assumption | with_reducible refine within_pair ?_ (by assumption) | split
    | (simp only [within_mk]
       refine WithinMk.intro ?_ rfl rfl rfl rfl (h_loop := .inl p_loop))

theorem loopSpeed_within (h : Within P R s0 s) (p_safety : P .safety) (p_router : P .router) (p_timers : P .timers)
    (p_drawbar : P .drawbar) (p_slots : P .slots) (p_loop : P .loop) (p_ic : P .ic) (p_tw : P .tw)
    (r_ds_STAT : R (.ds .STAT)) (r_tm_STAT : R (.tm .STAT)) (r_tm_OUT : R (.tm .OUT)) (r_tm_CMPA : R (.tm .CMPA))
    (r_db_LSTAT : R (.db .LSTAT)) : Within P R s0 (loopSpeed x1 x2 x3 s) := by
  unfold loopSpeed; try dsimp only
  repeat' first
    | with_reducible assumption
    | with_reducible refine slotSpeed_within ?_ p_safety p_router p_timers p_drawbar p_slots
                        p_ic p_tw r_ds_STAT r_tm_STAT r_tm_OUT r_tm_CMPA r_db_LSTAT
    | with_reducible refine updLoop_within ?_ p_loop | with_reducible refine within_pair ?_ (by assumption) | split

theorem loopApply_within (h : Within P R s0 s) (p_safety : P .safety) (p_router : P .router) (p_timers : P .timers)
    (p_drawbar : P .drawbar) (p_slots : P .slots) (p_loop : P .loop) (p_ic : P .ic) (p_tw : P .tw)
    (r_ds_STAT : R (.ds .STAT)) (r_tm_STAT : R (.tm .STAT)) (r_tm_OUT : R (.tm .OUT)) (r_tm_CMPA : R (.tm .CMPA))
    (r_db_LSTAT : R (.db .LSTAT)) : Within P R s0 (loopApply s) := by
  unfold loopApply; try dsimp only
  repeat' first
    | with_reducible assumption
    | with_reducible refine loopSpeed_within ?_ p_safety p_router p_timers p_drawbar p_slots
                        p_loop p_ic p_tw r_ds_STAT r_tm_STAT r_tm_OUT r_tm_CMPA r_db_LSTAT
    | with_reducible refine updLoop_within ?_ p_loop | with_reducible refine within_foldl (fun _ _ h => ?_) ?_
    | with_reducible refine within_foldl_snd (fun _ _ h => ?_) ?_
    | with_reducible refine within_foldl_fst (fun _ _ h => ?_) ?_
    | with_reducible refine within_pair ?_ (by assumption) | split

theorem loopStep_within (h : Within P R s0 s) (p_merger : P .merger) (p_safety : P .safety) (p_router : P .router)
    (p_timers : P .timers) (p_drawbar : P .drawbar) (p_slots : P .slots) (p_loop : P .loop) (p_ic : P .ic)
    (p_tw : P .tw) (r_ds_STAT : R (.ds .STAT)) (r_tm_STAT : R (.tm .STAT)) (r_tm_OUT : R (.tm .OUT))
    (r_tm_CMPA : R (.tm .CMPA)) (r_db_LSTAT : R (.db .LSTAT)) : Within P R s0 (loopStep s) := by
  unfold loopStep; try dsimp only
  repeat' first
    | with_reducible assumption | with_reducible refine svcRecord_within ?_ p_merger
    | with_reducible refine loopApply_within ?_ p_safety p_router p_timers p_drawbar p_slots
                        p_loop p_ic p_tw r_ds_STAT r_tm_STAT r_tm_OUT r_tm_CMPA r_db_LSTAT
    | with_reducible refine updLoop_within ?_ p_loop | with_reducible refine within_pair ?_ (by assumption) | split

theorem pumpDry_within (h : Within P R s0 s) (p_merger : P .merger) (p_safety : P .safety) (p_router : P .router)
    (p_drawbar : P .drawbar) (p_slots : P .slots) (p_loop : P .loop) (p_ic : P .ic) (p_tw : P .tw)
    (r_ds_STAT : R (.ds .STAT)) (r_ds_EVENTS : R (.ds .EVENTS)) (r_db_LSTAT : R (.db .LSTAT)) : Within P R s0 (pumpDry
    x1 s) := by
  unfold pumpDry; try dsimp only
  repeat' first
    | with_reducible assumption | with_reducible refine svcRecord_within ?_ p_merger
    | with_reducible refine slotOffCore_within ?_ p_merger p_safety p_router p_drawbar p_slots
                        p_ic p_tw r_ds_STAT r_ds_EVENTS r_db_LSTAT
    | with_reducible refine updLoop_within ?_ p_loop | with_reducible refine within_pair ?_ (by assumption) | split

theorem pumpRestart_within (h : Within P R s0 s) (p_merger : P .merger) (p_safety : P .safety) (p_router : P .router)
    (p_timers : P .timers) (p_drawbar : P .drawbar) (p_slots : P .slots) (p_loop : P .loop) (p_ic : P .ic)
    (p_tw : P .tw) (r_ds_STAT : R (.ds .STAT)) (r_tm_STAT : R (.tm .STAT)) (r_tm_OUT : R (.tm .OUT))
    (r_tm_CMPA : R (.tm .CMPA)) (r_db_LSTAT : R (.db .LSTAT)) (r_ds_EVENTS : R (.ds .EVENTS)) : Within P R s0
    (pumpRestart x1 s) := by
  unfold pumpRestart; try dsimp only
  repeat' first
    | with_reducible assumption | with_reducible refine svcRecord_within ?_ p_merger
    | with_reducible refine slotDrive_within ?_ p_merger p_safety p_router p_drawbar p_slots
                        p_ic p_tw r_ds_STAT r_ds_EVENTS r_db_LSTAT
    | with_reducible refine loopSpeed_within ?_ p_safety p_router p_timers p_drawbar p_slots
                        p_loop p_ic p_tw r_ds_STAT r_tm_STAT r_tm_OUT r_tm_CMPA r_db_LSTAT
    | with_reducible refine updLoop_within ?_ p_loop | with_reducible refine within_pair ?_ (by assumption) | split

theorem loopStart_within (h : Within P R s0 s) (p_merger : P .merger) (p_slots : P .slots) (p_loop : P .loop) : Within
    P R s0 (loopStart s) := by
  unfold loopStart; try dsimp only
  repeat' first
    | with_reducible assumption | with_reducible refine svcRecord_within ?_ p_merger
    | with_reducible refine updSlot_within ?_ p_slots | with_reducible refine updLoop_within ?_ p_loop
    | with_reducible refine within_foldl (fun _ _ h => ?_) ?_

theorem loopStop_within (h : Within P R s0 s) (p_merger : P .merger) (p_slots : P .slots) : Within P R s0 (loopStop s) := by
  unfold loopStop; try dsimp only
  repeat' first
    | with_reducible assumption | with_reducible refine svcRecord_within ?_ p_merger
    | with_reducible refine updSlot_within ?_ p_slots | with_reducible refine within_foldl (fun _ _ h => ?_) ?_

theorem writeClCtl_within (h : Within P R s0 s) (p_merger : P .merger) (p_slots : P .slots) (p_loop : P .loop)
    (r_ds_CLCTL : R (.ds .CLCTL)) : Within P R s0 (writeClCtl x1 s) := by
  unfold writeClCtl; try dsimp only
  repeat' first
    | with_reducible assumption | with_reducible refine loopStart_within ?_ p_merger p_slots p_loop
    | with_reducible refine State.plainWrite_within ?_ (by assumption)
    | with_reducible refine loopStop_within ?_ p_merger p_slots
    | with_reducible refine within_pair ?_ (by assumption) | split

theorem updRecall_within (h : Within P R s0 s) (p_prRun : P .prRun) : Within P R s0 (updRecall x1 s) := by
  unfold updRecall; try dsimp only
  repeat' first
    | with_reducible assumption | with_reducible refine within_pair ?_ (by assumption) | split
    | (simp only [within_mk]
       refine WithinMk.intro ?_ rfl rfl rfl rfl (h_prRun := .inl p_prRun))

theorem recallRecord_within (h : Within P R s0 s) (p_merger : P .merger) (p_prRun : P .prRun) : Within P R s0
    (recallRecord x1 x2 x3 s) := by
  unfold recallRecord; try dsimp only
  repeat' first
    | with_reducible assumption | with_reducible refine svcRecord_within ?_ p_merger
    | with_reducible refine updRecall_within ?_ p_prRun

theorem setRecall_within (h : Within P R s0 s) (p_prRun : P .prRun) : Within P R s0 (setRecall x1 x2 s) := by
  unfold setRecall; try dsimp only
  repeat' first
    | with_reducible assumption | with_reducible refine updRecall_within ?_ p_prRun

theorem recallRelease_within (h : Within P R s0 s) (p_slots : P .slots) : Within P R s0 (recallRelease s) := by
  unfold recallRelease; try dsimp only
  repeat' first
    | with_reducible assumption | with_reducible refine updSlot_within ?_ p_slots
    | with_reducible refine within_foldl (fun _ _ h => ?_) ?_

theorem recallDone_within (h : Within P R s0 s) (p_merger : P .merger) (p_prRun : P .prRun) : Within P R s0
    (recallDone x1 x2 s) := by
  unfold recallDone; try dsimp only
  repeat' first
    | with_reducible assumption | with_reducible refine setRecall_within ?_ p_prRun
    | with_reducible refine recallRecord_within ?_ p_merger p_prRun

theorem recallStart_within (h : Within P R s0 s) (p_merger : P .merger) (p_safety : P .safety) (p_router : P .router)
    (p_drawbar : P .drawbar) (p_slots : P .slots) (p_prRun : P .prRun) (p_ic : P .ic) (p_tw : P .tw)
    (r_ds_STAT : R (.ds .STAT)) (r_ds_EVENTS : R (.ds .EVENTS)) (r_db_LSTAT : R (.db .LSTAT)) : Within P R s0
    (recallStart x1 x2 s) := by
  unfold recallStart; try dsimp only
  repeat' first
    | with_reducible assumption | with_reducible refine setRecall_within ?_ p_prRun
    | with_reducible refine slotDrive_within ?_ p_merger p_safety p_router p_drawbar p_slots
                        p_ic p_tw r_ds_STAT r_ds_EVENTS r_db_LSTAT
    | with_reducible refine recallDone_within ?_ p_merger p_prRun
    | with_reducible refine within_pair ?_ (by assumption) | split

theorem recallAdvance_within (h : Within P R s0 s) (p_merger : P .merger) (p_safety : P .safety)
    (p_router : P .router) (p_drawbar : P .drawbar) (p_slots : P .slots) (p_prRun : P .prRun) (p_ic : P .ic)
    (p_tw : P .tw) (r_ds_STAT : R (.ds .STAT)) (r_ds_EVENTS : R (.ds .EVENTS)) (r_db_LSTAT : R (.db .LSTAT)) : Within
    P R s0 (recallAdvance s) := by
  unfold recallAdvance; try dsimp only
  repeat' first
    | with_reducible assumption | with_reducible refine recallRelease_within ?_ p_slots
    | with_reducible refine updRecall_within ?_ p_prRun
    | with_reducible refine recallStart_within ?_ p_merger p_safety p_router p_drawbar p_slots
                        p_prRun p_ic p_tw r_ds_STAT r_ds_EVENTS r_db_LSTAT
    | with_reducible refine recallRecord_within ?_ p_merger p_prRun
    | with_reducible refine within_foldl (fun _ _ h => ?_) ?_
    | with_reducible refine within_foldl_snd (fun _ _ h => ?_) ?_
    | with_reducible refine within_foldl_fst (fun _ _ h => ?_) ?_
    | with_reducible refine within_pair ?_ (by assumption) | split

theorem recallAbort_within (h : Within P R s0 s) (p_merger : P .merger) (p_safety : P .safety) (p_router : P .router)
    (p_drawbar : P .drawbar) (p_slots : P .slots) (p_prRun : P .prRun) (p_ic : P .ic) (p_tw : P .tw)
    (r_ds_STAT : R (.ds .STAT)) (r_ds_EVENTS : R (.ds .EVENTS)) (r_db_LSTAT : R (.db .LSTAT)) : Within P R s0
    (recallAbort x1 x2 s) := by
  unfold recallAbort; try dsimp only
  repeat' first
    | with_reducible assumption | with_reducible refine recallRelease_within ?_ p_slots
    | with_reducible refine updRecall_within ?_ p_prRun
    | with_reducible refine slotOffCore_within ?_ p_merger p_safety p_router p_drawbar p_slots
                        p_ic p_tw r_ds_STAT r_ds_EVENTS r_db_LSTAT
    | with_reducible refine recallRecord_within ?_ p_merger p_prRun
    | with_reducible refine within_foldl (fun _ _ h => ?_) ?_
    | with_reducible refine within_foldl_snd (fun _ _ h => ?_) ?_
    | with_reducible refine within_foldl_fst (fun _ _ h => ?_) ?_
    | with_reducible refine within_pair ?_ (by assumption) | split

theorem recallTake_within (h : Within P R s0 s) (p_merger : P .merger) (p_safety : P .safety) (p_router : P .router)
    (p_drawbar : P .drawbar) (p_slots : P .slots) (p_prRun : P .prRun) (p_ic : P .ic) (p_tw : P .tw)
    (r_ds_PRCTL : R (.ds .PRCTL)) (r_ds_STAT : R (.ds .STAT)) (r_ds_EVENTS : R (.ds .EVENTS))
    (r_db_LSTAT : R (.db .LSTAT)) : Within P R s0 (recallTake s) := by
  unfold recallTake; try dsimp only
  repeat' first
    | with_reducible assumption | with_reducible refine State.clrReg_within ?_ (by assumption)
    | with_reducible refine updRecall_within ?_ p_prRun | with_reducible refine updSlot_within ?_ p_slots
    | with_reducible refine recallAdvance_within ?_ p_merger p_safety p_router p_drawbar p_slots
                        p_prRun p_ic p_tw r_ds_STAT r_ds_EVENTS r_db_LSTAT
    | with_reducible refine recallRecord_within ?_ p_merger p_prRun
    | with_reducible refine within_foldl (fun _ _ h => ?_) ?_
    | with_reducible refine within_foldl_snd (fun _ _ h => ?_) ?_
    | with_reducible refine within_foldl_fst (fun _ _ h => ?_) ?_
    | with_reducible refine within_pair ?_ (by assumption) | split

theorem memoriesChanged_within (h : Within P R s0 s) (p_nvm : P .nvm) : Within P R s0 (memoriesChanged s) := by
  unfold memoriesChanged; try dsimp only
  repeat' first
    | with_reducible assumption | with_reducible refine within_pair ?_ (by assumption) | split
    | (simp only [within_mk]
       refine WithinMk.intro ?_ rfl rfl rfl rfl (h_nvm := .inl p_nvm))

theorem recallSave_within (h : Within P R s0 s) (p_safety : P .safety) (p_ic : P .ic) (p_nvm : P .nvm) (p_tw : P .tw)
    (r_ds_PRSTAT : R (.ds .PRSTAT)) (r_ds_PRMEM : R (.ds .PRMEM)) : Within P R s0 (recallSave s) := by
  unfold recallSave; try dsimp only
  repeat' first
    | with_reducible assumption | with_reducible refine State.setReg_within ?_ (by assumption)
    | with_reducible refine State.orReg_within ?_ p_safety p_ic p_tw (by assumption)
    | with_reducible refine memoriesChanged_within ?_ p_nvm | with_reducible refine within_foldl (fun _ _ h => ?_) ?_
    | with_reducible refine within_foldl_snd (fun _ _ h => ?_) ?_
    | with_reducible refine within_foldl_fst (fun _ _ h => ?_) ?_
    | with_reducible refine within_pair ?_ (by assumption) | split

theorem recallOnPosition_within (h : Within P R s0 s) (p_merger : P .merger) (p_safety : P .safety)
    (p_router : P .router) (p_drawbar : P .drawbar) (p_slots : P .slots) (p_ic : P .ic) (p_tw : P .tw)
    (r_ds_STAT : R (.ds .STAT)) (r_ds_EVENTS : R (.ds .EVENTS)) (r_db_LSTAT : R (.db .LSTAT)) : Within P R s0
    (recallOnPosition x1 s) := by
  unfold recallOnPosition; try dsimp only
  repeat' first
    | with_reducible assumption | with_reducible refine coastEst_within ?_
    | with_reducible refine slotOffCore_within ?_ p_merger p_safety p_router p_drawbar p_slots
                        p_ic p_tw r_ds_STAT r_ds_EVENTS r_db_LSTAT
    | with_reducible refine within_pair ?_ (by assumption) | split

theorem recallOnCoastEnd_within (h : Within P R s0 s) (p_merger : P .merger) (p_safety : P .safety)
    (p_router : P .router) (p_drawbar : P .drawbar) (p_slots : P .slots) (p_prRun : P .prRun) (p_ic : P .ic)
    (p_tw : P .tw) (r_ds_STAT : R (.ds .STAT)) (r_ds_EVENTS : R (.ds .EVENTS)) (r_db_LSTAT : R (.db .LSTAT)) : Within
    P R s0 (recallOnCoastEnd x1 s) := by
  unfold recallOnCoastEnd; try dsimp only
  repeat' first
    | with_reducible assumption | with_reducible refine updRecall_within ?_ p_prRun
    | with_reducible refine recallStart_within ?_ p_merger p_safety p_router p_drawbar p_slots
                        p_prRun p_ic p_tw r_ds_STAT r_ds_EVENTS r_db_LSTAT
    | with_reducible refine recallDone_within ?_ p_merger p_prRun
    | with_reducible refine recallAdvance_within ?_ p_merger p_safety p_router p_drawbar p_slots
                        p_prRun p_ic p_tw r_ds_STAT r_ds_EVENTS r_db_LSTAT
    | with_reducible refine within_pair ?_ (by assumption) | split

theorem updHoming_within (h : Within P R s0 s) (p_homing : P .homing) : Within P R s0 (updHoming x1 s) := by
  unfold updHoming; try dsimp only
  repeat' first
    | with_reducible assumption | with_reducible refine within_pair ?_ (by assumption) | split
    | (simp only [within_mk]
       refine WithinMk.intro ?_ rfl rfl rfl rfl (h_homing := .inl p_homing))

theorem setHome_within (h : Within P R s0 s) (p_homing : P .homing) : Within P R s0 (setHome x1 x2 s) := by
  unfold setHome; try dsimp only
  repeat' first
    | with_reducible assumption | with_reducible refine updHoming_within ?_ p_homing

theorem homeStart_within (h : Within P R s0 s) (p_merger : P .merger) (p_safety : P .safety) (p_router : P .router)
    (p_drawbar : P .drawbar) (p_slots : P .slots) (p_homing : P .homing) (p_ic : P .ic) (p_tw : P .tw)
    (r_ds_STAT : R (.ds .STAT)) (r_ds_EVENTS : R (.ds .EVENTS)) (r_db_LSTAT : R (.db .LSTAT)) : Within P R s0
    (homeStart x1 s) := by
  unfold homeStart; try dsimp only
  repeat' first
    | with_reducible assumption | with_reducible refine updHoming_within ?_ p_homing
    | with_reducible refine setDoubt_within ?_ p_slots
    | with_reducible refine slotDrive_within ?_ p_merger p_safety p_router p_drawbar p_slots
                        p_ic p_tw r_ds_STAT r_ds_EVENTS r_db_LSTAT
    | with_reducible refine setHome_within ?_ p_homing | with_reducible refine updSlot_within ?_ p_slots

theorem homingAdvance_within (h : Within P R s0 s) (p_merger : P .merger) (p_safety : P .safety)
    (p_router : P .router) (p_drawbar : P .drawbar) (p_slots : P .slots) (p_homing : P .homing) (p_ic : P .ic)
    (p_tw : P .tw) (r_ds_STAT : R (.ds .STAT)) (r_ds_EVENTS : R (.ds .EVENTS)) (r_db_LSTAT : R (.db .LSTAT)) : Within
    P R s0 (homingAdvance s) := by
  unfold homingAdvance; try dsimp only
  repeat' first
    | with_reducible assumption | with_reducible refine svcRecord_within ?_ p_merger
    | with_reducible refine updHoming_within ?_ p_homing | with_reducible refine updSlot_within ?_ p_slots
    | with_reducible refine homeStart_within ?_ p_merger p_safety p_router p_drawbar p_slots
                        p_homing p_ic p_tw r_ds_STAT r_ds_EVENTS r_db_LSTAT
    | with_reducible refine within_foldl (fun _ _ h => ?_) ?_
    | with_reducible refine within_foldl_snd (fun _ _ h => ?_) ?_
    | with_reducible refine within_foldl_fst (fun _ _ h => ?_) ?_
    | with_reducible refine within_pair ?_ (by assumption) | split

theorem homeFail_within (h : Within P R s0 s) (p_merger : P .merger) (p_safety : P .safety) (p_router : P .router)
    (p_drawbar : P .drawbar) (p_slots : P .slots) (p_homing : P .homing) (p_ic : P .ic) (p_tw : P .tw)
    (r_ds_STAT : R (.ds .STAT)) (r_ds_EVENTS : R (.ds .EVENTS)) (r_db_LSTAT : R (.db .LSTAT)) : Within P R s0
    (homeFail x1 x2 s) := by
  unfold homeFail; try dsimp only
  repeat' first
    | with_reducible assumption | with_reducible refine svcRecord_within ?_ p_merger
    | with_reducible refine setHome_within ?_ p_homing
    | with_reducible refine slotOffCore_within ?_ p_merger p_safety p_router p_drawbar p_slots
                        p_ic p_tw r_ds_STAT r_ds_EVENTS r_db_LSTAT
    | with_reducible refine homingAdvance_within ?_ p_merger p_safety p_router p_drawbar p_slots
                        p_homing p_ic p_tw r_ds_STAT r_ds_EVENTS r_db_LSTAT
    | with_reducible refine within_pair ?_ (by assumption) | split

theorem homingBegin_within (h : Within P R s0 s) (p_merger : P .merger) (p_safety : P .safety) (p_router : P .router)
    (p_drawbar : P .drawbar) (p_slots : P .slots) (p_homing : P .homing) (p_ic : P .ic) (p_tw : P .tw)
    (r_ds_STAT : R (.ds .STAT)) (r_ds_EVENTS : R (.ds .EVENTS)) (r_db_LSTAT : R (.db .LSTAT)) : Within P R s0
    (homingBegin x1 s) := by
  unfold homingBegin; try dsimp only
  repeat' first
    | with_reducible assumption | with_reducible refine svcRecord_within ?_ p_merger
    | with_reducible refine updHoming_within ?_ p_homing | with_reducible refine updSlot_within ?_ p_slots
    | with_reducible refine homingAdvance_within ?_ p_merger p_safety p_router p_drawbar p_slots
                        p_homing p_ic p_tw r_ds_STAT r_ds_EVENTS r_db_LSTAT
    | with_reducible refine within_foldl (fun _ _ h => ?_) ?_
    | with_reducible refine within_foldl_snd (fun _ _ h => ?_) ?_
    | with_reducible refine within_foldl_fst (fun _ _ h => ?_) ?_
    | with_reducible refine within_pair ?_ (by assumption) | split

theorem homingTake_within (h : Within P R s0 s) (p_merger : P .merger) (p_safety : P .safety) (p_router : P .router)
    (p_drawbar : P .drawbar) (p_slots : P .slots) (p_homing : P .homing) (p_ic : P .ic) (p_tw : P .tw)
    (r_ds_FHCTL : R (.ds .FHCTL)) (r_ds_STAT : R (.ds .STAT)) (r_ds_EVENTS : R (.ds .EVENTS))
    (r_db_LSTAT : R (.db .LSTAT)) : Within P R s0 (homingTake s) := by
  unfold homingTake; try dsimp only
  repeat' first
    | with_reducible assumption | with_reducible refine svcRecord_within ?_ p_merger
    | with_reducible refine State.clrReg_within ?_ (by assumption)
    | with_reducible refine homingBegin_within ?_ p_merger p_safety p_router p_drawbar p_slots
                        p_homing p_ic p_tw r_ds_STAT r_ds_EVENTS r_db_LSTAT
    | with_reducible refine within_pair ?_ (by assumption) | split

theorem homingAbort_within (h : Within P R s0 s) (p_merger : P .merger) (p_safety : P .safety) (p_router : P .router)
    (p_drawbar : P .drawbar) (p_slots : P .slots) (p_homing : P .homing) (p_ic : P .ic) (p_tw : P .tw)
    (r_ds_STAT : R (.ds .STAT)) (r_ds_EVENTS : R (.ds .EVENTS)) (r_db_LSTAT : R (.db .LSTAT)) : Within P R s0
    (homingAbort s) := by
  unfold homingAbort; try dsimp only
  repeat' first
    | with_reducible assumption | with_reducible refine svcRecord_within ?_ p_merger
    | with_reducible refine updHoming_within ?_ p_homing | with_reducible refine setHome_within ?_ p_homing
    | with_reducible refine updSlot_within ?_ p_slots
    | with_reducible refine slotOffCore_within ?_ p_merger p_safety p_router p_drawbar p_slots
                        p_ic p_tw r_ds_STAT r_ds_EVENTS r_db_LSTAT
    | with_reducible refine within_foldl (fun _ _ h => ?_) ?_
    | with_reducible refine within_foldl_snd (fun _ _ h => ?_) ?_
    | with_reducible refine within_foldl_fst (fun _ _ h => ?_) ?_
    | with_reducible refine within_pair ?_ (by assumption) | split

theorem homingOnEndStop_within (h : Within P R s0 s) (p_merger : P .merger) (p_safety : P .safety)
    (p_router : P .router) (p_drawbar : P .drawbar) (p_slots : P .slots) (p_homing : P .homing) (p_ic : P .ic)
    (p_tw : P .tw) (r_ds_STAT : R (.ds .STAT)) (r_ds_EVENTS : R (.ds .EVENTS)) (r_db_LSTAT : R (.db .LSTAT)) : Within
    P R s0 (homingOnEndStop x1 s) := by
  unfold homingOnEndStop; try dsimp only
  repeat' first
    | with_reducible assumption | with_reducible refine updHoming_within ?_ p_homing
    | with_reducible refine slotDrive_within ?_ p_merger p_safety p_router p_drawbar p_slots
                        p_ic p_tw r_ds_STAT r_ds_EVENTS r_db_LSTAT
    | with_reducible refine setHome_within ?_ p_homing | with_reducible refine within_pair ?_ (by assumption) | split

theorem homingOnPosition_within (h : Within P R s0 s) (p_merger : P .merger) (p_safety : P .safety)
    (p_router : P .router) (p_drawbar : P .drawbar) (p_slots : P .slots) (p_homing : P .homing) (p_ic : P .ic)
    (p_tw : P .tw) (r_ds_STAT : R (.ds .STAT)) (r_ds_EVENTS : R (.ds .EVENTS)) (r_db_LSTAT : R (.db .LSTAT)) : Within
    P R s0 (homingOnPosition x1 s) := by
  unfold homingOnPosition; try dsimp only
  repeat' first
    | with_reducible assumption | with_reducible refine svcRecord_within ?_ p_merger
    | with_reducible refine setHome_within ?_ p_homing
    | with_reducible refine slotOffCore_within ?_ p_merger p_safety p_router p_drawbar p_slots
                        p_ic p_tw r_ds_STAT r_ds_EVENTS r_db_LSTAT
    | with_reducible refine homeFail_within ?_ p_merger p_safety p_router p_drawbar p_slots
                        p_homing p_ic p_tw r_ds_STAT r_ds_EVENTS r_db_LSTAT
    | with_reducible refine homingAdvance_within ?_ p_merger p_safety p_router p_drawbar p_slots
                        p_homing p_ic p_tw r_ds_STAT r_ds_EVENTS r_db_LSTAT
    | with_reducible refine within_pair ?_ (by assumption) | split

theorem serviceOnTrouble_within (h : Within P R s0 s) (p_merger : P .merger) (p_safety : P .safety)
    (p_router : P .router) (p_drawbar : P .drawbar) (p_slots : P .slots) (p_prRun : P .prRun) (p_homing : P .homing)
    (p_ic : P .ic) (p_tw : P .tw) (r_ds_STAT : R (.ds .STAT)) (r_ds_EVENTS : R (.ds .EVENTS))
    (r_db_LSTAT : R (.db .LSTAT)) : Within P R s0 (serviceOnTrouble x1 x2 s) := by
  unfold serviceOnTrouble; try dsimp only
  repeat' first
    | with_reducible assumption
    | with_reducible refine recallAbort_within ?_ p_merger p_safety p_router p_drawbar p_slots
                        p_prRun p_ic p_tw r_ds_STAT r_ds_EVENTS r_db_LSTAT
    | with_reducible refine homeFail_within ?_ p_merger p_safety p_router p_drawbar p_slots
                        p_homing p_ic p_tw r_ds_STAT r_ds_EVENTS r_db_LSTAT
    | with_reducible refine within_pair ?_ (by assumption) | split

theorem serviceOnDegraded_within (h : Within P R s0 s) (p_merger : P .merger) (p_safety : P .safety)
    (p_router : P .router) (p_drawbar : P .drawbar) (p_slots : P .slots) (p_homing : P .homing) (p_ic : P .ic)
    (p_tw : P .tw) (r_ds_STAT : R (.ds .STAT)) (r_ds_EVENTS : R (.ds .EVENTS)) (r_db_LSTAT : R (.db .LSTAT)) : Within
    P R s0 (serviceOnDegraded x1 s) := by
  unfold serviceOnDegraded; try dsimp only
  repeat' first
    | with_reducible assumption
    | with_reducible refine homeFail_within ?_ p_merger p_safety p_router p_drawbar p_slots
                        p_homing p_ic p_tw r_ds_STAT r_ds_EVENTS r_db_LSTAT
    | with_reducible refine within_pair ?_ (by assumption) | split

theorem slotOff_within (h : Within P R s0 s) (p_merger : P .merger) (p_safety : P .safety) (p_router : P .router)
    (p_drawbar : P .drawbar) (p_slots : P .slots) (p_prRun : P .prRun) (p_homing : P .homing) (p_ic : P .ic)
    (p_tw : P .tw) (r_ds_STAT : R (.ds .STAT)) (r_ds_EVENTS : R (.ds .EVENTS)) (r_db_LSTAT : R (.db .LSTAT)) : Within
    P R s0 (slotOff x1 x2 s) := by
  unfold slotOff; try dsimp only
  repeat' first
    | with_reducible assumption
    | with_reducible refine homingAbort_within ?_ p_merger p_safety p_router p_drawbar p_slots
                        p_homing p_ic p_tw r_ds_STAT r_ds_EVENTS r_db_LSTAT
    | with_reducible refine updSlot_within ?_ p_slots
    | with_reducible refine slotOffCore_within ?_ p_merger p_safety p_router p_drawbar p_slots
                        p_ic p_tw r_ds_STAT r_ds_EVENTS r_db_LSTAT
    | with_reducible refine recallAbort_within ?_ p_merger p_safety p_router p_drawbar p_slots
                        p_prRun p_ic p_tw r_ds_STAT r_ds_EVENTS r_db_LSTAT
    | with_reducible refine within_pair ?_ (by assumption) | split

end Sys2Proof.Machine
end

