-- ==== Sys2Proof/Laws/WithinSlotWords.lean ====
section
/-! SUPPORT. What each operation of Machine/SlotWords.lean can change: one lemma per operation (see Laws/WithinOps.lean). -/
namespace Sys2Proof.Machine
set_option Elab.async false

set_option linter.unusedVariables false
set_option linter.unusedSimpArgs false

variable {P : Part → Prop} {R : Reg → Prop} {s0 s t : State}

theorem motionAt_within (h : Within P R s0 s) (p_slots : P .slots) : Within P R s0 (motionAt x1 x2 s) := by
  unfold motionAt; try dsimp only
  repeat' first
    | with_reducible assumption | with_reducible refine updSlot_within ?_ p_slots

theorem addCounts_within (h : Within P R s0 s) (p_slots : P .slots) (r_ds_RIPSTAT : R (.ds .RIPSTAT)) : Within P R s0
    (addCounts x1 x2 x3 s) := by
  unfold addCounts; try dsimp only
  repeat' first
    | with_reducible assumption | with_reducible refine State.countFld_within ?_ (by assumption)
    | with_reducible refine updSlot_within ?_ p_slots | with_reducible refine movePos_within ?_ p_slots

theorem perAvg_within (h : Within P R s0 s) : Within P R s0 (perAvg x1 x2 x3 s).2 := by
  unfold perAvg; try dsimp only
  repeat' first
    | with_reducible assumption | with_reducible refine State.free_within ?_
    | with_reducible refine within_pair ?_ (by assumption) | split

theorem acceptInterval_within (h : Within P R s0 s) (p_slots : P .slots) : Within P R s0 (acceptInterval x1 x2 x3 s) := by
  unfold acceptInterval; try dsimp only
  repeat' first
    | with_reducible assumption | with_reducible refine updSlot_within ?_ p_slots

theorem countInterval_within (h : Within P R s0 s) (p_merger : P .merger) (p_safety : P .safety)
    (p_router : P .router) (p_slots : P .slots) (p_ic : P .ic) (p_tw : P .tw) (r_ds_RIPSTAT : R (.ds .RIPSTAT))
    (r_ds_EVENTS : R (.ds .EVENTS)) : Within P R s0 (countInterval x1 x2 x3 x4 s) := by
  unfold countInterval; try dsimp only
  repeat' first
    | with_reducible assumption
    | with_reducible refine slotEvent_within ?_ p_merger p_safety p_router p_ic p_tw r_ds_EVENTS
    | with_reducible refine addCounts_within ?_ p_slots r_ds_RIPSTAT | with_reducible refine perAvg_within ?_
    | with_reducible refine State.countFld_within ?_ (by assumption)
    | with_reducible refine setDoubt_within ?_ p_slots | with_reducible refine acceptInterval_within ?_ p_slots
    | with_reducible refine within_pair ?_ (by assumption) | split

theorem countWord_within (h : Within P R s0 s) (p_merger : P .merger) (p_safety : P .safety) (p_router : P .router)
    (p_slots : P .slots) (p_ic : P .ic) (p_tw : P .tw) (r_ds_RIPSTAT : R (.ds .RIPSTAT))
    (r_ds_EVENTS : R (.ds .EVENTS)) : Within P R s0 (countWord x1 x2 x3 x4 s) := by
  unfold countWord; try dsimp only
  repeat' first
    | with_reducible assumption | with_reducible refine addCounts_within ?_ p_slots r_ds_RIPSTAT
    | with_reducible refine State.countFld_within ?_ (by assumption)
    | with_reducible refine countInterval_within ?_ p_merger p_safety p_router p_slots p_ic p_tw
                        r_ds_RIPSTAT r_ds_EVENTS
    | with_reducible refine updSlot_within ?_ p_slots | with_reducible refine motionAt_within ?_ p_slots
    | with_reducible refine within_pair ?_ (by assumption) | split

theorem potWord_within (h : Within P R s0 s) (p_slots : P .slots) : Within P R s0 (potWord x1 x2 x3 s) := by
  unfold potWord; try dsimp only
  repeat' first
    | with_reducible assumption | with_reducible refine updSlot_within ?_ p_slots
    | with_reducible refine motionAt_within ?_ p_slots | with_reducible refine movePos_within ?_ p_slots
    | with_reducible refine within_pair ?_ (by assumption) | split

theorem endStop_within (h : Within P R s0 s) (p_merger : P .merger) (p_safety : P .safety) (p_router : P .router)
    (p_drawbar : P .drawbar) (p_slots : P .slots) (p_homing : P .homing) (p_ic : P .ic) (p_tw : P .tw)
    (r_ds_STAT : R (.ds .STAT)) (r_db_LSTAT : R (.db .LSTAT)) (r_ds_EVENTS : R (.ds .EVENTS)) : Within P R s0 (endStop
    x1 x2 s) := by
  unfold endStop; try dsimp only
  repeat' first
    | with_reducible assumption
    | with_reducible refine slotEvent_within ?_ p_merger p_safety p_router p_ic p_tw r_ds_EVENTS
    | with_reducible refine homingOnEndStop_within ?_ p_merger p_safety p_router p_drawbar
                        p_slots p_homing p_ic p_tw r_ds_STAT r_ds_EVENTS r_db_LSTAT
    | with_reducible refine acted_within ?_ p_slots | with_reducible refine updSlot_within ?_ p_slots
    | with_reducible refine rereference_within ?_ p_slots | with_reducible refine positionRecord_within ?_ p_merger
    | with_reducible refine dsFlag_within ?_ p_safety p_ic p_tw r_ds_STAT
    | with_reducible refine slotOut_within ?_ p_safety p_router p_drawbar p_ic p_tw r_db_LSTAT
    | with_reducible refine within_pair ?_ (by assumption) | split

theorem currentWord_within (h : Within P R s0 s) (p_merger : P .merger) (p_safety : P .safety) (p_router : P .router)
    (p_drawbar : P .drawbar) (p_slots : P .slots) (p_prRun : P .prRun) (p_homing : P .homing) (p_ic : P .ic)
    (p_tw : P .tw) (r_ds_STAT : R (.ds .STAT)) (r_db_LSTAT : R (.db .LSTAT)) (r_ds_EVENTS : R (.ds .EVENTS)) : Within
    P R s0 (currentWord x1 x2 x3 s) := by
  unfold currentWord; try dsimp only
  repeat' first
    | with_reducible assumption
    | with_reducible refine slotEvent_within ?_ p_merger p_safety p_router p_ic p_tw r_ds_EVENTS
    | with_reducible refine tripSlot_within ?_ p_safety p_router p_drawbar p_slots p_ic p_tw r_ds_STAT r_db_LSTAT
    | with_reducible refine serviceOnTrouble_within ?_ p_merger p_safety p_router p_drawbar
                        p_slots p_prRun p_homing p_ic p_tw r_ds_STAT r_ds_EVENTS r_db_LSTAT
    | with_reducible refine endStop_within ?_ p_merger p_safety p_router p_drawbar p_slots
                        p_homing p_ic p_tw r_ds_STAT r_db_LSTAT r_ds_EVENTS
    | with_reducible refine within_pair ?_ (by assumption) | split

theorem softLimit_within (h : Within P R s0 s) (p_merger : P .merger) (p_safety : P .safety) (p_router : P .router)
    (p_drawbar : P .drawbar) (p_slots : P .slots) (p_ic : P .ic) (p_tw : P .tw) (r_ds_EVENTS : R (.ds .EVENTS))
    (r_db_LSTAT : R (.db .LSTAT)) : Within P R s0 (softLimit x1 x2 s) := by
  unfold softLimit; try dsimp only
  repeat' first
    | with_reducible assumption
    | with_reducible refine slotEvent_within ?_ p_merger p_safety p_router p_ic p_tw r_ds_EVENTS
    | with_reducible refine acted_within ?_ p_slots | with_reducible refine coastEst_within ?_
    | with_reducible refine enterCoast_within ?_ p_slots
    | with_reducible refine slotOut_within ?_ p_safety p_router p_drawbar p_ic p_tw r_db_LSTAT
    | with_reducible refine within_pair ?_ (by assumption) | split

theorem reverseByCount_within (h : Within P R s0 s) (p_safety : P .safety) (p_router : P .router)
    (p_drawbar : P .drawbar) (p_slots : P .slots) (p_ic : P .ic) (p_tw : P .tw) (r_db_LSTAT : R (.db .LSTAT)) : Within
    P R s0 (reverseByCount x1 s) := by
  unfold reverseByCount; try dsimp only
  repeat' first
    | with_reducible assumption | with_reducible refine acted_within ?_ p_slots
    | with_reducible refine enterCoast_within ?_ p_slots
    | with_reducible refine slotOut_within ?_ p_safety p_router p_drawbar p_ic p_tw r_db_LSTAT
    | with_reducible refine within_pair ?_ (by assumption) | split

theorem reverseEnd_within (h : Within P R s0 s) (p_merger : P .merger) (p_safety : P .safety) (p_router : P .router)
    (p_drawbar : P .drawbar) (p_slots : P .slots) (p_prRun : P .prRun) (p_homing : P .homing) (p_ic : P .ic)
    (p_tw : P .tw) (r_db_LSTAT : R (.db .LSTAT)) (r_ds_STAT : R (.ds .STAT)) (r_ds_EVENTS : R (.ds .EVENTS)) : Within
    P R s0 (reverseEnd x1 s) := by
  unfold reverseEnd; try dsimp only
  repeat' first
    | with_reducible assumption
    | with_reducible refine slotEvent_within ?_ p_merger p_safety p_router p_ic p_tw r_ds_EVENTS
    | with_reducible refine acted_within ?_ p_slots
    | with_reducible refine serviceOnTrouble_within ?_ p_merger p_safety p_router p_drawbar
                        p_slots p_prRun p_homing p_ic p_tw r_ds_STAT r_ds_EVENTS r_db_LSTAT
    | with_reducible refine enterCoast_within ?_ p_slots
    | with_reducible refine slotOut_within ?_ p_safety p_router p_drawbar p_ic p_tw r_db_LSTAT
    | with_reducible refine within_pair ?_ (by assumption) | split

theorem enterReverse_within (h : Within P R s0 s) (p_safety : P .safety) (p_router : P .router)
    (p_drawbar : P .drawbar) (p_slots : P .slots) (p_ic : P .ic) (p_tw : P .tw) (r_db_LSTAT : R (.db .LSTAT)) : Within
    P R s0 (enterReverse x1 s) := by
  unfold enterReverse; try dsimp only
  repeat' first
    | with_reducible assumption | with_reducible refine updSlot_within ?_ p_slots
    | with_reducible refine slotOut_within ?_ p_safety p_router p_drawbar p_ic p_tw r_db_LSTAT

theorem slotPinch_within (h : Within P R s0 s) (p_merger : P .merger) (p_safety : P .safety) (p_router : P .router)
    (p_drawbar : P .drawbar) (p_slots : P .slots) (p_prRun : P .prRun) (p_homing : P .homing) (p_ic : P .ic)
    (p_tw : P .tw) (r_ds_STAT : R (.ds .STAT)) (r_ds_EVENTS : R (.ds .EVENTS)) (r_db_LSTAT : R (.db .LSTAT)) : Within
    P R s0 (slotPinch x1 s) := by
  unfold slotPinch; try dsimp only
  repeat' first
    | with_reducible assumption | with_reducible refine rejectCmd_within ?_ p_safety p_ic p_tw r_ds_STAT
    | with_reducible refine slotEvent_within ?_ p_merger p_safety p_router p_ic p_tw r_ds_EVENTS
    | with_reducible refine acted_within ?_ p_slots
    | with_reducible refine serviceOnTrouble_within ?_ p_merger p_safety p_router p_drawbar
                        p_slots p_prRun p_homing p_ic p_tw r_ds_STAT r_ds_EVENTS r_db_LSTAT
    | with_reducible refine enterReverse_within ?_ p_safety p_router p_drawbar p_slots p_ic p_tw r_db_LSTAT
    | with_reducible refine dsFlag_within ?_ p_safety p_ic p_tw r_ds_STAT
    | with_reducible refine enterCoast_within ?_ p_slots
    | with_reducible refine slotOut_within ?_ p_safety p_router p_drawbar p_ic p_tw r_db_LSTAT
    | with_reducible refine within_pair ?_ (by assumption) | split

theorem dryWord_within (h : Within P R s0 s) (p_merger : P .merger) (p_safety : P .safety) (p_router : P .router)
    (p_drawbar : P .drawbar) (p_slots : P .slots) (p_loop : P .loop) (p_ic : P .ic) (p_tw : P .tw)
    (r_ds_EVENTS : R (.ds .EVENTS)) (r_ds_STAT : R (.ds .STAT)) (r_db_LSTAT : R (.db .LSTAT)) : Within P R s0 (dryWord
    x1 x2 x3 x4 s) := by
  unfold dryWord; try dsimp only
  repeat' first
    | with_reducible assumption
    | with_reducible refine slotEvent_within ?_ p_merger p_safety p_router p_ic p_tw r_ds_EVENTS
    | with_reducible refine tripSlot_within ?_ p_safety p_router p_drawbar p_slots p_ic p_tw r_ds_STAT r_db_LSTAT
    | with_reducible refine updSlot_within ?_ p_slots
    | with_reducible refine pumpDry_within ?_ p_merger p_safety p_router p_drawbar p_slots
                        p_loop p_ic p_tw r_ds_STAT r_ds_EVENTS r_db_LSTAT
    | with_reducible refine within_pair ?_ (by assumption) | split

theorem imbScore_within (h : Within P R s0 s) (p_merger : P .merger) (p_safety : P .safety) (p_router : P .router)
    (p_drawbar : P .drawbar) (p_slots : P .slots) (p_ic : P .ic) (p_tw : P .tw) (r_ds_EVENTS : R (.ds .EVENTS))
    (r_ds_STAT : R (.ds .STAT)) (r_db_LSTAT : R (.db .LSTAT)) : Within P R s0 (imbScore x1 x2 x3 x4 s) := by
  unfold imbScore; try dsimp only
  repeat' first
    | with_reducible assumption
    | with_reducible refine slotEvent_within ?_ p_merger p_safety p_router p_ic p_tw r_ds_EVENTS
    | with_reducible refine tripSlot_within ?_ p_safety p_router p_drawbar p_slots p_ic p_tw r_ds_STAT r_db_LSTAT
    | with_reducible refine updSlot_within ?_ p_slots | with_reducible refine within_pair ?_ (by assumption) | split

theorem slotReading_within (h : Within P R s0 s) (p_merger : P .merger) (p_safety : P .safety) (p_router : P .router)
    (p_drawbar : P .drawbar) (p_slots : P .slots) (p_ic : P .ic) (p_tw : P .tw) (r_ds_EVENTS : R (.ds .EVENTS))
    (r_ds_STAT : R (.ds .STAT)) (r_db_LSTAT : R (.db .LSTAT)) : Within P R s0 (slotReading x1 x2 x3 x4 s) := by
  unfold slotReading; try dsimp only
  repeat' first
    | with_reducible assumption
    | with_reducible refine imbScore_within ?_ p_merger p_safety p_router p_drawbar p_slots p_ic
                        p_tw r_ds_EVENTS r_ds_STAT r_db_LSTAT
    | with_reducible refine updSlot_within ?_ p_slots | with_reducible refine within_pair ?_ (by assumption) | split

theorem speedWord_within (h : Within P R s0 s) (p_slots : P .slots) : Within P R s0 (speedWord x1 x2 x3 s) := by
  unfold speedWord; try dsimp only
  repeat' first
    | with_reducible assumption | with_reducible refine updSlot_within ?_ p_slots
    | with_reducible refine motionAt_within ?_ p_slots | with_reducible refine within_pair ?_ (by assumption) | split

theorem afterPosition_within (h : Within P R s0 s) (p_merger : P .merger) (p_safety : P .safety)
    (p_router : P .router) (p_drawbar : P .drawbar) (p_slots : P .slots) (p_homing : P .homing) (p_ic : P .ic)
    (p_tw : P .tw) (r_ds_STAT : R (.ds .STAT)) (r_ds_EVENTS : R (.ds .EVENTS)) (r_db_LSTAT : R (.db .LSTAT)) : Within
    P R s0 (afterPosition x1 x2 s) := by
  unfold afterPosition; try dsimp only
  repeat' first
    | with_reducible assumption
    | with_reducible refine reverseByCount_within ?_ p_safety p_router p_drawbar p_slots p_ic p_tw r_db_LSTAT
    | with_reducible refine softLimit_within ?_ p_merger p_safety p_router p_drawbar p_slots
                        p_ic p_tw r_ds_EVENTS r_db_LSTAT
    | with_reducible refine homingOnPosition_within ?_ p_merger p_safety p_router p_drawbar
                        p_slots p_homing p_ic p_tw r_ds_STAT r_ds_EVENTS r_db_LSTAT
    | with_reducible refine recallOnPosition_within ?_ p_merger p_safety p_router p_drawbar
                        p_slots p_ic p_tw r_ds_STAT r_ds_EVENTS r_db_LSTAT

theorem quantityWord_within (h : Within P R s0 s) (p_merger : P .merger) (p_safety : P .safety) (p_router : P .router)
    (p_drawbar : P .drawbar) (p_slots : P .slots) (p_loop : P .loop) (p_prRun : P .prRun) (p_homing : P .homing)
    (p_ic : P .ic) (p_tw : P .tw) (r_ds_STAT : R (.ds .STAT)) (r_ds_EVENTS : R (.ds .EVENTS))
    (r_db_LSTAT : R (.db .LSTAT)) (r_ds_RIPSTAT : R (.ds .RIPSTAT)) : Within P R s0 (quantityWord x1 x2 x3 x4 x5 s) := by
  unfold quantityWord; try dsimp only
  repeat' first
    | with_reducible assumption | with_reducible refine speedWord_within ?_ p_slots
    | with_reducible refine currentWord_within ?_ p_merger p_safety p_router p_drawbar p_slots
                        p_prRun p_homing p_ic p_tw r_ds_STAT r_db_LSTAT r_ds_EVENTS
    | with_reducible refine imbScore_within ?_ p_merger p_safety p_router p_drawbar p_slots p_ic
                        p_tw r_ds_EVENTS r_ds_STAT r_db_LSTAT
    | with_reducible refine setDoubt_within ?_ p_slots
    | with_reducible refine countWord_within ?_ p_merger p_safety p_router p_slots p_ic p_tw
                        r_ds_RIPSTAT r_ds_EVENTS
    | with_reducible refine afterPosition_within ?_ p_merger p_safety p_router p_drawbar p_slots
                        p_homing p_ic p_tw r_ds_STAT r_ds_EVENTS r_db_LSTAT
    | with_reducible refine potWord_within ?_ p_slots
    | with_reducible refine dryWord_within ?_ p_merger p_safety p_router p_drawbar p_slots
                        p_loop p_ic p_tw r_ds_EVENTS r_ds_STAT r_db_LSTAT
    | with_reducible refine within_pair ?_ (by assumption) | split

theorem slotWord_within (h : Within P R s0 s) (p_merger : P .merger) (p_safety : P .safety) (p_router : P .router)
    (p_drawbar : P .drawbar) (p_slots : P .slots) (p_loop : P .loop) (p_prRun : P .prRun) (p_homing : P .homing)
    (p_ic : P .ic) (p_tw : P .tw) (r_ds_VAL : R (.ds .VAL)) (r_ds_VALFLG : R (.ds .VALFLG))
    (r_ds_STAT : R (.ds .STAT)) (r_ds_EVENTS : R (.ds .EVENTS)) (r_db_LSTAT : R (.db .LSTAT))
    (r_ds_RIPSTAT : R (.ds .RIPSTAT)) : Within P R s0 (slotWord x1 x2 x3 x4 x5 x6 s) := by
  unfold slotWord; try dsimp only
  repeat' first
    | with_reducible assumption | with_reducible refine State.setReg_within ?_ (by assumption)
    | with_reducible refine quantityWord_within ?_ p_merger p_safety p_router p_drawbar p_slots
                        p_loop p_prRun p_homing p_ic p_tw r_ds_STAT r_ds_EVENTS r_db_LSTAT r_ds_RIPSTAT
    | with_reducible refine State.setFld_within ?_ (by assumption)
    | with_reducible refine slotMeasure_within ?_ p_merger | with_reducible refine updSlot_within ?_ p_slots
    | with_reducible refine within_pair ?_ (by assumption) | split

theorem trainWordToSlots_within (h : Within P R s0 s) (p_merger : P .merger) (p_safety : P .safety)
    (p_router : P .router) (p_drawbar : P .drawbar) (p_slots : P .slots) (p_loop : P .loop) (p_prRun : P .prRun)
    (p_homing : P .homing) (p_ic : P .ic) (p_tw : P .tw) (r_ds_VAL : R (.ds .VAL)) (r_ds_VALFLG : R (.ds .VALFLG))
    (r_ds_STAT : R (.ds .STAT)) (r_ds_EVENTS : R (.ds .EVENTS)) (r_db_LSTAT : R (.db .LSTAT))
    (r_ds_RIPSTAT : R (.ds .RIPSTAT)) : Within P R s0 (trainWordToSlots x1 x2 x3 x4 x5 x6 s) := by
  unfold trainWordToSlots; try dsimp only
  repeat' first
    | with_reducible assumption
    | with_reducible refine slotWord_within ?_ p_merger p_safety p_router p_drawbar p_slots
                        p_loop p_prRun p_homing p_ic p_tw r_ds_VAL r_ds_VALFLG r_ds_STAT r_ds_EVENTS r_db_LSTAT
                        r_ds_RIPSTAT
    | with_reducible refine within_foldl (fun _ _ h => ?_) ?_
    | with_reducible refine within_foldl_snd (fun _ _ h => ?_) ?_
    | with_reducible refine within_foldl_fst (fun _ _ h => ?_) ?_
    | with_reducible refine within_pair ?_ (by assumption) | split

theorem coastEnd_within (h : Within P R s0 s) (p_merger : P .merger) (p_safety : P .safety) (p_router : P .router)
    (p_drawbar : P .drawbar) (p_slots : P .slots) (p_prRun : P .prRun) (p_ic : P .ic) (p_tw : P .tw)
    (r_ds_STAT : R (.ds .STAT)) (r_ds_EVENTS : R (.ds .EVENTS)) (r_db_LSTAT : R (.db .LSTAT)) : Within P R s0
    (coastEnd x1 s) := by
  unfold coastEnd; try dsimp only
  repeat' first
    | with_reducible assumption
    | with_reducible refine slotEvent_within ?_ p_merger p_safety p_router p_ic p_tw r_ds_EVENTS
    | with_reducible refine acted_within ?_ p_slots | with_reducible refine updSlot_within ?_ p_slots
    | with_reducible refine coastEst_within ?_ | with_reducible refine positionRecord_within ?_ p_merger
    | with_reducible refine recallOnCoastEnd_within ?_ p_merger p_safety p_router p_drawbar
                        p_slots p_prRun p_ic p_tw r_ds_STAT r_ds_EVENTS r_db_LSTAT
    | with_reducible refine movePos_within ?_ p_slots | with_reducible refine within_pair ?_ (by assumption) | split

theorem reportTick_within (h : Within P R s0 s) (p_merger : P .merger) (p_slots : P .slots) : Within P R s0
    (reportTick x1 s) := by
  unfold reportTick; try dsimp only
  repeat' first
    | with_reducible assumption | with_reducible refine updSlot_within ?_ p_slots
    | with_reducible refine positionRecord_within ?_ p_merger | with_reducible refine within_pair ?_ (by assumption)
    | split

theorem writeDsCfg_within (h : Within P R s0 s) (p_slots : P .slots) (r_ds_CFG : R (.ds .CFG)) : Within P R s0
    (writeDsCfg x1 x2 s) := by
  unfold writeDsCfg; try dsimp only
  repeat' first
    | with_reducible assumption | with_reducible refine State.plainWrite_within ?_ (by assumption)
    | with_reducible refine updSlot_within ?_ p_slots

theorem writeReport_within (h : Within P R s0 s) (p_slots : P .slots) (r_ds_REPORT : R (.ds .REPORT)) : Within P R s0
    (writeReport x1 x2 s) := by
  unfold writeReport; try dsimp only
  repeat' first
    | with_reducible assumption | with_reducible refine State.plainWrite_within ?_ (by assumption)
    | with_reducible refine updSlot_within ?_ p_slots

theorem writeDsCmd_within (h : Within P R s0 s) (p_merger : P .merger) (p_safety : P .safety) (p_router : P .router)
    (p_timers : P .timers) (p_drawbar : P .drawbar) (p_slots : P .slots) (p_prRun : P .prRun) (p_homing : P .homing)
    (p_ic : P .ic) (p_tw : P .tw) (r_ds_STAT : R (.ds .STAT)) (r_ds_EVENTS : R (.ds .EVENTS))
    (r_db_LSTAT : R (.db .LSTAT)) (r_tm_STAT : R (.tm .STAT)) (r_tm_OUT : R (.tm .OUT)) (r_tm_CMPA : R (.tm .CMPA)) :
    Within P R s0 (writeDsCmd x1 x2 s) := by
  unfold writeDsCmd; try dsimp only
  repeat' first
    | with_reducible assumption
    | with_reducible refine slotDrive_within ?_ p_merger p_safety p_router p_drawbar p_slots
                        p_ic p_tw r_ds_STAT r_ds_EVENTS r_db_LSTAT
    | with_reducible refine slotClear_within ?_ p_safety p_slots p_ic p_tw r_ds_STAT
    | with_reducible refine slotSpeed_within ?_ p_safety p_router p_timers p_drawbar p_slots
                        p_ic p_tw r_ds_STAT r_tm_STAT r_tm_OUT r_tm_CMPA r_db_LSTAT
    | with_reducible refine slotOff_within ?_ p_merger p_safety p_router p_drawbar p_slots
                        p_prRun p_homing p_ic p_tw r_ds_STAT r_ds_EVENTS r_db_LSTAT
    | with_reducible refine within_pair ?_ (by assumption) | split

theorem recallStop_within (h : Within P R s0 s) (p_merger : P .merger) (p_safety : P .safety) (p_router : P .router)
    (p_drawbar : P .drawbar) (p_slots : P .slots) (p_prRun : P .prRun) (p_ic : P .ic) (p_tw : P .tw)
    (r_ds_STAT : R (.ds .STAT)) (r_ds_EVENTS : R (.ds .EVENTS)) (r_db_LSTAT : R (.db .LSTAT))
    (r_ds_PRCTL : R (.ds .PRCTL)) : Within P R s0 (recallStop s) := by
  unfold recallStop; try dsimp only
  repeat' first
    | with_reducible assumption | with_reducible refine State.clrReg_within ?_ (by assumption)
    | with_reducible refine recallAbort_within ?_ p_merger p_safety p_router p_drawbar p_slots
                        p_prRun p_ic p_tw r_ds_STAT r_ds_EVENTS r_db_LSTAT

theorem writePrCtl_within (h : Within P R s0 s) (p_merger : P .merger) (p_safety : P .safety) (p_router : P .router)
    (p_drawbar : P .drawbar) (p_slots : P .slots) (p_prRun : P .prRun) (p_ic : P .ic) (p_nvm : P .nvm) (p_tw : P .tw)
    (r_ds_PRCTL : R (.ds .PRCTL)) (r_ds_PRSTAT : R (.ds .PRSTAT)) (r_ds_PRMEM : R (.ds .PRMEM))
    (r_ds_STAT : R (.ds .STAT)) (r_ds_EVENTS : R (.ds .EVENTS)) (r_db_LSTAT : R (.db .LSTAT)) : Within P R s0
    (writePrCtl x1 s) := by
  unfold writePrCtl; try dsimp only
  repeat' first
    | with_reducible assumption | with_reducible refine State.setFld_within ?_ (by assumption)
    | with_reducible refine recallStop_within ?_ p_merger p_safety p_router p_drawbar p_slots
                        p_prRun p_ic p_tw r_ds_STAT r_ds_EVENTS r_db_LSTAT r_ds_PRCTL
    | with_reducible refine State.orReg_within ?_ p_safety p_ic p_tw (by assumption)
    | with_reducible refine recallSave_within ?_ p_safety p_ic p_nvm p_tw r_ds_PRSTAT r_ds_PRMEM
    | with_reducible refine within_pair ?_ (by assumption) | split

theorem writeFhCtl_within (h : Within P R s0 s) (p_merger : P .merger) (p_safety : P .safety) (p_router : P .router)
    (p_drawbar : P .drawbar) (p_slots : P .slots) (p_homing : P .homing) (p_ic : P .ic) (p_tw : P .tw)
    (r_ds_FHCTL : R (.ds .FHCTL)) (r_ds_STAT : R (.ds .STAT)) (r_ds_EVENTS : R (.ds .EVENTS))
    (r_db_LSTAT : R (.db .LSTAT)) : Within P R s0 (writeFhCtl x1 s) := by
  unfold writeFhCtl; try dsimp only
  repeat' first
    | with_reducible assumption | with_reducible refine State.clrReg_within ?_ (by assumption)
    | with_reducible refine homingAbort_within ?_ p_merger p_safety p_router p_drawbar p_slots
                        p_homing p_ic p_tw r_ds_STAT r_ds_EVENTS r_db_LSTAT
    | with_reducible refine State.setFld_within ?_ (by assumption)
    | with_reducible refine State.orReg_within ?_ p_safety p_ic p_tw (by assumption)
    | with_reducible refine within_pair ?_ (by assumption) | split

theorem dsRead_within (h : Within P R s0 s) (r_ds_POSH : R (.ds .POSH)) (r_ds_RIPSTAT : R (.ds .RIPSTAT)) : Within P R
    s0 (dsRead x1 x2 x3 x4 s).2 := by
  unfold dsRead; try dsimp only
  repeat' first
    | with_reducible assumption | with_reducible refine snapshot_within ?_ (by assumption)
    | with_reducible refine State.readClear_within ?_ (by assumption)
    | with_reducible refine within_pair ?_ (by assumption) | split

theorem dsPlain_within (h : Within P R s0 s) (r1 : R (Reg.ds x1)) : Within P R s0 (dsPlain x1 x2 x3 s) := by
  unfold dsPlain; try dsimp only
  repeat' first
    | with_reducible assumption | with_reducible refine State.plainWrite_within ?_ (by assumption)
    | with_reducible refine within_pair ?_ (by assumption) | split

theorem dsWrite_within (h : Within P R s0 s) (p_merger : P .merger) (p_safety : P .safety) (p_router : P .router)
    (p_timers : P .timers) (p_drawbar : P .drawbar) (p_slots : P .slots) (p_loop : P .loop) (p_prRun : P .prRun)
    (p_homing : P .homing) (p_ic : P .ic) (p_nvm : P .nvm) (p_tw : P .tw) (rAll : ∀ r, R r) : Within P R s0 (dsWrite
    x1 x2 x3 x4 s) := by
  unfold dsWrite; try dsimp only
  repeat' first
    | with_reducible assumption | with_reducible refine writeDsCfg_within ?_ p_slots (rAll _)
    | with_reducible refine dsPlain_within ?_ (rAll _)
    | with_reducible refine writeDsCmd_within ?_ p_merger p_safety p_router p_timers p_drawbar
                        p_slots p_prRun p_homing p_ic p_tw (rAll _) (rAll _) (rAll _) (rAll _) (rAll _) (rAll _)
    | with_reducible refine writeReport_within ?_ p_slots (rAll _)
    | with_reducible refine writeFhCtl_within ?_ p_merger p_safety p_router p_drawbar p_slots
                        p_homing p_ic p_tw (rAll _) (rAll _) (rAll _) (rAll _)
    | with_reducible refine writeSel_within ?_ (rAll _) | with_reducible refine State.plainWrite_within ?_ (rAll _)
    | with_reducible refine writePosition_within ?_ p_slots
    | with_reducible refine writeClCtl_within ?_ p_merger p_slots p_loop (rAll _)
    | with_reducible refine memoriesChanged_within ?_ p_nvm
    | with_reducible refine writePrCtl_within ?_ p_merger p_safety p_router p_drawbar p_slots
                        p_prRun p_ic p_nvm p_tw (rAll _) (rAll _) (rAll _) (rAll _) (rAll _) (rAll _)
    | with_reducible refine within_pair ?_ (by assumption) | split

end Sys2Proof.Machine
end

