-- ==== Sys2Proof/Laws/WithinCoach.lean ====
section
/-! SUPPORT. What each operation of Machine/Coach.lean can change: one lemma per operation (see Laws/WithinOps.lean). -/
namespace Sys2Proof.Machine
set_option Elab.async false

set_option linter.unusedVariables false
set_option linter.unusedSimpArgs false

variable {P : Part → Prop} {R : Reg → Prop} {s0 s t : State}

theorem updCoach_within (h : Within P R s0 s) (p_coach : P .coach) : Within P R s0 (updCoach x1 s) := by
  unfold updCoach; try dsimp only
  repeat' first
    | with_reducible assumption | with_reducible refine within_pair ?_ (by assumption) | split
    | (simp only [within_mk]
       refine WithinMk.intro ?_ rfl rfl rfl rfl (h_coach := .inl p_coach))

theorem updCar_within (h : Within P R s0 s) (p_coach : P .coach) : Within P R s0 (updCar x1 x2 s) := by
  unfold updCar; try dsimp only
  repeat' first
    | with_reducible assumption | with_reducible refine updCoach_within ?_ p_coach

theorem updTrain_within (h : Within P R s0 s) (p_coach : P .coach) : Within P R s0 (updTrain x1 x2 s) := by
  unfold updTrain; try dsimp only
  repeat' first
    | with_reducible assumption | with_reducible refine updCoach_within ?_ p_coach

theorem updLoader_within (h : Within P R s0 s) (p_coach : P .coach) : Within P R s0 (updLoader x1 s) := by
  unfold updLoader; try dsimp only
  repeat' first
    | with_reducible assumption | with_reducible refine updCoach_within ?_ p_coach

theorem setParity_within (h : Within P R s0 s) (p_coach : P .coach) : Within P R s0 (setParity x1 x2 x3 s) := by
  unfold setParity; try dsimp only
  repeat' first
    | with_reducible assumption | with_reducible refine updCoach_within ?_ p_coach

theorem setCarWord_within (h : Within P R s0 s) (p_mem : P .mem) (p_coach : P .coach) : Within P R s0 (setCarWord x1
    x2 x3 s) := by
  unfold setCarWord; try dsimp only
  repeat' first
    | with_reducible assumption | with_reducible refine State.writeWord_within ?_ p_mem
    | with_reducible refine setParity_within ?_ p_coach

theorem setHidden_within (h : Within P R s0 s) (p_coach : P .coach) : Within P R s0 (setHidden x1 x2 s) := by
  unfold setHidden; try dsimp only
  repeat' first
    | with_reducible assumption | with_reducible refine updCar_within ?_ p_coach

theorem setAcc_within (h : Within P R s0 s) (p_coach : P .coach) : Within P R s0 (setAcc x1 x2 s) := by
  unfold setAcc; try dsimp only
  repeat' first
    | with_reducible assumption | with_reducible refine updCar_within ?_ p_coach

theorem macAll_within (h : Within P R s0 s) (p_coach : P .coach) : Within P R s0 (macAll x1 x2 x3 s) := by
  unfold macAll; try dsimp only
  repeat' first
    | with_reducible assumption | with_reducible refine setAcc_within ?_ p_coach
    | with_reducible refine within_foldl (fun _ _ h => ?_) ?_

theorem sendAll_within (h : Within P R s0 s) (p_coach : P .coach) : Within P R s0 (sendAll x1 s) := by
  unfold sendAll; try dsimp only
  repeat' first
    | with_reducible assumption | with_reducible refine updCoach_within ?_ p_coach

theorem tryEmit_within (e : tryEmit x1 x2 x3 s = some t) (h : Within P R s0 s) (p_coach : P .coach) : Within P R s0 t := by
  unfold tryEmit at e
  dsimp only at e
  split at e
  · injection e with e
    subst e
    exact updCar_within (sendAll_within h p_coach) p_coach
  · cases e

theorem emitOrStall_within (h : Within P R s0 s) (p_coach : P .coach) : Within P R s0 (emitOrStall x1 x2 x3 s) := by
  unfold emitOrStall; try dsimp only
  repeat' first
    | with_reducible assumption | with_reducible refine updCar_within ?_ p_coach
    | with_reducible refine tryEmit_within (by assumption) ?_ p_coach
    | with_reducible refine within_pair ?_ (by assumption) | split

theorem updTap_within (h : Within P R s0 s) (p_coach : P .coach) : Within P R s0 (updTap x1 x2 s) := by
  unfold updTap; try dsimp only
  repeat' first
    | with_reducible assumption | with_reducible refine updCoach_within ?_ p_coach

theorem tapOne_within (h : Within P R s0 s) (p_safety : P .safety) (p_coach : P .coach) (p_ic : P .ic) (p_tw : P .tw)
    (r_cw_TAPOVR : R (.cw .TAPOVR)) : Within P R s0 (tapOne x1 x2 x3 x4 x5 s) := by
  unfold tapOne; try dsimp only
  repeat' first
    | with_reducible assumption | with_reducible refine updTap_within ?_ p_coach
    | with_reducible refine State.orReg_within ?_ p_safety p_ic p_tw (by assumption)
    | with_reducible refine sendAll_within ?_ p_coach | with_reducible refine within_pair ?_ (by assumption) | split

theorem tapWord_within (h : Within P R s0 s) (p_safety : P .safety) (p_coach : P .coach) (p_ic : P .ic) (p_tw : P .tw)
    (r_cw_TAPOVR : R (.cw .TAPOVR)) : Within P R s0 (tapWord x1 x2 x3 x4 x5 s) := by
  unfold tapWord; try dsimp only
  repeat' first
    | with_reducible assumption | with_reducible refine tapOne_within ?_ p_safety p_coach p_ic p_tw r_cw_TAPOVR
    | with_reducible refine within_foldl (fun _ _ h => ?_) ?_
    | with_reducible refine within_foldl_snd (fun _ _ h => ?_) ?_
    | with_reducible refine within_foldl_fst (fun _ _ h => ?_) ?_
    | with_reducible refine within_pair ?_ (by assumption) | split

theorem tapGap_within (h : Within P R s0 s) (p_coach : P .coach) : Within P R s0 (tapGap x1 s) := by
  unfold tapGap; try dsimp only
  repeat' first
    | with_reducible assumption | with_reducible refine updCoach_within ?_ p_coach

theorem setX_within (h : Within P R s0 s) (p_coach : P .coach) : Within P R s0 (setX x1 x2 s) := by
  unfold setX; try dsimp only
  repeat' first
    | with_reducible assumption | with_reducible refine updCar_within ?_ p_coach

theorem setPc_within (h : Within P R s0 s) (p_coach : P .coach) : Within P R s0 (setPc x1 x2 s) := by
  unfold setPc; try dsimp only
  repeat' first
    | with_reducible assumption | with_reducible refine updCar_within ?_ p_coach

theorem takePort_within (h : Within P R s0 s) (p_coach : P .coach) : Within P R s0 (takePort x1 x2 s).2 := by
  unfold takePort; try dsimp only
  repeat' first
    | with_reducible assumption | with_reducible refine updCar_within ?_ p_coach
    | with_reducible refine within_pair ?_ (by assumption) | split

theorem toDst_within (h : Within P R s0 s) (p_coach : P .coach) : Within P R s0 (toDst x1 x2 x3 s) := by
  unfold toDst; try dsimp only
  repeat' first
    | with_reducible assumption | with_reducible refine setX_within ?_ p_coach
    | with_reducible refine setAcc_within ?_ p_coach | with_reducible refine within_pair ?_ (by assumption) | split

theorem opFir_within (h : Within P R s0 s) (p_mem : P .mem) (p_coach : P .coach) : Within P R s0 (opFir x1 x2 s).2 := by
  unfold opFir; try dsimp only
  repeat' first
    | with_reducible assumption | with_reducible refine setHidden_within ?_ p_coach
    | with_reducible refine setCarWord_within ?_ p_mem p_coach | with_reducible refine macAll_within ?_ p_coach
    | with_reducible refine within_pair ?_ (by assumption) | split

theorem biqSection_within (h : Within P R s0 s) (p_mem : P .mem) (p_coach : P .coach) : Within P R s0 (biqSection x1
    x2 x3 x4 x5 x6 s).2 := by
  unfold biqSection; try dsimp only
  repeat' first
    | with_reducible assumption | with_reducible refine setCarWord_within ?_ p_mem p_coach
    | with_reducible refine macAll_within ?_ p_coach

theorem opBiq_within (h : Within P R s0 s) (p_mem : P .mem) (p_coach : P .coach) : Within P R s0 (opBiq x1 x2 s).2 := by
  unfold opBiq; try dsimp only
  repeat' first
    | with_reducible assumption | with_reducible refine biqSection_within ?_ p_mem p_coach
    | with_reducible refine setHidden_within ?_ p_coach | with_reducible refine within_foldl (fun _ _ h => ?_) ?_
    | with_reducible refine within_foldl_snd (fun _ _ h => ?_) ?_

theorem opCic_within (h : Within P R s0 s) (p_mem : P .mem) (p_coach : P .coach) : Within P R s0 (opCic x1 x2 s).2 := by
  unfold opCic; try dsimp only
  repeat' first
    | with_reducible assumption | with_reducible refine setHidden_within ?_ p_coach
    | with_reducible refine setCarWord_within ?_ p_mem p_coach
    | with_reducible refine within_foldl (fun _ _ h => ?_) ?_
    | with_reducible refine within_foldl_snd (fun _ _ h => ?_) ?_
    | with_reducible refine within_foldl_fst (fun _ _ h => ?_) ?_
    | with_reducible refine within_pair ?_ (by assumption) | split

theorem opEnv_within (h : Within P R s0 s) (p_mem : P .mem) (p_coach : P .coach) : Within P R s0 (opEnv x1 x2 s).2 := by
  unfold opEnv; try dsimp only
  repeat' first
    | with_reducible assumption | with_reducible refine setCarWord_within ?_ p_mem p_coach

theorem opThr_within (h : Within P R s0 s) (p_coach : P .coach) : Within P R s0 (opThr x1 x2 s) := by
  unfold opThr; try dsimp only
  repeat' first
    | with_reducible assumption | with_reducible refine updCar_within ?_ p_coach
    | with_reducible refine within_pair ?_ (by assumption) | split

theorem opCnt_within (h : Within P R s0 s) (p_mem : P .mem) (p_coach : P .coach) : Within P R s0 (opCnt x1 x2 s).2 := by
  unfold opCnt; try dsimp only
  repeat' first
    | with_reducible assumption | with_reducible refine setHidden_within ?_ p_coach
    | with_reducible refine setCarWord_within ?_ p_mem p_coach | with_reducible refine within_pair ?_ (by assumption)
    | split

theorem opPeak_within (h : Within P R s0 s) (p_mem : P .mem) (p_coach : P .coach) : Within P R s0 (opPeak x1 x2 s).2 := by
  unfold opPeak; try dsimp only
  repeat' first
    | with_reducible assumption | with_reducible refine setCarWord_within ?_ p_mem p_coach
    | with_reducible refine within_pair ?_ (by assumption) | split

theorem trainEvent_within (h : Within P R s0 s) (p_safety : P .safety) (p_router : P .router) (p_coach : P .coach)
    (p_ic : P .ic) (p_tw : P .tw) (r_cw_STAT : R (.cw .STAT)) : Within P R s0 (trainEvent x1 x2 s) := by
  unfold trainEvent; try dsimp only
  repeat' first
    | with_reducible assumption | with_reducible refine State.orReg_within ?_ p_safety p_ic p_tw (by assumption)
    | with_reducible refine updTrain_within ?_ p_coach | with_reducible refine enqueuePub_within ?_ p_router
    | with_reducible refine within_pair ?_ (by assumption) | split

theorem opRec_within (h : Within P R s0 s) (p_mem : P .mem) (p_safety : P .safety) (p_router : P .router)
    (p_coach : P .coach) (p_ic : P .ic) (p_tw : P .tw) (r_cw_STAT : R (.cw .STAT)) : Within P R s0 (opRec x1 x2 s) := by
  unfold opRec; try dsimp only
  repeat' first
    | with_reducible assumption | with_reducible refine setCarWord_within ?_ p_mem p_coach
    | with_reducible refine updCar_within ?_ p_coach
    | with_reducible refine trainEvent_within ?_ p_safety p_router p_coach p_ic p_tw r_cw_STAT
    | with_reducible refine within_pair ?_ (by assumption) | split

theorem opDly_within (h : Within P R s0 s) (p_mem : P .mem) (p_coach : P .coach) : Within P R s0 (opDly x1 x2 s).2 := by
  unfold opDly; try dsimp only
  repeat' first
    | with_reducible assumption | with_reducible refine setCarWord_within ?_ p_mem p_coach

theorem opEffect_within (h : Within P R s0 s) (p_mem : P .mem) (p_safety : P .safety) (p_router : P .router)
    (p_coach : P .coach) (p_ic : P .ic) (p_tw : P .tw) (r_cw_STAT : R (.cw .STAT)) : Within P R s0 (opEffect x1 x2 x3
    s).2 := by
  unfold opEffect; try dsimp only
  repeat' first
    | with_reducible assumption | with_reducible refine opThr_within ?_ p_coach
    | with_reducible refine opRec_within ?_ p_mem p_safety p_router p_coach p_ic p_tw r_cw_STAT
    | with_reducible refine opPeak_within ?_ p_mem p_coach | with_reducible refine opCic_within ?_ p_mem p_coach
    | with_reducible refine opCnt_within ?_ p_mem p_coach | with_reducible refine opDly_within ?_ p_mem p_coach
    | with_reducible refine setAcc_within ?_ p_coach | with_reducible refine opEnv_within ?_ p_mem p_coach
    | with_reducible refine updCar_within ?_ p_coach | with_reducible refine opBiq_within ?_ p_mem p_coach
    | with_reducible refine opFir_within ?_ p_mem p_coach
    | with_reducible refine trainEvent_within ?_ p_safety p_router p_coach p_ic p_tw r_cw_STAT
    | with_reducible refine within_pair ?_ (by assumption) | split

theorem execMicro_within (h : Within P R s0 s) (p_mem : P .mem) (p_safety : P .safety) (p_router : P .router)
    (p_coach : P .coach) (p_ic : P .ic) (p_tw : P .tw) (r_cw_STAT : R (.cw .STAT)) : Within P R s0 (execMicro x1 x2 x3
    s) := by
  unfold execMicro; try dsimp only
  repeat' first
    | with_reducible assumption | with_reducible refine setX_within ?_ p_coach
    | with_reducible refine opEffect_within ?_ p_mem p_safety p_router p_coach p_ic p_tw r_cw_STAT
    | with_reducible refine toDst_within ?_ p_coach | with_reducible refine emitOrStall_within ?_ p_coach
    | with_reducible refine setPc_within ?_ p_coach | with_reducible refine within_pair ?_ (by assumption) | split

end Sys2Proof.Machine
end

