-- ==== Sys2Proof/Laws/WithinConsistApply.lean ====
section
/-! SUPPORT. What each operation of Machine/ConsistApply.lean can change: one lemma per operation (see Laws/WithinOps.lean). -/
namespace Sys2Proof.Machine
set_option Elab.async false

set_option linter.unusedVariables false
set_option linter.unusedSimpArgs false

variable {P : Part → Prop} {R : Reg → Prop} {s0 s t : State}

theorem unbindChannel_within (h : Within P R s0 s) (r_ev_PUB : R (.ev .PUB)) (r_ev_SUB : R (.ev .SUB))
    (r_ev_CCFG : R (.ev .CCFG)) : Within P R s0 (unbindChannel x1 s) := by
  unfold unbindChannel; try dsimp only
  repeat' first
    | with_reducible assumption | with_reducible refine State.setReg_within ?_ (by assumption)
    | with_reducible refine within_foldl (fun _ _ h => ?_) ?_

theorem bindEntry_within (h : Within P R s0 s) (r1 : R (Reg.ev x1)) : Within P R s0 (bindEntry x1 x2 x3 x4 s) := by
  unfold bindEntry; try dsimp only
  repeat' first
    | with_reducible assumption | with_reducible refine State.setReg_within ?_ (by assumption)
    | with_reducible refine within_pair ?_ (by assumption) | split

theorem connectTrain_within (h : Within P R s0 s) (r_ev_PUB : R (.ev .PUB)) : Within P R s0 (connectTrain x1 s) := by
  unfold connectTrain; try dsimp only
  repeat' first
    | with_reducible assumption | with_reducible refine bindEntry_within ?_ (by assumption)
    | with_reducible refine within_foldl (fun _ _ h => ?_) ?_
    | with_reducible refine within_foldl_snd (fun _ _ h => ?_) ?_
    | with_reducible refine within_foldl_fst (fun _ _ h => ?_) ?_
    | with_reducible refine within_pair ?_ (by assumption) | split

theorem disconnectTrain_within (h : Within P R s0 s) (r_ev_PUB : R (.ev .PUB)) : Within P R s0 (disconnectTrain x1 s) := by
  unfold disconnectTrain; try dsimp only
  repeat' first
    | with_reducible assumption | with_reducible refine State.setReg_within ?_ (by assumption)
    | with_reducible refine within_foldl (fun _ _ h => ?_) ?_
    | with_reducible refine within_foldl_snd (fun _ _ h => ?_) ?_
    | with_reducible refine within_foldl_fst (fun _ _ h => ?_) ?_
    | with_reducible refine within_pair ?_ (by assumption) | split

theorem applyEvent_within (h : Within P R s0 s) (p_safety : P .safety) (p_ic : P .ic) (p_tw : P .tw)
    (r_ev_CCFG : R (.ev .CCFG)) (r_sp_PEVT : R (.sp .PEVT)) (r_ev_PUB : R (.ev .PUB)) (r_ln_CTRL : R (.ln .CTRL))
    (r_sp_PCFG : R (.sp .PCFG)) (r_ev_SUB : R (.ev .SUB)) : Within P R s0 (applyEvent x1 s) := by
  unfold applyEvent; try dsimp only
  repeat' first
    | with_reducible assumption | with_reducible refine State.setReg_within ?_ (by assumption)
    | with_reducible refine bindEntry_within ?_ (by assumption)
    | with_reducible refine State.setFld_within ?_ (by assumption)
    | with_reducible refine State.orReg_within ?_ p_safety p_ic p_tw (by assumption)
    | with_reducible refine within_pair ?_ (by assumption) | split

theorem applyEventsFull_within (h : Within P R s0 s) (p_safety : P .safety) (p_ic : P .ic) (p_tw : P .tw)
    (r_ev_PUB : R (.ev .PUB)) (r_ev_SUB : R (.ev .SUB)) (r_ev_CCFG : R (.ev .CCFG)) (r_ev_GATE : R (.ev .GATE))
    (r_sp_PEVT : R (.sp .PEVT)) (r_ln_CTRL : R (.ln .CTRL)) (r_sp_PCFG : R (.sp .PCFG)) : Within P R s0
    (applyEventsFull x1 x2 s) := by
  unfold applyEventsFull; try dsimp only
  repeat' first
    | with_reducible assumption | with_reducible refine State.setReg_within ?_ (by assumption)
    | with_reducible refine unbindChannel_within ?_ r_ev_PUB r_ev_SUB r_ev_CCFG
    | with_reducible refine connectTrain_within ?_ r_ev_PUB
    | with_reducible refine applyEvent_within ?_ p_safety p_ic p_tw r_ev_CCFG r_sp_PEVT r_ev_PUB
                        r_ln_CTRL r_sp_PCFG r_ev_SUB
    | with_reducible refine within_foldl (fun _ _ h => ?_) ?_

theorem applyEventsShunt_within (h : Within P R s0 s) (p_safety : P .safety) (p_ic : P .ic) (p_tw : P .tw)
    (r_ev_PUB : R (.ev .PUB)) (r_ev_SUB : R (.ev .SUB)) (r_ev_CCFG : R (.ev .CCFG)) (r_sp_PEVT : R (.sp .PEVT))
    (r_ln_CTRL : R (.ln .CTRL)) (r_sp_PCFG : R (.sp .PCFG)) : Within P R s0 (applyEventsShunt x1 x2 s) := by
  unfold applyEventsShunt; try dsimp only
  repeat' first
    | with_reducible assumption | with_reducible refine unbindChannel_within ?_ r_ev_PUB r_ev_SUB r_ev_CCFG
    | with_reducible refine connectTrain_within ?_ r_ev_PUB
    | with_reducible refine applyEvent_within ?_ p_safety p_ic p_tw r_ev_CCFG r_sp_PEVT r_ev_PUB
                        r_ln_CTRL r_sp_PCFG r_ev_SUB
    | with_reducible refine within_foldl (fun _ _ h => ?_) ?_
    | with_reducible refine within_foldl_snd (fun _ _ h => ?_) ?_
    | with_reducible refine within_foldl_fst (fun _ _ h => ?_) ?_
    | with_reducible refine within_pair ?_ (by assumption) | split

theorem applyDrive_within (h : Within P R s0 s) (p_slots : P .slots) (rAll : ∀ r, R r) : Within P R s0 (applyDrive x1
    s) := by
  unfold applyDrive; try dsimp only
  repeat' first
    | with_reducible assumption | with_reducible refine State.plainWrite_within ?_ (rAll _)
    | with_reducible refine updSlot_within ?_ p_slots | with_reducible refine slotReconfigured_within ?_ p_slots
    | with_reducible refine within_foldl (fun _ _ h => ?_) ?_
    | with_reducible refine within_foldl_snd (fun _ _ h => ?_) ?_
    | with_reducible refine within_foldl_fst (fun _ _ h => ?_) ?_
    | with_reducible refine within_pair ?_ (by assumption) | split

theorem resetDrive_within (h : Within P R s0 s) (p_slots : P .slots) (rAll : ∀ r, R r) : Within P R s0 (resetDrive x1
    s) := by
  unfold resetDrive; try dsimp only
  repeat' first
    | with_reducible assumption | with_reducible refine applyDrive_within ?_ p_slots rAll

theorem applyLane_within (h : Within P R s0 s) (p_lanes : P .lanes) (r_ln_CTRL : R (.ln .CTRL))
    (r_ln_PERIOD : R (.ln .PERIOD)) (r_ln_SETTLE : R (.ln .SETTLE)) (r_ln_SCAN : R (.ln .SCAN)) : Within P R s0
    (applyLane x1 x2 s) := by
  unfold applyLane; try dsimp only
  repeat' first
    | with_reducible assumption | with_reducible refine State.plainWrite_within ?_ (by assumption)
    | with_reducible refine within_foldl (fun _ _ h => ?_) ?_
    | with_reducible refine within_foldl_snd (fun _ _ h => ?_) ?_
    | with_reducible refine within_foldl_fst (fun _ _ h => ?_) ?_
    | with_reducible refine within_pair ?_ (by assumption) | split
    | (simp only [within_mk]
       refine WithinMk.intro ?_ rfl rfl rfl rfl (h_lanes := .inl p_lanes))

theorem writeCache_within (h : Within P R s0 s) (p_mem : P .mem) (p_coach : P .coach) : Within P R s0 (writeCache x1
    s) := by
  unfold writeCache; try dsimp only
  repeat' first
    | with_reducible assumption | with_reducible refine State.writeBytes_within ?_ p_mem
    | with_reducible refine updLoader_within ?_ p_coach

theorem loadCarriage_within (h : Within P R s0 s) (p_mem : P .mem) (p_coach : P .coach) : Within P R s0 (loadCarriage
    x1 x2 s) := by
  unfold loadCarriage; try dsimp only
  repeat' first
    | with_reducible assumption | with_reducible refine updCoach_within ?_ p_coach
    | with_reducible refine State.writeWords_within ?_ p_mem | with_reducible refine updCar_within ?_ p_coach

theorem startCar_within (h : Within P R s0 s) (p_mem : P .mem) (p_coach : P .coach) : Within P R s0 (startCar x1 x2 s) := by
  unfold startCar; try dsimp only
  repeat' first
    | with_reducible assumption | with_reducible refine setCarWord_within ?_ p_mem p_coach
    | with_reducible refine updCar_within ?_ p_coach | with_reducible refine within_foldl (fun _ _ h => ?_) ?_
    | with_reducible refine within_foldl_snd (fun _ _ h => ?_) ?_
    | with_reducible refine within_foldl_fst (fun _ _ h => ?_) ?_
    | with_reducible refine within_pair ?_ (by assumption) | split

end Sys2Proof.Machine
end

