-- ==== Sys2Proof/Laws/WithinTrains.lean ====
section
/-! SUPPORT. What each operation of Machine/Trains.lean can change: one lemma per operation (see Laws/WithinOps.lean). -/
namespace Sys2Proof.Machine
set_option Elab.async false

set_option linter.unusedVariables false
set_option linter.unusedSimpArgs false

variable {P : Part → Prop} {R : Reg → Prop} {s0 s t : State}

theorem discardWords_within (h : Within P R s0 s) (p_coach : P .coach) : Within P R s0 (discardWords x1 s) := by
  unfold discardWords; try dsimp only
  repeat' first
    | with_reducible assumption | with_reducible refine updCoach_within ?_ p_coach
    | with_reducible refine updTrain_within ?_ p_coach

theorem emptyTrain_within (h : Within P R s0 s) (p_coach : P .coach) : Within P R s0 (emptyTrain x1 s) := by
  unfold emptyTrain; try dsimp only
  repeat' first
    | with_reducible assumption | with_reducible refine updCoach_within ?_ p_coach
    | with_reducible refine discardWords_within ?_ p_coach | with_reducible refine updTrain_within ?_ p_coach

theorem longOutcome_within (h : Within P R s0 s) (p_host : P .host) (p_tw : P .tw) : Within P R s0 (longOutcome x1 x2
    s) := by
  unfold longOutcome; try dsimp only
  repeat' first
    | with_reducible assumption | with_reducible refine within_pair ?_ (by assumption) | split
    | (simp only [within_mk]
       refine WithinMk.intro ?_ rfl rfl rfl rfl (h_host := .inl p_host) (h_tw := .inl p_tw))

theorem loaderFinish_within (h : Within P R s0 s) (p_safety : P .safety) (p_coach : P .coach) (p_ic : P .ic)
    (p_host : P .host) (p_tw : P .tw) (r_cw_LDSTAT : R (.cw .LDSTAT)) : Within P R s0 (loaderFinish x1 s) := by
  unfold loaderFinish; try dsimp only
  repeat' first
    | with_reducible assumption | with_reducible refine State.orReg_within ?_ p_safety p_ic p_tw (by assumption)
    | with_reducible refine updLoader_within ?_ p_coach | with_reducible refine longOutcome_within ?_ p_host p_tw

theorem handoverEnd_within (h : Within P R s0 s) (p_safety : P .safety) (p_coach : P .coach) (p_ic : P .ic)
    (p_host : P .host) (p_tw : P .tw) (r_cw_LDSTAT : R (.cw .LDSTAT)) : Within P R s0 (handoverEnd x1 s) := by
  unfold handoverEnd; try dsimp only
  repeat' first
    | with_reducible assumption
    | with_reducible refine loaderFinish_within ?_ p_safety p_coach p_ic p_host p_tw r_cw_LDSTAT
    | with_reducible refine emptyTrain_within ?_ p_coach | with_reducible refine within_pair ?_ (by assumption)
    | split

theorem holdsWithoutSubst_within (h : Within P R s0 s) (p_merger : P .merger) : Within P R s0 (holdsWithoutSubst x1 s) := by
  unfold holdsWithoutSubst; try dsimp only
  repeat' first
    | with_reducible assumption | with_reducible refine within_pair ?_ (by assumption) | split
    | (simp only [within_mk]
       refine WithinMk.intro ?_ rfl rfl rfl rfl (h_merger := .inl p_merger))

theorem faultTrain_within (h : Within P R s0 s) (p_merger : P .merger) (p_safety : P .safety) (p_router : P .router)
    (p_drawbar : P .drawbar) (p_slots : P .slots) (p_coach : P .coach) (p_ic : P .ic) (p_host : P .host)
    (p_tw : P .tw) (r_rk_STAT : R (.rk .STAT)) (r_cw_TFAULT : R (.cw .TFAULT)) (r_cw_LDSTAT : R (.cw .LDSTAT))
    (r_ds_EVENTS : R (.ds .EVENTS)) (r_db_LSTAT : R (.db .LSTAT)) : Within P R s0 (faultTrain x1 s) := by
  unfold faultTrain; try dsimp only
  repeat' first
    | with_reducible assumption
    | with_reducible refine degradeTrainSlots_within ?_ p_merger p_safety p_router p_drawbar
                        p_slots p_ic p_tw r_ds_EVENTS r_db_LSTAT
    | with_reducible refine handoverEnd_within ?_ p_safety p_coach p_ic p_host p_tw r_cw_LDSTAT
    | with_reducible refine declareHold_within ?_ p_merger p_safety p_ic p_tw r_rk_STAT
    | with_reducible refine discardWords_within ?_ p_coach
    | with_reducible refine State.orReg_within ?_ p_safety p_ic p_tw (by assumption)
    | with_reducible refine holdsWithoutSubst_within ?_ p_merger | with_reducible refine updTrain_within ?_ p_coach
    | with_reducible refine emitGap_within ?_ p_merger | with_reducible refine within_foldl (fun _ _ h => ?_) ?_
    | with_reducible refine within_foldl_snd (fun _ _ h => ?_) ?_
    | with_reducible refine within_foldl_fst (fun _ _ h => ?_) ?_
    | with_reducible refine within_pair ?_ (by assumption) | split

theorem trainNoSpare_within (h : Within P R s0 s) (p_merger : P .merger) (p_safety : P .safety) (p_router : P .router)
    (p_drawbar : P .drawbar) (p_slots : P .slots) (p_coach : P .coach) (p_ic : P .ic) (p_host : P .host)
    (p_tw : P .tw) (r_al_FSTAT : R (.al .FSTAT)) (r_cw_STAT : R (.cw .STAT)) (r_rk_STAT : R (.rk .STAT))
    (r_cw_TFAULT : R (.cw .TFAULT)) (r_cw_LDSTAT : R (.cw .LDSTAT)) (r_ds_EVENTS : R (.ds .EVENTS))
    (r_db_LSTAT : R (.db .LSTAT)) : Within P R s0 (trainNoSpare x1 x2 s) := by
  unfold trainNoSpare; try dsimp only
  repeat' first
    | with_reducible assumption | with_reducible refine almanac_within ?_ p_safety
    | with_reducible refine faultTrain_within ?_ p_merger p_safety p_router p_drawbar p_slots
                        p_coach p_ic p_host p_tw r_rk_STAT r_cw_TFAULT r_cw_LDSTAT r_ds_EVENTS r_db_LSTAT
    | with_reducible refine fstat_within ?_ p_safety p_ic p_tw r_al_FSTAT
    | with_reducible refine State.orReg_within ?_ p_safety p_ic p_tw (by assumption)

theorem substRecord_within (h : Within P R s0 s) (p_merger : P .merger) : Within P R s0 (substRecord x1 x2 x3 x4 s) := by
  unfold substRecord; try dsimp only
  repeat' first
    | with_reducible assumption | with_reducible refine emit_within ?_ p_merger

theorem substDone_within (h : Within P R s0 s) (p_safety : P .safety) (p_coach : P .coach) (p_ic : P .ic)
    (p_tw : P .tw) (r_cw_STAT : R (.cw .STAT)) (r_cw_NSUBST : R (.cw .NSUBST)) (r_cw_TFAULT : R (.cw .TFAULT)) :
    Within P R s0 (substDone x1 x2 s) := by
  unfold substDone; try dsimp only
  repeat' first
    | with_reducible assumption | with_reducible refine updCoach_within ?_ p_coach
    | with_reducible refine almanac_within ?_ p_safety
    | with_reducible refine State.countFld_within ?_ (by assumption)
    | with_reducible refine State.orReg_within ?_ p_safety p_ic p_tw (by assumption)
    | with_reducible refine within_pair ?_ (by assumption) | split

theorem reserveSpare_within (h : Within P R s0 s) (p_coach : P .coach) : Within P R s0 (reserveSpare x1 x2 x3 s) := by
  unfold reserveSpare; try dsimp only
  repeat' first
    | with_reducible assumption | with_reducible refine updCoach_within ?_ p_coach
    | with_reducible refine updCar_within ?_ p_coach

theorem cacheFault_within (h : Within P R s0 s) (p_safety : P .safety) (p_ic : P .ic) (p_tw : P .tw)
    (r_al_FSTAT : R (.al .FSTAT)) (r_cw_LDSTAT : R (.cw .LDSTAT)) : Within P R s0 (cacheFault x1 x2 s) := by
  unfold cacheFault; try dsimp only
  repeat' first
    | with_reducible assumption | with_reducible refine almanac_within ?_ p_safety
    | with_reducible refine fstat_within ?_ p_safety p_ic p_tw r_al_FSTAT
    | with_reducible refine State.orReg_within ?_ p_safety p_ic p_tw (by assumption)

theorem handoverExchange_within (h : Within P R s0 s) (p_safety : P .safety) (p_slots : P .slots) (p_coach : P .coach)
    (p_ic : P .ic) (p_tw : P .tw) (rAll : ∀ r, R r) : Within P R s0 (handoverExchange x1 s) := by
  unfold handoverExchange; try dsimp only
  repeat' first
    | with_reducible assumption | with_reducible refine updCoach_within ?_ p_coach
    | with_reducible refine State.setReg_within ?_ (rAll _) | with_reducible refine applyDrive_within ?_ p_slots rAll
    | with_reducible refine State.orReg_within ?_ p_safety p_ic p_tw (rAll _)
    | with_reducible refine applyEventsShunt_within ?_ p_safety p_ic p_tw (rAll _) (rAll _)
                        (rAll _) (rAll _) (rAll _) (rAll _)
    | with_reducible refine connectTrain_within ?_ (rAll _) | with_reducible refine updTrain_within ?_ p_coach
    | with_reducible refine updLoader_within ?_ p_coach | with_reducible refine disconnectTrain_within ?_ (rAll _)
    | with_reducible refine within_foldl (fun _ _ h => ?_) ?_
    | with_reducible refine within_foldl_snd (fun _ _ h => ?_) ?_
    | with_reducible refine within_foldl_fst (fun _ _ h => ?_) ?_
    | with_reducible refine within_pair ?_ (by assumption) | split

theorem startTrain_within (h : Within P R s0 s) (p_mem : P .mem) (p_coach : P .coach) : Within P R s0 (startTrain x1
    s) := by
  unfold startTrain; try dsimp only
  repeat' first
    | with_reducible assumption | with_reducible refine updCoach_within ?_ p_coach
    | with_reducible refine discardWords_within ?_ p_coach | with_reducible refine updTrain_within ?_ p_coach
    | with_reducible refine startCar_within ?_ p_mem p_coach
    | with_reducible refine within_foldl (fun _ _ h => ?_) ?_
    | with_reducible refine within_foldl_snd (fun _ _ h => ?_) ?_
    | with_reducible refine within_foldl_fst (fun _ _ h => ?_) ?_
    | with_reducible refine within_pair ?_ (by assumption) | split

theorem stagingStarted_within (h : Within P R s0 s) (p_safety : P .safety) (p_slots : P .slots) (p_coach : P .coach)
    (p_ic : P .ic) (p_tw : P .tw) (rAll : ∀ r, R r) : Within P R s0 (stagingStarted x1 s) := by
  unfold stagingStarted; try dsimp only
  repeat' first
    | with_reducible assumption
    | with_reducible refine handoverExchange_within ?_ p_safety p_slots p_coach p_ic p_tw rAll
    | with_reducible refine within_pair ?_ (by assumption) | split

theorem substLoad_within (h : Within P R s0 s) (p_mem : P .mem) (p_merger : P .merger) (p_safety : P .safety)
    (p_router : P .router) (p_drawbar : P .drawbar) (p_slots : P .slots) (p_coach : P .coach) (p_ic : P .ic)
    (p_host : P .host) (p_tw : P .tw) (rAll : ∀ r, R r) : Within P R s0 (substLoad x1 x2 s) := by
  unfold substLoad; try dsimp only
  repeat' first
    | with_reducible assumption | with_reducible refine cacheFault_within ?_ p_safety p_ic p_tw (rAll _) (rAll _)
    | with_reducible refine startTrain_within ?_ p_mem p_coach
    | with_reducible refine faultTrain_within ?_ p_merger p_safety p_router p_drawbar p_slots
                        p_coach p_ic p_host p_tw (rAll _) (rAll _) (rAll _) (rAll _) (rAll _)
    | with_reducible refine stagingStarted_within ?_ p_safety p_slots p_coach p_ic p_tw rAll
    | with_reducible refine discardWords_within ?_ p_coach
    | with_reducible refine loadCarriage_within ?_ p_mem p_coach | with_reducible refine updTrain_within ?_ p_coach
    | with_reducible refine stopTrainSlots_within ?_ p_safety p_router p_drawbar p_slots p_ic p_tw (rAll _)
    | with_reducible refine within_foldl (fun _ _ h => ?_) ?_
    | with_reducible refine within_foldl_snd (fun _ _ h => ?_) ?_
    | with_reducible refine within_foldl_fst (fun _ _ h => ?_) ?_
    | with_reducible refine within_pair ?_ (by assumption) | split

theorem substFinish_within (h : Within P R s0 s) (p_merger : P .merger) (p_safety : P .safety) (p_coach : P .coach)
    (p_ic : P .ic) (p_tw : P .tw) (r_cw_STAT : R (.cw .STAT)) (r_cw_NSUBST : R (.cw .NSUBST))
    (r_cw_TFAULT : R (.cw .TFAULT)) : Within P R s0 (substFinish x1 x2 s) := by
  unfold substFinish; try dsimp only
  repeat' first
    | with_reducible assumption | with_reducible refine substRecord_within ?_ p_merger
    | with_reducible refine updTrain_within ?_ p_coach
    | with_reducible refine substDone_within ?_ p_safety p_coach p_ic p_tw r_cw_STAT r_cw_NSUBST r_cw_TFAULT
    | with_reducible refine emitGap_within ?_ p_merger | with_reducible refine within_foldl (fun _ _ h => ?_) ?_
    | with_reducible refine within_foldl_snd (fun _ _ h => ?_) ?_
    | with_reducible refine within_foldl_fst (fun _ _ h => ?_) ?_
    | with_reducible refine within_pair ?_ (by assumption) | split

theorem trainCarFault_within (h : Within P R s0 s) (p_merger : P .merger) (p_safety : P .safety)
    (p_router : P .router) (p_drawbar : P .drawbar) (p_slots : P .slots) (p_coach : P .coach) (p_ic : P .ic)
    (p_host : P .host) (p_tw : P .tw) (r_al_FSTAT : R (.al .FSTAT)) (r_cw_STAT : R (.cw .STAT))
    (r_rk_STAT : R (.rk .STAT)) (r_cw_TFAULT : R (.cw .TFAULT)) (r_cw_LDSTAT : R (.cw .LDSTAT))
    (r_ds_EVENTS : R (.ds .EVENTS)) (r_db_LSTAT : R (.db .LSTAT)) : Within P R s0 (trainCarFault x1 x2 x3 x4 s) := by
  unfold trainCarFault; try dsimp only
  repeat' first
    | with_reducible assumption
    | with_reducible refine trainNoSpare_within ?_ p_merger p_safety p_router p_drawbar p_slots
                        p_coach p_ic p_host p_tw r_al_FSTAT r_cw_STAT r_rk_STAT r_cw_TFAULT r_cw_LDSTAT r_ds_EVENTS
                        r_db_LSTAT
    | with_reducible refine reserveSpare_within ?_ p_coach
    | with_reducible refine declareHold_within ?_ p_merger p_safety p_ic p_tw r_rk_STAT
    | with_reducible refine discardWords_within ?_ p_coach | with_reducible refine updTrain_within ?_ p_coach
    | with_reducible refine within_foldl (fun _ _ h => ?_) ?_
    | with_reducible refine within_foldl_snd (fun _ _ h => ?_) ?_
    | with_reducible refine within_foldl_fst (fun _ _ h => ?_) ?_
    | with_reducible refine within_pair ?_ (by assumption) | split

theorem quietCarFault_within (h : Within P R s0 s) (p_mem : P .mem) (p_merger : P .merger) (p_safety : P .safety)
    (p_router : P .router) (p_drawbar : P .drawbar) (p_slots : P .slots) (p_coach : P .coach) (p_ic : P .ic)
    (p_host : P .host) (p_tw : P .tw) (r_al_FSTAT : R (.al .FSTAT)) (r_cw_STAT : R (.cw .STAT))
    (r_rk_STAT : R (.rk .STAT)) (r_cw_TFAULT : R (.cw .TFAULT)) (r_cw_LDSTAT : R (.cw .LDSTAT))
    (r_ds_EVENTS : R (.ds .EVENTS)) (r_db_LSTAT : R (.db .LSTAT)) (r_cw_NSUBST : R (.cw .NSUBST)) : Within P R s0
    (quietCarFault x1 x2 x3 x4 s) := by
  unfold quietCarFault; try dsimp only
  repeat' first
    | with_reducible assumption
    | with_reducible refine trainNoSpare_within ?_ p_merger p_safety p_router p_drawbar p_slots
                        p_coach p_ic p_host p_tw r_al_FSTAT r_cw_STAT r_rk_STAT r_cw_TFAULT r_cw_LDSTAT r_ds_EVENTS
                        r_db_LSTAT
    | with_reducible refine cacheFault_within ?_ p_safety p_ic p_tw r_al_FSTAT r_cw_LDSTAT
    | with_reducible refine updCoach_within ?_ p_coach
    | with_reducible refine faultTrain_within ?_ p_merger p_safety p_router p_drawbar p_slots
                        p_coach p_ic p_host p_tw r_rk_STAT r_cw_TFAULT r_cw_LDSTAT r_ds_EVENTS r_db_LSTAT
    | with_reducible refine fstat_within ?_ p_safety p_ic p_tw r_al_FSTAT
    | with_reducible refine reserveSpare_within ?_ p_coach | with_reducible refine substRecord_within ?_ p_merger
    | with_reducible refine State.orReg_within ?_ p_safety p_ic p_tw (by assumption)
    | with_reducible refine loadCarriage_within ?_ p_mem p_coach
    | with_reducible refine substDone_within ?_ p_safety p_coach p_ic p_tw r_cw_STAT r_cw_NSUBST r_cw_TFAULT
    | with_reducible refine within_pair ?_ (by assumption) | split

theorem fenceCar_within (h : Within P R s0 s) (p_safety : P .safety) (p_coach : P .coach) (p_ic : P .ic)
    (p_tw : P .tw) (r_cw_STAT : R (.cw .STAT)) : Within P R s0 (fenceCar x1 x2 s) := by
  unfold fenceCar; try dsimp only
  repeat' first
    | with_reducible assumption | with_reducible refine updCoach_within ?_ p_coach
    | with_reducible refine State.orReg_within ?_ p_safety p_ic p_tw (by assumption)
    | with_reducible refine updCar_within ?_ p_coach | with_reducible refine within_pair ?_ (by assumption) | split

theorem declareCarFault_within (h : Within P R s0 s) (p_mem : P .mem) (p_merger : P .merger) (p_safety : P .safety)
    (p_router : P .router) (p_drawbar : P .drawbar) (p_slots : P .slots) (p_coach : P .coach) (p_ic : P .ic)
    (p_host : P .host) (p_tw : P .tw) (r_al_FSTAT : R (.al .FSTAT)) (r_cw_STAT : R (.cw .STAT))
    (r_rk_STAT : R (.rk .STAT)) (r_cw_TFAULT : R (.cw .TFAULT)) (r_cw_LDSTAT : R (.cw .LDSTAT))
    (r_ds_EVENTS : R (.ds .EVENTS)) (r_db_LSTAT : R (.db .LSTAT)) (r_cw_NSUBST : R (.cw .NSUBST)) : Within P R s0
    (declareCarFault x1 x2 s) := by
  unfold declareCarFault; try dsimp only
  repeat' first
    | with_reducible assumption
    | with_reducible refine trainCarFault_within ?_ p_merger p_safety p_router p_drawbar p_slots
                        p_coach p_ic p_host p_tw r_al_FSTAT r_cw_STAT r_rk_STAT r_cw_TFAULT r_cw_LDSTAT r_ds_EVENTS
                        r_db_LSTAT
    | with_reducible refine fenceCar_within ?_ p_safety p_coach p_ic p_tw r_cw_STAT
    | with_reducible refine quietCarFault_within ?_ p_mem p_merger p_safety p_router p_drawbar
                        p_slots p_coach p_ic p_host p_tw r_al_FSTAT r_cw_STAT r_rk_STAT r_cw_TFAULT r_cw_LDSTAT
                        r_ds_EVENTS r_db_LSTAT r_cw_NSUBST
    | with_reducible refine within_pair ?_ (by assumption) | split

theorem carSubstComplete_within (h : Within P R s0 s) (p_mem : P .mem) (p_merger : P .merger) (p_safety : P .safety)
    (p_router : P .router) (p_drawbar : P .drawbar) (p_slots : P .slots) (p_coach : P .coach) (p_ic : P .ic)
    (p_host : P .host) (p_tw : P .tw) (rAll : ∀ r, R r) : Within P R s0 (carSubstComplete x1 s) := by
  unfold carSubstComplete; try dsimp only
  repeat' first
    | with_reducible assumption
    | with_reducible refine substLoad_within ?_ p_mem p_merger p_safety p_router p_drawbar
                        p_slots p_coach p_ic p_host p_tw rAll
    | with_reducible refine substFinish_within ?_ p_merger p_safety p_coach p_ic p_tw (rAll _) (rAll _) (rAll _)
    | with_reducible refine within_pair ?_ (by assumption) | split

theorem trainStart_within (h : Within P R s0 s) (p_coach : P .coach) : Within P R s0 (trainStart x1 s) := by
  unfold trainStart; try dsimp only
  repeat' first
    | with_reducible assumption | with_reducible refine updTrain_within ?_ p_coach
    | with_reducible refine within_pair ?_ (by assumption) | split

theorem writeTStart_within (h : Within P R s0 s) (p_coach : P .coach) : Within P R s0 (writeTStart x1 s) := by
  unfold writeTStart; try dsimp only
  repeat' first
    | with_reducible assumption | with_reducible refine trainStart_within ?_ p_coach
    | with_reducible refine within_foldl (fun _ _ h => ?_) ?_
    | with_reducible refine within_foldl_snd (fun _ _ h => ?_) ?_
    | with_reducible refine within_foldl_fst (fun _ _ h => ?_) ?_
    | with_reducible refine within_pair ?_ (by assumption) | split

theorem trainStop_within (h : Within P R s0 s) (p_safety : P .safety) (p_router : P .router) (p_drawbar : P .drawbar)
    (p_slots : P .slots) (p_coach : P .coach) (p_ic : P .ic) (p_tw : P .tw) (r_db_LSTAT : R (.db .LSTAT)) : Within P R
    s0 (trainStop x1 x2 s) := by
  unfold trainStop; try dsimp only
  repeat' first
    | with_reducible assumption | with_reducible refine updTrain_within ?_ p_coach
    | with_reducible refine stopTrainSlots_within ?_ p_safety p_router p_drawbar p_slots p_ic p_tw r_db_LSTAT
    | with_reducible refine within_pair ?_ (by assumption) | split

theorem writeTStop_within (h : Within P R s0 s) (p_safety : P .safety) (p_router : P .router) (p_drawbar : P .drawbar)
    (p_slots : P .slots) (p_coach : P .coach) (p_ic : P .ic) (p_host : P .host) (p_tw : P .tw)
    (r_cw_LDSTAT : R (.cw .LDSTAT)) (r_db_LSTAT : R (.db .LSTAT)) : Within P R s0 (writeTStop x1 s) := by
  unfold writeTStop; try dsimp only
  repeat' first
    | with_reducible assumption
    | with_reducible refine handoverEnd_within ?_ p_safety p_coach p_ic p_host p_tw r_cw_LDSTAT
    | with_reducible refine trainStop_within ?_ p_safety p_router p_drawbar p_slots p_coach p_ic p_tw r_db_LSTAT
    | with_reducible refine within_foldl (fun _ _ h => ?_) ?_
    | with_reducible refine within_foldl_snd (fun _ _ h => ?_) ?_
    | with_reducible refine within_foldl_fst (fun _ _ h => ?_) ?_
    | with_reducible refine within_pair ?_ (by assumption) | split

theorem trainStartComplete_within (h : Within P R s0 s) (p_mem : P .mem) (p_merger : P .merger) (p_safety : P .safety)
    (p_router : P .router) (p_drawbar : P .drawbar) (p_slots : P .slots) (p_coach : P .coach) (p_ic : P .ic)
    (p_host : P .host) (p_tw : P .tw) (rAll : ∀ r, R r) : Within P R s0 (trainStartComplete x1 s) := by
  unfold trainStartComplete; try dsimp only
  repeat' first
    | with_reducible assumption | with_reducible refine startTrain_within ?_ p_mem p_coach
    | with_reducible refine stagingStarted_within ?_ p_safety p_slots p_coach p_ic p_tw rAll
    | with_reducible refine substLoad_within ?_ p_mem p_merger p_safety p_router p_drawbar
                        p_slots p_coach p_ic p_host p_tw rAll
    | with_reducible refine updTrain_within ?_ p_coach | with_reducible refine within_pair ?_ (by assumption) | split

theorem trainDrained_within (h : Within P R s0 s) (p_coach : P .coach) : Within P R s0 (trainDrained x1 s) := by
  unfold trainDrained; try dsimp only
  repeat' first
    | with_reducible assumption | with_reducible refine updTrain_within ?_ p_coach
    | with_reducible refine within_pair ?_ (by assumption) | split

theorem drainCut_within (h : Within P R s0 s) (p_merger : P .merger) (p_safety : P .safety) (p_coach : P .coach)
    (p_ic : P .ic) (p_tw : P .tw) (r_rk_STAT : R (.rk .STAT)) : Within P R s0 (drainCut x1 s) := by
  unfold drainCut; try dsimp only
  repeat' first
    | with_reducible assumption | with_reducible refine declareHold_within ?_ p_merger p_safety p_ic p_tw r_rk_STAT
    | with_reducible refine discardWords_within ?_ p_coach | with_reducible refine updTrain_within ?_ p_coach
    | with_reducible refine emitGap_within ?_ p_merger | with_reducible refine within_foldl (fun _ _ h => ?_) ?_
    | with_reducible refine within_foldl_snd (fun _ _ h => ?_) ?_
    | with_reducible refine within_foldl_fst (fun _ _ h => ?_) ?_
    | with_reducible refine within_pair ?_ (by assumption) | split

theorem couplingArrive_within (h : Within P R s0 s) (p_mem : P .mem) (p_merger : P .merger) (p_safety : P .safety)
    (p_router : P .router) (p_drawbar : P .drawbar) (p_slots : P .slots) (p_coach : P .coach) (p_ic : P .ic)
    (p_host : P .host) (p_tw : P .tw) (r_al_FSTAT : R (.al .FSTAT)) (r_cw_STAT : R (.cw .STAT))
    (r_rk_STAT : R (.rk .STAT)) (r_cw_TFAULT : R (.cw .TFAULT)) (r_cw_LDSTAT : R (.cw .LDSTAT))
    (r_ds_EVENTS : R (.ds .EVENTS)) (r_db_LSTAT : R (.db .LSTAT)) (r_cw_NSUBST : R (.cw .NSUBST)) : Within P R s0
    (couplingArrive x1 x2 s) := by
  unfold couplingArrive; try dsimp only
  repeat' first
    | with_reducible assumption | with_reducible refine updCoach_within ?_ p_coach
    | with_reducible refine updCar_within ?_ p_coach
    | with_reducible refine declareCarFault_within ?_ p_mem p_merger p_safety p_router p_drawbar
                        p_slots p_coach p_ic p_host p_tw r_al_FSTAT r_cw_STAT r_rk_STAT r_cw_TFAULT r_cw_LDSTAT
                        r_ds_EVENTS r_db_LSTAT r_cw_NSUBST
    | with_reducible refine updTrain_within ?_ p_coach | with_reducible refine within_pair ?_ (by assumption) | split

theorem deliverOutlet_within (h : Within P R s0 s) (p_merger : P .merger) (p_safety : P .safety)
    (p_router : P .router) (p_drawbar : P .drawbar) (p_slots : P .slots) (p_loop : P .loop) (p_prRun : P .prRun)
    (p_homing : P .homing) (p_ic : P .ic) (p_tw : P .tw) (r_ds_VAL : R (.ds .VAL)) (r_ds_VALFLG : R (.ds .VALFLG))
    (r_ds_STAT : R (.ds .STAT)) (r_ds_EVENTS : R (.ds .EVENTS)) (r_db_LSTAT : R (.db .LSTAT))
    (r_ds_RIPSTAT : R (.ds .RIPSTAT)) : Within P R s0 (deliverOutlet x1 x2 x3 x4 x5 x6 x7 s) := by
  unfold deliverOutlet; try dsimp only
  repeat' first
    | with_reducible assumption
    | with_reducible refine trainWordToSlots_within ?_ p_merger p_safety p_router p_drawbar
                        p_slots p_loop p_prRun p_homing p_ic p_tw r_ds_VAL r_ds_VALFLG r_ds_STAT r_ds_EVENTS
                        r_db_LSTAT r_ds_RIPSTAT
    | with_reducible refine emit_within ?_ p_merger | with_reducible refine within_pair ?_ (by assumption) | split

theorem countWarm_within (h : Within P R s0 s) (p_safety : P .safety) (p_slots : P .slots) (p_coach : P .coach)
    (p_ic : P .ic) (p_tw : P .tw) (rAll : ∀ r, R r) : Within P R s0 (countWarm x1 x2 x3 s) := by
  unfold countWarm; try dsimp only
  repeat' first
    | with_reducible assumption
    | with_reducible refine handoverExchange_within ?_ p_safety p_slots p_coach p_ic p_tw rAll
    | with_reducible refine updTrain_within ?_ p_coach | with_reducible refine within_pair ?_ (by assumption) | split

theorem noteOld_within (h : Within P R s0 s) (p_coach : P .coach) : Within P R s0 (noteOld x1 x2 x3 s) := by
  unfold noteOld; try dsimp only
  repeat' first
    | with_reducible assumption | with_reducible refine updLoader_within ?_ p_coach

theorem outletRelease_within (h : Within P R s0 s) (p_merger : P .merger) (p_safety : P .safety)
    (p_router : P .router) (p_drawbar : P .drawbar) (p_slots : P .slots) (p_loop : P .loop) (p_prRun : P .prRun)
    (p_homing : P .homing) (p_coach : P .coach) (p_ic : P .ic) (p_tw : P .tw) (rAll : ∀ r, R r) : Within P R s0
    (outletRelease x1 x2 s) := by
  unfold outletRelease; try dsimp only
  repeat' first
    | with_reducible assumption | with_reducible refine countWarm_within ?_ p_safety p_slots p_coach p_ic p_tw rAll
    | with_reducible refine noteOld_within ?_ p_coach | with_reducible refine updTrain_within ?_ p_coach
    | with_reducible refine deliverOutlet_within ?_ p_merger p_safety p_router p_drawbar p_slots
                        p_loop p_prRun p_homing p_ic p_tw (rAll _) (rAll _) (rAll _) (rAll _) (rAll _) (rAll _)
    | with_reducible refine within_pair ?_ (by assumption) | split

theorem handoverOldStopped_within (h : Within P R s0 s) (p_safety : P .safety) (p_coach : P .coach) (p_ic : P .ic)
    (p_host : P .host) (p_tw : P .tw) (r_cw_LDSTAT : R (.cw .LDSTAT)) : Within P R s0 (handoverOldStopped s) := by
  unfold handoverOldStopped; try dsimp only
  repeat' first
    | with_reducible assumption | with_reducible refine almanac_within ?_ p_safety
    | with_reducible refine loaderFinish_within ?_ p_safety p_coach p_ic p_host p_tw r_cw_LDSTAT
    | with_reducible refine emptyTrain_within ?_ p_coach | with_reducible refine within_pair ?_ (by assumption)
    | split

theorem bistRound_within (h : Within P R s0 s) (p_safety : P .safety) (p_coach : P .coach) (p_ic : P .ic)
    (p_tw : P .tw) (r_cw_STAT : R (.cw .STAT)) : Within P R s0 (bistRound x1 x2 s) := by
  unfold bistRound; try dsimp only
  repeat' first
    | with_reducible assumption | with_reducible refine almanac_within ?_ p_safety
    | with_reducible refine fenceCar_within ?_ p_safety p_coach p_ic p_tw r_cw_STAT
    | with_reducible refine State.orReg_within ?_ p_safety p_ic p_tw (by assumption)
    | with_reducible refine within_pair ?_ (by assumption) | split

theorem writeCwPcmd_within (h : Within P R s0 s) (p_coach : P .coach) : Within P R s0 (writeCwPcmd x1 s) := by
  unfold writeCwPcmd; try dsimp only
  repeat' first
    | with_reducible assumption | with_reducible refine updCar_within ?_ p_coach
    | with_reducible refine within_pair ?_ (by assumption) | split

theorem carRetestDone_within (h : Within P R s0 s) (p_coach : P .coach) : Within P R s0 (carRetestDone x1 x2 s) := by
  unfold carRetestDone; try dsimp only
  repeat' first
    | with_reducible assumption | with_reducible refine updCar_within ?_ p_coach
    | with_reducible refine within_pair ?_ (by assumption) | split

theorem faultLaneTrains_within (h : Within P R s0 s) (p_merger : P .merger) (p_safety : P .safety)
    (p_router : P .router) (p_drawbar : P .drawbar) (p_slots : P .slots) (p_coach : P .coach) (p_ic : P .ic)
    (p_host : P .host) (p_tw : P .tw) (r_rk_STAT : R (.rk .STAT)) (r_cw_TFAULT : R (.cw .TFAULT))
    (r_cw_LDSTAT : R (.cw .LDSTAT)) (r_ds_EVENTS : R (.ds .EVENTS)) (r_db_LSTAT : R (.db .LSTAT)) : Within P R s0
    (faultLaneTrains x1 s) := by
  unfold faultLaneTrains; try dsimp only
  repeat' first
    | with_reducible assumption
    | with_reducible refine faultTrain_within ?_ p_merger p_safety p_router p_drawbar p_slots
                        p_coach p_ic p_host p_tw r_rk_STAT r_cw_TFAULT r_cw_LDSTAT r_ds_EVENTS r_db_LSTAT
    | with_reducible refine within_foldl (fun _ _ h => ?_) ?_
    | with_reducible refine within_foldl_snd (fun _ _ h => ?_) ?_
    | with_reducible refine within_foldl_fst (fun _ _ h => ?_) ?_
    | with_reducible refine within_pair ?_ (by assumption) | split

end Sys2Proof.Machine
end

