-- ==== Sys2Proof/Laws/WithinCarriageSteps.lean ====
section
/-! SUPPORT. What each operation of Machine/CarriageSteps.lean can change: one lemma per operation (see Laws/WithinOps.lean). -/
namespace Sys2Proof.Machine
set_option Elab.async false

set_option linter.unusedVariables false
set_option linter.unusedSimpArgs false

variable {P : Part → Prop} {R : Reg → Prop} {s0 s t : State}

theorem stepCar_within (h : Within P R s0 s) (p_mem : P .mem) (p_merger : P .merger) (p_safety : P .safety)
    (p_router : P .router) (p_drawbar : P .drawbar) (p_slots : P .slots) (p_coach : P .coach) (p_ic : P .ic)
    (p_host : P .host) (p_tw : P .tw) (r_al_FSTAT : R (.al .FSTAT)) (r_cw_STAT : R (.cw .STAT))
    (r_rk_STAT : R (.rk .STAT)) (r_cw_TFAULT : R (.cw .TFAULT)) (r_cw_LDSTAT : R (.cw .LDSTAT))
    (r_ds_EVENTS : R (.ds .EVENTS)) (r_db_LSTAT : R (.db .LSTAT)) (r_cw_NSUBST : R (.cw .NSUBST))
    (r_cw_RETRY : R (.cw .RETRY)) : Within P R s0 (stepCar x1 x2 x3 s) := by
  unfold stepCar; try dsimp only
  repeat' first
    | with_reducible assumption | with_reducible refine takePort_within ?_ p_coach
    | with_reducible refine State.countFld_within ?_ (by assumption)
    | with_reducible refine execMicro_within ?_ p_mem p_safety p_router p_coach p_ic p_tw r_cw_STAT
    | with_reducible refine declareCarFault_within ?_ p_mem p_merger p_safety p_router p_drawbar
                        p_slots p_coach p_ic p_host p_tw r_al_FSTAT r_cw_STAT r_rk_STAT r_cw_TFAULT r_cw_LDSTAT
                        r_ds_EVENTS r_db_LSTAT r_cw_NSUBST
    | with_reducible refine setPc_within ?_ p_coach | with_reducible refine within_pair ?_ (by assumption) | split

theorem stepInvalid_within (h : Within P R s0 s) (p_mem : P .mem) (p_merger : P .merger) (p_safety : P .safety)
    (p_router : P .router) (p_drawbar : P .drawbar) (p_slots : P .slots) (p_coach : P .coach) (p_ic : P .ic)
    (p_host : P .host) (p_tw : P .tw) (r_al_FSTAT : R (.al .FSTAT)) (r_cw_STAT : R (.cw .STAT))
    (r_rk_STAT : R (.rk .STAT)) (r_cw_TFAULT : R (.cw .TFAULT)) (r_cw_LDSTAT : R (.cw .LDSTAT))
    (r_ds_EVENTS : R (.ds .EVENTS)) (r_db_LSTAT : R (.db .LSTAT)) (r_cw_NSUBST : R (.cw .NSUBST)) : Within P R s0
    (stepInvalid x1 s) := by
  unfold stepInvalid; try dsimp only
  repeat' first
    | with_reducible assumption
    | with_reducible refine declareCarFault_within ?_ p_mem p_merger p_safety p_router p_drawbar
                        p_slots p_coach p_ic p_host p_tw r_al_FSTAT r_cw_STAT r_rk_STAT r_cw_TFAULT r_cw_LDSTAT
                        r_ds_EVENTS r_db_LSTAT r_cw_NSUBST
    | with_reducible refine setPc_within ?_ p_coach | with_reducible refine within_pair ?_ (by assumption) | split

theorem emitAfterStall_within (h : Within P R s0 s) (p_coach : P .coach) : Within P R s0 (emitAfterStall x1 s) := by
  unfold emitAfterStall; try dsimp only
  repeat' first
    | with_reducible assumption | with_reducible refine updCar_within ?_ p_coach
    | with_reducible refine tryEmit_within (by assumption) ?_ p_coach
    | with_reducible refine within_pair ?_ (by assumption) | split

theorem diagWrite_within (h : Within P R s0 s) (p_mem : P .mem) (p_safety : P .safety) (p_coach : P .coach)
    (p_ic : P .ic) (p_tw : P .tw) (r_cw_STAT : R (.cw .STAT)) : Within P R s0 (diagWrite x1 x2 x3 s) := by
  unfold diagWrite; try dsimp only
  repeat' first
    | with_reducible assumption | with_reducible refine State.writeWord_within ?_ p_mem
    | with_reducible refine setParity_within ?_ p_coach
    | with_reducible refine State.orReg_within ?_ p_safety p_ic p_tw (by assumption)
    | with_reducible refine within_foldl (fun _ _ h => ?_) ?_
    | with_reducible refine within_foldl_snd (fun _ _ h => ?_) ?_
    | with_reducible refine within_foldl_fst (fun _ _ h => ?_) ?_
    | with_reducible refine within_pair ?_ (by assumption) | split

end Sys2Proof.Machine
end

