-- ==== Sys2Proof/Laws/WithinLanes.lean ====
section
/-! SUPPORT. What each operation of Machine/Lanes.lean can change: one lemma per operation (see Laws/WithinOps.lean). -/
namespace Sys2Proof.Machine
set_option Elab.async false

set_option linter.unusedVariables false
set_option linter.unusedSimpArgs false

variable {P : Part → Prop} {R : Reg → Prop} {s0 s t : State}

theorem updLane_within (h : Within P R s0 s) (p_lanes : P .lanes) : Within P R s0 (updLane x1 x2 s) := by
  unfold updLane; try dsimp only
  repeat' first
    | with_reducible assumption | with_reducible refine within_pair ?_ (by assumption) | split
    | (simp only [within_mk]
       refine WithinMk.intro ?_ rfl rfl rfl rfl (h_lanes := .inl p_lanes))

theorem updPhys_within (h : Within P R s0 s) (p_phys : P .phys) : Within P R s0 (updPhys x1 x2 s) := by
  unfold updPhys; try dsimp only
  repeat' first
    | with_reducible assumption | with_reducible refine within_pair ?_ (by assumption) | split
    | (simp only [within_mk]
       refine WithinMk.intro ?_ rfl rfl rfl rfl (h_phys := .inl p_phys))

theorem updCal_within (h : Within P R s0 s) (p_cal : P .cal) : Within P R s0 (updCal x1 s) := by
  unfold updCal; try dsimp only
  repeat' first
    | with_reducible assumption | with_reducible refine within_pair ?_ (by assumption) | split
    | (simp only [within_mk]
       refine WithinMk.intro ?_ rfl rfl rfl rfl (h_cal := .inl p_cal))

theorem laneFlag_within (h : Within P R s0 s) (p_safety : P .safety) (p_ic : P .ic) (p_tw : P .tw)
    (r_ln_STAT : R (.ln .STAT)) : Within P R s0 (laneFlag x1 x2 s) := by
  unfold laneFlag; try dsimp only
  repeat' first
    | with_reducible assumption | with_reducible refine State.orReg_within ?_ p_safety p_ic p_tw (by assumption)

theorem closeSamples_within (h : Within P R s0 s) (p_merger : P .merger) (p_lanes : P .lanes) : Within P R s0
    (closeSamples x1 s) := by
  unfold closeSamples; try dsimp only
  repeat' first
    | with_reducible assumption | with_reducible refine updLane_within ?_ p_lanes
    | with_reducible refine emit_within ?_ p_merger | with_reducible refine within_pair ?_ (by assumption) | split

theorem sampleRecord_within (h : Within P R s0 s) (p_merger : P .merger) (p_lanes : P .lanes) : Within P R s0
    (sampleRecord x1 x2 s) := by
  unfold sampleRecord; try dsimp only
  repeat' first
    | with_reducible assumption | with_reducible refine updLane_within ?_ p_lanes
    | with_reducible refine closeSamples_within ?_ p_merger p_lanes
    | with_reducible refine within_pair ?_ (by assumption) | split

theorem releaseWord_within (h : Within P R s0 s) (p_merger : P .merger) (p_safety : P .safety) (p_lanes : P .lanes)
    (p_coach : P .coach) (p_ic : P .ic) (p_tw : P .tw) (r_ln_LAST : R (.ln .LAST)) (r_cw_TAPOVR : R (.cw .TAPOVR)) :
    Within P R s0 (releaseWord x1 x2 s) := by
  unfold releaseWord; try dsimp only
  repeat' first
    | with_reducible assumption | with_reducible refine State.setReg_within ?_ (by assumption)
    | with_reducible refine updLane_within ?_ p_lanes | with_reducible refine sampleRecord_within ?_ p_merger p_lanes
    | with_reducible refine tapWord_within ?_ p_safety p_coach p_ic p_tw r_cw_TAPOVR
    | with_reducible refine within_pair ?_ (by assumption) | split

theorem releaseCleared_within (h : Within P R s0 s) (p_merger : P .merger) (p_safety : P .safety) (p_lanes : P .lanes) (p_coach : P .coach) (p_ic : P .ic) (p_tw : P .tw) (r_ln_LAST : R (.ln .LAST)) (r_cw_TAPOVR : R (.cw .TAPOVR)) : Within P R s0 (releaseCleared x1 x2 s) := by
  induction x2 generalizing s with
  | zero => exact h
  | succ n ih =>
    unfold releaseCleared
    split
    · exact h
    · split
      · exact ih (releaseWord_within (updLane_within h p_lanes) p_merger p_safety p_lanes p_coach p_ic p_tw r_ln_LAST r_cw_TAPOVR)
      · exact h

theorem finishWord_within (h : Within P R s0 s) (p_merger : P .merger) (p_safety : P .safety) (p_lanes : P .lanes)
    (p_coach : P .coach) (p_ic : P .ic) (p_tw : P .tw) (r_ln_LAST : R (.ln .LAST)) (r_cw_TAPOVR : R (.cw .TAPOVR)) :
    Within P R s0 (finishWord x1 x2 s) := by
  unfold finishWord; try dsimp only
  repeat' first
    | with_reducible assumption | with_reducible refine updLane_within ?_ p_lanes
    | with_reducible refine releaseWord_within ?_ p_merger p_safety p_lanes p_coach p_ic p_tw r_ln_LAST r_cw_TAPOVR
    | with_reducible refine within_pair ?_ (by assumption) | split

theorem startVisit_within (h : Within P R s0 s) (p_lanes : P .lanes) : Within P R s0 (startVisit x1 x2 x3 s) := by
  unfold startVisit; try dsimp only
  repeat' first
    | with_reducible assumption | with_reducible refine updLane_within ?_ p_lanes

theorem loadList_within (h : Within P R s0 s) (p_safety : P .safety) (p_lanes : P .lanes) (p_ic : P .ic)
    (p_tw : P .tw) (r_ln_STAT : R (.ln .STAT)) : Within P R s0 (loadList x1 s) := by
  unfold loadList; try dsimp only
  repeat' first
    | with_reducible assumption | with_reducible refine updLane_within ?_ p_lanes
    | with_reducible refine laneFlag_within ?_ p_safety p_ic p_tw r_ln_STAT
    | with_reducible refine within_pair ?_ (by assumption) | split

theorem beginCycle_within (h : Within P R s0 s) (p_safety : P .safety) (p_lanes : P .lanes) (p_ic : P .ic)
    (p_tw : P .tw) (r_ln_STAT : R (.ln .STAT)) : Within P R s0 (beginCycle x1 x2 s) := by
  unfold beginCycle; try dsimp only
  repeat' first
    | with_reducible assumption | with_reducible refine startVisit_within ?_ p_lanes
    | with_reducible refine updLane_within ?_ p_lanes
    | with_reducible refine loadList_within ?_ p_safety p_lanes p_ic p_tw r_ln_STAT

theorem endVisit_within (h : Within P R s0 s) (p_safety : P .safety) (p_router : P .router) (p_lanes : P .lanes)
    (p_ic : P .ic) (p_tw : P .tw) (r_ln_STAT : R (.ln .STAT)) : Within P R s0 (endVisit x1 s) := by
  unfold endVisit; try dsimp only
  repeat' first
    | with_reducible assumption | with_reducible refine beginCycle_within ?_ p_safety p_lanes p_ic p_tw r_ln_STAT
    | with_reducible refine startVisit_within ?_ p_lanes | with_reducible refine updLane_within ?_ p_lanes
    | with_reducible refine publish_within ?_ p_router | with_reducible refine within_pair ?_ (by assumption) | split

theorem startRun_within (h : Within P R s0 s) (p_safety : P .safety) (p_lanes : P .lanes) (p_ic : P .ic)
    (p_tw : P .tw) (r_ln_STAT : R (.ln .STAT)) : Within P R s0 (startRun x1 s) := by
  unfold startRun; try dsimp only
  repeat' first
    | with_reducible assumption | with_reducible refine beginCycle_within ?_ p_safety p_lanes p_ic p_tw r_ln_STAT
    | with_reducible refine updLane_within ?_ p_lanes

theorem startCondition_within (h : Within P R s0 s) (p_safety : P .safety) (p_lanes : P .lanes) (p_ic : P .ic)
    (p_tw : P .tw) (r_ln_STAT : R (.ln .STAT)) : Within P R s0 (startCondition x1 s) := by
  unfold startCondition; try dsimp only
  repeat' first
    | with_reducible assumption | with_reducible refine beginCycle_within ?_ p_safety p_lanes p_ic p_tw r_ln_STAT
    | with_reducible refine updLane_within ?_ p_lanes
    | with_reducible refine laneFlag_within ?_ p_safety p_ic p_tw r_ln_STAT
    | with_reducible refine within_pair ?_ (by assumption) | split

theorem cycleStart_within (h : Within P R s0 s) (p_safety : P .safety) (p_lanes : P .lanes) (p_ic : P .ic)
    (p_tw : P .tw) (r_ln_STAT : R (.ln .STAT)) : Within P R s0 (cycleStart x1 s) := by
  unfold cycleStart; try dsimp only
  repeat' first
    | with_reducible assumption | with_reducible refine startCondition_within ?_ p_safety p_lanes p_ic p_tw r_ln_STAT
    | with_reducible refine within_pair ?_ (by assumption) | split

theorem calDone_within (h : Within P R s0 s) (p_merger : P .merger) (p_lanes : P .lanes) : Within P R s0 (calDone x1
    x2 x3 x4 x5 x6 s) := by
  unfold calDone; try dsimp only
  repeat' first
    | with_reducible assumption | with_reducible refine emit_within ?_ p_merger
    | with_reducible refine closeSamples_within ?_ p_merger p_lanes

theorem staleMark_within (h : Within P R s0 s) (p_merger : P .merger) (p_lanes : P .lanes) : Within P R s0 (staleMark
    x1 x2 x3 s) := by
  unfold staleMark; try dsimp only
  repeat' first
    | with_reducible assumption | with_reducible refine emit_within ?_ p_merger
    | with_reducible refine closeSamples_within ?_ p_merger p_lanes

theorem calPend_within (h : Within P R s0 s) (p_safety : P .safety) (p_ic : P .ic) (p_tw : P .tw)
    (r_ca_RUN : R (.ca .RUN)) : Within P R s0 (calPend x1 s) := by
  unfold calPend; try dsimp only
  repeat' first
    | with_reducible assumption | with_reducible refine State.orReg_within ?_ p_safety p_ic p_tw (by assumption)

theorem abortRun_within (h : Within P R s0 s) (p_merger : P .merger) (p_safety : P .safety) (p_lanes : P .lanes)
    (p_phys : P .phys) (p_cal : P .cal) (p_ic : P .ic) (p_tw : P .tw) (r_ca_STAT : R (.ca .STAT))
    (r_ca_LTEMP : R (.ca .LTEMP)) (r_ca_RUN : R (.ca .RUN)) : Within P R s0 (abortRun s) := by
  unfold abortRun; try dsimp only
  repeat' first
    | with_reducible assumption | with_reducible refine calDone_within ?_ p_merger p_lanes
    | with_reducible refine updPhys_within ?_ p_phys | with_reducible refine State.setFld_within ?_ (by assumption)
    | with_reducible refine State.orReg_within ?_ p_safety p_ic p_tw (by assumption)
    | with_reducible refine updCal_within ?_ p_cal
    | with_reducible refine calPend_within ?_ p_safety p_ic p_tw r_ca_RUN
    | with_reducible refine within_pair ?_ (by assumption) | split

theorem laneSubstRecord_within (h : Within P R s0 s) (p_merger : P .merger) (p_safety : P .safety)
    (p_lanes : P .lanes) (p_ic : P .ic) (p_tw : P .tw) (r_ln_STAT : R (.ln .STAT)) (r_ln_FAULTS : R (.ln .FAULTS)) :
    Within P R s0 (laneSubstRecord x1 x2 s) := by
  unfold laneSubstRecord; try dsimp only
  repeat' first
    | with_reducible assumption | with_reducible refine almanac_within ?_ p_safety
    | with_reducible refine State.orReg_within ?_ p_safety p_ic p_tw (by assumption)
    | with_reducible refine emit_within ?_ p_merger | with_reducible refine closeSamples_within ?_ p_merger p_lanes
    | with_reducible refine laneFlag_within ?_ p_safety p_ic p_tw r_ln_STAT

theorem loanLeaves_within (h : Within P R s0 s) (p_merger : P .merger) (p_safety : P .safety) (p_lanes : P .lanes)
    (p_phys : P .phys) (p_cal : P .cal) (p_coach : P .coach) (p_ic : P .ic) (p_tw : P .tw) (r_ca_STAT : R (.ca .STAT))
    (r_ca_LTEMP : R (.ca .LTEMP)) (r_ca_RUN : R (.ca .RUN)) (r_rk_STAT : R (.rk .STAT)) : Within P R s0 (loanLeaves x1
    x2 s) := by
  unfold loanLeaves; try dsimp only
  repeat' first
    | with_reducible assumption
    | with_reducible refine abortRun_within ?_ p_merger p_safety p_lanes p_phys p_cal p_ic p_tw
                        r_ca_STAT r_ca_LTEMP r_ca_RUN
    | with_reducible refine declareHold_within ?_ p_merger p_safety p_ic p_tw r_rk_STAT
    | with_reducible refine tapGap_within ?_ p_coach | with_reducible refine updLane_within ?_ p_lanes
    | with_reducible refine closeSamples_within ?_ p_merger p_lanes
    | with_reducible refine within_pair ?_ (by assumption) | split

theorem laneNoSpare_within (h : Within P R s0 s) (p_merger : P .merger) (p_safety : P .safety) (p_router : P .router)
    (p_drawbar : P .drawbar) (p_slots : P .slots) (p_lanes : P .lanes) (p_coach : P .coach) (p_ic : P .ic)
    (p_host : P .host) (p_tw : P .tw) (r_al_FSTAT : R (.al .FSTAT)) (r_ln_STAT : R (.ln .STAT))
    (r_ln_FAULTS : R (.ln .FAULTS)) (r_rk_STAT : R (.rk .STAT)) (r_cw_TFAULT : R (.cw .TFAULT))
    (r_cw_LDSTAT : R (.cw .LDSTAT)) (r_ds_EVENTS : R (.ds .EVENTS)) (r_db_LSTAT : R (.db .LSTAT)) : Within P R s0
    (laneNoSpare x1 x2 s) := by
  unfold laneNoSpare; try dsimp only
  repeat' first
    | with_reducible assumption | with_reducible refine almanac_within ?_ p_safety
    | with_reducible refine fstat_within ?_ p_safety p_ic p_tw r_al_FSTAT
    | with_reducible refine declareHold_within ?_ p_merger p_safety p_ic p_tw r_rk_STAT
    | with_reducible refine tapGap_within ?_ p_coach | with_reducible refine updLane_within ?_ p_lanes
    | with_reducible refine faultLaneTrains_within ?_ p_merger p_safety p_router p_drawbar
                        p_slots p_coach p_ic p_host p_tw r_rk_STAT r_cw_TFAULT r_cw_LDSTAT r_ds_EVENTS r_db_LSTAT
    | with_reducible refine State.orReg_within ?_ p_safety p_ic p_tw (by assumption)
    | with_reducible refine closeSamples_within ?_ p_merger p_lanes
    | with_reducible refine laneFlag_within ?_ p_safety p_ic p_tw r_ln_STAT
    | with_reducible refine emitGap_within ?_ p_merger | with_reducible refine within_pair ?_ (by assumption) | split

theorem fencePhys_within (h : Within P R s0 s) (p_phys : P .phys) : Within P R s0 (fencePhys x1 x2 s) := by
  unfold fencePhys; try dsimp only
  repeat' first
    | with_reducible assumption | with_reducible refine updPhys_within ?_ p_phys

theorem laneFault_within (h : Within P R s0 s) (p_merger : P .merger) (p_safety : P .safety) (p_router : P .router)
    (p_drawbar : P .drawbar) (p_slots : P .slots) (p_lanes : P .lanes) (p_phys : P .phys) (p_cal : P .cal)
    (p_coach : P .coach) (p_ic : P .ic) (p_host : P .host) (p_tw : P .tw) (r_ca_STAT : R (.ca .STAT))
    (r_ca_LTEMP : R (.ca .LTEMP)) (r_ca_RUN : R (.ca .RUN)) (r_al_FSTAT : R (.al .FSTAT)) (r_ln_STAT : R (.ln .STAT))
    (r_ln_FAULTS : R (.ln .FAULTS)) (r_rk_STAT : R (.rk .STAT)) (r_cw_TFAULT : R (.cw .TFAULT))
    (r_cw_LDSTAT : R (.cw .LDSTAT)) (r_ds_EVENTS : R (.ds .EVENTS)) (r_db_LSTAT : R (.db .LSTAT)) : Within P R s0
    (laneFault x1 x2 x3 s) := by
  unfold laneFault; try dsimp only
  repeat' first
    | with_reducible assumption | with_reducible refine fencePhys_within ?_ p_phys
    | with_reducible refine laneNoSpare_within ?_ p_merger p_safety p_router p_drawbar p_slots
                        p_lanes p_coach p_ic p_host p_tw r_al_FSTAT r_ln_STAT r_ln_FAULTS r_rk_STAT r_cw_TFAULT
                        r_cw_LDSTAT r_ds_EVENTS r_db_LSTAT
    | with_reducible refine abortRun_within ?_ p_merger p_safety p_lanes p_phys p_cal p_ic p_tw
                        r_ca_STAT r_ca_LTEMP r_ca_RUN
    | with_reducible refine declareHold_within ?_ p_merger p_safety p_ic p_tw r_rk_STAT
    | with_reducible refine updPhys_within ?_ p_phys | with_reducible refine tapGap_within ?_ p_coach
    | with_reducible refine updLane_within ?_ p_lanes | with_reducible refine publish_within ?_ p_router
    | with_reducible refine loanLeaves_within ?_ p_merger p_safety p_lanes p_phys p_cal p_coach
                        p_ic p_tw r_ca_STAT r_ca_LTEMP r_ca_RUN r_rk_STAT
    | with_reducible refine closeSamples_within ?_ p_merger p_lanes
    | with_reducible refine within_pair ?_ (by assumption) | split

theorem declarePhysFault_within (h : Within P R s0 s) (p_merger : P .merger) (p_safety : P .safety)
    (p_router : P .router) (p_drawbar : P .drawbar) (p_slots : P .slots) (p_lanes : P .lanes) (p_phys : P .phys)
    (p_cal : P .cal) (p_coach : P .coach) (p_ic : P .ic) (p_host : P .host) (p_tw : P .tw) (r_ca_STAT : R (.ca .STAT))
    (r_ca_LTEMP : R (.ca .LTEMP)) (r_ca_RUN : R (.ca .RUN)) (r_al_FSTAT : R (.al .FSTAT)) (r_ln_STAT : R (.ln .STAT))
    (r_ln_FAULTS : R (.ln .FAULTS)) (r_rk_STAT : R (.rk .STAT)) (r_cw_TFAULT : R (.cw .TFAULT))
    (r_cw_LDSTAT : R (.cw .LDSTAT)) (r_ds_EVENTS : R (.ds .EVENTS)) (r_db_LSTAT : R (.db .LSTAT)) : Within P R s0
    (declarePhysFault x1 x2 s) := by
  unfold declarePhysFault; try dsimp only
  repeat' first
    | with_reducible assumption | with_reducible refine fencePhys_within ?_ p_phys
    | with_reducible refine almanac_within ?_ p_safety
    | with_reducible refine laneFault_within ?_ p_merger p_safety p_router p_drawbar p_slots
                        p_lanes p_phys p_cal p_coach p_ic p_host p_tw r_ca_STAT r_ca_LTEMP r_ca_RUN r_al_FSTAT
                        r_ln_STAT r_ln_FAULTS r_rk_STAT r_cw_TFAULT r_cw_LDSTAT r_ds_EVENTS r_db_LSTAT
    | with_reducible refine loanLeaves_within ?_ p_merger p_safety p_lanes p_phys p_cal p_coach
                        p_ic p_tw r_ca_STAT r_ca_LTEMP r_ca_RUN r_rk_STAT
    | with_reducible refine within_pair ?_ (by assumption) | split

theorem substConnected_within (h : Within P R s0 s) (p_safety : P .safety) (p_lanes : P .lanes) (p_ic : P .ic)
    (p_tw : P .tw) (r_ln_STAT : R (.ln .STAT)) : Within P R s0 (substConnected x1 s) := by
  unfold substConnected; try dsimp only
  repeat' first
    | with_reducible assumption | with_reducible refine beginCycle_within ?_ p_safety p_lanes p_ic p_tw r_ln_STAT
    | with_reducible refine startVisit_within ?_ p_lanes | with_reducible refine updLane_within ?_ p_lanes
    | with_reducible refine within_pair ?_ (by assumption) | split

theorem laneSubstComplete_within (h : Within P R s0 s) (p_merger : P .merger) (p_safety : P .safety)
    (p_lanes : P .lanes) (p_ic : P .ic) (p_tw : P .tw) (r_ln_STAT : R (.ln .STAT)) (r_ca_RUN : R (.ca .RUN))
    (r_ln_FAULTS : R (.ln .FAULTS)) : Within P R s0 (laneSubstComplete x1 s) := by
  unfold laneSubstComplete; try dsimp only
  repeat' first
    | with_reducible assumption | with_reducible refine substConnected_within ?_ p_safety p_lanes p_ic p_tw r_ln_STAT
    | with_reducible refine laneSubstRecord_within ?_ p_merger p_safety p_lanes p_ic p_tw r_ln_STAT r_ln_FAULTS
    | with_reducible refine updLane_within ?_ p_lanes | with_reducible refine closeSamples_within ?_ p_merger p_lanes
    | with_reducible refine emitGap_within ?_ p_merger
    | with_reducible refine calPend_within ?_ p_safety p_ic p_tw r_ca_RUN
    | with_reducible refine within_pair ?_ (by assumption) | split

theorem noteConsistency_within (h : Within P R s0 s) (p_lanes : P .lanes) (p_phys : P .phys)
    (r_ln_ICNT : R (.ln .ICNT)) : Within P R s0 (noteConsistency x1 x2 s).2 := by
  unfold noteConsistency; try dsimp only
  repeat' first
    | with_reducible assumption | with_reducible refine updPhys_within ?_ p_phys
    | with_reducible refine State.countFld_within ?_ (by assumption)
    | with_reducible refine updLane_within ?_ p_lanes | with_reducible refine within_pair ?_ (by assumption) | split

theorem wordDone_within (h : Within P R s0 s) (p_merger : P .merger) (p_safety : P .safety) (p_router : P .router)
    (p_lanes : P .lanes) (p_coach : P .coach) (p_ic : P .ic) (p_tw : P .tw) (r_ln_LAST : R (.ln .LAST))
    (r_cw_TAPOVR : R (.cw .TAPOVR)) (r_ln_STAT : R (.ln .STAT)) : Within P R s0 (wordDone x1 s) := by
  unfold wordDone; try dsimp only
  repeat' first
    | with_reducible assumption
    | with_reducible refine endVisit_within ?_ p_safety p_router p_lanes p_ic p_tw r_ln_STAT
    | with_reducible refine updLane_within ?_ p_lanes
    | with_reducible refine finishWord_within ?_ p_merger p_safety p_lanes p_coach p_ic p_tw r_ln_LAST r_cw_TAPOVR
    | with_reducible refine within_pair ?_ (by assumption) | split

theorem conversion_within (h : Within P R s0 s) (p_merger : P .merger) (p_safety : P .safety) (p_router : P .router)
    (p_drawbar : P .drawbar) (p_slots : P .slots) (p_lanes : P .lanes) (p_phys : P .phys) (p_cal : P .cal)
    (p_coach : P .coach) (p_ic : P .ic) (p_host : P .host) (p_tw : P .tw) (r_ln_ICNT : R (.ln .ICNT))
    (r_ca_STAT : R (.ca .STAT)) (r_ca_LTEMP : R (.ca .LTEMP)) (r_ca_RUN : R (.ca .RUN)) (r_al_FSTAT : R (.al .FSTAT))
    (r_ln_STAT : R (.ln .STAT)) (r_ln_FAULTS : R (.ln .FAULTS)) (r_rk_STAT : R (.rk .STAT))
    (r_cw_TFAULT : R (.cw .TFAULT)) (r_cw_LDSTAT : R (.cw .LDSTAT)) (r_ds_EVENTS : R (.ds .EVENTS))
    (r_db_LSTAT : R (.db .LSTAT)) (r_ln_LAST : R (.ln .LAST)) (r_cw_TAPOVR : R (.cw .TAPOVR)) : Within P R s0
    (conversion x1 x2 x3 x4 s) := by
  unfold conversion; try dsimp only
  repeat' first
    | with_reducible assumption | with_reducible refine noteConsistency_within ?_ p_lanes p_phys r_ln_ICNT
    | with_reducible refine wordDone_within ?_ p_merger p_safety p_router p_lanes p_coach p_ic
                        p_tw r_ln_LAST r_cw_TAPOVR r_ln_STAT
    | with_reducible refine updLane_within ?_ p_lanes
    | with_reducible refine declarePhysFault_within ?_ p_merger p_safety p_router p_drawbar
                        p_slots p_lanes p_phys p_cal p_coach p_ic p_host p_tw r_ca_STAT r_ca_LTEMP r_ca_RUN
                        r_al_FSTAT r_ln_STAT r_ln_FAULTS r_rk_STAT r_cw_TFAULT r_cw_LDSTAT r_ds_EVENTS r_db_LSTAT
    | with_reducible refine laneFlag_within ?_ p_safety p_ic p_tw r_ln_STAT
    | with_reducible refine within_pair ?_ (by assumption) | split

theorem settleEnd_within (h : Within P R s0 s) (p_safety : P .safety) (p_lanes : P .lanes) (p_ic : P .ic)
    (p_tw : P .tw) (r_ln_STAT : R (.ln .STAT)) : Within P R s0 (settleEnd x1 s) := by
  unfold settleEnd; try dsimp only
  repeat' first
    | with_reducible assumption | with_reducible refine substConnected_within ?_ p_safety p_lanes p_ic p_tw r_ln_STAT
    | with_reducible refine updLane_within ?_ p_lanes | with_reducible refine within_pair ?_ (by assumption) | split

theorem laneStart_within (h : Within P R s0 s) (p_merger : P .merger) (p_safety : P .safety) (p_router : P .router)
    (p_drawbar : P .drawbar) (p_slots : P .slots) (p_lanes : P .lanes) (p_phys : P .phys) (p_cal : P .cal)
    (p_coach : P .coach) (p_ic : P .ic) (p_host : P .host) (p_tw : P .tw) (r_ca_STAT : R (.ca .STAT))
    (r_ca_LTEMP : R (.ca .LTEMP)) (r_ca_RUN : R (.ca .RUN)) (r_ln_STAT : R (.ln .STAT)) (r_al_FSTAT : R (.al .FSTAT))
    (r_ln_FAULTS : R (.ln .FAULTS)) (r_rk_STAT : R (.rk .STAT)) (r_cw_TFAULT : R (.cw .TFAULT))
    (r_cw_LDSTAT : R (.cw .LDSTAT)) (r_ds_EVENTS : R (.ds .EVENTS)) (r_db_LSTAT : R (.db .LSTAT)) : Within P R s0
    (laneStart x1 s) := by
  unfold laneStart; try dsimp only
  repeat' first
    | with_reducible assumption
    | with_reducible refine laneNoSpare_within ?_ p_merger p_safety p_router p_drawbar p_slots
                        p_lanes p_coach p_ic p_host p_tw r_al_FSTAT r_ln_STAT r_ln_FAULTS r_rk_STAT r_cw_TFAULT
                        r_cw_LDSTAT r_ds_EVENTS r_db_LSTAT
    | with_reducible refine abortRun_within ?_ p_merger p_safety p_lanes p_phys p_cal p_ic p_tw
                        r_ca_STAT r_ca_LTEMP r_ca_RUN
    | with_reducible refine updPhys_within ?_ p_phys | with_reducible refine updLane_within ?_ p_lanes
    | with_reducible refine startRun_within ?_ p_safety p_lanes p_ic p_tw r_ln_STAT
    | with_reducible refine within_pair ?_ (by assumption) | split

theorem laneStop_within (h : Within P R s0 s) (p_merger : P .merger) (p_lanes : P .lanes) (p_phys : P .phys) : Within
    P R s0 (laneStop x1 s) := by
  unfold laneStop; try dsimp only
  repeat' first
    | with_reducible assumption | with_reducible refine updPhys_within ?_ p_phys
    | with_reducible refine updLane_within ?_ p_lanes | with_reducible refine staleMark_within ?_ p_merger p_lanes
    | with_reducible refine closeSamples_within ?_ p_merger p_lanes
    | with_reducible refine within_pair ?_ (by assumption) | split

theorem writeEnable_within (h : Within P R s0 s) (p_merger : P .merger) (p_safety : P .safety) (p_router : P .router)
    (p_drawbar : P .drawbar) (p_slots : P .slots) (p_lanes : P .lanes) (p_phys : P .phys) (p_cal : P .cal)
    (p_coach : P .coach) (p_ic : P .ic) (p_host : P .host) (p_tw : P .tw) (r_ln_ENABLE : R (.ln .ENABLE))
    (r_ca_STAT : R (.ca .STAT)) (r_ca_LTEMP : R (.ca .LTEMP)) (r_ca_RUN : R (.ca .RUN)) (r_ln_STAT : R (.ln .STAT))
    (r_al_FSTAT : R (.al .FSTAT)) (r_ln_FAULTS : R (.ln .FAULTS)) (r_rk_STAT : R (.rk .STAT))
    (r_cw_TFAULT : R (.cw .TFAULT)) (r_cw_LDSTAT : R (.cw .LDSTAT)) (r_ds_EVENTS : R (.ds .EVENTS))
    (r_db_LSTAT : R (.db .LSTAT)) : Within P R s0 (writeEnable x1 s) := by
  unfold writeEnable; try dsimp only
  repeat' first
    | with_reducible assumption | with_reducible refine State.setReg_within ?_ (by assumption)
    | with_reducible refine laneStop_within ?_ p_merger p_lanes p_phys
    | with_reducible refine laneStart_within ?_ p_merger p_safety p_router p_drawbar p_slots
                        p_lanes p_phys p_cal p_coach p_ic p_host p_tw r_ca_STAT r_ca_LTEMP r_ca_RUN r_ln_STAT
                        r_al_FSTAT r_ln_FAULTS r_rk_STAT r_cw_TFAULT r_cw_LDSTAT r_ds_EVENTS r_db_LSTAT
    | with_reducible refine within_foldl (fun _ _ h => ?_) ?_
    | with_reducible refine within_foldl_snd (fun _ _ h => ?_) ?_
    | with_reducible refine within_foldl_fst (fun _ _ h => ?_) ?_
    | with_reducible refine within_pair ?_ (by assumption) | split

theorem laneRestart_within (h : Within P R s0 s) (p_safety : P .safety) (p_lanes : P .lanes) (p_ic : P .ic)
    (p_tw : P .tw) (r_ln_STAT : R (.ln .STAT)) : Within P R s0 (laneRestart x1 s) := by
  unfold laneRestart; try dsimp only
  repeat' first
    | with_reducible assumption | with_reducible refine beginCycle_within ?_ p_safety p_lanes p_ic p_tw r_ln_STAT
    | with_reducible refine updLane_within ?_ p_lanes | with_reducible refine within_pair ?_ (by assumption) | split

theorem writeLnCmd_within (h : Within P R s0 s) (p_safety : P .safety) (p_lanes : P .lanes) (p_phys : P .phys)
    (p_ic : P .ic) (p_tw : P .tw) (r_ln_STAT : R (.ln .STAT)) : Within P R s0 (writeLnCmd x1 x2 s) := by
  unfold writeLnCmd; try dsimp only
  repeat' first
    | with_reducible assumption | with_reducible refine updPhys_within ?_ p_phys
    | with_reducible refine updLane_within ?_ p_lanes
    | with_reducible refine laneRestart_within ?_ p_safety p_lanes p_ic p_tw r_ln_STAT
    | with_reducible refine within_pair ?_ (by assumption) | split

theorem laneTimerTick_within (h : Within P R s0 s) (p_phys : P .phys) : Within P R s0 (laneTimerTick x1 s) := by
  unfold laneTimerTick; try dsimp only
  repeat' first
    | with_reducible assumption | with_reducible refine updPhys_within ?_ p_phys
    | with_reducible refine within_pair ?_ (by assumption) | split

theorem testStart_within (h : Within P R s0 s) (p_phys : P .phys) : Within P R s0 (testStart x1 s) := by
  unfold testStart; try dsimp only
  repeat' first
    | with_reducible assumption | with_reducible refine updPhys_within ?_ p_phys
    | with_reducible refine within_pair ?_ (by assumption) | split

theorem afterTest_within (h : Within P R s0 s) (p_safety : P .safety) (p_lanes : P .lanes) (p_ic : P .ic)
    (p_tw : P .tw) (r_ln_STAT : R (.ln .STAT)) : Within P R s0 (afterTest x1 s) := by
  unfold afterTest; try dsimp only
  repeat' first
    | with_reducible assumption | with_reducible refine beginCycle_within ?_ p_safety p_lanes p_ic p_tw r_ln_STAT
    | with_reducible refine updLane_within ?_ p_lanes | with_reducible refine within_pair ?_ (by assumption) | split

theorem testDone_within (h : Within P R s0 s) (p_merger : P .merger) (p_safety : P .safety) (p_router : P .router)
    (p_drawbar : P .drawbar) (p_slots : P .slots) (p_lanes : P .lanes) (p_phys : P .phys) (p_cal : P .cal)
    (p_coach : P .coach) (p_ic : P .ic) (p_host : P .host) (p_tw : P .tw) (r_ln_ICNT : R (.ln .ICNT))
    (r_ca_STAT : R (.ca .STAT)) (r_ca_LTEMP : R (.ca .LTEMP)) (r_ca_RUN : R (.ca .RUN)) (r_al_FSTAT : R (.al .FSTAT))
    (r_ln_STAT : R (.ln .STAT)) (r_ln_FAULTS : R (.ln .FAULTS)) (r_rk_STAT : R (.rk .STAT))
    (r_cw_TFAULT : R (.cw .TFAULT)) (r_cw_LDSTAT : R (.cw .LDSTAT)) (r_ds_EVENTS : R (.ds .EVENTS))
    (r_db_LSTAT : R (.db .LSTAT)) : Within P R s0 (testDone x1 x2 x3 s) := by
  unfold testDone; try dsimp only
  repeat' first
    | with_reducible assumption | with_reducible refine noteConsistency_within ?_ p_lanes p_phys r_ln_ICNT
    | with_reducible refine updPhys_within ?_ p_phys
    | with_reducible refine afterTest_within ?_ p_safety p_lanes p_ic p_tw r_ln_STAT
    | with_reducible refine declarePhysFault_within ?_ p_merger p_safety p_router p_drawbar
                        p_slots p_lanes p_phys p_cal p_coach p_ic p_host p_tw r_ca_STAT r_ca_LTEMP r_ca_RUN
                        r_al_FSTAT r_ln_STAT r_ln_FAULTS r_rk_STAT r_cw_TFAULT r_cw_LDSTAT r_ds_EVENTS r_db_LSTAT
    | with_reducible refine laneFlag_within ?_ p_safety p_ic p_tw r_ln_STAT
    | with_reducible refine within_pair ?_ (by assumption) | split

theorem laneRetest_within (h : Within P R s0 s) (p_phys : P .phys) : Within P R s0 (laneRetest x1 s) := by
  unfold laneRetest; try dsimp only
  repeat' first
    | with_reducible assumption | with_reducible refine updPhys_within ?_ p_phys
    | with_reducible refine within_pair ?_ (by assumption) | split

theorem laneRetestDone_within (h : Within P R s0 s) (p_safety : P .safety) (p_phys : P .phys) : Within P R s0
    (laneRetestDone x1 x2 x3 s) := by
  unfold laneRetestDone; try dsimp only
  repeat' first
    | with_reducible assumption | with_reducible refine almanac_within ?_ p_safety
    | with_reducible refine updPhys_within ?_ p_phys | with_reducible refine within_pair ?_ (by assumption) | split

theorem parkLane_within (h : Within P R s0 s) (p_merger : P .merger) (p_safety : P .safety) (p_lanes : P .lanes)
    (p_coach : P .coach) (p_ic : P .ic) (p_tw : P .tw) (r_ln_LAST : R (.ln .LAST)) (r_cw_TAPOVR : R (.cw .TAPOVR)) :
    Within P R s0 (parkLane x1 s) := by
  unfold parkLane; try dsimp only
  repeat' first
    | with_reducible assumption | with_reducible refine updLane_within ?_ p_lanes
    | with_reducible refine closeSamples_within ?_ p_merger p_lanes
    | with_reducible refine releaseWord_within ?_ p_merger p_safety p_lanes p_coach p_ic p_tw r_ln_LAST r_cw_TAPOVR
    | with_reducible refine within_foldl (fun _ _ h => ?_) ?_

theorem restartLane_within (h : Within P R s0 s) (p_merger : P .merger) (p_safety : P .safety) (p_router : P .router)
    (p_drawbar : P .drawbar) (p_slots : P .slots) (p_lanes : P .lanes) (p_phys : P .phys) (p_cal : P .cal)
    (p_coach : P .coach) (p_ic : P .ic) (p_host : P .host) (p_tw : P .tw) (r_ca_STAT : R (.ca .STAT))
    (r_ca_LTEMP : R (.ca .LTEMP)) (r_ca_RUN : R (.ca .RUN)) (r_ln_STAT : R (.ln .STAT)) (r_al_FSTAT : R (.al .FSTAT))
    (r_ln_FAULTS : R (.ln .FAULTS)) (r_rk_STAT : R (.rk .STAT)) (r_cw_TFAULT : R (.cw .TFAULT))
    (r_cw_LDSTAT : R (.cw .LDSTAT)) (r_ds_EVENTS : R (.ds .EVENTS)) (r_db_LSTAT : R (.db .LSTAT)) : Within P R s0
    (restartLane x1 s) := by
  unfold restartLane; try dsimp only
  repeat' first
    | with_reducible assumption | with_reducible refine updPhys_within ?_ p_phys
    | with_reducible refine laneStart_within ?_ p_merger p_safety p_router p_drawbar p_slots
                        p_lanes p_phys p_cal p_coach p_ic p_host p_tw r_ca_STAT r_ca_LTEMP r_ca_RUN r_ln_STAT
                        r_al_FSTAT r_ln_FAULTS r_rk_STAT r_cw_TFAULT r_cw_LDSTAT r_ds_EVENTS r_db_LSTAT
    | with_reducible refine updLane_within ?_ p_lanes | with_reducible refine staleMark_within ?_ p_merger p_lanes
    | with_reducible refine within_pair ?_ (by assumption) | split

theorem testsDue_within (h : Within P R s0 s) (p_phys : P .phys) : Within P R s0 (testsDue s) := by
  unfold testsDue; try dsimp only
  repeat' first
    | with_reducible assumption | with_reducible refine laneTimerTick_within ?_ p_phys
    | with_reducible refine within_foldl (fun _ _ h => ?_) ?_

end Sys2Proof.Machine
end

