-- ==== Sys2Proof/Laws/WithinCalibration.lean ====
section
/-! SUPPORT. What each operation of Machine/Calibration.lean can change: one lemma per operation (see Laws/WithinOps.lean). -/
namespace Sys2Proof.Machine
set_option Elab.async false

set_option linter.unusedVariables false
set_option linter.unusedSimpArgs false

variable {P : Part → Prop} {R : Reg → Prop} {s0 s t : State}

theorem temperatureReading_within (h : Within P R s0 s) (p_safety : P .safety) (p_cal : P .cal) (p_ic : P .ic)
    (p_tw : P .tw) (r_ca_TEMP : R (.ca .TEMP)) (r_ca_RUN : R (.ca .RUN)) : Within P R s0 (temperatureReading x1 s) := by
  unfold temperatureReading; try dsimp only
  repeat' first
    | with_reducible assumption | with_reducible refine State.setReg_within ?_ (by assumption)
    | with_reducible refine updCal_within ?_ p_cal
    | with_reducible refine calPend_within ?_ p_safety p_ic p_tw r_ca_RUN
    | with_reducible refine within_foldl (fun _ _ h => ?_) ?_
    | with_reducible refine within_foldl_snd (fun _ _ h => ?_) ?_
    | with_reducible refine within_foldl_fst (fun _ _ h => ?_) ?_
    | with_reducible refine within_pair ?_ (by assumption) | split

theorem calDropStopped_within (h : Within P R s0 s) (r_ca_RUN : R (.ca .RUN)) : Within P R s0 (calDropStopped s) := by
  unfold calDropStopped; try dsimp only
  repeat' first
    | with_reducible assumption | with_reducible refine State.clrReg_within ?_ (by assumption)
    | with_reducible refine within_foldl (fun _ _ h => ?_) ?_
    | with_reducible refine within_foldl_snd (fun _ _ h => ?_) ?_
    | with_reducible refine within_foldl_fst (fun _ _ h => ?_) ?_
    | with_reducible refine within_pair ?_ (by assumption) | split

theorem calSelect_within (h : Within P R s0 s) (p_phys : P .phys) (p_cal : P .cal) (r_ca_RUN : R (.ca .RUN)) : Within
    P R s0 (calSelect s) := by
  unfold calSelect; try dsimp only
  repeat' first
    | with_reducible assumption | with_reducible refine calDropStopped_within ?_ r_ca_RUN
    | with_reducible refine updPhys_within ?_ p_phys | with_reducible refine updCal_within ?_ p_cal
    | with_reducible refine within_pair ?_ (by assumption) | split

theorem calStart_within (h : Within P R s0 s) (p_merger : P .merger) (p_lanes : P .lanes) (p_cal : P .cal)
    (r_ca_RUN : R (.ca .RUN)) : Within P R s0 (calStart s) := by
  unfold calStart; try dsimp only
  repeat' first
    | with_reducible assumption | with_reducible refine State.clrReg_within ?_ (by assumption)
    | with_reducible refine updLane_within ?_ p_lanes | with_reducible refine staleMark_within ?_ p_merger p_lanes
    | with_reducible refine updCal_within ?_ p_cal | with_reducible refine within_pair ?_ (by assumption) | split

theorem putSetCode_within (h : Within P R s0 s) (r_ca_SETS : R (.ca .SETS)) : Within P R s0 (putSetCode x1 x2 x3 x4 s) := by
  unfold putSetCode; try dsimp only
  repeat' first
    | with_reducible assumption | with_reducible refine State.setFld_within ?_ (by assumption)

theorem foldSet_within (h : Within P R s0 s) (p_safety : P .safety) (p_ic : P .ic) (p_tw : P .tw)
    (r_ca_SETS : R (.ca .SETS)) (r_ca_STAT : R (.ca .STAT)) : Within P R s0 (foldSet x1 x2 x3 x4 s) := by
  unfold foldSet; try dsimp only
  repeat' first
    | with_reducible assumption | with_reducible refine putSetCode_within ?_ r_ca_SETS
    | with_reducible refine State.orReg_within ?_ p_safety p_ic p_tw (by assumption)
    | with_reducible refine within_pair ?_ (by assumption) | split

theorem foldCode_within (h : Within P R s0 s) (p_safety : P .safety) (p_ic : P .ic) (p_tw : P .tw)
    (r_ca_SETS : R (.ca .SETS)) (r_ca_STAT : R (.ca .STAT)) : Within P R s0 (foldCode x1 x2 x3 x4 s) := by
  unfold foldCode; try dsimp only
  repeat' first
    | with_reducible assumption | with_reducible refine foldSet_within ?_ p_safety p_ic p_tw r_ca_SETS r_ca_STAT
    | with_reducible refine within_foldl (fun _ _ h => ?_) ?_

theorem calIdle_within (h : Within P R s0 s) (p_cal : P .cal) : Within P R s0 (calIdle s) := by
  unfold calIdle; try dsimp only
  repeat' first
    | with_reducible assumption | with_reducible refine updCal_within ?_ p_cal

theorem setLtemp_within (h : Within P R s0 s) (r_ca_LTEMP : R (.ca .LTEMP)) : Within P R s0 (setLtemp x1 x2 x3 s) := by
  unfold setLtemp; try dsimp only
  repeat' first
    | with_reducible assumption | with_reducible refine State.setReg_within ?_ (by assumption)

theorem loanStays_within (h : Within P R s0 s) (p_merger : P .merger) (p_safety : P .safety) (p_router : P .router)
    (p_lanes : P .lanes) (p_phys : P .phys) (p_ic : P .ic) (p_tw : P .tw) (r_ca_RUN : R (.ca .RUN))
    (r_ln_STAT : R (.ln .STAT)) (r_ln_FAULTS : R (.ln .FAULTS)) : Within P R s0 (loanStays x1 x2 x3 s) := by
  unfold loanStays; try dsimp only
  repeat' first
    | with_reducible assumption | with_reducible refine fencePhys_within ?_ p_phys
    | with_reducible refine updPhys_within ?_ p_phys
    | with_reducible refine laneSubstRecord_within ?_ p_merger p_safety p_lanes p_ic p_tw r_ln_STAT r_ln_FAULTS
    | with_reducible refine updLane_within ?_ p_lanes | with_reducible refine publish_within ?_ p_router
    | with_reducible refine calPend_within ?_ p_safety p_ic p_tw r_ca_RUN

theorem calFail_within (h : Within P R s0 s) (p_merger : P .merger) (p_safety : P .safety) (p_router : P .router)
    (p_drawbar : P .drawbar) (p_slots : P .slots) (p_lanes : P .lanes) (p_phys : P .phys) (p_cal : P .cal)
    (p_coach : P .coach) (p_ic : P .ic) (p_host : P .host) (p_tw : P .tw) (r_ca_STAT : R (.ca .STAT))
    (r_ca_LTEMP : R (.ca .LTEMP)) (r_ca_RUN : R (.ca .RUN)) (r_ln_STAT : R (.ln .STAT))
    (r_ln_FAULTS : R (.ln .FAULTS)) (r_al_FSTAT : R (.al .FSTAT)) (r_rk_STAT : R (.rk .STAT))
    (r_cw_TFAULT : R (.cw .TFAULT)) (r_cw_LDSTAT : R (.cw .LDSTAT)) (r_ds_EVENTS : R (.ds .EVENTS))
    (r_db_LSTAT : R (.db .LSTAT)) : Within P R s0 (calFail s) := by
  unfold calFail; try dsimp only
  repeat' first
    | with_reducible assumption | with_reducible refine almanac_within ?_ p_safety
    | with_reducible refine loanStays_within ?_ p_merger p_safety p_router p_lanes p_phys p_ic
                        p_tw r_ca_RUN r_ln_STAT r_ln_FAULTS
    | with_reducible refine calDone_within ?_ p_merger p_lanes | with_reducible refine updLane_within ?_ p_lanes
    | with_reducible refine setLtemp_within ?_ r_ca_LTEMP
    | with_reducible refine State.orReg_within ?_ p_safety p_ic p_tw (by assumption)
    | with_reducible refine staleMark_within ?_ p_merger p_lanes | with_reducible refine calIdle_within ?_ p_cal
    | with_reducible refine declarePhysFault_within ?_ p_merger p_safety p_router p_drawbar
                        p_slots p_lanes p_phys p_cal p_coach p_ic p_host p_tw r_ca_STAT r_ca_LTEMP r_ca_RUN
                        r_al_FSTAT r_ln_STAT r_ln_FAULTS r_rk_STAT r_cw_TFAULT r_cw_LDSTAT r_ds_EVENTS r_db_LSTAT
    | with_reducible refine within_pair ?_ (by assumption) | split

theorem calPass_within (h : Within P R s0 s) (p_merger : P .merger) (p_safety : P .safety) (p_lanes : P .lanes)
    (p_cal : P .cal) (p_ic : P .ic) (p_tw : P .tw) (r_ca_SETS : R (.ca .SETS)) (r_ca_STAT : R (.ca .STAT))
    (r_ca_LTEMP : R (.ca .LTEMP)) : Within P R s0 (calPass x1 s) := by
  unfold calPass; try dsimp only
  repeat' first
    | with_reducible assumption | with_reducible refine foldCode_within ?_ p_safety p_ic p_tw r_ca_SETS r_ca_STAT
    | with_reducible refine State.clrReg_within ?_ (by assumption)
    | with_reducible refine calDone_within ?_ p_merger p_lanes | with_reducible refine updLane_within ?_ p_lanes
    | with_reducible refine setLtemp_within ?_ r_ca_LTEMP
    | with_reducible refine State.orReg_within ?_ p_safety p_ic p_tw (by assumption)
    | with_reducible refine calIdle_within ?_ p_cal | with_reducible refine within_foldl (fun _ _ h => ?_) ?_
    | with_reducible refine within_foldl_snd (fun _ _ h => ?_) ?_
    | with_reducible refine within_foldl_fst (fun _ _ h => ?_) ?_
    | with_reducible refine within_pair ?_ (by assumption) | split

theorem calEnd_within (h : Within P R s0 s) (p_merger : P .merger) (p_safety : P .safety) (p_router : P .router)
    (p_drawbar : P .drawbar) (p_slots : P .slots) (p_lanes : P .lanes) (p_phys : P .phys) (p_cal : P .cal)
    (p_coach : P .coach) (p_ic : P .ic) (p_host : P .host) (p_tw : P .tw) (r_ca_STAT : R (.ca .STAT))
    (r_ca_LTEMP : R (.ca .LTEMP)) (r_ca_RUN : R (.ca .RUN)) (r_ln_STAT : R (.ln .STAT))
    (r_ln_FAULTS : R (.ln .FAULTS)) (r_al_FSTAT : R (.al .FSTAT)) (r_rk_STAT : R (.rk .STAT))
    (r_cw_TFAULT : R (.cw .TFAULT)) (r_cw_LDSTAT : R (.cw .LDSTAT)) (r_ds_EVENTS : R (.ds .EVENTS))
    (r_db_LSTAT : R (.db .LSTAT)) (r_ca_SETS : R (.ca .SETS)) : Within P R s0 (calEnd x1 x2 x3 s) := by
  unfold calEnd; try dsimp only
  repeat' first
    | with_reducible assumption
    | with_reducible refine calFail_within ?_ p_merger p_safety p_router p_drawbar p_slots
                        p_lanes p_phys p_cal p_coach p_ic p_host p_tw r_ca_STAT r_ca_LTEMP r_ca_RUN r_ln_STAT
                        r_ln_FAULTS r_al_FSTAT r_rk_STAT r_cw_TFAULT r_cw_LDSTAT r_ds_EVENTS r_db_LSTAT
    | with_reducible refine calPass_within ?_ p_merger p_safety p_lanes p_cal p_ic p_tw
                        r_ca_SETS r_ca_STAT r_ca_LTEMP
    | with_reducible refine within_pair ?_ (by assumption) | split

theorem loanEnd_within (h : Within P R s0 s) (p_lanes : P .lanes) (p_phys : P .phys) : Within P R s0 (loanEnd x1 s) := by
  unfold loanEnd; try dsimp only
  repeat' first
    | with_reducible assumption | with_reducible refine updPhys_within ?_ p_phys
    | with_reducible refine updLane_within ?_ p_lanes | with_reducible refine within_pair ?_ (by assumption) | split

theorem staleWord_within (h : Within P R s0 s) (p_merger : P .merger) (p_safety : P .safety) (p_router : P .router)
    (p_lanes : P .lanes) (p_coach : P .coach) (p_ic : P .ic) (p_tw : P .tw) (r_ln_LAST : R (.ln .LAST))
    (r_cw_TAPOVR : R (.cw .TAPOVR)) (r_ln_STAT : R (.ln .STAT)) : Within P R s0 (staleWord x1 s) := by
  unfold staleWord; try dsimp only
  repeat' first
    | with_reducible assumption
    | with_reducible refine endVisit_within ?_ p_safety p_router p_lanes p_ic p_tw r_ln_STAT
    | with_reducible refine updLane_within ?_ p_lanes
    | with_reducible refine finishWord_within ?_ p_merger p_safety p_lanes p_coach p_ic p_tw r_ln_LAST r_cw_TAPOVR
    | with_reducible refine within_pair ?_ (by assumption) | split

theorem holdResume_within (h : Within P R s0 s) (p_merger : P .merger) (p_lanes : P .lanes) : Within P R s0
    (holdResume x1 s) := by
  unfold holdResume; try dsimp only
  repeat' first
    | with_reducible assumption | with_reducible refine updLane_within ?_ p_lanes
    | with_reducible refine staleMark_within ?_ p_merger p_lanes
    | with_reducible refine within_pair ?_ (by assumption) | split

theorem writeSets_within (h : Within P R s0 s) (p_safety : P .safety) (p_ic : P .ic) (p_tw : P .tw)
    (r_ca_STAT : R (.ca .STAT)) (r_ca_SETS : R (.ca .SETS)) : Within P R s0 (writeSets x1 x2 s) := by
  unfold writeSets; try dsimp only
  repeat' first
    | with_reducible assumption | with_reducible refine State.setReg_within ?_ (by assumption)
    | with_reducible refine State.orReg_within ?_ p_safety p_ic p_tw (by assumption)
    | with_reducible refine within_pair ?_ (by assumption) | split

theorem writeDac_within (h : Within P R s0 s) (p_cal : P .cal) (r_ca_DACVAL : R (.ca .DACVAL)) : Within P R s0
    (writeDac x1 s) := by
  unfold writeDac; try dsimp only
  repeat' first
    | with_reducible assumption | with_reducible refine State.setReg_within ?_ (by assumption)
    | with_reducible refine updCal_within ?_ p_cal | with_reducible refine within_pair ?_ (by assumption) | split

theorem caRead_within (h : Within P R s0 s) : Within P R s0 (caRead x1 x2 x3 s).2 := by
  unfold caRead; try dsimp only
  repeat' first
    | with_reducible assumption | with_reducible refine within_pair ?_ (by assumption) | split

theorem caWrite_within (h : Within P R s0 s) (p_safety : P .safety) (p_cal : P .cal) (p_ic : P .ic) (p_tw : P .tw)
    (r_ca_DTEMP : R (.ca .DTEMP)) (r_ca_MAXINT : R (.ca .MAXINT)) (r_ca_SPARE : R (.ca .SPARE))
    (r_ca_DACVAL : R (.ca .DACVAL)) (r_ca_STAT : R (.ca .STAT)) (r_ca_SETS : R (.ca .SETS)) (r1 : R (Reg.ca x2)) :
    Within P R s0 (caWrite x1 x2 x3 x4 s) := by
  unfold caWrite; try dsimp only
  repeat' first
    | with_reducible assumption | with_reducible refine State.plainWrite_within ?_ (by assumption)
    | with_reducible refine writeDac_within ?_ p_cal r_ca_DACVAL
    | with_reducible refine writeSets_within ?_ p_safety p_ic p_tw r_ca_STAT r_ca_SETS
    | with_reducible refine within_pair ?_ (by assumption) | split

theorem lnRead_within (h : Within P R s0 s) (r_ln_ICNT : R (.ln .ICNT)) : Within P R s0 (lnRead x1 x2 x3 s).2 := by
  unfold lnRead; try dsimp only
  repeat' first
    | with_reducible assumption | with_reducible refine State.readClear_within ?_ (by assumption)
    | with_reducible refine within_pair ?_ (by assumption) | split

theorem lnWrite_within (h : Within P R s0 s) (p_merger : P .merger) (p_safety : P .safety) (p_router : P .router)
    (p_drawbar : P .drawbar) (p_slots : P .slots) (p_lanes : P .lanes) (p_phys : P .phys) (p_cal : P .cal)
    (p_coach : P .coach) (p_ic : P .ic) (p_host : P .host) (p_tw : P .tw) (r_ln_SEL : R (.ln .SEL))
    (r_ln_ENABLE : R (.ln .ENABLE)) (r_ca_STAT : R (.ca .STAT)) (r_ca_LTEMP : R (.ca .LTEMP))
    (r_ca_RUN : R (.ca .RUN)) (r_ln_STAT : R (.ln .STAT)) (r_al_FSTAT : R (.al .FSTAT))
    (r_ln_FAULTS : R (.ln .FAULTS)) (r_rk_STAT : R (.rk .STAT)) (r_cw_TFAULT : R (.cw .TFAULT))
    (r_cw_LDSTAT : R (.cw .LDSTAT)) (r_ds_EVENTS : R (.ds .EVENTS)) (r_db_LSTAT : R (.db .LSTAT))
    (r_ln_SCAN : R (.ln .SCAN)) (r_ln_CTRL : R (.ln .CTRL)) (r_ln_PERIOD : R (.ln .PERIOD))
    (r_ln_SETTLE : R (.ln .SETTLE)) : Within P R s0 (lnWrite x1 x2 x3 x4 s) := by
  unfold lnWrite; try dsimp only
  repeat' first
    | with_reducible assumption | with_reducible refine laneRetest_within ?_ p_phys
    | with_reducible refine writeSel_within ?_ (by assumption)
    | with_reducible refine State.plainWrite_within ?_ (by assumption)
    | with_reducible refine writeLnCmd_within ?_ p_safety p_lanes p_phys p_ic p_tw r_ln_STAT
    | with_reducible refine writeEnable_within ?_ p_merger p_safety p_router p_drawbar p_slots
                        p_lanes p_phys p_cal p_coach p_ic p_host p_tw r_ln_ENABLE r_ca_STAT r_ca_LTEMP r_ca_RUN
                        r_ln_STAT r_al_FSTAT r_ln_FAULTS r_rk_STAT r_cw_TFAULT r_cw_LDSTAT r_ds_EVENTS r_db_LSTAT
    | with_reducible refine within_pair ?_ (by assumption) | split

end Sys2Proof.Machine
end

