-- ==== Sys2Proof/Laws/WithinConsist.lean ====
section
/-! SUPPORT. What each operation of Machine/Consist.lean can change: one lemma per operation (see Laws/WithinOps.lean). -/
namespace Sys2Proof.Machine
set_option Elab.async false

set_option linter.unusedVariables false
set_option linter.unusedSimpArgs false

variable {P : Part → Prop} {R : Reg → Prop} {s0 s t : State}

theorem writeCar_within (h : Within P R s0 s) (p_mem : P .mem) (p_coach : P .coach) : Within P R s0 (writeCar x1 x2 x3
    s) := by
  unfold writeCar; try dsimp only
  repeat' first
    | with_reducible assumption | with_reducible refine writeCache_within ?_ p_mem p_coach
    | with_reducible refine loadCarriage_within ?_ p_mem p_coach | with_reducible refine updCar_within ?_ p_coach
    | with_reducible refine within_pair ?_ (by assumption) | split

theorem writeTrain_within (h : Within P R s0 s) (p_coach : P .coach) : Within P R s0 (writeTrain x1 x2 s) := by
  unfold writeTrain; try dsimp only
  repeat' first
    | with_reducible assumption | with_reducible refine updTrain_within ?_ p_coach

theorem writeFabric_within (h : Within P R s0 s) (p_mem : P .mem) (p_coach : P .coach) : Within P R s0 (writeFabric x1
    x2 s) := by
  unfold writeFabric; try dsimp only
  repeat' first
    | with_reducible assumption | with_reducible refine updCoach_within ?_ p_coach
    | with_reducible refine writeTrain_within ?_ p_coach | with_reducible refine writeCar_within ?_ p_mem p_coach
    | with_reducible refine within_foldl (fun _ _ h => ?_) ?_

theorem trainWritten_within (h : Within P R s0 s) (p_merger : P .merger) (p_safety : P .safety) (p_router : P .router)
    (p_drawbar : P .drawbar) (p_slots : P .slots) (p_coach : P .coach) (p_ic : P .ic) (p_host : P .host)
    (p_tw : P .tw) (r_rk_STAT : R (.rk .STAT)) (r_cw_TFAULT : R (.cw .TFAULT)) (r_cw_LDSTAT : R (.cw .LDSTAT))
    (r_ds_EVENTS : R (.ds .EVENTS)) (r_db_LSTAT : R (.db .LSTAT)) : Within P R s0 (trainWritten x1 s) := by
  unfold trainWritten; try dsimp only
  repeat' first
    | with_reducible assumption
    | with_reducible refine faultTrain_within ?_ p_merger p_safety p_router p_drawbar p_slots
                        p_coach p_ic p_host p_tw r_rk_STAT r_cw_TFAULT r_cw_LDSTAT r_ds_EVENTS r_db_LSTAT
    | with_reducible refine updTrain_within ?_ p_coach | with_reducible refine within_pair ?_ (by assumption) | split

theorem loaderStarted_within (h : Within P R s0 s) (p_merger : P .merger) (p_safety : P .safety)
    (p_router : P .router) (p_drawbar : P .drawbar) (p_slots : P .slots) (p_lanes : P .lanes) (p_phys : P .phys)
    (p_cal : P .cal) (p_coach : P .coach) (p_ic : P .ic) (p_host : P .host) (p_tw : P .tw)
    (r_ln_ENABLE : R (.ln .ENABLE)) (r_ca_STAT : R (.ca .STAT)) (r_ca_LTEMP : R (.ca .LTEMP))
    (r_ca_RUN : R (.ca .RUN)) (r_ln_STAT : R (.ln .STAT)) (r_al_FSTAT : R (.al .FSTAT))
    (r_ln_FAULTS : R (.ln .FAULTS)) (r_rk_STAT : R (.rk .STAT)) (r_cw_TFAULT : R (.cw .TFAULT))
    (r_cw_LDSTAT : R (.cw .LDSTAT)) (r_ds_EVENTS : R (.ds .EVENTS)) (r_db_LSTAT : R (.db .LSTAT)) : Within P R s0
    (loaderStarted s) := by
  unfold loaderStarted; try dsimp only
  repeat' first
    | with_reducible assumption
    | with_reducible refine loaderFinish_within ?_ p_safety p_coach p_ic p_host p_tw r_cw_LDSTAT
    | with_reducible refine writeEnable_within ?_ p_merger p_safety p_router p_drawbar p_slots
                        p_lanes p_phys p_cal p_coach p_ic p_host p_tw r_ln_ENABLE r_ca_STAT r_ca_LTEMP r_ca_RUN
                        r_ln_STAT r_al_FSTAT r_ln_FAULTS r_rk_STAT r_cw_TFAULT r_cw_LDSTAT r_ds_EVENTS r_db_LSTAT
    | with_reducible refine within_pair ?_ (by assumption) | split

theorem imageWritten_within (h : Within P R s0 s) (p_merger : P .merger) (p_safety : P .safety) (p_router : P .router)
    (p_drawbar : P .drawbar) (p_slots : P .slots) (p_lanes : P .lanes) (p_phys : P .phys) (p_cal : P .cal)
    (p_coach : P .coach) (p_ic : P .ic) (p_host : P .host) (p_tw : P .tw) (r_rk_STAT : R (.rk .STAT))
    (r_cw_TFAULT : R (.cw .TFAULT)) (r_cw_LDSTAT : R (.cw .LDSTAT)) (r_ds_EVENTS : R (.ds .EVENTS))
    (r_db_LSTAT : R (.db .LSTAT)) (r_cw_ACTSER : R (.cw .ACTSER)) (r_cw_ACTID : R (.cw .ACTID))
    (r_cw_ACTSRC : R (.cw .ACTSRC)) (r_ln_ENABLE : R (.ln .ENABLE)) (r_ca_STAT : R (.ca .STAT))
    (r_ca_LTEMP : R (.ca .LTEMP)) (r_ca_RUN : R (.ca .RUN)) (r_ln_STAT : R (.ln .STAT)) (r_al_FSTAT : R (.al .FSTAT))
    (r_ln_FAULTS : R (.ln .FAULTS)) : Within P R s0 (imageWritten x1 s) := by
  unfold imageWritten; try dsimp only
  repeat' first
    | with_reducible assumption | with_reducible refine State.setReg_within ?_ (by assumption)
    | with_reducible refine trainWritten_within ?_ p_merger p_safety p_router p_drawbar p_slots
                        p_coach p_ic p_host p_tw r_rk_STAT r_cw_TFAULT r_cw_LDSTAT r_ds_EVENTS r_db_LSTAT
    | with_reducible refine State.orReg_within ?_ p_safety p_ic p_tw (by assumption)
    | with_reducible refine loaderStarted_within ?_ p_merger p_safety p_router p_drawbar p_slots
                        p_lanes p_phys p_cal p_coach p_ic p_host p_tw r_ln_ENABLE r_ca_STAT r_ca_LTEMP r_ca_RUN
                        r_ln_STAT r_al_FSTAT r_ln_FAULTS r_rk_STAT r_cw_TFAULT r_cw_LDSTAT r_ds_EVENTS r_db_LSTAT
    | with_reducible refine updLoader_within ?_ p_coach | with_reducible refine trainStart_within ?_ p_coach
    | with_reducible refine within_foldl (fun _ _ h => ?_) ?_
    | with_reducible refine within_foldl_snd (fun _ _ h => ?_) ?_
    | with_reducible refine within_foldl_fst (fun _ _ h => ?_) ?_
    | with_reducible refine within_pair ?_ (by assumption) | split

theorem mapHome_within (h : Within P R s0 s) (p_coach : P .coach) : Within P R s0 (mapHome x1 s) := by
  unfold mapHome; try dsimp only
  repeat' first
    | with_reducible assumption | with_reducible refine updCoach_within ?_ p_coach
    | with_reducible refine updCar_within ?_ p_coach | with_reducible refine within_pair ?_ (by assumption) | split

theorem emptyAll_within (h : Within P R s0 s) (p_coach : P .coach) : Within P R s0 (emptyAll s) := by
  unfold emptyAll; try dsimp only
  repeat' first
    | with_reducible assumption | with_reducible refine emptyTrain_within ?_ p_coach
    | with_reducible refine within_foldl (fun _ _ h => ?_) ?_
    | with_reducible refine within_foldl_snd (fun _ _ h => ?_) ?_
    | with_reducible refine within_foldl_fst (fun _ _ h => ?_) ?_
    | with_reducible refine within_pair ?_ (by assumption) | split

theorem writeLane_within (h : Within P R s0 s) (p_lanes : P .lanes) (rAll : ∀ r, R r) : Within P R s0 (writeLane x1 x2
    s) := by
  unfold writeLane; try dsimp only
  repeat' first
    | with_reducible assumption | with_reducible refine State.setReg_within ?_ (rAll _)
    | with_reducible refine applyLane_within ?_ p_lanes (rAll _) (rAll _) (rAll _) (rAll _)
    | with_reducible refine within_foldl (fun _ _ h => ?_) ?_
    | with_reducible refine within_foldl_snd (fun _ _ h => ?_) ?_
    | with_reducible refine within_foldl_fst (fun _ _ h => ?_) ?_
    | with_reducible refine within_pair ?_ (by assumption) | split

theorem writeDrive_within (h : Within P R s0 s) (p_slots : P .slots) (rAll : ∀ r, R r) : Within P R s0 (writeDrive x1
    x2 s) := by
  unfold writeDrive; try dsimp only
  repeat' first
    | with_reducible assumption | with_reducible refine applyDrive_within ?_ p_slots rAll
    | with_reducible refine resetDrive_within ?_ p_slots rAll | with_reducible refine within_pair ?_ (by assumption)
    | split

theorem writeFull_within (h : Within P R s0 s) (p_mem : P .mem) (p_safety : P .safety) (p_slots : P .slots)
    (p_lanes : P .lanes) (p_coach : P .coach) (p_ic : P .ic) (p_tw : P .tw) (rAll : ∀ r, R r) : Within P R s0
    (writeFull x1 s) := by
  unfold writeFull; try dsimp only
  repeat' first
    | with_reducible assumption | with_reducible refine updCoach_within ?_ p_coach
    | with_reducible refine writeDrive_within ?_ p_slots rAll
    | with_reducible refine writeFabric_within ?_ p_mem p_coach
    | with_reducible refine applyEventsFull_within ?_ p_safety p_ic p_tw (rAll _) (rAll _) (rAll
                        _) (rAll _) (rAll _) (rAll _) (rAll _)
    | with_reducible refine updLoader_within ?_ p_coach | with_reducible refine writeLane_within ?_ p_lanes rAll
    | with_reducible refine within_foldl (fun _ _ h => ?_) ?_

theorem fullTrainsStopped_within (h : Within P R s0 s) (p_mem : P .mem) (p_safety : P .safety) (p_slots : P .slots)
    (p_lanes : P .lanes) (p_coach : P .coach) (p_ic : P .ic) (p_tw : P .tw) (rAll : ∀ r, R r) : Within P R s0
    (fullTrainsStopped s) := by
  unfold fullTrainsStopped; try dsimp only
  repeat' first
    | with_reducible assumption | with_reducible refine mapHome_within ?_ p_coach
    | with_reducible refine writeFull_within ?_ p_mem p_safety p_slots p_lanes p_coach p_ic p_tw rAll
    | with_reducible refine updLoader_within ?_ p_coach | with_reducible refine emptyAll_within ?_ p_coach
    | with_reducible refine within_foldl (fun _ _ h => ?_) ?_
    | with_reducible refine within_foldl_snd (fun _ _ h => ?_) ?_
    | with_reducible refine within_foldl_fst (fun _ _ h => ?_) ?_
    | with_reducible refine within_pair ?_ (by assumption) | split

theorem fullWritten_within (h : Within P R s0 s) (p_merger : P .merger) (p_safety : P .safety) (p_router : P .router)
    (p_drawbar : P .drawbar) (p_slots : P .slots) (p_lanes : P .lanes) (p_phys : P .phys) (p_cal : P .cal)
    (p_coach : P .coach) (p_ic : P .ic) (p_host : P .host) (p_tw : P .tw) (r_rk_STAT : R (.rk .STAT))
    (r_cw_TFAULT : R (.cw .TFAULT)) (r_cw_LDSTAT : R (.cw .LDSTAT)) (r_ds_EVENTS : R (.ds .EVENTS))
    (r_db_LSTAT : R (.db .LSTAT)) (r_cw_ACTSER : R (.cw .ACTSER)) (r_cw_ACTID : R (.cw .ACTID))
    (r_cw_ACTSRC : R (.cw .ACTSRC)) (r_ln_ENABLE : R (.ln .ENABLE)) (r_ca_STAT : R (.ca .STAT))
    (r_ca_LTEMP : R (.ca .LTEMP)) (r_ca_RUN : R (.ca .RUN)) (r_ln_STAT : R (.ln .STAT)) (r_al_FSTAT : R (.al .FSTAT))
    (r_ln_FAULTS : R (.ln .FAULTS)) : Within P R s0 (fullWritten s) := by
  unfold fullWritten; try dsimp only
  repeat' first
    | with_reducible assumption
    | with_reducible refine imageWritten_within ?_ p_merger p_safety p_router p_drawbar p_slots
                        p_lanes p_phys p_cal p_coach p_ic p_host p_tw r_rk_STAT r_cw_TFAULT r_cw_LDSTAT r_ds_EVENTS
                        r_db_LSTAT r_cw_ACTSER r_cw_ACTID r_cw_ACTSRC r_ln_ENABLE r_ca_STAT r_ca_LTEMP r_ca_RUN
                        r_ln_STAT r_al_FSTAT r_ln_FAULTS
    | with_reducible refine within_pair ?_ (by assumption) | split

theorem startFull_within (h : Within P R s0 s) (p_merger : P .merger) (p_safety : P .safety) (p_router : P .router)
    (p_drawbar : P .drawbar) (p_slots : P .slots) (p_lanes : P .lanes) (p_phys : P .phys) (p_cal : P .cal)
    (p_coach : P .coach) (p_ic : P .ic) (p_host : P .host) (p_tw : P .tw) (r_db_LSTAT : R (.db .LSTAT))
    (r_ln_ENABLE : R (.ln .ENABLE)) (r_ca_STAT : R (.ca .STAT)) (r_ca_LTEMP : R (.ca .LTEMP))
    (r_ca_RUN : R (.ca .RUN)) (r_ln_STAT : R (.ln .STAT)) (r_al_FSTAT : R (.al .FSTAT))
    (r_ln_FAULTS : R (.ln .FAULTS)) (r_rk_STAT : R (.rk .STAT)) (r_cw_TFAULT : R (.cw .TFAULT))
    (r_cw_LDSTAT : R (.cw .LDSTAT)) (r_ds_EVENTS : R (.ds .EVENTS)) : Within P R s0 (startFull x1 s) := by
  unfold startFull; try dsimp only
  repeat' first
    | with_reducible assumption | with_reducible refine updLoader_within ?_ p_coach
    | with_reducible refine writeEnable_within ?_ p_merger p_safety p_router p_drawbar p_slots
                        p_lanes p_phys p_cal p_coach p_ic p_host p_tw r_ln_ENABLE r_ca_STAT r_ca_LTEMP r_ca_RUN
                        r_ln_STAT r_al_FSTAT r_ln_FAULTS r_rk_STAT r_cw_TFAULT r_cw_LDSTAT r_ds_EVENTS r_db_LSTAT
    | with_reducible refine trainStop_within ?_ p_safety p_router p_drawbar p_slots p_coach p_ic p_tw r_db_LSTAT
    | with_reducible refine within_foldl (fun _ _ h => ?_) ?_

theorem startShunt_within (h : Within P R s0 s) (p_safety : P .safety) (p_router : P .router) (p_drawbar : P .drawbar)
    (p_slots : P .slots) (p_coach : P .coach) (p_ic : P .ic) (p_host : P .host) (p_tw : P .tw)
    (r_cw_LDSTAT : R (.cw .LDSTAT)) (r_db_LSTAT : R (.db .LSTAT)) : Within P R s0 (startShunt x1 s) := by
  unfold startShunt; try dsimp only
  repeat' first
    | with_reducible assumption
    | with_reducible refine loaderFinish_within ?_ p_safety p_coach p_ic p_host p_tw r_cw_LDSTAT
    | with_reducible refine updLoader_within ?_ p_coach
    | with_reducible refine trainStop_within ?_ p_safety p_router p_drawbar p_slots p_coach p_ic p_tw r_db_LSTAT
    | with_reducible refine within_foldl (fun _ _ h => ?_) ?_
    | with_reducible refine within_foldl_snd (fun _ _ h => ?_) ?_
    | with_reducible refine within_foldl_fst (fun _ _ h => ?_) ?_
    | with_reducible refine within_pair ?_ (by assumption) | split

theorem shuntStopped_within (h : Within P R s0 s) (p_mem : P .mem) (p_safety : P .safety) (p_slots : P .slots)
    (p_coach : P .coach) (p_ic : P .ic) (p_tw : P .tw) (rAll : ∀ r, R r) : Within P R s0 (shuntStopped s) := by
  unfold shuntStopped; try dsimp only
  repeat' first
    | with_reducible assumption | with_reducible refine applyDrive_within ?_ p_slots rAll
    | with_reducible refine emptyTrain_within ?_ p_coach
    | with_reducible refine applyEventsShunt_within ?_ p_safety p_ic p_tw (rAll _) (rAll _)
                        (rAll _) (rAll _) (rAll _) (rAll _)
    | with_reducible refine writeFabric_within ?_ p_mem p_coach | with_reducible refine updLoader_within ?_ p_coach
    | with_reducible refine disconnectTrain_within ?_ (rAll _)
    | with_reducible refine within_foldl (fun _ _ h => ?_) ?_
    | with_reducible refine within_foldl_snd (fun _ _ h => ?_) ?_
    | with_reducible refine within_foldl_fst (fun _ _ h => ?_) ?_
    | with_reducible refine within_pair ?_ (by assumption) | split

theorem shuntLoaded_within (h : Within P R s0 s) (p_merger : P .merger) (p_safety : P .safety) (p_router : P .router)
    (p_drawbar : P .drawbar) (p_slots : P .slots) (p_lanes : P .lanes) (p_phys : P .phys) (p_cal : P .cal)
    (p_coach : P .coach) (p_ic : P .ic) (p_host : P .host) (p_tw : P .tw) (r_rk_STAT : R (.rk .STAT))
    (r_cw_TFAULT : R (.cw .TFAULT)) (r_cw_LDSTAT : R (.cw .LDSTAT)) (r_ds_EVENTS : R (.ds .EVENTS))
    (r_db_LSTAT : R (.db .LSTAT)) (r_cw_ACTSER : R (.cw .ACTSER)) (r_cw_ACTID : R (.cw .ACTID))
    (r_cw_ACTSRC : R (.cw .ACTSRC)) (r_ln_ENABLE : R (.ln .ENABLE)) (r_ca_STAT : R (.ca .STAT))
    (r_ca_LTEMP : R (.ca .LTEMP)) (r_ca_RUN : R (.ca .RUN)) (r_ln_STAT : R (.ln .STAT)) (r_al_FSTAT : R (.al .FSTAT))
    (r_ln_FAULTS : R (.ln .FAULTS)) : Within P R s0 (shuntLoaded s) := by
  unfold shuntLoaded; try dsimp only
  repeat' first
    | with_reducible assumption
    | with_reducible refine imageWritten_within ?_ p_merger p_safety p_router p_drawbar p_slots
                        p_lanes p_phys p_cal p_coach p_ic p_host p_tw r_rk_STAT r_cw_TFAULT r_cw_LDSTAT r_ds_EVENTS
                        r_db_LSTAT r_cw_ACTSER r_cw_ACTID r_cw_ACTSRC r_ln_ENABLE r_ca_STAT r_ca_LTEMP r_ca_RUN
                        r_ln_STAT r_al_FSTAT r_ln_FAULTS
    | with_reducible refine within_pair ?_ (by assumption) | split

theorem startHandover_within (h : Within P R s0 s) (p_mem : P .mem) (p_safety : P .safety) (p_coach : P .coach)
    (p_ic : P .ic) (p_host : P .host) (p_tw : P .tw) (r_cw_LDSTAT : R (.cw .LDSTAT)) : Within P R s0 (startHandover x1
    s) := by
  unfold startHandover; try dsimp only
  repeat' first
    | with_reducible assumption
    | with_reducible refine loaderFinish_within ?_ p_safety p_coach p_ic p_host p_tw r_cw_LDSTAT
    | with_reducible refine writeFabric_within ?_ p_mem p_coach | with_reducible refine updLoader_within ?_ p_coach
    | with_reducible refine within_pair ?_ (by assumption) | split

theorem stagingLoaded_within (h : Within P R s0 s) (p_merger : P .merger) (p_safety : P .safety)
    (p_router : P .router) (p_drawbar : P .drawbar) (p_slots : P .slots) (p_coach : P .coach) (p_ic : P .ic)
    (p_host : P .host) (p_tw : P .tw) (r_rk_STAT : R (.rk .STAT)) (r_cw_TFAULT : R (.cw .TFAULT))
    (r_cw_LDSTAT : R (.cw .LDSTAT)) (r_ds_EVENTS : R (.ds .EVENTS)) (r_db_LSTAT : R (.db .LSTAT)) : Within P R s0
    (stagingLoaded s) := by
  unfold stagingLoaded; try dsimp only
  repeat' first
    | with_reducible assumption
    | with_reducible refine trainWritten_within ?_ p_merger p_safety p_router p_drawbar p_slots
                        p_coach p_ic p_host p_tw r_rk_STAT r_cw_TFAULT r_cw_LDSTAT r_ds_EVENTS r_db_LSTAT
    | with_reducible refine trainStart_within ?_ p_coach | with_reducible refine within_pair ?_ (by assumption)
    | split

theorem handoverTimeout_within (h : Within P R s0 s) (p_safety : P .safety) (p_coach : P .coach) (p_ic : P .ic)
    (p_host : P .host) (p_tw : P .tw) (r_cw_LDSTAT : R (.cw .LDSTAT)) : Within P R s0 (handoverTimeout s) := by
  unfold handoverTimeout; try dsimp only
  repeat' first
    | with_reducible assumption
    | with_reducible refine handoverEnd_within ?_ p_safety p_coach p_ic p_host p_tw r_cw_LDSTAT
    | with_reducible refine within_pair ?_ (by assumption) | split

theorem applyImage_within (h : Within P R s0 s) (p_mem : P .mem) (p_merger : P .merger) (p_safety : P .safety)
    (p_router : P .router) (p_drawbar : P .drawbar) (p_slots : P .slots) (p_lanes : P .lanes) (p_phys : P .phys)
    (p_cal : P .cal) (p_coach : P .coach) (p_ic : P .ic) (p_host : P .host) (p_tw : P .tw)
    (r_cw_LDSTAT : R (.cw .LDSTAT)) (r_db_LSTAT : R (.db .LSTAT)) (r_ln_ENABLE : R (.ln .ENABLE))
    (r_ca_STAT : R (.ca .STAT)) (r_ca_LTEMP : R (.ca .LTEMP)) (r_ca_RUN : R (.ca .RUN)) (r_ln_STAT : R (.ln .STAT))
    (r_al_FSTAT : R (.al .FSTAT)) (r_ln_FAULTS : R (.ln .FAULTS)) (r_rk_STAT : R (.rk .STAT))
    (r_cw_TFAULT : R (.cw .TFAULT)) (r_ds_EVENTS : R (.ds .EVENTS)) : Within P R s0 (applyImage s) := by
  unfold applyImage; try dsimp only
  repeat' first
    | with_reducible assumption
    | with_reducible refine startFull_within ?_ p_merger p_safety p_router p_drawbar p_slots
                        p_lanes p_phys p_cal p_coach p_ic p_host p_tw r_db_LSTAT r_ln_ENABLE r_ca_STAT r_ca_LTEMP
                        r_ca_RUN r_ln_STAT r_al_FSTAT r_ln_FAULTS r_rk_STAT r_cw_TFAULT r_cw_LDSTAT r_ds_EVENTS
    | with_reducible refine startHandover_within ?_ p_mem p_safety p_coach p_ic p_host p_tw r_cw_LDSTAT
    | with_reducible refine loaderFinish_within ?_ p_safety p_coach p_ic p_host p_tw r_cw_LDSTAT
    | with_reducible refine startShunt_within ?_ p_safety p_router p_drawbar p_slots p_coach
                        p_ic p_host p_tw r_cw_LDSTAT r_db_LSTAT
    | with_reducible refine within_pair ?_ (by assumption) | split

theorem slotFailed_within (h : Within P R s0 s) (p_safety : P .safety) : Within P R s0 (slotFailed x1 s) := by
  unfold slotFailed; try dsimp only
  repeat' first
    | with_reducible assumption | with_reducible refine almanac_within ?_ p_safety
    | with_reducible refine within_pair ?_ (by assumption) | split

theorem checkDone_within (h : Within P R s0 s) (p_mem : P .mem) (p_merger : P .merger) (p_safety : P .safety)
    (p_router : P .router) (p_drawbar : P .drawbar) (p_slots : P .slots) (p_lanes : P .lanes) (p_phys : P .phys)
    (p_cal : P .cal) (p_coach : P .coach) (p_ic : P .ic) (p_host : P .host) (p_tw : P .tw)
    (r_cw_LDSTAT : R (.cw .LDSTAT)) (r_db_LSTAT : R (.db .LSTAT)) (r_ln_ENABLE : R (.ln .ENABLE))
    (r_ca_STAT : R (.ca .STAT)) (r_ca_LTEMP : R (.ca .LTEMP)) (r_ca_RUN : R (.ca .RUN)) (r_ln_STAT : R (.ln .STAT))
    (r_al_FSTAT : R (.al .FSTAT)) (r_ln_FAULTS : R (.ln .FAULTS)) (r_rk_STAT : R (.rk .STAT))
    (r_cw_TFAULT : R (.cw .TFAULT)) (r_ds_EVENTS : R (.ds .EVENTS)) : Within P R s0 (checkDone s) := by
  unfold checkDone; try dsimp only
  repeat' first
    | with_reducible assumption | with_reducible refine slotFailed_within ?_ p_safety
    | with_reducible refine loaderFinish_within ?_ p_safety p_coach p_ic p_host p_tw r_cw_LDSTAT
    | with_reducible refine State.orReg_within ?_ p_safety p_ic p_tw (by assumption)
    | with_reducible refine updLoader_within ?_ p_coach | with_reducible refine longOutcome_within ?_ p_host p_tw
    | with_reducible refine applyImage_within ?_ p_mem p_merger p_safety p_router p_drawbar
                        p_slots p_lanes p_phys p_cal p_coach p_ic p_host p_tw r_cw_LDSTAT r_db_LSTAT r_ln_ENABLE
                        r_ca_STAT r_ca_LTEMP r_ca_RUN r_ln_STAT r_al_FSTAT r_ln_FAULTS r_rk_STAT r_cw_TFAULT
                        r_ds_EVENTS
    | with_reducible refine within_pair ?_ (by assumption) | split

theorem beginLoad_within (h : Within P R s0 s) (p_coach : P .coach) : Within P R s0 (beginLoad x1 x2 x3 s) := by
  unfold beginLoad; try dsimp only
  repeat' first
    | with_reducible assumption | with_reducible refine updLoader_within ?_ p_coach

theorem applyStaged_within (h : Within P R s0 s) (p_mem : P .mem) (p_merger : P .merger) (p_safety : P .safety)
    (p_router : P .router) (p_drawbar : P .drawbar) (p_slots : P .slots) (p_lanes : P .lanes) (p_phys : P .phys)
    (p_cal : P .cal) (p_coach : P .coach) (p_ic : P .ic) (p_host : P .host) (p_tw : P .tw)
    (r_cw_LDSTAT : R (.cw .LDSTAT)) (r_db_LSTAT : R (.db .LSTAT)) (r_ln_ENABLE : R (.ln .ENABLE))
    (r_ca_STAT : R (.ca .STAT)) (r_ca_LTEMP : R (.ca .LTEMP)) (r_ca_RUN : R (.ca .RUN)) (r_ln_STAT : R (.ln .STAT))
    (r_al_FSTAT : R (.al .FSTAT)) (r_ln_FAULTS : R (.ln .FAULTS)) (r_rk_STAT : R (.rk .STAT))
    (r_cw_TFAULT : R (.cw .TFAULT)) (r_ds_EVENTS : R (.ds .EVENTS)) : Within P R s0 (applyStaged s) := by
  unfold applyStaged; try dsimp only
  repeat' first
    | with_reducible assumption
    | with_reducible refine loaderFinish_within ?_ p_safety p_coach p_ic p_host p_tw r_cw_LDSTAT
    | with_reducible refine applyImage_within ?_ p_mem p_merger p_safety p_router p_drawbar
                        p_slots p_lanes p_phys p_cal p_coach p_ic p_host p_tw r_cw_LDSTAT r_db_LSTAT r_ln_ENABLE
                        r_ca_STAT r_ca_LTEMP r_ca_RUN r_ln_STAT r_al_FSTAT r_ln_FAULTS r_rk_STAT r_cw_TFAULT
                        r_ds_EVENTS
    | with_reducible refine within_pair ?_ (by assumption) | split

theorem loaderAbort_within (h : Within P R s0 s) (p_safety : P .safety) (p_coach : P .coach) (p_ic : P .ic)
    (p_host : P .host) (p_tw : P .tw) (r_cw_LDSTAT : R (.cw .LDSTAT)) : Within P R s0 (loaderAbort s) := by
  unfold loaderAbort; try dsimp only
  repeat' first
    | with_reducible assumption
    | with_reducible refine handoverEnd_within ?_ p_safety p_coach p_ic p_host p_tw r_cw_LDSTAT
    | with_reducible refine loaderFinish_within ?_ p_safety p_coach p_ic p_host p_tw r_cw_LDSTAT
    | with_reducible refine updLoader_within ?_ p_coach | with_reducible refine within_pair ?_ (by assumption)
    | split

theorem writeLdCmd_within (h : Within P R s0 s) (p_mem : P .mem) (p_merger : P .merger) (p_safety : P .safety)
    (p_router : P .router) (p_drawbar : P .drawbar) (p_slots : P .slots) (p_lanes : P .lanes) (p_phys : P .phys)
    (p_cal : P .cal) (p_coach : P .coach) (p_ic : P .ic) (p_host : P .host) (p_tw : P .tw)
    (r_cw_LDSTAT : R (.cw .LDSTAT)) (r_db_LSTAT : R (.db .LSTAT)) (r_ln_ENABLE : R (.ln .ENABLE))
    (r_ca_STAT : R (.ca .STAT)) (r_ca_LTEMP : R (.ca .LTEMP)) (r_ca_RUN : R (.ca .RUN)) (r_ln_STAT : R (.ln .STAT))
    (r_al_FSTAT : R (.al .FSTAT)) (r_ln_FAULTS : R (.ln .FAULTS)) (r_rk_STAT : R (.rk .STAT))
    (r_cw_TFAULT : R (.cw .TFAULT)) (r_ds_EVENTS : R (.ds .EVENTS)) : Within P R s0 (writeLdCmd x1 s) := by
  unfold writeLdCmd; try dsimp only
  repeat' first
    | with_reducible assumption | with_reducible refine beginLoad_within ?_ p_coach
    | with_reducible refine applyStaged_within ?_ p_mem p_merger p_safety p_router p_drawbar
                        p_slots p_lanes p_phys p_cal p_coach p_ic p_host p_tw r_cw_LDSTAT r_db_LSTAT r_ln_ENABLE
                        r_ca_STAT r_ca_LTEMP r_ca_RUN r_ln_STAT r_al_FSTAT r_ln_FAULTS r_rk_STAT r_cw_TFAULT
                        r_ds_EVENTS
    | with_reducible refine State.orReg_within ?_ p_safety p_ic p_tw (by assumption)
    | with_reducible refine loaderAbort_within ?_ p_safety p_coach p_ic p_host p_tw r_cw_LDSTAT
    | with_reducible refine updLoader_within ?_ p_coach | with_reducible refine within_pair ?_ (by assumption)
    | split

theorem bootSlot_within (h : Within P R s0 s) (p_mem : P .mem) (p_merger : P .merger) (p_safety : P .safety)
    (p_router : P .router) (p_drawbar : P .drawbar) (p_slots : P .slots) (p_lanes : P .lanes) (p_phys : P .phys)
    (p_cal : P .cal) (p_coach : P .coach) (p_ic : P .ic) (p_host : P .host) (p_tw : P .tw) (rAll : ∀ r, R r) : Within
    P R s0 (bootSlot x1 s) := by
  unfold bootSlot; try dsimp only
  repeat' first
    | with_reducible assumption | with_reducible refine beginLoad_within ?_ p_coach
    | with_reducible refine fullTrainsStopped_within ?_ p_mem p_safety p_slots p_lanes p_coach p_ic p_tw rAll
    | with_reducible refine checkDone_within ?_ p_mem p_merger p_safety p_router p_drawbar
                        p_slots p_lanes p_phys p_cal p_coach p_ic p_host p_tw (rAll _) (rAll _) (rAll _) (rAll _)
                        (rAll _) (rAll _) (rAll _) (rAll _) (rAll _) (rAll _) (rAll _) (rAll _)
    | with_reducible refine fullWritten_within ?_ p_merger p_safety p_router p_drawbar p_slots
                        p_lanes p_phys p_cal p_coach p_ic p_host p_tw (rAll _) (rAll _) (rAll _) (rAll _) (rAll _)
                        (rAll _) (rAll _) (rAll _) (rAll _) (rAll _) (rAll _) (rAll _) (rAll _) (rAll _) (rAll _)

theorem loseTrain_within (h : Within P R s0 s) (p_merger : P .merger) (p_safety : P .safety) (p_router : P .router)
    (p_drawbar : P .drawbar) (p_slots : P .slots) (p_coach : P .coach) (p_ic : P .ic) (p_tw : P .tw)
    (r_ds_EVENTS : R (.ds .EVENTS)) (r_db_LSTAT : R (.db .LSTAT)) : Within P R s0 (loseTrain x1 s) := by
  unfold loseTrain; try dsimp only
  repeat' first
    | with_reducible assumption
    | with_reducible refine degradeTrainSlots_within ?_ p_merger p_safety p_router p_drawbar
                        p_slots p_ic p_tw r_ds_EVENTS r_db_LSTAT
    | with_reducible refine almanac_within ?_ p_safety | with_reducible refine emptyTrain_within ?_ p_coach
    | with_reducible refine within_pair ?_ (by assumption) | split

theorem coachRestore_within (h : Within P R s0 s) (p_mem : P .mem) (p_merger : P .merger) (p_safety : P .safety)
    (p_router : P .router) (p_drawbar : P .drawbar) (p_slots : P .slots) (p_coach : P .coach) (p_ic : P .ic)
    (p_tw : P .tw) (r_ds_EVENTS : R (.ds .EVENTS)) (r_db_LSTAT : R (.db .LSTAT)) (r_al_FSTAT : R (.al .FSTAT))
    (r_cw_LDSTAT : R (.cw .LDSTAT)) (r_cw_CACHE : R (.cw .CACHE)) : Within P R s0 (coachRestore s) := by
  unfold coachRestore; try dsimp only
  repeat' first
    | with_reducible assumption
    | with_reducible refine loseTrain_within ?_ p_merger p_safety p_router p_drawbar p_slots
                        p_coach p_ic p_tw r_ds_EVENTS r_db_LSTAT
    | with_reducible refine fstat_within ?_ p_safety p_ic p_tw r_al_FSTAT
    | with_reducible refine beginLoad_within ?_ p_coach
    | with_reducible refine State.orReg_within ?_ p_safety p_ic p_tw (by assumption)
    | with_reducible refine loadCarriage_within ?_ p_mem p_coach | with_reducible refine updTrain_within ?_ p_coach
    | with_reducible refine within_foldl (fun _ _ h => ?_) ?_
    | with_reducible refine within_foldl_snd (fun _ _ h => ?_) ?_
    | with_reducible refine within_foldl_fst (fun _ _ h => ?_) ?_
    | with_reducible refine within_pair ?_ (by assumption) | split

theorem cwRead_within (h : Within P R s0 s) (r_cw_RETRY : R (.cw .RETRY)) (r_cw_TMEMH : R (.cw .TMEMH))
    (r_cw_ACCH : R (.cw .ACCH)) : Within P R s0 (cwRead x1 x2 x3 s).2 := by
  unfold cwRead; try dsimp only
  repeat' first
    | with_reducible assumption | with_reducible refine snapshot_within ?_ (by assumption)
    | with_reducible refine State.readClear_within ?_ (by assumption)
    | with_reducible refine within_foldl (fun _ _ h => ?_) ?_
    | with_reducible refine within_foldl_snd (fun _ _ h => ?_) ?_
    | with_reducible refine within_foldl_fst (fun _ _ h => ?_) ?_
    | with_reducible refine within_pair ?_ (by assumption) | split

theorem writeStaging_within (h : Within P R s0 s) (r1 : R (Reg.cw x1)) : Within P R s0 (writeStaging x1 x2 s) := by
  unfold writeStaging; try dsimp only
  repeat' first
    | with_reducible assumption | with_reducible refine State.plainWrite_within ?_ (by assumption)
    | with_reducible refine within_pair ?_ (by assumption) | split

theorem cwWrite_within (h : Within P R s0 s) (p_mem : P .mem) (p_merger : P .merger) (p_safety : P .safety)
    (p_router : P .router) (p_drawbar : P .drawbar) (p_slots : P .slots) (p_lanes : P .lanes) (p_phys : P .phys)
    (p_cal : P .cal) (p_coach : P .coach) (p_ic : P .ic) (p_host : P .host) (p_tw : P .tw)
    (r_cw_LDSTAT : R (.cw .LDSTAT)) (r_db_LSTAT : R (.db .LSTAT)) (r_ln_ENABLE : R (.ln .ENABLE))
    (r_ca_STAT : R (.ca .STAT)) (r_ca_LTEMP : R (.ca .LTEMP)) (r_ca_RUN : R (.ca .RUN)) (r_ln_STAT : R (.ln .STAT))
    (r_al_FSTAT : R (.al .FSTAT)) (r_ln_FAULTS : R (.ln .FAULTS)) (r_rk_STAT : R (.rk .STAT))
    (r_cw_TFAULT : R (.cw .TFAULT)) (r_ds_EVENTS : R (.ds .EVENTS)) (r_cw_STGBASE : R (.cw .STGBASE))
    (r_cw_STGLEN : R (.cw .STGLEN)) (r_cw_SHCTRL : R (.cw .SHCTRL)) (r1 : R (Reg.cw x1)) : Within P R s0 (cwWrite x1
    x2 s) := by
  unfold cwWrite; try dsimp only
  repeat' first
    | with_reducible assumption | with_reducible refine State.setReg_within ?_ (by assumption)
    | with_reducible refine writeTStop_within ?_ p_safety p_router p_drawbar p_slots p_coach
                        p_ic p_host p_tw r_cw_LDSTAT r_db_LSTAT
    | with_reducible refine State.plainWrite_within ?_ (by assumption)
    | with_reducible refine writeStaging_within ?_ (by assumption)
    | with_reducible refine writeLdCmd_within ?_ p_mem p_merger p_safety p_router p_drawbar
                        p_slots p_lanes p_phys p_cal p_coach p_ic p_host p_tw r_cw_LDSTAT r_db_LSTAT r_ln_ENABLE
                        r_ca_STAT r_ca_LTEMP r_ca_RUN r_ln_STAT r_al_FSTAT r_ln_FAULTS r_rk_STAT r_cw_TFAULT
                        r_ds_EVENTS
    | with_reducible refine writeTStart_within ?_ p_coach | with_reducible refine writeCwPcmd_within ?_ p_coach
    | with_reducible refine within_pair ?_ (by assumption) | split

end Sys2Proof.Machine
end

