-- ==== Sys2Proof/Laws/WithinSensor.lean ====
section
/-! SUPPORT. What each operation of Machine/Sensor.lean can change: one lemma per operation (see Laws/WithinOps.lean). -/
namespace Sys2Proof.Machine
set_option Elab.async false

set_option linter.unusedVariables false
set_option linter.unusedSimpArgs false

variable {P : Part → Prop} {R : Reg → Prop} {s0 s t : State}

theorem updSp_within (h : Within P R s0 s) (p_sensor : P .sensor) : Within P R s0 (updSp x1 s) := by
  unfold updSp; try dsimp only
  repeat' first
    | with_reducible assumption | with_reducible refine within_pair ?_ (by assumption) | split
    | (simp only [within_mk]
       refine WithinMk.intro ?_ rfl rfl rfl rfl (h_sensor := .inl p_sensor))

theorem frameStart_within (h : Within P R s0 s) (p_sensor : P .sensor) : Within P R s0 (frameStart s) := by
  unfold frameStart; try dsimp only
  repeat' first
    | with_reducible assumption | with_reducible refine updSp_within ?_ p_sensor
    | with_reducible refine within_pair ?_ (by assumption) | split

theorem profileTrigger_within (h : Within P R s0 s) (p_sensor : P .sensor) : Within P R s0 (profileTrigger x1 s).2 := by
  unfold profileTrigger; try dsimp only
  repeat' first
    | with_reducible assumption | with_reducible refine updSp_within ?_ p_sensor
    | with_reducible refine within_pair ?_ (by assumption) | split

theorem profileGo_within (h : Within P R s0 s) (p_sensor : P .sensor) : Within P R s0 (profileGo x1 s) := by
  unfold profileGo; try dsimp only
  repeat' first
    | with_reducible assumption | with_reducible refine updSp_within ?_ p_sensor
    | with_reducible refine within_pair ?_ (by assumption) | split

theorem readingRecords_within (h : Within P R s0 s) (p_merger : P .merger) : Within P R s0 (readingRecords x1 x2 x3 x4 s) := by
  induction x3 generalizing s x4 with
  | zero => exact h
  | succ n ih =>
    unfold readingRecords
    split
    · exact h
    · exact ih (emit_within h p_merger)

theorem profileDone_within (h : Within P R s0 s) (p_mem : P .mem) (p_merger : P .merger) (p_safety : P .safety)
    (p_router : P .router) (p_drawbar : P .drawbar) (p_slots : P .slots) (p_ic : P .ic) (p_tw : P .tw)
    (r_nv_DIRTY : R (.nv .DIRTY)) (r_sp_PSTAT : R (.sp .PSTAT)) (r_ds_EVENTS : R (.ds .EVENTS))
    (r_ds_STAT : R (.ds .STAT)) (r_db_LSTAT : R (.db .LSTAT)) (r_sp_PCNT : R (.sp .PCNT)) : Within P R s0 (profileDone
    x1 x2 s) := by
  unfold profileDone; try dsimp only
  repeat' first
    | with_reducible assumption | with_reducible refine storeSram_within ?_ p_mem r_nv_DIRTY
    | with_reducible refine publishOn_within ?_ p_router
    | with_reducible refine State.countFld_within ?_ (by assumption)
    | with_reducible refine State.orReg_within ?_ p_safety p_ic p_tw (by assumption)
    | with_reducible refine slotReading_within ?_ p_merger p_safety p_router p_drawbar p_slots
                        p_ic p_tw r_ds_EVENTS r_ds_STAT r_db_LSTAT
    | with_reducible refine readingRecords_within ?_ p_merger
    | with_reducible refine within_foldl (fun _ _ h => ?_) ?_
    | with_reducible refine within_foldl_snd (fun _ _ h => ?_) ?_
    | with_reducible refine within_foldl_fst (fun _ _ h => ?_) ?_
    | with_reducible refine within_pair ?_ (by assumption) | split

theorem profileFail_within (h : Within P R s0 s) (p_router : P .router) (r_sp_PCNT : R (.sp .PCNT)) : Within P R s0
    (profileFail x1 s) := by
  unfold profileFail; try dsimp only
  repeat' first
    | with_reducible assumption | with_reducible refine publishOn_within ?_ p_router
    | with_reducible refine State.countFld_within ?_ (by assumption)
    | with_reducible refine within_pair ?_ (by assumption) | split

theorem touchLine_within (h : Within P R s0 s) (p_sensor : P .sensor) : Within P R s0 (touchLine x1 s) := by
  unfold touchLine; try dsimp only
  repeat' first
    | with_reducible assumption | with_reducible refine updSp_within ?_ p_sensor

theorem fillLine_within (h : Within P R s0 s) (p_sensor : P .sensor) (r_sp_FCCNT : R (.sp .FCCNT)) : Within P R s0
    (fillLine x1 x2 s) := by
  unfold fillLine; try dsimp only
  repeat' first
    | with_reducible assumption | with_reducible refine State.countFld_within ?_ (by assumption)
    | with_reducible refine updSp_within ?_ p_sensor | with_reducible refine touchLine_within ?_ p_sensor

theorem windowFail_within (h : Within P R s0 s) (p_acc : P .acc) (p_safety : P .safety) (p_ic : P .ic) (p_tw : P .tw)
    (r_sp_STAT : R (.sp .STAT)) : Within P R s0 (windowFail x1 s) := by
  unfold windowFail; try dsimp only
  repeat' first
    | with_reducible assumption | with_reducible refine State.answer_within ?_ p_acc
    | with_reducible refine State.orReg_within ?_ p_safety p_ic p_tw (by assumption)

theorem beginOp_within (h : Within P R s0 s) (p_sensor : P .sensor) : Within P R s0 (beginOp x1 s) := by
  unfold beginOp; try dsimp only
  repeat' first
    | with_reducible assumption | with_reducible refine updSp_within ?_ p_sensor

theorem programBuffer_within (h : Within P R s0 s) (p_sensor : P .sensor) : Within P R s0 (programBuffer s) := by
  unfold programBuffer; try dsimp only
  repeat' first
    | with_reducible assumption | with_reducible refine beginOp_within ?_ p_sensor
    | with_reducible refine updSp_within ?_ p_sensor | with_reducible refine within_pair ?_ (by assumption) | split

theorem windowRead_within (h : Within P R s0 s) (p_acc : P .acc) (p_safety : P .safety) (p_sensor : P .sensor)
    (p_ic : P .ic) (p_tw : P .tw) (r_sp_STAT : R (.sp .STAT)) (r_sp_FCCNT : R (.sp .FCCNT)) : Within P R s0
    (windowRead x1 x2 x3 s) := by
  unfold windowRead; try dsimp only
  repeat' first
    | with_reducible assumption | with_reducible refine State.stall_within ?_ p_acc
    | with_reducible refine State.answer_within ?_ p_acc
    | with_reducible refine State.countFld_within ?_ (by assumption)
    | with_reducible refine programBuffer_within ?_ p_sensor
    | with_reducible refine windowFail_within ?_ p_acc p_safety p_ic p_tw r_sp_STAT
    | with_reducible refine touchLine_within ?_ p_sensor | with_reducible refine within_pair ?_ (by assumption)
    | split

theorem cacheWrite_within (h : Within P R s0 s) (p_sensor : P .sensor) : Within P R s0 (cacheWrite x1 x2 s) := by
  unfold cacheWrite; try dsimp only
  repeat' first
    | with_reducible assumption | with_reducible refine updSp_within ?_ p_sensor
    | with_reducible refine within_pair ?_ (by assumption) | split

theorem bufferWrite_within (h : Within P R s0 s) (p_sensor : P .sensor) : Within P R s0 (bufferWrite x1 x2 s) := by
  unfold bufferWrite; try dsimp only
  repeat' first
    | with_reducible assumption | with_reducible refine updSp_within ?_ p_sensor
    | with_reducible refine programBuffer_within ?_ p_sensor | with_reducible refine within_pair ?_ (by assumption)
    | split

theorem windowWrite_within (h : Within P R s0 s) (p_acc : P .acc) (p_safety : P .safety) (p_sensor : P .sensor)
    (p_ic : P .ic) (p_tw : P .tw) (r_sp_STAT : R (.sp .STAT)) : Within P R s0 (windowWrite x1 x2 x3 x4 s) := by
  unfold windowWrite; try dsimp only
  repeat' first
    | with_reducible assumption | with_reducible refine State.stall_within ?_ p_acc
    | with_reducible refine State.answer_within ?_ p_acc | with_reducible refine cacheWrite_within ?_ p_sensor
    | with_reducible refine windowFail_within ?_ p_acc p_safety p_ic p_tw r_sp_STAT
    | with_reducible refine bufferWrite_within ?_ p_sensor | with_reducible refine within_pair ?_ (by assumption)
    | split

theorem bufferIdle_within (h : Within P R s0 s) (p_sensor : P .sensor) : Within P R s0 (bufferIdle s) := by
  unfold bufferIdle; try dsimp only
  repeat' first
    | with_reducible assumption | with_reducible refine programBuffer_within ?_ p_sensor
    | with_reducible refine within_pair ?_ (by assumption) | split

theorem opEnd_within (h : Within P R s0 s) (p_safety : P .safety) (p_sensor : P .sensor) (p_ic : P .ic) (p_tw : P .tw)
    (r_sp_FSTAT : R (.sp .FSTAT)) : Within P R s0 (opEnd x1 s) := by
  unfold opEnd; try dsimp only
  repeat' first
    | with_reducible assumption | with_reducible refine beginOp_within ?_ p_sensor
    | with_reducible refine updSp_within ?_ p_sensor
    | with_reducible refine State.orReg_within ?_ p_safety p_ic p_tw (by assumption)
    | with_reducible refine programBuffer_within ?_ p_sensor | with_reducible refine within_pair ?_ (by assumption)
    | split

theorem flashErase_within (h : Within P R s0 s) (p_sensor : P .sensor) : Within P R s0 (flashErase x1 x2 s) := by
  unfold flashErase; try dsimp only
  repeat' first
    | with_reducible assumption | with_reducible refine beginOp_within ?_ p_sensor
    | with_reducible refine updSp_within ?_ p_sensor | with_reducible refine programBuffer_within ?_ p_sensor
    | with_reducible refine within_pair ?_ (by assumption) | split

theorem writeFcmd_within (h : Within P R s0 s) (p_sensor : P .sensor) : Within P R s0 (writeFcmd x1 s) := by
  unfold writeFcmd; try dsimp only
  repeat' first
    | with_reducible assumption | with_reducible refine updSp_within ?_ p_sensor
    | with_reducible refine programBuffer_within ?_ p_sensor | with_reducible refine flashErase_within ?_ p_sensor
    | with_reducible refine within_pair ?_ (by assumption) | split

theorem frameOver_within (h : Within P R s0 s) (p_sensor : P .sensor) : Within P R s0 (frameOver x1 s) := by
  unfold frameOver; try dsimp only
  repeat' first
    | with_reducible assumption | with_reducible refine updSp_within ?_ p_sensor

theorem statusPoll_within (h : Within P R s0 s) (p_safety : P .safety) (p_sensor : P .sensor) (p_ic : P .ic)
    (p_tw : P .tw) (r_sp_FSTAT : R (.sp .FSTAT)) : Within P R s0 (statusPoll x1 s) := by
  unfold statusPoll; try dsimp only
  repeat' first
    | with_reducible assumption | with_reducible refine updSp_within ?_ p_sensor
    | with_reducible refine frameOver_within ?_ p_sensor
    | with_reducible refine opEnd_within ?_ p_safety p_sensor p_ic p_tw r_sp_FSTAT
    | with_reducible refine within_pair ?_ (by assumption) | split

theorem flashTimeout_within (h : Within P R s0 s) (p_safety : P .safety) (p_sensor : P .sensor) (p_ic : P .ic)
    (p_tw : P .tw) (r_sp_FSTAT : R (.sp .FSTAT)) : Within P R s0 (flashTimeout s) := by
  unfold flashTimeout; try dsimp only
  repeat' first
    | with_reducible assumption | with_reducible refine opEnd_within ?_ p_safety p_sensor p_ic p_tw r_sp_FSTAT
    | with_reducible refine within_pair ?_ (by assumption) | split

theorem answerLine_within (h : Within P R s0 s) (p_acc : P .acc) : Within P R s0 (answerLine x1 x2 s) := by
  unfold answerLine; try dsimp only
  repeat' first
    | with_reducible assumption | with_reducible refine within_pair ?_ (by assumption) | split
    | (simp only [within_mk]
       refine WithinMk.intro ?_ rfl rfl rfl rfl (h_acc := .inl p_acc))

theorem opFrameDone_within (h : Within P R s0 s) (p_sensor : P .sensor) : Within P R s0 (opFrameDone x1 s) := by
  unfold opFrameDone; try dsimp only
  repeat' first
    | with_reducible assumption | with_reducible refine updSp_within ?_ p_sensor
    | with_reducible refine within_pair ?_ (by assumption) | split

theorem frameEnd_within (h : Within P R s0 s) (p_acc : P .acc) (p_mem : P .mem) (p_merger : P .merger)
    (p_safety : P .safety) (p_router : P .router) (p_drawbar : P .drawbar) (p_slots : P .slots) (p_sensor : P .sensor)
    (p_ic : P .ic) (p_tw : P .tw) (r_nv_DIRTY : R (.nv .DIRTY)) (r_sp_PSTAT : R (.sp .PSTAT))
    (r_ds_EVENTS : R (.ds .EVENTS)) (r_ds_STAT : R (.ds .STAT)) (r_db_LSTAT : R (.db .LSTAT))
    (r_sp_PCNT : R (.sp .PCNT)) (r_sp_FCCNT : R (.sp .FCCNT)) : Within P R s0 (frameEnd x1 s) := by
  unfold frameEnd; try dsimp only
  repeat' first
    | with_reducible assumption | with_reducible refine answerLine_within ?_ p_acc
    | with_reducible refine frameOver_within ?_ p_sensor
    | with_reducible refine fillLine_within ?_ p_sensor r_sp_FCCNT
    | with_reducible refine opFrameDone_within ?_ p_sensor
    | with_reducible refine profileDone_within ?_ p_mem p_merger p_safety p_router p_drawbar
                        p_slots p_ic p_tw r_nv_DIRTY r_sp_PSTAT r_ds_EVENTS r_ds_STAT r_db_LSTAT r_sp_PCNT
    | with_reducible refine within_pair ?_ (by assumption) | split

theorem failWindowReads_within (h : Within P R s0 s) (p_acc : P .acc) (p_safety : P .safety) (p_ic : P .ic)
    (p_tw : P .tw) (r_sp_STAT : R (.sp .STAT)) : Within P R s0 (failWindowReads s) := by
  unfold failWindowReads; try dsimp only
  repeat' first
    | with_reducible assumption | with_reducible refine State.orReg_within ?_ p_safety p_ic p_tw (by assumption)
    | with_reducible refine within_pair ?_ (by assumption) | split
    | (simp only [within_mk]
       refine WithinMk.intro ?_ rfl rfl rfl rfl (h_acc := .inl p_acc) (h_safety := .inl p_safety) (h_ic := .inl
           p_ic) (h_tw := .inl p_tw))

theorem abandonFrame_within (h : Within P R s0 s) (p_acc : P .acc) (p_safety : P .safety) (p_router : P .router)
    (p_sensor : P .sensor) (p_ic : P .ic) (p_tw : P .tw) (r_sp_STAT : R (.sp .STAT)) (r_sp_PSTAT : R (.sp .PSTAT))
    (r_sp_PCNT : R (.sp .PCNT)) (r_sp_FSTAT : R (.sp .FSTAT)) : Within P R s0 (abandonFrame x1 s) := by
  unfold abandonFrame; try dsimp only
  repeat' first
    | with_reducible assumption | with_reducible refine profileFail_within ?_ p_router r_sp_PCNT
    | with_reducible refine updSp_within ?_ p_sensor
    | with_reducible refine opEnd_within ?_ p_safety p_sensor p_ic p_tw r_sp_FSTAT
    | with_reducible refine State.orReg_within ?_ p_safety p_ic p_tw (by assumption)
    | with_reducible refine failWindowReads_within ?_ p_acc p_safety p_ic p_tw r_sp_STAT
    | with_reducible refine within_pair ?_ (by assumption) | split

theorem modeFault_within (h : Within P R s0 s) (p_acc : P .acc) (p_safety : P .safety) (p_router : P .router)
    (p_sensor : P .sensor) (p_ic : P .ic) (p_tw : P .tw) (r_sp_STAT : R (.sp .STAT)) (r_sp_PSTAT : R (.sp .PSTAT))
    (r_sp_PCNT : R (.sp .PCNT)) (r_sp_FSTAT : R (.sp .FSTAT)) : Within P R s0 (modeFault x1 s) := by
  unfold modeFault; try dsimp only
  repeat' first
    | with_reducible assumption
    | with_reducible refine abandonFrame_within ?_ p_acc p_safety p_router p_sensor p_ic p_tw
                        r_sp_STAT r_sp_PSTAT r_sp_PCNT r_sp_FSTAT
    | with_reducible refine updSp_within ?_ p_sensor | with_reducible refine within_pair ?_ (by assumption) | split

theorem spAcrossLull_within (h : Within P R s0 s) (p_sensor : P .sensor) : Within P R s0 (spAcrossLull s) := by
  unfold spAcrossLull; try dsimp only
  repeat' first
    | with_reducible assumption | with_reducible refine updSp_within ?_ p_sensor

theorem spRead_within (h : Within P R s0 s) (r_sp_FCCNT : R (.sp .FCCNT)) (r_sp_PCNT : R (.sp .PCNT)) : Within P R s0
    (spRead x1 x2 s).2 := by
  unfold spRead; try dsimp only
  repeat' first
    | with_reducible assumption | with_reducible refine State.readClear_within ?_ (by assumption)
    | with_reducible refine within_pair ?_ (by assumption) | split

theorem writePphase_within (h : Within P R s0 s) (r_sp_PPHASE : R (.sp .PPHASE)) : Within P R s0 (writePphase x1 x2 s) := by
  unfold writePphase; try dsimp only
  repeat' first
    | with_reducible assumption | with_reducible refine State.plainWrite_within ?_ (by assumption)
    | with_reducible refine within_pair ?_ (by assumption) | split

theorem writePbuf_within (h : Within P R s0 s) (r_sp_PBUF : R (.sp .PBUF)) : Within P R s0 (writePbuf x1 x2 s) := by
  unfold writePbuf; try dsimp only
  repeat' first
    | with_reducible assumption | with_reducible refine State.plainWrite_within ?_ (by assumption)
    | with_reducible refine within_pair ?_ (by assumption) | split

theorem spWrite_within (h : Within P R s0 s) (p_sensor : P .sensor) (r_sp_SEL : R (.sp .SEL))
    (r_sp_CFG : R (.sp .CFG)) (r_sp_FCFG : R (.sp .FCFG)) (r_sp_FPOLL : R (.sp .FPOLL))
    (r_sp_PPHASE : R (.sp .PPHASE)) (r_sp_PBUF : R (.sp .PBUF)) (r_sp_PCFG : R (.sp .PCFG))
    (r_sp_PCMDV : R (.sp .PCMDV)) (r_sp_PADDR : R (.sp .PADDR)) (r_sp_PAXIS : R (.sp .PAXIS))
    (r_sp_PEVT : R (.sp .PEVT)) (r_sp_PSTAT : R (.sp .PSTAT)) (r1 : R (Reg.sp x2)) : Within P R s0 (spWrite x1 x2 x3
    s) := by
  unfold spWrite; try dsimp only
  repeat' first
    | with_reducible assumption | with_reducible refine writePbuf_within ?_ r_sp_PBUF
    | with_reducible refine writeSel_within ?_ (by assumption) | with_reducible refine writeFcmd_within ?_ p_sensor
    | with_reducible refine State.plainWrite_within ?_ (by assumption)
    | with_reducible refine profileGo_within ?_ p_sensor | with_reducible refine writePphase_within ?_ r_sp_PPHASE
    | with_reducible refine within_pair ?_ (by assumption) | split

end Sys2Proof.Machine
end

