-- ==== Sys2Proof/Laws/WithinDelivery.lean ====
section
/-! SUPPORT. What each operation of Machine/Delivery.lean can change: one lemma per operation (see Laws/WithinOps.lean). -/
namespace Sys2Proof.Machine
set_option Elab.async false

set_option linter.unusedVariables false
set_option linter.unusedSimpArgs false

variable {P : Part → Prop} {R : Reg → Prop} {s0 s t : State}

theorem dropPub_within (h : Within P R s0 s) (r_ev_CCNT : R (.ev .CCNT)) : Within P R s0 (dropPub x1 s) := by
  unfold dropPub; try dsimp only
  repeat' first
    | with_reducible assumption | with_reducible refine State.countFld_within ?_ (by assumption)

theorem suppress_within (h : Within P R s0 s) (p_safety : P .safety) (p_ic : P .ic) (p_tw : P .tw)
    (r_ev_CCNT : R (.ev .CCNT)) (r_ev_STAT : R (.ev .STAT)) (r_ev_CSTAT : R (.ev .CSTAT)) : Within P R s0 (suppress x1
    s) := by
  unfold suppress; try dsimp only
  repeat' first
    | with_reducible assumption | with_reducible refine State.orReg_within ?_ p_safety p_ic p_tw (by assumption)
    | with_reducible refine dropPub_within ?_ r_ev_CCNT

theorem putGates_within (h : Within P R s0 s) (r_ev_GATE : R (.ev .GATE)) : Within P R s0 (putGates x1 x2 s) := by
  unfold putGates; try dsimp only
  repeat' first
    | with_reducible assumption | with_reducible refine State.setFld_within ?_ (by assumption)
    | with_reducible refine within_foldl (fun _ _ h => ?_) ?_
    | with_reducible refine within_foldl_snd (fun _ _ h => ?_) ?_
    | with_reducible refine within_foldl_fst (fun _ _ h => ?_) ?_
    | with_reducible refine within_pair ?_ (by assumption) | split

theorem taskInput_within (h : Within P R s0 s) (p_merger : P .merger) (p_safety : P .safety) (p_router : P .router)
    (p_timers : P .timers) (p_drawbar : P .drawbar) (p_slots : P .slots) (p_prRun : P .prRun) (p_homing : P .homing)
    (p_lanes : P .lanes) (p_sensor : P .sensor) (p_ic : P .ic) (p_tw : P .tw) (r_ln_STAT : R (.ln .STAT))
    (r_ds_STAT : R (.ds .STAT)) (r_ds_EVENTS : R (.ds .EVENTS)) (r_db_LSTAT : R (.db .LSTAT))
    (r_tm_STAT : R (.tm .STAT)) (r_tm_OUT : R (.tm .OUT)) (r_tm_CAP : R (.tm .CAP)) : Within P R s0 (taskInput x1 x2
    x3 x4 s).2 := by
  unfold taskInput; try dsimp only
  repeat' first
    | with_reducible assumption
    | with_reducible refine timerCapture_within ?_ p_safety p_timers p_ic p_tw r_tm_CAP r_tm_STAT
    | with_reducible refine startCondition_within ?_ p_safety p_lanes p_ic p_tw r_ln_STAT
    | with_reducible refine settle_within ?_ p_safety p_router p_timers p_drawbar p_ic p_tw
                        r_db_LSTAT r_tm_STAT r_tm_OUT
    | with_reducible refine profileTrigger_within ?_ p_sensor
    | with_reducible refine slotDrive_within ?_ p_merger p_safety p_router p_drawbar p_slots
                        p_ic p_tw r_ds_STAT r_ds_EVENTS r_db_LSTAT
    | with_reducible refine timerCountEvent_within ?_ p_safety p_router p_timers p_drawbar p_ic
                        p_tw r_db_LSTAT r_tm_STAT r_tm_OUT
    | with_reducible refine emit_within ?_ p_merger
    | with_reducible refine timerClear_within ?_ p_safety p_timers p_ic p_tw r_tm_STAT
    | with_reducible refine storedTrigger_within ?_ p_safety p_drawbar p_ic p_tw r_db_LSTAT
    | with_reducible refine setLatch_within ?_ p_ic
    | with_reducible refine slotOff_within ?_ p_merger p_safety p_router p_drawbar p_slots
                        p_prRun p_homing p_ic p_tw r_ds_STAT r_ds_EVENTS r_db_LSTAT
    | with_reducible refine slotPinch_within ?_ p_merger p_safety p_router p_drawbar p_slots
                        p_prRun p_homing p_ic p_tw r_ds_STAT r_ds_EVENTS r_db_LSTAT
    | with_reducible refine timerStart_within ?_ p_safety p_router p_timers p_ic p_tw r_tm_STAT r_tm_OUT
    | with_reducible refine timerStop_within ?_ p_timers r_tm_OUT
    | with_reducible refine within_pair ?_ (by assumption) | split

theorem noteDelivery_within (h : Within P R s0 s) (p_router : P .router) : Within P R s0 (noteDelivery x1 x2 x3 s) := by
  unfold noteDelivery; try dsimp only
  repeat' first
    | with_reducible assumption | with_reducible refine within_pair ?_ (by assumption) | split
    | (simp only [within_mk]
       refine WithinMk.intro ?_ rfl rfl rfl rfl (h_router := .inl p_router))

theorem flagTargets_within (h : Within P R s0 s) (p_safety : P .safety) (p_ic : P .ic) (p_tw : P .tw)
    (r_ev_SUB : R (.ev .SUB)) (r_ev_SPMISS : R (.ev .SPMISS)) (r_ev_STAT : R (.ev .STAT)) : Within P R s0 (flagTargets
    x1 x2 x3 s) := by
  unfold flagTargets; try dsimp only
  repeat' first
    | with_reducible assumption | with_reducible refine State.orReg_within ?_ p_safety p_ic p_tw (by assumption)
    | with_reducible refine within_foldl (fun _ _ h => ?_) ?_
    | with_reducible refine within_foldl_snd (fun _ _ h => ?_) ?_
    | with_reducible refine within_foldl_fst (fun _ _ h => ?_) ?_
    | with_reducible refine within_pair ?_ (by assumption) | split

theorem actTargets_within (h : Within P R s0 s) (p_merger : P .merger) (p_safety : P .safety) (p_router : P .router)
    (p_timers : P .timers) (p_drawbar : P .drawbar) (p_slots : P .slots) (p_prRun : P .prRun) (p_homing : P .homing)
    (p_lanes : P .lanes) (p_sensor : P .sensor) (p_ic : P .ic) (p_tw : P .tw) (r_ln_STAT : R (.ln .STAT))
    (r_ds_STAT : R (.ds .STAT)) (r_ds_EVENTS : R (.ds .EVENTS)) (r_db_LSTAT : R (.db .LSTAT))
    (r_tm_STAT : R (.tm .STAT)) (r_tm_OUT : R (.tm .OUT)) (r_tm_CAP : R (.tm .CAP)) (r_ev_SUB : R (.ev .SUB))
    (r_ev_SPMISS : R (.ev .SPMISS)) (r_ev_STAT : R (.ev .STAT)) : Within P R s0 (actTargets x1 s) := by
  unfold actTargets; try dsimp only
  repeat' first
    | with_reducible assumption | with_reducible refine noteDelivery_within ?_ p_router
    | with_reducible refine taskInput_within ?_ p_merger p_safety p_router p_timers p_drawbar
                        p_slots p_prRun p_homing p_lanes p_sensor p_ic p_tw r_ln_STAT r_ds_STAT r_ds_EVENTS
                        r_db_LSTAT r_tm_STAT r_tm_OUT r_tm_CAP
    | with_reducible refine flagTargets_within ?_ p_safety p_ic p_tw r_ev_SUB r_ev_SPMISS r_ev_STAT
    | with_reducible refine within_foldl (fun _ _ h => ?_) ?_
    | with_reducible refine within_foldl_snd (fun _ _ h => ?_) ?_
    | with_reducible refine within_foldl_fst (fun _ _ h => ?_) ?_
    | with_reducible refine within_pair ?_ (by assumption) | split

theorem actAll_within (h : Within P R s0 s) (p_merger : P .merger) (p_safety : P .safety) (p_router : P .router) (p_timers : P .timers) (p_drawbar : P .drawbar) (p_slots : P .slots) (p_prRun : P .prRun) (p_homing : P .homing) (p_lanes : P .lanes) (p_sensor : P .sensor) (p_ic : P .ic) (p_tw : P .tw) (r_ln_STAT : R (.ln .STAT)) (r_ds_STAT : R (.ds .STAT)) (r_ds_EVENTS : R (.ds .EVENTS)) (r_db_LSTAT : R (.db .LSTAT)) (r_tm_STAT : R (.tm .STAT)) (r_tm_OUT : R (.tm .OUT)) (r_tm_CAP : R (.tm .CAP)) (r_ev_SUB : R (.ev .SUB)) (r_ev_SPMISS : R (.ev .SPMISS)) (r_ev_STAT : R (.ev .STAT)) : Within P R s0 (actAll x1 x2 s) := by
  induction x1 generalizing s x2 with
  | zero => exact h
  | succ n ih =>
    cases x2 with
    | nil => exact h
    | cons t ts => rw [actAll]; exact ih (actTargets_within h p_merger p_safety p_router p_timers p_drawbar p_slots p_prRun p_homing p_lanes p_sensor p_ic p_tw r_ln_STAT r_ds_STAT r_ds_EVENTS r_db_LSTAT r_tm_STAT r_tm_OUT r_tm_CAP r_ev_SUB r_ev_SPMISS r_ev_STAT)

theorem recordDelivery_within (h : Within P R s0 s) (p_safety : P .safety) (p_ic : P .ic) (p_tw : P .tw)
    (r_ev_SEENL : R (.ev .SEENL)) (r_ev_SEENH : R (.ev .SEENH)) (r_ev_CCNT : R (.ev .CCNT))
    (r_ev_LASTINF : R (.ev .LASTINF)) (r_ev_LASTST : R (.ev .LASTST)) : Within P R s0 (recordDelivery x1 s) := by
  unfold recordDelivery; try dsimp only
  repeat' first
    | with_reducible assumption | with_reducible refine State.setReg_within ?_ (by assumption)
    | with_reducible refine State.countFld_within ?_ (by assumption)
    | with_reducible refine State.orReg_within ?_ p_safety p_ic p_tw (by assumption)
    | with_reducible refine within_pair ?_ (by assumption) | split

theorem eventDelivery_within (h : Within P R s0 s) (p_merger : P .merger) (p_safety : P .safety)
    (p_router : P .router) (p_timers : P .timers) (p_drawbar : P .drawbar) (p_slots : P .slots) (p_prRun : P .prRun)
    (p_homing : P .homing) (p_lanes : P .lanes) (p_sensor : P .sensor) (p_ic : P .ic) (p_tw : P .tw) (rAll : ∀ r, R r)
    : Within P R s0 (eventDelivery s) := by
  unfold eventDelivery; try dsimp only
  repeat' first
    | with_reducible assumption | with_reducible refine State.setReg_within ?_ (rAll _)
    | with_reducible refine actAll_within ?_ p_merger p_safety p_router p_timers p_drawbar
                        p_slots p_prRun p_homing p_lanes p_sensor p_ic p_tw (rAll _) (rAll _) (rAll _) (rAll _)
                        (rAll _) (rAll _) (rAll _) (rAll _) (rAll _) (rAll _)
    | with_reducible refine putGates_within ?_ (rAll _)
    | with_reducible refine suppress_within ?_ p_safety p_ic p_tw (rAll _) (rAll _) (rAll _)
    | with_reducible refine State.orReg_within ?_ p_safety p_ic p_tw (rAll _)
    | with_reducible refine dropPub_within ?_ (rAll _)
    | with_reducible refine recordDelivery_within ?_ p_safety p_ic p_tw (rAll _) (rAll _) (rAll
                        _) (rAll _) (rAll _)
    | with_reducible refine within_foldl (fun _ _ h => ?_) ?_
    | with_reducible refine within_foldl_snd (fun _ _ h => ?_) ?_
    | with_reducible refine within_foldl_fst (fun _ _ h => ?_) ?_
    | with_reducible refine within_pair ?_ (by assumption) | split
    | (simp only [within_mk]
       refine WithinMk.intro ?_ rfl rfl rfl rfl (h_merger := .inl p_merger) (h_safety := .inl p_safety) (h_router :=
           .inl p_router) (h_timers := .inl p_timers) (h_drawbar := .inl p_drawbar) (h_slots := .inl p_slots) (h_prRun
           := .inl p_prRun) (h_homing := .inl p_homing) (h_lanes := .inl p_lanes) (h_sensor := .inl p_sensor) (h_ic :=
           .inl p_ic) (h_tw := .inl p_tw))

theorem evRead_within (h : Within P R s0 s) (r_ev_CCNT : R (.ev .CCNT)) (r_ev_LASTINF : R (.ev .LASTINF)) : Within P R
    s0 (evRead x1 x2 x3 s).2 := by
  unfold evRead; try dsimp only
  repeat' first
    | with_reducible assumption | with_reducible refine State.setReg_within ?_ (by assumption)
    | with_reducible refine State.readClear_within ?_ (by assumption)
    | with_reducible refine within_pair ?_ (by assumption) | split

theorem gateWrite_within (h : Within P R s0 s) (p_router : P .router) (r_ev_GATE : R (.ev .GATE)) : Within P R s0
    (gateWrite x1 x2 s) := by
  unfold gateWrite; try dsimp only
  repeat' first
    | with_reducible assumption | with_reducible refine putGates_within ?_ r_ev_GATE
    | with_reducible refine within_pair ?_ (by assumption) | split
    | (simp only [within_mk]
       refine WithinMk.intro ?_ rfl rfl rfl rfl (h_router := .inl p_router))

theorem ownedBits_within (hf : ∀ c s, Within P R s0 s → Within P R s0 (x4 c s)) (h : Within P R s0 s) (p_safety : P .safety) (p_ic : P .ic) (p_tw : P .tw) (r_ev_STAT : R (.ev .STAT)) :
    Within P R s0 (ownedBits x1 x2 x3 x4 s) := by
  unfold ownedBits
  refine within_foldl (fun _ _ h => ?_) h
  repeat' split
  · exact hf _ _ h
  · exact ownErr_within h p_safety p_ic p_tw r_ev_STAT
  · exact h

theorem softwarePublish_within (h : Within P R s0 s) (p_safety : P .safety) (p_router : P .router) (p_ic : P .ic)
    (p_tw : P .tw) (r_ev_STAT : R (.ev .STAT)) : Within P R s0 (softwarePublish x1 x2 x3 s) := by
  unfold softwarePublish; try dsimp only
  repeat' first
    | with_reducible assumption
    | with_reducible refine ownedBits_within (fun _ _ h => ?_) ?_ p_safety p_ic p_tw r_ev_STAT
    | with_reducible refine publishSw_within ?_ p_router

theorem clearSeen_within (h : Within P R s0 s) (p_safety : P .safety) (p_ic : P .ic) (p_tw : P .tw)
    (r_ev_STAT : R (.ev .STAT)) (r_ev_SEENL : R (.ev .SEENL)) (r_ev_SEENH : R (.ev .SEENH)) : Within P R s0 (clearSeen
    x1 x2 x3 s) := by
  unfold clearSeen; try dsimp only
  repeat' first
    | with_reducible assumption
    | with_reducible refine ownedBits_within (fun _ _ h => ?_) ?_ p_safety p_ic p_tw r_ev_STAT
    | with_reducible refine State.clrReg_within ?_ (by assumption)
    | with_reducible refine within_pair ?_ (by assumption) | split

theorem entryWrite_within (h : Within P R s0 s) (p_safety : P .safety) (p_ic : P .ic) (p_tw : P .tw)
    (r_ev_STAT : R (.ev .STAT)) (r1 : R (Reg.ev x2)) : Within P R s0 (entryWrite x1 x2 x3 x4 s) := by
  unfold entryWrite; try dsimp only
  repeat' first
    | with_reducible assumption | with_reducible refine ownErr_within ?_ p_safety p_ic p_tw r_ev_STAT
    | with_reducible refine State.plainWrite_within ?_ (by assumption)
    | with_reducible refine within_pair ?_ (by assumption) | split

theorem evWrite_within (h : Within P R s0 s) (p_safety : P .safety) (p_router : P .router) (p_ic : P .ic)
    (p_tw : P .tw) (r_ev_SEL : R (.ev .SEL)) (r_ev_CTRL : R (.ev .CTRL)) (r_ev_STAT : R (.ev .STAT))
    (r_ev_SPMISS : R (.ev .SPMISS)) (r_ev_GATE : R (.ev .GATE)) (r_ev_SEENL : R (.ev .SEENL))
    (r_ev_SEENH : R (.ev .SEENH)) (r_ev_CCFG : R (.ev .CCFG)) (r_ev_CSTAT : R (.ev .CSTAT)) (r_ev_PUB : R (.ev .PUB))
    (r_ev_SUB : R (.ev .SUB)) : Within P R s0 (evWrite x1 x2 x3 x4 s) := by
  unfold evWrite; try dsimp only
  repeat' first
    | with_reducible assumption
    | with_reducible refine entryWrite_within ?_ p_safety p_ic p_tw r_ev_STAT (by assumption)
    | with_reducible refine softwarePublish_within ?_ p_safety p_router p_ic p_tw r_ev_STAT
    | with_reducible refine ownErr_within ?_ p_safety p_ic p_tw r_ev_STAT
    | with_reducible refine clearSeen_within ?_ p_safety p_ic p_tw r_ev_STAT r_ev_SEENL r_ev_SEENH
    | with_reducible refine writeSel_within ?_ (by assumption)
    | with_reducible refine State.plainWrite_within ?_ (by assumption)
    | with_reducible refine gateWrite_within ?_ p_router r_ev_GATE
    | with_reducible refine within_pair ?_ (by assumption) | split

end Sys2Proof.Machine
end

