-- ==== Sys2Proof/Laws/WithinRecords.lean ====
section
/-! SUPPORT. What each operation of Machine/Records.lean can change: one lemma per operation (see Laws/WithinOps.lean). -/
namespace Sys2Proof.Machine
set_option Elab.async false

set_option linter.unusedVariables false
set_option linter.unusedSimpArgs false

variable {P : Part → Prop} {R : Reg → Prop} {s0 s t : State}

theorem updMerger_within (h : Within P R s0 s) (p_merger : P .merger) : Within P R s0 (updMerger x1 s) := by
  unfold updMerger; try dsimp only
  repeat' first
    | with_reducible assumption | with_reducible refine within_pair ?_ (by assumption) | split
    | (simp only [within_mk]
       refine WithinMk.intro ?_ rfl rfl rfl rfl (h_merger := .inl p_merger))

theorem recordArrive_within (h : Within P R s0 s) (p_merger : P .merger) (p_safety : P .safety) (p_ic : P .ic)
    (p_tw : P .tw) (r_rk_STAT : R (.rk .STAT)) (r_rk_LATE : R (.rk .LATE)) : Within P R s0 (recordArrive s) := by
  unfold recordArrive; try dsimp only
  repeat' first
    | with_reducible assumption
    | with_reducible refine judge_within ?_ p_merger p_safety p_ic p_tw r_rk_STAT r_rk_LATE
    | with_reducible refine updMerger_within ?_ p_merger | with_reducible refine within_pair ?_ (by assumption)
    | split

theorem judgeAll_within (h : Within P R s0 s) (p_merger : P .merger) (p_safety : P .safety) (p_ic : P .ic) (p_tw : P .tw) (r_rk_STAT : R (.rk .STAT)) (r_rk_LATE : R (.rk .LATE)) : Within P R s0 (judgeAll x1 s) := by
  induction x1 generalizing s with
  | zero => exact h
  | succ n ih => rw [judgeAll]; exact ih (recordArrive_within h p_merger p_safety p_ic p_tw r_rk_STAT r_rk_LATE)

theorem noteEvents_within (h : Within P R s0 s) (p_safety : P .safety) (p_router : P .router) (p_ic : P .ic)
    (p_tw : P .tw) (r_rk_CnSTAT : R (.rk .CnSTAT)) : Within P R s0 (noteEvents x1 s) := by
  unfold noteEvents; try dsimp only
  repeat' first
    | with_reducible assumption | with_reducible refine setNotes_within ?_ p_safety p_ic p_tw r_rk_CnSTAT
    | with_reducible refine publish_within ?_ p_router | with_reducible refine within_foldl (fun _ _ h => ?_) ?_

theorem firstsMade_within (h : Within P R s0 s) (p_merger : P .merger) (p_safety : P .safety) (p_ic : P .ic)
    (p_tw : P .tw) (r_rk_STAT : R (.rk .STAT)) : Within P R s0 (firstsMade s) := by
  unfold firstsMade; try dsimp only
  repeat' first
    | with_reducible assumption | with_reducible refine State.orReg_within ?_ p_safety p_ic p_tw (by assumption)
    | with_reducible refine updMerger_within ?_ p_merger | with_reducible refine within_pair ?_ (by assumption)
    | split

theorem writeDue_within (h : Within P R s0 s) (p_mem : P .mem) (p_merger : P .merger) (p_safety : P .safety)
    (p_router : P .router) (p_ic : P .ic) (p_tw : P .tw) (r_rk_STAT : R (.rk .STAT)) (r_rk_LATE : R (.rk .LATE))
    (r_rk_OVCNT : R (.rk .OVCNT)) (r_rk_CnSTAT : R (.rk .CnSTAT)) : Within P R s0 (writeDue x1 s) := by
  unfold writeDue; try dsimp only
  repeat' first
    | with_reducible assumption
    | with_reducible refine writeAll_within ?_ p_mem p_merger p_safety p_ic p_tw r_rk_OVCNT r_rk_STAT
    | with_reducible refine firstsMade_within ?_ p_merger p_safety p_ic p_tw r_rk_STAT
    | with_reducible refine noteEvents_within ?_ p_safety p_router p_ic p_tw r_rk_CnSTAT
    | with_reducible refine judgeAll_within ?_ p_merger p_safety p_ic p_tw r_rk_STAT r_rk_LATE
    | with_reducible refine updMerger_within ?_ p_merger

theorem recordWrite_within (h : Within P R s0 s) (p_mem : P .mem) (p_merger : P .merger) (p_safety : P .safety)
    (p_router : P .router) (p_ic : P .ic) (p_tw : P .tw) (r_rk_STAT : R (.rk .STAT)) (r_rk_LATE : R (.rk .LATE))
    (r_rk_OVCNT : R (.rk .OVCNT)) (r_rk_CnSTAT : R (.rk .CnSTAT)) : Within P R s0 (recordWrite s) := by
  unfold recordWrite; try dsimp only
  repeat' first
    | with_reducible assumption
    | with_reducible refine writeDue_within ?_ p_mem p_merger p_safety p_router p_ic p_tw
                        r_rk_STAT r_rk_LATE r_rk_OVCNT r_rk_CnSTAT
    | with_reducible refine within_pair ?_ (by assumption) | split

theorem endBarrier_within (h : Within P R s0 s) (p_merger : P .merger) : Within P R s0 (endBarrier x1 s) := by
  unfold endBarrier; try dsimp only
  repeat' first
    | with_reducible assumption | with_reducible refine updMerger_within ?_ p_merger

theorem flushRecords_within (h : Within P R s0 s) (p_mem : P .mem) (p_merger : P .merger) (p_safety : P .safety)
    (p_router : P .router) (p_ic : P .ic) (p_tw : P .tw) (r_rk_STAT : R (.rk .STAT)) (r_rk_LATE : R (.rk .LATE))
    (r_rk_OVCNT : R (.rk .OVCNT)) (r_rk_CnSTAT : R (.rk .CnSTAT)) : Within P R s0 (flushRecords s) := by
  unfold flushRecords; try dsimp only
  repeat' first
    | with_reducible assumption
    | with_reducible refine writeAll_within ?_ p_mem p_merger p_safety p_ic p_tw r_rk_OVCNT r_rk_STAT
    | with_reducible refine firstsMade_within ?_ p_merger p_safety p_ic p_tw r_rk_STAT
    | with_reducible refine noteEvents_within ?_ p_safety p_router p_ic p_tw r_rk_CnSTAT
    | with_reducible refine judgeAll_within ?_ p_merger p_safety p_ic p_tw r_rk_STAT r_rk_LATE
    | with_reducible refine updMerger_within ?_ p_merger | with_reducible refine endBarrier_within ?_ p_merger
    | with_reducible refine within_pair ?_ (by assumption) | split

theorem stampHighChange_within (h : Within P R s0 s) (p_merger : P .merger) : Within P R s0 (stampHighChange s) := by
  unfold stampHighChange; try dsimp only
  repeat' first
    | with_reducible assumption | with_reducible refine updMerger_within ?_ p_merger
    | with_reducible refine within_pair ?_ (by assumption) | split

theorem epochWrite_within (h : Within P R s0 s) (p_mem : P .mem) (p_merger : P .merger) (p_safety : P .safety)
    (p_router : P .router) (p_ic : P .ic) (p_tw : P .tw) (r_rk_STAT : R (.rk .STAT)) (r_rk_LATE : R (.rk .LATE))
    (r_rk_OVCNT : R (.rk .OVCNT)) (r_rk_CnSTAT : R (.rk .CnSTAT)) : Within P R s0 (epochWrite s) := by
  unfold epochWrite; try dsimp only
  repeat' first
    | with_reducible assumption
    | with_reducible refine writeDue_within ?_ p_mem p_merger p_safety p_router p_ic p_tw
                        r_rk_STAT r_rk_LATE r_rk_OVCNT r_rk_CnSTAT
    | with_reducible refine endBarrier_within ?_ p_merger | with_reducible refine within_pair ?_ (by assumption)
    | split

theorem overflowExit_within (h : Within P R s0 s) (p_mem : P .mem) (p_merger : P .merger) (p_safety : P .safety)
    (p_router : P .router) (p_ic : P .ic) (p_tw : P .tw) (r_rk_OVCNT : R (.rk .OVCNT)) (r_rk_STAT : R (.rk .STAT))
    (r_rk_CnSTAT : R (.rk .CnSTAT)) : Within P R s0 (overflowExit s) := by
  unfold overflowExit; try dsimp only
  repeat' first
    | with_reducible assumption | with_reducible refine almanac_within ?_ p_safety
    | with_reducible refine writeAll_within ?_ p_mem p_merger p_safety p_ic p_tw r_rk_OVCNT r_rk_STAT
    | with_reducible refine noteEvents_within ?_ p_safety p_router p_ic p_tw r_rk_CnSTAT
    | with_reducible refine updMerger_within ?_ p_merger | with_reducible refine within_pair ?_ (by assumption)
    | split

theorem queueLost_within (h : Within P R s0 s) (p_merger : P .merger) (p_safety : P .safety) (p_ic : P .ic)
    (p_tw : P .tw) (r_rk_STAT : R (.rk .STAT)) : Within P R s0 (queueLost x1 x2 x3 s) := by
  unfold queueLost; try dsimp only
  repeat' first
    | with_reducible assumption | with_reducible refine almanac_within ?_ p_safety
    | with_reducible refine State.orReg_within ?_ p_safety p_ic p_tw (by assumption)
    | with_reducible refine updMerger_within ?_ p_merger | with_reducible refine cursorToHead_within ?_ p_merger
    | with_reducible refine within_foldl (fun _ _ h => ?_) ?_
    | with_reducible refine within_foldl_snd (fun _ _ h => ?_) ?_
    | with_reducible refine within_foldl_fst (fun _ _ h => ?_) ?_
    | with_reducible refine within_pair ?_ (by assumption) | split

theorem deliver_within (h : Within P R s0 s) (p_merger : P .merger) : Within P R s0 (deliver x1 x2 s) := by
  unfold deliver; try dsimp only
  repeat' first
    | with_reducible assumption | with_reducible refine ackBytes_within ?_ p_merger
    | with_reducible refine updMerger_within ?_ p_merger | with_reducible refine within_pair ?_ (by assumption)
    | split

theorem cursorControl_within (h : Within P R s0 s) (p_merger : P .merger) (p_host : P .host) (p_tw : P .tw)
    (r_rk_CnCTRL : R (.rk .CnCTRL)) : Within P R s0 (cursorControl x1 x2 s) := by
  unfold cursorControl; try dsimp only
  repeat' first
    | with_reducible assumption | with_reducible refine State.plainWrite_within ?_ (by assumption)
    | with_reducible refine updMerger_within ?_ p_merger | with_reducible refine cursorToHead_within ?_ p_merger
    | with_reducible refine within_pair ?_ (by assumption) | split
    | (simp only [within_mk]
       refine WithinMk.intro ?_ rfl rfl rfl rfl (h_merger := .inl p_merger) (h_host := .inl p_host) (h_tw := .inl
           p_tw))

theorem cursorAck_within (h : Within P R s0 s) (p_merger : P .merger) (p_safety : P .safety) (p_ic : P .ic)
    (p_tw : P .tw) (r_rk_CnSTAT : R (.rk .CnSTAT)) : Within P R s0 (cursorAck x1 x2 x3 s) := by
  unfold cursorAck; try dsimp only
  repeat' first
    | with_reducible assumption | with_reducible refine State.orReg_within ?_ p_safety p_ic p_tw (by assumption)
    | with_reducible refine ackBytes_within ?_ p_merger | with_reducible refine within_pair ?_ (by assumption)
    | split

theorem swRecord_within (h : Within P R s0 s) (p_merger : P .merger) (p_safety : P .safety) (p_ic : P .ic)
    (p_tw : P .tw) (r_rk_STAT : R (.rk .STAT)) : Within P R s0 (swRecord x1 x2 s) := by
  unfold swRecord; try dsimp only
  repeat' first
    | with_reducible assumption | with_reducible refine State.orReg_within ?_ p_safety p_ic p_tw (by assumption)
    | with_reducible refine emit_within ?_ p_merger | with_reducible refine within_pair ?_ (by assumption) | split

theorem rkRead_within (h : Within P R s0 s) (r_rk_LATE : R (.rk .LATE)) (r_rk_OLDH : R (.rk .OLDH)) : Within P R s0
    (rkRead x1 x2 x3 s).2 := by
  unfold rkRead; try dsimp only
  repeat' first
    | with_reducible assumption | with_reducible refine snapshot_within ?_ (by assumption)
    | with_reducible refine State.readClear_within ?_ (by assumption)
    | with_reducible refine within_pair ?_ (by assumption) | split

theorem horizonWrite_within (h : Within P R s0 s) (r_rk_HORIZON : R (.rk .HORIZON)) : Within P R s0 (horizonWrite x1
    s) := by
  unfold horizonWrite; try dsimp only
  repeat' first
    | with_reducible assumption | with_reducible refine State.plainWrite_within ?_ (by assumption)
    | with_reducible refine within_pair ?_ (by assumption) | split

theorem rkWrite_within (h : Within P R s0 s) (p_merger : P .merger) (p_safety : P .safety) (p_ic : P .ic)
    (p_host : P .host) (p_tw : P .tw) (r_rk_CTRL : R (.rk .CTRL)) (r_rk_HORIZON : R (.rk .HORIZON))
    (r_rk_STAT : R (.rk .STAT)) (r_rk_OVFREE : R (.rk .OVFREE)) (r_rk_SWD2 : R (.rk .SWD2))
    (r_rk_SWD3 : R (.rk .SWD3)) (r_rk_CnCTRL : R (.rk .CnCTRL)) (r_rk_CnWMARK : R (.rk .CnWMARK))
    (r_rk_CnSTAT : R (.rk .CnSTAT)) : Within P R s0 (rkWrite x1 x2 x3 x4 s) := by
  unfold rkWrite; try dsimp only
  repeat' first
    | with_reducible assumption | with_reducible refine swRecord_within ?_ p_merger p_safety p_ic p_tw r_rk_STAT
    | with_reducible refine State.setReg_within ?_ (by assumption)
    | with_reducible refine State.plainWrite_within ?_ (by assumption)
    | with_reducible refine horizonWrite_within ?_ r_rk_HORIZON
    | with_reducible refine cursorAck_within ?_ p_merger p_safety p_ic p_tw r_rk_CnSTAT
    | with_reducible refine cursorControl_within ?_ p_merger p_host p_tw r_rk_CnCTRL
    | with_reducible refine within_pair ?_ (by assumption) | split

end Sys2Proof.Machine
end

