-- ==== Sys2Proof/Laws/WithinInterrupts.lean ====
section
/-! SUPPORT. What each operation of Machine/Interrupts.lean can change: one lemma per operation (see Laws/WithinOps.lean). -/
namespace Sys2Proof.Machine
set_option Elab.async false

set_option linter.unusedVariables false
set_option linter.unusedSimpArgs false

variable {P : Part → Prop} {R : Reg → Prop} {s0 s t : State}

theorem updCore_within (h : Within P R s0 s) (p_ic : P .ic) : Within P R s0 (updCore x1 x2 s) := by
  unfold updCore; try dsimp only
  repeat' first
    | with_reducible assumption | with_reducible refine within_pair ?_ (by assumption) | split
    | (simp only [within_mk]
       refine WithinMk.intro ?_ rfl rfl rfl rfl (h_ic := .inl p_ic))

theorem wakeCore_within (h : Within P R s0 s) (p_ic : P .ic) : Within P R s0 (wakeCore x1 s) := by
  unfold wakeCore; try dsimp only
  repeat' first
    | with_reducible assumption | with_reducible refine updCore_within ?_ p_ic

theorem interruptRoute_within (h : Within P R s0 s) (p_ic : P .ic) : Within P R s0 (interruptRoute s) := by
  unfold interruptRoute; try dsimp only
  repeat' first
    | with_reducible assumption | with_reducible refine wakeCore_within ?_ p_ic
    | with_reducible refine within_foldl (fun _ _ h => ?_) ?_
    | with_reducible refine within_foldl_snd (fun _ _ h => ?_) ?_
    | with_reducible refine within_foldl_fst (fun _ _ h => ?_) ?_
    | with_reducible refine within_pair ?_ (by assumption) | split
    | (simp only [within_mk]
       refine WithinMk.intro ?_ rfl rfl rfl rfl (h_ic := .inl p_ic))

theorem claim_within (h : Within P R s0 s) (p_ic : P .ic) : Within P R s0 (claim x1 x2 s).2 := by
  unfold claim; try dsimp only
  repeat' first
    | with_reducible assumption | with_reducible refine updSource_within ?_ p_ic
    | with_reducible refine within_pair ?_ (by assumption) | split

theorem complete_within (h : Within P R s0 s) (p_safety : P .safety) (p_ic : P .ic) (p_tw : P .tw)
    (r_ic_STAT : R (.ic .STAT)) : Within P R s0 (complete x1 x2 s) := by
  unfold complete; try dsimp only
  repeat' first
    | with_reducible assumption | with_reducible refine updSource_within ?_ p_ic
    | with_reducible refine State.orReg_within ?_ p_safety p_ic p_tw (by assumption)
    | with_reducible refine within_pair ?_ (by assumption) | split

theorem softwareSet_within (h : Within P R s0 s) (p_ic : P .ic) : Within P R s0 (softwareSet x1 s) := by
  unfold softwareSet; try dsimp only
  repeat' first
    | with_reducible assumption | with_reducible refine setLatch_within ?_ p_ic
    | with_reducible refine within_foldl (fun _ _ h => ?_) ?_
    | with_reducible refine within_foldl_snd (fun _ _ h => ?_) ?_
    | with_reducible refine within_foldl_fst (fun _ _ h => ?_) ?_
    | with_reducible refine within_pair ?_ (by assumption) | split

theorem sourceWrite_within (h : Within P R s0 s) (r_ic_SRC : R (.ic .SRC)) : Within P R s0 (sourceWrite x1 x2 s) := by
  unfold sourceWrite; try dsimp only
  repeat' first
    | with_reducible assumption | with_reducible refine State.plainWrite_within ?_ (by assumption)
    | with_reducible refine within_pair ?_ (by assumption) | split

theorem endServices_within (h : Within P R s0 s) (p_ic : P .ic) : Within P R s0 (endServices x1 s) := by
  unfold endServices; try dsimp only
  repeat' first
    | with_reducible assumption | with_reducible refine within_pair ?_ (by assumption) | split
    | (simp only [within_mk]
       refine WithinMk.intro ?_ rfl rfl rfl rfl (h_ic := .inl p_ic))

theorem coreFault_within (h : Within P R s0 s) (p_acc : P .acc) (p_ic : P .ic) (rAll : ∀ r, R r) : Within P R s0
    (coreFault x1 x2 s) := by
  unfold coreFault; try dsimp only
  repeat' first
    | with_reducible assumption | with_reducible refine updCore_within ?_ p_ic
    | with_reducible refine State.clrReg_within ?_ (rAll _) | with_reducible refine State.setFld_within ?_ (rAll _)
    | with_reducible refine resetAccessor_within ?_ rAll | with_reducible refine State.countFld_within ?_ (rAll _)
    | with_reducible refine endServices_within ?_ p_ic | with_reducible refine setLatch_within ?_ p_ic
    | with_reducible refine within_pair ?_ (by assumption) | split
    | (simp only [within_mk]
       refine WithinMk.intro ?_ rfl rfl rfl rfl (h_acc := .inl p_acc) (h_ic := .inl p_ic))

theorem tcmError_within (h : Within P R s0 s) (p_acc : P .acc) (p_mem : P .mem) (p_safety : P .safety) (p_ic : P .ic)
    (p_tw : P .tw) (rAll : ∀ r, R r) : Within P R s0 (tcmError x1 x2 s) := by
  unfold tcmError; try dsimp only
  repeat' first
    | with_reducible assumption | with_reducible refine almanac_within ?_ p_safety
    | with_reducible refine fstat_within ?_ p_safety p_ic p_tw (rAll _)
    | with_reducible refine State.zeroRange_within ?_ p_mem
    | with_reducible refine coreFault_within ?_ p_acc p_ic rAll

theorem coreRestart_within (h : Within P R s0 s) (p_ic : P .ic) : Within P R s0 (coreRestart x1 s) := by
  unfold coreRestart; try dsimp only
  repeat' first
    | with_reducible assumption | with_reducible refine updCore_within ?_ p_ic
    | with_reducible refine within_pair ?_ (by assumption) | split

theorem cpuctlWrite_within (h : Within P R s0 s) (p_acc : P .acc) (p_ic : P .ic) (rAll : ∀ r, R r) : Within P R s0
    (cpuctlWrite x1 x2 s) := by
  unfold cpuctlWrite; try dsimp only
  repeat' first
    | with_reducible assumption | with_reducible refine State.setFld_within ?_ (rAll _)
    | with_reducible refine coreFault_within ?_ p_acc p_ic rAll
    | with_reducible refine within_pair ?_ (by assumption) | split

theorem coreRun_within (h : Within P R s0 s) (p_safety : P .safety) (p_ic : P .ic) : Within P R s0 (coreRun x1 s) := by
  unfold coreRun; try dsimp only
  repeat' first
    | with_reducible assumption | with_reducible refine updCore_within ?_ p_ic
    | with_reducible refine within_pair ?_ (by assumption) | split
    | (simp only [within_mk]
       refine WithinMk.intro ?_ rfl rfl rfl rfl (h_safety := .inl p_safety) (h_ic := .inl p_ic))

theorem coreWfi_within (h : Within P R s0 s) (p_ic : P .ic) : Within P R s0 (coreWfi x1 s) := by
  unfold coreWfi; try dsimp only
  repeat' first
    | with_reducible assumption | with_reducible refine updCore_within ?_ p_ic
    | with_reducible refine within_pair ?_ (by assumption) | split

theorem coreWake_within (h : Within P R s0 s) (p_safety : P .safety) (p_ic : P .ic) : Within P R s0 (coreWake x1 s) := by
  unfold coreWake; try dsimp only
  repeat' first
    | with_reducible assumption | with_reducible refine coreRun_within ?_ p_safety p_ic
    | with_reducible refine within_pair ?_ (by assumption) | split

theorem startCores_within (h : Within P R s0 s) (p_ic : P .ic) : Within P R s0 (startCores s) := by
  unfold startCores; try dsimp only
  repeat' first
    | with_reducible assumption | with_reducible refine wakeCore_within ?_ p_ic
    | with_reducible refine within_foldl (fun _ _ h => ?_) ?_
    | with_reducible refine within_foldl_snd (fun _ _ h => ?_) ?_
    | with_reducible refine within_foldl_fst (fun _ _ h => ?_) ?_
    | with_reducible refine within_pair ?_ (by assumption) | split

theorem fenceI_within (h : Within P R s0 s) (p_ic : P .ic) : Within P R s0 (fenceI x1 s) := by
  unfold fenceI; try dsimp only
  repeat' first
    | with_reducible assumption | with_reducible refine updCore_within ?_ p_ic

theorem icRead_within (h : Within P R s0 s) (p_ic : P .ic) : Within P R s0 (icRead x1 x2 x3 s).2 := by
  unfold icRead; try dsimp only
  repeat' first
    | with_reducible assumption | with_reducible refine claim_within ?_ p_ic
    | with_reducible refine within_pair ?_ (by assumption) | split

theorem icWrite_within (h : Within P R s0 s) (p_acc : P .acc) (p_safety : P .safety) (p_ic : P .ic) (p_tw : P .tw)
    (rAll : ∀ r, R r) : Within P R s0 (icWrite x1 x2 x3 s) := by
  unfold icWrite; try dsimp only
  repeat' first
    | with_reducible assumption | with_reducible refine cpuctlWrite_within ?_ p_acc p_ic rAll
    | with_reducible refine complete_within ?_ p_safety p_ic p_tw (rAll _)
    | with_reducible refine State.plainWrite_within ?_ (rAll _)
    | with_reducible refine sourceWrite_within ?_ (rAll _) | with_reducible refine softwareSet_within ?_ p_ic
    | with_reducible refine within_pair ?_ (by assumption) | split

end Sys2Proof.Machine
end

