-- ==== Sys2Proof/Laws/WithinMonitor.lean ====
section
/-! SUPPORT. What each operation of Machine/Monitor.lean can change: one lemma per operation (see Laws/WithinOps.lean). -/
namespace Sys2Proof.Machine
set_option Elab.async false

set_option linter.unusedVariables false
set_option linter.unusedSimpArgs false

variable {P : Part → Prop} {R : Reg → Prop} {s0 s t : State}

theorem putEntry_within (h : Within P R s0 s) (p_mem : P .mem) (r_al_WIDX : R (.al .WIDX))
    (r_al_COUNT : R (.al .COUNT)) : Within P R s0 (putEntry x1 s) := by
  unfold putEntry; try dsimp only
  repeat' first
    | with_reducible assumption | with_reducible refine State.setReg_within ?_ (by assumption)
    | with_reducible refine State.writeWords_within ?_ p_mem
    | with_reducible refine State.countFld_within ?_ (by assumption)

theorem almanacWrite_within (h : Within P R s0 s) (p_mem : P .mem) (p_safety : P .safety) (r_al_WIDX : R (.al .WIDX))
    (r_al_COUNT : R (.al .COUNT)) : Within P R s0 (almanacWrite s) := by
  unfold almanacWrite; try dsimp only
  repeat' first
    | with_reducible assumption | with_reducible refine putEntry_within ?_ p_mem r_al_WIDX r_al_COUNT
    | with_reducible refine within_pair ?_ (by assumption) | split
    | (simp only [within_mk]
       refine WithinMk.intro ?_ rfl rfl rfl rfl (h_safety := .inl p_safety))

theorem almanacFlush_within (h : Within P R s0 s) (p_mem : P .mem) (p_safety : P .safety) (r_al_WIDX : R (.al .WIDX)) (r_al_COUNT : R (.al .COUNT)) : Within P R s0 (almanacFlush x1 s) := by
  induction x1 generalizing s with
  | zero => exact h
  | succ n ih =>
    unfold almanacFlush
    split
    · exact h
    · exact ih (almanacWrite_within h p_mem p_safety r_al_WIDX r_al_COUNT)

theorem almanacCompact_within (h : Within P R s0 s) (p_mem : P .mem) (p_safety : P .safety)
    (r_al_WIDX : R (.al .WIDX)) (r_al_COUNT : R (.al .COUNT)) : Within P R s0 (almanacCompact s) := by
  unfold almanacCompact; try dsimp only
  repeat' first
    | with_reducible assumption | with_reducible refine State.setReg_within ?_ (by assumption)
    | with_reducible refine State.writeWords_within ?_ p_mem
    | with_reducible refine almanacFlush_within ?_ p_mem p_safety r_al_WIDX r_al_COUNT

theorem almanacTail_within (h : Within P R s0 s) (p_mem : P .mem) : Within P R s0 (almanacTail s) := by
  unfold almanacTail; try dsimp only
  repeat' first
    | with_reducible assumption | with_reducible refine State.eraseRange_within ?_ p_mem

theorem logCommit_within (h : Within P R s0 s) (p_safety : P .safety) : Within P R s0 (logCommit x1 x2 s) := by
  unfold logCommit; try dsimp only
  repeat' first
    | with_reducible assumption | with_reducible refine almanac_within ?_ p_safety
    | with_reducible refine within_pair ?_ (by assumption) | split

theorem faultRelease_within (h : Within P R s0 s) (p_safety : P .safety) : Within P R s0 (faultRelease s) := by
  unfold faultRelease; try dsimp only
  repeat' first
    | with_reducible assumption | with_reducible refine within_pair ?_ (by assumption) | split
    | (simp only [within_mk]
       refine WithinMk.intro ?_ rfl rfl rfl rfl (h_safety := .inl p_safety))

theorem fctlWrite_within (h : Within P R s0 s) (p_safety : P .safety) (p_ic : P .ic) (p_tw : P .tw)
    (r_al_FCTL : R (.al .FCTL)) (r_al_FSTAT : R (.al .FSTAT)) : Within P R s0 (fctlWrite x1 s) := by
  unfold fctlWrite; try dsimp only
  repeat' first
    | with_reducible assumption | with_reducible refine fstat_within ?_ p_safety p_ic p_tw r_al_FSTAT
    | with_reducible refine twNotice_within ?_ p_tw | with_reducible refine State.setFld_within ?_ (by assumption)
    | with_reducible refine State.orReg_within ?_ p_safety p_ic p_tw (by assumption)
    | with_reducible refine faultPin_within ?_ p_safety | with_reducible refine within_pair ?_ (by assumption)
    | split

theorem wdRestart_within (h : Within P R s0 s) (p_safety : P .safety) : Within P R s0 (wdRestart x1 x2 s) := by
  unfold wdRestart; try dsimp only
  repeat' first
    | with_reducible assumption | with_reducible refine within_pair ?_ (by assumption) | split
    | (simp only [within_mk]
       refine WithinMk.intro ?_ rfl rfl rfl rfl (h_safety := .inl p_safety))

theorem wdExpire_within (h : Within P R s0 s) (p_acc : P .acc) (p_safety : P .safety) (p_ic : P .ic) (p_tw : P .tw)
    (rAll : ∀ r, R r) : Within P R s0 (wdExpire x1 x2 s) := by
  unfold wdExpire; try dsimp only
  repeat' first
    | with_reducible assumption | with_reducible refine almanac_within ?_ p_safety
    | with_reducible refine fstat_within ?_ p_safety p_ic p_tw (rAll _)
    | with_reducible refine coreFault_within ?_ p_acc p_ic rAll | with_reducible refine wdRestart_within ?_ p_safety

theorem wdTimeout_within (h : Within P R s0 s) (p_acc : P .acc) (p_safety : P .safety) (p_ic : P .ic) (p_tw : P .tw)
    (rAll : ∀ r, R r) : Within P R s0 (wdTimeout x1 s) := by
  unfold wdTimeout; try dsimp only
  repeat' first
    | with_reducible assumption | with_reducible refine wdExpire_within ?_ p_acc p_safety p_ic p_tw rAll
    | with_reducible refine within_pair ?_ (by assumption) | split

theorem wdKick_within (h : Within P R s0 s) (p_acc : P .acc) (p_safety : P .safety) (p_ic : P .ic) (p_tw : P .tw)
    (rAll : ∀ r, R r) : Within P R s0 (wdKick x1 x2 x3 s) := by
  unfold wdKick; try dsimp only
  repeat' first
    | with_reducible assumption | with_reducible refine wdExpire_within ?_ p_acc p_safety p_ic p_tw rAll
    | with_reducible refine wdRestart_within ?_ p_safety | with_reducible refine within_pair ?_ (by assumption)
    | split

theorem wdctlWrite_within (h : Within P R s0 s) (p_safety : P .safety) (p_ic : P .ic) (p_tw : P .tw)
    (r_al_WDCTL : R (.al .WDCTL)) : Within P R s0 (wdctlWrite x1 x2 s) := by
  unfold wdctlWrite; try dsimp only
  repeat' first
    | with_reducible assumption | with_reducible refine State.setFld_within ?_ (by assumption)
    | with_reducible refine State.orReg_within ?_ p_safety p_ic p_tw (by assumption)
    | with_reducible refine wdRestart_within ?_ p_safety | with_reducible refine within_pair ?_ (by assumption)
    | split

theorem monitorFault_within (h : Within P R s0 s) (p_safety : P .safety) (p_ic : P .ic) (p_tw : P .tw)
    (r_al_FSTAT : R (.al .FSTAT)) : Within P R s0 (monitorFault x1 x2 x3 x4 s) := by
  unfold monitorFault; try dsimp only
  repeat' first
    | with_reducible assumption | with_reducible refine almanac_within ?_ p_safety
    | with_reducible refine fstat_within ?_ p_safety p_ic p_tw r_al_FSTAT

theorem xtalFail_within (h : Within P R s0 s) (p_safety : P .safety) (p_ic : P .ic) (p_tw : P .tw)
    (r_al_FSTAT : R (.al .FSTAT)) (r_pw_CLK : R (.pw .CLK)) : Within P R s0 (xtalFail s) := by
  unfold xtalFail; try dsimp only
  repeat' first
    | with_reducible assumption | with_reducible refine State.clrReg_within ?_ (by assumption)
    | with_reducible refine monitorFault_within ?_ p_safety p_ic p_tw r_al_FSTAT
    | with_reducible refine within_pair ?_ (by assumption) | split

theorem vrcFail_within (h : Within P R s0 s) (p_safety : P .safety) (p_ic : P .ic) (p_tw : P .tw)
    (r_al_FSTAT : R (.al .FSTAT)) (r_al_CLKSTAT : R (.al .CLKSTAT)) : Within P R s0 (vrcFail x1 s) := by
  unfold vrcFail; try dsimp only
  repeat' first
    | with_reducible assumption | with_reducible refine State.clrReg_within ?_ (by assumption)
    | with_reducible refine monitorFault_within ?_ p_safety p_ic p_tw r_al_FSTAT
    | with_reducible refine within_pair ?_ (by assumption) | split

theorem x32Fail_within (h : Within P R s0 s) (p_clk : P .clk) (p_safety : P .safety) (p_ic : P .ic) (p_tw : P .tw)
    (r_al_FSTAT : R (.al .FSTAT)) (r_al_CLKSTAT : R (.al .CLKSTAT)) : Within P R s0 (x32Fail s) := by
  unfold x32Fail; try dsimp only
  repeat' first
    | with_reducible assumption | with_reducible refine State.clrReg_within ?_ (by assumption)
    | with_reducible refine monitorFault_within ?_ p_safety p_ic p_tw r_al_FSTAT
    | with_reducible refine within_pair ?_ (by assumption) | split
    | (simp only [within_mk]
       refine WithinMk.intro ?_ rfl rfl rfl rfl (h_clk := .inl p_clk) (h_safety := .inl p_safety) (h_ic := .inl
           p_ic) (h_tw := .inl p_tw))

theorem lockstep_within (h : Within P R s0 s) (p_acc : P .acc) (p_safety : P .safety) (p_ic : P .ic) (p_tw : P .tw)
    (rAll : ∀ r, R r) : Within P R s0 (lockstep x1 s) := by
  unfold lockstep; try dsimp only
  repeat' first
    | with_reducible assumption | with_reducible refine monitorFault_within ?_ p_safety p_ic p_tw (rAll _)
    | with_reducible refine coreFault_within ?_ p_acc p_ic rAll
    | with_reducible refine within_pair ?_ (by assumption) | split

theorem crystalRunning_within (h : Within P R s0 s) (p_safety : P .safety) (p_ic : P .ic) (p_tw : P .tw)
    (r_pw_CLK : R (.pw .CLK)) : Within P R s0 (crystalRunning s) := by
  unfold crystalRunning; try dsimp only
  repeat' first
    | with_reducible assumption | with_reducible refine State.orReg_within ?_ p_safety p_ic p_tw (by assumption)
    | with_reducible refine within_pair ?_ (by assumption) | split

theorem x32Start_within (h : Within P R s0 s) (p_clk : P .clk) (p_safety : P .safety) (p_ic : P .ic) (p_tw : P .tw)
    (r_al_CLKSTAT : R (.al .CLKSTAT)) : Within P R s0 (x32Start s) := by
  unfold x32Start; try dsimp only
  repeat' first
    | with_reducible assumption | with_reducible refine State.orReg_within ?_ p_safety p_ic p_tw (by assumption)
    | with_reducible refine within_pair ?_ (by assumption) | split
    | (simp only [within_mk]
       refine WithinMk.intro ?_ rfl rfl rfl rfl (h_clk := .inl p_clk) (h_safety := .inl p_safety) (h_ic := .inl
           p_ic) (h_tw := .inl p_tw))

theorem alWrite_within (h : Within P R s0 s) (p_acc : P .acc) (p_safety : P .safety) (p_ic : P .ic) (p_tw : P .tw)
    (rAll : ∀ r, R r) : Within P R s0 (alWrite x1 x2 x3 x4 s) := by
  unfold alWrite; try dsimp only
  repeat' first
    | with_reducible assumption | with_reducible refine State.setReg_within ?_ (rAll _)
    | with_reducible refine logCommit_within ?_ p_safety
    | with_reducible refine wdctlWrite_within ?_ p_safety p_ic p_tw (rAll _)
    | with_reducible refine twNotice_within ?_ p_tw | with_reducible refine State.plainWrite_within ?_ (rAll _)
    | with_reducible refine wdKick_within ?_ p_acc p_safety p_ic p_tw rAll
    | with_reducible refine faultPin_within ?_ p_safety
    | with_reducible refine fctlWrite_within ?_ p_safety p_ic p_tw (rAll _) (rAll _)
    | with_reducible refine within_pair ?_ (by assumption) | split

end Sys2Proof.Machine
end

