-- ==== Sys2Proof/Laws/WithinStorage.lean ====
section
/-! SUPPORT. What each operation of Machine/Storage.lean can change: one lemma per operation (see Laws/WithinOps.lean). -/
namespace Sys2Proof.Machine
set_option Elab.async false

set_option linter.unusedVariables false
set_option linter.unusedSimpArgs false

variable {P : Part → Prop} {R : Reg → Prop} {s0 s t : State}

theorem updNvm_within (h : Within P R s0 s) (p_nvm : P .nvm) : Within P R s0 (updNvm x1 s) := by
  unfold updNvm; try dsimp only
  repeat' first
    | with_reducible assumption | with_reducible refine within_pair ?_ (by assumption) | split
    | (simp only [within_mk]
       refine WithinMk.intro ?_ rfl rfl rfl rfl (h_nvm := .inl p_nvm))

theorem freeBytes_within (h : Within P R s0 s) : Within P R s0 (freeBytes x1 s).2 := by
  unfold freeBytes; try dsimp only
  repeat' first
    | with_reducible assumption | with_reducible refine State.free_within ?_

theorem eraseFlash_within (h : Within P R s0 s) (p_mem : P .mem) : Within P R s0 (eraseFlash x1 x2 s) := by
  unfold eraseFlash; try dsimp only
  repeat' first
    | with_reducible assumption | with_reducible refine State.eraseRange_within ?_ p_mem

theorem notePage_within (h : Within P R s0 s) (rAll : ∀ r, R r) : Within P R s0 (notePage x1 s) := by
  unfold notePage; try dsimp only
  repeat' first
    | with_reducible assumption | with_reducible refine State.setFld_within ?_ (rAll _)

theorem loadPage_within (h : Within P R s0 s) (p_mem : P .mem) : Within P R s0 (loadPage x1 s) := by
  unfold loadPage; try dsimp only
  repeat' first
    | with_reducible assumption | with_reducible refine State.eraseRange_within ?_ p_mem
    | with_reducible refine State.writeBytes_within ?_ p_mem | with_reducible refine within_pair ?_ (by assumption)
    | split

theorem loadSettings_within (h : Within P R s0 s) (p_mem : P .mem) (rAll : ∀ r, R r) : Within P R s0 (loadSettings s) := by
  unfold loadSettings; try dsimp only
  repeat' first
    | with_reducible assumption | with_reducible refine loadPage_within ?_ p_mem
    | with_reducible refine notePage_within ?_ rAll | with_reducible refine within_foldl (fun _ _ h => ?_) ?_

theorem settingsWritten_within (h : Within P R s0 s) (r_nv_DIRTY : R (.nv .DIRTY)) : Within P R s0 (settingsWritten x1
    s) := by
  unfold settingsWritten; try dsimp only
  repeat' first
    | with_reducible assumption | with_reducible refine State.setFld_within ?_ (by assumption)

theorem nvResult_within (h : Within P R s0 s) (p_safety : P .safety) (p_ic : P .ic) (p_tw : P .tw)
    (r_nv_STAT : R (.nv .STAT)) : Within P R s0 (nvResult x1 s) := by
  unfold nvResult; try dsimp only
  repeat' first
    | with_reducible assumption | with_reducible refine State.setFld_within ?_ (by assumption)
    | with_reducible refine State.orReg_within ?_ p_safety p_ic p_tw (by assumption)

theorem storeOutcome_within (h : Within P R s0 s) (p_host : P .host) (p_tw : P .tw) : Within P R s0 (storeOutcome x1
    x2 x3 s) := by
  unfold storeOutcome; try dsimp only
  repeat' first
    | with_reducible assumption | with_reducible refine longOutcome_within ?_ p_host p_tw

theorem nvEnd_within (h : Within P R s0 s) (p_safety : P .safety) (p_ic : P .ic) (p_nvm : P .nvm) (p_host : P .host)
    (p_tw : P .tw) (r_nv_STAT : R (.nv .STAT)) : Within P R s0 (nvEnd x1 s) := by
  unfold nvEnd; try dsimp only
  repeat' first
    | with_reducible assumption | with_reducible refine nvResult_within ?_ p_safety p_ic p_tw r_nv_STAT
    | with_reducible refine storeOutcome_within ?_ p_host p_tw | with_reducible refine updNvm_within ?_ p_nvm
    | with_reducible refine within_pair ?_ (by assumption) | split

theorem nvStart_within (h : Within P R s0 s) (p_power : P .power) (p_nvm : P .nvm) : Within P R s0 (nvStart x1 x2 x3
    x4 x5 s) := by
  unfold nvStart; try dsimp only
  repeat' first
    | with_reducible assumption | with_reducible refine updNvm_within ?_ p_nvm
    | with_reducible refine within_pair ?_ (by assumption) | split
    | (simp only [within_mk]
       refine WithinMk.intro ?_ rfl rfl rfl rfl (h_power := .inl p_power) (h_nvm := .inl p_nvm))

theorem startPage_within (h : Within P R s0 s) (p_safety : P .safety) (p_slots : P .slots) (p_ic : P .ic)
    (p_nvm : P .nvm) (p_host : P .host) (p_tw : P .tw) (r_nv_STAT : R (.nv .STAT)) (r_nv_DIRTY : R (.nv .DIRTY)) :
    Within P R s0 (startPage x1 s) := by
  unfold startPage; try dsimp only
  repeat' first
    | with_reducible assumption | with_reducible refine nvEnd_within ?_ p_safety p_ic p_nvm p_host p_tw r_nv_STAT
    | with_reducible refine State.setFld_within ?_ (by assumption) | with_reducible refine updNvm_within ?_ p_nvm
    | with_reducible refine within_pair ?_ (by assumption) | split
    | (simp only [within_mk]
       refine WithinMk.intro ?_ rfl rfl rfl rfl (h_safety := .inl p_safety) (h_slots := .inl p_slots) (h_ic := .inl
           p_ic) (h_nvm := .inl p_nvm) (h_host := .inl p_host) (h_tw := .inl p_tw))

theorem nvStore_within (h : Within P R s0 s) (p_safety : P .safety) (p_slots : P .slots) (p_ic : P .ic)
    (p_power : P .power) (p_nvm : P .nvm) (p_host : P .host) (p_tw : P .tw) (r_nv_STAT : R (.nv .STAT))
    (r_nv_DIRTY : R (.nv .DIRTY)) : Within P R s0 (nvStore x1 x2 s) := by
  unfold nvStore; try dsimp only
  repeat' first
    | with_reducible assumption | with_reducible refine nvResult_within ?_ p_safety p_ic p_tw r_nv_STAT
    | with_reducible refine storeOutcome_within ?_ p_host p_tw
    | with_reducible refine State.setFld_within ?_ (by assumption)
    | with_reducible refine nvStart_within ?_ p_power p_nvm
    | with_reducible refine startPage_within ?_ p_safety p_slots p_ic p_nvm p_host p_tw r_nv_STAT r_nv_DIRTY
    | with_reducible refine within_pair ?_ (by assumption) | split

theorem nvCommand_within (h : Within P R s0 s) (p_safety : P .safety) (p_slots : P .slots) (p_ic : P .ic)
    (p_power : P .power) (p_nvm : P .nvm) (p_host : P .host) (p_tw : P .tw) (r_nv_STAT : R (.nv .STAT))
    (r_nv_DIRTY : R (.nv .DIRTY)) : Within P R s0 (nvCommand x1 x2 s) := by
  unfold nvCommand; try dsimp only
  repeat' first
    | with_reducible assumption
    | with_reducible refine nvStore_within ?_ p_safety p_slots p_ic p_power p_nvm p_host p_tw r_nv_STAT r_nv_DIRTY
    | with_reducible refine nvResult_within ?_ p_safety p_ic p_tw r_nv_STAT
    | with_reducible refine nvStart_within ?_ p_power p_nvm | with_reducible refine updNvm_within ?_ p_nvm
    | with_reducible refine within_pair ?_ (by assumption) | split

theorem commitDone_within (h : Within P R s0 s) (p_mem : P .mem) (p_safety : P .safety) (p_ic : P .ic)
    (p_nvm : P .nvm) (p_host : P .host) (p_tw : P .tw) (r_nv_STAT : R (.nv .STAT)) : Within P R s0 (commitDone x1 x2
    s) := by
  unfold commitDone; try dsimp only
  repeat' first
    | with_reducible assumption | with_reducible refine State.writeBytes_within ?_ p_mem
    | with_reducible refine freeBytes_within ?_
    | with_reducible refine nvEnd_within ?_ p_safety p_ic p_nvm p_host p_tw r_nv_STAT
    | with_reducible refine eraseFlash_within ?_ p_mem | with_reducible refine State.setFld_within ?_ (by assumption)
    | with_reducible refine updNvm_within ?_ p_nvm | with_reducible refine within_pair ?_ (by assumption) | split

theorem nvDone_within (h : Within P R s0 s) (p_mem : P .mem) (p_safety : P .safety) (p_ic : P .ic) (p_nvm : P .nvm)
    (p_host : P .host) (p_tw : P .tw) (r_nv_STAT : R (.nv .STAT)) : Within P R s0 (nvDone x1 s) := by
  unfold nvDone; try dsimp only
  repeat' first
    | with_reducible assumption | with_reducible refine State.writeWords_within ?_ p_mem
    | with_reducible refine nvEnd_within ?_ p_safety p_ic p_nvm p_host p_tw r_nv_STAT
    | with_reducible refine eraseFlash_within ?_ p_mem | with_reducible refine updNvm_within ?_ p_nvm
    | with_reducible refine commitDone_within ?_ p_mem p_safety p_ic p_nvm p_host p_tw r_nv_STAT
    | with_reducible refine within_pair ?_ (by assumption) | split

theorem pageStored_within (h : Within P R s0 s) (p_mem : P .mem) (p_slots : P .slots) (p_nvm : P .nvm)
    (rAll : ∀ r, R r) : Within P R s0 (pageStored x1 x2 x3 s) := by
  unfold pageStored; try dsimp only
  repeat' first
    | with_reducible assumption | with_reducible refine State.writeWord_within ?_ p_mem
    | with_reducible refine State.writeBytes_within ?_ p_mem | with_reducible refine eraseFlash_within ?_ p_mem
    | with_reducible refine State.countFld_within ?_ (rAll _) | with_reducible refine updNvm_within ?_ p_nvm
    | with_reducible refine notePage_within ?_ rAll | with_reducible refine within_pair ?_ (by assumption) | split
    | (simp only [within_mk]
       refine WithinMk.intro ?_ rfl rfl rfl rfl (h_slots := .inl p_slots) (h_nvm := .inl p_nvm))

theorem pageFailed_within (h : Within P R s0 s) (p_mem : P .mem) (p_safety : P .safety) (p_nvm : P .nvm)
    (rAll : ∀ r, R r) : Within P R s0 (pageFailed x1 x2 x3 s) := by
  unfold pageFailed; try dsimp only
  repeat' first
    | with_reducible assumption | with_reducible refine almanac_within ?_ p_safety
    | with_reducible refine State.writeBytes_within ?_ p_mem | with_reducible refine freeBytes_within ?_
    | with_reducible refine settingsWritten_within ?_ (rAll _) | with_reducible refine updNvm_within ?_ p_nvm
    | with_reducible refine notePage_within ?_ rAll | with_reducible refine within_pair ?_ (by assumption) | split

theorem storePageWritten_within (h : Within P R s0 s) (p_mem : P .mem) (p_safety : P .safety) (p_slots : P .slots)
    (p_ic : P .ic) (p_nvm : P .nvm) (p_host : P .host) (p_tw : P .tw) (rAll : ∀ r, R r) : Within P R s0
    (storePageWritten x1 x2 s) := by
  unfold storePageWritten; try dsimp only
  repeat' first
    | with_reducible assumption | with_reducible refine pageFailed_within ?_ p_mem p_safety p_nvm rAll
    | with_reducible refine startPage_within ?_ p_safety p_slots p_ic p_nvm p_host p_tw (rAll _) (rAll _)
    | with_reducible refine pageStored_within ?_ p_mem p_slots p_nvm rAll
    | with_reducible refine within_pair ?_ (by assumption) | split

theorem cutOperation_within (h : Within P R s0 s) (p_mem : P .mem) : Within P R s0 (cutOperation s) := by
  unfold cutOperation; try dsimp only
  repeat' first
    | with_reducible assumption | with_reducible refine State.writeBytes_within ?_ p_mem
    | with_reducible refine freeBytes_within ?_ | with_reducible refine within_pair ?_ (by assumption) | split

theorem a1Start_within (h : Within P R s0 s) (p_ic : P .ic) : Within P R s0 (a1Start x1 x2 s) := by
  unfold a1Start; try dsimp only
  repeat' first
    | with_reducible assumption | with_reducible refine updCore_within ?_ p_ic
    | with_reducible refine within_pair ?_ (by assumption) | split
    | (simp only [within_mk]
       refine WithinMk.intro ?_ rfl rfl rfl rfl (h_ic := .inl p_ic))

theorem nvRead_within (h : Within P R s0 s) (r_nv_UIDH : R (.nv .UIDH)) : Within P R s0 (nvRead x1 x2 x3 s).2 := by
  unfold nvRead; try dsimp only
  repeat' first
    | with_reducible assumption | with_reducible refine snapshot_within ?_ (by assumption)
    | with_reducible refine within_pair ?_ (by assumption) | split

end Sys2Proof.Machine
end

