-- ==== Sys2Proof/Laws/WithinReset.lean ====
section
/-! SUPPORT. What each operation of Machine/Reset.lean can change: one lemma per operation (see Laws/WithinOps.lean). -/
namespace Sys2Proof.Machine
set_option Elab.async false

set_option linter.unusedVariables false
set_option linter.unusedSimpArgs false

variable {P : Part → Prop} {R : Reg → Prop} {s0 s t : State}

theorem afterReset_within (h : Within P R s0 s) (pAll : ∀ p, P p) (rAll : ∀ r, R r) : Within P R s0 (afterReset x1 s) := by
  have k := cutOperation_within h (pAll _)
  exact ⟨fun x => Sparse.wf_filter _ _ _ (k.mem x), fun x => Sparse.wf_filter _ _ _ (k.regs x),
    fun x => ⟨nofun, (k.clock x).acc, (k.clock x).phase⟩, k.pending, k.free,
    fun p => Or.inl (pAll p), fun r _ => Or.inl (rAll r)⟩

theorem loadTrim_within (h : Within P R s0 s) (p_safety : P .safety) (p_ic : P .ic) (p_tw : P .tw) (rAll : ∀ r, R r) :
    Within P R s0 (loadTrim s x1) := by
  unfold loadTrim; try dsimp only
  repeat' first
    | with_reducible assumption | with_reducible refine State.setReg_within ?_ (rAll _)
    | with_reducible refine almanac_within ?_ p_safety
    | with_reducible refine fstat_within ?_ p_safety p_ic p_tw (rAll _)
    | with_reducible refine State.orReg_within ?_ p_safety p_ic p_tw (rAll _)
    | with_reducible refine within_pair ?_ (by assumption) | split

theorem loadSets_within (h : Within P R s0 s) (p_safety : P .safety) (p_ic : P .ic) (p_tw : P .tw)
    (r_ca_SETS : R (.ca .SETS)) (r_ca_RUN : R (.ca .RUN)) (r_ca_SETINIT : R (.ca .SETINIT)) : Within P R s0 (loadSets
    x1 s) := by
  unfold loadSets; try dsimp only
  repeat' first
    | with_reducible assumption | with_reducible refine State.setReg_within ?_ (by assumption)
    | with_reducible refine State.setFld_within ?_ (by assumption)
    | with_reducible refine calPend_within ?_ p_safety p_ic p_tw r_ca_RUN
    | with_reducible refine within_foldl (fun _ _ h => ?_) ?_
    | with_reducible refine within_foldl_snd (fun _ _ h => ?_) ?_
    | with_reducible refine within_foldl_fst (fun _ _ h => ?_) ?_
    | with_reducible refine within_pair ?_ (by assumption) | split

theorem loadFactory_within (h : Within P R s0 s) (p_safety : P .safety) (p_ic : P .ic) (p_tw : P .tw)
    (rAll : ∀ r, R r) : Within P R s0 (loadFactory s) := by
  unfold loadFactory; try dsimp only
  repeat' first
    | with_reducible assumption | with_reducible refine loadTrim_within ?_ p_safety p_ic p_tw rAll
    | with_reducible refine loadSets_within ?_ p_safety p_ic p_tw (rAll _) (rAll _) (rAll _)
    | with_reducible refine within_foldl (fun _ _ h => ?_) ?_

theorem setCause_within (h : Within P R s0 s) (r_nv_RSTCAUSE : R (.nv .RSTCAUSE)) : Within P R s0 (setCause x1 s) := by
  unfold setCause; try dsimp only
  repeat' first
    | with_reducible assumption | with_reducible refine State.setReg_within ?_ (by assumption)

theorem systemReset_within (h : Within P R s0 s) (pAll : ∀ p, P p) (rAll : ∀ r, R r) : Within P R s0 (systemReset x1
    x2 s) := by
  unfold systemReset; try dsimp only
  repeat' first
    | with_reducible assumption | with_reducible refine setCause_within ?_ (rAll _)
    | with_reducible refine afterReset_within ?_ pAll rAll
    | with_reducible refine loadFactory_within ?_ (pAll _) (pAll _) (pAll _) rAll

theorem powerOnReset_within (h : Within P R s0 s) (pAll : ∀ p, P p) (rAll : ∀ r, R r) : Within P R s0 (powerOnReset x1 s) := by
  have k := cutOperation_within h (pAll _)
  unfold powerOnReset
  refine loadFactory_within ⟨fun x => Sparse.wf_filter _ _ _ (k.mem x), fun _ => ?_,
    fun _ => ⟨nofun, (show 0 < 16 by decide), (show 0 < 46875 by decide)⟩, k.pending, k.free,
    fun p => Or.inl (pAll p), fun r _ => Or.inl (rAll r)⟩ (pAll _) (pAll _) (pAll _) rAll
  dsimp only
  exact Sparse.wf_set regDefault _ _ _ (Sparse.wf_set regDefault [] _ _ rfl)

theorem brownOut_within (h : Within P R s0 s) (pAll : ∀ p, P p) (rAll : ∀ r, R r) : Within P R s0 (brownOut s) := by
  unfold brownOut; try dsimp only
  repeat' first
    | with_reducible assumption | with_reducible refine systemReset_within ?_ pAll rAll
    | with_reducible refine within_pair ?_ (by assumption) | split

theorem keepReset_within (h : Within P R s0 s) (pAll : ∀ p, P p) (rAll : ∀ r, R r) : Within P R s0 (keepReset x1 s) := by
  unfold keepReset; try dsimp only
  repeat' first
    | with_reducible assumption | with_reducible refine almanacTail_within ?_ (pAll _)
    | with_reducible refine systemReset_within ?_ pAll rAll | with_reducible refine within_pair ?_ (by assumption)
    | split

theorem pllFail_within (h : Within P R s0 s) (pAll : ∀ p, P p) (rAll : ∀ r, R r) : Within P R s0 (pllFail x1 s) := by
  unfold pllFail; try dsimp only
  repeat' first
    | with_reducible assumption | with_reducible refine almanac_within ?_ (pAll _)
    | with_reducible refine updNvm_within ?_ (pAll _) | with_reducible refine keepReset_within ?_ pAll rAll
    | with_reducible refine within_pair ?_ (by assumption) | split

theorem sysrstWrite_within (h : Within P R s0 s) (pAll : ∀ p, P p) (rAll : ∀ r, R r) : Within P R s0 (sysrstWrite x1
    s) := by
  unfold sysrstWrite; try dsimp only
  repeat' first
    | with_reducible assumption | with_reducible refine keepReset_within ?_ pAll rAll
    | with_reducible refine within_pair ?_ (by assumption) | split

theorem enclaveReset_within (h : Within P R s0 s) (pAll : ∀ p, P p) (rAll : ∀ r, R r) : Within P R s0 (enclaveReset s) := by
  unfold enclaveReset; try dsimp only
  repeat' first
    | with_reducible assumption | with_reducible refine keepReset_within ?_ pAll rAll

theorem interrupted_within (h : Within P R s0 s) (p_safety : P .safety) (p_nvm : P .nvm)
    (r_nv_RSTCAUSE : R (.nv .RSTCAUSE)) : Within P R s0 (interrupted s) := by
  unfold interrupted; try dsimp only
  repeat' first
    | with_reducible assumption | with_reducible refine setCause_within ?_ r_nv_RSTCAUSE
    | with_reducible refine almanac_within ?_ p_safety | with_reducible refine State.free_within ?_
    | with_reducible refine updNvm_within ?_ p_nvm | with_reducible refine within_foldl (fun _ _ h => ?_) ?_
    | with_reducible refine within_foldl_snd (fun _ _ h => ?_) ?_
    | with_reducible refine within_foldl_fst (fun _ _ h => ?_) ?_
    | with_reducible refine within_pair ?_ (by assumption) | split

theorem bootEntry_within (h : Within P R s0 s) (p_safety : P .safety) : Within P R s0 (bootEntry x1 x2 s) := by
  unfold bootEntry; try dsimp only
  repeat' first
    | with_reducible assumption | with_reducible refine almanac_within ?_ p_safety

theorem bootWindow_within (h : Within P R s0 s) (r_hp_WIN : R (.hp .WIN)) (r_hp_CFG : R (.hp .CFG)) : Within P R s0
    (bootWindow x1 s) := by
  unfold bootWindow; try dsimp only
  repeat' first
    | with_reducible assumption | with_reducible refine State.setReg_within ?_ (by assumption)
    | with_reducible refine within_foldl (fun _ _ h => ?_) ?_
    | with_reducible refine within_foldl_snd (fun _ _ h => ?_) ?_
    | with_reducible refine within_foldl_fst (fun _ _ h => ?_) ?_
    | with_reducible refine within_pair ?_ (by assumption) | split

theorem bootConsist_within (h : Within P R s0 s) (p_mem : P .mem) (p_merger : P .merger) (p_safety : P .safety)
    (p_router : P .router) (p_drawbar : P .drawbar) (p_slots : P .slots) (p_lanes : P .lanes) (p_phys : P .phys)
    (p_cal : P .cal) (p_coach : P .coach) (p_ic : P .ic) (p_host : P .host) (p_tw : P .tw) (rAll : ∀ r, R r) : Within
    P R s0 (bootConsist x1 s) := by
  unfold bootConsist; try dsimp only
  repeat' first
    | with_reducible assumption
    | with_reducible refine bootSlot_within ?_ p_mem p_merger p_safety p_router p_drawbar
                        p_slots p_lanes p_phys p_cal p_coach p_ic p_host p_tw rAll
    | with_reducible refine within_pair ?_ (by assumption) | split

theorem bootCores_within (h : Within P R s0 s) (p_ic : P .ic) : Within P R s0 (bootCores x1 s) := by
  unfold bootCores; try dsimp only
  repeat' first
    | with_reducible assumption | with_reducible refine updCore_within ?_ p_ic
    | with_reducible refine within_pair ?_ (by assumption) | split

theorem bootComplete_within (h : Within P R s0 s) (p_mem : P .mem) (p_merger : P .merger) (p_safety : P .safety)
    (p_router : P .router) (p_drawbar : P .drawbar) (p_slots : P .slots) (p_lanes : P .lanes) (p_phys : P .phys)
    (p_cal : P .cal) (p_coach : P .coach) (p_ic : P .ic) (p_nvm : P .nvm) (p_enclave : P .enclave) (p_host : P .host)
    (p_tw : P .tw) (rAll : ∀ r, R r) : Within P R s0 (bootComplete s) := by
  unfold bootComplete; try dsimp only
  repeat' first
    | with_reducible assumption | with_reducible refine State.setReg_within ?_ (rAll _)
    | with_reducible refine almanac_within ?_ p_safety
    | with_reducible refine fstat_within ?_ p_safety p_ic p_tw (rAll _)
    | with_reducible refine loadSettings_within ?_ p_mem rAll | with_reducible refine bootEntry_within ?_ p_safety
    | with_reducible refine updNvm_within ?_ p_nvm
    | with_reducible refine bootConsist_within ?_ p_mem p_merger p_safety p_router p_drawbar
                        p_slots p_lanes p_phys p_cal p_coach p_ic p_host p_tw rAll
    | with_reducible refine bootCores_within ?_ p_ic | with_reducible refine bootWindow_within ?_ (rAll _) (rAll _)
    | with_reducible refine interrupted_within ?_ p_safety p_nvm (rAll _)
    | with_reducible refine within_foldl (fun _ _ h => ?_) ?_
    | with_reducible refine within_foldl_snd (fun _ _ h => ?_) ?_
    | with_reducible refine within_foldl_fst (fun _ _ h => ?_) ?_
    | with_reducible refine within_pair ?_ (by assumption) | split
    | (simp only [within_mk]
       refine WithinMk.intro ?_ rfl rfl rfl rfl (h_merger := .inl p_merger) (h_safety := .inl p_safety) (h_router :=
           .inl p_router) (h_drawbar := .inl p_drawbar) (h_slots := .inl p_slots) (h_lanes := .inl p_lanes) (h_phys :=
           .inl p_phys) (h_cal := .inl p_cal) (h_coach := .inl p_coach) (h_ic := .inl p_ic) (h_nvm := .inl p_nvm)
           (h_enclave := .inl p_enclave) (h_host := .inl p_host) (h_tw := .inl p_tw))

end Sys2Proof.Machine
end

