-- ==== Sys2Proof/Laws/WithinEnclave.lean ====
section
/-! SUPPORT. What each operation of Machine/Enclave.lean can change: one lemma per operation (see Laws/WithinOps.lean). -/
namespace Sys2Proof.Machine
set_option Elab.async false

set_option linter.unusedVariables false
set_option linter.unusedSimpArgs false

variable {P : Part → Prop} {R : Reg → Prop} {s0 s t : State}

theorem updEnc_within (h : Within P R s0 s) (p_enclave : P .enclave) : Within P R s0 (updEnc x1 s) := by
  unfold updEnc; try dsimp only
  repeat' first
    | with_reducible assumption | with_reducible refine within_pair ?_ (by assumption) | split
    | (simp only [within_mk]
       refine WithinMk.intro ?_ rfl rfl rfl rfl (h_enclave := .inl p_enclave))

theorem certLost_within (h : Within P R s0 s) (p_safety : P .safety) : Within P R s0 (certLost x1 x2 s) := by
  unfold certLost; try dsimp only
  repeat' first
    | with_reducible assumption | with_reducible refine almanac_within ?_ p_safety
    | with_reducible refine within_pair ?_ (by assumption) | split

theorem keyCommand_within (h : Within P R s0 s) (p_safety : P .safety) (p_enclave : P .enclave) : Within P R s0
    (keyCommand x1 x2 x3 s).2 := by
  unfold keyCommand; try dsimp only
  repeat' first
    | with_reducible assumption | with_reducible refine almanac_within ?_ p_safety
    | with_reducible refine updEnc_within ?_ p_enclave | with_reducible refine within_pair ?_ (by assumption) | split

theorem encVerify_within (h : Within P R s0 s) : Within P R s0 (encVerify x1 s).2 := by
  unfold encVerify; try dsimp only
  repeat' first
    | with_reducible assumption | with_reducible refine within_pair ?_ (by assumption) | split

theorem encCmac_within (h : Within P R s0 s) (p_mem : P .mem) (r_nv_DIRTY : R (.nv .DIRTY)) : Within P R s0 (encCmac
    x1 s).2 := by
  unfold encCmac; try dsimp only
  repeat' first
    | with_reducible assumption | with_reducible refine storeSram_within ?_ p_mem r_nv_DIRTY
    | with_reducible refine within_pair ?_ (by assumption) | split

theorem encCtr_within (h : Within P R s0 s) (p_mem : P .mem) (r_nv_DIRTY : R (.nv .DIRTY)) : Within P R s0 (encCtr x1
    s).2 := by
  unfold encCtr; try dsimp only
  repeat' first
    | with_reducible assumption | with_reducible refine storeSram_within ?_ p_mem r_nv_DIRTY
    | with_reducible refine within_pair ?_ (by assumption) | split

theorem encRandom_within (h : Within P R s0 s) (p_mem : P .mem) (r_nv_DIRTY : R (.nv .DIRTY)) : Within P R s0
    (encRandom x1 s).2 := by
  unfold encRandom; try dsimp only
  repeat' first
    | with_reducible assumption | with_reducible refine storeSram_within ?_ p_mem r_nv_DIRTY
    | with_reducible refine freeBytes_within ?_ | with_reducible refine within_pair ?_ (by assumption) | split

theorem encInfo_within (h : Within P R s0 s) (p_mem : P .mem) (r_nv_DIRTY : R (.nv .DIRTY)) : Within P R s0 (encInfo
    x1 s).2 := by
  unfold encInfo; try dsimp only
  repeat' first
    | with_reducible assumption | with_reducible refine storeSram_within ?_ p_mem r_nv_DIRTY
    | with_reducible refine within_pair ?_ (by assumption) | split

theorem encSetMin_within (h : Within P R s0 s) (p_enclave : P .enclave) : Within P R s0 (encSetMin x1 x2 s).2 := by
  unfold encSetMin; try dsimp only
  repeat' first
    | with_reducible assumption | with_reducible refine updEnc_within ?_ p_enclave
    | with_reducible refine within_pair ?_ (by assumption) | split

theorem encWinSet_within (h : Within P R s0 s) (p_safety : P .safety) (p_enclave : P .enclave)
    (r_hp_WIN : R (.hp .WIN)) : Within P R s0 (encWinSet x1 x2 s).2 := by
  unfold encWinSet; try dsimp only
  repeat' first
    | with_reducible assumption | with_reducible refine State.setReg_within ?_ (by assumption)
    | with_reducible refine certLost_within ?_ p_safety | with_reducible refine updEnc_within ?_ p_enclave
    | with_reducible refine within_foldl (fun _ _ h => ?_) ?_
    | with_reducible refine within_foldl_snd (fun _ _ h => ?_) ?_
    | with_reducible refine within_foldl_fst (fun _ _ h => ?_) ?_
    | with_reducible refine within_pair ?_ (by assumption) | split

theorem lifecycle_within (h : Within P R s0 s) (pAll : ∀ p, P p) (rAll : ∀ r, R r) : Within P R s0 (lifecycle x1 s) := by
  unfold lifecycle; try dsimp only
  repeat' first
    | with_reducible assumption | with_reducible refine almanac_within ?_ (pAll _)
    | with_reducible refine enclaveReset_within ?_ pAll rAll | with_reducible refine updEnc_within ?_ (pAll _)

theorem encDecommission_within (h : Within P R s0 s) : Within P R s0 (encDecommission x1 s).2 := by
  unfold encDecommission; try dsimp only
  repeat' first
    | with_reducible assumption | with_reducible refine within_pair ?_ (by assumption) | split

theorem encRun_within (h : Within P R s0 s) (p_mem : P .mem) (p_safety : P .safety) (p_enclave : P .enclave)
    (r_nv_DIRTY : R (.nv .DIRTY)) (r_hp_WIN : R (.hp .WIN)) : Within P R s0 (encRun x1 x2 s).2 := by
  unfold encRun; try dsimp only
  repeat' first
    | with_reducible assumption | with_reducible refine encCmac_within ?_ p_mem r_nv_DIRTY
    | with_reducible refine storeSram_within ?_ p_mem r_nv_DIRTY
    | with_reducible refine encSetMin_within ?_ p_enclave | with_reducible refine encCtr_within ?_ p_mem r_nv_DIRTY
    | with_reducible refine keyCommand_within ?_ p_safety p_enclave | with_reducible refine encVerify_within ?_
    | with_reducible refine encInfo_within ?_ p_mem r_nv_DIRTY
    | with_reducible refine encWinSet_within ?_ p_safety p_enclave r_hp_WIN
    | with_reducible refine encDecommission_within ?_ | with_reducible refine encRandom_within ?_ p_mem r_nv_DIRTY
    | with_reducible refine within_pair ?_ (by assumption) | split

theorem seCommand_within (h : Within P R s0 s) (p_safety : P .safety) (p_ic : P .ic) (p_enclave : P .enclave)
    (p_tw : P .tw) (r_se_STAT : R (.se .STAT)) : Within P R s0 (seCommand x1 x2 s) := by
  unfold seCommand; try dsimp only
  repeat' first
    | with_reducible assumption | with_reducible refine State.orReg_within ?_ p_safety p_ic p_tw (by assumption)
    | with_reducible refine updEnc_within ?_ p_enclave | with_reducible refine within_pair ?_ (by assumption) | split

theorem mailboxDone_within (h : Within P R s0 s) (pAll : ∀ p, P p) (rAll : ∀ r, R r) : Within P R s0 (mailboxDone x1
    s) := by
  unfold mailboxDone; try dsimp only
  repeat' first
    | with_reducible assumption | with_reducible refine lifecycle_within ?_ pAll rAll
    | with_reducible refine encRun_within ?_ (pAll _) (pAll _) (pAll _) (rAll _) (rAll _)
    | with_reducible refine State.orReg_within ?_ (pAll _) (pAll _) (pAll _) (rAll _)
    | with_reducible refine updEnc_within ?_ (pAll _) | with_reducible refine within_pair ?_ (by assumption) | split

theorem debugChallenge_within (h : Within P R s0 s) (p_enclave : P .enclave) : Within P R s0 (debugChallenge s) := by
  unfold debugChallenge; try dsimp only
  repeat' first
    | with_reducible assumption | with_reducible refine freeBytes_within ?_
    | with_reducible refine updEnc_within ?_ p_enclave | with_reducible refine within_pair ?_ (by assumption) | split

theorem debugResponse_within (h : Within P R s0 s) (p_safety : P .safety) (p_enclave : P .enclave) : Within P R s0
    (debugResponse x1 x2 s) := by
  unfold debugResponse; try dsimp only
  repeat' first
    | with_reducible assumption | with_reducible refine almanac_within ?_ p_safety
    | with_reducible refine certLost_within ?_ p_safety | with_reducible refine updEnc_within ?_ p_enclave
    | with_reducible refine within_pair ?_ (by assumption) | split

theorem entropyFail_within (h : Within P R s0 s) (p_safety : P .safety) (p_ic : P .ic) (p_enclave : P .enclave)
    (p_tw : P .tw) (r_al_FSTAT : R (.al .FSTAT)) : Within P R s0 (entropyFail x1 s) := by
  unfold entropyFail; try dsimp only
  repeat' first
    | with_reducible assumption | with_reducible refine almanac_within ?_ p_safety
    | with_reducible refine fstat_within ?_ p_safety p_ic p_tw r_al_FSTAT
    | with_reducible refine updEnc_within ?_ p_enclave | with_reducible refine within_pair ?_ (by assumption) | split

theorem enclaveTrip_within (h : Within P R s0 s) (pAll : ∀ p, P p) (rAll : ∀ r, R r) : Within P R s0 (enclaveTrip x1
    s) := by
  unfold enclaveTrip; try dsimp only
  repeat' first
    | with_reducible assumption | with_reducible refine almanac_within ?_ (pAll _)
    | with_reducible refine fstat_within ?_ (pAll _) (pAll _) (pAll _) (rAll _)
    | with_reducible refine enclaveReset_within ?_ pAll rAll | with_reducible refine updEnc_within ?_ (pAll _)
    | with_reducible refine within_pair ?_ (by assumption) | split
    | (simp only [within_mk]
       refine WithinMk.intro ?_ rfl rfl rfl rfl (h_acc := .inl (pAll _)) (h_clk := .inl (pAll _)) (h_merger := .inl
           (pAll _)) (h_safety := .inl (pAll _)) (h_router := .inl (pAll _)) (h_timers := .inl (pAll _)) (h_drawbar :=
           .inl (pAll _)) (h_slots := .inl (pAll _)) (h_loop := .inl (pAll _)) (h_prRun := .inl (pAll _)) (h_homing :=
           .inl (pAll _)) (h_lanes := .inl (pAll _)) (h_phys := .inl (pAll _)) (h_cal := .inl (pAll _)) (h_coach := .inl
           (pAll _)) (h_sensor := .inl (pAll _)) (h_ic := .inl (pAll _)) (h_power := .inl (pAll _)) (h_nvm := .inl (pAll
           _)) (h_enclave := .inl (pAll _)) (h_host := .inl (pAll _)) (h_tw := .inl (pAll _)))

theorem secctlWrite_within (h : Within P R s0 s) (p_safety : P .safety) (p_ic : P .ic) (p_tw : P .tw)
    (r_se_SECCTL : R (.se .SECCTL)) : Within P R s0 (secctlWrite x1 x2 s) := by
  unfold secctlWrite; try dsimp only
  repeat' first
    | with_reducible assumption | with_reducible refine State.orReg_within ?_ p_safety p_ic p_tw (by assumption)
    | with_reducible refine within_pair ?_ (by assumption) | split

theorem seWrite_within (h : Within P R s0 s) (p_safety : P .safety) (p_ic : P .ic) (p_enclave : P .enclave)
    (p_tw : P .tw) (r_se_STAT : R (.se .STAT)) (r_se_BUFA : R (.se .BUFA)) (r_se_DEST : R (.se .DEST))
    (r_se_ARG : R (.se .ARG)) (r_se_SECCTL : R (.se .SECCTL)) : Within P R s0 (seWrite x1 x2 x3 s) := by
  unfold seWrite; try dsimp only
  repeat' first
    | with_reducible assumption | with_reducible refine State.plainWrite_within ?_ (by assumption)
    | with_reducible refine seCommand_within ?_ p_safety p_ic p_enclave p_tw r_se_STAT
    | with_reducible refine secctlWrite_within ?_ p_safety p_ic p_tw r_se_SECCTL
    | with_reducible refine within_pair ?_ (by assumption) | split

end Sys2Proof.Machine
end

