-- ==== Sys2Proof/Laws/WithinWake.lean ====
section
/-! SUPPORT. What each operation of Machine/Wake.lean can change: one lemma per operation (see Laws/WithinOps.lean). -/
namespace Sys2Proof.Machine
set_option Elab.async false

set_option linter.unusedVariables false
set_option linter.unusedSimpArgs false

variable {P : Part → Prop} {R : Reg → Prop} {s0 s t : State}

theorem updPower_within (h : Within P R s0 s) (p_power : P .power) : Within P R s0 (updPower x1 s) := by
  unfold updPower; try dsimp only
  repeat' first
    | with_reducible assumption | with_reducible refine within_pair ?_ (by assumption) | split
    | (simp only [within_mk]
       refine WithinMk.intro ?_ rfl rfl rfl rfl (h_power := .inl p_power))

theorem updMon_within (h : Within P R s0 s) (p_power : P .power) : Within P R s0 (updMon x1 s) := by
  unfold updMon; try dsimp only
  repeat' first
    | with_reducible assumption | with_reducible refine updPower_within ?_ p_power

theorem wakeIsDue_within (h : Within P R s0 s) (p_power : P .power) : Within P R s0 (wakeIsDue x1 s) := by
  unfold wakeIsDue; try dsimp only
  repeat' first
    | with_reducible assumption | with_reducible refine updPower_within ?_ p_power
    | with_reducible refine within_pair ?_ (by assumption) | split

theorem vaneWakes_within (h : Within P R s0 s) (p_ic : P .ic) : Within P R s0 (vaneWakes s) := by
  unfold vaneWakes; try dsimp only
  repeat' first
    | with_reducible assumption | with_reducible refine updCore_within ?_ p_ic
    | with_reducible refine within_pair ?_ (by assumption) | split

theorem wakeAsserts_within (h : Within P R s0 s) (p_safety : P .safety) (p_ic : P .ic) (p_power : P .power)
    (p_tw : P .tw) (r_vn_WSTAT : R (.vn .WSTAT)) : Within P R s0 (wakeAsserts x1 s) := by
  unfold wakeAsserts; try dsimp only
  repeat' first
    | with_reducible assumption | with_reducible refine vaneWakes_within ?_ p_ic
    | with_reducible refine wakeIsDue_within ?_ p_power
    | with_reducible refine State.orReg_within ?_ p_safety p_ic p_tw (by assumption)
    | with_reducible refine within_pair ?_ (by assumption) | split

theorem wakeEdge_within (h : Within P R s0 s) (p_safety : P .safety) (p_ic : P .ic) (p_power : P .power)
    (p_tw : P .tw) (r_vn_WSTAT : R (.vn .WSTAT)) : Within P R s0 (wakeEdge x1 s) := by
  unfold wakeEdge; try dsimp only
  repeat' first
    | with_reducible assumption | with_reducible refine wakeAsserts_within ?_ p_safety p_ic p_power p_tw r_vn_WSTAT
    | with_reducible refine setLatch_within ?_ p_ic | with_reducible refine within_pair ?_ (by assumption) | split

theorem levelsFrom_within (h : Within P R s0 s) (p_safety : P .safety) (p_ic : P .ic) (p_power : P .power)
    (p_tw : P .tw) (r_vn_WSTAT : R (.vn .WSTAT)) : Within P R s0 (levelsFrom x1 s) := by
  unfold levelsFrom; try dsimp only
  repeat' first
    | with_reducible assumption | with_reducible refine updPower_within ?_ p_power
    | with_reducible refine arrive_within ?_ p_ic
    | with_reducible refine wakeAsserts_within ?_ p_safety p_ic p_power p_tw r_vn_WSTAT
    | with_reducible refine within_foldl (fun _ _ h => ?_) ?_
    | with_reducible refine within_foldl_snd (fun _ _ h => ?_) ?_
    | with_reducible refine within_foldl_fst (fun _ _ h => ?_) ?_
    | with_reducible refine within_pair ?_ (by assumption) | split

theorem wakePinChange_within (h : Within P R s0 s) (p_safety : P .safety) (p_ic : P .ic) (p_power : P .power)
    (p_tw : P .tw) (r_vn_WSTAT : R (.vn .WSTAT)) : Within P R s0 (wakePinChange x1 x2 s) := by
  unfold wakePinChange; try dsimp only
  repeat' first
    | with_reducible assumption | with_reducible refine updPower_within ?_ p_power
    | with_reducible refine wakeEdge_within ?_ p_safety p_ic p_power p_tw r_vn_WSTAT
    | with_reducible refine levelsFrom_within ?_ p_safety p_ic p_power p_tw r_vn_WSTAT
    | with_reducible refine within_pair ?_ (by assumption) | split

theorem rtcAlarm_within (h : Within P R s0 s) (p_safety : P .safety) (p_ic : P .ic) (p_power : P .power)
    (p_tw : P .tw) (r_vn_WSTAT : R (.vn .WSTAT)) : Within P R s0 (rtcAlarm s) := by
  unfold rtcAlarm; try dsimp only
  repeat' first
    | with_reducible assumption | with_reducible refine wakeAsserts_within ?_ p_safety p_ic p_power p_tw r_vn_WSTAT
    | with_reducible refine within_pair ?_ (by assumption) | split

theorem wakeLatchSet_within (h : Within P R s0 s) (p_safety : P .safety) (p_ic : P .ic) (p_power : P .power)
    (p_tw : P .tw) (r_vn_WSTAT : R (.vn .WSTAT)) : Within P R s0 (wakeLatchSet x1 s) := by
  unfold wakeLatchSet; try dsimp only
  repeat' first
    | with_reducible assumption | with_reducible refine wakeEdge_within ?_ p_safety p_ic p_power p_tw r_vn_WSTAT
    | with_reducible refine within_pair ?_ (by assumption) | split

theorem wakeCfgWrite_within (h : Within P R s0 s) (p_safety : P .safety) (p_ic : P .ic) (p_power : P .power)
    (p_tw : P .tw) (r_vn_WAKECFG : R (.vn .WAKECFG)) (r_vn_WSTAT : R (.vn .WSTAT)) : Within P R s0 (wakeCfgWrite x1 s) := by
  unfold wakeCfgWrite; try dsimp only
  repeat' first
    | with_reducible assumption | with_reducible refine updSource_within ?_ p_ic
    | with_reducible refine State.plainWrite_within ?_ (by assumption)
    | with_reducible refine levelsFrom_within ?_ p_safety p_ic p_power p_tw r_vn_WSTAT
    | with_reducible refine within_foldl (fun _ _ h => ?_) ?_
    | with_reducible refine within_foldl_snd (fun _ _ h => ?_) ?_
    | with_reducible refine within_foldl_fst (fun _ _ h => ?_) ?_
    | with_reducible refine within_pair ?_ (by assumption) | split

theorem captureEdge_within (h : Within P R s0 s) (p_safety : P .safety) (p_ic : P .ic) (p_power : P .power)
    (p_tw : P .tw) (r_vn_CAPCNT : R (.vn .CAPCNT)) (r_vn_WSTAT : R (.vn .WSTAT)) : Within P R s0 (captureEdge x1 x2 s) := by
  unfold captureEdge; try dsimp only
  repeat' first
    | with_reducible assumption | with_reducible refine State.countFld_within ?_ (by assumption)
    | with_reducible refine wakeEdge_within ?_ p_safety p_ic p_power p_tw r_vn_WSTAT
    | with_reducible refine within_pair ?_ (by assumption) | split

theorem logPut_within (h : Within P R s0 s) (p_mem : P .mem) (p_safety : P .safety) (p_ic : P .ic)
    (p_power : P .power) (p_tw : P .tw) (r_vn_MONSTAT : R (.vn .MONSTAT)) : Within P R s0 (logPut x1 x2 x3 s) := by
  unfold logPut; try dsimp only
  repeat' first
    | with_reducible assumption | with_reducible refine State.writeWords_within ?_ p_mem
    | with_reducible refine State.orReg_within ?_ p_safety p_ic p_tw (by assumption)
    | with_reducible refine updMon_within ?_ p_power | with_reducible refine within_pair ?_ (by assumption) | split

theorem logScan_within (h : Within P R s0 s) (p_mem : P .mem) (p_safety : P .safety) (p_ic : P .ic)
    (p_power : P .power) (p_tw : P .tw) (r_vn_MONSTAT : R (.vn .MONSTAT)) : Within P R s0 (logScan s) := by
  unfold logScan; try dsimp only
  repeat' first
    | with_reducible assumption
    | with_reducible refine logPut_within ?_ p_mem p_safety p_ic p_power p_tw r_vn_MONSTAT
    | with_reducible refine updMon_within ?_ p_power | with_reducible refine within_foldl (fun _ _ h => ?_) ?_
    | with_reducible refine within_foldl_snd (fun _ _ h => ?_) ?_
    | with_reducible refine within_foldl_fst (fun _ _ h => ?_) ?_
    | with_reducible refine within_pair ?_ (by assumption) | split

theorem monitorScan_within (h : Within P R s0 s) (p_mem : P .mem) (p_safety : P .safety) (p_ic : P .ic)
    (p_power : P .power) (p_tw : P .tw) (r_vn_MONSTAT : R (.vn .MONSTAT)) (r_vn_WSTAT : R (.vn .WSTAT)) : Within P R
    s0 (monitorScan x1 s) := by
  unfold monitorScan; try dsimp only
  repeat' first
    | with_reducible assumption
    | with_reducible refine logScan_within ?_ p_mem p_safety p_ic p_power p_tw r_vn_MONSTAT
    | with_reducible refine wakeAsserts_within ?_ p_safety p_ic p_power p_tw r_vn_WSTAT
    | with_reducible refine updMon_within ?_ p_power | with_reducible refine within_foldl (fun _ _ h => ?_) ?_
    | with_reducible refine within_foldl_snd (fun _ _ h => ?_) ?_
    | with_reducible refine within_foldl_fst (fun _ _ h => ?_) ?_
    | with_reducible refine within_pair ?_ (by assumption) | split

theorem monitorStart_within (h : Within P R s0 s) (p_safety : P .safety) (p_ic : P .ic) (p_power : P .power)
    (p_tw : P .tw) (r_vn_MONSTAT : R (.vn .MONSTAT)) : Within P R s0 (monitorStart s) := by
  unfold monitorStart; try dsimp only
  repeat' first
    | with_reducible assumption | with_reducible refine State.orReg_within ?_ p_safety p_ic p_tw (by assumption)
    | with_reducible refine updMon_within ?_ p_power | with_reducible refine within_pair ?_ (by assumption) | split

theorem noteLogRead_within (h : Within P R s0 s) (p_power : P .power) : Within P R s0 (noteLogRead x1 s) := by
  unfold noteLogRead; try dsimp only
  repeat' first
    | with_reducible assumption | with_reducible refine updMon_within ?_ p_power
    | with_reducible refine within_pair ?_ (by assumption) | split

theorem vnRead_within (h : Within P R s0 s) (r_vn_ALARMH : R (.vn .ALARMH)) : Within P R s0 (vnRead x1 x2 x3 s).2 := by
  unfold vnRead; try dsimp only
  repeat' first
    | with_reducible assumption | with_reducible refine State.setReg_within ?_ (by assumption)
    | with_reducible refine within_pair ?_ (by assumption) | split

theorem vnPlain_within (h : Within P R s0 s) (p_safety : P .safety) (p_ic : P .ic) (p_power : P .power) (p_tw : P .tw)
    (r_vn_WAKECFG : R (.vn .WAKECFG)) (r_vn_WSTAT : R (.vn .WSTAT)) (r_vn_ALARMH : R (.vn .ALARMH))
    (r_vn_ALARML : R (.vn .ALARML)) (r_vn_MONCFG : R (.vn .MONCFG)) (r_vn_CH : R (.vn .CH)) (r_vn_THR : R (.vn .THR))
    (r_vn_CAPCFG : R (.vn .CAPCFG)) (r_vn_WAKEEN : R (.vn .WAKEEN)) (r_vn_IEN : R (.vn .IEN))
    (r_vn_MONSTAT : R (.vn .MONSTAT)) (r_vn_CTRL : R (.vn .CTRL)) : Within P R s0 (vnPlain x1 x2 x3 x4 s) := by
  unfold vnPlain; try dsimp only
  repeat' first
    | with_reducible assumption | with_reducible refine State.setReg_within ?_ (by assumption)
    | with_reducible refine vaneWakes_within ?_ p_ic
    | with_reducible refine State.plainWrite_within ?_ (by assumption)
    | with_reducible refine wakeCfgWrite_within ?_ p_safety p_ic p_power p_tw r_vn_WAKECFG r_vn_WSTAT
    | with_reducible refine levelsFrom_within ?_ p_safety p_ic p_power p_tw r_vn_WSTAT
    | with_reducible refine within_pair ?_ (by assumption) | split

end Sys2Proof.Machine
end

