-- ==== Sys2Proof/Laws/WithinPower.lean ====
section
/-! SUPPORT. What each operation of Machine/Power.lean can change: one lemma per operation (see Laws/WithinOps.lean). -/
namespace Sys2Proof.Machine
set_option Elab.async false

set_option linter.unusedVariables false
set_option linter.unusedSimpArgs false

variable {P : Part → Prop} {R : Reg → Prop} {s0 s t : State}

theorem takeAnswer_within (h : Within P R s0 s) (p_power : P .power) : Within P R s0 (takeAnswer s x1) := by
  unfold takeAnswer; try dsimp only
  repeat' first
    | with_reducible assumption | with_reducible refine updPower_within ?_ p_power

theorem sampleBlocks_within (h : Within P R s0 s) (p_mem : P .mem) (p_merger : P .merger) (p_safety : P .safety)
    (p_router : P .router) (p_lanes : P .lanes) (p_coach : P .coach) (p_ic : P .ic) (p_power : P .power)
    (p_tw : P .tw) (r_ln_LAST : R (.ln .LAST)) (r_cw_TAPOVR : R (.cw .TAPOVR)) (r_rk_STAT : R (.rk .STAT))
    (r_rk_LATE : R (.rk .LATE)) (r_rk_OVCNT : R (.rk .OVCNT)) (r_rk_CnSTAT : R (.rk .CnSTAT)) : Within P R s0
    (sampleBlocks s) := by
  unfold sampleBlocks; try dsimp only
  repeat' first
    | with_reducible assumption
    | with_reducible refine parkLane_within ?_ p_merger p_safety p_lanes p_coach p_ic p_tw r_ln_LAST r_cw_TAPOVR
    | with_reducible refine flushRecords_within ?_ p_mem p_merger p_safety p_router p_ic p_tw
                        r_rk_STAT r_rk_LATE r_rk_OVCNT r_rk_CnSTAT
    | with_reducible refine takeAnswer_within ?_ p_power | with_reducible refine within_foldl (fun _ _ h => ?_) ?_
    | with_reducible refine within_foldl_snd (fun _ _ h => ?_) ?_
    | with_reducible refine within_foldl_fst (fun _ _ h => ?_) ?_
    | with_reducible refine within_pair ?_ (by assumption) | split

theorem resumeBlocks_within (h : Within P R s0 s) (p_merger : P .merger) (p_safety : P .safety) (p_router : P .router)
    (p_drawbar : P .drawbar) (p_slots : P .slots) (p_lanes : P .lanes) (p_phys : P .phys) (p_cal : P .cal)
    (p_coach : P .coach) (p_ic : P .ic) (p_power : P .power) (p_host : P .host) (p_tw : P .tw)
    (r_ca_STAT : R (.ca .STAT)) (r_ca_LTEMP : R (.ca .LTEMP)) (r_ca_RUN : R (.ca .RUN)) (r_ln_STAT : R (.ln .STAT))
    (r_al_FSTAT : R (.al .FSTAT)) (r_ln_FAULTS : R (.ln .FAULTS)) (r_rk_STAT : R (.rk .STAT))
    (r_cw_TFAULT : R (.cw .TFAULT)) (r_cw_LDSTAT : R (.cw .LDSTAT)) (r_ds_EVENTS : R (.ds .EVENTS))
    (r_db_LSTAT : R (.db .LSTAT)) : Within P R s0 (resumeBlocks s) := by
  unfold resumeBlocks; try dsimp only
  repeat' first
    | with_reducible assumption | with_reducible refine updPower_within ?_ p_power
    | with_reducible refine updBus_within ?_ p_drawbar | with_reducible refine testsDue_within ?_ p_phys
    | with_reducible refine restartLane_within ?_ p_merger p_safety p_router p_drawbar p_slots
                        p_lanes p_phys p_cal p_coach p_ic p_host p_tw r_ca_STAT r_ca_LTEMP r_ca_RUN r_ln_STAT
                        r_al_FSTAT r_ln_FAULTS r_rk_STAT r_cw_TFAULT r_cw_LDSTAT r_ds_EVENTS r_db_LSTAT
    | with_reducible refine within_foldl (fun _ _ h => ?_) ?_
    | with_reducible refine within_foldl_snd (fun _ _ h => ?_) ?_
    | with_reducible refine within_foldl_fst (fun _ _ h => ?_) ?_
    | with_reducible refine within_pair ?_ (by assumption) | split

theorem abortEntry_within (h : Within P R s0 s) (p_merger : P .merger) (p_safety : P .safety) (p_router : P .router)
    (p_drawbar : P .drawbar) (p_slots : P .slots) (p_lanes : P .lanes) (p_phys : P .phys) (p_cal : P .cal)
    (p_coach : P .coach) (p_ic : P .ic) (p_power : P .power) (p_host : P .host) (p_tw : P .tw)
    (r_pw_STAT : R (.pw .STAT)) (r_ca_STAT : R (.ca .STAT)) (r_ca_LTEMP : R (.ca .LTEMP)) (r_ca_RUN : R (.ca .RUN))
    (r_ln_STAT : R (.ln .STAT)) (r_al_FSTAT : R (.al .FSTAT)) (r_ln_FAULTS : R (.ln .FAULTS))
    (r_rk_STAT : R (.rk .STAT)) (r_cw_TFAULT : R (.cw .TFAULT)) (r_cw_LDSTAT : R (.cw .LDSTAT))
    (r_ds_EVENTS : R (.ds .EVENTS)) (r_db_LSTAT : R (.db .LSTAT)) : Within P R s0 (abortEntry x1 x2 s) := by
  unfold abortEntry; try dsimp only
  repeat' first
    | with_reducible assumption | with_reducible refine updPower_within ?_ p_power
    | with_reducible refine State.setFld_within ?_ (by assumption)
    | with_reducible refine resumeBlocks_within ?_ p_merger p_safety p_router p_drawbar p_slots
                        p_lanes p_phys p_cal p_coach p_ic p_power p_host p_tw r_ca_STAT r_ca_LTEMP r_ca_RUN
                        r_ln_STAT r_al_FSTAT r_ln_FAULTS r_rk_STAT r_cw_TFAULT r_cw_LDSTAT r_ds_EVENTS r_db_LSTAT
    | with_reducible refine State.orReg_within ?_ p_safety p_ic p_tw (by assumption)

theorem commitEntry_within (h : Within P R s0 s) (p_mem : P .mem) (p_safety : P .safety) (p_power : P .power)
    (r_al_WIDX : R (.al .WIDX)) (r_al_COUNT : R (.al .COUNT)) : Within P R s0 (commitEntry s) := by
  unfold commitEntry; try dsimp only
  repeat' first
    | with_reducible assumption | with_reducible refine updPower_within ?_ p_power
    | with_reducible refine almanacCompact_within ?_ p_mem p_safety r_al_WIDX r_al_COUNT
    | with_reducible refine within_pair ?_ (by assumption) | split

theorem handshakeRefuse_within (h : Within P R s0 s) (p_mem : P .mem) (p_merger : P .merger) (p_safety : P .safety)
    (p_router : P .router) (p_drawbar : P .drawbar) (p_slots : P .slots) (p_lanes : P .lanes) (p_phys : P .phys)
    (p_cal : P .cal) (p_coach : P .coach) (p_ic : P .ic) (p_power : P .power) (p_host : P .host) (p_tw : P .tw)
    (r_ln_LAST : R (.ln .LAST)) (r_cw_TAPOVR : R (.cw .TAPOVR)) (r_rk_STAT : R (.rk .STAT))
    (r_rk_LATE : R (.rk .LATE)) (r_rk_OVCNT : R (.rk .OVCNT)) (r_rk_CnSTAT : R (.rk .CnSTAT))
    (r_pw_STAT : R (.pw .STAT)) (r_ca_STAT : R (.ca .STAT)) (r_ca_LTEMP : R (.ca .LTEMP)) (r_ca_RUN : R (.ca .RUN))
    (r_ln_STAT : R (.ln .STAT)) (r_al_FSTAT : R (.al .FSTAT)) (r_ln_FAULTS : R (.ln .FAULTS))
    (r_cw_TFAULT : R (.cw .TFAULT)) (r_cw_LDSTAT : R (.cw .LDSTAT)) (r_ds_EVENTS : R (.ds .EVENTS))
    (r_db_LSTAT : R (.db .LSTAT)) : Within P R s0 (handshakeRefuse s) := by
  unfold handshakeRefuse; try dsimp only
  repeat' first
    | with_reducible assumption
    | with_reducible refine sampleBlocks_within ?_ p_mem p_merger p_safety p_router p_lanes
                        p_coach p_ic p_power p_tw r_ln_LAST r_cw_TAPOVR r_rk_STAT r_rk_LATE r_rk_OVCNT r_rk_CnSTAT
    | with_reducible refine abortEntry_within ?_ p_merger p_safety p_router p_drawbar p_slots
                        p_lanes p_phys p_cal p_coach p_ic p_power p_host p_tw r_pw_STAT r_ca_STAT r_ca_LTEMP
                        r_ca_RUN r_ln_STAT r_al_FSTAT r_ln_FAULTS r_rk_STAT r_cw_TFAULT r_cw_LDSTAT r_ds_EVENTS
                        r_db_LSTAT
    | with_reducible refine within_pair ?_ (by assumption) | split

theorem handshakeCommit_within (h : Within P R s0 s) (p_mem : P .mem) (p_merger : P .merger) (p_safety : P .safety)
    (p_router : P .router) (p_lanes : P .lanes) (p_coach : P .coach) (p_ic : P .ic) (p_power : P .power)
    (p_tw : P .tw) (r_ln_LAST : R (.ln .LAST)) (r_cw_TAPOVR : R (.cw .TAPOVR)) (r_rk_STAT : R (.rk .STAT))
    (r_rk_LATE : R (.rk .LATE)) (r_rk_OVCNT : R (.rk .OVCNT)) (r_rk_CnSTAT : R (.rk .CnSTAT))
    (r_al_WIDX : R (.al .WIDX)) (r_al_COUNT : R (.al .COUNT)) : Within P R s0 (handshakeCommit s) := by
  unfold handshakeCommit; try dsimp only
  repeat' first
    | with_reducible assumption
    | with_reducible refine sampleBlocks_within ?_ p_mem p_merger p_safety p_router p_lanes
                        p_coach p_ic p_power p_tw r_ln_LAST r_cw_TAPOVR r_rk_STAT r_rk_LATE r_rk_OVCNT r_rk_CnSTAT
    | with_reducible refine commitEntry_within ?_ p_mem p_safety p_power r_al_WIDX r_al_COUNT
    | with_reducible refine within_pair ?_ (by assumption) | split

theorem handshakeTimeout_within (h : Within P R s0 s) (p_mem : P .mem) (p_merger : P .merger) (p_safety : P .safety)
    (p_router : P .router) (p_drawbar : P .drawbar) (p_slots : P .slots) (p_lanes : P .lanes) (p_phys : P .phys)
    (p_cal : P .cal) (p_coach : P .coach) (p_ic : P .ic) (p_power : P .power) (p_host : P .host) (p_tw : P .tw)
    (r_ln_LAST : R (.ln .LAST)) (r_cw_TAPOVR : R (.cw .TAPOVR)) (r_rk_STAT : R (.rk .STAT))
    (r_rk_LATE : R (.rk .LATE)) (r_rk_OVCNT : R (.rk .OVCNT)) (r_rk_CnSTAT : R (.rk .CnSTAT))
    (r_pw_STAT : R (.pw .STAT)) (r_ca_STAT : R (.ca .STAT)) (r_ca_LTEMP : R (.ca .LTEMP)) (r_ca_RUN : R (.ca .RUN))
    (r_ln_STAT : R (.ln .STAT)) (r_al_FSTAT : R (.al .FSTAT)) (r_ln_FAULTS : R (.ln .FAULTS))
    (r_cw_TFAULT : R (.cw .TFAULT)) (r_cw_LDSTAT : R (.cw .LDSTAT)) (r_ds_EVENTS : R (.ds .EVENTS))
    (r_db_LSTAT : R (.db .LSTAT)) : Within P R s0 (handshakeTimeout s) := by
  unfold handshakeTimeout; try dsimp only
  repeat' first
    | with_reducible assumption
    | with_reducible refine sampleBlocks_within ?_ p_mem p_merger p_safety p_router p_lanes
                        p_coach p_ic p_power p_tw r_ln_LAST r_cw_TAPOVR r_rk_STAT r_rk_LATE r_rk_OVCNT r_rk_CnSTAT
    | with_reducible refine abortEntry_within ?_ p_merger p_safety p_router p_drawbar p_slots
                        p_lanes p_phys p_cal p_coach p_ic p_power p_host p_tw r_pw_STAT r_ca_STAT r_ca_LTEMP
                        r_ca_RUN r_ln_STAT r_al_FSTAT r_ln_FAULTS r_rk_STAT r_cw_TFAULT r_cw_LDSTAT r_ds_EVENTS
                        r_db_LSTAT
    | with_reducible refine within_pair ?_ (by assumption) | split

theorem setFloor_within (h : Within P R s0 s) (p_ic : P .ic) (p_power : P .power) : Within P R s0 (setFloor x1 s) := by
  unfold setFloor; try dsimp only
  repeat' first
    | with_reducible assumption | with_reducible refine updPower_within ?_ p_power
    | with_reducible refine startCores_within ?_ p_ic | with_reducible refine within_pair ?_ (by assumption) | split

theorem startHandshake_within (h : Within P R s0 s) (p_power : P .power) : Within P R s0 (startHandshake x1 x2 s) := by
  unfold startHandshake; try dsimp only
  repeat' first
    | with_reducible assumption | with_reducible refine updPower_within ?_ p_power

theorem freshRequest_within (h : Within P R s0 s) (p_merger : P .merger) (p_safety : P .safety) (p_router : P .router)
    (p_drawbar : P .drawbar) (p_slots : P .slots) (p_lanes : P .lanes) (p_phys : P .phys) (p_cal : P .cal)
    (p_coach : P .coach) (p_ic : P .ic) (p_power : P .power) (p_host : P .host) (p_tw : P .tw)
    (r_ca_STAT : R (.ca .STAT)) (r_ca_LTEMP : R (.ca .LTEMP)) (r_ca_RUN : R (.ca .RUN)) (r_ln_STAT : R (.ln .STAT))
    (r_al_FSTAT : R (.al .FSTAT)) (r_ln_FAULTS : R (.ln .FAULTS)) (r_rk_STAT : R (.rk .STAT))
    (r_cw_TFAULT : R (.cw .TFAULT)) (r_cw_LDSTAT : R (.cw .LDSTAT)) (r_ds_EVENTS : R (.ds .EVENTS))
    (r_db_LSTAT : R (.db .LSTAT)) : Within P R s0 (freshRequest x1 x2 s) := by
  unfold freshRequest; try dsimp only
  repeat' first
    | with_reducible assumption | with_reducible refine startHandshake_within ?_ p_power
    | with_reducible refine setFloor_within ?_ p_ic p_power | with_reducible refine updPower_within ?_ p_power
    | with_reducible refine resumeBlocks_within ?_ p_merger p_safety p_router p_drawbar p_slots
                        p_lanes p_phys p_cal p_coach p_ic p_power p_host p_tw r_ca_STAT r_ca_LTEMP r_ca_RUN
                        r_ln_STAT r_al_FSTAT r_ln_FAULTS r_rk_STAT r_cw_TFAULT r_cw_LDSTAT r_ds_EVENTS r_db_LSTAT
    | with_reducible refine within_pair ?_ (by assumption) | split

theorem collapse_within (h : Within P R s0 s) (p_safety : P .safety) (p_ic : P .ic) (p_tw : P .tw)
    (r_pw_STAT : R (.pw .STAT)) : Within P R s0 (collapse s) := by
  unfold collapse; try dsimp only
  repeat' first
    | with_reducible assumption | with_reducible refine State.orReg_within ?_ p_safety p_ic p_tw (by assumption)

theorem powerRequest_within (h : Within P R s0 s) (p_merger : P .merger) (p_safety : P .safety) (p_router : P .router)
    (p_drawbar : P .drawbar) (p_slots : P .slots) (p_lanes : P .lanes) (p_phys : P .phys) (p_cal : P .cal)
    (p_coach : P .coach) (p_ic : P .ic) (p_power : P .power) (p_host : P .host) (p_tw : P .tw)
    (r_ca_STAT : R (.ca .STAT)) (r_ca_LTEMP : R (.ca .LTEMP)) (r_ca_RUN : R (.ca .RUN)) (r_ln_STAT : R (.ln .STAT))
    (r_al_FSTAT : R (.al .FSTAT)) (r_ln_FAULTS : R (.ln .FAULTS)) (r_rk_STAT : R (.rk .STAT))
    (r_cw_TFAULT : R (.cw .TFAULT)) (r_cw_LDSTAT : R (.cw .LDSTAT)) (r_ds_EVENTS : R (.ds .EVENTS))
    (r_db_LSTAT : R (.db .LSTAT)) (r_pw_STAT : R (.pw .STAT)) : Within P R s0 (powerRequest x1 s) := by
  unfold powerRequest; try dsimp only
  repeat' first
    | with_reducible assumption | with_reducible refine updPower_within ?_ p_power
    | with_reducible refine State.setFld_within ?_ (by assumption)
    | with_reducible refine freshRequest_within ?_ p_merger p_safety p_router p_drawbar p_slots
                        p_lanes p_phys p_cal p_coach p_ic p_power p_host p_tw r_ca_STAT r_ca_LTEMP r_ca_RUN
                        r_ln_STAT r_al_FSTAT r_ln_FAULTS r_rk_STAT r_cw_TFAULT r_cw_LDSTAT r_ds_EVENTS r_db_LSTAT
    | with_reducible refine collapse_within ?_ p_safety p_ic p_tw r_pw_STAT
    | with_reducible refine within_pair ?_ (by assumption) | split

theorem pwReqWrite_within (h : Within P R s0 s) (p_merger : P .merger) (p_safety : P .safety) (p_router : P .router)
    (p_drawbar : P .drawbar) (p_slots : P .slots) (p_lanes : P .lanes) (p_phys : P .phys) (p_cal : P .cal)
    (p_coach : P .coach) (p_ic : P .ic) (p_power : P .power) (p_host : P .host) (p_tw : P .tw)
    (r_ca_STAT : R (.ca .STAT)) (r_ca_LTEMP : R (.ca .LTEMP)) (r_ca_RUN : R (.ca .RUN)) (r_ln_STAT : R (.ln .STAT))
    (r_al_FSTAT : R (.al .FSTAT)) (r_ln_FAULTS : R (.ln .FAULTS)) (r_rk_STAT : R (.rk .STAT))
    (r_cw_TFAULT : R (.cw .TFAULT)) (r_cw_LDSTAT : R (.cw .LDSTAT)) (r_ds_EVENTS : R (.ds .EVENTS))
    (r_db_LSTAT : R (.db .LSTAT)) (r_pw_STAT : R (.pw .STAT)) : Within P R s0 (pwReqWrite x1 x2 s) := by
  unfold pwReqWrite; try dsimp only
  repeat' first
    | with_reducible assumption
    | with_reducible refine powerRequest_within ?_ p_merger p_safety p_router p_drawbar p_slots
                        p_lanes p_phys p_cal p_coach p_ic p_power p_host p_tw r_ca_STAT r_ca_LTEMP r_ca_RUN
                        r_ln_STAT r_al_FSTAT r_ln_FAULTS r_rk_STAT r_cw_TFAULT r_cw_LDSTAT r_ds_EVENTS r_db_LSTAT
                        r_pw_STAT
    | with_reducible refine within_pair ?_ (by assumption) | split

theorem noteWake_within (h : Within P R s0 s) (p_safety : P .safety) (p_ic : P .ic) (p_tw : P .tw)
    (r_pw_WAKE : R (.pw .WAKE)) : Within P R s0 (noteWake x1 s) := by
  unfold noteWake; try dsimp only
  repeat' first
    | with_reducible assumption | with_reducible refine State.orReg_within ?_ p_safety p_ic p_tw (by assumption)

theorem vnCtrlWrite_within (h : Within P R s0 s) (p_merger : P .merger) (p_safety : P .safety) (p_router : P .router)
    (p_drawbar : P .drawbar) (p_slots : P .slots) (p_lanes : P .lanes) (p_phys : P .phys) (p_cal : P .cal)
    (p_coach : P .coach) (p_ic : P .ic) (p_power : P .power) (p_host : P .host) (p_tw : P .tw) (rAll : ∀ r, R r) :
    Within P R s0 (vnCtrlWrite x1 x2 s) := by
  unfold vnCtrlWrite; try dsimp only
  repeat' first
    | with_reducible assumption | with_reducible refine updPower_within ?_ p_power
    | with_reducible refine vnPlain_within ?_ p_safety p_ic p_power p_tw (rAll _) (rAll _) (rAll
                        _) (rAll _) (rAll _) (rAll _) (rAll _) (rAll _) (rAll _) (rAll _) (rAll _) (rAll _)
    | with_reducible refine powerRequest_within ?_ p_merger p_safety p_router p_drawbar p_slots
                        p_lanes p_phys p_cal p_coach p_ic p_power p_host p_tw (rAll _) (rAll _) (rAll _) (rAll _)
                        (rAll _) (rAll _) (rAll _) (rAll _) (rAll _) (rAll _) (rAll _) (rAll _)
    | with_reducible refine noteWake_within ?_ p_safety p_ic p_tw (rAll _)
    | with_reducible refine within_pair ?_ (by assumption) | split

theorem vnWrite_within (h : Within P R s0 s) (p_merger : P .merger) (p_safety : P .safety) (p_router : P .router)
    (p_drawbar : P .drawbar) (p_slots : P .slots) (p_lanes : P .lanes) (p_phys : P .phys) (p_cal : P .cal)
    (p_coach : P .coach) (p_ic : P .ic) (p_power : P .power) (p_host : P .host) (p_tw : P .tw) (rAll : ∀ r, R r) :
    Within P R s0 (vnWrite x1 x2 x3 x4 s) := by
  unfold vnWrite; try dsimp only
  repeat' first
    | with_reducible assumption
    | with_reducible refine vnCtrlWrite_within ?_ p_merger p_safety p_router p_drawbar p_slots
                        p_lanes p_phys p_cal p_coach p_ic p_power p_host p_tw rAll
    | with_reducible refine vnPlain_within ?_ p_safety p_ic p_power p_tw (rAll _) (rAll _) (rAll
                        _) (rAll _) (rAll _) (rAll _) (rAll _) (rAll _) (rAll _) (rAll _) (rAll _) (rAll _)
    | with_reducible refine within_pair ?_ (by assumption) | split

theorem latchPads_within (h : Within P R s0 s) (p_power : P .power) : Within P R s0 (latchPads s) := by
  unfold latchPads; try dsimp only
  repeat' first
    | with_reducible assumption | with_reducible refine updPower_within ?_ p_power

theorem releasePads_within (h : Within P R s0 s) (p_power : P .power) : Within P R s0 (releasePads x1 s) := by
  unfold releasePads; try dsimp only
  repeat' first
    | with_reducible assumption | with_reducible refine updPower_within ?_ p_power

theorem dropBanks_within (h : Within P R s0 s) (p_mem : P .mem) (p_power : P .power) : Within P R s0 (dropBanks s) := by
  unfold dropBanks; try dsimp only
  repeat' first
    | with_reducible assumption | with_reducible refine State.eraseRange_within ?_ p_mem
    | with_reducible refine updPower_within ?_ p_power | with_reducible refine within_foldl (fun _ _ h => ?_) ?_
    | with_reducible refine within_foldl_snd (fun _ _ h => ?_) ?_
    | with_reducible refine within_foldl_fst (fun _ _ h => ?_) ?_
    | with_reducible refine within_pair ?_ (by assumption) | split

theorem dropCoach_within (h : Within P R s0 s) (p_mem : P .mem) (p_coach : P .coach) : Within P R s0 (dropCoach s) := by
  unfold dropCoach; try dsimp only
  repeat' first
    | with_reducible assumption | with_reducible refine updCoach_within ?_ p_coach
    | with_reducible refine State.eraseRange_within ?_ p_mem

theorem queuedAtLull_within (h : Within P R s0 s) (p_merger : P .merger) (p_safety : P .safety) (p_router : P .router)
    (p_drawbar : P .drawbar) (p_slots : P .slots) (p_lanes : P .lanes) (p_phys : P .phys) (p_cal : P .cal)
    (p_coach : P .coach) (p_ic : P .ic) (p_power : P .power) (p_host : P .host) (p_tw : P .tw)
    (r_ca_STAT : R (.ca .STAT)) (r_ca_LTEMP : R (.ca .LTEMP)) (r_ca_RUN : R (.ca .RUN)) (r_ln_STAT : R (.ln .STAT))
    (r_al_FSTAT : R (.al .FSTAT)) (r_ln_FAULTS : R (.ln .FAULTS)) (r_rk_STAT : R (.rk .STAT))
    (r_cw_TFAULT : R (.cw .TFAULT)) (r_cw_LDSTAT : R (.cw .LDSTAT)) (r_ds_EVENTS : R (.ds .EVENTS))
    (r_db_LSTAT : R (.db .LSTAT)) (r_pw_STAT : R (.pw .STAT)) (r_pw_WAKE : R (.pw .WAKE)) : Within P R s0
    (queuedAtLull s) := by
  unfold queuedAtLull; try dsimp only
  repeat' first
    | with_reducible assumption | with_reducible refine updPower_within ?_ p_power
    | with_reducible refine powerRequest_within ?_ p_merger p_safety p_router p_drawbar p_slots
                        p_lanes p_phys p_cal p_coach p_ic p_power p_host p_tw r_ca_STAT r_ca_LTEMP r_ca_RUN
                        r_ln_STAT r_al_FSTAT r_ln_FAULTS r_rk_STAT r_cw_TFAULT r_cw_LDSTAT r_ds_EVENTS r_db_LSTAT
                        r_pw_STAT
    | with_reducible refine noteWake_within ?_ p_safety p_ic p_tw r_pw_WAKE
    | with_reducible refine within_pair ?_ (by assumption) | split

theorem lullEntered_within (h : Within P R s0 s) (p_mem : P .mem) (p_clk : P .clk) (p_merger : P .merger)
    (p_safety : P .safety) (p_router : P .router) (p_drawbar : P .drawbar) (p_slots : P .slots) (p_lanes : P .lanes)
    (p_phys : P .phys) (p_cal : P .cal) (p_coach : P .coach) (p_sensor : P .sensor) (p_ic : P .ic)
    (p_power : P .power) (p_host : P .host) (p_tw : P .tw) (r_pw_STAT : R (.pw .STAT)) (r_vn_CAPCNT : R (.vn .CAPCNT))
    (r_vn_MONSTAT : R (.vn .MONSTAT)) (r_pw_WAKE : R (.pw .WAKE)) (r_ca_STAT : R (.ca .STAT))
    (r_ca_LTEMP : R (.ca .LTEMP)) (r_ca_RUN : R (.ca .RUN)) (r_ln_STAT : R (.ln .STAT)) (r_al_FSTAT : R (.al .FSTAT))
    (r_ln_FAULTS : R (.ln .FAULTS)) (r_rk_STAT : R (.rk .STAT)) (r_cw_TFAULT : R (.cw .TFAULT))
    (r_cw_LDSTAT : R (.cw .LDSTAT)) (r_ds_EVENTS : R (.ds .EVENTS)) (r_db_LSTAT : R (.db .LSTAT)) : Within P R s0
    (lullEntered s) := by
  unfold lullEntered; try dsimp only
  repeat' first
    | with_reducible assumption | with_reducible refine State.setReg_within ?_ (by assumption)
    | with_reducible refine dropCoach_within ?_ p_mem p_coach
    | with_reducible refine queuedAtLull_within ?_ p_merger p_safety p_router p_drawbar p_slots
                        p_lanes p_phys p_cal p_coach p_ic p_power p_host p_tw r_ca_STAT r_ca_LTEMP r_ca_RUN
                        r_ln_STAT r_al_FSTAT r_ln_FAULTS r_rk_STAT r_cw_TFAULT r_cw_LDSTAT r_ds_EVENTS r_db_LSTAT
                        r_pw_STAT r_pw_WAKE
    | with_reducible refine updPower_within ?_ p_power | with_reducible refine dropBanks_within ?_ p_mem p_power
    | with_reducible refine latchPads_within ?_ p_power
    | with_reducible refine State.setFld_within ?_ (by assumption)
    | with_reducible refine monitorStart_within ?_ p_safety p_ic p_power p_tw r_vn_MONSTAT
    | with_reducible refine spAcrossLull_within ?_ p_sensor
    | with_reducible refine noteWake_within ?_ p_safety p_ic p_tw r_pw_WAKE
    | with_reducible refine within_foldl (fun _ _ h => ?_) ?_
    | with_reducible refine within_foldl_snd (fun _ _ h => ?_) ?_
    | with_reducible refine within_foldl_fst (fun _ _ h => ?_) ?_
    | with_reducible refine within_pair ?_ (by assumption) | split
    | (simp only [within_mk]
       refine WithinMk.intro ?_ rfl rfl rfl rfl (h_clk := .inl p_clk) (h_merger := .inl p_merger) (h_safety := .inl
           p_safety) (h_router := .inl p_router) (h_drawbar := .inl p_drawbar) (h_slots := .inl p_slots) (h_lanes :=
           .inl p_lanes) (h_phys := .inl p_phys) (h_cal := .inl p_cal) (h_coach := .inl p_coach) (h_sensor := .inl
           p_sensor) (h_ic := .inl p_ic) (h_power := .inl p_power) (h_host := .inl p_host) (h_tw := .inl p_tw))

theorem lullExit_within (h : Within P R s0 s) (p_safety : P .safety) (p_ic : P .ic) (p_power : P .power)
    (p_tw : P .tw) (r_pw_WAKE : R (.pw .WAKE)) : Within P R s0 (lullExit s) := by
  unfold lullExit; try dsimp only
  repeat' first
    | with_reducible assumption | with_reducible refine updPower_within ?_ p_power
    | with_reducible refine noteWake_within ?_ p_safety p_ic p_tw r_pw_WAKE
    | with_reducible refine within_pair ?_ (by assumption) | split

theorem pllLocked_within (h : Within P R s0 s) (p_clk : P .clk) (p_power : P .power) : Within P R s0 (pllLocked s) := by
  unfold pllLocked; try dsimp only
  repeat' first
    | with_reducible assumption | with_reducible refine updPower_within ?_ p_power
    | with_reducible refine within_pair ?_ (by assumption) | split
    | (simp only [within_mk]
       refine WithinMk.intro ?_ rfl rfl rfl rfl (h_clk := .inl p_clk) (h_power := .inl p_power))

theorem coachReturn_within (h : Within P R s0 s) (p_mem : P .mem) (p_merger : P .merger) (p_safety : P .safety)
    (p_router : P .router) (p_drawbar : P .drawbar) (p_slots : P .slots) (p_coach : P .coach) (p_ic : P .ic)
    (p_tw : P .tw) (r_ds_EVENTS : R (.ds .EVENTS)) (r_db_LSTAT : R (.db .LSTAT)) (r_al_FSTAT : R (.al .FSTAT))
    (r_cw_LDSTAT : R (.cw .LDSTAT)) (r_cw_CACHE : R (.cw .CACHE)) : Within P R s0 (coachReturn s) := by
  unfold coachReturn; try dsimp only
  repeat' first
    | with_reducible assumption
    | with_reducible refine coachRestore_within ?_ p_mem p_merger p_safety p_router p_drawbar
                        p_slots p_coach p_ic p_tw r_ds_EVENTS r_db_LSTAT r_al_FSTAT r_cw_LDSTAT r_cw_CACHE
    | with_reducible refine within_pair ?_ (by assumption) | split

theorem reloadSettings_within (h : Within P R s0 s) (p_mem : P .mem) (rAll : ∀ r, R r) : Within P R s0 (reloadSettings
    s) := by
  unfold reloadSettings; try dsimp only
  repeat' first
    | with_reducible assumption | with_reducible refine State.eraseRange_within ?_ p_mem
    | with_reducible refine loadSettings_within ?_ p_mem rAll

theorem bankLost_within (h : Within P R s0 s) (p_mem : P .mem) (p_merger : P .merger) (p_safety : P .safety)
    (p_slots : P .slots) (p_ic : P .ic) (p_nvm : P .nvm) (p_tw : P .tw) (rAll : ∀ r, R r) : Within P R s0 (bankLost x1
    s) := by
  unfold bankLost; try dsimp only
  repeat' first
    | with_reducible assumption | with_reducible refine State.setReg_within ?_ (rAll _)
    | with_reducible refine State.eraseRange_within ?_ p_mem | with_reducible refine almanac_within ?_ p_safety
    | with_reducible refine updNvm_within ?_ p_nvm | with_reducible refine reloadSettings_within ?_ p_mem rAll
    | with_reducible refine almanacFlush_within ?_ p_mem p_safety (rAll _) (rAll _)
    | with_reducible refine queueLost_within ?_ p_merger p_safety p_ic p_tw (rAll _)
    | with_reducible refine within_pair ?_ (by assumption) | split
    | (simp only [within_mk]
       refine WithinMk.intro ?_ rfl rfl rfl rfl (h_merger := .inl p_merger) (h_safety := .inl p_safety) (h_slots :=
           .inl p_slots) (h_ic := .inl p_ic) (h_nvm := .inl p_nvm) (h_tw := .inl p_tw))

theorem unblock_within (h : Within P R s0 s) (p_power : P .power) : Within P R s0 (unblock x1 s) := by
  unfold unblock; try dsimp only
  repeat' first
    | with_reducible assumption | with_reducible refine updPower_within ?_ p_power

theorem retentionDone_within (h : Within P R s0 s) (p_mem : P .mem) (p_merger : P .merger) (p_safety : P .safety)
    (p_router : P .router) (p_drawbar : P .drawbar) (p_slots : P .slots) (p_coach : P .coach) (p_ic : P .ic)
    (p_power : P .power) (p_nvm : P .nvm) (p_tw : P .tw) (rAll : ∀ r, R r) : Within P R s0 (retentionDone x1 x2 x3 s) := by
  unfold retentionDone; try dsimp only
  repeat' first
    | with_reducible assumption | with_reducible refine almanac_within ?_ p_safety
    | with_reducible refine bankLost_within ?_ p_mem p_merger p_safety p_slots p_ic p_nvm p_tw rAll
    | with_reducible refine fstat_within ?_ p_safety p_ic p_tw (rAll _)
    | with_reducible refine unblock_within ?_ p_power
    | with_reducible refine State.orReg_within ?_ p_safety p_ic p_tw (rAll _)
    | with_reducible refine coachReturn_within ?_ p_mem p_merger p_safety p_router p_drawbar
                        p_slots p_coach p_ic p_tw (rAll _) (rAll _) (rAll _) (rAll _) (rAll _)
    | with_reducible refine reloadSettings_within ?_ p_mem rAll
    | with_reducible refine noteWake_within ?_ p_safety p_ic p_tw (rAll _)
    | with_reducible refine within_pair ?_ (by assumption) | split

theorem atBreeze_within (h : Within P R s0 s) (p_mem : P .mem) (p_merger : P .merger) (p_safety : P .safety)
    (p_router : P .router) (p_timers : P .timers) (p_drawbar : P .drawbar) (p_slots : P .slots) (p_phys : P .phys)
    (p_coach : P .coach) (p_ic : P .ic) (p_power : P .power) (p_tw : P .tw) (r_db_PHYFLG : R (.db .PHYFLG))
    (r_ds_EVENTS : R (.ds .EVENTS)) (r_db_LSTAT : R (.db .LSTAT)) (r_al_FSTAT : R (.al .FSTAT))
    (r_cw_LDSTAT : R (.cw .LDSTAT)) (r_cw_CACHE : R (.cw .CACHE)) : Within P R s0 (atBreeze s) := by
  unfold atBreeze; try dsimp only
  repeat' first
    | with_reducible assumption | with_reducible refine updCore_within ?_ p_ic
    | with_reducible refine updPower_within ?_ p_power | with_reducible refine releasePads_within ?_ p_power
    | with_reducible refine toListen_within ?_ p_drawbar
    | with_reducible refine State.orReg_within ?_ p_safety p_ic p_tw (by assumption)
    | with_reducible refine coachReturn_within ?_ p_mem p_merger p_safety p_router p_drawbar
                        p_slots p_coach p_ic p_tw r_ds_EVENTS r_db_LSTAT r_al_FSTAT r_cw_LDSTAT r_cw_CACHE
    | with_reducible refine updBus_within ?_ p_drawbar | with_reducible refine testsDue_within ?_ p_phys
    | with_reducible refine within_foldl (fun _ _ h => ?_) ?_
    | with_reducible refine within_foldl_snd (fun _ _ h => ?_) ?_
    | with_reducible refine within_foldl_fst (fun _ _ h => ?_) ?_
    | with_reducible refine within_pair ?_ (by assumption) | split
    | (simp only [within_mk]
       refine WithinMk.intro ?_ rfl rfl rfl rfl (h_merger := .inl p_merger) (h_safety := .inl p_safety) (h_router :=
           .inl p_router) (h_timers := .inl p_timers) (h_drawbar := .inl p_drawbar) (h_slots := .inl p_slots) (h_phys :=
           .inl p_phys) (h_coach := .inl p_coach) (h_ic := .inl p_ic) (h_power := .inl p_power) (h_tw := .inl p_tw))

theorem atCalmReset_within (h : Within P R s0 s) (p_safety : P .safety) (p_ic : P .ic) (p_nvm : P .nvm) (p_tw : P .tw)
    (rAll : ∀ r, R r) : Within P R s0 (atCalmReset s) := by
  unfold atCalmReset; try dsimp only
  repeat' first
    | with_reducible assumption | with_reducible refine setCause_within ?_ (rAll _)
    | with_reducible refine State.clrReg_within ?_ (rAll _) | with_reducible refine updNvm_within ?_ p_nvm
    | with_reducible refine loadFactory_within ?_ p_safety p_ic p_tw rAll
    | with_reducible refine noteWake_within ?_ p_safety p_ic p_tw (rAll _)
    | with_reducible refine within_pair ?_ (by assumption) | split
    | (simp only [within_mk]
       refine WithinMk.intro ?_ rfl rfl rfl rfl (h_safety := .inl p_safety) (h_ic := .inl p_ic) (h_nvm := .inl
           p_nvm) (h_tw := .inl p_tw))

theorem breezeReached_within (h : Within P R s0 s) (p_mem : P .mem) (p_merger : P .merger) (p_safety : P .safety)
    (p_router : P .router) (p_timers : P .timers) (p_drawbar : P .drawbar) (p_slots : P .slots) (p_lanes : P .lanes)
    (p_phys : P .phys) (p_cal : P .cal) (p_coach : P .coach) (p_ic : P .ic) (p_power : P .power) (p_nvm : P .nvm)
    (p_host : P .host) (p_tw : P .tw) (rAll : ∀ r, R r) : Within P R s0 (breezeReached s) := by
  unfold breezeReached; try dsimp only
  repeat' first
    | with_reducible assumption
    | with_reducible refine atBreeze_within ?_ p_mem p_merger p_safety p_router p_timers
                        p_drawbar p_slots p_phys p_coach p_ic p_power p_tw (rAll _) (rAll _) (rAll _) (rAll _) (rAll
                        _) (rAll _)
    | with_reducible refine updPower_within ?_ p_power
    | with_reducible refine State.orReg_within ?_ p_safety p_ic p_tw (rAll _)
    | with_reducible refine atCalmReset_within ?_ p_safety p_ic p_nvm p_tw rAll
    | with_reducible refine powerRequest_within ?_ p_merger p_safety p_router p_drawbar p_slots
                        p_lanes p_phys p_cal p_coach p_ic p_power p_host p_tw (rAll _) (rAll _) (rAll _) (rAll _)
                        (rAll _) (rAll _) (rAll _) (rAll _) (rAll _) (rAll _) (rAll _) (rAll _)
    | with_reducible refine updMon_within ?_ p_power | with_reducible refine within_pair ?_ (by assumption) | split

theorem stampHandover_within (h : Within P R s0 s) (p_clk : P .clk) (p_merger : P .merger) (p_safety : P .safety) (p_router : P .router) (p_drawbar : P .drawbar) (p_slots : P .slots) (p_lanes : P .lanes) (p_phys : P .phys) (p_cal : P .cal) (p_coach : P .coach) (p_ic : P .ic) (p_power : P .power) (p_host : P .host) (p_tw : P .tw) (r_ca_STAT : R (.ca .STAT)) (r_ca_LTEMP : R (.ca .LTEMP)) (r_ca_RUN : R (.ca .RUN)) (r_ln_STAT : R (.ln .STAT)) (r_al_FSTAT : R (.al .FSTAT)) (r_ln_FAULTS : R (.ln .FAULTS)) (r_rk_STAT : R (.rk .STAT)) (r_cw_TFAULT : R (.cw .TFAULT)) (r_cw_LDSTAT : R (.cw .LDSTAT)) (r_ds_EVENTS : R (.ds .EVENTS)) (r_db_LSTAT : R (.db .LSTAT)) : Within P R s0 (stampHandover s) := by
  unfold stampHandover
  split
  · rename_i hb
    have k : Within P R s0 { s with clk := { s.clk with
        bus := s.clk.vane
        source := .bus
        handoverDue := false } } := by
      simp only [within_mk]
      exact WithinMk.intro h rfl rfl rfl rfl (hc := fun x => ⟨fun e => absurd e (by simp [hb.2.1]), x.acc, x.phase⟩)
        (h_clk := .inl p_clk)
    dsimp only
    repeat' first
      | with_reducible exact k | with_reducible refine updPower_within ?_ p_power | with_reducible refine updMerger_within ?_ p_merger
      | with_reducible refine restartLane_within ?_ p_merger p_safety p_router p_drawbar p_slots p_lanes p_phys p_cal p_coach p_ic p_host p_tw r_ca_STAT r_ca_LTEMP r_ca_RUN r_ln_STAT r_al_FSTAT r_ln_FAULTS r_rk_STAT r_cw_TFAULT r_cw_LDSTAT r_ds_EVENTS r_db_LSTAT
      | with_reducible refine within_foldl (fun _ _ h => ?_) ?_ | with_reducible assumption | split
  · exact h

theorem calmEntered_within (h : Within P R s0 s) (pAll : ∀ p, P p) (rAll : ∀ r, R r) : Within P R s0 (calmEntered s) := by
  unfold calmEntered; try dsimp only
  repeat' first
    | with_reducible assumption | with_reducible refine State.setReg_within ?_ (rAll _)
    | with_reducible refine almanacTail_within ?_ (pAll _) | with_reducible refine latchPads_within ?_ (pAll _)
    | with_reducible refine afterReset_within ?_ pAll rAll
    | with_reducible refine noteWake_within ?_ (pAll _) (pAll _) (pAll _) (rAll _)
    | with_reducible refine within_pair ?_ (by assumption) | split
    | (simp only [within_mk]
       refine WithinMk.intro ?_ rfl rfl rfl rfl (h_acc := .inl (pAll _)) (h_clk := .inl (pAll _)) (h_merger := .inl
           (pAll _)) (h_safety := .inl (pAll _)) (h_router := .inl (pAll _)) (h_timers := .inl (pAll _)) (h_drawbar :=
           .inl (pAll _)) (h_slots := .inl (pAll _)) (h_loop := .inl (pAll _)) (h_prRun := .inl (pAll _)) (h_homing :=
           .inl (pAll _)) (h_lanes := .inl (pAll _)) (h_phys := .inl (pAll _)) (h_cal := .inl (pAll _)) (h_coach := .inl
           (pAll _)) (h_sensor := .inl (pAll _)) (h_ic := .inl (pAll _)) (h_power := .inl (pAll _)) (h_nvm := .inl (pAll
           _)) (h_enclave := .inl (pAll _)) (h_host := .inl (pAll _)) (h_tw := .inl (pAll _)))

theorem calmWake_within (h : Within P R s0 s) (p_safety : P .safety) (p_ic : P .ic) (p_power : P .power)
    (p_tw : P .tw) (r_pw_WAKE : R (.pw .WAKE)) : Within P R s0 (calmWake s) := by
  unfold calmWake; try dsimp only
  repeat' first
    | with_reducible assumption | with_reducible refine updCore_within ?_ p_ic
    | with_reducible refine updPower_within ?_ p_power
    | with_reducible refine noteWake_within ?_ p_safety p_ic p_tw r_pw_WAKE
    | with_reducible refine within_pair ?_ (by assumption) | split

theorem domainOff_within (h : Within P R s0 s) (p_mem : P .mem) (p_coach : P .coach) (p_power : P .power) : Within P R
    s0 (domainOff x1 s) := by
  unfold domainOff; try dsimp only
  repeat' first
    | with_reducible assumption | with_reducible refine dropCoach_within ?_ p_mem p_coach
    | with_reducible refine updPower_within ?_ p_power | with_reducible refine within_pair ?_ (by assumption) | split

theorem domainWake_within (h : Within P R s0 s) (p_drawbar : P .drawbar) (p_power : P .power) : Within P R s0
    (domainWake x1 s) := by
  unfold domainWake; try dsimp only
  repeat' first
    | with_reducible assumption | with_reducible refine updPower_within ?_ p_power
    | with_reducible refine phyEnable_within ?_ p_drawbar | with_reducible refine within_pair ?_ (by assumption)
    | split

theorem noteBusy_within (h : Within P R s0 s) (p_power : P .power) : Within P R s0 (noteBusy s) := by
  unfold noteBusy; try dsimp only
  repeat' first
    | with_reducible assumption | with_reducible refine updPower_within ?_ p_power

theorem clkWrite_within (h : Within P R s0 s) (r_pw_CLK : R (.pw .CLK)) : Within P R s0 (clkWrite x1 s) := by
  unfold clkWrite; try dsimp only
  repeat' first
    | with_reducible assumption | with_reducible refine State.clrReg_within ?_ (by assumption)
    | with_reducible refine State.plainWrite_within ?_ (by assumption)
    | with_reducible refine within_pair ?_ (by assumption) | split

theorem holdWrite_within (h : Within P R s0 s) (r_pw_HOLD : R (.pw .HOLD)) : Within P R s0 (holdWrite x1 x2 s) := by
  unfold holdWrite; try dsimp only
  repeat' first
    | with_reducible assumption | with_reducible refine State.setFld_within ?_ (by assumption)
    | with_reducible refine within_pair ?_ (by assumption) | split

theorem retcfgWrite_within (h : Within P R s0 s) (r_pw_RETCFG : R (.pw .RETCFG)) : Within P R s0 (retcfgWrite x1 s) := by
  unfold retcfgWrite; try dsimp only
  repeat' first
    | with_reducible assumption | with_reducible refine State.plainWrite_within ?_ (by assumption)
    | with_reducible refine within_pair ?_ (by assumption) | split

theorem pwRead_within (h : Within P R s0 s) (r_pw_STAMPH : R (.pw .STAMPH)) : Within P R s0 (pwRead x1 x2 s).2 := by
  unfold pwRead; try dsimp only
  repeat' first
    | with_reducible assumption | with_reducible refine State.free_within ?_
    | with_reducible refine snapshot_within ?_ (by assumption) | with_reducible refine within_pair ?_ (by assumption)
    | split

theorem pwWrite_within (h : Within P R s0 s) (p_merger : P .merger) (p_safety : P .safety) (p_router : P .router)
    (p_drawbar : P .drawbar) (p_slots : P .slots) (p_lanes : P .lanes) (p_phys : P .phys) (p_cal : P .cal)
    (p_coach : P .coach) (p_ic : P .ic) (p_power : P .power) (p_host : P .host) (p_tw : P .tw)
    (r_ca_STAT : R (.ca .STAT)) (r_ca_LTEMP : R (.ca .LTEMP)) (r_ca_RUN : R (.ca .RUN)) (r_ln_STAT : R (.ln .STAT))
    (r_al_FSTAT : R (.al .FSTAT)) (r_ln_FAULTS : R (.ln .FAULTS)) (r_rk_STAT : R (.rk .STAT))
    (r_cw_TFAULT : R (.cw .TFAULT)) (r_cw_LDSTAT : R (.cw .LDSTAT)) (r_ds_EVENTS : R (.ds .EVENTS))
    (r_db_LSTAT : R (.db .LSTAT)) (r_pw_STAT : R (.pw .STAT)) (r_pw_CTRL : R (.pw .CTRL)) (r_pw_CLK : R (.pw .CLK))
    (r_pw_HOLD : R (.pw .HOLD)) (r_pw_DOMCTL : R (.pw .DOMCTL)) (r_pw_RETCFG : R (.pw .RETCFG))
    (r_pw_RETSTAT : R (.pw .RETSTAT)) (r_pw_WAKE : R (.pw .WAKE)) : Within P R s0 (pwWrite x1 x2 x3 s) := by
  unfold pwWrite; try dsimp only
  repeat' first
    | with_reducible assumption | with_reducible refine holdWrite_within ?_ r_pw_HOLD
    | with_reducible refine releasePads_within ?_ p_power
    | with_reducible refine State.plainWrite_within ?_ (by assumption)
    | with_reducible refine clkWrite_within ?_ r_pw_CLK | with_reducible refine retcfgWrite_within ?_ r_pw_RETCFG
    | with_reducible refine pwReqWrite_within ?_ p_merger p_safety p_router p_drawbar p_slots
                        p_lanes p_phys p_cal p_coach p_ic p_power p_host p_tw r_ca_STAT r_ca_LTEMP r_ca_RUN
                        r_ln_STAT r_al_FSTAT r_ln_FAULTS r_rk_STAT r_cw_TFAULT r_cw_LDSTAT r_ds_EVENTS r_db_LSTAT
                        r_pw_STAT
    | with_reducible refine within_pair ?_ (by assumption) | split

end Sys2Proof.Machine
end

