-- ==== Sys2Proof/Laws/WithinHostRegs.lean ====
section
/-! SUPPORT. What each operation of Machine/HostRegs.lean can change: one lemma per operation (see Laws/WithinOps.lean). -/
namespace Sys2Proof.Machine
set_option Elab.async false

set_option linter.unusedVariables false
set_option linter.unusedSimpArgs false

variable {P : Part → Prop} {R : Reg → Prop} {s0 s t : State}

theorem updHost_within (h : Within P R s0 s) (p_host : P .host) : Within P R s0 (updHost x1 s) := by
  unfold updHost; try dsimp only
  repeat' first
    | with_reducible assumption | with_reducible refine within_pair ?_ (by assumption) | split
    | (simp only [within_mk]
       refine WithinMk.intro ?_ rfl rfl rfl rfl (h_host := .inl p_host))

theorem updTw_within (h : Within P R s0 s) (p_tw : P .tw) : Within P R s0 (updTw x1 s) := by
  unfold updTw; try dsimp only
  repeat' first
    | with_reducible assumption | with_reducible refine within_pair ?_ (by assumption) | split
    | (simp only [within_mk]
       refine WithinMk.intro ?_ rfl rfl rfl rfl (h_tw := .inl p_tw))

theorem closeSession_within (h : Within P R s0 s) (p_host : P .host) : Within P R s0 (closeSession s) := by
  unfold closeSession; try dsimp only
  repeat' first
    | with_reducible assumption | with_reducible refine updHost_within ?_ p_host

theorem hpCfgWrite_within (h : Within P R s0 s) (p_host : P .host) (p_tw : P .tw) (r_hp_CFG : R (.hp .CFG)) : Within P
    R s0 (hpCfgWrite x1 s) := by
  unfold hpCfgWrite; try dsimp only
  repeat' first
    | with_reducible assumption | with_reducible refine twNotice_within ?_ p_tw
    | with_reducible refine updHost_within ?_ p_host | with_reducible refine closeSession_within ?_ p_host
    | with_reducible refine State.plainWrite_within ?_ (by assumption)
    | with_reducible refine within_pair ?_ (by assumption) | split

theorem hpRead_within (h : Within P R s0 s) (r_hp_SYNCH : R (.hp .SYNCH)) (r_hp_FRAMES : R (.hp .FRAMES)) : Within P R
    s0 (hpRead x1 x2 x3 s).2 := by
  unfold hpRead; try dsimp only
  repeat' first
    | with_reducible assumption | with_reducible refine State.setReg_within ?_ (by assumption)
    | with_reducible refine State.readClear_within ?_ (by assumption)
    | with_reducible refine within_pair ?_ (by assumption) | split

theorem hpWrite_within (h : Within P R s0 s) (p_safety : P .safety) (p_ic : P .ic) (p_host : P .host) (p_tw : P .tw)
    (r_hp_CFG : R (.hp .CFG)) (r_hp_STAT : R (.hp .STAT)) (r_hp_NMASK : R (.hp .NMASK)) (r_hp_NSRC : R (.hp .NSRC))
    (r_hp_WIN : R (.hp .WIN)) : Within P R s0 (hpWrite x1 x2 x3 x4 s) := by
  unfold hpWrite; try dsimp only
  repeat' first
    | with_reducible assumption | with_reducible refine State.orReg_within ?_ p_safety p_ic p_tw (by assumption)
    | with_reducible refine State.plainWrite_within ?_ (by assumption)
    | with_reducible refine hpCfgWrite_within ?_ p_host p_tw r_hp_CFG
    | with_reducible refine within_pair ?_ (by assumption) | split

theorem twCfgWrite_within (h : Within P R s0 s) (p_tw : P .tw) (r_tw_CFG : R (.tw .CFG)) : Within P R s0 (twCfgWrite
    x1 s) := by
  unfold twCfgWrite; try dsimp only
  repeat' first
    | with_reducible assumption | with_reducible refine State.plainWrite_within ?_ (by assumption)
    | with_reducible refine updTw_within ?_ p_tw | with_reducible refine within_pair ?_ (by assumption) | split

theorem twRead_within (h : Within P R s0 s) (r_tw_NOTIFYLOST : R (.tw .NOTIFYLOST)) (r_tw_SYNCH : R (.tw .SYNCH)) :
    Within P R s0 (twRead x1 x2 s).2 := by
  unfold twRead; try dsimp only
  repeat' first
    | with_reducible assumption | with_reducible refine State.setReg_within ?_ (by assumption)
    | with_reducible refine State.readClear_within ?_ (by assumption)
    | with_reducible refine within_pair ?_ (by assumption) | split

theorem twWrite_within (h : Within P R s0 s) (p_safety : P .safety) (p_ic : P .ic) (p_tw : P .tw)
    (r_tw_CFG : R (.tw .CFG)) (r_tw_STAT : R (.tw .STAT)) (r_tw_TSU : R (.tw .TSU)) (r_tw_THD : R (.tw .THD))
    (r_tw_NCLK : R (.tw .NCLK)) (r_tw_NMASK : R (.tw .NMASK)) (r_tw_NSRC : R (.tw .NSRC)) (r_tw_BCFG : R (.tw .BCFG))
    : Within P R s0 (twWrite x1 x2 s) := by
  unfold twWrite; try dsimp only
  repeat' first
    | with_reducible assumption | with_reducible refine twCfgWrite_within ?_ p_tw r_tw_CFG
    | with_reducible refine twNotice_within ?_ p_tw
    | with_reducible refine State.orReg_within ?_ p_safety p_ic p_tw (by assumption)
    | with_reducible refine State.plainWrite_within ?_ (by assumption)
    | with_reducible refine within_pair ?_ (by assumption) | split

theorem portLoader_within (h : Within P R s0 s) (p_mem : P .mem) (p_merger : P .merger) (p_safety : P .safety)
    (p_router : P .router) (p_drawbar : P .drawbar) (p_slots : P .slots) (p_lanes : P .lanes) (p_phys : P .phys)
    (p_cal : P .cal) (p_coach : P .coach) (p_ic : P .ic) (p_host : P .host) (p_tw : P .tw)
    (r_cw_LDSTAT : R (.cw .LDSTAT)) (r_db_LSTAT : R (.db .LSTAT)) (r_ln_ENABLE : R (.ln .ENABLE))
    (r_ca_STAT : R (.ca .STAT)) (r_ca_LTEMP : R (.ca .LTEMP)) (r_ca_RUN : R (.ca .RUN)) (r_ln_STAT : R (.ln .STAT))
    (r_al_FSTAT : R (.al .FSTAT)) (r_ln_FAULTS : R (.ln .FAULTS)) (r_rk_STAT : R (.rk .STAT))
    (r_cw_TFAULT : R (.cw .TFAULT)) (r_ds_EVENTS : R (.ds .EVENTS)) : Within P R s0 (portLoader x1 x2 s) := by
  unfold portLoader; try dsimp only
  repeat' first
    | with_reducible assumption
    | with_reducible refine writeLdCmd_within ?_ p_mem p_merger p_safety p_router p_drawbar
                        p_slots p_lanes p_phys p_cal p_coach p_ic p_host p_tw r_cw_LDSTAT r_db_LSTAT r_ln_ENABLE
                        r_ca_STAT r_ca_LTEMP r_ca_RUN r_ln_STAT r_al_FSTAT r_ln_FAULTS r_rk_STAT r_cw_TFAULT
                        r_ds_EVENTS
    | with_reducible refine updLoader_within ?_ p_coach | with_reducible refine longOutcome_within ?_ p_host p_tw
    | with_reducible refine within_pair ?_ (by assumption) | split

theorem issueLong_within (h : Within P R s0 s) (p_mem : P .mem) (p_merger : P .merger) (p_safety : P .safety)
    (p_router : P .router) (p_drawbar : P .drawbar) (p_slots : P .slots) (p_lanes : P .lanes) (p_phys : P .phys)
    (p_cal : P .cal) (p_coach : P .coach) (p_ic : P .ic) (p_power : P .power) (p_nvm : P .nvm) (p_host : P .host)
    (p_tw : P .tw) (r_nv_STAT : R (.nv .STAT)) (r_nv_DIRTY : R (.nv .DIRTY)) (r_cw_LDSTAT : R (.cw .LDSTAT))
    (r_db_LSTAT : R (.db .LSTAT)) (r_ln_ENABLE : R (.ln .ENABLE)) (r_ca_STAT : R (.ca .STAT))
    (r_ca_LTEMP : R (.ca .LTEMP)) (r_ca_RUN : R (.ca .RUN)) (r_ln_STAT : R (.ln .STAT)) (r_al_FSTAT : R (.al .FSTAT))
    (r_ln_FAULTS : R (.ln .FAULTS)) (r_rk_STAT : R (.rk .STAT)) (r_cw_TFAULT : R (.cw .TFAULT))
    (r_ds_EVENTS : R (.ds .EVENTS)) : Within P R s0 (issueLong x1 x2 x3 s) := by
  unfold issueLong; try dsimp only
  repeat' first
    | with_reducible assumption
    | with_reducible refine nvStore_within ?_ p_safety p_slots p_ic p_power p_nvm p_host p_tw r_nv_STAT r_nv_DIRTY
    | with_reducible refine updHost_within ?_ p_host | with_reducible refine updTw_within ?_ p_tw
    | with_reducible refine portLoader_within ?_ p_mem p_merger p_safety p_router p_drawbar
                        p_slots p_lanes p_phys p_cal p_coach p_ic p_host p_tw r_cw_LDSTAT r_db_LSTAT r_ln_ENABLE
                        r_ca_STAT r_ca_LTEMP r_ca_RUN r_ln_STAT r_al_FSTAT r_ln_FAULTS r_rk_STAT r_cw_TFAULT
                        r_ds_EVENTS
    | with_reducible refine within_pair ?_ (by assumption) | split

theorem performIssues_within (h : Within P R s0 s) (p_mem : P .mem) (p_merger : P .merger) (p_safety : P .safety)
    (p_router : P .router) (p_drawbar : P .drawbar) (p_slots : P .slots) (p_lanes : P .lanes) (p_phys : P .phys)
    (p_cal : P .cal) (p_coach : P .coach) (p_ic : P .ic) (p_power : P .power) (p_nvm : P .nvm) (p_host : P .host)
    (p_tw : P .tw) (r_nv_STAT : R (.nv .STAT)) (r_nv_DIRTY : R (.nv .DIRTY)) (r_cw_LDSTAT : R (.cw .LDSTAT))
    (r_db_LSTAT : R (.db .LSTAT)) (r_ln_ENABLE : R (.ln .ENABLE)) (r_ca_STAT : R (.ca .STAT))
    (r_ca_LTEMP : R (.ca .LTEMP)) (r_ca_RUN : R (.ca .RUN)) (r_ln_STAT : R (.ln .STAT)) (r_al_FSTAT : R (.al .FSTAT))
    (r_ln_FAULTS : R (.ln .FAULTS)) (r_rk_STAT : R (.rk .STAT)) (r_cw_TFAULT : R (.cw .TFAULT))
    (r_ds_EVENTS : R (.ds .EVENTS)) : Within P R s0 (performIssues s) := by
  unfold performIssues; try dsimp only
  repeat' first
    | with_reducible assumption | with_reducible refine updHost_within ?_ p_host
    | with_reducible refine issueLong_within ?_ p_mem p_merger p_safety p_router p_drawbar
                        p_slots p_lanes p_phys p_cal p_coach p_ic p_power p_nvm p_host p_tw r_nv_STAT r_nv_DIRTY
                        r_cw_LDSTAT r_db_LSTAT r_ln_ENABLE r_ca_STAT r_ca_LTEMP r_ca_RUN r_ln_STAT r_al_FSTAT
                        r_ln_FAULTS r_rk_STAT r_cw_TFAULT r_ds_EVENTS
    | with_reducible refine updTw_within ?_ p_tw | with_reducible refine within_pair ?_ (by assumption) | split

theorem nvWrite_within (h : Within P R s0 s) (pAll : ∀ p, P p) (rAll : ∀ r, R r) : Within P R s0 (nvWrite x1 x2 x3 x4
    x5 s) := by
  unfold nvWrite; try dsimp only
  repeat' first
    | with_reducible assumption | with_reducible refine a1Start_within ?_ (pAll _)
    | with_reducible refine State.setReg_within ?_ (rAll _)
    | with_reducible refine nvCommand_within ?_ (pAll _) (pAll _) (pAll _) (pAll _) (pAll _)
                        (pAll _) (pAll _) (rAll _) (rAll _)
    | with_reducible refine sysrstWrite_within ?_ pAll rAll
    | with_reducible refine State.plainWrite_within ?_ (rAll _)
    | with_reducible refine within_pair ?_ (by assumption) | split

end Sys2Proof.Machine
end

