-- ==== Sys2Proof/Laws/WithinRegMap.lean ====
section
/-! SUPPORT. What each operation of Machine/RegMap.lean can change: one lemma per operation (see Laws/WithinOps.lean). -/
namespace Sys2Proof.Machine
set_option Elab.async false

set_option linter.unusedVariables false
set_option linter.unusedSimpArgs false

variable {P : Part → Prop} {R : Reg → Prop} {s0 s t : State}

theorem readReg_within (h : Within P R s0 s) (p_timers : P .timers) (p_ic : P .ic) (rAll : ∀ r, R r) : Within P R s0
    (readReg x1 x2 s).2 := by
  unfold readReg; try dsimp only
  repeat' first
    | with_reducible assumption | with_reducible refine lnRead_within ?_ (rAll _)
    | with_reducible refine dbRead_within ?_ (rAll _) (rAll _) (rAll _) | with_reducible refine icRead_within ?_ p_ic
    | with_reducible refine pwRead_within ?_ (rAll _) | with_reducible refine vnRead_within ?_ (rAll _)
    | with_reducible refine evRead_within ?_ (rAll _) (rAll _) | with_reducible refine nvRead_within ?_ (rAll _)
    | with_reducible refine dsRead_within ?_ (rAll _) (rAll _) | with_reducible refine caRead_within ?_
    | with_reducible refine twRead_within ?_ (rAll _) (rAll _)
    | with_reducible refine spRead_within ?_ (rAll _) (rAll _)
    | with_reducible refine cwRead_within ?_ (rAll _) (rAll _) (rAll _)
    | with_reducible refine rkRead_within ?_ (rAll _) (rAll _)
    | with_reducible refine tmRead_within ?_ p_timers (rAll _)
    | with_reducible refine hpRead_within ?_ (rAll _) (rAll _) | with_reducible refine within_pair ?_ (by assumption)
    | split

theorem writeReg_within (h : Within P R s0 s) (pAll : ∀ p, P p) (rAll : ∀ r, R r) : Within P R s0 (writeReg x1 x2 x3
    s) := by
  unfold writeReg; try dsimp only
  repeat' first
    | with_reducible assumption | with_reducible refine nvWrite_within ?_ pAll rAll
    | with_reducible refine spWrite_within ?_ (pAll _) (rAll _) (rAll _) (rAll _) (rAll _) (rAll
                        _) (rAll _) (rAll _) (rAll _) (rAll _) (rAll _) (rAll _) (rAll _) (rAll _)
    | with_reducible refine seWrite_within ?_ (pAll _) (pAll _) (pAll _) (pAll _) (rAll _) (rAll
                        _) (rAll _) (rAll _) (rAll _)
    | with_reducible refine dsWrite_within ?_ (pAll _) (pAll _) (pAll _) (pAll _) (pAll _) (pAll
                        _) (pAll _) (pAll _) (pAll _) (pAll _) (pAll _) (pAll _) rAll
    | with_reducible refine vnWrite_within ?_ (pAll _) (pAll _) (pAll _) (pAll _) (pAll _) (pAll
                        _) (pAll _) (pAll _) (pAll _) (pAll _) (pAll _) (pAll _) (pAll _) rAll
    | with_reducible refine lnWrite_within ?_ (pAll _) (pAll _) (pAll _) (pAll _) (pAll _) (pAll
                        _) (pAll _) (pAll _) (pAll _) (pAll _) (pAll _) (pAll _) (rAll _) (rAll _) (rAll _) (rAll _)
                        (rAll _) (rAll _) (rAll _) (rAll _) (rAll _) (rAll _) (rAll _) (rAll _) (rAll _) (rAll _)
                        (rAll _) (rAll _) (rAll _)
    | with_reducible refine pwWrite_within ?_ (pAll _) (pAll _) (pAll _) (pAll _) (pAll _) (pAll
                        _) (pAll _) (pAll _) (pAll _) (pAll _) (pAll _) (pAll _) (pAll _) (rAll _) (rAll _) (rAll _)
                        (rAll _) (rAll _) (rAll _) (rAll _) (rAll _) (rAll _) (rAll _) (rAll _) (rAll _) (rAll _)
                        (rAll _) (rAll _) (rAll _) (rAll _) (rAll _) (rAll _)
    | with_reducible refine tmWrite_within ?_ (pAll _) (pAll _) (pAll _) (pAll _) (pAll _) (pAll
                        _) (rAll _) (rAll _) (rAll _) (rAll _) (rAll _) (rAll _) (rAll _) (rAll _) (rAll _) (rAll _)
    | with_reducible refine caWrite_within ?_ (pAll _) (pAll _) (pAll _) (pAll _) (rAll _) (rAll
                        _) (rAll _) (rAll _) (rAll _) (rAll _) (rAll _)
    | with_reducible refine evWrite_within ?_ (pAll _) (pAll _) (pAll _) (pAll _) (rAll _) (rAll
                        _) (rAll _) (rAll _) (rAll _) (rAll _) (rAll _) (rAll _) (rAll _) (rAll _) (rAll _)
    | with_reducible refine rkWrite_within ?_ (pAll _) (pAll _) (pAll _) (pAll _) (pAll _) (rAll
                        _) (rAll _) (rAll _) (rAll _) (rAll _) (rAll _) (rAll _) (rAll _) (rAll _)
    | with_reducible refine alWrite_within ?_ (pAll _) (pAll _) (pAll _) (pAll _) rAll
    | with_reducible refine dbWrite_within ?_ (pAll _) (pAll _) (pAll _) (pAll _) (rAll _) (rAll
                        _) (rAll _) (rAll _) (rAll _) (rAll _) (rAll _) (rAll _) (rAll _) (rAll _) (rAll _) (rAll _)
                        (rAll _) (rAll _) (rAll _) (rAll _)
    | with_reducible refine icWrite_within ?_ (pAll _) (pAll _) (pAll _) (pAll _) rAll
    | with_reducible refine cwWrite_within ?_ (pAll _) (pAll _) (pAll _) (pAll _) (pAll _) (pAll
                        _) (pAll _) (pAll _) (pAll _) (pAll _) (pAll _) (pAll _) (pAll _) (rAll _) (rAll _) (rAll _)
                        (rAll _) (rAll _) (rAll _) (rAll _) (rAll _) (rAll _) (rAll _) (rAll _) (rAll _) (rAll _)
                        (rAll _) (rAll _) (rAll _)
    | with_reducible refine twWrite_within ?_ (pAll _) (pAll _) (pAll _) (rAll _) (rAll _) (rAll
                        _) (rAll _) (rAll _) (rAll _) (rAll _) (rAll _)
    | with_reducible refine hpWrite_within ?_ (pAll _) (pAll _) (pAll _) (pAll _) (rAll _) (rAll
                        _) (rAll _) (rAll _) (rAll _)
    | with_reducible refine within_pair ?_ (by assumption) | split

theorem performOne_within (h : Within P R s0 s) (pAll : ∀ p, P p) (rAll : ∀ r, R r) : Within P R s0 (performOne x1 s) := by
  unfold performOne; try dsimp only
  repeat' first
    | with_reducible assumption | with_reducible refine State.setReg_within ?_ (rAll _)
    | with_reducible refine writeReg_within ?_ pAll rAll | with_reducible refine within_pair ?_ (by assumption)
    | split

theorem performWaiting_within (h : Within P R s0 s) (pAll : ∀ p, P p) (rAll : ∀ r, R r) : Within P R s0
    (performWaiting s) := by
  unfold performWaiting; try dsimp only
  repeat' first
    | with_reducible assumption | with_reducible refine performOne_within ?_ pAll rAll
    | with_reducible refine performIssues_within ?_ (pAll _) (pAll _) (pAll _) (pAll _) (pAll _)
                        (pAll _) (pAll _) (pAll _) (pAll _) (pAll _) (pAll _) (pAll _) (pAll _) (pAll _) (pAll _)
                        (rAll _) (rAll _) (rAll _) (rAll _) (rAll _) (rAll _) (rAll _) (rAll _) (rAll _) (rAll _)
                        (rAll _) (rAll _) (rAll _) (rAll _)
    | with_reducible refine updPower_within ?_ (pAll _) | with_reducible refine within_foldl (fun _ _ h => ?_) ?_

theorem wakeBank_within (h : Within P R s0 s) (p_power : P .power) : Within P R s0 (wakeBank x1 x2 x3 s) := by
  unfold wakeBank; try dsimp only
  repeat' first
    | with_reducible assumption | with_reducible refine updPower_within ?_ p_power
    | with_reducible refine within_pair ?_ (by assumption) | split

theorem memBytes_within (h : Within P R s0 s) (p_power : P .power) : Within P R s0 (memBytes x1 x2 x3 x4 s).2 := by
  unfold memBytes; try dsimp only
  repeat' first
    | with_reducible assumption | with_reducible refine updPower_within ?_ p_power
    | with_reducible refine freeBytes_within ?_ | with_reducible refine noteLogRead_within ?_ p_power
    | with_reducible refine within_pair ?_ (by assumption) | split

theorem storeWrite_within (h : Within P R s0 s) (p_mem : P .mem) (p_safety : P .safety) (p_coach : P .coach)
    (p_ic : P .ic) (p_tw : P .tw) (r_cw_STAT : R (.cw .STAT)) : Within P R s0 (storeWrite x1 x2 x3 s) := by
  unfold storeWrite; try dsimp only
  repeat' first
    | with_reducible assumption
    | with_reducible refine diagWrite_within ?_ p_mem p_safety p_coach p_ic p_tw r_cw_STAT

theorem memWrite_within (h : Within P R s0 s) (p_mem : P .mem) (p_safety : P .safety) (p_coach : P .coach)
    (p_ic : P .ic) (p_tw : P .tw) (r_nv_DIRTY : R (.nv .DIRTY)) (r_cw_STAT : R (.cw .STAT)) : Within P R s0 (memWrite
    x1 x2 x3 x4 x5 s) := by
  unfold memWrite; try dsimp only
  repeat' first
    | with_reducible assumption
    | with_reducible refine storeWrite_within ?_ p_mem p_safety p_coach p_ic p_tw r_cw_STAT
    | with_reducible refine storeSram_within ?_ p_mem r_nv_DIRTY
    | with_reducible refine State.writeBytes_within ?_ p_mem | with_reducible refine within_pair ?_ (by assumption)
    | split

theorem busRead_within (h : Within P R s0 s) (p_acc : P .acc) (p_safety : P .safety) (p_timers : P .timers)
    (p_sensor : P .sensor) (p_ic : P .ic) (p_power : P .power) (p_tw : P .tw) (rAll : ∀ r, R r) : Within P R s0
    (busRead x1 x2 x3 s) := by
  unfold busRead; try dsimp only
  repeat' first
    | with_reducible assumption | with_reducible refine State.stall_within ?_ p_acc
    | with_reducible refine State.answer_within ?_ p_acc | with_reducible refine readReg_within ?_ p_timers p_ic rAll
    | with_reducible refine wakeBank_within ?_ p_power
    | with_reducible refine windowRead_within ?_ p_acc p_safety p_sensor p_ic p_tw (rAll _) (rAll _)
    | with_reducible refine regRead_within (fun _ h => ?_) ?_ p_acc
    | with_reducible refine memBytes_within ?_ p_power | with_reducible refine within_pair ?_ (by assumption) | split

theorem busWrite_within (h : Within P R s0 s) (pAll : ∀ p, P p) (rAll : ∀ r, R r) : Within P R s0 (busWrite x1 x2 x3
    x4 s) := by
  unfold busWrite; try dsimp only
  repeat' first
    | with_reducible assumption | with_reducible refine State.stall_within ?_ (pAll _)
    | with_reducible refine writeReg_within ?_ pAll rAll | with_reducible refine State.answer_within ?_ (pAll _)
    | with_reducible refine regWrite_within (fun _ _ h => ?_) ?_ (pAll _) (pAll _)
    | with_reducible refine memWrite_within ?_ (pAll _) (pAll _) (pAll _) (pAll _) (pAll _) (rAll _) (rAll _)
    | with_reducible refine wakeBank_within ?_ (pAll _)
    | with_reducible refine windowWrite_within ?_ (pAll _) (pAll _) (pAll _) (pAll _) (pAll _) (rAll _)
    | with_reducible refine within_pair ?_ (by assumption) | split

theorem stalledComplete_within (h : Within P R s0 s) (pAll : ∀ p, P p) (rAll : ∀ r, R r) : Within P R s0
    (stalledComplete x1 s) := by
  unfold stalledComplete; try dsimp only
  repeat' first
    | with_reducible assumption | with_reducible refine busWrite_within ?_ pAll rAll
    | with_reducible refine busRead_within ?_ (pAll _) (pAll _) (pAll _) (pAll _) (pAll _) (pAll _) (pAll _) rAll
    | with_reducible refine within_pair ?_ (by assumption) | split
    | (simp only [within_mk]
       refine WithinMk.intro ?_ rfl rfl rfl rfl (h_acc := .inl (pAll _)) (h_clk := .inl (pAll _)) (h_merger := .inl
           (pAll _)) (h_safety := .inl (pAll _)) (h_router := .inl (pAll _)) (h_timers := .inl (pAll _)) (h_drawbar :=
           .inl (pAll _)) (h_slots := .inl (pAll _)) (h_loop := .inl (pAll _)) (h_prRun := .inl (pAll _)) (h_homing :=
           .inl (pAll _)) (h_lanes := .inl (pAll _)) (h_phys := .inl (pAll _)) (h_cal := .inl (pAll _)) (h_coach := .inl
           (pAll _)) (h_sensor := .inl (pAll _)) (h_ic := .inl (pAll _)) (h_power := .inl (pAll _)) (h_nvm := .inl (pAll
           _)) (h_enclave := .inl (pAll _)) (h_host := .inl (pAll _)) (h_tw := .inl (pAll _)))

end Sys2Proof.Machine
end

