-- ==== Sys2Proof/Laws/WithinPorts.lean ====
section
/-! SUPPORT. What each operation of Machine/Ports.lean can change: one lemma per operation (see Laws/WithinOps.lean). -/
namespace Sys2Proof.Machine
set_option Elab.async false

set_option linter.unusedVariables false
set_option linter.unusedSimpArgs false

variable {P : Part → Prop} {R : Reg → Prop} {s0 s t : State}

theorem portRead_within (h : Within P R s0 s) (p_timers : P .timers) (p_ic : P .ic) (rAll : ∀ r, R r) : Within P R s0
    (portRead x1 x2 s).2 := by
  unfold portRead; try dsimp only
  repeat' first
    | with_reducible assumption | with_reducible refine readReg_within ?_ p_timers p_ic rAll
    | with_reducible refine within_pair ?_ (by assumption) | split

theorem portReads_within (h : Within P R s0 s) (p_timers : P .timers) (p_ic : P .ic) (rAll : ∀ r, R r) : Within P R s0 (portReads x1 x2 x3 x4 s).2 := by
  induction x3 generalizing s x4 with
  | zero => exact h
  | succ n ih =>
    rw [portReads]
    refine ih ?_
    split
    · exact portRead_within h p_timers p_ic rAll
    · exact h

theorem portWrite_within (h : Within P R s0 s) (pAll : ∀ p, P p) (rAll : ∀ r, R r) : Within P R s0 (portWrite x1 x2 x3
    s) := by
  unfold portWrite; try dsimp only
  repeat' first
    | with_reducible assumption | with_reducible refine busWrite_within ?_ pAll rAll
    | with_reducible refine postpone_within ?_ (pAll _) | with_reducible refine within_pair ?_ (by assumption)
    | split

theorem portWrites_within (h : Within P R s0 s) (pAll : ∀ p, P p) (rAll : ∀ r, R r) : Within P R s0 (portWrites x1 x2 x3 x4 s) := by
  induction x4 generalizing s x3 with
  | nil => exact h
  | cons w ws ih =>
    rw [portWrites]
    refine ih ?_
    split
    · exact portWrite_within h pAll rAll
    · exact h

theorem windowReads_within (h : Within P R s0 s) (p_timers : P .timers) (p_ic : P .ic) (rAll : ∀ r, R r) : Within P R
    s0 (windowReads x1 x2 x3 x4 s).2.2 := by
  unfold windowReads; try dsimp only
  repeat' first
    | with_reducible assumption | with_reducible refine portReads_within ?_ p_timers p_ic rAll
    | with_reducible refine within_pair ?_ (by assumption) | split

theorem windowWrites_within (h : Within P R s0 s) (pAll : ∀ p, P p) (rAll : ∀ r, R r) : Within P R s0 (windowWrites x1
    x2 x3 x4 s).2 := by
  unfold windowWrites; try dsimp only
  repeat' first
    | with_reducible assumption | with_reducible refine portWrites_within ?_ pAll rAll
    | with_reducible refine within_pair ?_ (by assumption) | split

theorem writeChunk_within (h : Within P R s0 s) (p_mem : P .mem) (r_cw_STGLEN : R (.cw .STGLEN))
    (r_nv_DIRTY : R (.nv .DIRTY)) : Within P R s0 (writeChunk x1 x2 s) := by
  unfold writeChunk; try dsimp only
  repeat' first
    | with_reducible assumption | with_reducible refine storeSram_within ?_ p_mem r_nv_DIRTY
    | with_reducible refine State.setFld_within ?_ (by assumption)

theorem chunkRun_within (h : Within P R s0 s) (p_mem : P .mem) (r_cw_STGLEN : R (.cw .STGLEN))
    (r_nv_DIRTY : R (.nv .DIRTY)) : Within P R s0 (chunkRun x1 x2 s).2 := by
  unfold chunkRun; try dsimp only
  repeat' first
    | with_reducible assumption | with_reducible refine writeChunk_within ?_ p_mem r_cw_STGLEN r_nv_DIRTY
    | with_reducible refine within_pair ?_ (by assumption) | split

theorem longRun_within (h : Within P R s0 s) (p_mem : P .mem) (p_merger : P .merger) (p_safety : P .safety)
    (p_router : P .router) (p_drawbar : P .drawbar) (p_slots : P .slots) (p_lanes : P .lanes) (p_phys : P .phys)
    (p_cal : P .cal) (p_coach : P .coach) (p_ic : P .ic) (p_power : P .power) (p_nvm : P .nvm) (p_host : P .host)
    (p_tw : P .tw) (r_nv_STAT : R (.nv .STAT)) (r_nv_DIRTY : R (.nv .DIRTY)) (r_cw_LDSTAT : R (.cw .LDSTAT))
    (r_db_LSTAT : R (.db .LSTAT)) (r_ln_ENABLE : R (.ln .ENABLE)) (r_ca_STAT : R (.ca .STAT))
    (r_ca_LTEMP : R (.ca .LTEMP)) (r_ca_RUN : R (.ca .RUN)) (r_ln_STAT : R (.ln .STAT)) (r_al_FSTAT : R (.al .FSTAT))
    (r_ln_FAULTS : R (.ln .FAULTS)) (r_rk_STAT : R (.rk .STAT)) (r_cw_TFAULT : R (.cw .TFAULT))
    (r_ds_EVENTS : R (.ds .EVENTS)) (r1 : R (longReg x1)) : Within P R s0 (longRun x1 x2 x3 x4 s).2 := by
  unfold longRun; try dsimp only
  repeat' first
    | with_reducible assumption | with_reducible refine State.setFld_within ?_ (by assumption)
    | with_reducible refine State.orReg_within ?_ p_safety p_ic p_tw (by assumption)
    | with_reducible refine issueLong_within ?_ p_mem p_merger p_safety p_router p_drawbar
                        p_slots p_lanes p_phys p_cal p_coach p_ic p_power p_nvm p_host p_tw r_nv_STAT r_nv_DIRTY
                        r_cw_LDSTAT r_db_LSTAT r_ln_ENABLE r_ca_STAT r_ca_LTEMP r_ca_RUN r_ln_STAT r_al_FSTAT
                        r_ln_FAULTS r_rk_STAT r_cw_TFAULT r_ds_EVENTS
    | with_reducible refine within_pair ?_ (by assumption) | split

theorem longDone_within (h : Within P R s0 s) (p_safety : P .safety) (p_ic : P .ic) (p_host : P .host) (p_tw : P .tw)
    (r1 : R (x2)) (r2 : R (longReg x1)) : Within P R s0 (longDone x1 x2 x3 s) := by
  unfold longDone; try dsimp only
  repeat' first
    | with_reducible assumption | with_reducible refine State.setFld_within ?_ (by assumption)
    | with_reducible refine updHost_within ?_ p_host
    | with_reducible refine State.orReg_within ?_ p_safety p_ic p_tw (by assumption)
    | with_reducible refine updTw_within ?_ p_tw | with_reducible refine within_pair ?_ (by assumption) | split

theorem syncRun_within (h : Within P R s0 s) (r1 : R (x2)) (r2 : R (x1)) : Within P R s0 (syncRun x1 x2 x3 s) := by
  unfold syncRun; try dsimp only
  repeat' first
    | with_reducible assumption | with_reducible refine State.setReg_within ?_ (by assumption)

end Sys2Proof.Machine
end

