-- ==== Sys2Proof/Laws/WithinHostPort.lean ====
section
/-! SUPPORT. What each operation of Machine/HostPort.lean can change: one lemma per operation (see Laws/WithinOps.lean). -/
namespace Sys2Proof.Machine
set_option Elab.async false

set_option linter.unusedVariables false
set_option linter.unusedSimpArgs false

variable {P : Part → Prop} {R : Reg → Prop} {s0 s t : State}

theorem frameSelect_within (h : Within P R s0 s) (p_safety : P .safety) (p_ic : P .ic) (p_power : P .power)
    (p_host : P .host) (p_tw : P .tw) (r_vn_WSTAT : R (.vn .WSTAT)) : Within P R s0 (frameSelect s) := by
  unfold frameSelect; try dsimp only
  repeat' first
    | with_reducible assumption | with_reducible refine updHost_within ?_ p_host
    | with_reducible refine wakeLatchSet_within ?_ p_safety p_ic p_power p_tw r_vn_WSTAT
    | with_reducible refine within_pair ?_ (by assumption) | split

theorem deselect_within (h : Within P R s0 s) (p_host : P .host) : Within P R s0 (deselect s) := by
  unfold deselect; try dsimp only
  repeat' first
    | with_reducible assumption | with_reducible refine updHost_within ?_ p_host

theorem pollFrame_within (h : Within P R s0 s) (p_host : P .host) : Within P R s0 (pollFrame s) := by
  unfold pollFrame; try dsimp only
  repeat' first
    | with_reducible assumption | with_reducible refine updHost_within ?_ p_host
    | with_reducible refine deselect_within ?_ p_host | with_reducible refine within_pair ?_ (by assumption) | split

theorem hostResult_within (h : Within P R s0 s) (p_safety : P .safety) (p_ic : P .ic) (p_tw : P .tw)
    (r_hp_RESULT : R (.hp .RESULT)) (r_hp_FRAMES : R (.hp .FRAMES)) (r_hp_STAT : R (.hp .STAT)) : Within P R s0
    (hostResult x1 x2 s) := by
  unfold hostResult; try dsimp only
  repeat' first
    | with_reducible assumption | with_reducible refine State.setReg_within ?_ (by assumption)
    | with_reducible refine State.countFld_within ?_ (by assumption)
    | with_reducible refine State.orReg_within ?_ p_safety p_ic p_tw (by assumption)
    | with_reducible refine within_pair ?_ (by assumption) | split

theorem frameLen_within (h : Within P R s0 s) (p_safety : P .safety) (p_ic : P .ic) (p_tw : P .tw)
    (r_hp_STAT : R (.hp .STAT)) (r_hp_FRAMES : R (.hp .FRAMES)) : Within P R s0 (frameLen s) := by
  unfold frameLen; try dsimp only
  repeat' first
    | with_reducible assumption | with_reducible refine State.countFld_within ?_ (by assumption)
    | with_reducible refine State.orReg_within ?_ p_safety p_ic p_tw (by assumption)

theorem batchAck_within (h : Within P R s0 s) (p_merger : P .merger) (p_host : P .host) : Within P R s0 (batchAck x1
    s) := by
  unfold batchAck; try dsimp only
  repeat' first
    | with_reducible assumption | with_reducible refine updHost_within ?_ p_host
    | with_reducible refine deliver_within ?_ p_merger | with_reducible refine within_pair ?_ (by assumption) | split

theorem batchRun_within (h : Within P R s0 s) (p_host : P .host) : Within P R s0 (batchRun x1 x2 s).2.2 := by
  unfold batchRun; try dsimp only
  repeat' first
    | with_reducible assumption | with_reducible refine updHost_within ?_ p_host
    | with_reducible refine within_pair ?_ (by assumption) | split

theorem sessionRun_within (h : Within P R s0 s) (p_host : P .host) : Within P R s0 (sessionRun x1 x2 s).2.2 := by
  unfold sessionRun; try dsimp only
  repeat' first
    | with_reducible assumption | with_reducible refine updHost_within ?_ p_host
    | with_reducible refine closeSession_within ?_ p_host | with_reducible refine State.free_within ?_
    | with_reducible refine within_pair ?_ (by assumption) | split

theorem tagFailed_within (h : Within P R s0 s) (p_host : P .host) : Within P R s0 (tagFailed s) := by
  unfold tagFailed; try dsimp only
  repeat' first
    | with_reducible assumption | with_reducible refine updHost_within ?_ p_host
    | with_reducible refine closeSession_within ?_ p_host | with_reducible refine within_pair ?_ (by assumption)
    | split

theorem tagMatched_within (h : Within P R s0 s) (p_host : P .host) : Within P R s0 (tagMatched s) := by
  unfold tagMatched; try dsimp only
  repeat' first
    | with_reducible assumption | with_reducible refine updHost_within ?_ p_host

theorem counterEnd_within (h : Within P R s0 s) (p_host : P .host) : Within P R s0 (counterEnd s) := by
  unfold counterEnd; try dsimp only
  repeat' first
    | with_reducible assumption | with_reducible refine closeSession_within ?_ p_host
    | with_reducible refine within_pair ?_ (by assumption) | split

theorem helloRun_within (h : Within P R s0 s) (p_host : P .host) (r_hp_VER : R (.hp .VER)) : Within P R s0 (helloRun
    x1 s).2.2 := by
  unfold helloRun; try dsimp only
  repeat' first
    | with_reducible assumption | with_reducible refine State.setReg_within ?_ (by assumption)
    | with_reducible refine closeSession_within ?_ p_host | with_reducible refine within_pair ?_ (by assumption)
    | split

theorem hostLong_within (h : Within P R s0 s) (p_mem : P .mem) (p_merger : P .merger) (p_safety : P .safety)
    (p_router : P .router) (p_drawbar : P .drawbar) (p_slots : P .slots) (p_lanes : P .lanes) (p_phys : P .phys)
    (p_cal : P .cal) (p_coach : P .coach) (p_ic : P .ic) (p_power : P .power) (p_nvm : P .nvm) (p_host : P .host)
    (p_tw : P .tw) (r_nv_STAT : R (.nv .STAT)) (r_nv_DIRTY : R (.nv .DIRTY)) (r_cw_LDSTAT : R (.cw .LDSTAT))
    (r_db_LSTAT : R (.db .LSTAT)) (r_ln_ENABLE : R (.ln .ENABLE)) (r_ca_STAT : R (.ca .STAT))
    (r_ca_LTEMP : R (.ca .LTEMP)) (r_ca_RUN : R (.ca .RUN)) (r_ln_STAT : R (.ln .STAT)) (r_al_FSTAT : R (.al .FSTAT))
    (r_ln_FAULTS : R (.ln .FAULTS)) (r_rk_STAT : R (.rk .STAT)) (r_cw_TFAULT : R (.cw .TFAULT))
    (r_ds_EVENTS : R (.ds .EVENTS)) (r1 : R (longReg 1)) : Within P R s0 (hostLong x1 x2 x3 s).2.2 := by
  unfold hostLong; try dsimp only
  repeat' first
    | with_reducible assumption
    | with_reducible refine longRun_within ?_ p_mem p_merger p_safety p_router p_drawbar p_slots
                        p_lanes p_phys p_cal p_coach p_ic p_power p_nvm p_host p_tw r_nv_STAT r_nv_DIRTY r_cw_LDSTAT
                        r_db_LSTAT r_ln_ENABLE r_ca_STAT r_ca_LTEMP r_ca_RUN r_ln_STAT r_al_FSTAT r_ln_FAULTS
                        r_rk_STAT r_cw_TFAULT r_ds_EVENTS (by assumption)

theorem hostCommand_within (h : Within P R s0 s) (pAll : ∀ p, P p) (rAll : ∀ r, R r) : Within P R s0 (hostCommand x1
    x2 x3 x4 x5 x6 x7 s).2.2 := by
  unfold hostCommand; try dsimp only
  repeat' first
    | with_reducible assumption | with_reducible refine State.setReg_within ?_ (rAll _)
    | with_reducible refine chunkRun_within ?_ (pAll _) (rAll _) (rAll _)
    | with_reducible refine helloRun_within ?_ (pAll _) (rAll _)
    | with_reducible refine hostLong_within ?_ (pAll _) (pAll _) (pAll _) (pAll _) (pAll _)
                        (pAll _) (pAll _) (pAll _) (pAll _) (pAll _) (pAll _) (pAll _) (pAll _) (pAll _) (pAll _)
                        (rAll _) (rAll _) (rAll _) (rAll _) (rAll _) (rAll _) (rAll _) (rAll _) (rAll _) (rAll _)
                        (rAll _) (rAll _) (rAll _) (rAll _) (rAll _)
    | with_reducible refine batchRun_within ?_ (pAll _) | with_reducible refine sessionRun_within ?_ (pAll _)
    | with_reducible refine powerRequest_within ?_ (pAll _) (pAll _) (pAll _) (pAll _) (pAll _)
                        (pAll _) (pAll _) (pAll _) (pAll _) (pAll _) (pAll _) (pAll _) (pAll _) (rAll _) (rAll _)
                        (rAll _) (rAll _) (rAll _) (rAll _) (rAll _) (rAll _) (rAll _) (rAll _) (rAll _) (rAll _)
    | with_reducible refine windowReads_within ?_ (pAll _) (pAll _) rAll
    | with_reducible refine windowWrites_within ?_ pAll rAll
    | with_reducible refine syncRun_within ?_ (rAll _) (rAll _)
    | with_reducible refine within_pair ?_ (by assumption) | split

theorem hostRun_within (h : Within P R s0 s) (pAll : ∀ p, P p) (rAll : ∀ r, R r) : Within P R s0 (hostRun x1 x2 x3 x4 x5 x6 x7 s).2.2 := by
  have k := hostCommand_within (x1 := x1) (x2 := x2) (x3 := x3) (x4 := x4) (x5 := x5) (x6 := x6) (x7 := x7) h pAll rAll
  unfold hostRun; dsimp only
  repeat' first | with_reducible assumption | exact within_freeCount h k.free | split

theorem judgeFrame_within (hr : ∀ b s, Within P R s0 s → Within P R s0 (x5 b s).2.2) (h : Within P R s0 s) (p_host : P .host) :
    Within P R s0 (judgeFrame x1 x2 x3 x4 x5 s).2 := by
  unfold judgeFrame; dsimp only
  repeat' first
    | with_reducible assumption | with_reducible refine tagFailed_within ?_ p_host
    | with_reducible refine counterEnd_within ?_ p_host
    | with_reducible refine tagMatched_within ?_ p_host | refine hr _ _ ?_ | split

theorem directFrame_within (h : Within P R s0 s) (pAll : ∀ p, P p) (rAll : ∀ r, R r) : Within P R s0 (directFrame x1
    x2 x3 x4 x5 x6 x7 s) := by
  unfold directFrame; try dsimp only
  repeat' first
    | with_reducible assumption | with_reducible refine updHost_within ?_ (pAll _)
    | with_reducible refine frameLen_within ?_ (pAll _) (pAll _) (pAll _) (rAll _) (rAll _)
    | with_reducible refine judgeFrame_within (fun _ _ h => ?_) ?_ (pAll _)
    | with_reducible refine batchAck_within ?_ (pAll _) (pAll _) | with_reducible refine hostRun_within ?_ pAll rAll
    | with_reducible refine hostResult_within ?_ (pAll _) (pAll _) (pAll _) (rAll _) (rAll _) (rAll _)
    | with_reducible refine within_pair ?_ (by assumption) | split

theorem chainFrame_within (h : Within P R s0 s) (pAll : ∀ p, P p) (rAll : ∀ r, R r) : Within P R s0 (chainFrame x1 x2
    x3 x4 x5 x6 x7 s) := by
  unfold chainFrame; try dsimp only
  repeat' first
    | with_reducible assumption | with_reducible refine updHost_within ?_ (pAll _)
    | with_reducible refine frameLen_within ?_ (pAll _) (pAll _) (pAll _) (rAll _) (rAll _)
    | with_reducible refine hostRun_within ?_ pAll rAll
    | with_reducible refine hostResult_within ?_ (pAll _) (pAll _) (pAll _) (rAll _) (rAll _) (rAll _)
    | with_reducible refine within_pair ?_ (by assumption) | split

theorem hostFrame_within (h : Within P R s0 s) (pAll : ∀ p, P p) (rAll : ∀ r, R r) : Within P R s0 (hostFrame x1 x2 x3
    x4 x5 s) := by
  unfold hostFrame; try dsimp only
  repeat' first
    | with_reducible assumption | with_reducible refine chainFrame_within ?_ pAll rAll
    | with_reducible refine directFrame_within ?_ pAll rAll | with_reducible refine deselect_within ?_ (pAll _)
    | with_reducible refine within_pair ?_ (by assumption) | split

end Sys2Proof.Machine
end

