-- ==== Sys2Proof/Laws/WithinTwoWire.lean ====
section
/-! SUPPORT. What each operation of Machine/TwoWire.lean can change: one lemma per operation (see Laws/WithinOps.lean). -/
namespace Sys2Proof.Machine
set_option Elab.async false

set_option linter.unusedVariables false
set_option linter.unusedSimpArgs false

variable {P : Part → Prop} {R : Reg → Prop} {s0 s t : State}

theorem twRaise_within (h : Within P R s0 s) (p_safety : P .safety) (p_ic : P .ic) (p_tw : P .tw)
    (r_tw_STAT : R (.tw .STAT)) : Within P R s0 (twRaise x1 s) := by
  unfold twRaise; try dsimp only
  repeat' first
    | with_reducible assumption | with_reducible refine State.orReg_within ?_ p_safety p_ic p_tw (by assumption)
    | with_reducible refine within_pair ?_ (by assumption) | split

theorem twResult_within (h : Within P R s0 s) (p_safety : P .safety) (p_ic : P .ic) (p_tw : P .tw)
    (r_tw_STAT : R (.tw .STAT)) (r_tw_RESULT : R (.tw .RESULT)) : Within P R s0 (twResult x1 x2 s) := by
  unfold twResult; try dsimp only
  repeat' first
    | with_reducible assumption | with_reducible refine State.setReg_within ?_ (by assumption)
    | with_reducible refine twRaise_within ?_ p_safety p_ic p_tw r_tw_STAT
    | with_reducible refine updTw_within ?_ p_tw

theorem twWriteRun_within (hr : ∀ b s, Within P R s0 s → Within P R s0 (x4 b s).2) (h : Within P R s0 s) (p_safety : P .safety) (p_ic : P .ic) (p_tw : P .tw) (r_tw_STAT : R (.tw .STAT)) (r_tw_RESULT : R (.tw .RESULT)) :
    Within P R s0 (twWriteRun x1 x2 x3 x4 s) := by
  unfold twWriteRun; dsimp only
  repeat' first
    | with_reducible assumption | with_reducible refine twResult_within ?_ p_safety p_ic p_tw r_tw_STAT r_tw_RESULT
    | with_reducible refine twRaise_within ?_ p_safety p_ic p_tw r_tw_STAT | refine hr _ _ ?_ | split

theorem twReadRun_within (hr : ∀ b s, Within P R s0 s → Within P R s0 (x5 b s).2.2) (h : Within P R s0 s) (p_safety : P .safety) (p_ic : P .ic) (p_tw : P .tw) (r_tw_STAT : R (.tw .STAT)) (r_tw_RESULT : R (.tw .RESULT)) :
    Within P R s0 (twReadRun x1 x2 x3 x4 x5 s) := by
  unfold twReadRun; dsimp only
  repeat' first
    | with_reducible assumption | with_reducible refine twResult_within ?_ p_safety p_ic p_tw r_tw_STAT r_tw_RESULT
    | with_reducible refine twRaise_within ?_ p_safety p_ic p_tw r_tw_STAT
    | with_reducible refine updTw_within ?_ p_tw | refine hr _ _ ?_ | split

theorem twStatusRun_within (h : Within P R s0 s) : Within P R s0 (twStatusRun x1 s).2.2 := by
  unfold twStatusRun; try dsimp only
  repeat' first
    | with_reducible assumption

theorem twHelloRun_within (h : Within P R s0 s) (r_tw_NSRC : R (.tw .NSRC)) : Within P R s0 (twHelloRun x1 s).2.2 := by
  unfold twHelloRun; try dsimp only
  repeat' first
    | with_reducible assumption | with_reducible refine State.clrReg_within ?_ (by assumption)

theorem pointerRun_within (h : Within P R s0 s) (r_tw_PTR : R (.tw .PTR)) : Within P R s0 (pointerRun x1 s).2 := by
  unfold pointerRun; try dsimp only
  repeat' first
    | with_reducible assumption | with_reducible refine State.setReg_within ?_ (by assumption)
    | with_reducible refine within_pair ?_ (by assumption) | split

theorem pointerOn_within (h : Within P R s0 s) (r_tw_PTR : R (.tw .PTR)) : Within P R s0 (pointerOn x1 s) := by
  unfold pointerOn; try dsimp only
  repeat' first
    | with_reducible assumption | with_reducible refine State.setFld_within ?_ (by assumption)

theorem twWords_within (h : Within P R s0 s) (p_timers : P .timers) (p_ic : P .ic) (rAll : ∀ r, R r) : Within P R s0 (twWords x1 x2 x3 x4 s).2 := by
  induction x2 generalizing s x3 x4 with
  | zero => exact h
  | succ n ih =>
    have hp : Within P R s0 (if x3 < x1 then portRead .twoWire x3 s else ((0 : Word), s)).2 := by
      split
      · exact portRead_within h p_timers p_ic rAll
      · exact h
    rw [twWords]
    refine ih ?_
    split
    · exact hp
    · exact within_freeCount h hp.free

theorem twReadReg_within (h : Within P R s0 s) (p_timers : P .timers) (p_ic : P .ic) (rAll : ∀ r, R r) : Within P R s0
    (twReadReg x1 s).2.2 := by
  unfold twReadReg; try dsimp only
  repeat' first
    | with_reducible assumption | with_reducible refine twWords_within ?_ p_timers p_ic rAll
    | with_reducible refine pointerOn_within ?_ (rAll _) | with_reducible refine within_pair ?_ (by assumption)
    | split

theorem twWriteReg_within (h : Within P R s0 s) (pAll : ∀ p, P p) (rAll : ∀ r, R r) : Within P R s0 (twWriteReg x1
    s).2 := by
  unfold twWriteReg; try dsimp only
  repeat' first
    | with_reducible assumption | with_reducible refine pointerOn_within ?_ (rAll _)
    | with_reducible refine windowWrites_within ?_ pAll rAll

theorem deliverHeld_within (h : Within P R s0 s) (p_merger : P .merger) (p_tw : P .tw) : Within P R s0 (deliverHeld s) := by
  unfold deliverHeld; try dsimp only
  repeat' first
    | with_reducible assumption | with_reducible refine updTw_within ?_ p_tw
    | with_reducible refine deliver_within ?_ p_merger | with_reducible refine within_pair ?_ (by assumption) | split

theorem newBlock_within (h : Within P R s0 s) (p_merger : P .merger) (p_tw : P .tw) : Within P R s0 (newBlock x1
    s).2.2 := by
  unfold newBlock; try dsimp only
  repeat' first
    | with_reducible assumption | with_reducible refine updTw_within ?_ p_tw
    | with_reducible refine deliver_within ?_ p_merger | with_reducible refine within_pair ?_ (by assumption) | split

theorem twBatch_within (h : Within P R s0 s) (p_merger : P .merger) (p_tw : P .tw) : Within P R s0 (twBatch x1 s).2.2 := by
  unfold twBatch; try dsimp only
  repeat' first
    | with_reducible assumption | with_reducible refine newBlock_within ?_ p_merger p_tw
    | with_reducible refine deliverHeld_within ?_ p_merger p_tw

theorem twAgain_within (h : Within P R s0 s) (p_merger : P .merger) (p_tw : P .tw) : Within P R s0 (twAgain x1 s).2.2 := by
  unfold twAgain; try dsimp only
  repeat' first
    | with_reducible assumption | with_reducible refine newBlock_within ?_ p_merger p_tw
    | with_reducible refine updTw_within ?_ p_tw | with_reducible refine within_pair ?_ (by assumption) | split

theorem batchAgain_within (h : Within P R s0 s) (p_merger : P .merger) (p_safety : P .safety) (p_ic : P .ic)
    (p_tw : P .tw) (r_tw_STAT : R (.tw .STAT)) (r_tw_RESULT : R (.tw .RESULT)) : Within P R s0 (batchAgain x1 s) := by
  unfold batchAgain; try dsimp only
  repeat' first
    | with_reducible assumption | with_reducible refine twRaise_within ?_ p_safety p_ic p_tw r_tw_STAT
    | with_reducible refine twReadRun_within (fun _ _ h => ?_) ?_ p_safety p_ic p_tw r_tw_STAT r_tw_RESULT
    | with_reducible refine twAgain_within ?_ p_merger p_tw | with_reducible refine updTw_within ?_ p_tw
    | with_reducible refine within_pair ?_ (by assumption) | split

theorem twChunk_within (h : Within P R s0 s) (p_mem : P .mem) (r_cw_STGLEN : R (.cw .STGLEN))
    (r_nv_DIRTY : R (.nv .DIRTY)) : Within P R s0 (twChunk x1 s).2 := by
  unfold twChunk; try dsimp only
  repeat' first
    | with_reducible assumption | with_reducible refine chunkRun_within ?_ p_mem r_cw_STGLEN r_nv_DIRTY

theorem twPhase_within (h : Within P R s0 s) (p_mem : P .mem) (p_merger : P .merger) (p_safety : P .safety)
    (p_router : P .router) (p_drawbar : P .drawbar) (p_slots : P .slots) (p_lanes : P .lanes) (p_phys : P .phys)
    (p_cal : P .cal) (p_coach : P .coach) (p_ic : P .ic) (p_power : P .power) (p_nvm : P .nvm) (p_host : P .host)
    (p_tw : P .tw) (r_nv_STAT : R (.nv .STAT)) (r_nv_DIRTY : R (.nv .DIRTY)) (r_cw_LDSTAT : R (.cw .LDSTAT))
    (r_db_LSTAT : R (.db .LSTAT)) (r_ln_ENABLE : R (.ln .ENABLE)) (r_ca_STAT : R (.ca .STAT))
    (r_ca_LTEMP : R (.ca .LTEMP)) (r_ca_RUN : R (.ca .RUN)) (r_ln_STAT : R (.ln .STAT)) (r_al_FSTAT : R (.al .FSTAT))
    (r_ln_FAULTS : R (.ln .FAULTS)) (r_rk_STAT : R (.rk .STAT)) (r_cw_TFAULT : R (.cw .TFAULT))
    (r_ds_EVENTS : R (.ds .EVENTS)) (r1 : R (longReg 2)) : Within P R s0 (twPhase x1 x2 x3 s).2 := by
  unfold twPhase; try dsimp only
  repeat' first
    | with_reducible assumption
    | with_reducible refine longRun_within ?_ p_mem p_merger p_safety p_router p_drawbar p_slots
                        p_lanes p_phys p_cal p_coach p_ic p_power p_nvm p_host p_tw r_nv_STAT r_nv_DIRTY r_cw_LDSTAT
                        r_db_LSTAT r_ln_ENABLE r_ca_STAT r_ca_LTEMP r_ca_RUN r_ln_STAT r_al_FSTAT r_ln_FAULTS
                        r_rk_STAT r_cw_TFAULT r_ds_EVENTS (by assumption)
    | with_reducible refine within_pair ?_ (by assumption) | split

theorem twShunt_within (h : Within P R s0 s) (p_mem : P .mem) (p_merger : P .merger) (p_safety : P .safety)
    (p_router : P .router) (p_drawbar : P .drawbar) (p_slots : P .slots) (p_lanes : P .lanes) (p_phys : P .phys)
    (p_cal : P .cal) (p_coach : P .coach) (p_ic : P .ic) (p_power : P .power) (p_nvm : P .nvm) (p_host : P .host)
    (p_tw : P .tw) (r_nv_STAT : R (.nv .STAT)) (r_nv_DIRTY : R (.nv .DIRTY)) (r_cw_LDSTAT : R (.cw .LDSTAT))
    (r_db_LSTAT : R (.db .LSTAT)) (r_ln_ENABLE : R (.ln .ENABLE)) (r_ca_STAT : R (.ca .STAT))
    (r_ca_LTEMP : R (.ca .LTEMP)) (r_ca_RUN : R (.ca .RUN)) (r_ln_STAT : R (.ln .STAT)) (r_al_FSTAT : R (.al .FSTAT))
    (r_ln_FAULTS : R (.ln .FAULTS)) (r_rk_STAT : R (.rk .STAT)) (r_cw_TFAULT : R (.cw .TFAULT))
    (r_ds_EVENTS : R (.ds .EVENTS)) (r1 : R (longReg 2)) : Within P R s0 (twShunt x1 s).2 := by
  unfold twShunt; try dsimp only
  repeat' first
    | with_reducible assumption
    | with_reducible refine longRun_within ?_ p_mem p_merger p_safety p_router p_drawbar p_slots
                        p_lanes p_phys p_cal p_coach p_ic p_power p_nvm p_host p_tw r_nv_STAT r_nv_DIRTY r_cw_LDSTAT
                        r_db_LSTAT r_ln_ENABLE r_ca_STAT r_ca_LTEMP r_ca_RUN r_ln_STAT r_al_FSTAT r_ln_FAULTS
                        r_rk_STAT r_cw_TFAULT r_ds_EVENTS (by assumption)
    | with_reducible refine within_pair ?_ (by assumption) | split

theorem twStore_within (h : Within P R s0 s) (p_mem : P .mem) (p_merger : P .merger) (p_safety : P .safety)
    (p_router : P .router) (p_drawbar : P .drawbar) (p_slots : P .slots) (p_lanes : P .lanes) (p_phys : P .phys)
    (p_cal : P .cal) (p_coach : P .coach) (p_ic : P .ic) (p_power : P .power) (p_nvm : P .nvm) (p_host : P .host)
    (p_tw : P .tw) (r_nv_STAT : R (.nv .STAT)) (r_nv_DIRTY : R (.nv .DIRTY)) (r_cw_LDSTAT : R (.cw .LDSTAT))
    (r_db_LSTAT : R (.db .LSTAT)) (r_ln_ENABLE : R (.ln .ENABLE)) (r_ca_STAT : R (.ca .STAT))
    (r_ca_LTEMP : R (.ca .LTEMP)) (r_ca_RUN : R (.ca .RUN)) (r_ln_STAT : R (.ln .STAT)) (r_al_FSTAT : R (.al .FSTAT))
    (r_ln_FAULTS : R (.ln .FAULTS)) (r_rk_STAT : R (.rk .STAT)) (r_cw_TFAULT : R (.cw .TFAULT))
    (r_ds_EVENTS : R (.ds .EVENTS)) (r1 : R (longReg 2)) : Within P R s0 (twStore x1 x2 s).2 := by
  unfold twStore; try dsimp only
  repeat' first
    | with_reducible assumption
    | with_reducible refine longRun_within ?_ p_mem p_merger p_safety p_router p_drawbar p_slots
                        p_lanes p_phys p_cal p_coach p_ic p_power p_nvm p_host p_tw r_nv_STAT r_nv_DIRTY r_cw_LDSTAT
                        r_db_LSTAT r_ln_ENABLE r_ca_STAT r_ca_LTEMP r_ca_RUN r_ln_STAT r_al_FSTAT r_ln_FAULTS
                        r_rk_STAT r_cw_TFAULT r_ds_EVENTS (by assumption)

theorem twPower_within (h : Within P R s0 s) (p_merger : P .merger) (p_safety : P .safety) (p_router : P .router)
    (p_drawbar : P .drawbar) (p_slots : P .slots) (p_lanes : P .lanes) (p_phys : P .phys) (p_cal : P .cal)
    (p_coach : P .coach) (p_ic : P .ic) (p_power : P .power) (p_host : P .host) (p_tw : P .tw)
    (r_ca_STAT : R (.ca .STAT)) (r_ca_LTEMP : R (.ca .LTEMP)) (r_ca_RUN : R (.ca .RUN)) (r_ln_STAT : R (.ln .STAT))
    (r_al_FSTAT : R (.al .FSTAT)) (r_ln_FAULTS : R (.ln .FAULTS)) (r_rk_STAT : R (.rk .STAT))
    (r_cw_TFAULT : R (.cw .TFAULT)) (r_cw_LDSTAT : R (.cw .LDSTAT)) (r_ds_EVENTS : R (.ds .EVENTS))
    (r_db_LSTAT : R (.db .LSTAT)) (r_pw_STAT : R (.pw .STAT)) : Within P R s0 (twPower x1 s).2 := by
  unfold twPower; try dsimp only
  repeat' first
    | with_reducible assumption
    | with_reducible refine powerRequest_within ?_ p_merger p_safety p_router p_drawbar p_slots
                        p_lanes p_phys p_cal p_coach p_ic p_power p_host p_tw r_ca_STAT r_ca_LTEMP r_ca_RUN
                        r_ln_STAT r_al_FSTAT r_ln_FAULTS r_rk_STAT r_cw_TFAULT r_cw_LDSTAT r_ds_EVENTS r_db_LSTAT
                        r_pw_STAT
    | with_reducible refine within_pair ?_ (by assumption) | split

theorem twSync_within (h : Within P R s0 s) (r_tw_SYNCH : R (.tw .SYNCH)) (r_tw_SYNCL : R (.tw .SYNCL)) : Within P R
    s0 (twSync x1 x2 s).2 := by
  unfold twSync; try dsimp only
  repeat' first
    | with_reducible assumption | with_reducible refine syncRun_within ?_ (by assumption) (by assumption)

theorem twSyncRead_within (h : Within P R s0 s) : Within P R s0 (twSyncRead x1 s).2.2 := by
  unfold twSyncRead; try dsimp only
  repeat' first
    | with_reducible assumption

theorem twAlmanacPtr_within (h : Within P R s0 s) (r_tw_APTR : R (.tw .APTR)) : Within P R s0 (twAlmanacPtr x1 s).2 := by
  unfold twAlmanacPtr; try dsimp only
  repeat' first
    | with_reducible assumption | with_reducible refine State.setReg_within ?_ (by assumption)
    | with_reducible refine within_pair ?_ (by assumption) | split

theorem twAlmanac_within (h : Within P R s0 s) (r_tw_APTR : R (.tw .APTR)) : Within P R s0 (twAlmanac x1 s).2.2 := by
  unfold twAlmanac; try dsimp only
  repeat' first
    | with_reducible assumption | with_reducible refine State.setFld_within ?_ (by assumption)

theorem twNotifyCfg_within (h : Within P R s0 s) (p_tw : P .tw) (r_tw_NMASK : R (.tw .NMASK)) : Within P R s0
    (twNotifyCfg x1 s).2 := by
  unfold twNotifyCfg; try dsimp only
  repeat' first
    | with_reducible assumption | with_reducible refine State.setReg_within ?_ (by assumption)
    | with_reducible refine twNotice_within ?_ p_tw | with_reducible refine within_pair ?_ (by assumption) | split

theorem twUnknown_within (h : Within P R s0 s) (p_safety : P .safety) (p_ic : P .ic) (p_tw : P .tw)
    (r_tw_STAT : R (.tw .STAT)) : Within P R s0 (twUnknown s) := by
  unfold twUnknown; try dsimp only
  repeat' first
    | with_reducible assumption | with_reducible refine twRaise_within ?_ p_safety p_ic p_tw r_tw_STAT
    | with_reducible refine updTw_within ?_ p_tw | with_reducible refine within_pair ?_ (by assumption) | split

theorem stretchTimeout_within (h : Within P R s0 s) (p_safety : P .safety) (p_ic : P .ic) (p_tw : P .tw)
    (r_tw_STAT : R (.tw .STAT)) (r_tw_RESULT : R (.tw .RESULT)) : Within P R s0 (stretchTimeout x1 s) := by
  unfold stretchTimeout; try dsimp only
  repeat' first
    | with_reducible assumption | with_reducible refine twResult_within ?_ p_safety p_ic p_tw r_tw_STAT r_tw_RESULT
    | with_reducible refine twRaise_within ?_ p_safety p_ic p_tw r_tw_STAT
    | with_reducible refine within_pair ?_ (by assumption) | split

theorem busTimeout_within (h : Within P R s0 s) (p_safety : P .safety) (p_ic : P .ic) (p_tw : P .tw)
    (r_tw_STAT : R (.tw .STAT)) : Within P R s0 (busTimeout s) := by
  unfold busTimeout; try dsimp only
  repeat' first
    | with_reducible assumption | with_reducible refine twRaise_within ?_ p_safety p_ic p_tw r_tw_STAT
    | with_reducible refine updTw_within ?_ p_tw | with_reducible refine within_pair ?_ (by assumption) | split

theorem addressMatch_within (h : Within P R s0 s) (p_safety : P .safety) (p_ic : P .ic) (p_power : P .power)
    (p_tw : P .tw) (r_vn_WSTAT : R (.vn .WSTAT)) : Within P R s0 (addressMatch s) := by
  unfold addressMatch; try dsimp only
  repeat' first
    | with_reducible assumption | with_reducible refine updPower_within ?_ p_power
    | with_reducible refine updTw_within ?_ p_tw
    | with_reducible refine levelsFrom_within ?_ p_safety p_ic p_power p_tw r_vn_WSTAT
    | with_reducible refine within_pair ?_ (by assumption) | split

theorem twTakeover_within (h : Within P R s0 s) (p_safety : P .safety) (p_ic : P .ic) (p_power : P .power)
    (p_tw : P .tw) (r_vn_WSTAT : R (.vn .WSTAT)) : Within P R s0 (twTakeover s) := by
  unfold twTakeover; try dsimp only
  repeat' first
    | with_reducible assumption | with_reducible refine updPower_within ?_ p_power
    | with_reducible refine updTw_within ?_ p_tw
    | with_reducible refine levelsFrom_within ?_ p_safety p_ic p_power p_tw r_vn_WSTAT
    | with_reducible refine within_pair ?_ (by assumption) | split

theorem matcherRelease_within (h : Within P R s0 s) (p_safety : P .safety) (p_ic : P .ic) (p_power : P .power)
    (p_tw : P .tw) (r_tw_STAT : R (.tw .STAT)) (r_vn_WSTAT : R (.vn .WSTAT)) : Within P R s0 (matcherRelease s) := by
  unfold matcherRelease; try dsimp only
  repeat' first
    | with_reducible assumption | with_reducible refine updPower_within ?_ p_power
    | with_reducible refine twRaise_within ?_ p_safety p_ic p_tw r_tw_STAT
    | with_reducible refine updTw_within ?_ p_tw
    | with_reducible refine levelsFrom_within ?_ p_safety p_ic p_power p_tw r_vn_WSTAT
    | with_reducible refine within_pair ?_ (by assumption) | split

theorem calmAddressWake_within (h : Within P R s0 s) (p_safety : P .safety) (p_ic : P .ic) (p_power : P .power)
    (p_tw : P .tw) (r_pw_WAKE : R (.pw .WAKE)) : Within P R s0 (calmAddressWake s) := by
  unfold calmAddressWake; try dsimp only
  repeat' first
    | with_reducible assumption | with_reducible refine calmWake_within ?_ p_safety p_ic p_power p_tw r_pw_WAKE
    | with_reducible refine wakeIsDue_within ?_ p_power | with_reducible refine within_pair ?_ (by assumption)
    | split

theorem notifyFailed_within (h : Within P R s0 s) (p_safety : P .safety) (p_ic : P .ic) (p_tw : P .tw)
    (r_tw_NOTIFYLOST : R (.tw .NOTIFYLOST)) (r_tw_STAT : R (.tw .STAT)) : Within P R s0 (notifyFailed x1 x2 s) := by
  unfold notifyFailed; try dsimp only
  repeat' first
    | with_reducible assumption | with_reducible refine twRaise_within ?_ p_safety p_ic p_tw r_tw_STAT
    | with_reducible refine State.countFld_within ?_ (by assumption) | with_reducible refine updTw_within ?_ p_tw
    | with_reducible refine within_pair ?_ (by assumption) | split

theorem hostNotify_within (h : Within P R s0 s) (p_safety : P .safety) (p_ic : P .ic) (p_tw : P .tw)
    (r_tw_NOTIFYLOST : R (.tw .NOTIFYLOST)) (r_tw_STAT : R (.tw .STAT)) : Within P R s0 (hostNotify x1 s) := by
  unfold hostNotify; try dsimp only
  repeat' first
    | with_reducible assumption | with_reducible refine updTw_within ?_ p_tw
    | with_reducible refine notifyFailed_within ?_ p_safety p_ic p_tw r_tw_NOTIFYLOST r_tw_STAT
    | with_reducible refine within_pair ?_ (by assumption) | split

end Sys2Proof.Machine
end

