-- ==== Sys2Proof/Laws/WithinTick.lean ====
section
/-! SUPPORT. What each operation of Machine/Tick.lean can change: one lemma per operation (see Laws/WithinOps.lean). -/
namespace Sys2Proof.Machine
set_option Elab.async false

set_option linter.unusedVariables false
set_option linter.unusedSimpArgs false

variable {P : Part → Prop} {R : Reg → Prop} {s0 s t : State}

theorem settleAll_within (h : Within P R s0 s) (p_safety : P .safety) (p_router : P .router) (p_timers : P .timers)
    (p_drawbar : P .drawbar) (p_ic : P .ic) (p_tw : P .tw) (r_db_LSTAT : R (.db .LSTAT)) (r_tm_STAT : R (.tm .STAT))
    (r_tm_OUT : R (.tm .OUT)) : Within P R s0 (settleAll s) := by
  unfold settleAll; try dsimp only
  repeat' first
    | with_reducible assumption
    | with_reducible refine settle_within ?_ p_safety p_router p_timers p_drawbar p_ic p_tw
                        r_db_LSTAT r_tm_STAT r_tm_OUT
    | with_reducible refine within_foldl (fun _ _ h => ?_) ?_

theorem timersNext_within (h : Within P R s0 s) (p_router : P .router) (p_timers : P .timers) : Within P R s0
    (timersNext s) := by
  unfold timersNext; try dsimp only
  repeat' first
    | with_reducible assumption | with_reducible refine publish_within ?_ p_router
    | with_reducible refine within_foldl (fun _ _ h => ?_) ?_
    | with_reducible refine within_foldl_snd (fun _ _ h => ?_) ?_
    | with_reducible refine within_foldl_fst (fun _ _ h => ?_) ?_
    | with_reducible refine within_pair ?_ (by assumption) | split
    | (simp only [within_mk]
       refine WithinMk.intro ?_ rfl rfl rfl rfl (h_router := .inl p_router) (h_timers := .inl p_timers))

theorem handshakeEdge_within (h : Within P R s0 s) (p_mem : P .mem) (p_merger : P .merger) (p_safety : P .safety)
    (p_router : P .router) (p_drawbar : P .drawbar) (p_slots : P .slots) (p_lanes : P .lanes) (p_phys : P .phys)
    (p_cal : P .cal) (p_coach : P .coach) (p_ic : P .ic) (p_power : P .power) (p_host : P .host) (p_tw : P .tw)
    (r_ln_LAST : R (.ln .LAST)) (r_cw_TAPOVR : R (.cw .TAPOVR)) (r_rk_STAT : R (.rk .STAT))
    (r_rk_LATE : R (.rk .LATE)) (r_rk_OVCNT : R (.rk .OVCNT)) (r_rk_CnSTAT : R (.rk .CnSTAT))
    (r_pw_STAT : R (.pw .STAT)) (r_ca_STAT : R (.ca .STAT)) (r_ca_LTEMP : R (.ca .LTEMP)) (r_ca_RUN : R (.ca .RUN))
    (r_ln_STAT : R (.ln .STAT)) (r_al_FSTAT : R (.al .FSTAT)) (r_ln_FAULTS : R (.ln .FAULTS))
    (r_cw_TFAULT : R (.cw .TFAULT)) (r_cw_LDSTAT : R (.cw .LDSTAT)) (r_ds_EVENTS : R (.ds .EVENTS))
    (r_db_LSTAT : R (.db .LSTAT)) (r_al_WIDX : R (.al .WIDX)) (r_al_COUNT : R (.al .COUNT)) : Within P R s0
    (handshakeEdge s) := by
  unfold handshakeEdge; try dsimp only
  repeat' first
    | with_reducible assumption
    | with_reducible refine handshakeCommit_within ?_ p_mem p_merger p_safety p_router p_lanes
                        p_coach p_ic p_power p_tw r_ln_LAST r_cw_TAPOVR r_rk_STAT r_rk_LATE r_rk_OVCNT r_rk_CnSTAT
                        r_al_WIDX r_al_COUNT
    | with_reducible refine handshakeTimeout_within ?_ p_mem p_merger p_safety p_router
                        p_drawbar p_slots p_lanes p_phys p_cal p_coach p_ic p_power p_host p_tw r_ln_LAST
                        r_cw_TAPOVR r_rk_STAT r_rk_LATE r_rk_OVCNT r_rk_CnSTAT r_pw_STAT r_ca_STAT r_ca_LTEMP
                        r_ca_RUN r_ln_STAT r_al_FSTAT r_ln_FAULTS r_cw_TFAULT r_cw_LDSTAT r_ds_EVENTS r_db_LSTAT
    | with_reducible refine handshakeRefuse_within ?_ p_mem p_merger p_safety p_router p_drawbar
                        p_slots p_lanes p_phys p_cal p_coach p_ic p_power p_host p_tw r_ln_LAST r_cw_TAPOVR
                        r_rk_STAT r_rk_LATE r_rk_OVCNT r_rk_CnSTAT r_pw_STAT r_ca_STAT r_ca_LTEMP r_ca_RUN r_ln_STAT
                        r_al_FSTAT r_ln_FAULTS r_cw_TFAULT r_cw_LDSTAT r_ds_EVENTS r_db_LSTAT
    | with_reducible refine sampleBlocks_within ?_ p_mem p_merger p_safety p_router p_lanes
                        p_coach p_ic p_power p_tw r_ln_LAST r_cw_TAPOVR r_rk_STAT r_rk_LATE r_rk_OVCNT r_rk_CnSTAT
    | with_reducible refine within_pair ?_ (by assumption) | split

theorem mergerEdge_within (h : Within P R s0 s) (p_mem : P .mem) (p_merger : P .merger) (p_safety : P .safety)
    (p_router : P .router) (p_ic : P .ic) (p_tw : P .tw) (r_rk_OVCNT : R (.rk .OVCNT)) (r_rk_STAT : R (.rk .STAT))
    (r_rk_CnSTAT : R (.rk .CnSTAT)) (r_rk_LATE : R (.rk .LATE)) : Within P R s0 (mergerEdge s) := by
  unfold mergerEdge; try dsimp only
  repeat' first
    | with_reducible assumption
    | with_reducible refine recordWrite_within ?_ p_mem p_merger p_safety p_router p_ic p_tw
                        r_rk_STAT r_rk_LATE r_rk_OVCNT r_rk_CnSTAT
    | with_reducible refine epochWrite_within ?_ p_mem p_merger p_safety p_router p_ic p_tw
                        r_rk_STAT r_rk_LATE r_rk_OVCNT r_rk_CnSTAT
    | with_reducible refine overflowExit_within ?_ p_mem p_merger p_safety p_router p_ic p_tw
                        r_rk_OVCNT r_rk_STAT r_rk_CnSTAT
    | with_reducible refine stampHighChange_within ?_ p_merger

theorem alarmEdge_within (h : Within P R s0 s) (p_safety : P .safety) (p_ic : P .ic) (p_power : P .power)
    (p_tw : P .tw) (r_vn_WSTAT : R (.vn .WSTAT)) : Within P R s0 (alarmEdge x1 s) := by
  unfold alarmEdge; try dsimp only
  repeat' first
    | with_reducible assumption | with_reducible refine levelsFrom_within ?_ p_safety p_ic p_power p_tw r_vn_WSTAT

theorem busTick_within (h : Within P R s0 s) (pAll : ∀ p, P p) (rAll : ∀ r, R r) : Within P R s0 (busTick s) := by
  unfold busTick; try dsimp only
  repeat' first
    | with_reducible assumption
    | with_reducible refine mergerEdge_within ?_ (pAll _) (pAll _) (pAll _) (pAll _) (pAll _)
                        (pAll _) (rAll _) (rAll _) (rAll _) (rAll _)
    | with_reducible refine settleAll_within ?_ (pAll _) (pAll _) (pAll _) (pAll _) (pAll _)
                        (pAll _) (rAll _) (rAll _) (rAll _)
    | with_reducible refine almanacWrite_within ?_ (pAll _) (pAll _) (rAll _) (rAll _)
    | with_reducible refine eventDelivery_within ?_ (pAll _) (pAll _) (pAll _) (pAll _) (pAll _)
                        (pAll _) (pAll _) (pAll _) (pAll _) (pAll _) (pAll _) (pAll _) rAll
    | with_reducible refine faultRelease_within ?_ (pAll _)
    | with_reducible refine handshakeEdge_within ?_ (pAll _) (pAll _) (pAll _) (pAll _) (pAll _)
                        (pAll _) (pAll _) (pAll _) (pAll _) (pAll _) (pAll _) (pAll _) (pAll _) (pAll _) (rAll _)
                        (rAll _) (rAll _) (rAll _) (rAll _) (rAll _) (rAll _) (rAll _) (rAll _) (rAll _) (rAll _)
                        (rAll _) (rAll _) (rAll _) (rAll _) (rAll _) (rAll _) (rAll _) (rAll _)
    | with_reducible refine stampHandover_within ?_ (pAll _) (pAll _) (pAll _) (pAll _) (pAll _)
                        (pAll _) (pAll _) (pAll _) (pAll _) (pAll _) (pAll _) (pAll _) (pAll _) (pAll _) (rAll _)
                        (rAll _) (rAll _) (rAll _) (rAll _) (rAll _) (rAll _) (rAll _) (rAll _) (rAll _) (rAll _)
    | with_reducible refine noteBusy_within ?_ (pAll _) | with_reducible refine performWaiting_within ?_ pAll rAll
    | with_reducible refine interruptRoute_within ?_ (pAll _)
    | with_reducible refine timersNext_within ?_ (pAll _) (pAll _)
    | with_reducible refine alarmEdge_within ?_ (pAll _) (pAll _) (pAll _) (pAll _) (rAll _)
    | with_reducible refine within_pair ?_ (by assumption) | split
    | (simp only [within_mk]
       refine WithinMk.intro ?_ rfl rfl rfl rfl (h_acc := .inl (pAll _)) (h_clk := .inl (pAll _)) (h_merger := .inl
           (pAll _)) (h_safety := .inl (pAll _)) (h_router := .inl (pAll _)) (h_timers := .inl (pAll _)) (h_drawbar :=
           .inl (pAll _)) (h_slots := .inl (pAll _)) (h_loop := .inl (pAll _)) (h_prRun := .inl (pAll _)) (h_homing :=
           .inl (pAll _)) (h_lanes := .inl (pAll _)) (h_phys := .inl (pAll _)) (h_cal := .inl (pAll _)) (h_coach := .inl
           (pAll _)) (h_sensor := .inl (pAll _)) (h_ic := .inl (pAll _)) (h_power := .inl (pAll _)) (h_nvm := .inl (pAll
           _)) (h_enclave := .inl (pAll _)) (h_host := .inl (pAll _)) (h_tw := .inl (pAll _)))

theorem x32Tick_within (h : Within P R s0 s) (p_mem : P .mem) (p_clk : P .clk) (p_safety : P .safety) (p_ic : P .ic)
    (p_power : P .power) (p_tw : P .tw) (r_vn_WSTAT : R (.vn .WSTAT)) (r_al_WIDX : R (.al .WIDX))
    (r_al_COUNT : R (.al .COUNT)) : Within P R s0 (x32Tick s) := by
  unfold x32Tick; try dsimp only
  repeat' first
    | with_reducible assumption | with_reducible refine almanacWrite_within ?_ p_mem p_safety r_al_WIDX r_al_COUNT
    | with_reducible refine faultRelease_within ?_ p_safety
    | with_reducible refine alarmEdge_within ?_ p_safety p_ic p_power p_tw r_vn_WSTAT
    | with_reducible refine within_pair ?_ (by assumption) | split
    | (simp only [within_mk]
       refine WithinMk.intro ?_ rfl rfl rfl rfl (h_clk := .inl p_clk) (h_safety := .inl p_safety) (h_ic := .inl
           p_ic) (h_power := .inl p_power) (h_tw := .inl p_tw))

theorem idle_within (h : Within P R s0 s) (pAll : ∀ p, P p) (rAll : ∀ r, R r) : Within P R s0 (idle s) := by
  unfold idle; try dsimp only
  repeat' first
    | with_reducible assumption | with_reducible refine busTick_within ?_ pAll rAll
    | with_reducible refine x32Tick_within ?_ (pAll _) (pAll _) (pAll _) (pAll _) (pAll _) (pAll
                        _) (rAll _) (rAll _) (rAll _)
    | with_reducible refine within_pair ?_ (by assumption) | split

end Sys2Proof.Machine
end

