-- ==== Sys2Proof/Laws/WithinDrawbarEvents.lean ====
section
/-! SUPPORT. What each operation of Machine/DrawbarEvents.lean can change: one lemma per operation (see Laws/WithinOps.lean). -/
namespace Sys2Proof.Machine
set_option Elab.async false

set_option linter.unusedVariables false
set_option linter.unusedSimpArgs false

variable {P : Part → Prop} {R : Reg → Prop} {s0 s t : State}

theorem noteClip_within (h : Within P R s0 s) (p_safety : P .safety) (p_ic : P .ic) (p_tw : P .tw)
    (r_db_PHYFLG : R (.db .PHYFLG)) : Within P R s0 (noteClip x1 x2 s) := by
  unfold noteClip; try dsimp only
  repeat' first
    | with_reducible assumption | with_reducible refine State.orReg_within ?_ p_safety p_ic p_tw (by assumption)
    | with_reducible refine within_pair ?_ (by assumption) | split

theorem syncFound_within (h : Within P R s0 s) (p_safety : P .safety) (p_drawbar : P .drawbar) (p_ic : P .ic)
    (p_tw : P .tw) (r_db_PHYFLG : R (.db .PHYFLG)) (r_db_CNT : R (.db .CNT)) (r_db_RXLEVEL : R (.db .RXLEVEL)) :
    Within P R s0 (syncFound x1 x2 x3 x4 x5 s) := by
  unfold syncFound; try dsimp only
  repeat' first
    | with_reducible assumption | with_reducible refine noteClip_within ?_ p_safety p_ic p_tw r_db_PHYFLG
    | with_reducible refine enterHeader_within ?_ p_drawbar r_db_CNT r_db_RXLEVEL
    | with_reducible refine within_pair ?_ (by assumption) | split

theorem headerDecoded_within (h : Within P R s0 s) (p_safety : P .safety) (p_drawbar : P .drawbar) (p_ic : P .ic)
    (p_tw : P .tw) (r_db_PHYFLG : R (.db .PHYFLG)) (r_db_CNT : R (.db .CNT)) : Within P R s0 (headerDecoded x1 x2 x3
    s) := by
  unfold headerDecoded; try dsimp only
  repeat' first
    | with_reducible assumption | with_reducible refine State.countFld_within ?_ (by assumption)
    | with_reducible refine noteClip_within ?_ p_safety p_ic p_tw r_db_PHYFLG
    | with_reducible refine toListen_within ?_ p_drawbar | with_reducible refine updPhy_within ?_ p_drawbar
    | with_reducible refine within_pair ?_ (by assumption) | split

theorem receptionComplete_within (h : Within P R s0 s) (p_merger : P .merger) (p_safety : P .safety)
    (p_router : P .router) (p_drawbar : P .drawbar) (p_ic : P .ic) (p_tw : P .tw) (r_db_PHYFLG : R (.db .PHYFLG))
    (r_db_DRIFT : R (.db .DRIFT)) (r_db_ACNT : R (.db .ACNT)) (r_db_LSTAT : R (.db .LSTAT))
    (r_db_LOST : R (.db .LOST)) (r_db_ALARM : R (.db .ALARM)) (r_db_AUID : R (.db .AUID)) : Within P R s0
    (receptionComplete x1 x2 x3 x4 s) := by
  unfold receptionComplete; try dsimp only
  repeat' first
    | with_reducible assumption | with_reducible refine State.setFld_within ?_ (by assumption)
    | with_reducible refine noteClip_within ?_ p_safety p_ic p_tw r_db_PHYFLG
    | with_reducible refine receivePacket_within ?_ p_merger p_safety p_router p_drawbar p_ic
                        p_tw r_db_ACNT r_db_LSTAT r_db_LOST r_db_ALARM r_db_AUID
    | with_reducible refine afterReception_within ?_ p_drawbar | with_reducible refine within_pair ?_ (by assumption)
    | split

theorem watchCandidate_within (h : Within P R s0 s) (p_drawbar : P .drawbar) : Within P R s0 (watchCandidate x1 x2 x3
    s) := by
  unfold watchCandidate; try dsimp only
  repeat' first
    | with_reducible assumption | with_reducible refine updPhy_within ?_ p_drawbar
    | with_reducible refine within_pair ?_ (by assumption) | split

theorem loseReception_within (h : Within P R s0 s) (p_merger : P .merger) (p_safety : P .safety)
    (p_router : P .router) (p_drawbar : P .drawbar) (p_ic : P .ic) (p_tw : P .tw) (r_db_CNT : R (.db .CNT))
    (r_db_ACNT : R (.db .ACNT)) (r_db_LSTAT : R (.db .LSTAT)) (r_db_LOST : R (.db .LOST)) : Within P R s0
    (loseReception x1 s) := by
  unfold loseReception; try dsimp only
  repeat' first
    | with_reducible assumption | with_reducible refine State.countFld_within ?_ (by assumption)
    | with_reducible refine failTry_within ?_ p_merger p_safety p_router p_drawbar p_ic p_tw
                        r_db_ACNT r_db_LSTAT r_db_LOST
    | with_reducible refine within_pair ?_ (by assumption) | split

theorem dropWatch_within (h : Within P R s0 s) (p_drawbar : P .drawbar) : Within P R s0 (dropWatch x1 s) := by
  unfold dropWatch; try dsimp only
  repeat' first
    | with_reducible assumption | with_reducible refine updPhy_within ?_ p_drawbar

theorem watchSync_within (h : Within P R s0 s) (p_merger : P .merger) (p_safety : P .safety) (p_router : P .router)
    (p_drawbar : P .drawbar) (p_ic : P .ic) (p_tw : P .tw) (r_db_CNT : R (.db .CNT)) (r_db_RXLEVEL : R (.db .RXLEVEL))
    (r_db_ACNT : R (.db .ACNT)) (r_db_LSTAT : R (.db .LSTAT)) (r_db_LOST : R (.db .LOST)) : Within P R s0 (watchSync
    x1 x2 x3 s) := by
  unfold watchSync; try dsimp only
  repeat' first
    | with_reducible assumption
    | with_reducible refine loseReception_within ?_ p_merger p_safety p_router p_drawbar p_ic
                        p_tw r_db_CNT r_db_ACNT r_db_LSTAT r_db_LOST
    | with_reducible refine State.countFld_within ?_ (by assumption)
    | with_reducible refine enterHeader_within ?_ p_drawbar r_db_CNT r_db_RXLEVEL
    | with_reducible refine updPhy_within ?_ p_drawbar | with_reducible refine dropWatch_within ?_ p_drawbar
    | with_reducible refine within_pair ?_ (by assumption) | split

theorem captureByLevel_within (h : Within P R s0 s) (p_merger : P .merger) (p_safety : P .safety)
    (p_router : P .router) (p_drawbar : P .drawbar) (p_ic : P .ic) (p_tw : P .tw) (r_db_CNT : R (.db .CNT))
    (r_db_ACNT : R (.db .ACNT)) (r_db_LSTAT : R (.db .LSTAT)) (r_db_LOST : R (.db .LOST)) : Within P R s0
    (captureByLevel x1 x2 s) := by
  unfold captureByLevel; try dsimp only
  repeat' first
    | with_reducible assumption
    | with_reducible refine loseReception_within ?_ p_merger p_safety p_router p_drawbar p_ic
                        p_tw r_db_CNT r_db_ACNT r_db_LSTAT r_db_LOST
    | with_reducible refine takeWatch_within ?_ p_drawbar | with_reducible refine within_pair ?_ (by assumption)
    | split

theorem capture_within (h : Within P R s0 s) (p_merger : P .merger) (p_safety : P .safety) (p_router : P .router)
    (p_drawbar : P .drawbar) (p_ic : P .ic) (p_tw : P .tw) (r_db_CNT : R (.db .CNT)) (r_db_RXLEVEL : R (.db .RXLEVEL))
    (r_db_ACNT : R (.db .ACNT)) (r_db_LSTAT : R (.db .LSTAT)) (r_db_LOST : R (.db .LOST)) : Within P R s0 (capture x1
    x2 s) := by
  unfold capture; try dsimp only
  repeat' first
    | with_reducible assumption
    | with_reducible refine captureByLevel_within ?_ p_merger p_safety p_router p_drawbar p_ic
                        p_tw r_db_CNT r_db_ACNT r_db_LSTAT r_db_LOST
    | with_reducible refine watchSync_within ?_ p_merger p_safety p_router p_drawbar p_ic p_tw
                        r_db_CNT r_db_RXLEVEL r_db_ACNT r_db_LSTAT r_db_LOST
    | with_reducible refine within_pair ?_ (by assumption) | split

theorem watchDeadline_within (h : Within P R s0 s) (p_drawbar : P .drawbar) (r_db_CNT : R (.db .CNT)) : Within P R s0
    (watchDeadline x1 s) := by
  unfold watchDeadline; try dsimp only
  repeat' first
    | with_reducible assumption | with_reducible refine State.countFld_within ?_ (by assumption)
    | with_reducible refine dropWatch_within ?_ p_drawbar | with_reducible refine within_pair ?_ (by assumption)
    | split

theorem blankEnd_within (h : Within P R s0 s) (p_drawbar : P .drawbar) : Within P R s0 (blankEnd x1 s) := by
  unfold blankEnd; try dsimp only
  repeat' first
    | with_reducible assumption | with_reducible refine toListen_within ?_ p_drawbar
    | with_reducible refine within_pair ?_ (by assumption) | split

theorem txOvercurrent_within (h : Within P R s0 s) (p_safety : P .safety) (p_drawbar : P .drawbar) (p_ic : P .ic)
    (p_tw : P .tw) (r_db_PHYFLG : R (.db .PHYFLG)) : Within P R s0 (txOvercurrent x1 s) := by
  unfold txOvercurrent; try dsimp only
  repeat' first
    | with_reducible assumption | with_reducible refine almanac_within ?_ p_safety
    | with_reducible refine updPhy_within ?_ p_drawbar
    | with_reducible refine State.orReg_within ?_ p_safety p_ic p_tw (by assumption)
    | with_reducible refine transmissionEnd_within ?_ p_drawbar
    | with_reducible refine within_pair ?_ (by assumption) | split

theorem refusedByDriver_within (h : Within P R s0 s) (p_merger : P .merger) (p_safety : P .safety)
    (p_router : P .router) (p_drawbar : P .drawbar) (p_ic : P .ic) (p_tw : P .tw) (r_db_ACNT : R (.db .ACNT))
    (r_db_LSTAT : R (.db .LSTAT)) (r_db_LOST : R (.db .LOST)) : Within P R s0 (refusedByDriver x1 s) := by
  unfold refusedByDriver; try dsimp only
  repeat' first
    | with_reducible assumption | with_reducible refine broadcastDone_within ?_ p_drawbar
    | with_reducible refine failTry_within ?_ p_merger p_safety p_router p_drawbar p_ic p_tw
                        r_db_ACNT r_db_LSTAT r_db_LOST
    | with_reducible refine within_pair ?_ (by assumption) | split

theorem exchangeStart_within (h : Within P R s0 s) (p_merger : P .merger) (p_safety : P .safety)
    (p_router : P .router) (p_drawbar : P .drawbar) (p_ic : P .ic) (p_tw : P .tw) (r_db_ACNT : R (.db .ACNT))
    (r_db_LSTAT : R (.db .LSTAT)) (r_db_LOST : R (.db .LOST)) (r_db_CNT : R (.db .CNT)) : Within P R s0 (exchangeStart
    x1 s) := by
  unfold exchangeStart; try dsimp only
  repeat' first
    | with_reducible assumption
    | with_reducible refine startWork_within ?_ p_merger p_safety p_router p_drawbar p_ic p_tw
                        r_db_CNT r_db_LSTAT r_db_LOST
    | with_reducible refine refusedByDriver_within ?_ p_merger p_safety p_router p_drawbar p_ic
                        p_tw r_db_ACNT r_db_LSTAT r_db_LOST
    | with_reducible refine within_pair ?_ (by assumption) | split

theorem responseTimeout_within (h : Within P R s0 s) (p_merger : P .merger) (p_safety : P .safety)
    (p_router : P .router) (p_drawbar : P .drawbar) (p_ic : P .ic) (p_tw : P .tw) (r_db_ACNT : R (.db .ACNT))
    (r_db_LSTAT : R (.db .LSTAT)) (r_db_LOST : R (.db .LOST)) : Within P R s0 (responseTimeout x1 s) := by
  unfold responseTimeout; try dsimp only
  repeat' first
    | with_reducible assumption
    | with_reducible refine failTry_within ?_ p_merger p_safety p_router p_drawbar p_ic p_tw
                        r_db_ACNT r_db_LSTAT r_db_LOST
    | with_reducible refine within_pair ?_ (by assumption) | split

theorem listenerDetect_within (h : Within P R s0 s) (p_safety : P .safety) (p_ic : P .ic) (p_power : P .power)
    (p_tw : P .tw) (r_vn_WSTAT : R (.vn .WSTAT)) : Within P R s0 (listenerDetect s) := by
  unfold listenerDetect; try dsimp only
  repeat' first
    | with_reducible assumption | with_reducible refine updPower_within ?_ p_power
    | with_reducible refine levelsFrom_within ?_ p_safety p_ic p_power p_tw r_vn_WSTAT
    | with_reducible refine within_pair ?_ (by assumption) | split

end Sys2Proof.Machine
end

