-- ==== Sys2Proof/Laws/WithinSlotEvents.lean ====
section
/-! SUPPORT. What each operation of Machine/SlotEvents.lean can change: one lemma per operation (see Laws/WithinOps.lean). -/
namespace Sys2Proof.Machine
set_option Elab.async false

set_option linter.unusedVariables false
set_option linter.unusedSimpArgs false

variable {P : Part → Prop} {R : Reg → Prop} {s0 s t : State}

theorem coolantStep_within (h : Within P R s0 s) (p_merger : P .merger) (p_safety : P .safety) (p_router : P .router)
    (p_timers : P .timers) (p_drawbar : P .drawbar) (p_slots : P .slots) (p_loop : P .loop) (p_ic : P .ic)
    (p_tw : P .tw) (r_ds_STAT : R (.ds .STAT)) (r_tm_STAT : R (.tm .STAT)) (r_tm_OUT : R (.tm .OUT))
    (r_tm_CMPA : R (.tm .CMPA)) (r_db_LSTAT : R (.db .LSTAT)) : Within P R s0 (coolantStep s) := by
  unfold coolantStep; try dsimp only
  repeat' first
    | with_reducible assumption
    | with_reducible refine loopStep_within ?_ p_merger p_safety p_router p_timers p_drawbar
                        p_slots p_loop p_ic p_tw r_ds_STAT r_tm_STAT r_tm_OUT r_tm_CMPA r_db_LSTAT
    | with_reducible refine within_pair ?_ (by assumption) | split

theorem serviceTaken_within (h : Within P R s0 s) (p_merger : P .merger) (p_safety : P .safety) (p_router : P .router)
    (p_drawbar : P .drawbar) (p_slots : P .slots) (p_prRun : P .prRun) (p_homing : P .homing) (p_ic : P .ic)
    (p_tw : P .tw) (r_ds_FHCTL : R (.ds .FHCTL)) (r_ds_STAT : R (.ds .STAT)) (r_ds_EVENTS : R (.ds .EVENTS))
    (r_db_LSTAT : R (.db .LSTAT)) (r_ds_PRCTL : R (.ds .PRCTL)) : Within P R s0 (serviceTaken x1 s) := by
  unfold serviceTaken; try dsimp only
  repeat' first
    | with_reducible assumption
    | with_reducible refine recallTake_within ?_ p_merger p_safety p_router p_drawbar p_slots
                        p_prRun p_ic p_tw r_ds_PRCTL r_ds_STAT r_ds_EVENTS r_db_LSTAT
    | with_reducible refine homingTake_within ?_ p_merger p_safety p_router p_drawbar p_slots
                        p_homing p_ic p_tw r_ds_FHCTL r_ds_STAT r_ds_EVENTS r_db_LSTAT
    | with_reducible refine within_pair ?_ (by assumption) | split

theorem recallTimeout_within (h : Within P R s0 s) (p_merger : P .merger) (p_safety : P .safety)
    (p_router : P .router) (p_drawbar : P .drawbar) (p_slots : P .slots) (p_prRun : P .prRun) (p_ic : P .ic)
    (p_tw : P .tw) (r_ds_STAT : R (.ds .STAT)) (r_ds_EVENTS : R (.ds .EVENTS)) (r_db_LSTAT : R (.db .LSTAT)) : Within
    P R s0 (recallTimeout s) := by
  unfold recallTimeout; try dsimp only
  repeat' first
    | with_reducible assumption
    | with_reducible refine recallAbort_within ?_ p_merger p_safety p_router p_drawbar p_slots
                        p_prRun p_ic p_tw r_ds_STAT r_ds_EVENTS r_db_LSTAT
    | with_reducible refine within_pair ?_ (by assumption) | split

theorem homingTimeout_within (h : Within P R s0 s) (p_merger : P .merger) (p_safety : P .safety)
    (p_router : P .router) (p_drawbar : P .drawbar) (p_slots : P .slots) (p_homing : P .homing) (p_ic : P .ic)
    (p_tw : P .tw) (r_ds_STAT : R (.ds .STAT)) (r_ds_EVENTS : R (.ds .EVENTS)) (r_db_LSTAT : R (.db .LSTAT)) : Within
    P R s0 (homingTimeout x1 s) := by
  unfold homingTimeout; try dsimp only
  repeat' first
    | with_reducible assumption
    | with_reducible refine homeFail_within ?_ p_merger p_safety p_router p_drawbar p_slots
                        p_homing p_ic p_tw r_ds_STAT r_ds_EVENTS r_db_LSTAT
    | with_reducible refine within_pair ?_ (by assumption) | split

theorem homeMore_within (h : Within P R s0 s) (p_merger : P .merger) (p_safety : P .safety) (p_router : P .router)
    (p_drawbar : P .drawbar) (p_slots : P .slots) (p_homing : P .homing) (p_ic : P .ic) (p_tw : P .tw)
    (r_ds_STAT : R (.ds .STAT)) (r_ds_EVENTS : R (.ds .EVENTS)) (r_db_LSTAT : R (.db .LSTAT)) : Within P R s0
    (homeMore x1 s) := by
  unfold homeMore; try dsimp only
  repeat' first
    | with_reducible assumption
    | with_reducible refine homingBegin_within ?_ p_merger p_safety p_router p_drawbar p_slots
                        p_homing p_ic p_tw r_ds_STAT r_ds_EVENTS r_db_LSTAT
    | with_reducible refine setHome_within ?_ p_homing | with_reducible refine updSlot_within ?_ p_slots
    | with_reducible refine homingAdvance_within ?_ p_merger p_safety p_router p_drawbar p_slots
                        p_homing p_ic p_tw r_ds_STAT r_ds_EVENTS r_db_LSTAT
    | with_reducible refine within_foldl (fun _ _ h => ?_) ?_
    | with_reducible refine within_foldl_snd (fun _ _ h => ?_) ?_
    | with_reducible refine within_foldl_fst (fun _ _ h => ?_) ?_
    | with_reducible refine within_pair ?_ (by assumption) | split

theorem autoHoming_within (h : Within P R s0 s) (p_merger : P .merger) (p_safety : P .safety) (p_router : P .router)
    (p_drawbar : P .drawbar) (p_slots : P .slots) (p_homing : P .homing) (p_ic : P .ic) (p_tw : P .tw)
    (r_ds_STAT : R (.ds .STAT)) (r_ds_EVENTS : R (.ds .EVENTS)) (r_db_LSTAT : R (.db .LSTAT)) : Within P R s0
    (autoHoming x1 s) := by
  unfold autoHoming; try dsimp only
  repeat' first
    | with_reducible assumption
    | with_reducible refine homeMore_within ?_ p_merger p_safety p_router p_drawbar p_slots
                        p_homing p_ic p_tw r_ds_STAT r_ds_EVENTS r_db_LSTAT
    | with_reducible refine within_pair ?_ (by assumption) | split

end Sys2Proof.Machine
end

