-- ==== Sys2Proof/Laws/WithinRegAccess.lean ====
section
/-! SUPPORT. What each operation of Machine/RegAccess.lean can change: one lemma per operation (see Laws/WithinOps.lean). -/
namespace Sys2Proof.Machine
set_option Elab.async false

set_option linter.unusedVariables false
set_option linter.unusedSimpArgs false

variable {P : Part → Prop} {R : Reg → Prop} {s0 s t : State}

theorem regPut_within (h : Within P R s0 s) (pAll : ∀ p, P p) (rAll : ∀ r, R r) : Within P R s0 (regPut x1 x2 x3 x4 s) := by
  unfold regPut
  exact regWrite_within (fun _ _ h => writeReg_within h pAll rAll) h (pAll _) (pAll _)

theorem regPut_at {a : Accessor} {r : Reg} {i : Nat} {v : Word}
    (he : ∀ v s, Within P R s0 s → Within P R s0 (writeReg a { reg := r, i := i, bus := 0 } v s))
    (h : Within P R s0 s) (p_acc : P .acc) (p_power : P .power) : Within P R s0 (regPut a r i v s) :=
  regWrite_within he h p_acc p_power

theorem regGet_at {a : Accessor} {r : Reg} {i : Nat}
    (he : ∀ s, Within P R s0 s → Within P R s0 (readReg a { reg := r, i := i, bus := 0 } s).2)
    (h : Within P R s0 s) (p_acc : P .acc) : Within P R s0 (regGet a r i s) :=
  regRead_within he h p_acc

theorem busPut_within (h : Within P R s0 s) (pAll : ∀ p, P p) (rAll : ∀ r, R r) : Within P R s0 (busPut x1 x2 x3 x4 s) := by
  unfold busPut
  exact regWrite_within (fun _ _ h => writeReg_within h pAll rAll) h (pAll _) (pAll _)

theorem busPut_at {a : Accessor} {r : Reg} {b : Fin 2} {v : Word}
    (he : ∀ v s, Within P R s0 s → Within P R s0 (writeReg a { reg := r, i := 0, bus := b } v s))
    (h : Within P R s0 s) (p_acc : P .acc) (p_power : P .power) : Within P R s0 (busPut a r b v s) :=
  regWrite_within he h p_acc p_power

theorem busGet_at {a : Accessor} {r : Reg} {b : Fin 2}
    (he : ∀ s, Within P R s0 s → Within P R s0 (readReg a { reg := r, i := 0, bus := b } s).2)
    (h : Within P R s0 s) (p_acc : P .acc) : Within P R s0 (busGet a r b s) :=
  regRead_within he h p_acc

theorem wideRead_within (h : Within P R s0 s) (p_acc : P .acc) (r_pw_STAMPH : R (.pw .STAMPH))
    (r_cw_TMEMH : R (.cw .TMEMH)) (r_cw_ACCH : R (.cw .ACCH)) (r_ds_POSH : R (.ds .POSH))
    (r_tm_CAPSTH : R (.tm .CAPSTH)) (r_rk_OLDH : R (.rk .OLDH)) (r_nv_UIDH : R (.nv .UIDH))
    (r_hp_SYNCH : R (.hp .SYNCH)) (r_tw_SYNCH : R (.tw .SYNCH)) (r_vn_ALARMH : R (.vn .ALARMH))
    (r_ev_LASTINF : R (.ev .LASTINF)) (r_db_AR : R (.db .AR)) : Within P R s0 (wideRead x1 x2 s) := by
  unfold wideRead; try dsimp only
  repeat' first
    | with_reducible assumption | with_reducible refine regGet_at (fun _ h => ?_) ?_ p_acc
    | with_reducible refine busGet_at (fun _ h => ?_) ?_ p_acc
    | with_reducible refine snapshot_within ?_ (by assumption)
    | with_reducible refine State.setReg_within ?_ (by assumption) | with_reducible refine readAr_within ?_ r_db_AR
    | with_reducible refine within_pair ?_ (by assumption)
    | simp only [writeReg, readReg, pwWrite, pwRead, cwWrite, cwRead, dsWrite, dsRead, rkWrite,
                        rkRead, dbWrite, dbRead, hpWrite, hpRead, twWrite, twRead, evWrite, evRead, tmWrite, tmRead,
                        nvWrite, nvRead, vnWrite, vnRead]
    | split

theorem wideWrite_within (h : Within P R s0 s) (p_acc : P .acc) (p_safety : P .safety) (p_slots : P .slots)
    (p_ic : P .ic) (p_power : P .power) (p_tw : P .tw) (r_vn_WAKECFG : R (.vn .WAKECFG)) (r_vn_WSTAT : R (.vn .WSTAT))
    (r_vn_ALARMH : R (.vn .ALARMH)) (r_vn_ALARML : R (.vn .ALARML)) (r_vn_MONCFG : R (.vn .MONCFG))
    (r_vn_CH : R (.vn .CH)) (r_vn_THR : R (.vn .THR)) (r_vn_CAPCFG : R (.vn .CAPCFG)) (r_vn_WAKEEN : R (.vn .WAKEEN))
    (r_vn_IEN : R (.vn .IEN)) (r_vn_MONSTAT : R (.vn .MONSTAT)) (r_vn_CTRL : R (.vn .CTRL)) : Within P R s0 (wideWrite
    x1 x2 x3 s) := by
  unfold wideWrite; try dsimp only
  repeat' first
    | with_reducible assumption | with_reducible refine regPut_at (fun _ _ h => ?_) ?_ p_acc p_power
    | with_reducible refine writePosition_within ?_ p_slots
    | with_reducible refine vnPlain_within ?_ p_safety p_ic p_power p_tw r_vn_WAKECFG r_vn_WSTAT
                        r_vn_ALARMH r_vn_ALARML r_vn_MONCFG r_vn_CH r_vn_THR r_vn_CAPCFG r_vn_WAKEEN r_vn_IEN
                        r_vn_MONSTAT r_vn_CTRL
    | with_reducible refine within_pair ?_ (by assumption)
    | simp only [writeReg, readReg, dsWrite, dsRead, vnWrite, vnRead] | split

theorem selectWrite_within (h : Within P R s0 s) (p_acc : P .acc) (p_power : P .power) (r_ln_SEL : R (.ln .SEL))
    (r_ds_SEL : R (.ds .SEL)) (r_tm_SEL : R (.tm .SEL)) (r_sp_SEL : R (.sp .SEL)) (r_ev_SEL : R (.ev .SEL))
    (r_db_ASEL : R (.db .ASEL)) : Within P R s0 (selectWrite x1 x2 x3 s) := by
  unfold selectWrite; try dsimp only
  repeat' first
    | with_reducible assumption | with_reducible refine busPut_at (fun _ _ h => ?_) ?_ p_acc p_power
    | with_reducible refine regPut_at (fun _ _ h => ?_) ?_ p_acc p_power
    | with_reducible refine writeSel_within ?_ (by assumption)
    | with_reducible refine State.setReg_within ?_ (by assumption)
    | with_reducible refine within_pair ?_ (by assumption)
    | simp only [writeReg, readReg, lnWrite, lnRead, dsWrite, dsRead, dbWrite, dbRead, spWrite,
                        spRead, evWrite, evRead, tmWrite, tmRead]
    | split

theorem trimWrite_within (h : Within P R s0 s) (p_acc : P .acc) (p_power : P .power) (r_ca_TRIMREF : R (.ca .TRIMREF))
    (r_ca_TRIMTS : R (.ca .TRIMTS)) (r_ca_TRIMVRC : R (.ca .TRIMVRC)) (r_ca_TRIMDB : R (.ca .TRIMDB))
    (r_ca_SETINIT : R (.ca .SETINIT)) : Within P R s0 (trimWrite x1 x2 x3 s) := by
  unfold trimWrite; try dsimp only
  repeat' first
    | with_reducible assumption | with_reducible refine regPut_at (fun _ _ h => ?_) ?_ p_acc p_power
    | with_reducible refine State.plainWrite_within ?_ (by assumption)
    | with_reducible refine within_pair ?_ (by assumption) | simp only [writeReg, readReg, caWrite, caRead] | split

theorem routeWrite_within (h : Within P R s0 s) (p_acc : P .acc) (p_safety : P .safety) (p_ic : P .ic)
    (p_power : P .power) (p_tw : P .tw) (r_ev_STAT : R (.ev .STAT)) (r_ev_PUB : R (.ev .PUB))
    (r_ev_SUB : R (.ev .SUB)) : Within P R s0 (routeWrite x1 x2 x3 s) := by
  unfold routeWrite; try dsimp only
  repeat' first
    | with_reducible assumption | with_reducible refine regPut_at (fun _ _ h => ?_) ?_ p_acc p_power
    | with_reducible refine entryWrite_within ?_ p_safety p_ic p_tw r_ev_STAT (by assumption)
    | with_reducible refine within_pair ?_ (by assumption) | simp only [writeReg, readReg, evWrite, evRead] | split

theorem slotCommand_within (ha : ∀ d c s, Within P R s0 s → Within P R s0 (x3 d c s)) (h : Within P R s0 s)
    (p_acc : P .acc) (p_merger : P .merger) (p_safety : P .safety) (p_router : P .router) (p_timers : P .timers)
    (p_drawbar : P .drawbar) (p_slots : P .slots) (p_prRun : P .prRun) (p_homing : P .homing) (p_ic : P .ic)
    (p_power : P .power) (p_tw : P .tw) (r_ds_STAT : R (.ds .STAT)) (r_ds_EVENTS : R (.ds .EVENTS))
    (r_db_LSTAT : R (.db .LSTAT)) (r_tm_STAT : R (.tm .STAT)) (r_tm_OUT : R (.tm .OUT)) (r_tm_CMPA : R (.tm .CMPA)) :
    Within P R s0 (slotCommand x1 x2 x3 x4 s) := by
  unfold slotCommand; try dsimp only
  repeat' first
    | with_reducible assumption | with_reducible refine ha _ _ _ ?_
    | with_reducible refine regPut_at (fun _ _ h => ?_) ?_ p_acc p_power
    | with_reducible refine writeDsCmd_within ?_ p_merger p_safety p_router p_timers p_drawbar
                        p_slots p_prRun p_homing p_ic p_tw r_ds_STAT r_ds_EVENTS r_db_LSTAT r_tm_STAT r_tm_OUT
                        r_tm_CMPA
    | with_reducible refine within_pair ?_ (by assumption) | simp only [writeReg, readReg, dsWrite, dsRead] | split

theorem timerVia_within (ha : ∀ n s, Within P R s0 s → Within P R s0 (x2 n s)) (h : Within P R s0 s) (p_acc : P .acc)
    (p_safety : P .safety) (p_router : P .router) (p_timers : P .timers) (p_drawbar : P .drawbar) (p_ic : P .ic)
    (p_power : P .power) (p_tw : P .tw) (r_tm_STAT : R (.tm .STAT)) (r_tm_OUT : R (.tm .OUT))
    (r_tm_CAP : R (.tm .CAP)) (r_db_LSTAT : R (.db .LSTAT)) : Within P R s0 (timerVia x1 x2 x3 s) := by
  unfold timerVia; try dsimp only
  repeat' first
    | with_reducible assumption | with_reducible refine ha _ _ ?_
    | with_reducible refine regPut_at (fun _ _ h => ?_) ?_ p_acc p_power
    | with_reducible refine writeTmCmd_within ?_ p_safety p_router p_timers p_drawbar p_ic p_tw
                        r_tm_STAT r_tm_OUT r_tm_CAP r_db_LSTAT
    | with_reducible refine within_pair ?_ (by assumption) | simp only [writeReg, readReg, tmWrite, tmRead] | split

theorem captureVia_within (h : Within P R s0 s) (p_acc : P .acc) (p_safety : P .safety) (p_router : P .router)
    (p_timers : P .timers) (p_drawbar : P .drawbar) (p_ic : P .ic) (p_power : P .power) (p_tw : P .tw)
    (r_tm_STAT : R (.tm .STAT)) (r_tm_OUT : R (.tm .OUT)) (r_tm_CAP : R (.tm .CAP)) (r_db_LSTAT : R (.db .LSTAT)) :
    Within P R s0 (captureVia x1 s) := by
  unfold captureVia; try dsimp only
  repeat' first
    | with_reducible assumption
    | with_reducible refine timerCapture_within ?_ p_safety p_timers p_ic p_tw r_tm_CAP r_tm_STAT
    | with_reducible refine settle_within ?_ p_safety p_router p_timers p_drawbar p_ic p_tw
                        r_db_LSTAT r_tm_STAT r_tm_OUT
    | with_reducible refine regPut_at (fun _ _ h => ?_) ?_ p_acc p_power
    | with_reducible refine writeTmCmd_within ?_ p_safety p_router p_timers p_drawbar p_ic p_tw
                        r_tm_STAT r_tm_OUT r_tm_CAP r_db_LSTAT
    | with_reducible refine within_pair ?_ (by assumption) | simp only [writeReg, readReg, tmWrite, tmRead] | split

theorem takeEdge_within (h : Within P R s0 s) (p_timers : P .timers) : Within P R s0 (takeEdge x1 s) := by
  unfold takeEdge; try dsimp only
  repeat' first
    | with_reducible assumption | with_reducible refine updTimer_within ?_ p_timers

theorem wrapEdge_within (h : Within P R s0 s) (p_safety : P .safety) (p_router : P .router) (p_timers : P .timers)
    (p_drawbar : P .drawbar) (p_ic : P .ic) (p_tw : P .tw) (r_db_LSTAT : R (.db .LSTAT)) (r_tm_STAT : R (.tm .STAT))
    (r_tm_OUT : R (.tm .OUT)) : Within P R s0 (wrapEdge x1 s) := by
  unfold wrapEdge; try dsimp only
  repeat' first
    | with_reducible assumption
    | with_reducible refine timerWrap_within ?_ p_safety p_router p_timers p_drawbar p_ic p_tw
                        r_db_LSTAT r_tm_STAT r_tm_OUT
    | with_reducible refine takeEdge_within ?_ p_timers | with_reducible refine within_pair ?_ (by assumption)
    | split

theorem compareEdge_within (h : Within P R s0 s) (p_safety : P .safety) (p_router : P .router) (p_timers : P .timers)
    (p_drawbar : P .drawbar) (p_ic : P .ic) (p_tw : P .tw) (r_db_LSTAT : R (.db .LSTAT)) (r_tm_STAT : R (.tm .STAT))
    (r_tm_OUT : R (.tm .OUT)) : Within P R s0 (compareEdge x1 s) := by
  unfold compareEdge; try dsimp only
  repeat' first
    | with_reducible assumption | with_reducible refine takeEdge_within ?_ p_timers
    | with_reducible refine countEdge_within ?_ p_safety p_router p_timers p_drawbar p_ic p_tw
                        r_db_LSTAT r_tm_STAT r_tm_OUT
    | with_reducible refine within_pair ?_ (by assumption) | split

theorem storedTask_within (h : Within P R s0 s) (p_safety : P .safety) (p_drawbar : P .drawbar) (p_ic : P .ic)
    (p_tw : P .tw) (r_ev_STAT : R (.ev .STAT)) (r_db_LSTAT : R (.db .LSTAT)) : Within P R s0 (storedTask x1 x2 s) := by
  unfold storedTask; try dsimp only
  repeat' first
    | with_reducible assumption | with_reducible refine State.orReg_within ?_ p_safety p_ic p_tw (by assumption)
    | with_reducible refine storedTrigger_within ?_ p_safety p_drawbar p_ic p_tw r_db_LSTAT
    | with_reducible refine within_pair ?_ (by assumption) | split

theorem profileTask_within (h : Within P R s0 s) (p_safety : P .safety) (p_sensor : P .sensor) (p_ic : P .ic)
    (p_tw : P .tw) (r_ev_STAT : R (.ev .STAT)) (r_ev_SPMISS : R (.ev .SPMISS)) : Within P R s0 (profileTask x1 s) := by
  unfold profileTask; try dsimp only
  repeat' first
    | with_reducible assumption | with_reducible refine profileTrigger_within ?_ p_sensor
    | with_reducible refine State.orReg_within ?_ p_safety p_ic p_tw (by assumption)
    | with_reducible refine within_pair ?_ (by assumption) | split

theorem badOpFrame_within (h : Within P R s0 s) (pAll : ∀ p, P p) (rAll : ∀ r, R r) : Within P R s0 (badOpFrame x1 x2
    s) := by
  unfold badOpFrame; try dsimp only
  repeat' first
    | with_reducible assumption | with_reducible refine hostFrame_within ?_ pAll rAll
    | with_reducible refine within_pair ?_ (by assumption) | split

theorem twUnknownCode_within (h : Within P R s0 s) (p_safety : P .safety) (p_ic : P .ic) (p_tw : P .tw)
    (r_tw_STAT : R (.tw .STAT)) : Within P R s0 (twUnknownCode x1 s) := by
  unfold twUnknownCode; try dsimp only
  repeat' first
    | with_reducible assumption | with_reducible refine twUnknown_within ?_ p_safety p_ic p_tw r_tw_STAT
    | with_reducible refine within_pair ?_ (by assumption) | split

theorem coreFails_within (h : Within P R s0 s) (p_acc : P .acc) (p_mem : P .mem) (p_safety : P .safety) (p_ic : P .ic)
    (p_tw : P .tw) (rAll : ∀ r, R r) : Within P R s0 (coreFails x1 x2 s) := by
  unfold coreFails; try dsimp only
  repeat' first
    | with_reducible assumption | with_reducible refine tcmError_within ?_ p_acc p_mem p_safety p_ic p_tw rAll
    | with_reducible refine coreFault_within ?_ p_acc p_ic rAll
    | with_reducible refine within_pair ?_ (by assumption) | split

theorem coreWaits_within (h : Within P R s0 s) (p_ic : P .ic) : Within P R s0 (coreWaits x1 s) := by
  unfold coreWaits; try dsimp only
  repeat' first
    | with_reducible assumption | with_reducible refine coreWfi_within ?_ p_ic
    | with_reducible refine within_pair ?_ (by assumption) | split

theorem wakeLatch_within (h : Within P R s0 s) (p_safety : P .safety) (p_ic : P .ic) (p_power : P .power)
    (p_tw : P .tw) (r_vn_WSTAT : R (.vn .WSTAT)) : Within P R s0 (wakeLatch x1 s) := by
  unfold wakeLatch; try dsimp only
  repeat' first
    | with_reducible assumption | with_reducible refine wakeLatchSet_within ?_ p_safety p_ic p_power p_tw r_vn_WSTAT
    | with_reducible refine within_pair ?_ (by assumption) | split

theorem pinReset_within (h : Within P R s0 s) (pAll : ∀ p, P p) (rAll : ∀ r, R r) : Within P R s0 (pinReset x1 s) := by
  unfold pinReset; try dsimp only
  repeat' first
    | with_reducible assumption | with_reducible refine State.free_within ?_
    | with_reducible refine keepReset_within ?_ pAll rAll | with_reducible refine within_pair ?_ (by assumption)
    | split

theorem storeCommand_within (h : Within P R s0 s) (pAll : ∀ p, P p) (rAll : ∀ r, R r) : Within P R s0 (storeCommand x1
    x2 s) := by
  unfold storeCommand; try dsimp only
  repeat' first
    | with_reducible assumption | with_reducible refine nvWrite_within ?_ pAll rAll
    | with_reducible refine regWrite_within (fun _ _ h => ?_) ?_ (pAll _) (pAll _)

theorem mailbox_within (h : Within P R s0 s) (p_acc : P .acc) (p_safety : P .safety) (p_ic : P .ic)
    (p_power : P .power) (p_enclave : P .enclave) (p_tw : P .tw) (r_se_STAT : R (.se .STAT)) : Within P R s0 (mailbox
    x1 x2 x3 x4 s) := by
  unfold mailbox; try dsimp only
  repeat' first
    | with_reducible assumption | with_reducible refine regPut_at (fun _ _ h => ?_) ?_ p_acc p_power
    | with_reducible refine seCommand_within ?_ p_safety p_ic p_enclave p_tw r_se_STAT
    | with_reducible refine within_pair ?_ (by assumption) | simp only [writeReg, readReg, seWrite]

end Sys2Proof.Machine
end

