-- ==== Sys2Proof/Laws/WithinSystemRows.lean ====
section
/-! SUPPORT. What each operation of Machine/SystemRows.lean can change: one lemma per operation (see Laws/WithinOps.lean). -/
namespace Sys2Proof.Machine
set_option Elab.async false

set_option linter.unusedVariables false
set_option linter.unusedSimpArgs false

variable {P : Part → Prop} {R : Reg → Prop} {s0 s t : State}

theorem execStampHighChange_within (h : Within P R s0 s) (p_merger : P .merger) (e : execStampHighChange s = .next t)
    : Within P R s0 t := by
  unfold execStampHighChange at e; injection e with e; subst e
  repeat' first
    | with_reducible assumption | with_reducible refine stampHighChange_within ?_ p_merger

theorem execEpochWrite_within (h : Within P R s0 s) (p_mem : P .mem) (p_merger : P .merger) (p_safety : P .safety)
    (p_router : P .router) (p_ic : P .ic) (p_tw : P .tw) (r_rk_STAT : R (.rk .STAT)) (r_rk_LATE : R (.rk .LATE))
    (r_rk_OVCNT : R (.rk .OVCNT)) (r_rk_CnSTAT : R (.rk .CnSTAT)) (e : execEpochWrite s = .next t) : Within P R s0 t := by
  unfold execEpochWrite at e; injection e with e; subst e
  repeat' first
    | with_reducible assumption
    | with_reducible refine epochWrite_within ?_ p_mem p_merger p_safety p_router p_ic p_tw
                        r_rk_STAT r_rk_LATE r_rk_OVCNT r_rk_CnSTAT

theorem execStampHandover_within (h : Within P R s0 s) (pAll : ∀ p, P p) (rAll : ∀ r, R r)
    (e : execStampHandover s = .next t) : Within P R s0 t := by
  unfold execStampHandover at e; injection e with e; subst e
  repeat' first
    | with_reducible assumption
    | with_reducible refine stampHandover_within ?_ (pAll _) (pAll _) (pAll _) (pAll _) (pAll _)
                        (pAll _) (pAll _) (pAll _) (pAll _) (pAll _) (pAll _) (pAll _) (pAll _) (pAll _) (rAll _)
                        (rAll _) (rAll _) (rAll _) (rAll _) (rAll _) (rAll _) (rAll _) (rAll _) (rAll _) (rAll _)
    | with_reducible refine performWaiting_within ?_ pAll rAll

theorem execWideValueRead_within (h : Within P R s0 s) (p_acc : P .acc) (r_pw_STAMPH : R (.pw .STAMPH))
    (r_cw_TMEMH : R (.cw .TMEMH)) (r_cw_ACCH : R (.cw .ACCH)) (r_ds_POSH : R (.ds .POSH))
    (r_tm_CAPSTH : R (.tm .CAPSTH)) (r_rk_OLDH : R (.rk .OLDH)) (r_nv_UIDH : R (.nv .UIDH))
    (r_hp_SYNCH : R (.hp .SYNCH)) (r_tw_SYNCH : R (.tw .SYNCH)) (r_vn_ALARMH : R (.vn .ALARMH))
    (r_ev_LASTINF : R (.ev .LASTINF)) (r_db_AR : R (.db .AR)) (e : execWideValueRead x1 x2 s = .next t) : Within P R
    s0 t := by
  unfold execWideValueRead at e; injection e with e; subst e
  repeat' first
    | with_reducible assumption
    | with_reducible refine wideRead_within ?_ p_acc r_pw_STAMPH r_cw_TMEMH r_cw_ACCH r_ds_POSH
                        r_tm_CAPSTH r_rk_OLDH r_nv_UIDH r_hp_SYNCH r_tw_SYNCH r_vn_ALARMH r_ev_LASTINF r_db_AR

theorem execWideValueWrite_within (h : Within P R s0 s) (p_acc : P .acc) (p_safety : P .safety) (p_slots : P .slots)
    (p_ic : P .ic) (p_power : P .power) (p_tw : P .tw) (r_vn_WAKECFG : R (.vn .WAKECFG)) (r_vn_WSTAT : R (.vn .WSTAT))
    (r_vn_ALARMH : R (.vn .ALARMH)) (r_vn_ALARML : R (.vn .ALARML)) (r_vn_MONCFG : R (.vn .MONCFG))
    (r_vn_CH : R (.vn .CH)) (r_vn_THR : R (.vn .THR)) (r_vn_CAPCFG : R (.vn .CAPCFG)) (r_vn_WAKEEN : R (.vn .WAKEEN))
    (r_vn_IEN : R (.vn .IEN)) (r_vn_MONSTAT : R (.vn .MONSTAT)) (r_vn_CTRL : R (.vn .CTRL))
    (e : execWideValueWrite x1 x2 x3 s = .next t) : Within P R s0 t := by
  unfold execWideValueWrite at e; injection e with e; subst e
  repeat' first
    | with_reducible assumption
    | with_reducible refine wideWrite_within ?_ p_acc p_safety p_slots p_ic p_power p_tw
                        r_vn_WAKECFG r_vn_WSTAT r_vn_ALARMH r_vn_ALARML r_vn_MONCFG r_vn_CH r_vn_THR r_vn_CAPCFG
                        r_vn_WAKEEN r_vn_IEN r_vn_MONSTAT r_vn_CTRL

theorem execSelectWrite_within (h : Within P R s0 s) (p_acc : P .acc) (p_power : P .power) (r_ln_SEL : R (.ln .SEL))
    (r_ds_SEL : R (.ds .SEL)) (r_tm_SEL : R (.tm .SEL)) (r_sp_SEL : R (.sp .SEL)) (r_ev_SEL : R (.ev .SEL))
    (r_db_ASEL : R (.db .ASEL)) (e : execSelectWrite x1 x2 x3 s = .next t) : Within P R s0 t := by
  unfold execSelectWrite at e; injection e with e; subst e
  repeat' first
    | with_reducible assumption
    | with_reducible refine selectWrite_within ?_ p_acc p_power r_ln_SEL r_ds_SEL r_tm_SEL
                        r_sp_SEL r_ev_SEL r_db_ASEL

theorem execRegisterWrite_within (h : Within P R s0 s) (pAll : ∀ p, P p) (rAll : ∀ r, R r)
    (e : execRegisterWrite x1 x2 x3 x4 s = .next t) : Within P R s0 t := by
  unfold execRegisterWrite at e; injection e with e; subst e
  repeat' first
    | with_reducible assumption | with_reducible refine busWrite_within ?_ pAll rAll
    | with_reducible refine performWaiting_within ?_ pAll rAll

theorem execStalledAccessComplete_within (h : Within P R s0 s) (pAll : ∀ p, P p) (rAll : ∀ r, R r)
    (e : execStalledAccessComplete x1 s = .next t) : Within P R s0 t := by
  unfold execStalledAccessComplete at e; injection e with e; subst e
  repeat' first
    | with_reducible assumption | with_reducible refine stalledComplete_within ?_ pAll rAll

theorem execReadClearAccess_within (h : Within P R s0 s) (p_acc : P .acc) (p_safety : P .safety)
    (p_timers : P .timers) (p_sensor : P .sensor) (p_ic : P .ic) (p_power : P .power) (p_tw : P .tw) (rAll : ∀ r, R r)
    (e : execReadClearAccess x1 x2 x3 s = .next t) : Within P R s0 t := by
  unfold execReadClearAccess at e; injection e with e; subst e
  repeat' first
    | with_reducible assumption
    | with_reducible refine busRead_within ?_ p_acc p_safety p_timers p_sensor p_ic p_power p_tw rAll

end Sys2Proof.Machine
end

