-- ==== Sys2Proof/Laws/WithinLaneRows.lean ====
section
/-! SUPPORT. What each operation of Machine/LaneRows.lean can change: one lemma per operation (see Laws/WithinOps.lean). -/
namespace Sys2Proof.Machine
set_option Elab.async false

set_option linter.unusedVariables false
set_option linter.unusedSimpArgs false

variable {P : Part → Prop} {R : Reg → Prop} {s0 s t : State}

theorem execLaneEnable_within (h : Within P R s0 s) (p_acc : P .acc) (p_merger : P .merger) (p_safety : P .safety)
    (p_router : P .router) (p_drawbar : P .drawbar) (p_slots : P .slots) (p_lanes : P .lanes) (p_phys : P .phys)
    (p_cal : P .cal) (p_coach : P .coach) (p_ic : P .ic) (p_power : P .power) (p_host : P .host) (p_tw : P .tw)
    (r_ln_ENABLE : R (.ln .ENABLE)) (r_ca_STAT : R (.ca .STAT)) (r_ca_LTEMP : R (.ca .LTEMP))
    (r_ca_RUN : R (.ca .RUN)) (r_ln_STAT : R (.ln .STAT)) (r_al_FSTAT : R (.al .FSTAT))
    (r_ln_FAULTS : R (.ln .FAULTS)) (r_rk_STAT : R (.rk .STAT)) (r_cw_TFAULT : R (.cw .TFAULT))
    (r_cw_LDSTAT : R (.cw .LDSTAT)) (r_ds_EVENTS : R (.ds .EVENTS)) (r_db_LSTAT : R (.db .LSTAT))
    (e : execLaneEnable x1 x2 s = .next t) : Within P R s0 t := by
  unfold execLaneEnable at e; injection e with e; subst e
  repeat' first
    | with_reducible assumption | with_reducible refine regPut_at (fun _ _ h => ?_) ?_ p_acc p_power
    | with_reducible refine writeEnable_within ?_ p_merger p_safety p_router p_drawbar p_slots
                        p_lanes p_phys p_cal p_coach p_ic p_host p_tw r_ln_ENABLE r_ca_STAT r_ca_LTEMP r_ca_RUN
                        r_ln_STAT r_al_FSTAT r_ln_FAULTS r_rk_STAT r_cw_TFAULT r_cw_LDSTAT r_ds_EVENTS r_db_LSTAT
    | with_reducible refine within_pair ?_ (by assumption) | simp only [writeReg, readReg, lnWrite, lnRead] | split

theorem execLaneStop_within (h : Within P R s0 s) (p_acc : P .acc) (p_merger : P .merger) (p_safety : P .safety)
    (p_router : P .router) (p_drawbar : P .drawbar) (p_slots : P .slots) (p_lanes : P .lanes) (p_phys : P .phys)
    (p_cal : P .cal) (p_coach : P .coach) (p_ic : P .ic) (p_power : P .power) (p_host : P .host) (p_tw : P .tw)
    (r_ln_ENABLE : R (.ln .ENABLE)) (r_ca_STAT : R (.ca .STAT)) (r_ca_LTEMP : R (.ca .LTEMP))
    (r_ca_RUN : R (.ca .RUN)) (r_ln_STAT : R (.ln .STAT)) (r_al_FSTAT : R (.al .FSTAT))
    (r_ln_FAULTS : R (.ln .FAULTS)) (r_rk_STAT : R (.rk .STAT)) (r_cw_TFAULT : R (.cw .TFAULT))
    (r_cw_LDSTAT : R (.cw .LDSTAT)) (r_ds_EVENTS : R (.ds .EVENTS)) (r_db_LSTAT : R (.db .LSTAT))
    (e : execLaneStop x1 x2 s = .next t) : Within P R s0 t := by
  unfold execLaneStop at e; injection e with e; subst e
  repeat' first
    | with_reducible assumption | with_reducible refine regPut_at (fun _ _ h => ?_) ?_ p_acc p_power
    | with_reducible refine writeEnable_within ?_ p_merger p_safety p_router p_drawbar p_slots
                        p_lanes p_phys p_cal p_coach p_ic p_host p_tw r_ln_ENABLE r_ca_STAT r_ca_LTEMP r_ca_RUN
                        r_ln_STAT r_al_FSTAT r_ln_FAULTS r_rk_STAT r_cw_TFAULT r_cw_LDSTAT r_ds_EVENTS r_db_LSTAT
    | with_reducible refine within_pair ?_ (by assumption) | simp only [writeReg, readReg, lnWrite, lnRead] | split

theorem execLaneCommit_within (h : Within P R s0 s) (p_acc : P .acc) (p_safety : P .safety) (p_lanes : P .lanes)
    (p_phys : P .phys) (p_ic : P .ic) (p_power : P .power) (p_tw : P .tw) (r_ln_STAT : R (.ln .STAT))
    (e : execLaneCommit x1 s = .next t) : Within P R s0 t := by
  unfold execLaneCommit at e; injection e with e; subst e
  repeat' first
    | with_reducible assumption | with_reducible refine regPut_at (fun _ _ h => ?_) ?_ p_acc p_power
    | with_reducible refine writeLnCmd_within ?_ p_safety p_lanes p_phys p_ic p_tw r_ln_STAT
    | with_reducible refine within_pair ?_ (by assumption) | simp only [writeReg, readReg, lnWrite, lnRead] | split

theorem execLaneRestart_within (h : Within P R s0 s) (p_acc : P .acc) (p_safety : P .safety) (p_lanes : P .lanes)
    (p_phys : P .phys) (p_ic : P .ic) (p_power : P .power) (p_tw : P .tw) (r_ln_STAT : R (.ln .STAT))
    (e : execLaneRestart x1 s = .next t) : Within P R s0 t := by
  unfold execLaneRestart at e; injection e with e; subst e
  repeat' first
    | with_reducible assumption | with_reducible refine regPut_at (fun _ _ h => ?_) ?_ p_acc p_power
    | with_reducible refine writeLnCmd_within ?_ p_safety p_lanes p_phys p_ic p_tw r_ln_STAT
    | with_reducible refine within_pair ?_ (by assumption) | simp only [writeReg, readReg, lnWrite, lnRead] | split

theorem execLaneTestnow_within (h : Within P R s0 s) (p_acc : P .acc) (p_safety : P .safety) (p_lanes : P .lanes)
    (p_phys : P .phys) (p_ic : P .ic) (p_power : P .power) (p_tw : P .tw) (r_ln_STAT : R (.ln .STAT))
    (e : execLaneTestnow x1 s = .next t) : Within P R s0 t := by
  unfold execLaneTestnow at e; injection e with e; subst e
  repeat' first
    | with_reducible assumption | with_reducible refine regPut_at (fun _ _ h => ?_) ?_ p_acc p_power
    | with_reducible refine writeLnCmd_within ?_ p_safety p_lanes p_phys p_ic p_tw r_ln_STAT
    | with_reducible refine within_pair ?_ (by assumption) | simp only [writeReg, readReg, lnWrite, lnRead] | split

theorem execScanCycleStart_within (h : Within P R s0 s) (p_safety : P .safety) (p_lanes : P .lanes) (p_ic : P .ic)
    (p_tw : P .tw) (r_ln_STAT : R (.ln .STAT)) (e : execScanCycleStart x1 x2 s = .next t) : Within P R s0 t := by
  unfold execScanCycleStart at e; injection e with e; subst e
  repeat' first
    | with_reducible assumption | with_reducible refine startCondition_within ?_ p_safety p_lanes p_ic p_tw r_ln_STAT
    | with_reducible refine cycleStart_within ?_ p_safety p_lanes p_ic p_tw r_ln_STAT
    | with_reducible refine within_pair ?_ (by assumption) | split

theorem execSettleEnd_within (h : Within P R s0 s) (p_safety : P .safety) (p_lanes : P .lanes) (p_ic : P .ic)
    (p_tw : P .tw) (r_ln_STAT : R (.ln .STAT)) (e : execSettleEnd x1 s = .next t) : Within P R s0 t := by
  unfold execSettleEnd at e; injection e with e; subst e
  repeat' first
    | with_reducible assumption | with_reducible refine settleEnd_within ?_ p_safety p_lanes p_ic p_tw r_ln_STAT

theorem execConversionComplete_within (h : Within P R s0 s) (p_merger : P .merger) (p_safety : P .safety)
    (p_router : P .router) (p_drawbar : P .drawbar) (p_slots : P .slots) (p_lanes : P .lanes) (p_phys : P .phys)
    (p_cal : P .cal) (p_coach : P .coach) (p_ic : P .ic) (p_host : P .host) (p_tw : P .tw) (r_ln_ICNT : R (.ln .ICNT))
    (r_ca_STAT : R (.ca .STAT)) (r_ca_LTEMP : R (.ca .LTEMP)) (r_ca_RUN : R (.ca .RUN)) (r_al_FSTAT : R (.al .FSTAT))
    (r_ln_STAT : R (.ln .STAT)) (r_ln_FAULTS : R (.ln .FAULTS)) (r_rk_STAT : R (.rk .STAT))
    (r_cw_TFAULT : R (.cw .TFAULT)) (r_cw_LDSTAT : R (.cw .LDSTAT)) (r_ds_EVENTS : R (.ds .EVENTS))
    (r_db_LSTAT : R (.db .LSTAT)) (r_ln_LAST : R (.ln .LAST)) (r_cw_TAPOVR : R (.cw .TAPOVR))
    (e : execConversionComplete x1 x2 x3 x4 s = .next t) : Within P R s0 t := by
  unfold execConversionComplete at e; injection e with e; subst e
  repeat' first
    | with_reducible assumption
    | with_reducible refine conversion_within ?_ p_merger p_safety p_router p_drawbar p_slots
                        p_lanes p_phys p_cal p_coach p_ic p_host p_tw r_ln_ICNT r_ca_STAT r_ca_LTEMP r_ca_RUN
                        r_al_FSTAT r_ln_STAT r_ln_FAULTS r_rk_STAT r_cw_TFAULT r_cw_LDSTAT r_ds_EVENTS r_db_LSTAT
                        r_ln_LAST r_cw_TAPOVR

theorem execWithheldWordRelease_within (h : Within P R s0 s) (p_merger : P .merger) (p_safety : P .safety)
    (p_lanes : P .lanes) (p_coach : P .coach) (p_ic : P .ic) (p_tw : P .tw) (r_ln_LAST : R (.ln .LAST))
    (r_cw_TAPOVR : R (.cw .TAPOVR)) (e : execWithheldWordRelease x1 s = .next t) : Within P R s0 t := by
  unfold execWithheldWordRelease at e; injection e with e; subst e
  repeat' first
    | with_reducible assumption
    | with_reducible refine releaseCleared_within ?_ p_merger p_safety p_lanes p_coach p_ic p_tw
                        r_ln_LAST r_cw_TAPOVR

theorem execLaneSubstComplete_within (h : Within P R s0 s) (p_merger : P .merger) (p_safety : P .safety)
    (p_lanes : P .lanes) (p_ic : P .ic) (p_tw : P .tw) (r_ln_STAT : R (.ln .STAT)) (r_ca_RUN : R (.ca .RUN))
    (r_ln_FAULTS : R (.ln .FAULTS)) (e : execLaneSubstComplete x1 s = .next t) : Within P R s0 t := by
  unfold execLaneSubstComplete at e; injection e with e; subst e
  repeat' first
    | with_reducible assumption
    | with_reducible refine laneSubstComplete_within ?_ p_merger p_safety p_lanes p_ic p_tw
                        r_ln_STAT r_ca_RUN r_ln_FAULTS

theorem execLaneTimerTick_within (h : Within P R s0 s) (p_phys : P .phys) (e : execLaneTimerTick x1 s = .next t) :
    Within P R s0 t := by
  unfold execLaneTimerTick at e; injection e with e; subst e
  repeat' first
    | with_reducible assumption | with_reducible refine laneTimerTick_within ?_ p_phys

theorem execReferenceTestStart_within (h : Within P R s0 s) (p_phys : P .phys)
    (e : execReferenceTestStart x1 s = .next t) : Within P R s0 t := by
  unfold execReferenceTestStart at e; injection e with e; subst e
  repeat' first
    | with_reducible assumption | with_reducible refine testStart_within ?_ p_phys

theorem execReferenceTestDone_within (h : Within P R s0 s) (p_merger : P .merger) (p_safety : P .safety)
    (p_router : P .router) (p_drawbar : P .drawbar) (p_slots : P .slots) (p_lanes : P .lanes) (p_phys : P .phys)
    (p_cal : P .cal) (p_coach : P .coach) (p_ic : P .ic) (p_host : P .host) (p_tw : P .tw) (r_ln_ICNT : R (.ln .ICNT))
    (r_ca_STAT : R (.ca .STAT)) (r_ca_LTEMP : R (.ca .LTEMP)) (r_ca_RUN : R (.ca .RUN)) (r_al_FSTAT : R (.al .FSTAT))
    (r_ln_STAT : R (.ln .STAT)) (r_ln_FAULTS : R (.ln .FAULTS)) (r_rk_STAT : R (.rk .STAT))
    (r_cw_TFAULT : R (.cw .TFAULT)) (r_cw_LDSTAT : R (.cw .LDSTAT)) (r_ds_EVENTS : R (.ds .EVENTS))
    (r_db_LSTAT : R (.db .LSTAT)) (e : execReferenceTestDone x1 x2 x3 s = .next t) : Within P R s0 t := by
  unfold execReferenceTestDone at e; injection e with e; subst e
  repeat' first
    | with_reducible assumption
    | with_reducible refine testDone_within ?_ p_merger p_safety p_router p_drawbar p_slots
                        p_lanes p_phys p_cal p_coach p_ic p_host p_tw r_ln_ICNT r_ca_STAT r_ca_LTEMP r_ca_RUN
                        r_al_FSTAT r_ln_STAT r_ln_FAULTS r_rk_STAT r_cw_TFAULT r_cw_LDSTAT r_ds_EVENTS r_db_LSTAT

theorem execLaneRetest_within (h : Within P R s0 s) (p_acc : P .acc) (p_phys : P .phys) (p_power : P .power)
    (e : execLaneRetest x1 s = .next t) : Within P R s0 t := by
  unfold execLaneRetest at e; injection e with e; subst e
  repeat' first
    | with_reducible assumption | with_reducible refine regPut_at (fun _ _ h => ?_) ?_ p_acc p_power
    | with_reducible refine laneRetest_within ?_ p_phys | with_reducible refine within_pair ?_ (by assumption)
    | simp only [writeReg, readReg, lnWrite, lnRead] | split

theorem execLaneRetestDone_within (h : Within P R s0 s) (p_safety : P .safety) (p_phys : P .phys)
    (e : execLaneRetestDone x1 x2 x3 s = .next t) : Within P R s0 t := by
  unfold execLaneRetestDone at e; injection e with e; subst e
  repeat' first
    | with_reducible assumption | with_reducible refine laneRetestDone_within ?_ p_safety p_phys

theorem execTemperatureReading_within (h : Within P R s0 s) (p_safety : P .safety) (p_cal : P .cal) (p_ic : P .ic)
    (p_tw : P .tw) (r_ca_TEMP : R (.ca .TEMP)) (r_ca_RUN : R (.ca .RUN)) (e : execTemperatureReading x1 s = .next t) :
    Within P R s0 t := by
  unfold execTemperatureReading at e; injection e with e; subst e
  repeat' first
    | with_reducible assumption
    | with_reducible refine temperatureReading_within ?_ p_safety p_cal p_ic p_tw r_ca_TEMP r_ca_RUN

theorem execCalRunRequest_within (h : Within P R s0 s) (p_acc : P .acc) (p_power : P .power) (r_ca_RUN : R (.ca .RUN))
    (e : execCalRunRequest x1 x2 s = .next t) : Within P R s0 t := by
  unfold execCalRunRequest at e; injection e with e; subst e
  repeat' first
    | with_reducible assumption | with_reducible refine regPut_at (fun _ _ h => ?_) ?_ p_acc p_power
    | with_reducible refine State.plainWrite_within ?_ (by assumption)
    | with_reducible refine within_pair ?_ (by assumption) | simp only [writeReg, readReg, caWrite, caRead]

theorem execCalLaneSelect_within (h : Within P R s0 s) (p_phys : P .phys) (p_cal : P .cal) (r_ca_RUN : R (.ca .RUN))
    (e : execCalLaneSelect s = .next t) : Within P R s0 t := by
  unfold execCalLaneSelect at e; injection e with e; subst e
  repeat' first
    | with_reducible assumption | with_reducible refine calSelect_within ?_ p_phys p_cal r_ca_RUN

theorem execCalRunStart_within (h : Within P R s0 s) (p_merger : P .merger) (p_lanes : P .lanes) (p_cal : P .cal)
    (r_ca_RUN : R (.ca .RUN)) (e : execCalRunStart s = .next t) : Within P R s0 t := by
  unfold execCalRunStart at e; injection e with e; subst e
  repeat' first
    | with_reducible assumption | with_reducible refine calStart_within ?_ p_merger p_lanes p_cal r_ca_RUN

theorem execCalRunEnd_within (h : Within P R s0 s) (p_merger : P .merger) (p_safety : P .safety)
    (p_router : P .router) (p_drawbar : P .drawbar) (p_slots : P .slots) (p_lanes : P .lanes) (p_phys : P .phys)
    (p_cal : P .cal) (p_coach : P .coach) (p_ic : P .ic) (p_host : P .host) (p_tw : P .tw) (r_ca_STAT : R (.ca .STAT))
    (r_ca_LTEMP : R (.ca .LTEMP)) (r_ca_RUN : R (.ca .RUN)) (r_ln_STAT : R (.ln .STAT))
    (r_ln_FAULTS : R (.ln .FAULTS)) (r_al_FSTAT : R (.al .FSTAT)) (r_rk_STAT : R (.rk .STAT))
    (r_cw_TFAULT : R (.cw .TFAULT)) (r_cw_LDSTAT : R (.cw .LDSTAT)) (r_ds_EVENTS : R (.ds .EVENTS))
    (r_db_LSTAT : R (.db .LSTAT)) (r_ca_SETS : R (.ca .SETS)) (e : execCalRunEnd x1 x2 x3 s = .next t) : Within P R s0
    t := by
  unfold execCalRunEnd at e; injection e with e; subst e
  repeat' first
    | with_reducible assumption
    | with_reducible refine calEnd_within ?_ p_merger p_safety p_router p_drawbar p_slots
                        p_lanes p_phys p_cal p_coach p_ic p_host p_tw r_ca_STAT r_ca_LTEMP r_ca_RUN r_ln_STAT
                        r_ln_FAULTS r_al_FSTAT r_rk_STAT r_cw_TFAULT r_cw_LDSTAT r_ds_EVENTS r_db_LSTAT r_ca_SETS

theorem execLoanEnd_within (h : Within P R s0 s) (p_lanes : P .lanes) (p_phys : P .phys)
    (e : execLoanEnd x1 s = .next t) : Within P R s0 t := by
  unfold execLoanEnd at e; injection e with e; subst e
  repeat' first
    | with_reducible assumption | with_reducible refine loanEnd_within ?_ p_lanes p_phys

theorem execStaleWordDue_within (h : Within P R s0 s) (p_merger : P .merger) (p_safety : P .safety)
    (p_router : P .router) (p_lanes : P .lanes) (p_coach : P .coach) (p_ic : P .ic) (p_tw : P .tw)
    (r_ln_LAST : R (.ln .LAST)) (r_cw_TAPOVR : R (.cw .TAPOVR)) (r_ln_STAT : R (.ln .STAT))
    (e : execStaleWordDue x1 s = .next t) : Within P R s0 t := by
  unfold execStaleWordDue at e; injection e with e; subst e
  repeat' first
    | with_reducible assumption
    | with_reducible refine staleWord_within ?_ p_merger p_safety p_router p_lanes p_coach p_ic
                        p_tw r_ln_LAST r_cw_TAPOVR r_ln_STAT

theorem execHoldResume_within (h : Within P R s0 s) (p_merger : P .merger) (p_lanes : P .lanes)
    (e : execHoldResume x1 s = .next t) : Within P R s0 t := by
  unfold execHoldResume at e; injection e with e; subst e
  repeat' first
    | with_reducible assumption | with_reducible refine holdResume_within ?_ p_merger p_lanes

theorem execCalSetsWrite_within (h : Within P R s0 s) (p_acc : P .acc) (p_safety : P .safety) (p_ic : P .ic)
    (p_power : P .power) (p_tw : P .tw) (r_ca_STAT : R (.ca .STAT)) (r_ca_SETS : R (.ca .SETS))
    (e : execCalSetsWrite x1 x2 x3 s = .next t) : Within P R s0 t := by
  unfold execCalSetsWrite at e; injection e with e; subst e
  repeat' first
    | with_reducible assumption | with_reducible refine regPut_at (fun _ _ h => ?_) ?_ p_acc p_power
    | with_reducible refine writeSets_within ?_ p_safety p_ic p_tw r_ca_STAT r_ca_SETS
    | with_reducible refine within_pair ?_ (by assumption) | simp only [writeReg, readReg, caWrite, caRead]

theorem execDacCodeWrite_within (h : Within P R s0 s) (p_acc : P .acc) (p_cal : P .cal) (p_power : P .power)
    (r_ca_DACVAL : R (.ca .DACVAL)) (e : execDacCodeWrite x1 x2 s = .next t) : Within P R s0 t := by
  unfold execDacCodeWrite at e; injection e with e; subst e
  repeat' first
    | with_reducible assumption | with_reducible refine regPut_at (fun _ _ h => ?_) ?_ p_acc p_power
    | with_reducible refine writeDac_within ?_ p_cal r_ca_DACVAL
    | with_reducible refine within_pair ?_ (by assumption) | simp only [writeReg, readReg, caWrite, caRead]

theorem execTrimWrite_within (h : Within P R s0 s) (p_acc : P .acc) (p_power : P .power)
    (r_ca_TRIMREF : R (.ca .TRIMREF)) (r_ca_TRIMTS : R (.ca .TRIMTS)) (r_ca_TRIMVRC : R (.ca .TRIMVRC))
    (r_ca_TRIMDB : R (.ca .TRIMDB)) (r_ca_SETINIT : R (.ca .SETINIT)) (e : execTrimWrite x1 x2 x3 s = .next t) :
    Within P R s0 t := by
  unfold execTrimWrite at e; injection e with e; subst e
  repeat' first
    | with_reducible assumption
    | with_reducible refine trimWrite_within ?_ p_acc p_power r_ca_TRIMREF r_ca_TRIMTS
                        r_ca_TRIMVRC r_ca_TRIMDB r_ca_SETINIT

end Sys2Proof.Machine
end

