-- ==== Sys2Proof/Laws/WithinCarriageRows.lean ====
section
/-! SUPPORT. What each operation of Machine/CarriageRows.lean can change: one lemma per operation (see Laws/WithinOps.lean). -/
namespace Sys2Proof.Machine
set_option Elab.async false

set_option linter.unusedVariables false
set_option linter.unusedSimpArgs false

variable {P : Part → Prop} {R : Reg → Prop} {s0 s t : State}

theorem execNop_within (h : Within P R s0 s) (p_mem : P .mem) (p_merger : P .merger) (p_safety : P .safety)
    (p_router : P .router) (p_drawbar : P .drawbar) (p_slots : P .slots) (p_coach : P .coach) (p_ic : P .ic)
    (p_host : P .host) (p_tw : P .tw) (r_al_FSTAT : R (.al .FSTAT)) (r_cw_STAT : R (.cw .STAT))
    (r_rk_STAT : R (.rk .STAT)) (r_cw_TFAULT : R (.cw .TFAULT)) (r_cw_LDSTAT : R (.cw .LDSTAT))
    (r_ds_EVENTS : R (.ds .EVENTS)) (r_db_LSTAT : R (.db .LSTAT)) (r_cw_NSUBST : R (.cw .NSUBST))
    (r_cw_RETRY : R (.cw .RETRY)) (e : execNop x1 x2 s = .next t) : Within P R s0 t := by
  unfold execNop at e; injection e with e; subst e
  repeat' first
    | with_reducible assumption
    | with_reducible refine stepCar_within ?_ p_mem p_merger p_safety p_router p_drawbar p_slots
                        p_coach p_ic p_host p_tw r_al_FSTAT r_cw_STAT r_rk_STAT r_cw_TFAULT r_cw_LDSTAT r_ds_EVENTS
                        r_db_LSTAT r_cw_NSUBST r_cw_RETRY

theorem execWait_within (h : Within P R s0 s) (p_mem : P .mem) (p_merger : P .merger) (p_safety : P .safety)
    (p_router : P .router) (p_drawbar : P .drawbar) (p_slots : P .slots) (p_coach : P .coach) (p_ic : P .ic)
    (p_host : P .host) (p_tw : P .tw) (r_al_FSTAT : R (.al .FSTAT)) (r_cw_STAT : R (.cw .STAT))
    (r_rk_STAT : R (.rk .STAT)) (r_cw_TFAULT : R (.cw .TFAULT)) (r_cw_LDSTAT : R (.cw .LDSTAT))
    (r_ds_EVENTS : R (.ds .EVENTS)) (r_db_LSTAT : R (.db .LSTAT)) (r_cw_NSUBST : R (.cw .NSUBST))
    (r_cw_RETRY : R (.cw .RETRY)) (e : execWait x1 x2 s = .next t) : Within P R s0 t := by
  unfold execWait at e; injection e with e; subst e
  repeat' first
    | with_reducible assumption
    | with_reducible refine stepCar_within ?_ p_mem p_merger p_safety p_router p_drawbar p_slots
                        p_coach p_ic p_host p_tw r_al_FSTAT r_cw_STAT r_rk_STAT r_cw_TFAULT r_cw_LDSTAT r_ds_EVENTS
                        r_db_LSTAT r_cw_NSUBST r_cw_RETRY

theorem execMove_within (h : Within P R s0 s) (p_mem : P .mem) (p_merger : P .merger) (p_safety : P .safety)
    (p_router : P .router) (p_drawbar : P .drawbar) (p_slots : P .slots) (p_coach : P .coach) (p_ic : P .ic)
    (p_host : P .host) (p_tw : P .tw) (r_al_FSTAT : R (.al .FSTAT)) (r_cw_STAT : R (.cw .STAT))
    (r_rk_STAT : R (.rk .STAT)) (r_cw_TFAULT : R (.cw .TFAULT)) (r_cw_LDSTAT : R (.cw .LDSTAT))
    (r_ds_EVENTS : R (.ds .EVENTS)) (r_db_LSTAT : R (.db .LSTAT)) (r_cw_NSUBST : R (.cw .NSUBST))
    (r_cw_RETRY : R (.cw .RETRY)) (e : execMove x1 x2 s = .next t) : Within P R s0 t := by
  unfold execMove at e; injection e with e; subst e
  repeat' first
    | with_reducible assumption
    | with_reducible refine stepCar_within ?_ p_mem p_merger p_safety p_router p_drawbar p_slots
                        p_coach p_ic p_host p_tw r_al_FSTAT r_cw_STAT r_rk_STAT r_cw_TFAULT r_cw_LDSTAT r_ds_EVENTS
                        r_db_LSTAT r_cw_NSUBST r_cw_RETRY

theorem execScale_within (h : Within P R s0 s) (p_mem : P .mem) (p_merger : P .merger) (p_safety : P .safety)
    (p_router : P .router) (p_drawbar : P .drawbar) (p_slots : P .slots) (p_coach : P .coach) (p_ic : P .ic)
    (p_host : P .host) (p_tw : P .tw) (r_al_FSTAT : R (.al .FSTAT)) (r_cw_STAT : R (.cw .STAT))
    (r_rk_STAT : R (.rk .STAT)) (r_cw_TFAULT : R (.cw .TFAULT)) (r_cw_LDSTAT : R (.cw .LDSTAT))
    (r_ds_EVENTS : R (.ds .EVENTS)) (r_db_LSTAT : R (.db .LSTAT)) (r_cw_NSUBST : R (.cw .NSUBST))
    (r_cw_RETRY : R (.cw .RETRY)) (e : execScale x1 x2 s = .next t) : Within P R s0 t := by
  unfold execScale at e; injection e with e; subst e
  repeat' first
    | with_reducible assumption
    | with_reducible refine stepCar_within ?_ p_mem p_merger p_safety p_router p_drawbar p_slots
                        p_coach p_ic p_host p_tw r_al_FSTAT r_cw_STAT r_rk_STAT r_cw_TFAULT r_cw_LDSTAT r_ds_EVENTS
                        r_db_LSTAT r_cw_NSUBST r_cw_RETRY

theorem execFir_within (h : Within P R s0 s) (p_mem : P .mem) (p_merger : P .merger) (p_safety : P .safety)
    (p_router : P .router) (p_drawbar : P .drawbar) (p_slots : P .slots) (p_coach : P .coach) (p_ic : P .ic)
    (p_host : P .host) (p_tw : P .tw) (r_al_FSTAT : R (.al .FSTAT)) (r_cw_STAT : R (.cw .STAT))
    (r_rk_STAT : R (.rk .STAT)) (r_cw_TFAULT : R (.cw .TFAULT)) (r_cw_LDSTAT : R (.cw .LDSTAT))
    (r_ds_EVENTS : R (.ds .EVENTS)) (r_db_LSTAT : R (.db .LSTAT)) (r_cw_NSUBST : R (.cw .NSUBST))
    (r_cw_RETRY : R (.cw .RETRY)) (e : execFir x1 x2 s = .next t) : Within P R s0 t := by
  unfold execFir at e; injection e with e; subst e
  repeat' first
    | with_reducible assumption
    | with_reducible refine stepCar_within ?_ p_mem p_merger p_safety p_router p_drawbar p_slots
                        p_coach p_ic p_host p_tw r_al_FSTAT r_cw_STAT r_rk_STAT r_cw_TFAULT r_cw_LDSTAT r_ds_EVENTS
                        r_db_LSTAT r_cw_NSUBST r_cw_RETRY

theorem execBiq_within (h : Within P R s0 s) (p_mem : P .mem) (p_merger : P .merger) (p_safety : P .safety)
    (p_router : P .router) (p_drawbar : P .drawbar) (p_slots : P .slots) (p_coach : P .coach) (p_ic : P .ic)
    (p_host : P .host) (p_tw : P .tw) (r_al_FSTAT : R (.al .FSTAT)) (r_cw_STAT : R (.cw .STAT))
    (r_rk_STAT : R (.rk .STAT)) (r_cw_TFAULT : R (.cw .TFAULT)) (r_cw_LDSTAT : R (.cw .LDSTAT))
    (r_ds_EVENTS : R (.ds .EVENTS)) (r_db_LSTAT : R (.db .LSTAT)) (r_cw_NSUBST : R (.cw .NSUBST))
    (r_cw_RETRY : R (.cw .RETRY)) (e : execBiq x1 x2 s = .next t) : Within P R s0 t := by
  unfold execBiq at e; injection e with e; subst e
  repeat' first
    | with_reducible assumption
    | with_reducible refine stepCar_within ?_ p_mem p_merger p_safety p_router p_drawbar p_slots
                        p_coach p_ic p_host p_tw r_al_FSTAT r_cw_STAT r_rk_STAT r_cw_TFAULT r_cw_LDSTAT r_ds_EVENTS
                        r_db_LSTAT r_cw_NSUBST r_cw_RETRY

theorem execCic_within (h : Within P R s0 s) (p_mem : P .mem) (p_merger : P .merger) (p_safety : P .safety)
    (p_router : P .router) (p_drawbar : P .drawbar) (p_slots : P .slots) (p_coach : P .coach) (p_ic : P .ic)
    (p_host : P .host) (p_tw : P .tw) (r_al_FSTAT : R (.al .FSTAT)) (r_cw_STAT : R (.cw .STAT))
    (r_rk_STAT : R (.rk .STAT)) (r_cw_TFAULT : R (.cw .TFAULT)) (r_cw_LDSTAT : R (.cw .LDSTAT))
    (r_ds_EVENTS : R (.ds .EVENTS)) (r_db_LSTAT : R (.db .LSTAT)) (r_cw_NSUBST : R (.cw .NSUBST))
    (r_cw_RETRY : R (.cw .RETRY)) (e : execCic x1 x2 s = .next t) : Within P R s0 t := by
  unfold execCic at e; injection e with e; subst e
  repeat' first
    | with_reducible assumption
    | with_reducible refine stepCar_within ?_ p_mem p_merger p_safety p_router p_drawbar p_slots
                        p_coach p_ic p_host p_tw r_al_FSTAT r_cw_STAT r_rk_STAT r_cw_TFAULT r_cw_LDSTAT r_ds_EVENTS
                        r_db_LSTAT r_cw_NSUBST r_cw_RETRY

theorem execRect_within (h : Within P R s0 s) (p_mem : P .mem) (p_merger : P .merger) (p_safety : P .safety)
    (p_router : P .router) (p_drawbar : P .drawbar) (p_slots : P .slots) (p_coach : P .coach) (p_ic : P .ic)
    (p_host : P .host) (p_tw : P .tw) (r_al_FSTAT : R (.al .FSTAT)) (r_cw_STAT : R (.cw .STAT))
    (r_rk_STAT : R (.rk .STAT)) (r_cw_TFAULT : R (.cw .TFAULT)) (r_cw_LDSTAT : R (.cw .LDSTAT))
    (r_ds_EVENTS : R (.ds .EVENTS)) (r_db_LSTAT : R (.db .LSTAT)) (r_cw_NSUBST : R (.cw .NSUBST))
    (r_cw_RETRY : R (.cw .RETRY)) (e : execRect x1 x2 s = .next t) : Within P R s0 t := by
  unfold execRect at e; injection e with e; subst e
  repeat' first
    | with_reducible assumption
    | with_reducible refine stepCar_within ?_ p_mem p_merger p_safety p_router p_drawbar p_slots
                        p_coach p_ic p_host p_tw r_al_FSTAT r_cw_STAT r_rk_STAT r_cw_TFAULT r_cw_LDSTAT r_ds_EVENTS
                        r_db_LSTAT r_cw_NSUBST r_cw_RETRY

theorem execEnv_within (h : Within P R s0 s) (p_mem : P .mem) (p_merger : P .merger) (p_safety : P .safety)
    (p_router : P .router) (p_drawbar : P .drawbar) (p_slots : P .slots) (p_coach : P .coach) (p_ic : P .ic)
    (p_host : P .host) (p_tw : P .tw) (r_al_FSTAT : R (.al .FSTAT)) (r_cw_STAT : R (.cw .STAT))
    (r_rk_STAT : R (.rk .STAT)) (r_cw_TFAULT : R (.cw .TFAULT)) (r_cw_LDSTAT : R (.cw .LDSTAT))
    (r_ds_EVENTS : R (.ds .EVENTS)) (r_db_LSTAT : R (.db .LSTAT)) (r_cw_NSUBST : R (.cw .NSUBST))
    (r_cw_RETRY : R (.cw .RETRY)) (e : execEnv x1 x2 s = .next t) : Within P R s0 t := by
  unfold execEnv at e; injection e with e; subst e
  repeat' first
    | with_reducible assumption
    | with_reducible refine stepCar_within ?_ p_mem p_merger p_safety p_router p_drawbar p_slots
                        p_coach p_ic p_host p_tw r_al_FSTAT r_cw_STAT r_rk_STAT r_cw_TFAULT r_cw_LDSTAT r_ds_EVENTS
                        r_db_LSTAT r_cw_NSUBST r_cw_RETRY

theorem execThr_within (h : Within P R s0 s) (p_mem : P .mem) (p_merger : P .merger) (p_safety : P .safety)
    (p_router : P .router) (p_drawbar : P .drawbar) (p_slots : P .slots) (p_coach : P .coach) (p_ic : P .ic)
    (p_host : P .host) (p_tw : P .tw) (r_al_FSTAT : R (.al .FSTAT)) (r_cw_STAT : R (.cw .STAT))
    (r_rk_STAT : R (.rk .STAT)) (r_cw_TFAULT : R (.cw .TFAULT)) (r_cw_LDSTAT : R (.cw .LDSTAT))
    (r_ds_EVENTS : R (.ds .EVENTS)) (r_db_LSTAT : R (.db .LSTAT)) (r_cw_NSUBST : R (.cw .NSUBST))
    (r_cw_RETRY : R (.cw .RETRY)) (e : execThr x1 x2 s = .next t) : Within P R s0 t := by
  unfold execThr at e; injection e with e; subst e
  repeat' first
    | with_reducible assumption
    | with_reducible refine stepCar_within ?_ p_mem p_merger p_safety p_router p_drawbar p_slots
                        p_coach p_ic p_host p_tw r_al_FSTAT r_cw_STAT r_rk_STAT r_cw_TFAULT r_cw_LDSTAT r_ds_EVENTS
                        r_db_LSTAT r_cw_NSUBST r_cw_RETRY

theorem execCnt_within (h : Within P R s0 s) (p_mem : P .mem) (p_merger : P .merger) (p_safety : P .safety)
    (p_router : P .router) (p_drawbar : P .drawbar) (p_slots : P .slots) (p_coach : P .coach) (p_ic : P .ic)
    (p_host : P .host) (p_tw : P .tw) (r_al_FSTAT : R (.al .FSTAT)) (r_cw_STAT : R (.cw .STAT))
    (r_rk_STAT : R (.rk .STAT)) (r_cw_TFAULT : R (.cw .TFAULT)) (r_cw_LDSTAT : R (.cw .LDSTAT))
    (r_ds_EVENTS : R (.ds .EVENTS)) (r_db_LSTAT : R (.db .LSTAT)) (r_cw_NSUBST : R (.cw .NSUBST))
    (r_cw_RETRY : R (.cw .RETRY)) (e : execCnt x1 x2 s = .next t) : Within P R s0 t := by
  unfold execCnt at e; injection e with e; subst e
  repeat' first
    | with_reducible assumption
    | with_reducible refine stepCar_within ?_ p_mem p_merger p_safety p_router p_drawbar p_slots
                        p_coach p_ic p_host p_tw r_al_FSTAT r_cw_STAT r_rk_STAT r_cw_TFAULT r_cw_LDSTAT r_ds_EVENTS
                        r_db_LSTAT r_cw_NSUBST r_cw_RETRY

theorem execPeak_within (h : Within P R s0 s) (p_mem : P .mem) (p_merger : P .merger) (p_safety : P .safety)
    (p_router : P .router) (p_drawbar : P .drawbar) (p_slots : P .slots) (p_coach : P .coach) (p_ic : P .ic)
    (p_host : P .host) (p_tw : P .tw) (r_al_FSTAT : R (.al .FSTAT)) (r_cw_STAT : R (.cw .STAT))
    (r_rk_STAT : R (.rk .STAT)) (r_cw_TFAULT : R (.cw .TFAULT)) (r_cw_LDSTAT : R (.cw .LDSTAT))
    (r_ds_EVENTS : R (.ds .EVENTS)) (r_db_LSTAT : R (.db .LSTAT)) (r_cw_NSUBST : R (.cw .NSUBST))
    (r_cw_RETRY : R (.cw .RETRY)) (e : execPeak x1 x2 s = .next t) : Within P R s0 t := by
  unfold execPeak at e; injection e with e; subst e
  repeat' first
    | with_reducible assumption
    | with_reducible refine stepCar_within ?_ p_mem p_merger p_safety p_router p_drawbar p_slots
                        p_coach p_ic p_host p_tw r_al_FSTAT r_cw_STAT r_rk_STAT r_cw_TFAULT r_cw_LDSTAT r_ds_EVENTS
                        r_db_LSTAT r_cw_NSUBST r_cw_RETRY

theorem execLut_within (h : Within P R s0 s) (p_mem : P .mem) (p_merger : P .merger) (p_safety : P .safety)
    (p_router : P .router) (p_drawbar : P .drawbar) (p_slots : P .slots) (p_coach : P .coach) (p_ic : P .ic)
    (p_host : P .host) (p_tw : P .tw) (r_al_FSTAT : R (.al .FSTAT)) (r_cw_STAT : R (.cw .STAT))
    (r_rk_STAT : R (.rk .STAT)) (r_cw_TFAULT : R (.cw .TFAULT)) (r_cw_LDSTAT : R (.cw .LDSTAT))
    (r_ds_EVENTS : R (.ds .EVENTS)) (r_db_LSTAT : R (.db .LSTAT)) (r_cw_NSUBST : R (.cw .NSUBST))
    (r_cw_RETRY : R (.cw .RETRY)) (e : execLut x1 x2 s = .next t) : Within P R s0 t := by
  unfold execLut at e; injection e with e; subst e
  repeat' first
    | with_reducible assumption
    | with_reducible refine stepCar_within ?_ p_mem p_merger p_safety p_router p_drawbar p_slots
                        p_coach p_ic p_host p_tw r_al_FSTAT r_cw_STAT r_rk_STAT r_cw_TFAULT r_cw_LDSTAT r_ds_EVENTS
                        r_db_LSTAT r_cw_NSUBST r_cw_RETRY

theorem execRec_within (h : Within P R s0 s) (p_mem : P .mem) (p_merger : P .merger) (p_safety : P .safety)
    (p_router : P .router) (p_drawbar : P .drawbar) (p_slots : P .slots) (p_coach : P .coach) (p_ic : P .ic)
    (p_host : P .host) (p_tw : P .tw) (r_al_FSTAT : R (.al .FSTAT)) (r_cw_STAT : R (.cw .STAT))
    (r_rk_STAT : R (.rk .STAT)) (r_cw_TFAULT : R (.cw .TFAULT)) (r_cw_LDSTAT : R (.cw .LDSTAT))
    (r_ds_EVENTS : R (.ds .EVENTS)) (r_db_LSTAT : R (.db .LSTAT)) (r_cw_NSUBST : R (.cw .NSUBST))
    (r_cw_RETRY : R (.cw .RETRY)) (e : execRec x1 x2 s = .next t) : Within P R s0 t := by
  unfold execRec at e; injection e with e; subst e
  repeat' first
    | with_reducible assumption
    | with_reducible refine stepCar_within ?_ p_mem p_merger p_safety p_router p_drawbar p_slots
                        p_coach p_ic p_host p_tw r_al_FSTAT r_cw_STAT r_rk_STAT r_cw_TFAULT r_cw_LDSTAT r_ds_EVENTS
                        r_db_LSTAT r_cw_NSUBST r_cw_RETRY

theorem execSq_within (h : Within P R s0 s) (p_mem : P .mem) (p_merger : P .merger) (p_safety : P .safety)
    (p_router : P .router) (p_drawbar : P .drawbar) (p_slots : P .slots) (p_coach : P .coach) (p_ic : P .ic)
    (p_host : P .host) (p_tw : P .tw) (r_al_FSTAT : R (.al .FSTAT)) (r_cw_STAT : R (.cw .STAT))
    (r_rk_STAT : R (.rk .STAT)) (r_cw_TFAULT : R (.cw .TFAULT)) (r_cw_LDSTAT : R (.cw .LDSTAT))
    (r_ds_EVENTS : R (.ds .EVENTS)) (r_db_LSTAT : R (.db .LSTAT)) (r_cw_NSUBST : R (.cw .NSUBST))
    (r_cw_RETRY : R (.cw .RETRY)) (e : execSq x1 x2 s = .next t) : Within P R s0 t := by
  unfold execSq at e; injection e with e; subst e
  repeat' first
    | with_reducible assumption
    | with_reducible refine stepCar_within ?_ p_mem p_merger p_safety p_router p_drawbar p_slots
                        p_coach p_ic p_host p_tw r_al_FSTAT r_cw_STAT r_rk_STAT r_cw_TFAULT r_cw_LDSTAT r_ds_EVENTS
                        r_db_LSTAT r_cw_NSUBST r_cw_RETRY

theorem execSqrt_within (h : Within P R s0 s) (p_mem : P .mem) (p_merger : P .merger) (p_safety : P .safety)
    (p_router : P .router) (p_drawbar : P .drawbar) (p_slots : P .slots) (p_coach : P .coach) (p_ic : P .ic)
    (p_host : P .host) (p_tw : P .tw) (r_al_FSTAT : R (.al .FSTAT)) (r_cw_STAT : R (.cw .STAT))
    (r_rk_STAT : R (.rk .STAT)) (r_cw_TFAULT : R (.cw .TFAULT)) (r_cw_LDSTAT : R (.cw .LDSTAT))
    (r_ds_EVENTS : R (.ds .EVENTS)) (r_db_LSTAT : R (.db .LSTAT)) (r_cw_NSUBST : R (.cw .NSUBST))
    (r_cw_RETRY : R (.cw .RETRY)) (e : execSqrt x1 x2 s = .next t) : Within P R s0 t := by
  unfold execSqrt at e; injection e with e; subst e
  repeat' first
    | with_reducible assumption
    | with_reducible refine stepCar_within ?_ p_mem p_merger p_safety p_router p_drawbar p_slots
                        p_coach p_ic p_host p_tw r_al_FSTAT r_cw_STAT r_rk_STAT r_cw_TFAULT r_cw_LDSTAT r_ds_EVENTS
                        r_db_LSTAT r_cw_NSUBST r_cw_RETRY

theorem execDly_within (h : Within P R s0 s) (p_mem : P .mem) (p_merger : P .merger) (p_safety : P .safety)
    (p_router : P .router) (p_drawbar : P .drawbar) (p_slots : P .slots) (p_coach : P .coach) (p_ic : P .ic)
    (p_host : P .host) (p_tw : P .tw) (r_al_FSTAT : R (.al .FSTAT)) (r_cw_STAT : R (.cw .STAT))
    (r_rk_STAT : R (.rk .STAT)) (r_cw_TFAULT : R (.cw .TFAULT)) (r_cw_LDSTAT : R (.cw .LDSTAT))
    (r_ds_EVENTS : R (.ds .EVENTS)) (r_db_LSTAT : R (.db .LSTAT)) (r_cw_NSUBST : R (.cw .NSUBST))
    (r_cw_RETRY : R (.cw .RETRY)) (e : execDly x1 x2 s = .next t) : Within P R s0 t := by
  unfold execDly at e; injection e with e; subst e
  repeat' first
    | with_reducible assumption
    | with_reducible refine stepCar_within ?_ p_mem p_merger p_safety p_router p_drawbar p_slots
                        p_coach p_ic p_host p_tw r_al_FSTAT r_cw_STAT r_rk_STAT r_cw_TFAULT r_cw_LDSTAT r_ds_EVENTS
                        r_db_LSTAT r_cw_NSUBST r_cw_RETRY

theorem execEvt_within (h : Within P R s0 s) (p_mem : P .mem) (p_merger : P .merger) (p_safety : P .safety)
    (p_router : P .router) (p_drawbar : P .drawbar) (p_slots : P .slots) (p_coach : P .coach) (p_ic : P .ic)
    (p_host : P .host) (p_tw : P .tw) (r_al_FSTAT : R (.al .FSTAT)) (r_cw_STAT : R (.cw .STAT))
    (r_rk_STAT : R (.rk .STAT)) (r_cw_TFAULT : R (.cw .TFAULT)) (r_cw_LDSTAT : R (.cw .LDSTAT))
    (r_ds_EVENTS : R (.ds .EVENTS)) (r_db_LSTAT : R (.db .LSTAT)) (r_cw_NSUBST : R (.cw .NSUBST))
    (r_cw_RETRY : R (.cw .RETRY)) (e : execEvt x1 x2 s = .next t) : Within P R s0 t := by
  unfold execEvt at e; injection e with e; subst e
  repeat' first
    | with_reducible assumption
    | with_reducible refine stepCar_within ?_ p_mem p_merger p_safety p_router p_drawbar p_slots
                        p_coach p_ic p_host p_tw r_al_FSTAT r_cw_STAT r_rk_STAT r_cw_TFAULT r_cw_LDSTAT r_ds_EVENTS
                        r_db_LSTAT r_cw_NSUBST r_cw_RETRY

theorem execJmp_within (h : Within P R s0 s) (p_mem : P .mem) (p_merger : P .merger) (p_safety : P .safety)
    (p_router : P .router) (p_drawbar : P .drawbar) (p_slots : P .slots) (p_coach : P .coach) (p_ic : P .ic)
    (p_host : P .host) (p_tw : P .tw) (r_al_FSTAT : R (.al .FSTAT)) (r_cw_STAT : R (.cw .STAT))
    (r_rk_STAT : R (.rk .STAT)) (r_cw_TFAULT : R (.cw .TFAULT)) (r_cw_LDSTAT : R (.cw .LDSTAT))
    (r_ds_EVENTS : R (.ds .EVENTS)) (r_db_LSTAT : R (.db .LSTAT)) (r_cw_NSUBST : R (.cw .NSUBST))
    (r_cw_RETRY : R (.cw .RETRY)) (e : execJmp x1 x2 s = .next t) : Within P R s0 t := by
  unfold execJmp at e; injection e with e; subst e
  repeat' first
    | with_reducible assumption
    | with_reducible refine stepCar_within ?_ p_mem p_merger p_safety p_router p_drawbar p_slots
                        p_coach p_ic p_host p_tw r_al_FSTAT r_cw_STAT r_rk_STAT r_cw_TFAULT r_cw_LDSTAT r_ds_EVENTS
                        r_db_LSTAT r_cw_NSUBST r_cw_RETRY

theorem execClr_within (h : Within P R s0 s) (p_mem : P .mem) (p_merger : P .merger) (p_safety : P .safety)
    (p_router : P .router) (p_drawbar : P .drawbar) (p_slots : P .slots) (p_coach : P .coach) (p_ic : P .ic)
    (p_host : P .host) (p_tw : P .tw) (r_al_FSTAT : R (.al .FSTAT)) (r_cw_STAT : R (.cw .STAT))
    (r_rk_STAT : R (.rk .STAT)) (r_cw_TFAULT : R (.cw .TFAULT)) (r_cw_LDSTAT : R (.cw .LDSTAT))
    (r_ds_EVENTS : R (.ds .EVENTS)) (r_db_LSTAT : R (.db .LSTAT)) (r_cw_NSUBST : R (.cw .NSUBST))
    (r_cw_RETRY : R (.cw .RETRY)) (e : execClr x1 x2 s = .next t) : Within P R s0 t := by
  unfold execClr at e; injection e with e; subst e
  repeat' first
    | with_reducible assumption
    | with_reducible refine stepCar_within ?_ p_mem p_merger p_safety p_router p_drawbar p_slots
                        p_coach p_ic p_host p_tw r_al_FSTAT r_cw_STAT r_rk_STAT r_cw_TFAULT r_cw_LDSTAT r_ds_EVENTS
                        r_db_LSTAT r_cw_NSUBST r_cw_RETRY

theorem execInvalidOperation_within (h : Within P R s0 s) (p_mem : P .mem) (p_merger : P .merger)
    (p_safety : P .safety) (p_router : P .router) (p_drawbar : P .drawbar) (p_slots : P .slots) (p_coach : P .coach)
    (p_ic : P .ic) (p_host : P .host) (p_tw : P .tw) (r_al_FSTAT : R (.al .FSTAT)) (r_cw_STAT : R (.cw .STAT))
    (r_rk_STAT : R (.rk .STAT)) (r_cw_TFAULT : R (.cw .TFAULT)) (r_cw_LDSTAT : R (.cw .LDSTAT))
    (r_ds_EVENTS : R (.ds .EVENTS)) (r_db_LSTAT : R (.db .LSTAT)) (r_cw_NSUBST : R (.cw .NSUBST))
    (e : execInvalidOperation x1 s = .next t) : Within P R s0 t := by
  unfold execInvalidOperation at e; injection e with e; subst e
  repeat' first
    | with_reducible assumption
    | with_reducible refine stepInvalid_within ?_ p_mem p_merger p_safety p_router p_drawbar
                        p_slots p_coach p_ic p_host p_tw r_al_FSTAT r_cw_STAT r_rk_STAT r_cw_TFAULT r_cw_LDSTAT
                        r_ds_EVENTS r_db_LSTAT r_cw_NSUBST

theorem execEmitAfterStall_within (h : Within P R s0 s) (p_coach : P .coach) (e : execEmitAfterStall x1 s = .next t) :
    Within P R s0 t := by
  unfold execEmitAfterStall at e; injection e with e; subst e
  repeat' first
    | with_reducible assumption | with_reducible refine emitAfterStall_within ?_ p_coach

theorem execCouplingWordArrive_within (h : Within P R s0 s) (p_mem : P .mem) (p_merger : P .merger)
    (p_safety : P .safety) (p_router : P .router) (p_drawbar : P .drawbar) (p_slots : P .slots) (p_coach : P .coach)
    (p_ic : P .ic) (p_host : P .host) (p_tw : P .tw) (r_al_FSTAT : R (.al .FSTAT)) (r_cw_STAT : R (.cw .STAT))
    (r_rk_STAT : R (.rk .STAT)) (r_cw_TFAULT : R (.cw .TFAULT)) (r_cw_LDSTAT : R (.cw .LDSTAT))
    (r_ds_EVENTS : R (.ds .EVENTS)) (r_db_LSTAT : R (.db .LSTAT)) (r_cw_NSUBST : R (.cw .NSUBST))
    (e : execCouplingWordArrive x1 x2 s = .next t) : Within P R s0 t := by
  unfold execCouplingWordArrive at e; injection e with e; subst e
  repeat' first
    | with_reducible assumption
    | with_reducible refine couplingArrive_within ?_ p_mem p_merger p_safety p_router p_drawbar
                        p_slots p_coach p_ic p_host p_tw r_al_FSTAT r_cw_STAT r_rk_STAT r_cw_TFAULT r_cw_LDSTAT
                        r_ds_EVENTS r_db_LSTAT r_cw_NSUBST

end Sys2Proof.Machine
end

