-- ==== Sys2Proof/Laws/WithinConsistRows.lean ====
section
/-! SUPPORT. What each operation of Machine/ConsistRows.lean can change: one lemma per operation (see Laws/WithinOps.lean). -/
namespace Sys2Proof.Machine
set_option Elab.async false

set_option linter.unusedVariables false
set_option linter.unusedSimpArgs false

variable {P : Part → Prop} {R : Reg → Prop} {s0 s t : State}

theorem execCarriageSubstComplete_within (h : Within P R s0 s) (p_mem : P .mem) (p_merger : P .merger)
    (p_safety : P .safety) (p_router : P .router) (p_drawbar : P .drawbar) (p_slots : P .slots) (p_coach : P .coach)
    (p_ic : P .ic) (p_host : P .host) (p_tw : P .tw) (rAll : ∀ r, R r) (e : execCarriageSubstComplete x1 s = .next t)
    : Within P R s0 t := by
  unfold execCarriageSubstComplete at e; injection e with e; subst e
  repeat' first
    | with_reducible assumption
    | with_reducible refine carSubstComplete_within ?_ p_mem p_merger p_safety p_router
                        p_drawbar p_slots p_coach p_ic p_host p_tw rAll

theorem execOutletWordRelease_within (h : Within P R s0 s) (p_merger : P .merger) (p_safety : P .safety)
    (p_router : P .router) (p_drawbar : P .drawbar) (p_slots : P .slots) (p_loop : P .loop) (p_prRun : P .prRun)
    (p_homing : P .homing) (p_coach : P .coach) (p_ic : P .ic) (p_tw : P .tw) (rAll : ∀ r, R r)
    (e : execOutletWordRelease x1 x2 s = .next t) : Within P R s0 t := by
  unfold execOutletWordRelease at e; injection e with e; subst e
  repeat' first
    | with_reducible assumption
    | with_reducible refine outletRelease_within ?_ p_merger p_safety p_router p_drawbar p_slots
                        p_loop p_prRun p_homing p_coach p_ic p_tw rAll

theorem execTrainStart_within (h : Within P R s0 s) (p_acc : P .acc) (p_coach : P .coach) (p_power : P .power)
    (e : execTrainStart x1 x2 s = .next t) : Within P R s0 t := by
  unfold execTrainStart at e; injection e with e; subst e
  repeat' first
    | with_reducible assumption | with_reducible refine regPut_at (fun _ _ h => ?_) ?_ p_acc p_power
    | with_reducible refine writeTStart_within ?_ p_coach | with_reducible refine within_pair ?_ (by assumption)
    | simp only [writeReg, readReg, cwWrite, cwRead]

theorem execTrainStartComplete_within (h : Within P R s0 s) (p_mem : P .mem) (p_merger : P .merger)
    (p_safety : P .safety) (p_router : P .router) (p_drawbar : P .drawbar) (p_slots : P .slots) (p_lanes : P .lanes)
    (p_phys : P .phys) (p_cal : P .cal) (p_coach : P .coach) (p_ic : P .ic) (p_host : P .host) (p_tw : P .tw)
    (rAll : ∀ r, R r) (e : execTrainStartComplete x1 s = .next t) : Within P R s0 t := by
  unfold execTrainStartComplete at e; injection e with e; subst e
  repeat' first
    | with_reducible assumption
    | with_reducible refine trainStartComplete_within ?_ p_mem p_merger p_safety p_router
                        p_drawbar p_slots p_coach p_ic p_host p_tw rAll
    | with_reducible refine loaderStarted_within ?_ p_merger p_safety p_router p_drawbar p_slots
                        p_lanes p_phys p_cal p_coach p_ic p_host p_tw (rAll _) (rAll _) (rAll _) (rAll _) (rAll _)
                        (rAll _) (rAll _) (rAll _) (rAll _) (rAll _) (rAll _) (rAll _)

theorem execTrainStop_within (h : Within P R s0 s) (p_acc : P .acc) (p_safety : P .safety) (p_router : P .router)
    (p_drawbar : P .drawbar) (p_slots : P .slots) (p_coach : P .coach) (p_ic : P .ic) (p_power : P .power)
    (p_host : P .host) (p_tw : P .tw) (r_cw_LDSTAT : R (.cw .LDSTAT)) (r_db_LSTAT : R (.db .LSTAT))
    (e : execTrainStop x1 x2 s = .next t) : Within P R s0 t := by
  unfold execTrainStop at e; injection e with e; subst e
  repeat' first
    | with_reducible assumption | with_reducible refine regPut_at (fun _ _ h => ?_) ?_ p_acc p_power
    | with_reducible refine writeTStop_within ?_ p_safety p_router p_drawbar p_slots p_coach
                        p_ic p_host p_tw r_cw_LDSTAT r_db_LSTAT
    | with_reducible refine within_pair ?_ (by assumption) | simp only [writeReg, readReg, cwWrite, cwRead]

theorem execTrainDrained_within (h : Within P R s0 s) (p_coach : P .coach) (e : execTrainDrained x1 s = .next t) :
    Within P R s0 t := by
  unfold execTrainDrained at e; injection e with e; subst e
  repeat' first
    | with_reducible assumption | with_reducible refine trainDrained_within ?_ p_coach

theorem execDrainCut_within (h : Within P R s0 s) (p_merger : P .merger) (p_safety : P .safety) (p_coach : P .coach)
    (p_ic : P .ic) (p_tw : P .tw) (r_rk_STAT : R (.rk .STAT)) (e : execDrainCut x1 s = .next t) : Within P R s0 t := by
  unfold execDrainCut at e; injection e with e; subst e
  repeat' first
    | with_reducible assumption
    | with_reducible refine drainCut_within ?_ p_merger p_safety p_coach p_ic p_tw r_rk_STAT

theorem execSpareBistRound_within (h : Within P R s0 s) (p_safety : P .safety) (p_coach : P .coach) (p_ic : P .ic)
    (p_tw : P .tw) (r_cw_STAT : R (.cw .STAT)) (e : execSpareBistRound x1 x2 s = .next t) : Within P R s0 t := by
  unfold execSpareBistRound at e; injection e with e; subst e
  repeat' first
    | with_reducible assumption | with_reducible refine bistRound_within ?_ p_safety p_coach p_ic p_tw r_cw_STAT

theorem execCarriageRetest_within (h : Within P R s0 s) (p_acc : P .acc) (p_coach : P .coach) (p_power : P .power)
    (e : execCarriageRetest x1 x2 s = .next t) : Within P R s0 t := by
  unfold execCarriageRetest at e; injection e with e; subst e
  repeat' first
    | with_reducible assumption | with_reducible refine regPut_at (fun _ _ h => ?_) ?_ p_acc p_power
    | with_reducible refine writeCwPcmd_within ?_ p_coach | with_reducible refine within_pair ?_ (by assumption)
    | simp only [writeReg, readReg, cwWrite, cwRead]

theorem execCarriageRetestDone_within (h : Within P R s0 s) (p_coach : P .coach)
    (e : execCarriageRetestDone x1 x2 s = .next t) : Within P R s0 t := by
  unfold execCarriageRetestDone at e; injection e with e; subst e
  repeat' first
    | with_reducible assumption | with_reducible refine carRetestDone_within ?_ p_coach

theorem execDiagnosticWrite_within (h : Within P R s0 s) (pAll : ∀ p, P p) (rAll : ∀ r, R r)
    (e : execDiagnosticWrite x1 x2 x3 x4 s = .next t) : Within P R s0 t := by
  unfold execDiagnosticWrite at e; injection e with e; subst e
  repeat' first
    | with_reducible assumption | with_reducible refine busWrite_within ?_ pAll rAll

theorem execConsistVerify_within (h : Within P R s0 s) (p_acc : P .acc) (p_mem : P .mem) (p_merger : P .merger)
    (p_safety : P .safety) (p_router : P .router) (p_drawbar : P .drawbar) (p_slots : P .slots) (p_lanes : P .lanes)
    (p_phys : P .phys) (p_cal : P .cal) (p_coach : P .coach) (p_ic : P .ic) (p_power : P .power) (p_host : P .host)
    (p_tw : P .tw) (r_cw_LDSTAT : R (.cw .LDSTAT)) (r_db_LSTAT : R (.db .LSTAT)) (r_ln_ENABLE : R (.ln .ENABLE))
    (r_ca_STAT : R (.ca .STAT)) (r_ca_LTEMP : R (.ca .LTEMP)) (r_ca_RUN : R (.ca .RUN)) (r_ln_STAT : R (.ln .STAT))
    (r_al_FSTAT : R (.al .FSTAT)) (r_ln_FAULTS : R (.ln .FAULTS)) (r_rk_STAT : R (.rk .STAT))
    (r_cw_TFAULT : R (.cw .TFAULT)) (r_ds_EVENTS : R (.ds .EVENTS)) (e : execConsistVerify x1 s = .next t) : Within P
    R s0 t := by
  unfold execConsistVerify at e; injection e with e; subst e
  repeat' first
    | with_reducible assumption | with_reducible refine regPut_at (fun _ _ h => ?_) ?_ p_acc p_power
    | with_reducible refine writeLdCmd_within ?_ p_mem p_merger p_safety p_router p_drawbar
                        p_slots p_lanes p_phys p_cal p_coach p_ic p_host p_tw r_cw_LDSTAT r_db_LSTAT r_ln_ENABLE
                        r_ca_STAT r_ca_LTEMP r_ca_RUN r_ln_STAT r_al_FSTAT r_ln_FAULTS r_rk_STAT r_cw_TFAULT
                        r_ds_EVENTS
    | with_reducible refine within_pair ?_ (by assumption) | simp only [writeReg, readReg, cwWrite, cwRead]

theorem execApplyFullImage_within (h : Within P R s0 s) (p_acc : P .acc) (p_mem : P .mem) (p_merger : P .merger)
    (p_safety : P .safety) (p_router : P .router) (p_drawbar : P .drawbar) (p_slots : P .slots) (p_lanes : P .lanes)
    (p_phys : P .phys) (p_cal : P .cal) (p_coach : P .coach) (p_ic : P .ic) (p_power : P .power) (p_host : P .host)
    (p_tw : P .tw) (r_cw_LDSTAT : R (.cw .LDSTAT)) (r_db_LSTAT : R (.db .LSTAT)) (r_ln_ENABLE : R (.ln .ENABLE))
    (r_ca_STAT : R (.ca .STAT)) (r_ca_LTEMP : R (.ca .LTEMP)) (r_ca_RUN : R (.ca .RUN)) (r_ln_STAT : R (.ln .STAT))
    (r_al_FSTAT : R (.al .FSTAT)) (r_ln_FAULTS : R (.ln .FAULTS)) (r_rk_STAT : R (.rk .STAT))
    (r_cw_TFAULT : R (.cw .TFAULT)) (r_ds_EVENTS : R (.ds .EVENTS)) (e : execApplyFullImage x1 s = .next t) : Within P
    R s0 t := by
  unfold execApplyFullImage at e; injection e with e; subst e
  repeat' first
    | with_reducible assumption | with_reducible refine regPut_at (fun _ _ h => ?_) ?_ p_acc p_power
    | with_reducible refine writeLdCmd_within ?_ p_mem p_merger p_safety p_router p_drawbar
                        p_slots p_lanes p_phys p_cal p_coach p_ic p_host p_tw r_cw_LDSTAT r_db_LSTAT r_ln_ENABLE
                        r_ca_STAT r_ca_LTEMP r_ca_RUN r_ln_STAT r_al_FSTAT r_ln_FAULTS r_rk_STAT r_cw_TFAULT
                        r_ds_EVENTS
    | with_reducible refine within_pair ?_ (by assumption) | simp only [writeReg, readReg, cwWrite, cwRead]

theorem execApplyShuntImage_within (h : Within P R s0 s) (p_acc : P .acc) (p_mem : P .mem) (p_merger : P .merger)
    (p_safety : P .safety) (p_router : P .router) (p_drawbar : P .drawbar) (p_slots : P .slots) (p_lanes : P .lanes)
    (p_phys : P .phys) (p_cal : P .cal) (p_coach : P .coach) (p_ic : P .ic) (p_power : P .power) (p_host : P .host)
    (p_tw : P .tw) (r_cw_LDSTAT : R (.cw .LDSTAT)) (r_db_LSTAT : R (.db .LSTAT)) (r_ln_ENABLE : R (.ln .ENABLE))
    (r_ca_STAT : R (.ca .STAT)) (r_ca_LTEMP : R (.ca .LTEMP)) (r_ca_RUN : R (.ca .RUN)) (r_ln_STAT : R (.ln .STAT))
    (r_al_FSTAT : R (.al .FSTAT)) (r_ln_FAULTS : R (.ln .FAULTS)) (r_rk_STAT : R (.rk .STAT))
    (r_cw_TFAULT : R (.cw .TFAULT)) (r_ds_EVENTS : R (.ds .EVENTS)) (e : execApplyShuntImage x1 x2 s = .next t) :
    Within P R s0 t := by
  unfold execApplyShuntImage at e; injection e with e; subst e
  repeat' first
    | with_reducible assumption | with_reducible refine regPut_at (fun _ _ h => ?_) ?_ p_acc p_power
    | with_reducible refine writeLdCmd_within ?_ p_mem p_merger p_safety p_router p_drawbar
                        p_slots p_lanes p_phys p_cal p_coach p_ic p_host p_tw r_cw_LDSTAT r_db_LSTAT r_ln_ENABLE
                        r_ca_STAT r_ca_LTEMP r_ca_RUN r_ln_STAT r_al_FSTAT r_ln_FAULTS r_rk_STAT r_cw_TFAULT
                        r_ds_EVENTS
    | with_reducible refine within_pair ?_ (by assumption) | simp only [writeReg, readReg, cwWrite, cwRead]

theorem execApplySlot_within (h : Within P R s0 s) (p_acc : P .acc) (p_mem : P .mem) (p_merger : P .merger)
    (p_safety : P .safety) (p_router : P .router) (p_drawbar : P .drawbar) (p_slots : P .slots) (p_lanes : P .lanes)
    (p_phys : P .phys) (p_cal : P .cal) (p_coach : P .coach) (p_ic : P .ic) (p_power : P .power) (p_host : P .host)
    (p_tw : P .tw) (r_cw_LDSTAT : R (.cw .LDSTAT)) (r_db_LSTAT : R (.db .LSTAT)) (r_ln_ENABLE : R (.ln .ENABLE))
    (r_ca_STAT : R (.ca .STAT)) (r_ca_LTEMP : R (.ca .LTEMP)) (r_ca_RUN : R (.ca .RUN)) (r_ln_STAT : R (.ln .STAT))
    (r_al_FSTAT : R (.al .FSTAT)) (r_ln_FAULTS : R (.ln .FAULTS)) (r_rk_STAT : R (.rk .STAT))
    (r_cw_TFAULT : R (.cw .TFAULT)) (r_ds_EVENTS : R (.ds .EVENTS)) (e : execApplySlot x1 x2 s = .next t) : Within P R
    s0 t := by
  unfold execApplySlot at e; injection e with e; subst e
  repeat' first
    | with_reducible assumption | with_reducible refine regPut_at (fun _ _ h => ?_) ?_ p_acc p_power
    | with_reducible refine writeLdCmd_within ?_ p_mem p_merger p_safety p_router p_drawbar
                        p_slots p_lanes p_phys p_cal p_coach p_ic p_host p_tw r_cw_LDSTAT r_db_LSTAT r_ln_ENABLE
                        r_ca_STAT r_ca_LTEMP r_ca_RUN r_ln_STAT r_al_FSTAT r_ln_FAULTS r_rk_STAT r_cw_TFAULT
                        r_ds_EVENTS
    | with_reducible refine within_pair ?_ (by assumption) | simp only [writeReg, readReg, cwWrite, cwRead]

theorem execConsistAbort_within (h : Within P R s0 s) (p_acc : P .acc) (p_mem : P .mem) (p_merger : P .merger)
    (p_safety : P .safety) (p_router : P .router) (p_drawbar : P .drawbar) (p_slots : P .slots) (p_lanes : P .lanes)
    (p_phys : P .phys) (p_cal : P .cal) (p_coach : P .coach) (p_ic : P .ic) (p_power : P .power) (p_host : P .host)
    (p_tw : P .tw) (r_cw_LDSTAT : R (.cw .LDSTAT)) (r_db_LSTAT : R (.db .LSTAT)) (r_ln_ENABLE : R (.ln .ENABLE))
    (r_ca_STAT : R (.ca .STAT)) (r_ca_LTEMP : R (.ca .LTEMP)) (r_ca_RUN : R (.ca .RUN)) (r_ln_STAT : R (.ln .STAT))
    (r_al_FSTAT : R (.al .FSTAT)) (r_ln_FAULTS : R (.ln .FAULTS)) (r_rk_STAT : R (.rk .STAT))
    (r_cw_TFAULT : R (.cw .TFAULT)) (r_ds_EVENTS : R (.ds .EVENTS)) (e : execConsistAbort x1 s = .next t) : Within P R
    s0 t := by
  unfold execConsistAbort at e; injection e with e; subst e
  repeat' first
    | with_reducible assumption | with_reducible refine regPut_at (fun _ _ h => ?_) ?_ p_acc p_power
    | with_reducible refine writeLdCmd_within ?_ p_mem p_merger p_safety p_router p_drawbar
                        p_slots p_lanes p_phys p_cal p_coach p_ic p_host p_tw r_cw_LDSTAT r_db_LSTAT r_ln_ENABLE
                        r_ca_STAT r_ca_LTEMP r_ca_RUN r_ln_STAT r_al_FSTAT r_ln_FAULTS r_rk_STAT r_cw_TFAULT
                        r_ds_EVENTS
    | with_reducible refine within_pair ?_ (by assumption) | simp only [writeReg, readReg, cwWrite, cwRead]

theorem execConsistCheckDone_within (h : Within P R s0 s) (p_mem : P .mem) (p_merger : P .merger)
    (p_safety : P .safety) (p_router : P .router) (p_drawbar : P .drawbar) (p_slots : P .slots) (p_lanes : P .lanes)
    (p_phys : P .phys) (p_cal : P .cal) (p_coach : P .coach) (p_ic : P .ic) (p_host : P .host) (p_tw : P .tw)
    (r_cw_LDSTAT : R (.cw .LDSTAT)) (r_db_LSTAT : R (.db .LSTAT)) (r_ln_ENABLE : R (.ln .ENABLE))
    (r_ca_STAT : R (.ca .STAT)) (r_ca_LTEMP : R (.ca .LTEMP)) (r_ca_RUN : R (.ca .RUN)) (r_ln_STAT : R (.ln .STAT))
    (r_al_FSTAT : R (.al .FSTAT)) (r_ln_FAULTS : R (.ln .FAULTS)) (r_rk_STAT : R (.rk .STAT))
    (r_cw_TFAULT : R (.cw .TFAULT)) (r_ds_EVENTS : R (.ds .EVENTS)) (e : execConsistCheckDone s = .next t) : Within P
    R s0 t := by
  unfold execConsistCheckDone at e; injection e with e; subst e
  repeat' first
    | with_reducible assumption
    | with_reducible refine checkDone_within ?_ p_mem p_merger p_safety p_router p_drawbar
                        p_slots p_lanes p_phys p_cal p_coach p_ic p_host p_tw r_cw_LDSTAT r_db_LSTAT r_ln_ENABLE
                        r_ca_STAT r_ca_LTEMP r_ca_RUN r_ln_STAT r_al_FSTAT r_ln_FAULTS r_rk_STAT r_cw_TFAULT
                        r_ds_EVENTS

theorem execFullLoadTrainsStopped_within (h : Within P R s0 s) (p_mem : P .mem) (p_safety : P .safety)
    (p_slots : P .slots) (p_lanes : P .lanes) (p_coach : P .coach) (p_ic : P .ic) (p_tw : P .tw) (rAll : ∀ r, R r)
    (e : execFullLoadTrainsStopped s = .next t) : Within P R s0 t := by
  unfold execFullLoadTrainsStopped at e; injection e with e; subst e
  repeat' first
    | with_reducible assumption
    | with_reducible refine fullTrainsStopped_within ?_ p_mem p_safety p_slots p_lanes p_coach p_ic p_tw rAll

theorem execFullLoadWritten_within (h : Within P R s0 s) (p_merger : P .merger) (p_safety : P .safety)
    (p_router : P .router) (p_drawbar : P .drawbar) (p_slots : P .slots) (p_lanes : P .lanes) (p_phys : P .phys)
    (p_cal : P .cal) (p_coach : P .coach) (p_ic : P .ic) (p_host : P .host) (p_tw : P .tw) (r_rk_STAT : R (.rk .STAT))
    (r_cw_TFAULT : R (.cw .TFAULT)) (r_cw_LDSTAT : R (.cw .LDSTAT)) (r_ds_EVENTS : R (.ds .EVENTS))
    (r_db_LSTAT : R (.db .LSTAT)) (r_cw_ACTSER : R (.cw .ACTSER)) (r_cw_ACTID : R (.cw .ACTID))
    (r_cw_ACTSRC : R (.cw .ACTSRC)) (r_ln_ENABLE : R (.ln .ENABLE)) (r_ca_STAT : R (.ca .STAT))
    (r_ca_LTEMP : R (.ca .LTEMP)) (r_ca_RUN : R (.ca .RUN)) (r_ln_STAT : R (.ln .STAT)) (r_al_FSTAT : R (.al .FSTAT))
    (r_ln_FAULTS : R (.ln .FAULTS)) (e : execFullLoadWritten s = .next t) : Within P R s0 t := by
  unfold execFullLoadWritten at e; injection e with e; subst e
  repeat' first
    | with_reducible assumption
    | with_reducible refine fullWritten_within ?_ p_merger p_safety p_router p_drawbar p_slots
                        p_lanes p_phys p_cal p_coach p_ic p_host p_tw r_rk_STAT r_cw_TFAULT r_cw_LDSTAT r_ds_EVENTS
                        r_db_LSTAT r_cw_ACTSER r_cw_ACTID r_cw_ACTSRC r_ln_ENABLE r_ca_STAT r_ca_LTEMP r_ca_RUN
                        r_ln_STAT r_al_FSTAT r_ln_FAULTS

theorem execInPlaceShuntStopped_within (h : Within P R s0 s) (p_mem : P .mem) (p_safety : P .safety)
    (p_slots : P .slots) (p_coach : P .coach) (p_ic : P .ic) (p_tw : P .tw) (rAll : ∀ r, R r)
    (e : execInPlaceShuntStopped s = .next t) : Within P R s0 t := by
  unfold execInPlaceShuntStopped at e; injection e with e; subst e
  repeat' first
    | with_reducible assumption
    | with_reducible refine shuntStopped_within ?_ p_mem p_safety p_slots p_coach p_ic p_tw rAll

theorem execInPlaceShuntLoaded_within (h : Within P R s0 s) (p_merger : P .merger) (p_safety : P .safety)
    (p_router : P .router) (p_drawbar : P .drawbar) (p_slots : P .slots) (p_lanes : P .lanes) (p_phys : P .phys)
    (p_cal : P .cal) (p_coach : P .coach) (p_ic : P .ic) (p_host : P .host) (p_tw : P .tw) (r_rk_STAT : R (.rk .STAT))
    (r_cw_TFAULT : R (.cw .TFAULT)) (r_cw_LDSTAT : R (.cw .LDSTAT)) (r_ds_EVENTS : R (.ds .EVENTS))
    (r_db_LSTAT : R (.db .LSTAT)) (r_cw_ACTSER : R (.cw .ACTSER)) (r_cw_ACTID : R (.cw .ACTID))
    (r_cw_ACTSRC : R (.cw .ACTSRC)) (r_ln_ENABLE : R (.ln .ENABLE)) (r_ca_STAT : R (.ca .STAT))
    (r_ca_LTEMP : R (.ca .LTEMP)) (r_ca_RUN : R (.ca .RUN)) (r_ln_STAT : R (.ln .STAT)) (r_al_FSTAT : R (.al .FSTAT))
    (r_ln_FAULTS : R (.ln .FAULTS)) (e : execInPlaceShuntLoaded s = .next t) : Within P R s0 t := by
  unfold execInPlaceShuntLoaded at e; injection e with e; subst e
  repeat' first
    | with_reducible assumption
    | with_reducible refine shuntLoaded_within ?_ p_merger p_safety p_router p_drawbar p_slots
                        p_lanes p_phys p_cal p_coach p_ic p_host p_tw r_rk_STAT r_cw_TFAULT r_cw_LDSTAT r_ds_EVENTS
                        r_db_LSTAT r_cw_ACTSER r_cw_ACTID r_cw_ACTSRC r_ln_ENABLE r_ca_STAT r_ca_LTEMP r_ca_RUN
                        r_ln_STAT r_al_FSTAT r_ln_FAULTS

theorem execHandoverStagingLoaded_within (h : Within P R s0 s) (p_merger : P .merger) (p_safety : P .safety)
    (p_router : P .router) (p_drawbar : P .drawbar) (p_slots : P .slots) (p_coach : P .coach) (p_ic : P .ic)
    (p_host : P .host) (p_tw : P .tw) (r_rk_STAT : R (.rk .STAT)) (r_cw_TFAULT : R (.cw .TFAULT))
    (r_cw_LDSTAT : R (.cw .LDSTAT)) (r_ds_EVENTS : R (.ds .EVENTS)) (r_db_LSTAT : R (.db .LSTAT))
    (e : execHandoverStagingLoaded s = .next t) : Within P R s0 t := by
  unfold execHandoverStagingLoaded at e; injection e with e; subst e
  repeat' first
    | with_reducible assumption
    | with_reducible refine stagingLoaded_within ?_ p_merger p_safety p_router p_drawbar p_slots
                        p_coach p_ic p_host p_tw r_rk_STAT r_cw_TFAULT r_cw_LDSTAT r_ds_EVENTS r_db_LSTAT

theorem execHandoverOldStopped_within (h : Within P R s0 s) (p_safety : P .safety) (p_coach : P .coach) (p_ic : P .ic)
    (p_host : P .host) (p_tw : P .tw) (r_cw_LDSTAT : R (.cw .LDSTAT)) (e : execHandoverOldStopped s = .next t) :
    Within P R s0 t := by
  unfold execHandoverOldStopped at e; injection e with e; subst e
  repeat' first
    | with_reducible assumption
    | with_reducible refine handoverOldStopped_within ?_ p_safety p_coach p_ic p_host p_tw r_cw_LDSTAT

theorem execHandoverTimeout_within (h : Within P R s0 s) (p_safety : P .safety) (p_coach : P .coach) (p_ic : P .ic)
    (p_host : P .host) (p_tw : P .tw) (r_cw_LDSTAT : R (.cw .LDSTAT)) (e : execHandoverTimeout s = .next t) : Within P
    R s0 t := by
  unfold execHandoverTimeout at e; injection e with e; subst e
  repeat' first
    | with_reducible assumption
    | with_reducible refine handoverTimeout_within ?_ p_safety p_coach p_ic p_host p_tw r_cw_LDSTAT

theorem execStagingConfigWrite_within (h : Within P R s0 s) (pAll : ∀ p, P p) (rAll : ∀ r, R r)
    (e : execStagingConfigWrite x1 x2 x3 s = .next t) : Within P R s0 t := by
  unfold execStagingConfigWrite at e; injection e with e; subst e
  repeat' first
    | with_reducible assumption | with_reducible refine regPut_within ?_ pAll rAll

end Sys2Proof.Machine
end

