-- ==== Sys2Proof/Laws/WithinSlotRows.lean ====
section
/-! SUPPORT. What each operation of Machine/SlotRows.lean can change: one lemma per operation (see Laws/WithinOps.lean). -/
namespace Sys2Proof.Machine
set_option Elab.async false

set_option linter.unusedVariables false
set_option linter.unusedSimpArgs false

variable {P : Part → Prop} {R : Reg → Prop} {s0 s t : State}

theorem execSlotFwd_within (h : Within P R s0 s) (p_acc : P .acc) (p_merger : P .merger) (p_safety : P .safety)
    (p_router : P .router) (p_timers : P .timers) (p_drawbar : P .drawbar) (p_slots : P .slots) (p_prRun : P .prRun)
    (p_homing : P .homing) (p_ic : P .ic) (p_power : P .power) (p_tw : P .tw) (r_ds_STAT : R (.ds .STAT))
    (r_ds_EVENTS : R (.ds .EVENTS)) (r_db_LSTAT : R (.db .LSTAT)) (r_tm_STAT : R (.tm .STAT))
    (r_tm_OUT : R (.tm .OUT)) (r_tm_CMPA : R (.tm .CMPA)) (e : execSlotFwd x1 s = .next t) : Within P R s0 t := by
  unfold execSlotFwd at e; injection e with e; subst e
  repeat' first
    | with_reducible assumption
    | with_reducible refine slotCommand_within (fun _ _ _ h => ?_) ?_ p_acc p_merger p_safety
                        p_router p_timers p_drawbar p_slots p_prRun p_homing p_ic p_power p_tw r_ds_STAT r_ds_EVENTS
                        r_db_LSTAT r_tm_STAT r_tm_OUT r_tm_CMPA
    | with_reducible refine slotDrive_within ?_ p_merger p_safety p_router p_drawbar p_slots
                        p_ic p_tw r_ds_STAT r_ds_EVENTS r_db_LSTAT

theorem execSlotRev_within (h : Within P R s0 s) (p_acc : P .acc) (p_merger : P .merger) (p_safety : P .safety)
    (p_router : P .router) (p_timers : P .timers) (p_drawbar : P .drawbar) (p_slots : P .slots) (p_prRun : P .prRun)
    (p_homing : P .homing) (p_ic : P .ic) (p_power : P .power) (p_tw : P .tw) (r_ds_STAT : R (.ds .STAT))
    (r_ds_EVENTS : R (.ds .EVENTS)) (r_db_LSTAT : R (.db .LSTAT)) (r_tm_STAT : R (.tm .STAT))
    (r_tm_OUT : R (.tm .OUT)) (r_tm_CMPA : R (.tm .CMPA)) (e : execSlotRev x1 s = .next t) : Within P R s0 t := by
  unfold execSlotRev at e; injection e with e; subst e
  repeat' first
    | with_reducible assumption
    | with_reducible refine slotCommand_within (fun _ _ _ h => ?_) ?_ p_acc p_merger p_safety
                        p_router p_timers p_drawbar p_slots p_prRun p_homing p_ic p_power p_tw r_ds_STAT r_ds_EVENTS
                        r_db_LSTAT r_tm_STAT r_tm_OUT r_tm_CMPA
    | with_reducible refine slotDrive_within ?_ p_merger p_safety p_router p_drawbar p_slots
                        p_ic p_tw r_ds_STAT r_ds_EVENTS r_db_LSTAT

theorem execSlotOff_within (h : Within P R s0 s) (p_acc : P .acc) (p_merger : P .merger) (p_safety : P .safety)
    (p_router : P .router) (p_timers : P .timers) (p_drawbar : P .drawbar) (p_slots : P .slots) (p_prRun : P .prRun)
    (p_homing : P .homing) (p_ic : P .ic) (p_power : P .power) (p_tw : P .tw) (r_ds_STAT : R (.ds .STAT))
    (r_ds_EVENTS : R (.ds .EVENTS)) (r_db_LSTAT : R (.db .LSTAT)) (r_tm_STAT : R (.tm .STAT))
    (r_tm_OUT : R (.tm .OUT)) (r_tm_CMPA : R (.tm .CMPA)) (e : execSlotOff x1 s = .next t) : Within P R s0 t := by
  unfold execSlotOff at e; injection e with e; subst e
  repeat' first
    | with_reducible assumption
    | with_reducible refine slotCommand_within (fun _ _ _ h => ?_) ?_ p_acc p_merger p_safety
                        p_router p_timers p_drawbar p_slots p_prRun p_homing p_ic p_power p_tw r_ds_STAT r_ds_EVENTS
                        r_db_LSTAT r_tm_STAT r_tm_OUT r_tm_CMPA
    | with_reducible refine slotOff_within ?_ p_merger p_safety p_router p_drawbar p_slots
                        p_prRun p_homing p_ic p_tw r_ds_STAT r_ds_EVENTS r_db_LSTAT

theorem execSlotSpeed_within (h : Within P R s0 s) (p_acc : P .acc) (p_merger : P .merger) (p_safety : P .safety)
    (p_router : P .router) (p_timers : P .timers) (p_drawbar : P .drawbar) (p_slots : P .slots) (p_prRun : P .prRun)
    (p_homing : P .homing) (p_ic : P .ic) (p_power : P .power) (p_tw : P .tw) (r_ds_STAT : R (.ds .STAT))
    (r_ds_EVENTS : R (.ds .EVENTS)) (r_db_LSTAT : R (.db .LSTAT)) (r_tm_STAT : R (.tm .STAT))
    (r_tm_OUT : R (.tm .OUT)) (r_tm_CMPA : R (.tm .CMPA)) (e : execSlotSpeed x1 x2 s = .next t) : Within P R s0 t := by
  unfold execSlotSpeed at e; injection e with e; subst e
  repeat' first
    | with_reducible assumption
    | with_reducible refine slotCommand_within (fun _ _ _ h => ?_) ?_ p_acc p_merger p_safety
                        p_router p_timers p_drawbar p_slots p_prRun p_homing p_ic p_power p_tw r_ds_STAT r_ds_EVENTS
                        r_db_LSTAT r_tm_STAT r_tm_OUT r_tm_CMPA
    | with_reducible refine slotSpeed_within ?_ p_safety p_router p_timers p_drawbar p_slots
                        p_ic p_tw r_ds_STAT r_tm_STAT r_tm_OUT r_tm_CMPA r_db_LSTAT

theorem execSlotClear_within (h : Within P R s0 s) (p_acc : P .acc) (p_merger : P .merger) (p_safety : P .safety)
    (p_router : P .router) (p_timers : P .timers) (p_drawbar : P .drawbar) (p_slots : P .slots) (p_prRun : P .prRun)
    (p_homing : P .homing) (p_ic : P .ic) (p_power : P .power) (p_tw : P .tw) (r_ds_STAT : R (.ds .STAT))
    (r_ds_EVENTS : R (.ds .EVENTS)) (r_db_LSTAT : R (.db .LSTAT)) (r_tm_STAT : R (.tm .STAT))
    (r_tm_OUT : R (.tm .OUT)) (r_tm_CMPA : R (.tm .CMPA)) (e : execSlotClear x1 s = .next t) : Within P R s0 t := by
  unfold execSlotClear at e; injection e with e; subst e
  repeat' first
    | with_reducible assumption
    | with_reducible refine slotCommand_within (fun _ _ _ h => ?_) ?_ p_acc p_merger p_safety
                        p_router p_timers p_drawbar p_slots p_prRun p_homing p_ic p_power p_tw r_ds_STAT r_ds_EVENTS
                        r_db_LSTAT r_tm_STAT r_tm_OUT r_tm_CMPA
    | with_reducible refine slotClear_within ?_ p_safety p_slots p_ic p_tw r_ds_STAT

theorem execSlotPinch_within (h : Within P R s0 s) (p_merger : P .merger) (p_safety : P .safety)
    (p_router : P .router) (p_drawbar : P .drawbar) (p_slots : P .slots) (p_prRun : P .prRun) (p_homing : P .homing)
    (p_ic : P .ic) (p_tw : P .tw) (r_ds_STAT : R (.ds .STAT)) (r_ds_EVENTS : R (.ds .EVENTS))
    (r_db_LSTAT : R (.db .LSTAT)) (e : execSlotPinch x1 s = .next t) : Within P R s0 t := by
  unfold execSlotPinch at e; injection e with e; subst e
  repeat' first
    | with_reducible assumption
    | with_reducible refine slotPinch_within ?_ p_merger p_safety p_router p_drawbar p_slots
                        p_prRun p_homing p_ic p_tw r_ds_STAT r_ds_EVENTS r_db_LSTAT

theorem execCoastEnd_within (h : Within P R s0 s) (p_merger : P .merger) (p_safety : P .safety) (p_router : P .router)
    (p_drawbar : P .drawbar) (p_slots : P .slots) (p_prRun : P .prRun) (p_ic : P .ic) (p_tw : P .tw)
    (r_ds_STAT : R (.ds .STAT)) (r_ds_EVENTS : R (.ds .EVENTS)) (r_db_LSTAT : R (.db .LSTAT))
    (e : execCoastEnd x1 s = .next t) : Within P R s0 t := by
  unfold execCoastEnd at e; injection e with e; subst e
  repeat' first
    | with_reducible assumption
    | with_reducible refine coastEnd_within ?_ p_merger p_safety p_router p_drawbar p_slots
                        p_prRun p_ic p_tw r_ds_STAT r_ds_EVENTS r_db_LSTAT

theorem execReverseEnd_within (h : Within P R s0 s) (p_merger : P .merger) (p_safety : P .safety)
    (p_router : P .router) (p_drawbar : P .drawbar) (p_slots : P .slots) (p_prRun : P .prRun) (p_homing : P .homing)
    (p_ic : P .ic) (p_tw : P .tw) (r_db_LSTAT : R (.db .LSTAT)) (r_ds_STAT : R (.ds .STAT))
    (r_ds_EVENTS : R (.ds .EVENTS)) (e : execReverseEnd x1 s = .next t) : Within P R s0 t := by
  unfold execReverseEnd at e; injection e with e; subst e
  repeat' first
    | with_reducible assumption
    | with_reducible refine reverseEnd_within ?_ p_merger p_safety p_router p_drawbar p_slots
                        p_prRun p_homing p_ic p_tw r_db_LSTAT r_ds_STAT r_ds_EVENTS

theorem execReportTick_within (h : Within P R s0 s) (p_merger : P .merger) (p_slots : P .slots)
    (e : execReportTick x1 s = .next t) : Within P R s0 t := by
  unfold execReportTick at e; injection e with e; subst e
  repeat' first
    | with_reducible assumption | with_reducible refine reportTick_within ?_ p_merger p_slots

theorem execPositionWrite_within (h : Within P R s0 s) (p_acc : P .acc) (p_slots : P .slots) (p_power : P .power)
    (e : execPositionWrite x1 x2 s = .next t) : Within P R s0 t := by
  unfold execPositionWrite at e; injection e with e; subst e
  repeat' first
    | with_reducible assumption | with_reducible refine regPut_at (fun _ _ h => ?_) ?_ p_acc p_power
    | with_reducible refine writePosition_within ?_ p_slots | with_reducible refine within_pair ?_ (by assumption)
    | simp only [writeReg, readReg, dsWrite, dsRead]

theorem execCoolantEnable_within (h : Within P R s0 s) (p_acc : P .acc) (p_merger : P .merger) (p_slots : P .slots)
    (p_loop : P .loop) (p_power : P .power) (r_ds_CLCTL : R (.ds .CLCTL)) (e : execCoolantEnable x1 x2 s = .next t) :
    Within P R s0 t := by
  unfold execCoolantEnable at e; injection e with e; subst e
  repeat' first
    | with_reducible assumption | with_reducible refine regPut_at (fun _ _ h => ?_) ?_ p_acc p_power
    | with_reducible refine writeClCtl_within ?_ p_merger p_slots p_loop r_ds_CLCTL
    | with_reducible refine within_pair ?_ (by assumption) | simp only [writeReg, readReg, dsWrite, dsRead]

theorem execCoolantStep_within (h : Within P R s0 s) (p_merger : P .merger) (p_safety : P .safety)
    (p_router : P .router) (p_timers : P .timers) (p_drawbar : P .drawbar) (p_slots : P .slots) (p_loop : P .loop)
    (p_ic : P .ic) (p_tw : P .tw) (r_ds_STAT : R (.ds .STAT)) (r_tm_STAT : R (.tm .STAT)) (r_tm_OUT : R (.tm .OUT))
    (r_tm_CMPA : R (.tm .CMPA)) (r_db_LSTAT : R (.db .LSTAT)) (e : execCoolantStep s = .next t) : Within P R s0 t := by
  unfold execCoolantStep at e; injection e with e; subst e
  repeat' first
    | with_reducible assumption
    | with_reducible refine coolantStep_within ?_ p_merger p_safety p_router p_timers p_drawbar
                        p_slots p_loop p_ic p_tw r_ds_STAT r_tm_STAT r_tm_OUT r_tm_CMPA r_db_LSTAT

theorem execDryRestart_within (h : Within P R s0 s) (p_merger : P .merger) (p_safety : P .safety)
    (p_router : P .router) (p_timers : P .timers) (p_drawbar : P .drawbar) (p_slots : P .slots) (p_loop : P .loop)
    (p_ic : P .ic) (p_tw : P .tw) (r_ds_STAT : R (.ds .STAT)) (r_tm_STAT : R (.tm .STAT)) (r_tm_OUT : R (.tm .OUT))
    (r_tm_CMPA : R (.tm .CMPA)) (r_db_LSTAT : R (.db .LSTAT)) (r_ds_EVENTS : R (.ds .EVENTS))
    (e : execDryRestart x1 s = .next t) : Within P R s0 t := by
  unfold execDryRestart at e; injection e with e; subst e
  repeat' first
    | with_reducible assumption
    | with_reducible refine pumpRestart_within ?_ p_merger p_safety p_router p_timers p_drawbar
                        p_slots p_loop p_ic p_tw r_ds_STAT r_tm_STAT r_tm_OUT r_tm_CMPA r_db_LSTAT r_ds_EVENTS

theorem execServiceRequestTaken_within (h : Within P R s0 s) (p_merger : P .merger) (p_safety : P .safety)
    (p_router : P .router) (p_drawbar : P .drawbar) (p_slots : P .slots) (p_prRun : P .prRun) (p_homing : P .homing)
    (p_ic : P .ic) (p_tw : P .tw) (r_ds_FHCTL : R (.ds .FHCTL)) (r_ds_STAT : R (.ds .STAT))
    (r_ds_EVENTS : R (.ds .EVENTS)) (r_db_LSTAT : R (.db .LSTAT)) (r_ds_PRCTL : R (.ds .PRCTL))
    (e : execServiceRequestTaken x1 s = .next t) : Within P R s0 t := by
  unfold execServiceRequestTaken at e; injection e with e; subst e
  repeat' first
    | with_reducible assumption
    | with_reducible refine serviceTaken_within ?_ p_merger p_safety p_router p_drawbar p_slots
                        p_prRun p_homing p_ic p_tw r_ds_FHCTL r_ds_STAT r_ds_EVENTS r_db_LSTAT r_ds_PRCTL

theorem execRecallGo_within (h : Within P R s0 s) (p_acc : P .acc) (p_merger : P .merger) (p_safety : P .safety)
    (p_router : P .router) (p_drawbar : P .drawbar) (p_slots : P .slots) (p_prRun : P .prRun) (p_ic : P .ic)
    (p_power : P .power) (p_nvm : P .nvm) (p_tw : P .tw) (r_ds_PRCTL : R (.ds .PRCTL)) (r_ds_PRSTAT : R (.ds .PRSTAT))
    (r_ds_PRMEM : R (.ds .PRMEM)) (r_ds_STAT : R (.ds .STAT)) (r_ds_EVENTS : R (.ds .EVENTS))
    (r_db_LSTAT : R (.db .LSTAT)) (e : execRecallGo x1 x2 s = .next t) : Within P R s0 t := by
  unfold execRecallGo at e; injection e with e; subst e
  repeat' first
    | with_reducible assumption | with_reducible refine regPut_at (fun _ _ h => ?_) ?_ p_acc p_power
    | with_reducible refine writePrCtl_within ?_ p_merger p_safety p_router p_drawbar p_slots
                        p_prRun p_ic p_nvm p_tw r_ds_PRCTL r_ds_PRSTAT r_ds_PRMEM r_ds_STAT r_ds_EVENTS r_db_LSTAT
    | with_reducible refine within_pair ?_ (by assumption) | simp only [writeReg, readReg, dsWrite, dsRead]

theorem execRecallStop_within (h : Within P R s0 s) (p_acc : P .acc) (p_merger : P .merger) (p_safety : P .safety)
    (p_router : P .router) (p_drawbar : P .drawbar) (p_slots : P .slots) (p_prRun : P .prRun) (p_ic : P .ic)
    (p_power : P .power) (p_nvm : P .nvm) (p_tw : P .tw) (r_ds_PRCTL : R (.ds .PRCTL)) (r_ds_PRSTAT : R (.ds .PRSTAT))
    (r_ds_PRMEM : R (.ds .PRMEM)) (r_ds_STAT : R (.ds .STAT)) (r_ds_EVENTS : R (.ds .EVENTS))
    (r_db_LSTAT : R (.db .LSTAT)) (e : execRecallStop x1 s = .next t) : Within P R s0 t := by
  unfold execRecallStop at e; injection e with e; subst e
  repeat' first
    | with_reducible assumption | with_reducible refine regPut_at (fun _ _ h => ?_) ?_ p_acc p_power
    | with_reducible refine writePrCtl_within ?_ p_merger p_safety p_router p_drawbar p_slots
                        p_prRun p_ic p_nvm p_tw r_ds_PRCTL r_ds_PRSTAT r_ds_PRMEM r_ds_STAT r_ds_EVENTS r_db_LSTAT
    | with_reducible refine within_pair ?_ (by assumption) | simp only [writeReg, readReg, dsWrite, dsRead]

theorem execRecallSave_within (h : Within P R s0 s) (p_acc : P .acc) (p_merger : P .merger) (p_safety : P .safety)
    (p_router : P .router) (p_drawbar : P .drawbar) (p_slots : P .slots) (p_prRun : P .prRun) (p_ic : P .ic)
    (p_power : P .power) (p_nvm : P .nvm) (p_tw : P .tw) (r_ds_PRCTL : R (.ds .PRCTL)) (r_ds_PRSTAT : R (.ds .PRSTAT))
    (r_ds_PRMEM : R (.ds .PRMEM)) (r_ds_STAT : R (.ds .STAT)) (r_ds_EVENTS : R (.ds .EVENTS))
    (r_db_LSTAT : R (.db .LSTAT)) (e : execRecallSave x1 x2 s = .next t) : Within P R s0 t := by
  unfold execRecallSave at e; injection e with e; subst e
  repeat' first
    | with_reducible assumption | with_reducible refine regPut_at (fun _ _ h => ?_) ?_ p_acc p_power
    | with_reducible refine writePrCtl_within ?_ p_merger p_safety p_router p_drawbar p_slots
                        p_prRun p_ic p_nvm p_tw r_ds_PRCTL r_ds_PRSTAT r_ds_PRMEM r_ds_STAT r_ds_EVENTS r_db_LSTAT
    | with_reducible refine within_pair ?_ (by assumption) | simp only [writeReg, readReg, dsWrite, dsRead]

theorem execRecallTimeout_within (h : Within P R s0 s) (p_merger : P .merger) (p_safety : P .safety)
    (p_router : P .router) (p_drawbar : P .drawbar) (p_slots : P .slots) (p_prRun : P .prRun) (p_ic : P .ic)
    (p_tw : P .tw) (r_ds_STAT : R (.ds .STAT)) (r_ds_EVENTS : R (.ds .EVENTS)) (r_db_LSTAT : R (.db .LSTAT))
    (e : execRecallTimeout s = .next t) : Within P R s0 t := by
  unfold execRecallTimeout at e; injection e with e; subst e
  repeat' first
    | with_reducible assumption
    | with_reducible refine recallTimeout_within ?_ p_merger p_safety p_router p_drawbar p_slots
                        p_prRun p_ic p_tw r_ds_STAT r_ds_EVENTS r_db_LSTAT

theorem execHomingGo_within (h : Within P R s0 s) (p_acc : P .acc) (p_merger : P .merger) (p_safety : P .safety)
    (p_router : P .router) (p_drawbar : P .drawbar) (p_slots : P .slots) (p_homing : P .homing) (p_ic : P .ic)
    (p_power : P .power) (p_tw : P .tw) (r_ds_FHCTL : R (.ds .FHCTL)) (r_ds_STAT : R (.ds .STAT))
    (r_ds_EVENTS : R (.ds .EVENTS)) (r_db_LSTAT : R (.db .LSTAT)) (e : execHomingGo x1 s = .next t) : Within P R s0 t := by
  unfold execHomingGo at e; injection e with e; subst e
  repeat' first
    | with_reducible assumption | with_reducible refine regPut_at (fun _ _ h => ?_) ?_ p_acc p_power
    | with_reducible refine writeFhCtl_within ?_ p_merger p_safety p_router p_drawbar p_slots
                        p_homing p_ic p_tw r_ds_FHCTL r_ds_STAT r_ds_EVENTS r_db_LSTAT
    | with_reducible refine within_pair ?_ (by assumption) | simp only [writeReg, readReg, dsWrite, dsRead]

theorem execHomingStop_within (h : Within P R s0 s) (p_acc : P .acc) (p_merger : P .merger) (p_safety : P .safety)
    (p_router : P .router) (p_drawbar : P .drawbar) (p_slots : P .slots) (p_homing : P .homing) (p_ic : P .ic)
    (p_power : P .power) (p_tw : P .tw) (r_ds_FHCTL : R (.ds .FHCTL)) (r_ds_STAT : R (.ds .STAT))
    (r_ds_EVENTS : R (.ds .EVENTS)) (r_db_LSTAT : R (.db .LSTAT)) (e : execHomingStop x1 s = .next t) : Within P R s0
    t := by
  unfold execHomingStop at e; injection e with e; subst e
  repeat' first
    | with_reducible assumption | with_reducible refine regPut_at (fun _ _ h => ?_) ?_ p_acc p_power
    | with_reducible refine writeFhCtl_within ?_ p_merger p_safety p_router p_drawbar p_slots
                        p_homing p_ic p_tw r_ds_FHCTL r_ds_STAT r_ds_EVENTS r_db_LSTAT
    | with_reducible refine within_pair ?_ (by assumption) | simp only [writeReg, readReg, dsWrite, dsRead]

theorem execHomingTimeout_within (h : Within P R s0 s) (p_merger : P .merger) (p_safety : P .safety)
    (p_router : P .router) (p_drawbar : P .drawbar) (p_slots : P .slots) (p_homing : P .homing) (p_ic : P .ic)
    (p_tw : P .tw) (r_ds_STAT : R (.ds .STAT)) (r_ds_EVENTS : R (.ds .EVENTS)) (r_db_LSTAT : R (.db .LSTAT))
    (e : execHomingTimeout x1 s = .next t) : Within P R s0 t := by
  unfold execHomingTimeout at e; injection e with e; subst e
  repeat' first
    | with_reducible assumption
    | with_reducible refine homingTimeout_within ?_ p_merger p_safety p_router p_drawbar p_slots
                        p_homing p_ic p_tw r_ds_STAT r_ds_EVENTS r_db_LSTAT

theorem execAutoHomingStart_within (h : Within P R s0 s) (p_merger : P .merger) (p_safety : P .safety)
    (p_router : P .router) (p_drawbar : P .drawbar) (p_slots : P .slots) (p_homing : P .homing) (p_ic : P .ic)
    (p_tw : P .tw) (r_ds_STAT : R (.ds .STAT)) (r_ds_EVENTS : R (.ds .EVENTS)) (r_db_LSTAT : R (.db .LSTAT))
    (e : execAutoHomingStart x1 s = .next t) : Within P R s0 t := by
  unfold execAutoHomingStart at e; injection e with e; subst e
  repeat' first
    | with_reducible assumption
    | with_reducible refine autoHoming_within ?_ p_merger p_safety p_router p_drawbar p_slots
                        p_homing p_ic p_tw r_ds_STAT r_ds_EVENTS r_db_LSTAT

end Sys2Proof.Machine
end

