-- ==== Sys2Proof/Laws/WithinRecordRows.lean ====
section
/-! SUPPORT. What each operation of Machine/RecordRows.lean can change: one lemma per operation (see Laws/WithinOps.lean). -/
namespace Sys2Proof.Machine
set_option Elab.async false

set_option linter.unusedVariables false
set_option linter.unusedSimpArgs false

variable {P : Part → Prop} {R : Reg → Prop} {s0 s t : State}

theorem execRecordArrive_within (h : Within P R s0 s) (p_merger : P .merger) (p_safety : P .safety) (p_ic : P .ic)
    (p_tw : P .tw) (r_rk_STAT : R (.rk .STAT)) (r_rk_LATE : R (.rk .LATE)) (e : execRecordArrive s = .next t) : Within
    P R s0 t := by
  unfold execRecordArrive at e; injection e with e; subst e
  repeat' first
    | with_reducible assumption
    | with_reducible refine recordArrive_within ?_ p_merger p_safety p_ic p_tw r_rk_STAT r_rk_LATE

theorem execRecordWrite_within (h : Within P R s0 s) (p_mem : P .mem) (p_merger : P .merger) (p_safety : P .safety)
    (p_router : P .router) (p_ic : P .ic) (p_tw : P .tw) (r_rk_STAT : R (.rk .STAT)) (r_rk_LATE : R (.rk .LATE))
    (r_rk_OVCNT : R (.rk .OVCNT)) (r_rk_CnSTAT : R (.rk .CnSTAT)) (e : execRecordWrite s = .next t) : Within P R s0 t := by
  unfold execRecordWrite at e; injection e with e; subst e
  repeat' first
    | with_reducible assumption
    | with_reducible refine recordWrite_within ?_ p_mem p_merger p_safety p_router p_ic p_tw
                        r_rk_STAT r_rk_LATE r_rk_OVCNT r_rk_CnSTAT

theorem execOverflowExit_within (h : Within P R s0 s) (p_mem : P .mem) (p_merger : P .merger) (p_safety : P .safety)
    (p_router : P .router) (p_ic : P .ic) (p_tw : P .tw) (r_rk_OVCNT : R (.rk .OVCNT)) (r_rk_STAT : R (.rk .STAT))
    (r_rk_CnSTAT : R (.rk .CnSTAT)) (e : execOverflowExit s = .next t) : Within P R s0 t := by
  unfold execOverflowExit at e; injection e with e; subst e
  repeat' first
    | with_reducible assumption
    | with_reducible refine overflowExit_within ?_ p_mem p_merger p_safety p_router p_ic p_tw
                        r_rk_OVCNT r_rk_STAT r_rk_CnSTAT

theorem execCursorEnable_within (h : Within P R s0 s) (p_acc : P .acc) (p_merger : P .merger) (p_power : P .power)
    (p_host : P .host) (p_tw : P .tw) (r_rk_CnCTRL : R (.rk .CnCTRL)) (e : execCursorEnable x1 x2 x3 s = .next t) :
    Within P R s0 t := by
  unfold execCursorEnable at e; injection e with e; subst e
  repeat' first
    | with_reducible assumption | with_reducible refine regPut_at (fun _ _ h => ?_) ?_ p_acc p_power
    | with_reducible refine cursorControl_within ?_ p_merger p_host p_tw r_rk_CnCTRL
    | with_reducible refine within_pair ?_ (by assumption) | simp only [writeReg, readReg, rkWrite, rkRead]

theorem execCursorAck_within (h : Within P R s0 s) (p_acc : P .acc) (p_merger : P .merger) (p_safety : P .safety)
    (p_ic : P .ic) (p_power : P .power) (p_tw : P .tw) (r_rk_CnSTAT : R (.rk .CnSTAT))
    (e : execCursorAck x1 x2 x3 s = .next t) : Within P R s0 t := by
  unfold execCursorAck at e; injection e with e; subst e
  repeat' first
    | with_reducible assumption | with_reducible refine regPut_at (fun _ _ h => ?_) ?_ p_acc p_power
    | with_reducible refine cursorAck_within ?_ p_merger p_safety p_ic p_tw r_rk_CnSTAT
    | with_reducible refine within_pair ?_ (by assumption) | simp only [writeReg, readReg, rkWrite, rkRead]

theorem execSwRecordCommit_within (h : Within P R s0 s) (p_acc : P .acc) (p_merger : P .merger) (p_safety : P .safety)
    (p_ic : P .ic) (p_power : P .power) (p_tw : P .tw) (r_rk_STAT : R (.rk .STAT))
    (e : execSwRecordCommit x1 x2 s = .next t) : Within P R s0 t := by
  unfold execSwRecordCommit at e; injection e with e; subst e
  repeat' first
    | with_reducible assumption | with_reducible refine regPut_at (fun _ _ h => ?_) ?_ p_acc p_power
    | with_reducible refine swRecord_within ?_ p_merger p_safety p_ic p_tw r_rk_STAT
    | with_reducible refine within_pair ?_ (by assumption) | simp only [writeReg, readReg, rkWrite, rkRead]

theorem execHorizonWrite_within (h : Within P R s0 s) (p_acc : P .acc) (p_power : P .power)
    (r_rk_HORIZON : R (.rk .HORIZON)) (e : execHorizonWrite x1 x2 s = .next t) : Within P R s0 t := by
  unfold execHorizonWrite at e; injection e with e; subst e
  repeat' first
    | with_reducible assumption | with_reducible refine regPut_at (fun _ _ h => ?_) ?_ p_acc p_power
    | with_reducible refine horizonWrite_within ?_ r_rk_HORIZON
    | with_reducible refine within_pair ?_ (by assumption) | simp only [writeReg, readReg, rkWrite, rkRead]

theorem execAlmanacWrite_within (h : Within P R s0 s) (p_mem : P .mem) (p_safety : P .safety)
    (r_al_WIDX : R (.al .WIDX)) (r_al_COUNT : R (.al .COUNT)) (e : execAlmanacWrite s = .next t) : Within P R s0 t := by
  unfold execAlmanacWrite at e; injection e with e; subst e
  repeat' first
    | with_reducible assumption | with_reducible refine almanacWrite_within ?_ p_mem p_safety r_al_WIDX r_al_COUNT

theorem execAlmanacLogCommit_within (h : Within P R s0 s) (p_acc : P .acc) (p_safety : P .safety) (p_power : P .power)
    (e : execAlmanacLogCommit x1 x2 s = .next t) : Within P R s0 t := by
  unfold execAlmanacLogCommit at e; injection e with e; subst e
  repeat' first
    | with_reducible assumption | with_reducible refine regPut_at (fun _ _ h => ?_) ?_ p_acc p_power
    | with_reducible refine logCommit_within ?_ p_safety | with_reducible refine within_pair ?_ (by assumption)
    | simp only [writeReg, readReg, alWrite]

theorem execWatchdogEnable_within (h : Within P R s0 s) (p_acc : P .acc) (p_safety : P .safety) (p_ic : P .ic)
    (p_power : P .power) (p_tw : P .tw) (r_al_WDCTL : R (.al .WDCTL)) (e : execWatchdogEnable x1 x2 x3 s = .next t) :
    Within P R s0 t := by
  unfold execWatchdogEnable at e; injection e with e; subst e
  repeat' first
    | with_reducible assumption | with_reducible refine regPut_at (fun _ _ h => ?_) ?_ p_acc p_power
    | with_reducible refine wdctlWrite_within ?_ p_safety p_ic p_tw r_al_WDCTL
    | with_reducible refine within_pair ?_ (by assumption) | simp only [writeReg, readReg, alWrite]

theorem execWatchdogKick_within (h : Within P R s0 s) (p_acc : P .acc) (p_safety : P .safety) (p_ic : P .ic)
    (p_power : P .power) (p_tw : P .tw) (rAll : ∀ r, R r) (e : execWatchdogKick x1 x2 x3 s = .next t) : Within P R s0
    t := by
  unfold execWatchdogKick at e; injection e with e; subst e
  repeat' first
    | with_reducible assumption | with_reducible refine regPut_at (fun _ _ h => ?_) ?_ p_acc p_power
    | with_reducible refine wdKick_within ?_ p_acc p_safety p_ic p_tw rAll
    | with_reducible refine within_pair ?_ (by assumption) | simp only [writeReg, readReg, alWrite]

theorem execWatchdogExpire_within (h : Within P R s0 s) (p_acc : P .acc) (p_safety : P .safety) (p_ic : P .ic)
    (p_tw : P .tw) (rAll : ∀ r, R r) (e : execWatchdogExpire x1 s = .next t) : Within P R s0 t := by
  unfold execWatchdogExpire at e; injection e with e; subst e
  repeat' first
    | with_reducible assumption | with_reducible refine wdTimeout_within ?_ p_acc p_safety p_ic p_tw rAll

theorem execXtalFail_within (h : Within P R s0 s) (p_safety : P .safety) (p_ic : P .ic) (p_tw : P .tw)
    (r_al_FSTAT : R (.al .FSTAT)) (r_pw_CLK : R (.pw .CLK)) (e : execXtalFail s = .next t) : Within P R s0 t := by
  unfold execXtalFail at e; injection e with e; subst e
  repeat' first
    | with_reducible assumption | with_reducible refine xtalFail_within ?_ p_safety p_ic p_tw r_al_FSTAT r_pw_CLK

theorem execPllFail_within (h : Within P R s0 s) (pAll : ∀ p, P p) (rAll : ∀ r, R r) (e : execPllFail x1 s = .next t)
    : Within P R s0 t := by
  unfold execPllFail at e; injection e with e; subst e
  repeat' first
    | with_reducible assumption | with_reducible refine pllFail_within ?_ pAll rAll

theorem execVrcFail_within (h : Within P R s0 s) (p_safety : P .safety) (p_ic : P .ic) (p_tw : P .tw)
    (r_al_FSTAT : R (.al .FSTAT)) (r_al_CLKSTAT : R (.al .CLKSTAT)) (e : execVrcFail x1 s = .next t) : Within P R s0 t := by
  unfold execVrcFail at e; injection e with e; subst e
  repeat' first
    | with_reducible assumption | with_reducible refine vrcFail_within ?_ p_safety p_ic p_tw r_al_FSTAT r_al_CLKSTAT

theorem execX32Fail_within (h : Within P R s0 s) (p_clk : P .clk) (p_safety : P .safety) (p_ic : P .ic) (p_tw : P .tw)
    (r_al_FSTAT : R (.al .FSTAT)) (r_al_CLKSTAT : R (.al .CLKSTAT)) (e : execX32Fail s = .next t) : Within P R s0 t := by
  unfold execX32Fail at e; injection e with e; subst e
  repeat' first
    | with_reducible assumption
    | with_reducible refine x32Fail_within ?_ p_clk p_safety p_ic p_tw r_al_FSTAT r_al_CLKSTAT

theorem execLockstepMismatch_within (h : Within P R s0 s) (p_acc : P .acc) (p_safety : P .safety) (p_ic : P .ic)
    (p_tw : P .tw) (rAll : ∀ r, R r) (e : execLockstepMismatch x1 s = .next t) : Within P R s0 t := by
  unfold execLockstepMismatch at e; injection e with e; subst e
  repeat' first
    | with_reducible assumption | with_reducible refine lockstep_within ?_ p_acc p_safety p_ic p_tw rAll

theorem execFaultPinRelease_within (h : Within P R s0 s) (p_safety : P .safety) (e : execFaultPinRelease s = .next t)
    : Within P R s0 t := by
  unfold execFaultPinRelease at e; injection e with e; subst e
  repeat' first
    | with_reducible assumption | with_reducible refine faultRelease_within ?_ p_safety

theorem execFaultReady_within (h : Within P R s0 s) (p_acc : P .acc) (p_safety : P .safety) (p_ic : P .ic)
    (p_power : P .power) (p_tw : P .tw) (r_al_FCTL : R (.al .FCTL)) (r_al_FSTAT : R (.al .FSTAT))
    (e : execFaultReady x1 x2 s = .next t) : Within P R s0 t := by
  unfold execFaultReady at e; injection e with e; subst e
  repeat' first
    | with_reducible assumption | with_reducible refine regPut_at (fun _ _ h => ?_) ?_ p_acc p_power
    | with_reducible refine fctlWrite_within ?_ p_safety p_ic p_tw r_al_FCTL r_al_FSTAT
    | with_reducible refine within_pair ?_ (by assumption) | simp only [writeReg, readReg, alWrite]

theorem execSoftwareFault_within (h : Within P R s0 s) (p_acc : P .acc) (p_safety : P .safety) (p_ic : P .ic)
    (p_power : P .power) (p_tw : P .tw) (r_al_FCTL : R (.al .FCTL)) (r_al_FSTAT : R (.al .FSTAT))
    (e : execSoftwareFault x1 x2 s = .next t) : Within P R s0 t := by
  unfold execSoftwareFault at e; injection e with e; subst e
  repeat' first
    | with_reducible assumption | with_reducible refine regPut_at (fun _ _ h => ?_) ?_ p_acc p_power
    | with_reducible refine fctlWrite_within ?_ p_safety p_ic p_tw r_al_FCTL r_al_FSTAT
    | with_reducible refine within_pair ?_ (by assumption) | simp only [writeReg, readReg, alWrite]

end Sys2Proof.Machine
end

