-- ==== Sys2Proof/Laws/WithinDrawbarRows.lean ====
section
/-! SUPPORT. What each operation of Machine/DrawbarRows.lean can change: one lemma per operation (see Laws/WithinOps.lean). -/
namespace Sys2Proof.Machine
set_option Elab.async false

set_option linter.unusedVariables false
set_option linter.unusedSimpArgs false

variable {P : Part → Prop} {R : Reg → Prop} {s0 s t : State}

theorem execPhyEnable_within (h : Within P R s0 s) (p_acc : P .acc) (p_drawbar : P .drawbar) (p_power : P .power)
    (r_db_PHYCFG : R (.db .PHYCFG)) (e : execPhyEnable x1 x2 x3 s = .next t) : Within P R s0 t := by
  unfold execPhyEnable at e; injection e with e; subst e
  repeat' first
    | with_reducible assumption | with_reducible refine busPut_at (fun _ _ h => ?_) ?_ p_acc p_power
    | with_reducible refine writePhyCfg_within ?_ p_drawbar r_db_PHYCFG
    | with_reducible refine within_pair ?_ (by assumption) | simp only [writeReg, readReg, dbWrite, dbRead]

theorem execPhyDisable_within (h : Within P R s0 s) (p_acc : P .acc) (p_drawbar : P .drawbar) (p_power : P .power)
    (r_db_PHYCFG : R (.db .PHYCFG)) (e : execPhyDisable x1 x2 x3 s = .next t) : Within P R s0 t := by
  unfold execPhyDisable at e; injection e with e; subst e
  repeat' first
    | with_reducible assumption | with_reducible refine busPut_at (fun _ _ h => ?_) ?_ p_acc p_power
    | with_reducible refine writePhyCfg_within ?_ p_drawbar r_db_PHYCFG
    | with_reducible refine within_pair ?_ (by assumption) | simp only [writeReg, readReg, dbWrite, dbRead]

theorem execCandidateFound_within (h : Within P R s0 s) (p_safety : P .safety) (p_drawbar : P .drawbar) (p_ic : P .ic)
    (p_tw : P .tw) (r_db_PHYFLG : R (.db .PHYFLG)) (r_db_CNT : R (.db .CNT))
    (e : execCandidateFound x1 x2 x3 x4 s = .next t) : Within P R s0 t := by
  unfold execCandidateFound at e; injection e with e; subst e
  repeat' first
    | with_reducible assumption | with_reducible refine noteClip_within ?_ p_safety p_ic p_tw r_db_PHYFLG
    | with_reducible refine candidateFound_within ?_ p_drawbar r_db_CNT

theorem execSyncFound_within (h : Within P R s0 s) (p_safety : P .safety) (p_drawbar : P .drawbar) (p_ic : P .ic)
    (p_tw : P .tw) (r_db_PHYFLG : R (.db .PHYFLG)) (r_db_CNT : R (.db .CNT)) (r_db_RXLEVEL : R (.db .RXLEVEL))
    (e : execSyncFound x1 x2 x3 x4 x5 s = .next t) : Within P R s0 t := by
  unfold execSyncFound at e; injection e with e; subst e
  repeat' first
    | with_reducible assumption
    | with_reducible refine syncFound_within ?_ p_safety p_drawbar p_ic p_tw r_db_PHYFLG r_db_CNT r_db_RXLEVEL

theorem execSyncDeadline_within (h : Within P R s0 s) (p_drawbar : P .drawbar) (r_db_CNT : R (.db .CNT))
    (e : execSyncDeadline x1 s = .next t) : Within P R s0 t := by
  unfold execSyncDeadline at e; injection e with e; subst e
  repeat' first
    | with_reducible assumption | with_reducible refine syncDeadline_within ?_ p_drawbar r_db_CNT

theorem execHeaderDecoded_within (h : Within P R s0 s) (p_safety : P .safety) (p_drawbar : P .drawbar) (p_ic : P .ic)
    (p_tw : P .tw) (r_db_PHYFLG : R (.db .PHYFLG)) (r_db_CNT : R (.db .CNT))
    (e : execHeaderDecoded x1 x2 x3 s = .next t) : Within P R s0 t := by
  unfold execHeaderDecoded at e; injection e with e; subst e
  repeat' first
    | with_reducible assumption
    | with_reducible refine headerDecoded_within ?_ p_safety p_drawbar p_ic p_tw r_db_PHYFLG r_db_CNT

theorem execReceptionComplete_within (h : Within P R s0 s) (p_merger : P .merger) (p_safety : P .safety)
    (p_router : P .router) (p_drawbar : P .drawbar) (p_ic : P .ic) (p_tw : P .tw) (r_db_PHYFLG : R (.db .PHYFLG))
    (r_db_DRIFT : R (.db .DRIFT)) (r_db_ACNT : R (.db .ACNT)) (r_db_LSTAT : R (.db .LSTAT))
    (r_db_LOST : R (.db .LOST)) (r_db_ALARM : R (.db .ALARM)) (r_db_AUID : R (.db .AUID))
    (e : execReceptionComplete x1 x2 x3 x4 s = .next t) : Within P R s0 t := by
  unfold execReceptionComplete at e; injection e with e; subst e
  repeat' first
    | with_reducible assumption
    | with_reducible refine receptionComplete_within ?_ p_merger p_safety p_router p_drawbar
                        p_ic p_tw r_db_PHYFLG r_db_DRIFT r_db_ACNT r_db_LSTAT r_db_LOST r_db_ALARM r_db_AUID

theorem execCapture_within (h : Within P R s0 s) (p_merger : P .merger) (p_safety : P .safety) (p_router : P .router)
    (p_drawbar : P .drawbar) (p_ic : P .ic) (p_tw : P .tw) (r_db_CNT : R (.db .CNT)) (r_db_RXLEVEL : R (.db .RXLEVEL))
    (r_db_ACNT : R (.db .ACNT)) (r_db_LSTAT : R (.db .LSTAT)) (r_db_LOST : R (.db .LOST))
    (e : execCapture x1 x2 s = .next t) : Within P R s0 t := by
  unfold execCapture at e; injection e with e; subst e
  repeat' first
    | with_reducible assumption
    | with_reducible refine capture_within ?_ p_merger p_safety p_router p_drawbar p_ic p_tw
                        r_db_CNT r_db_RXLEVEL r_db_ACNT r_db_LSTAT r_db_LOST

theorem execTransmissionEnd_within (h : Within P R s0 s) (p_drawbar : P .drawbar)
    (e : execTransmissionEnd x1 s = .next t) : Within P R s0 t := by
  unfold execTransmissionEnd at e; injection e with e; subst e
  repeat' first
    | with_reducible assumption | with_reducible refine transmissionEnd_within ?_ p_drawbar

theorem execBlankEnd_within (h : Within P R s0 s) (p_drawbar : P .drawbar) (e : execBlankEnd x1 s = .next t) : Within
    P R s0 t := by
  unfold execBlankEnd at e; injection e with e; subst e
  repeat' first
    | with_reducible assumption | with_reducible refine blankEnd_within ?_ p_drawbar

theorem execTxOvercurrent_within (h : Within P R s0 s) (p_safety : P .safety) (p_drawbar : P .drawbar) (p_ic : P .ic)
    (p_tw : P .tw) (r_db_PHYFLG : R (.db .PHYFLG)) (e : execTxOvercurrent x1 s = .next t) : Within P R s0 t := by
  unfold execTxOvercurrent at e; injection e with e; subst e
  repeat' first
    | with_reducible assumption
    | with_reducible refine txOvercurrent_within ?_ p_safety p_drawbar p_ic p_tw r_db_PHYFLG

theorem execListenerDetect_within (h : Within P R s0 s) (p_safety : P .safety) (p_ic : P .ic) (p_power : P .power)
    (p_tw : P .tw) (r_vn_WSTAT : R (.vn .WSTAT)) (e : execListenerDetect s = .next t) : Within P R s0 t := by
  unfold execListenerDetect at e; injection e with e; subst e
  repeat' first
    | with_reducible assumption
    | with_reducible refine listenerDetect_within ?_ p_safety p_ic p_power p_tw r_vn_WSTAT

theorem execExchangeStart_within (h : Within P R s0 s) (p_merger : P .merger) (p_safety : P .safety)
    (p_router : P .router) (p_drawbar : P .drawbar) (p_ic : P .ic) (p_tw : P .tw) (r_db_ACNT : R (.db .ACNT))
    (r_db_LSTAT : R (.db .LSTAT)) (r_db_LOST : R (.db .LOST)) (r_db_CNT : R (.db .CNT))
    (e : execExchangeStart x1 s = .next t) : Within P R s0 t := by
  unfold execExchangeStart at e; injection e with e; subst e
  repeat' first
    | with_reducible assumption
    | with_reducible refine exchangeStart_within ?_ p_merger p_safety p_router p_drawbar p_ic
                        p_tw r_db_ACNT r_db_LSTAT r_db_LOST r_db_CNT

theorem execResponseTimeout_within (h : Within P R s0 s) (p_merger : P .merger) (p_safety : P .safety)
    (p_router : P .router) (p_drawbar : P .drawbar) (p_ic : P .ic) (p_tw : P .tw) (r_db_ACNT : R (.db .ACNT))
    (r_db_LSTAT : R (.db .LSTAT)) (r_db_LOST : R (.db .LOST)) (e : execResponseTimeout x1 s = .next t) : Within P R s0
    t := by
  unfold execResponseTimeout at e; injection e with e; subst e
  repeat' first
    | with_reducible assumption
    | with_reducible refine responseTimeout_within ?_ p_merger p_safety p_router p_drawbar p_ic
                        p_tw r_db_ACNT r_db_LSTAT r_db_LOST

theorem execCommandCommit_within (h : Within P R s0 s) (p_acc : P .acc) (p_safety : P .safety)
    (p_drawbar : P .drawbar) (p_ic : P .ic) (p_power : P .power) (p_tw : P .tw) (r_db_LSTAT : R (.db .LSTAT))
    (e : execCommandCommit x1 x2 x3 s = .next t) : Within P R s0 t := by
  unfold execCommandCommit at e; injection e with e; subst e
  repeat' first
    | with_reducible assumption | with_reducible refine busPut_at (fun _ _ h => ?_) ?_ p_acc p_power
    | with_reducible refine writeAcmdh_within ?_ p_safety p_drawbar p_ic p_tw r_db_LSTAT
    | with_reducible refine within_pair ?_ (by assumption) | simp only [writeReg, readReg, dbWrite, dbRead]

theorem execTimetableRun_within (h : Within P R s0 s) (p_acc : P .acc) (p_drawbar : P .drawbar) (p_power : P .power)
    (r_db_LCFG : R (.db .LCFG)) (e : execTimetableRun x1 x2 x3 s = .next t) : Within P R s0 t := by
  unfold execTimetableRun at e; injection e with e; subst e
  repeat' first
    | with_reducible assumption | with_reducible refine busPut_at (fun _ _ h => ?_) ?_ p_acc p_power
    | with_reducible refine writeLCfg_within ?_ p_drawbar r_db_LCFG
    | with_reducible refine within_pair ?_ (by assumption) | simp only [writeReg, readReg, dbWrite, dbRead]

theorem execTimetableHalt_within (h : Within P R s0 s) (p_acc : P .acc) (p_drawbar : P .drawbar) (p_power : P .power)
    (r_db_LCFG : R (.db .LCFG)) (e : execTimetableHalt x1 x2 x3 s = .next t) : Within P R s0 t := by
  unfold execTimetableHalt at e; injection e with e; subst e
  repeat' first
    | with_reducible assumption | with_reducible refine busPut_at (fun _ _ h => ?_) ?_ p_acc p_power
    | with_reducible refine writeLCfg_within ?_ p_drawbar r_db_LCFG
    | with_reducible refine within_pair ?_ (by assumption) | simp only [writeReg, readReg, dbWrite, dbRead]

theorem execEnumGo_within (h : Within P R s0 s) (p_acc : P .acc) (p_drawbar : P .drawbar) (p_power : P .power)
    (r_db_ENCTL : R (.db .ENCTL)) (e : execEnumGo x1 x2 x3 s = .next t) : Within P R s0 t := by
  unfold execEnumGo at e; injection e with e; subst e
  repeat' first
    | with_reducible assumption | with_reducible refine busPut_at (fun _ _ h => ?_) ?_ p_acc p_power
    | with_reducible refine writeEnCtl_within ?_ p_drawbar r_db_ENCTL
    | with_reducible refine within_pair ?_ (by assumption) | simp only [writeReg, readReg, dbWrite, dbRead]

theorem execEnumStop_within (h : Within P R s0 s) (p_acc : P .acc) (p_drawbar : P .drawbar) (p_power : P .power)
    (r_db_ENCTL : R (.db .ENCTL)) (e : execEnumStop x1 x2 x3 s = .next t) : Within P R s0 t := by
  unfold execEnumStop at e; injection e with e; subst e
  repeat' first
    | with_reducible assumption | with_reducible refine busPut_at (fun _ _ h => ?_) ?_ p_acc p_power
    | with_reducible refine writeEnCtl_within ?_ p_drawbar r_db_ENCTL
    | with_reducible refine within_pair ?_ (by assumption) | simp only [writeReg, readReg, dbWrite, dbRead]

theorem execStoredCommandTrigger_within (h : Within P R s0 s) (p_safety : P .safety) (p_drawbar : P .drawbar)
    (p_ic : P .ic) (p_tw : P .tw) (r_ev_STAT : R (.ev .STAT)) (r_db_LSTAT : R (.db .LSTAT))
    (e : execStoredCommandTrigger x1 x2 s = .next t) : Within P R s0 t := by
  unfold execStoredCommandTrigger at e; injection e with e; subst e
  repeat' first
    | with_reducible assumption
    | with_reducible refine storedTask_within ?_ p_safety p_drawbar p_ic p_tw r_ev_STAT r_db_LSTAT

theorem execAuidWrite_within (h : Within P R s0 s) (p_acc : P .acc) (p_drawbar : P .drawbar) (p_power : P .power)
    (r_db_AUID : R (.db .AUID)) (e : execAuidWrite x1 x2 x3 s = .next t) : Within P R s0 t := by
  unfold execAuidWrite at e; injection e with e; subst e
  repeat' first
    | with_reducible assumption | with_reducible refine busPut_at (fun _ _ h => ?_) ?_ p_acc p_power
    | with_reducible refine writeAuid_within ?_ p_drawbar r_db_AUID
    | with_reducible refine within_pair ?_ (by assumption) | simp only [writeReg, readReg, dbWrite, dbRead]

theorem execSecondWatchCandidate_within (h : Within P R s0 s) (p_drawbar : P .drawbar)
    (e : execSecondWatchCandidate x1 x2 x3 s = .next t) : Within P R s0 t := by
  unfold execSecondWatchCandidate at e; injection e with e; subst e
  repeat' first
    | with_reducible assumption | with_reducible refine watchCandidate_within ?_ p_drawbar

theorem execSecondWatchSync_within (h : Within P R s0 s) (p_merger : P .merger) (p_safety : P .safety)
    (p_router : P .router) (p_drawbar : P .drawbar) (p_ic : P .ic) (p_tw : P .tw) (r_db_CNT : R (.db .CNT))
    (r_db_RXLEVEL : R (.db .RXLEVEL)) (r_db_ACNT : R (.db .ACNT)) (r_db_LSTAT : R (.db .LSTAT))
    (r_db_LOST : R (.db .LOST)) (e : execSecondWatchSync x1 x2 x3 s = .next t) : Within P R s0 t := by
  unfold execSecondWatchSync at e; injection e with e; subst e
  repeat' first
    | with_reducible assumption
    | with_reducible refine watchSync_within ?_ p_merger p_safety p_router p_drawbar p_ic p_tw
                        r_db_CNT r_db_RXLEVEL r_db_ACNT r_db_LSTAT r_db_LOST

theorem execSecondWatchDeadline_within (h : Within P R s0 s) (p_drawbar : P .drawbar) (r_db_CNT : R (.db .CNT))
    (e : execSecondWatchDeadline x1 s = .next t) : Within P R s0 t := by
  unfold execSecondWatchDeadline at e; injection e with e; subst e
  repeat' first
    | with_reducible assumption | with_reducible refine watchDeadline_within ?_ p_drawbar r_db_CNT

end Sys2Proof.Machine
end

