-- ==== Sys2Proof/Laws/WithinHostRows.lean ====
section
/-! SUPPORT. What each operation of Machine/HostRows.lean can change: one lemma per operation (see Laws/WithinOps.lean). -/
namespace Sys2Proof.Machine
set_option Elab.async false

set_option linter.unusedVariables false
set_option linter.unusedSimpArgs false

variable {P : Part → Prop} {R : Reg → Prop} {s0 s t : State}

theorem execFrameSelect_within (h : Within P R s0 s) (p_safety : P .safety) (p_ic : P .ic) (p_power : P .power)
    (p_host : P .host) (p_tw : P .tw) (r_vn_WSTAT : R (.vn .WSTAT)) (e : execFrameSelect s = .next t) : Within P R s0
    t := by
  unfold execFrameSelect at e; injection e with e; subst e
  repeat' first
    | with_reducible assumption
    | with_reducible refine frameSelect_within ?_ p_safety p_ic p_power p_host p_tw r_vn_WSTAT

theorem execStatusPoll_within (h : Within P R s0 s) (p_host : P .host) (e : execStatusPoll s = .next t) : Within P R
    s0 t := by
  unfold execStatusPoll at e; injection e with e; subst e
  repeat' first
    | with_reducible assumption | with_reducible refine pollFrame_within ?_ p_host

theorem execHello_within (h : Within P R s0 s) (pAll : ∀ p, P p) (rAll : ∀ r, R r) (e : execHello x1 s = .next t) :
    Within P R s0 t := by
  unfold execHello at e; injection e with e; subst e
  repeat' first
    | with_reducible assumption | with_reducible refine hostFrame_within ?_ pAll rAll

theorem execReadReg_within (h : Within P R s0 s) (pAll : ∀ p, P p) (rAll : ∀ r, R r) (e : execReadReg x1 s = .next t)
    : Within P R s0 t := by
  unfold execReadReg at e; injection e with e; subst e
  repeat' first
    | with_reducible assumption | with_reducible refine hostFrame_within ?_ pAll rAll

theorem execWriteReg_within (h : Within P R s0 s) (pAll : ∀ p, P p) (rAll : ∀ r, R r)
    (e : execWriteReg x1 s = .next t) : Within P R s0 t := by
  unfold execWriteReg at e; injection e with e; subst e
  repeat' first
    | with_reducible assumption | with_reducible refine hostFrame_within ?_ pAll rAll
    | with_reducible refine performWaiting_within ?_ pAll rAll

theorem execReadBatch_within (h : Within P R s0 s) (pAll : ∀ p, P p) (rAll : ∀ r, R r)
    (e : execReadBatch x1 s = .next t) : Within P R s0 t := by
  unfold execReadBatch at e; injection e with e; subst e
  repeat' first
    | with_reducible assumption | with_reducible refine hostFrame_within ?_ pAll rAll

theorem execLoadConsistChunk_within (h : Within P R s0 s) (pAll : ∀ p, P p) (rAll : ∀ r, R r)
    (e : execLoadConsistChunk x1 s = .next t) : Within P R s0 t := by
  unfold execLoadConsistChunk at e; injection e with e; subst e
  repeat' first
    | with_reducible assumption | with_reducible refine hostFrame_within ?_ pAll rAll

theorem execLoadConsistVerify_within (h : Within P R s0 s) (pAll : ∀ p, P p) (rAll : ∀ r, R r)
    (e : execLoadConsistVerify x1 s = .next t) : Within P R s0 t := by
  unfold execLoadConsistVerify at e; injection e with e; subst e
  repeat' first
    | with_reducible assumption | with_reducible refine hostFrame_within ?_ pAll rAll

theorem execLoadConsistApply_within (h : Within P R s0 s) (pAll : ∀ p, P p) (rAll : ∀ r, R r)
    (e : execLoadConsistApply x1 s = .next t) : Within P R s0 t := by
  unfold execLoadConsistApply at e; injection e with e; subst e
  repeat' first
    | with_reducible assumption | with_reducible refine hostFrame_within ?_ pAll rAll

theorem execShunt_within (h : Within P R s0 s) (pAll : ∀ p, P p) (rAll : ∀ r, R r) (e : execShunt x1 s = .next t) :
    Within P R s0 t := by
  unfold execShunt at e; injection e with e; subst e
  repeat' first
    | with_reducible assumption | with_reducible refine hostFrame_within ?_ pAll rAll

theorem execStore_within (h : Within P R s0 s) (pAll : ∀ p, P p) (rAll : ∀ r, R r) (e : execStore x1 x2 s = .next t) :
    Within P R s0 t := by
  unfold execStore at e; injection e with e; subst e
  repeat' first
    | with_reducible assumption | with_reducible refine hostFrame_within ?_ pAll rAll

theorem execPowerReq_within (h : Within P R s0 s) (pAll : ∀ p, P p) (rAll : ∀ r, R r)
    (e : execPowerReq x1 s = .next t) : Within P R s0 t := by
  unfold execPowerReq at e; injection e with e; subst e
  repeat' first
    | with_reducible assumption | with_reducible refine hostFrame_within ?_ pAll rAll
    | with_reducible refine performWaiting_within ?_ pAll rAll

theorem execSync_within (h : Within P R s0 s) (pAll : ∀ p, P p) (rAll : ∀ r, R r) (e : execSync x1 x2 s = .next t) :
    Within P R s0 t := by
  unfold execSync at e; injection e with e; subst e
  repeat' first
    | with_reducible assumption | with_reducible refine hostFrame_within ?_ pAll rAll

theorem execAlmanacRead_within (h : Within P R s0 s) (pAll : ∀ p, P p) (rAll : ∀ r, R r)
    (e : execAlmanacRead x1 s = .next t) : Within P R s0 t := by
  unfold execAlmanacRead at e; injection e with e; subst e
  repeat' first
    | with_reducible assumption | with_reducible refine hostFrame_within ?_ pAll rAll

theorem execNotifyCfg_within (h : Within P R s0 s) (pAll : ∀ p, P p) (rAll : ∀ r, R r)
    (e : execNotifyCfg x1 s = .next t) : Within P R s0 t := by
  unfold execNotifyCfg at e; injection e with e; subst e
  repeat' first
    | with_reducible assumption | with_reducible refine hostFrame_within ?_ pAll rAll

theorem execSessionOpen_within (h : Within P R s0 s) (pAll : ∀ p, P p) (rAll : ∀ r, R r)
    (e : execSessionOpen x1 s = .next t) : Within P R s0 t := by
  unfold execSessionOpen at e; injection e with e; subst e
  repeat' first
    | with_reducible assumption | with_reducible refine hostFrame_within ?_ pAll rAll

theorem execSessionClose_within (h : Within P R s0 s) (pAll : ∀ p, P p) (rAll : ∀ r, R r)
    (e : execSessionClose x1 s = .next t) : Within P R s0 t := by
  unfold execSessionClose at e; injection e with e; subst e
  repeat' first
    | with_reducible assumption | with_reducible refine hostFrame_within ?_ pAll rAll

theorem execNoOperation_within (h : Within P R s0 s) (pAll : ∀ p, P p) (rAll : ∀ r, R r)
    (e : execNoOperation x1 s = .next t) : Within P R s0 t := by
  unfold execNoOperation at e; injection e with e; subst e
  repeat' first
    | with_reducible assumption | with_reducible refine hostFrame_within ?_ pAll rAll

theorem execLongCommandDone_within (h : Within P R s0 s) (p_safety : P .safety) (p_ic : P .ic) (p_host : P .host)
    (p_tw : P .tw) (r_hp_STAT : R (.hp .STAT)) (r1 : R (longReg 1)) (e : execLongCommandDone s = .next t) : Within P R
    s0 t := by
  unfold execLongCommandDone at e; injection e with e; subst e
  repeat' first
    | with_reducible assumption
    | with_reducible refine longDone_within ?_ p_safety p_ic p_host p_tw (by assumption) (by assumption)

theorem execHostSwirq_within (h : Within P R s0 s) (p_acc : P .acc) (p_safety : P .safety) (p_ic : P .ic)
    (p_power : P .power) (p_tw : P .tw) (r_hp_NSRC : R (.hp .NSRC)) (e : execHostSwirq x1 x2 s = .next t) : Within P R
    s0 t := by
  unfold execHostSwirq at e; injection e with e; subst e
  repeat' first
    | with_reducible assumption | with_reducible refine regPut_at (fun _ _ h => ?_) ?_ p_acc p_power
    | with_reducible refine State.orReg_within ?_ p_safety p_ic p_tw (by assumption)
    | with_reducible refine within_pair ?_ (by assumption) | simp only [writeReg, readReg, hpWrite, hpRead] | split

theorem execHostPortConfig_within (h : Within P R s0 s) (p_acc : P .acc) (p_power : P .power) (p_host : P .host)
    (p_tw : P .tw) (r_hp_CFG : R (.hp .CFG)) (e : execHostPortConfig x1 x2 s = .next t) : Within P R s0 t := by
  unfold execHostPortConfig at e; injection e with e; subst e
  repeat' first
    | with_reducible assumption | with_reducible refine regPut_at (fun _ _ h => ?_) ?_ p_acc p_power
    | with_reducible refine hpCfgWrite_within ?_ p_host p_tw r_hp_CFG
    | with_reducible refine within_pair ?_ (by assumption) | simp only [writeReg, readReg, hpWrite, hpRead]

theorem execBadopFrame_within (h : Within P R s0 s) (pAll : ∀ p, P p) (rAll : ∀ r, R r)
    (e : execBadopFrame x1 x2 s = .next t) : Within P R s0 t := by
  unfold execBadopFrame at e; injection e with e; subst e
  repeat' first
    | with_reducible assumption | with_reducible refine badOpFrame_within ?_ pAll rAll

end Sys2Proof.Machine
end

