-- ==== Sys2Proof/Laws/WithinTwoWireRows.lean ====
section
/-! SUPPORT. What each operation of Machine/TwoWireRows.lean can change: one lemma per operation (see Laws/WithinOps.lean). -/
namespace Sys2Proof.Machine
set_option Elab.async false

set_option linter.unusedVariables false
set_option linter.unusedSimpArgs false

variable {P : Part → Prop} {R : Reg → Prop} {s0 s t : State}

theorem execTwStatus_within (h : Within P R s0 s) (p_safety : P .safety) (p_ic : P .ic) (p_tw : P .tw)
    (r_tw_STAT : R (.tw .STAT)) (r_tw_RESULT : R (.tw .RESULT)) (e : execTwStatus x1 s = .next t) : Within P R s0 t := by
  unfold execTwStatus at e; injection e with e; subst e
  repeat' first
    | with_reducible assumption
    | with_reducible refine twReadRun_within (fun _ _ h => ?_) ?_ p_safety p_ic p_tw r_tw_STAT r_tw_RESULT
    | with_reducible refine twStatusRun_within ?_

theorem execTwHello_within (h : Within P R s0 s) (p_safety : P .safety) (p_ic : P .ic) (p_tw : P .tw)
    (r_tw_STAT : R (.tw .STAT)) (r_tw_RESULT : R (.tw .RESULT)) (r_tw_NSRC : R (.tw .NSRC))
    (e : execTwHello x1 s = .next t) : Within P R s0 t := by
  unfold execTwHello at e; injection e with e; subst e
  repeat' first
    | with_reducible assumption
    | with_reducible refine twReadRun_within (fun _ _ h => ?_) ?_ p_safety p_ic p_tw r_tw_STAT r_tw_RESULT
    | with_reducible refine twHelloRun_within ?_ r_tw_NSRC

theorem execTwPointer_within (h : Within P R s0 s) (p_safety : P .safety) (p_ic : P .ic) (p_tw : P .tw)
    (r_tw_STAT : R (.tw .STAT)) (r_tw_RESULT : R (.tw .RESULT)) (r_tw_PTR : R (.tw .PTR))
    (e : execTwPointer x1 s = .next t) : Within P R s0 t := by
  unfold execTwPointer at e; injection e with e; subst e
  repeat' first
    | with_reducible assumption
    | with_reducible refine twWriteRun_within (fun _ _ h => ?_) ?_ p_safety p_ic p_tw r_tw_STAT r_tw_RESULT
    | with_reducible refine pointerRun_within ?_ r_tw_PTR

theorem execTwReadReg_within (h : Within P R s0 s) (p_safety : P .safety) (p_timers : P .timers) (p_ic : P .ic)
    (p_tw : P .tw) (rAll : ∀ r, R r) (e : execTwReadReg x1 s = .next t) : Within P R s0 t := by
  unfold execTwReadReg at e; injection e with e; subst e
  repeat' first
    | with_reducible assumption | with_reducible refine twReadReg_within ?_ p_timers p_ic rAll
    | with_reducible refine twReadRun_within (fun _ _ h => ?_) ?_ p_safety p_ic p_tw (rAll _) (rAll _)

theorem execTwWriteReg_within (h : Within P R s0 s) (pAll : ∀ p, P p) (rAll : ∀ r, R r)
    (e : execTwWriteReg x1 s = .next t) : Within P R s0 t := by
  unfold execTwWriteReg at e; injection e with e; subst e
  repeat' first
    | with_reducible assumption
    | with_reducible refine twWriteRun_within (fun _ _ h => ?_) ?_ (pAll _) (pAll _) (pAll _) (rAll _) (rAll _)
    | with_reducible refine twWriteReg_within ?_ pAll rAll | with_reducible refine performWaiting_within ?_ pAll rAll

theorem execTwReadBatch_within (h : Within P R s0 s) (p_merger : P .merger) (p_safety : P .safety) (p_ic : P .ic)
    (p_tw : P .tw) (r_tw_STAT : R (.tw .STAT)) (r_tw_RESULT : R (.tw .RESULT)) (e : execTwReadBatch x1 s = .next t) :
    Within P R s0 t := by
  unfold execTwReadBatch at e; injection e with e; subst e
  repeat' first
    | with_reducible assumption | with_reducible refine twBatch_within ?_ p_merger p_tw
    | with_reducible refine twReadRun_within (fun _ _ h => ?_) ?_ p_safety p_ic p_tw r_tw_STAT r_tw_RESULT

theorem execTwBatchAgain_within (h : Within P R s0 s) (p_merger : P .merger) (p_safety : P .safety) (p_ic : P .ic)
    (p_tw : P .tw) (r_tw_STAT : R (.tw .STAT)) (r_tw_RESULT : R (.tw .RESULT)) (e : execTwBatchAgain x1 s = .next t) :
    Within P R s0 t := by
  unfold execTwBatchAgain at e; injection e with e; subst e
  repeat' first
    | with_reducible assumption
    | with_reducible refine batchAgain_within ?_ p_merger p_safety p_ic p_tw r_tw_STAT r_tw_RESULT

theorem execTwLoadConsistChunk_within (h : Within P R s0 s) (p_mem : P .mem) (p_safety : P .safety) (p_ic : P .ic)
    (p_tw : P .tw) (r_tw_STAT : R (.tw .STAT)) (r_tw_RESULT : R (.tw .RESULT)) (r_cw_STGLEN : R (.cw .STGLEN))
    (r_nv_DIRTY : R (.nv .DIRTY)) (e : execTwLoadConsistChunk x1 s = .next t) : Within P R s0 t := by
  unfold execTwLoadConsistChunk at e; injection e with e; subst e
  repeat' first
    | with_reducible assumption
    | with_reducible refine twWriteRun_within (fun _ _ h => ?_) ?_ p_safety p_ic p_tw r_tw_STAT r_tw_RESULT
    | with_reducible refine twChunk_within ?_ p_mem r_cw_STGLEN r_nv_DIRTY

theorem execTwLoadConsistVerify_within (h : Within P R s0 s) (p_mem : P .mem) (p_merger : P .merger)
    (p_safety : P .safety) (p_router : P .router) (p_drawbar : P .drawbar) (p_slots : P .slots) (p_lanes : P .lanes)
    (p_phys : P .phys) (p_cal : P .cal) (p_coach : P .coach) (p_ic : P .ic) (p_power : P .power) (p_nvm : P .nvm)
    (p_host : P .host) (p_tw : P .tw) (r_tw_STAT : R (.tw .STAT)) (r_tw_RESULT : R (.tw .RESULT))
    (r_nv_STAT : R (.nv .STAT)) (r_nv_DIRTY : R (.nv .DIRTY)) (r_cw_LDSTAT : R (.cw .LDSTAT))
    (r_db_LSTAT : R (.db .LSTAT)) (r_ln_ENABLE : R (.ln .ENABLE)) (r_ca_STAT : R (.ca .STAT))
    (r_ca_LTEMP : R (.ca .LTEMP)) (r_ca_RUN : R (.ca .RUN)) (r_ln_STAT : R (.ln .STAT)) (r_al_FSTAT : R (.al .FSTAT))
    (r_ln_FAULTS : R (.ln .FAULTS)) (r_rk_STAT : R (.rk .STAT)) (r_cw_TFAULT : R (.cw .TFAULT))
    (r_ds_EVENTS : R (.ds .EVENTS)) (r1 : R (longReg 2)) (e : execTwLoadConsistVerify x1 s = .next t) : Within P R s0
    t := by
  unfold execTwLoadConsistVerify at e; injection e with e; subst e
  repeat' first
    | with_reducible assumption
    | with_reducible refine twWriteRun_within (fun _ _ h => ?_) ?_ p_safety p_ic p_tw r_tw_STAT r_tw_RESULT
    | with_reducible refine twPhase_within ?_ p_mem p_merger p_safety p_router p_drawbar p_slots
                        p_lanes p_phys p_cal p_coach p_ic p_power p_nvm p_host p_tw r_nv_STAT r_nv_DIRTY r_cw_LDSTAT
                        r_db_LSTAT r_ln_ENABLE r_ca_STAT r_ca_LTEMP r_ca_RUN r_ln_STAT r_al_FSTAT r_ln_FAULTS
                        r_rk_STAT r_cw_TFAULT r_ds_EVENTS (by assumption)

theorem execTwLoadConsistApply_within (h : Within P R s0 s) (p_mem : P .mem) (p_merger : P .merger)
    (p_safety : P .safety) (p_router : P .router) (p_drawbar : P .drawbar) (p_slots : P .slots) (p_lanes : P .lanes)
    (p_phys : P .phys) (p_cal : P .cal) (p_coach : P .coach) (p_ic : P .ic) (p_power : P .power) (p_nvm : P .nvm)
    (p_host : P .host) (p_tw : P .tw) (r_tw_STAT : R (.tw .STAT)) (r_tw_RESULT : R (.tw .RESULT))
    (r_nv_STAT : R (.nv .STAT)) (r_nv_DIRTY : R (.nv .DIRTY)) (r_cw_LDSTAT : R (.cw .LDSTAT))
    (r_db_LSTAT : R (.db .LSTAT)) (r_ln_ENABLE : R (.ln .ENABLE)) (r_ca_STAT : R (.ca .STAT))
    (r_ca_LTEMP : R (.ca .LTEMP)) (r_ca_RUN : R (.ca .RUN)) (r_ln_STAT : R (.ln .STAT)) (r_al_FSTAT : R (.al .FSTAT))
    (r_ln_FAULTS : R (.ln .FAULTS)) (r_rk_STAT : R (.rk .STAT)) (r_cw_TFAULT : R (.cw .TFAULT))
    (r_ds_EVENTS : R (.ds .EVENTS)) (r1 : R (longReg 2)) (e : execTwLoadConsistApply x1 s = .next t) : Within P R s0 t := by
  unfold execTwLoadConsistApply at e; injection e with e; subst e
  repeat' first
    | with_reducible assumption
    | with_reducible refine twWriteRun_within (fun _ _ h => ?_) ?_ p_safety p_ic p_tw r_tw_STAT r_tw_RESULT
    | with_reducible refine twPhase_within ?_ p_mem p_merger p_safety p_router p_drawbar p_slots
                        p_lanes p_phys p_cal p_coach p_ic p_power p_nvm p_host p_tw r_nv_STAT r_nv_DIRTY r_cw_LDSTAT
                        r_db_LSTAT r_ln_ENABLE r_ca_STAT r_ca_LTEMP r_ca_RUN r_ln_STAT r_al_FSTAT r_ln_FAULTS
                        r_rk_STAT r_cw_TFAULT r_ds_EVENTS (by assumption)

theorem execTwShunt_within (h : Within P R s0 s) (p_mem : P .mem) (p_merger : P .merger) (p_safety : P .safety)
    (p_router : P .router) (p_drawbar : P .drawbar) (p_slots : P .slots) (p_lanes : P .lanes) (p_phys : P .phys)
    (p_cal : P .cal) (p_coach : P .coach) (p_ic : P .ic) (p_power : P .power) (p_nvm : P .nvm) (p_host : P .host)
    (p_tw : P .tw) (r_tw_STAT : R (.tw .STAT)) (r_tw_RESULT : R (.tw .RESULT)) (r_nv_STAT : R (.nv .STAT))
    (r_nv_DIRTY : R (.nv .DIRTY)) (r_cw_LDSTAT : R (.cw .LDSTAT)) (r_db_LSTAT : R (.db .LSTAT))
    (r_ln_ENABLE : R (.ln .ENABLE)) (r_ca_STAT : R (.ca .STAT)) (r_ca_LTEMP : R (.ca .LTEMP))
    (r_ca_RUN : R (.ca .RUN)) (r_ln_STAT : R (.ln .STAT)) (r_al_FSTAT : R (.al .FSTAT))
    (r_ln_FAULTS : R (.ln .FAULTS)) (r_rk_STAT : R (.rk .STAT)) (r_cw_TFAULT : R (.cw .TFAULT))
    (r_ds_EVENTS : R (.ds .EVENTS)) (r1 : R (longReg 2)) (e : execTwShunt x1 s = .next t) : Within P R s0 t := by
  unfold execTwShunt at e; injection e with e; subst e
  repeat' first
    | with_reducible assumption
    | with_reducible refine twWriteRun_within (fun _ _ h => ?_) ?_ p_safety p_ic p_tw r_tw_STAT r_tw_RESULT
    | with_reducible refine twShunt_within ?_ p_mem p_merger p_safety p_router p_drawbar p_slots
                        p_lanes p_phys p_cal p_coach p_ic p_power p_nvm p_host p_tw r_nv_STAT r_nv_DIRTY r_cw_LDSTAT
                        r_db_LSTAT r_ln_ENABLE r_ca_STAT r_ca_LTEMP r_ca_RUN r_ln_STAT r_al_FSTAT r_ln_FAULTS
                        r_rk_STAT r_cw_TFAULT r_ds_EVENTS (by assumption)

theorem execTwStore_within (h : Within P R s0 s) (p_mem : P .mem) (p_merger : P .merger) (p_safety : P .safety)
    (p_router : P .router) (p_drawbar : P .drawbar) (p_slots : P .slots) (p_lanes : P .lanes) (p_phys : P .phys)
    (p_cal : P .cal) (p_coach : P .coach) (p_ic : P .ic) (p_power : P .power) (p_nvm : P .nvm) (p_host : P .host)
    (p_tw : P .tw) (r_tw_STAT : R (.tw .STAT)) (r_tw_RESULT : R (.tw .RESULT)) (r_nv_STAT : R (.nv .STAT))
    (r_nv_DIRTY : R (.nv .DIRTY)) (r_cw_LDSTAT : R (.cw .LDSTAT)) (r_db_LSTAT : R (.db .LSTAT))
    (r_ln_ENABLE : R (.ln .ENABLE)) (r_ca_STAT : R (.ca .STAT)) (r_ca_LTEMP : R (.ca .LTEMP))
    (r_ca_RUN : R (.ca .RUN)) (r_ln_STAT : R (.ln .STAT)) (r_al_FSTAT : R (.al .FSTAT))
    (r_ln_FAULTS : R (.ln .FAULTS)) (r_rk_STAT : R (.rk .STAT)) (r_cw_TFAULT : R (.cw .TFAULT))
    (r_ds_EVENTS : R (.ds .EVENTS)) (r1 : R (longReg 2)) (e : execTwStore x1 x2 s = .next t) : Within P R s0 t := by
  unfold execTwStore at e; injection e with e; subst e
  repeat' first
    | with_reducible assumption
    | with_reducible refine twWriteRun_within (fun _ _ h => ?_) ?_ p_safety p_ic p_tw r_tw_STAT r_tw_RESULT
    | with_reducible refine twStore_within ?_ p_mem p_merger p_safety p_router p_drawbar p_slots
                        p_lanes p_phys p_cal p_coach p_ic p_power p_nvm p_host p_tw r_nv_STAT r_nv_DIRTY r_cw_LDSTAT
                        r_db_LSTAT r_ln_ENABLE r_ca_STAT r_ca_LTEMP r_ca_RUN r_ln_STAT r_al_FSTAT r_ln_FAULTS
                        r_rk_STAT r_cw_TFAULT r_ds_EVENTS (by assumption)

theorem execTwPowerReq_within (h : Within P R s0 s) (pAll : ∀ p, P p) (rAll : ∀ r, R r)
    (e : execTwPowerReq x1 s = .next t) : Within P R s0 t := by
  unfold execTwPowerReq at e; injection e with e; subst e
  repeat' first
    | with_reducible assumption
    | with_reducible refine twWriteRun_within (fun _ _ h => ?_) ?_ (pAll _) (pAll _) (pAll _) (rAll _) (rAll _)
    | with_reducible refine twPower_within ?_ (pAll _) (pAll _) (pAll _) (pAll _) (pAll _) (pAll
                        _) (pAll _) (pAll _) (pAll _) (pAll _) (pAll _) (pAll _) (pAll _) (rAll _) (rAll _) (rAll _)
                        (rAll _) (rAll _) (rAll _) (rAll _) (rAll _) (rAll _) (rAll _) (rAll _) (rAll _)
    | with_reducible refine performWaiting_within ?_ pAll rAll

theorem execTwSync_within (h : Within P R s0 s) (p_safety : P .safety) (p_ic : P .ic) (p_tw : P .tw)
    (r_tw_STAT : R (.tw .STAT)) (r_tw_RESULT : R (.tw .RESULT)) (r_tw_SYNCH : R (.tw .SYNCH))
    (r_tw_SYNCL : R (.tw .SYNCL)) (e : execTwSync x1 x2 s = .next t) : Within P R s0 t := by
  unfold execTwSync at e; injection e with e; subst e
  repeat' first
    | with_reducible assumption
    | with_reducible refine twWriteRun_within (fun _ _ h => ?_) ?_ p_safety p_ic p_tw r_tw_STAT r_tw_RESULT
    | with_reducible refine twSync_within ?_ r_tw_SYNCH r_tw_SYNCL

theorem execTwSyncRead_within (h : Within P R s0 s) (p_safety : P .safety) (p_ic : P .ic) (p_tw : P .tw)
    (r_tw_STAT : R (.tw .STAT)) (r_tw_RESULT : R (.tw .RESULT)) (e : execTwSyncRead x1 s = .next t) : Within P R s0 t := by
  unfold execTwSyncRead at e; injection e with e; subst e
  repeat' first
    | with_reducible assumption
    | with_reducible refine twReadRun_within (fun _ _ h => ?_) ?_ p_safety p_ic p_tw r_tw_STAT r_tw_RESULT
    | with_reducible refine twSyncRead_within ?_

theorem execTwAlmanacPtr_within (h : Within P R s0 s) (p_safety : P .safety) (p_ic : P .ic) (p_tw : P .tw)
    (r_tw_STAT : R (.tw .STAT)) (r_tw_RESULT : R (.tw .RESULT)) (r_tw_APTR : R (.tw .APTR))
    (e : execTwAlmanacPtr x1 s = .next t) : Within P R s0 t := by
  unfold execTwAlmanacPtr at e; injection e with e; subst e
  repeat' first
    | with_reducible assumption
    | with_reducible refine twWriteRun_within (fun _ _ h => ?_) ?_ p_safety p_ic p_tw r_tw_STAT r_tw_RESULT
    | with_reducible refine twAlmanacPtr_within ?_ r_tw_APTR

theorem execTwAlmanacRead_within (h : Within P R s0 s) (p_safety : P .safety) (p_ic : P .ic) (p_tw : P .tw)
    (r_tw_STAT : R (.tw .STAT)) (r_tw_RESULT : R (.tw .RESULT)) (r_tw_APTR : R (.tw .APTR))
    (e : execTwAlmanacRead x1 s = .next t) : Within P R s0 t := by
  unfold execTwAlmanacRead at e; injection e with e; subst e
  repeat' first
    | with_reducible assumption
    | with_reducible refine twReadRun_within (fun _ _ h => ?_) ?_ p_safety p_ic p_tw r_tw_STAT r_tw_RESULT
    | with_reducible refine twAlmanac_within ?_ r_tw_APTR

theorem execTwNotifyCfg_within (h : Within P R s0 s) (p_safety : P .safety) (p_ic : P .ic) (p_tw : P .tw)
    (r_tw_STAT : R (.tw .STAT)) (r_tw_RESULT : R (.tw .RESULT)) (r_tw_NMASK : R (.tw .NMASK))
    (e : execTwNotifyCfg x1 s = .next t) : Within P R s0 t := by
  unfold execTwNotifyCfg at e; injection e with e; subst e
  repeat' first
    | with_reducible assumption
    | with_reducible refine twWriteRun_within (fun _ _ h => ?_) ?_ p_safety p_ic p_tw r_tw_STAT r_tw_RESULT
    | with_reducible refine twNotifyCfg_within ?_ p_tw r_tw_NMASK

theorem execTwLongDone_within (h : Within P R s0 s) (p_safety : P .safety) (p_ic : P .ic) (p_host : P .host)
    (p_tw : P .tw) (r_tw_STAT : R (.tw .STAT)) (r1 : R (longReg 2)) (e : execTwLongDone s = .next t) : Within P R s0 t := by
  unfold execTwLongDone at e; injection e with e; subst e
  repeat' first
    | with_reducible assumption
    | with_reducible refine longDone_within ?_ p_safety p_ic p_host p_tw (by assumption) (by assumption)

theorem execStretchTimeout_within (h : Within P R s0 s) (p_safety : P .safety) (p_ic : P .ic) (p_tw : P .tw)
    (r_tw_STAT : R (.tw .STAT)) (r_tw_RESULT : R (.tw .RESULT)) (e : execStretchTimeout x1 s = .next t) : Within P R
    s0 t := by
  unfold execStretchTimeout at e; injection e with e; subst e
  repeat' first
    | with_reducible assumption
    | with_reducible refine stretchTimeout_within ?_ p_safety p_ic p_tw r_tw_STAT r_tw_RESULT

theorem execBusTimeout_within (h : Within P R s0 s) (p_safety : P .safety) (p_ic : P .ic) (p_tw : P .tw)
    (r_tw_STAT : R (.tw .STAT)) (e : execBusTimeout s = .next t) : Within P R s0 t := by
  unfold execBusTimeout at e; injection e with e; subst e
  repeat' first
    | with_reducible assumption | with_reducible refine busTimeout_within ?_ p_safety p_ic p_tw r_tw_STAT

theorem execAddressMatch_within (h : Within P R s0 s) (p_safety : P .safety) (p_ic : P .ic) (p_power : P .power)
    (p_tw : P .tw) (r_vn_WSTAT : R (.vn .WSTAT)) (e : execAddressMatch s = .next t) : Within P R s0 t := by
  unfold execAddressMatch at e; injection e with e; subst e
  repeat' first
    | with_reducible assumption | with_reducible refine addressMatch_within ?_ p_safety p_ic p_power p_tw r_vn_WSTAT

theorem execTwTakeover_within (h : Within P R s0 s) (p_safety : P .safety) (p_ic : P .ic) (p_power : P .power)
    (p_tw : P .tw) (r_vn_WSTAT : R (.vn .WSTAT)) (e : execTwTakeover s = .next t) : Within P R s0 t := by
  unfold execTwTakeover at e; injection e with e; subst e
  repeat' first
    | with_reducible assumption | with_reducible refine twTakeover_within ?_ p_safety p_ic p_power p_tw r_vn_WSTAT

theorem execMatcherRelease_within (h : Within P R s0 s) (p_safety : P .safety) (p_ic : P .ic) (p_power : P .power)
    (p_tw : P .tw) (r_tw_STAT : R (.tw .STAT)) (r_vn_WSTAT : R (.vn .WSTAT)) (e : execMatcherRelease s = .next t) :
    Within P R s0 t := by
  unfold execMatcherRelease at e; injection e with e; subst e
  repeat' first
    | with_reducible assumption
    | with_reducible refine matcherRelease_within ?_ p_safety p_ic p_power p_tw r_tw_STAT r_vn_WSTAT

theorem execCalmAddressWake_within (h : Within P R s0 s) (p_safety : P .safety) (p_ic : P .ic) (p_power : P .power)
    (p_tw : P .tw) (r_pw_WAKE : R (.pw .WAKE)) (e : execCalmAddressWake s = .next t) : Within P R s0 t := by
  unfold execCalmAddressWake at e; injection e with e; subst e
  repeat' first
    | with_reducible assumption
    | with_reducible refine calmAddressWake_within ?_ p_safety p_ic p_power p_tw r_pw_WAKE

theorem execHostNotify_within (h : Within P R s0 s) (p_safety : P .safety) (p_ic : P .ic) (p_tw : P .tw)
    (r_tw_NOTIFYLOST : R (.tw .NOTIFYLOST)) (r_tw_STAT : R (.tw .STAT)) (e : execHostNotify x1 s = .next t) : Within P
    R s0 t := by
  unfold execHostNotify at e; injection e with e; subst e
  repeat' first
    | with_reducible assumption
    | with_reducible refine hostNotify_within ?_ p_safety p_ic p_tw r_tw_NOTIFYLOST r_tw_STAT

theorem execTwSwirqSet_within (h : Within P R s0 s) (p_acc : P .acc) (p_safety : P .safety) (p_ic : P .ic)
    (p_power : P .power) (p_tw : P .tw) (r_tw_NSRC : R (.tw .NSRC)) (e : execTwSwirqSet x1 x2 s = .next t) : Within P
    R s0 t := by
  unfold execTwSwirqSet at e; injection e with e; subst e
  repeat' first
    | with_reducible assumption | with_reducible refine regPut_at (fun _ _ h => ?_) ?_ p_acc p_power
    | with_reducible refine twNotice_within ?_ p_tw
    | with_reducible refine State.orReg_within ?_ p_safety p_ic p_tw (by assumption)
    | with_reducible refine within_pair ?_ (by assumption) | simp only [writeReg, readReg, twWrite, twRead] | split

theorem execTwUnknownCode_within (h : Within P R s0 s) (p_safety : P .safety) (p_ic : P .ic) (p_tw : P .tw)
    (r_tw_STAT : R (.tw .STAT)) (e : execTwUnknownCode x1 s = .next t) : Within P R s0 t := by
  unfold execTwUnknownCode at e; injection e with e; subst e
  repeat' first
    | with_reducible assumption | with_reducible refine twUnknownCode_within ?_ p_safety p_ic p_tw r_tw_STAT

end Sys2Proof.Machine
end

