-- ==== Sys2Proof/Laws/WithinSensorRows.lean ====
section
/-! SUPPORT. What each operation of Machine/SensorRows.lean can change: one lemma per operation (see Laws/WithinOps.lean). -/
namespace Sys2Proof.Machine
set_option Elab.async false

set_option linter.unusedVariables false
set_option linter.unusedSimpArgs false

variable {P : Part → Prop} {R : Reg → Prop} {s0 s t : State}

theorem execProfileTrigger_within (h : Within P R s0 s) (p_safety : P .safety) (p_sensor : P .sensor) (p_ic : P .ic)
    (p_tw : P .tw) (r_ev_STAT : R (.ev .STAT)) (r_ev_SPMISS : R (.ev .SPMISS)) (e : execProfileTrigger x1 s = .next t)
    : Within P R s0 t := by
  unfold execProfileTrigger at e; injection e with e; subst e
  repeat' first
    | with_reducible assumption
    | with_reducible refine profileTask_within ?_ p_safety p_sensor p_ic p_tw r_ev_STAT r_ev_SPMISS

theorem execProfileGo_within (h : Within P R s0 s) (p_acc : P .acc) (p_sensor : P .sensor) (p_power : P .power)
    (e : execProfileGo x1 s = .next t) : Within P R s0 t := by
  unfold execProfileGo at e; injection e with e; subst e
  repeat' first
    | with_reducible assumption | with_reducible refine regPut_at (fun _ _ h => ?_) ?_ p_acc p_power
    | with_reducible refine profileGo_within ?_ p_sensor | with_reducible refine within_pair ?_ (by assumption)
    | simp only [writeReg, readReg, spWrite, spRead] | split

theorem execSensorFrameStart_within (h : Within P R s0 s) (p_sensor : P .sensor)
    (e : execSensorFrameStart s = .next t) : Within P R s0 t := by
  unfold execSensorFrameStart at e; injection e with e; subst e
  repeat' first
    | with_reducible assumption | with_reducible refine frameStart_within ?_ p_sensor

theorem execSensorFrameEnd_within (h : Within P R s0 s) (p_acc : P .acc) (p_mem : P .mem) (p_merger : P .merger)
    (p_safety : P .safety) (p_router : P .router) (p_drawbar : P .drawbar) (p_slots : P .slots) (p_sensor : P .sensor)
    (p_ic : P .ic) (p_tw : P .tw) (r_nv_DIRTY : R (.nv .DIRTY)) (r_sp_PSTAT : R (.sp .PSTAT))
    (r_ds_EVENTS : R (.ds .EVENTS)) (r_ds_STAT : R (.ds .STAT)) (r_db_LSTAT : R (.db .LSTAT))
    (r_sp_PCNT : R (.sp .PCNT)) (r_sp_FCCNT : R (.sp .FCCNT)) (e : execSensorFrameEnd x1 s = .next t) : Within P R s0
    t := by
  unfold execSensorFrameEnd at e; injection e with e; subst e
  repeat' first
    | with_reducible assumption
    | with_reducible refine frameEnd_within ?_ p_acc p_mem p_merger p_safety p_router p_drawbar
                        p_slots p_sensor p_ic p_tw r_nv_DIRTY r_sp_PSTAT r_ds_EVENTS r_ds_STAT r_db_LSTAT r_sp_PCNT
                        r_sp_FCCNT

theorem execWindowRead_within (h : Within P R s0 s) (p_acc : P .acc) (p_safety : P .safety) (p_timers : P .timers)
    (p_sensor : P .sensor) (p_ic : P .ic) (p_power : P .power) (p_tw : P .tw) (rAll : ∀ r, R r)
    (e : execWindowRead x1 x2 x3 s = .next t) : Within P R s0 t := by
  unfold execWindowRead at e; injection e with e; subst e
  repeat' first
    | with_reducible assumption
    | with_reducible refine busRead_within ?_ p_acc p_safety p_timers p_sensor p_ic p_power p_tw rAll

theorem execWindowWrite_within (h : Within P R s0 s) (pAll : ∀ p, P p) (rAll : ∀ r, R r)
    (e : execWindowWrite x1 x2 x3 x4 s = .next t) : Within P R s0 t := by
  unfold execWindowWrite at e; injection e with e; subst e
  repeat' first
    | with_reducible assumption | with_reducible refine busWrite_within ?_ pAll rAll

theorem execPageBufferIdle_within (h : Within P R s0 s) (p_sensor : P .sensor) (e : execPageBufferIdle s = .next t) :
    Within P R s0 t := by
  unfold execPageBufferIdle at e; injection e with e; subst e
  repeat' first
    | with_reducible assumption | with_reducible refine bufferIdle_within ?_ p_sensor

theorem execFlashStatusPoll_within (h : Within P R s0 s) (p_safety : P .safety) (p_sensor : P .sensor) (p_ic : P .ic)
    (p_tw : P .tw) (r_sp_FSTAT : R (.sp .FSTAT)) (e : execFlashStatusPoll x1 s = .next t) : Within P R s0 t := by
  unfold execFlashStatusPoll at e; injection e with e; subst e
  repeat' first
    | with_reducible assumption | with_reducible refine statusPoll_within ?_ p_safety p_sensor p_ic p_tw r_sp_FSTAT

theorem execFlashOperationTimeout_within (h : Within P R s0 s) (p_safety : P .safety) (p_sensor : P .sensor)
    (p_ic : P .ic) (p_tw : P .tw) (r_sp_FSTAT : R (.sp .FSTAT)) (e : execFlashOperationTimeout s = .next t) : Within P
    R s0 t := by
  unfold execFlashOperationTimeout at e; injection e with e; subst e
  repeat' first
    | with_reducible assumption | with_reducible refine flashTimeout_within ?_ p_safety p_sensor p_ic p_tw r_sp_FSTAT

theorem execFlashEraseSector_within (h : Within P R s0 s) (p_acc : P .acc) (p_sensor : P .sensor) (p_power : P .power)
    (e : execFlashEraseSector x1 x2 s = .next t) : Within P R s0 t := by
  unfold execFlashEraseSector at e; injection e with e; subst e
  repeat' first
    | with_reducible assumption | with_reducible refine regPut_at (fun _ _ h => ?_) ?_ p_acc p_power
    | with_reducible refine writeFcmd_within ?_ p_sensor | with_reducible refine within_pair ?_ (by assumption)
    | simp only [writeReg, readReg, spWrite, spRead]

theorem execFlashEraseBlock_within (h : Within P R s0 s) (p_acc : P .acc) (p_sensor : P .sensor) (p_power : P .power)
    (e : execFlashEraseBlock x1 x2 s = .next t) : Within P R s0 t := by
  unfold execFlashEraseBlock at e; injection e with e; subst e
  repeat' first
    | with_reducible assumption | with_reducible refine regPut_at (fun _ _ h => ?_) ?_ p_acc p_power
    | with_reducible refine writeFcmd_within ?_ p_sensor | with_reducible refine within_pair ?_ (by assumption)
    | simp only [writeReg, readReg, spWrite, spRead]

theorem execFlashEraseDevice_within (h : Within P R s0 s) (p_acc : P .acc) (p_sensor : P .sensor) (p_power : P .power)
    (e : execFlashEraseDevice x1 s = .next t) : Within P R s0 t := by
  unfold execFlashEraseDevice at e; injection e with e; subst e
  repeat' first
    | with_reducible assumption | with_reducible refine regPut_at (fun _ _ h => ?_) ?_ p_acc p_power
    | with_reducible refine writeFcmd_within ?_ p_sensor | with_reducible refine within_pair ?_ (by assumption)
    | simp only [writeReg, readReg, spWrite, spRead]

theorem execFlashProgramBuffer_within (h : Within P R s0 s) (p_acc : P .acc) (p_sensor : P .sensor)
    (p_power : P .power) (e : execFlashProgramBuffer x1 s = .next t) : Within P R s0 t := by
  unfold execFlashProgramBuffer at e; injection e with e; subst e
  repeat' first
    | with_reducible assumption | with_reducible refine regPut_at (fun _ _ h => ?_) ?_ p_acc p_power
    | with_reducible refine writeFcmd_within ?_ p_sensor | with_reducible refine within_pair ?_ (by assumption)
    | simp only [writeReg, readReg, spWrite, spRead]

theorem execCacheInvalidate_within (h : Within P R s0 s) (p_acc : P .acc) (p_sensor : P .sensor) (p_power : P .power)
    (e : execCacheInvalidate x1 s = .next t) : Within P R s0 t := by
  unfold execCacheInvalidate at e; injection e with e; subst e
  repeat' first
    | with_reducible assumption | with_reducible refine regPut_at (fun _ _ h => ?_) ?_ p_acc p_power
    | with_reducible refine writeFcmd_within ?_ p_sensor | with_reducible refine within_pair ?_ (by assumption)
    | simp only [writeReg, readReg, spWrite, spRead]

theorem execModeFault_within (h : Within P R s0 s) (p_acc : P .acc) (p_safety : P .safety) (p_router : P .router)
    (p_sensor : P .sensor) (p_ic : P .ic) (p_tw : P .tw) (r_sp_STAT : R (.sp .STAT)) (r_sp_PSTAT : R (.sp .PSTAT))
    (r_sp_PCNT : R (.sp .PCNT)) (r_sp_FSTAT : R (.sp .FSTAT)) (e : execModeFault x1 s = .next t) : Within P R s0 t := by
  unfold execModeFault at e; injection e with e; subst e
  repeat' first
    | with_reducible assumption
    | with_reducible refine modeFault_within ?_ p_acc p_safety p_router p_sensor p_ic p_tw
                        r_sp_STAT r_sp_PSTAT r_sp_PCNT r_sp_FSTAT

theorem execProfileBufferWrite_within (h : Within P R s0 s) (pAll : ∀ p, P p) (rAll : ∀ r, R r)
    (e : execProfileBufferWrite x1 x2 x3 s = .next t) : Within P R s0 t := by
  unfold execProfileBufferWrite at e; injection e with e; subst e
  repeat' first
    | with_reducible assumption | with_reducible refine regPut_within ?_ pAll rAll

end Sys2Proof.Machine
end

