-- ==== Sys2Proof/Laws/WithinRouterRows.lean ====
section
/-! SUPPORT. What each operation of Machine/RouterRows.lean can change: one lemma per operation (see Laws/WithinOps.lean). -/
namespace Sys2Proof.Machine
set_option Elab.async false

set_option linter.unusedVariables false
set_option linter.unusedSimpArgs false

variable {P : Part → Prop} {R : Reg → Prop} {s0 s t : State}

theorem execEventDelivery_within (h : Within P R s0 s) (p_merger : P .merger) (p_safety : P .safety)
    (p_router : P .router) (p_timers : P .timers) (p_drawbar : P .drawbar) (p_slots : P .slots) (p_prRun : P .prRun)
    (p_homing : P .homing) (p_lanes : P .lanes) (p_sensor : P .sensor) (p_ic : P .ic) (p_tw : P .tw) (rAll : ∀ r, R r)
    (e : execEventDelivery s = .next t) : Within P R s0 t := by
  unfold execEventDelivery at e; injection e with e; subst e
  repeat' first
    | with_reducible assumption
    | with_reducible refine eventDelivery_within ?_ p_merger p_safety p_router p_timers
                        p_drawbar p_slots p_prRun p_homing p_lanes p_sensor p_ic p_tw rAll

theorem execSoftwarePublish_within (h : Within P R s0 s) (pAll : ∀ p, P p) (rAll : ∀ r, R r)
    (e : execSoftwarePublish x1 x2 x3 s = .next t) : Within P R s0 t := by
  unfold execSoftwarePublish at e; injection e with e; subst e
  repeat' first
    | with_reducible assumption | with_reducible refine regPut_within ?_ pAll rAll

theorem execGateWrite_within (h : Within P R s0 s) (p_acc : P .acc) (p_router : P .router) (p_power : P .power)
    (r_ev_GATE : R (.ev .GATE)) (e : execGateWrite x1 x2 s = .next t) : Within P R s0 t := by
  unfold execGateWrite at e; injection e with e; subst e
  repeat' first
    | with_reducible assumption | with_reducible refine regPut_at (fun _ _ h => ?_) ?_ p_acc p_power
    | with_reducible refine gateWrite_within ?_ p_router r_ev_GATE
    | with_reducible refine within_pair ?_ (by assumption) | simp only [writeReg, readReg, evWrite, evRead]

theorem execRouteEntryWrite_within (h : Within P R s0 s) (p_acc : P .acc) (p_safety : P .safety) (p_ic : P .ic)
    (p_power : P .power) (p_tw : P .tw) (r_ev_STAT : R (.ev .STAT)) (r_ev_PUB : R (.ev .PUB))
    (r_ev_SUB : R (.ev .SUB)) (e : execRouteEntryWrite x1 x2 x3 s = .next t) : Within P R s0 t := by
  unfold execRouteEntryWrite at e; injection e with e; subst e
  repeat' first
    | with_reducible assumption
    | with_reducible refine routeWrite_within ?_ p_acc p_safety p_ic p_power p_tw r_ev_STAT r_ev_PUB r_ev_SUB

theorem execTimerStart_within (h : Within P R s0 s) (p_acc : P .acc) (p_safety : P .safety) (p_router : P .router)
    (p_timers : P .timers) (p_drawbar : P .drawbar) (p_ic : P .ic) (p_power : P .power) (p_tw : P .tw)
    (r_tm_STAT : R (.tm .STAT)) (r_tm_OUT : R (.tm .OUT)) (r_tm_CAP : R (.tm .CAP)) (r_db_LSTAT : R (.db .LSTAT))
    (e : execTimerStart x1 s = .next t) : Within P R s0 t := by
  unfold execTimerStart at e; injection e with e; subst e
  repeat' first
    | with_reducible assumption
    | with_reducible refine timerStart_within ?_ p_safety p_router p_timers p_ic p_tw r_tm_STAT r_tm_OUT
    | with_reducible refine timerVia_within (fun _ _ h => ?_) ?_ p_acc p_safety p_router
                        p_timers p_drawbar p_ic p_power p_tw r_tm_STAT r_tm_OUT r_tm_CAP r_db_LSTAT

theorem execTimerGroupStart_within (h : Within P R s0 s) (p_acc : P .acc) (p_safety : P .safety)
    (p_router : P .router) (p_timers : P .timers) (p_ic : P .ic) (p_power : P .power) (p_tw : P .tw)
    (r_tm_STAT : R (.tm .STAT)) (r_tm_OUT : R (.tm .OUT)) (e : execTimerGroupStart x1 x2 s = .next t) : Within P R s0
    t := by
  unfold execTimerGroupStart at e; injection e with e; subst e
  repeat' first
    | with_reducible assumption | with_reducible refine regPut_at (fun _ _ h => ?_) ?_ p_acc p_power
    | with_reducible refine writeGStart_within ?_ p_safety p_router p_timers p_ic p_tw r_tm_STAT r_tm_OUT
    | with_reducible refine within_pair ?_ (by assumption) | simp only [writeReg, readReg, tmWrite, tmRead]

theorem execTimerStop_within (h : Within P R s0 s) (p_acc : P .acc) (p_safety : P .safety) (p_router : P .router)
    (p_timers : P .timers) (p_drawbar : P .drawbar) (p_ic : P .ic) (p_power : P .power) (p_tw : P .tw)
    (r_tm_STAT : R (.tm .STAT)) (r_tm_OUT : R (.tm .OUT)) (r_tm_CAP : R (.tm .CAP)) (r_db_LSTAT : R (.db .LSTAT))
    (e : execTimerStop x1 s = .next t) : Within P R s0 t := by
  unfold execTimerStop at e; injection e with e; subst e
  repeat' first
    | with_reducible assumption | with_reducible refine timerStop_within ?_ p_timers r_tm_OUT
    | with_reducible refine timerVia_within (fun _ _ h => ?_) ?_ p_acc p_safety p_router
                        p_timers p_drawbar p_ic p_power p_tw r_tm_STAT r_tm_OUT r_tm_CAP r_db_LSTAT

theorem execTimerClear_within (h : Within P R s0 s) (p_acc : P .acc) (p_safety : P .safety) (p_router : P .router)
    (p_timers : P .timers) (p_drawbar : P .drawbar) (p_ic : P .ic) (p_power : P .power) (p_tw : P .tw)
    (r_tm_STAT : R (.tm .STAT)) (r_tm_OUT : R (.tm .OUT)) (r_tm_CAP : R (.tm .CAP)) (r_db_LSTAT : R (.db .LSTAT))
    (e : execTimerClear x1 s = .next t) : Within P R s0 t := by
  unfold execTimerClear at e; injection e with e; subst e
  repeat' first
    | with_reducible assumption | with_reducible refine timerClear_within ?_ p_safety p_timers p_ic p_tw r_tm_STAT
    | with_reducible refine timerVia_within (fun _ _ h => ?_) ?_ p_acc p_safety p_router
                        p_timers p_drawbar p_ic p_power p_tw r_tm_STAT r_tm_OUT r_tm_CAP r_db_LSTAT

theorem execTimerCapture_within (h : Within P R s0 s) (p_acc : P .acc) (p_safety : P .safety) (p_router : P .router)
    (p_timers : P .timers) (p_drawbar : P .drawbar) (p_ic : P .ic) (p_power : P .power) (p_tw : P .tw)
    (r_tm_STAT : R (.tm .STAT)) (r_tm_OUT : R (.tm .OUT)) (r_tm_CAP : R (.tm .CAP)) (r_db_LSTAT : R (.db .LSTAT))
    (e : execTimerCapture x1 s = .next t) : Within P R s0 t := by
  unfold execTimerCapture at e; injection e with e; subst e
  repeat' first
    | with_reducible assumption
    | with_reducible refine captureVia_within ?_ p_acc p_safety p_router p_timers p_drawbar p_ic
                        p_power p_tw r_tm_STAT r_tm_OUT r_tm_CAP r_db_LSTAT

theorem execTimerCountEvent_within (h : Within P R s0 s) (p_safety : P .safety) (p_router : P .router)
    (p_timers : P .timers) (p_drawbar : P .drawbar) (p_ic : P .ic) (p_tw : P .tw) (r_db_LSTAT : R (.db .LSTAT))
    (r_tm_STAT : R (.tm .STAT)) (r_tm_OUT : R (.tm .OUT)) (e : execTimerCountEvent x1 s = .next t) : Within P R s0 t := by
  unfold execTimerCountEvent at e; injection e with e; subst e
  repeat' first
    | with_reducible assumption
    | with_reducible refine timerCountEvent_within ?_ p_safety p_router p_timers p_drawbar p_ic
                        p_tw r_db_LSTAT r_tm_STAT r_tm_OUT

theorem execTimerWrap_within (h : Within P R s0 s) (p_safety : P .safety) (p_router : P .router)
    (p_timers : P .timers) (p_drawbar : P .drawbar) (p_ic : P .ic) (p_tw : P .tw) (r_db_LSTAT : R (.db .LSTAT))
    (r_tm_STAT : R (.tm .STAT)) (r_tm_OUT : R (.tm .OUT)) (e : execTimerWrap x1 s = .next t) : Within P R s0 t := by
  unfold execTimerWrap at e; injection e with e; subst e
  repeat' first
    | with_reducible assumption
    | with_reducible refine wrapEdge_within ?_ p_safety p_router p_timers p_drawbar p_ic p_tw
                        r_db_LSTAT r_tm_STAT r_tm_OUT

theorem execCompareFire_within (h : Within P R s0 s) (p_safety : P .safety) (p_router : P .router)
    (p_timers : P .timers) (p_drawbar : P .drawbar) (p_ic : P .ic) (p_tw : P .tw) (r_db_LSTAT : R (.db .LSTAT))
    (r_tm_STAT : R (.tm .STAT)) (r_tm_OUT : R (.tm .OUT)) (e : execCompareFire x1 s = .next t) : Within P R s0 t := by
  unfold execCompareFire at e; injection e with e; subst e
  repeat' first
    | with_reducible assumption
    | with_reducible refine compareEdge_within ?_ p_safety p_router p_timers p_drawbar p_ic p_tw
                        r_db_LSTAT r_tm_STAT r_tm_OUT

theorem execCompareWrite_within (h : Within P R s0 s) (pAll : ∀ p, P p) (rAll : ∀ r, R r)
    (e : execCompareWrite x1 x2 x3 s = .next t) : Within P R s0 t := by
  unfold execCompareWrite at e; injection e with e; subst e
  repeat' first
    | with_reducible assumption | with_reducible refine regPut_within ?_ pAll rAll

theorem execReloadWrite_within (h : Within P R s0 s) (p_acc : P .acc) (p_safety : P .safety) (p_router : P .router)
    (p_timers : P .timers) (p_drawbar : P .drawbar) (p_ic : P .ic) (p_power : P .power) (p_tw : P .tw)
    (r_db_LSTAT : R (.db .LSTAT)) (r_tm_STAT : R (.tm .STAT)) (r_tm_OUT : R (.tm .OUT))
    (r_tm_RELOAD : R (.tm .RELOAD)) (e : execReloadWrite x1 x2 s = .next t) : Within P R s0 t := by
  unfold execReloadWrite at e; injection e with e; subst e
  repeat' first
    | with_reducible assumption | with_reducible refine regPut_at (fun _ _ h => ?_) ?_ p_acc p_power
    | with_reducible refine writeReload_within ?_ p_safety p_router p_timers p_drawbar p_ic p_tw
                        r_db_LSTAT r_tm_STAT r_tm_OUT r_tm_RELOAD
    | with_reducible refine within_pair ?_ (by assumption) | simp only [writeReg, readReg, tmWrite, tmRead]

theorem execTimerConfigWrite_within (h : Within P R s0 s) (pAll : ∀ p, P p) (rAll : ∀ r, R r)
    (e : execTimerConfigWrite x1 x2 x3 s = .next t) : Within P R s0 t := by
  unfold execTimerConfigWrite at e; injection e with e; subst e
  repeat' first
    | with_reducible assumption | with_reducible refine regPut_within ?_ pAll rAll

theorem execOutputLevelWrite_within (h : Within P R s0 s) (p_acc : P .acc) (p_power : P .power)
    (r_tm_OUT : R (.tm .OUT)) (e : execOutputLevelWrite x1 x2 s = .next t) : Within P R s0 t := by
  unfold execOutputLevelWrite at e; injection e with e; subst e
  repeat' first
    | with_reducible assumption | with_reducible refine regPut_at (fun _ _ h => ?_) ?_ p_acc p_power
    | with_reducible refine State.plainWrite_within ?_ (by assumption)
    | with_reducible refine within_pair ?_ (by assumption) | simp only [writeReg, readReg, tmWrite, tmRead]

theorem execCaptureRead_within (h : Within P R s0 s) (p_acc : P .acc) (p_timers : P .timers)
    (e : execCaptureRead x1 s = .next t) : Within P R s0 t := by
  unfold execCaptureRead at e; injection e with e; subst e
  repeat' first
    | with_reducible assumption | with_reducible refine regGet_at (fun _ h => ?_) ?_ p_acc
    | with_reducible refine readTmCap_within ?_ p_timers | with_reducible refine within_pair ?_ (by assumption)
    | simp only [writeReg, readReg, tmWrite, tmRead]

end Sys2Proof.Machine
end

