-- ==== Sys2Proof/Laws/WithinCoreRows.lean ====
section
/-! SUPPORT. What each operation of Machine/CoreRows.lean can change: one lemma per operation (see Laws/WithinOps.lean). -/
namespace Sys2Proof.Machine
set_option Elab.async false

set_option linter.unusedVariables false
set_option linter.unusedSimpArgs false

variable {P : Part → Prop} {R : Reg → Prop} {s0 s t : State}

theorem execInterruptRoute_within (h : Within P R s0 s) (p_ic : P .ic) (e : execInterruptRoute s = .next t) : Within P
    R s0 t := by
  unfold execInterruptRoute at e; injection e with e; subst e
  repeat' first
    | with_reducible assumption | with_reducible refine interruptRoute_within ?_ p_ic

theorem execInterruptClaim_within (h : Within P R s0 s) (p_acc : P .acc) (p_ic : P .ic)
    (e : execInterruptClaim x1 x2 s = .next t) : Within P R s0 t := by
  unfold execInterruptClaim at e; injection e with e; subst e
  repeat' first
    | with_reducible assumption | with_reducible refine regGet_at (fun _ h => ?_) ?_ p_acc
    | with_reducible refine claim_within ?_ p_ic | with_reducible refine within_pair ?_ (by assumption)
    | simp only [writeReg, readReg, icWrite, icRead]

theorem execInterruptComplete_within (h : Within P R s0 s) (p_acc : P .acc) (p_safety : P .safety) (p_ic : P .ic)
    (p_power : P .power) (p_tw : P .tw) (r_ic_STAT : R (.ic .STAT)) (e : execInterruptComplete x1 x2 x3 s = .next t) :
    Within P R s0 t := by
  unfold execInterruptComplete at e; injection e with e; subst e
  repeat' first
    | with_reducible assumption | with_reducible refine regPut_at (fun _ _ h => ?_) ?_ p_acc p_power
    | with_reducible refine complete_within ?_ p_safety p_ic p_tw r_ic_STAT
    | with_reducible refine within_pair ?_ (by assumption) | simp only [writeReg, readReg, icWrite, icRead]

theorem execSoftwareInterruptSet_within (h : Within P R s0 s) (p_acc : P .acc) (p_ic : P .ic) (p_power : P .power)
    (e : execSoftwareInterruptSet x1 x2 s = .next t) : Within P R s0 t := by
  unfold execSoftwareInterruptSet at e; injection e with e; subst e
  repeat' first
    | with_reducible assumption | with_reducible refine regPut_at (fun _ _ h => ?_) ?_ p_acc p_power
    | with_reducible refine softwareSet_within ?_ p_ic | with_reducible refine within_pair ?_ (by assumption)
    | simp only [writeReg, readReg, icWrite, icRead]

theorem execSourceConfigWrite_within (h : Within P R s0 s) (p_acc : P .acc) (p_power : P .power)
    (r_ic_SRC : R (.ic .SRC)) (e : execSourceConfigWrite x1 x2 x3 s = .next t) : Within P R s0 t := by
  unfold execSourceConfigWrite at e; injection e with e; subst e
  repeat' first
    | with_reducible assumption | with_reducible refine regPut_at (fun _ _ h => ?_) ?_ p_acc p_power
    | with_reducible refine sourceWrite_within ?_ r_ic_SRC | with_reducible refine within_pair ?_ (by assumption)
    | simp only [writeReg, readReg, icWrite, icRead]

theorem execCoreAcceptWrite_within (h : Within P R s0 s) (p_acc : P .acc) (p_ic : P .ic) (p_power : P .power)
    (rAll : ∀ r, R r) (e : execCoreAcceptWrite x1 x2 x3 s = .next t) : Within P R s0 t := by
  unfold execCoreAcceptWrite at e; injection e with e; subst e
  repeat' first
    | with_reducible assumption | with_reducible refine regPut_at (fun _ _ h => ?_) ?_ p_acc p_power
    | with_reducible refine cpuctlWrite_within ?_ p_acc p_ic rAll
    | with_reducible refine within_pair ?_ (by assumption) | simp only [writeReg, readReg, icWrite, icRead]

theorem execCoreResetRequest_within (h : Within P R s0 s) (p_acc : P .acc) (p_ic : P .ic) (p_power : P .power)
    (rAll : ∀ r, R r) (e : execCoreResetRequest x1 x2 x3 s = .next t) : Within P R s0 t := by
  unfold execCoreResetRequest at e; injection e with e; subst e
  repeat' first
    | with_reducible assumption | with_reducible refine regPut_at (fun _ _ h => ?_) ?_ p_acc p_power
    | with_reducible refine cpuctlWrite_within ?_ p_acc p_ic rAll
    | with_reducible refine within_pair ?_ (by assumption) | simp only [writeReg, readReg, icWrite, icRead]

theorem execCoreFaultReset_within (h : Within P R s0 s) (p_acc : P .acc) (p_mem : P .mem) (p_safety : P .safety)
    (p_ic : P .ic) (p_tw : P .tw) (rAll : ∀ r, R r) (e : execCoreFaultReset x1 x2 s = .next t) : Within P R s0 t := by
  unfold execCoreFaultReset at e; injection e with e; subst e
  repeat' first
    | with_reducible assumption | with_reducible refine coreFails_within ?_ p_acc p_mem p_safety p_ic p_tw rAll

theorem execCoreRestart_within (h : Within P R s0 s) (p_ic : P .ic) (e : execCoreRestart x1 s = .next t) : Within P R
    s0 t := by
  unfold execCoreRestart at e; injection e with e; subst e
  repeat' first
    | with_reducible assumption | with_reducible refine coreRestart_within ?_ p_ic

theorem execWakeLatchSet_within (h : Within P R s0 s) (p_safety : P .safety) (p_ic : P .ic) (p_power : P .power)
    (p_tw : P .tw) (r_vn_WSTAT : R (.vn .WSTAT)) (e : execWakeLatchSet x1 s = .next t) : Within P R s0 t := by
  unfold execWakeLatchSet at e; injection e with e; subst e
  repeat' first
    | with_reducible assumption | with_reducible refine wakeLatch_within ?_ p_safety p_ic p_power p_tw r_vn_WSTAT

theorem execCoreWfi_within (h : Within P R s0 s) (p_ic : P .ic) (e : execCoreWfi x1 s = .next t) : Within P R s0 t := by
  unfold execCoreWfi at e; injection e with e; subst e
  repeat' first
    | with_reducible assumption | with_reducible refine coreWaits_within ?_ p_ic

theorem execCoreWake_within (h : Within P R s0 s) (p_safety : P .safety) (p_ic : P .ic)
    (e : execCoreWake x1 s = .next t) : Within P R s0 t := by
  unfold execCoreWake at e; injection e with e; subst e
  repeat' first
    | with_reducible assumption | with_reducible refine coreWake_within ?_ p_safety p_ic

theorem execFenceI_within (h : Within P R s0 s) (p_ic : P .ic) (e : execFenceI x1 s = .next t) : Within P R s0 t := by
  unfold execFenceI at e; injection e with e; subst e
  repeat' first
    | with_reducible assumption | with_reducible refine fenceI_within ?_ p_ic

end Sys2Proof.Machine
end

