-- ==== Sys2Proof/Laws/WithinPowerRows.lean ====
section
/-! SUPPORT. What each operation of Machine/PowerRows.lean can change: one lemma per operation (see Laws/WithinOps.lean). -/
namespace Sys2Proof.Machine
set_option Elab.async false

set_option linter.unusedVariables false
set_option linter.unusedSimpArgs false

variable {P : Part → Prop} {R : Reg → Prop} {s0 s t : State}

theorem execRequestGale_within (h : Within P R s0 s) (pAll : ∀ p, P p) (rAll : ∀ r, R r)
    (e : execRequestGale x1 s = .next t) : Within P R s0 t := by
  unfold execRequestGale at e; injection e with e; subst e
  repeat' first
    | with_reducible assumption | with_reducible refine performWaiting_within ?_ pAll rAll
    | with_reducible refine regPut_within ?_ pAll rAll

theorem execRequestBreeze_within (h : Within P R s0 s) (pAll : ∀ p, P p) (rAll : ∀ r, R r)
    (e : execRequestBreeze x1 s = .next t) : Within P R s0 t := by
  unfold execRequestBreeze at e; injection e with e; subst e
  repeat' first
    | with_reducible assumption | with_reducible refine performWaiting_within ?_ pAll rAll
    | with_reducible refine regPut_within ?_ pAll rAll

theorem execRequestLull_within (h : Within P R s0 s) (pAll : ∀ p, P p) (rAll : ∀ r, R r)
    (e : execRequestLull x1 s = .next t) : Within P R s0 t := by
  unfold execRequestLull at e; injection e with e; subst e
  repeat' first
    | with_reducible assumption | with_reducible refine performWaiting_within ?_ pAll rAll
    | with_reducible refine regPut_within ?_ pAll rAll

theorem execRequestCalm_within (h : Within P R s0 s) (pAll : ∀ p, P p) (rAll : ∀ r, R r)
    (e : execRequestCalm x1 s = .next t) : Within P R s0 t := by
  unfold execRequestCalm at e; injection e with e; subst e
  repeat' first
    | with_reducible assumption | with_reducible refine performWaiting_within ?_ pAll rAll
    | with_reducible refine regPut_within ?_ pAll rAll

theorem execVaneWakeRequest_within (h : Within P R s0 s) (p_acc : P .acc) (p_merger : P .merger)
    (p_safety : P .safety) (p_router : P .router) (p_drawbar : P .drawbar) (p_slots : P .slots) (p_lanes : P .lanes)
    (p_phys : P .phys) (p_cal : P .cal) (p_coach : P .coach) (p_ic : P .ic) (p_power : P .power) (p_host : P .host)
    (p_tw : P .tw) (rAll : ∀ r, R r) (e : execVaneWakeRequest x1 x2 s = .next t) : Within P R s0 t := by
  unfold execVaneWakeRequest at e; injection e with e; subst e
  repeat' first
    | with_reducible assumption | with_reducible refine regPut_at (fun _ _ h => ?_) ?_ p_acc p_power
    | with_reducible refine vnCtrlWrite_within ?_ p_merger p_safety p_router p_drawbar p_slots
                        p_lanes p_phys p_cal p_coach p_ic p_power p_host p_tw rAll
    | with_reducible refine within_pair ?_ (by assumption) | simp only [writeReg, readReg, vnWrite, vnRead]

theorem execVaneCalmRequest_within (h : Within P R s0 s) (p_acc : P .acc) (p_merger : P .merger)
    (p_safety : P .safety) (p_router : P .router) (p_drawbar : P .drawbar) (p_slots : P .slots) (p_lanes : P .lanes)
    (p_phys : P .phys) (p_cal : P .cal) (p_coach : P .coach) (p_ic : P .ic) (p_power : P .power) (p_host : P .host)
    (p_tw : P .tw) (rAll : ∀ r, R r) (e : execVaneCalmRequest x1 x2 s = .next t) : Within P R s0 t := by
  unfold execVaneCalmRequest at e; injection e with e; subst e
  repeat' first
    | with_reducible assumption | with_reducible refine regPut_at (fun _ _ h => ?_) ?_ p_acc p_power
    | with_reducible refine vnCtrlWrite_within ?_ p_merger p_safety p_router p_drawbar p_slots
                        p_lanes p_phys p_cal p_coach p_ic p_power p_host p_tw rAll
    | with_reducible refine within_pair ?_ (by assumption) | simp only [writeReg, readReg, vnWrite, vnRead]

theorem execHandshakeCommit_within (h : Within P R s0 s) (p_mem : P .mem) (p_merger : P .merger)
    (p_safety : P .safety) (p_router : P .router) (p_lanes : P .lanes) (p_coach : P .coach) (p_ic : P .ic)
    (p_power : P .power) (p_tw : P .tw) (r_ln_LAST : R (.ln .LAST)) (r_cw_TAPOVR : R (.cw .TAPOVR))
    (r_rk_STAT : R (.rk .STAT)) (r_rk_LATE : R (.rk .LATE)) (r_rk_OVCNT : R (.rk .OVCNT))
    (r_rk_CnSTAT : R (.rk .CnSTAT)) (r_al_WIDX : R (.al .WIDX)) (r_al_COUNT : R (.al .COUNT))
    (e : execHandshakeCommit s = .next t) : Within P R s0 t := by
  unfold execHandshakeCommit at e; injection e with e; subst e
  repeat' first
    | with_reducible assumption
    | with_reducible refine handshakeCommit_within ?_ p_mem p_merger p_safety p_router p_lanes
                        p_coach p_ic p_power p_tw r_ln_LAST r_cw_TAPOVR r_rk_STAT r_rk_LATE r_rk_OVCNT r_rk_CnSTAT
                        r_al_WIDX r_al_COUNT

theorem execHandshakeRefuse_within (h : Within P R s0 s) (pAll : ∀ p, P p) (rAll : ∀ r, R r)
    (e : execHandshakeRefuse s = .next t) : Within P R s0 t := by
  unfold execHandshakeRefuse at e; injection e with e; subst e
  repeat' first
    | with_reducible assumption
    | with_reducible refine handshakeRefuse_within ?_ (pAll _) (pAll _) (pAll _) (pAll _) (pAll
                        _) (pAll _) (pAll _) (pAll _) (pAll _) (pAll _) (pAll _) (pAll _) (pAll _) (pAll _) (rAll _)
                        (rAll _) (rAll _) (rAll _) (rAll _) (rAll _) (rAll _) (rAll _) (rAll _) (rAll _) (rAll _)
                        (rAll _) (rAll _) (rAll _) (rAll _) (rAll _) (rAll _)
    | with_reducible refine performWaiting_within ?_ pAll rAll

theorem execHandshakeTimeout_within (h : Within P R s0 s) (pAll : ∀ p, P p) (rAll : ∀ r, R r)
    (e : execHandshakeTimeout s = .next t) : Within P R s0 t := by
  unfold execHandshakeTimeout at e; injection e with e; subst e
  repeat' first
    | with_reducible assumption
    | with_reducible refine handshakeTimeout_within ?_ (pAll _) (pAll _) (pAll _) (pAll _) (pAll
                        _) (pAll _) (pAll _) (pAll _) (pAll _) (pAll _) (pAll _) (pAll _) (pAll _) (pAll _) (rAll _)
                        (rAll _) (rAll _) (rAll _) (rAll _) (rAll _) (rAll _) (rAll _) (rAll _) (rAll _) (rAll _)
                        (rAll _) (rAll _) (rAll _) (rAll _) (rAll _) (rAll _)
    | with_reducible refine performWaiting_within ?_ pAll rAll

theorem execLullEntered_within (h : Within P R s0 s) (p_mem : P .mem) (p_clk : P .clk) (p_merger : P .merger)
    (p_safety : P .safety) (p_router : P .router) (p_drawbar : P .drawbar) (p_slots : P .slots) (p_lanes : P .lanes)
    (p_phys : P .phys) (p_cal : P .cal) (p_coach : P .coach) (p_sensor : P .sensor) (p_ic : P .ic)
    (p_power : P .power) (p_host : P .host) (p_tw : P .tw) (r_pw_STAT : R (.pw .STAT)) (r_vn_CAPCNT : R (.vn .CAPCNT))
    (r_vn_MONSTAT : R (.vn .MONSTAT)) (r_pw_WAKE : R (.pw .WAKE)) (r_ca_STAT : R (.ca .STAT))
    (r_ca_LTEMP : R (.ca .LTEMP)) (r_ca_RUN : R (.ca .RUN)) (r_ln_STAT : R (.ln .STAT)) (r_al_FSTAT : R (.al .FSTAT))
    (r_ln_FAULTS : R (.ln .FAULTS)) (r_rk_STAT : R (.rk .STAT)) (r_cw_TFAULT : R (.cw .TFAULT))
    (r_cw_LDSTAT : R (.cw .LDSTAT)) (r_ds_EVENTS : R (.ds .EVENTS)) (r_db_LSTAT : R (.db .LSTAT))
    (e : execLullEntered s = .next t) : Within P R s0 t := by
  unfold execLullEntered at e; injection e with e; subst e
  repeat' first
    | with_reducible assumption
    | with_reducible refine lullEntered_within ?_ p_mem p_clk p_merger p_safety p_router
                        p_drawbar p_slots p_lanes p_phys p_cal p_coach p_sensor p_ic p_power p_host p_tw r_pw_STAT
                        r_vn_CAPCNT r_vn_MONSTAT r_pw_WAKE r_ca_STAT r_ca_LTEMP r_ca_RUN r_ln_STAT r_al_FSTAT
                        r_ln_FAULTS r_rk_STAT r_cw_TFAULT r_cw_LDSTAT r_ds_EVENTS r_db_LSTAT

theorem execLullExit_within (h : Within P R s0 s) (p_safety : P .safety) (p_ic : P .ic) (p_power : P .power)
    (p_tw : P .tw) (r_pw_WAKE : R (.pw .WAKE)) (e : execLullExit s = .next t) : Within P R s0 t := by
  unfold execLullExit at e; injection e with e; subst e
  repeat' first
    | with_reducible assumption | with_reducible refine lullExit_within ?_ p_safety p_ic p_power p_tw r_pw_WAKE

theorem execPllLocked_within (h : Within P R s0 s) (p_clk : P .clk) (p_power : P .power)
    (e : execPllLocked s = .next t) : Within P R s0 t := by
  unfold execPllLocked at e; injection e with e; subst e
  repeat' first
    | with_reducible assumption | with_reducible refine pllLocked_within ?_ p_clk p_power

theorem execBreezeReached_within (h : Within P R s0 s) (pAll : ∀ p, P p) (rAll : ∀ r, R r)
    (e : execBreezeReached s = .next t) : Within P R s0 t := by
  unfold execBreezeReached at e; injection e with e; subst e
  repeat' first
    | with_reducible assumption
    | with_reducible refine breezeReached_within ?_ (pAll _) (pAll _) (pAll _) (pAll _) (pAll _)
                        (pAll _) (pAll _) (pAll _) (pAll _) (pAll _) (pAll _) (pAll _) (pAll _) (pAll _) (pAll _)
                        (pAll _) rAll
    | with_reducible refine performWaiting_within ?_ pAll rAll

theorem execCalmEntered_within (h : Within P R s0 s) (pAll : ∀ p, P p) (rAll : ∀ r, R r)
    (e : execCalmEntered s = .next t) : Within P R s0 t := by
  unfold execCalmEntered at e; injection e with e; subst e
  repeat' first
    | with_reducible assumption | with_reducible refine calmEntered_within ?_ pAll rAll

theorem execCalmWake_within (h : Within P R s0 s) (p_safety : P .safety) (p_ic : P .ic) (p_power : P .power)
    (p_tw : P .tw) (r_pw_WAKE : R (.pw .WAKE)) (e : execCalmWake s = .next t) : Within P R s0 t := by
  unfold execCalmWake at e; injection e with e; subst e
  repeat' first
    | with_reducible assumption | with_reducible refine calmWake_within ?_ p_safety p_ic p_power p_tw r_pw_WAKE

theorem execDomainIdleOff_within (h : Within P R s0 s) (p_mem : P .mem) (p_coach : P .coach) (p_power : P .power)
    (e : execDomainIdleOff x1 s = .next t) : Within P R s0 t := by
  unfold execDomainIdleOff at e; injection e with e; subst e
  repeat' first
    | with_reducible assumption | with_reducible refine domainOff_within ?_ p_mem p_coach p_power

theorem execDomainWake_within (h : Within P R s0 s) (pAll : ∀ p, P p) (rAll : ∀ r, R r)
    (e : execDomainWake x1 s = .next t) : Within P R s0 t := by
  unfold execDomainWake at e; injection e with e; subst e
  repeat' first
    | with_reducible assumption | with_reducible refine domainWake_within ?_ (pAll _) (pAll _)
    | with_reducible refine performWaiting_within ?_ pAll rAll

theorem execRetentionCheckDone_within (h : Within P R s0 s) (p_mem : P .mem) (p_merger : P .merger)
    (p_safety : P .safety) (p_router : P .router) (p_drawbar : P .drawbar) (p_slots : P .slots) (p_coach : P .coach)
    (p_ic : P .ic) (p_power : P .power) (p_nvm : P .nvm) (p_tw : P .tw) (rAll : ∀ r, R r)
    (e : execRetentionCheckDone x1 x2 x3 s = .next t) : Within P R s0 t := by
  unfold execRetentionCheckDone at e; injection e with e; subst e
  repeat' first
    | with_reducible assumption
    | with_reducible refine retentionDone_within ?_ p_mem p_merger p_safety p_router p_drawbar
                        p_slots p_coach p_ic p_power p_nvm p_tw rAll

theorem execPadRelease_within (h : Within P R s0 s) (p_acc : P .acc) (p_power : P .power)
    (e : execPadRelease x1 x2 s = .next t) : Within P R s0 t := by
  unfold execPadRelease at e; injection e with e; subst e
  repeat' first
    | with_reducible assumption | with_reducible refine regPut_at (fun _ _ h => ?_) ?_ p_acc p_power
    | with_reducible refine releasePads_within ?_ p_power | with_reducible refine within_pair ?_ (by assumption)
    | simp only [writeReg, readReg, pwWrite, pwRead]

theorem execClockSourceWrite_within (h : Within P R s0 s) (p_acc : P .acc) (p_power : P .power)
    (r_pw_CLK : R (.pw .CLK)) (e : execClockSourceWrite x1 x2 s = .next t) : Within P R s0 t := by
  unfold execClockSourceWrite at e; injection e with e; subst e
  repeat' first
    | with_reducible assumption | with_reducible refine regPut_at (fun _ _ h => ?_) ?_ p_acc p_power
    | with_reducible refine clkWrite_within ?_ r_pw_CLK | with_reducible refine within_pair ?_ (by assumption)
    | simp only [writeReg, readReg, pwWrite, pwRead]

theorem execMonitorScan_within (h : Within P R s0 s) (p_mem : P .mem) (p_safety : P .safety) (p_ic : P .ic)
    (p_power : P .power) (p_tw : P .tw) (r_vn_MONSTAT : R (.vn .MONSTAT)) (r_vn_WSTAT : R (.vn .WSTAT))
    (e : execMonitorScan x1 s = .next t) : Within P R s0 t := by
  unfold execMonitorScan at e; injection e with e; subst e
  repeat' first
    | with_reducible assumption
    | with_reducible refine monitorScan_within ?_ p_mem p_safety p_ic p_power p_tw r_vn_MONSTAT r_vn_WSTAT

theorem execVaneCaptureEdge_within (h : Within P R s0 s) (p_safety : P .safety) (p_ic : P .ic) (p_power : P .power)
    (p_tw : P .tw) (r_vn_CAPCNT : R (.vn .CAPCNT)) (r_vn_WSTAT : R (.vn .WSTAT))
    (e : execVaneCaptureEdge x1 x2 s = .next t) : Within P R s0 t := by
  unfold execVaneCaptureEdge at e; injection e with e; subst e
  repeat' first
    | with_reducible assumption
    | with_reducible refine captureEdge_within ?_ p_safety p_ic p_power p_tw r_vn_CAPCNT r_vn_WSTAT

theorem execWakePinChange_within (h : Within P R s0 s) (p_safety : P .safety) (p_ic : P .ic) (p_power : P .power)
    (p_tw : P .tw) (r_vn_WSTAT : R (.vn .WSTAT)) (e : execWakePinChange x1 x2 s = .next t) : Within P R s0 t := by
  unfold execWakePinChange at e; injection e with e; subst e
  repeat' first
    | with_reducible assumption | with_reducible refine wakePinChange_within ?_ p_safety p_ic p_power p_tw r_vn_WSTAT

theorem execRtcAlarm_within (h : Within P R s0 s) (p_safety : P .safety) (p_ic : P .ic) (p_power : P .power)
    (p_tw : P .tw) (r_vn_WSTAT : R (.vn .WSTAT)) (e : execRtcAlarm s = .next t) : Within P R s0 t := by
  unfold execRtcAlarm at e; injection e with e; subst e
  repeat' first
    | with_reducible assumption | with_reducible refine rtcAlarm_within ?_ p_safety p_ic p_power p_tw r_vn_WSTAT

theorem execCrystalRunning_within (h : Within P R s0 s) (p_safety : P .safety) (p_ic : P .ic) (p_tw : P .tw)
    (r_pw_CLK : R (.pw .CLK)) (e : execCrystalRunning s = .next t) : Within P R s0 t := by
  unfold execCrystalRunning at e; injection e with e; subst e
  repeat' first
    | with_reducible assumption | with_reducible refine crystalRunning_within ?_ p_safety p_ic p_tw r_pw_CLK

theorem execX32Start_within (h : Within P R s0 s) (p_clk : P .clk) (p_safety : P .safety) (p_ic : P .ic)
    (p_tw : P .tw) (r_al_CLKSTAT : R (.al .CLKSTAT)) (e : execX32Start s = .next t) : Within P R s0 t := by
  unfold execX32Start at e; injection e with e; subst e
  repeat' first
    | with_reducible assumption | with_reducible refine x32Start_within ?_ p_clk p_safety p_ic p_tw r_al_CLKSTAT

end Sys2Proof.Machine
end

