-- ==== Sys2Proof/Laws/WithinStorageRows.lean ====
section
/-! SUPPORT. What each operation of Machine/StorageRows.lean can change: one lemma per operation (see Laws/WithinOps.lean). -/
namespace Sys2Proof.Machine
set_option Elab.async false

set_option linter.unusedVariables false
set_option linter.unusedSimpArgs false

variable {P : Part → Prop} {R : Reg → Prop} {s0 s t : State}

theorem execPowerOnReset_within (h : Within P R s0 s) (pAll : ∀ p, P p) (rAll : ∀ r, R r)
    (e : execPowerOnReset x1 s = .next t) : Within P R s0 t := by
  unfold execPowerOnReset at e; injection e with e; subst e
  repeat' first
    | with_reducible assumption | with_reducible refine powerOnReset_within ?_ pAll rAll

theorem execBrownOutReset_within (h : Within P R s0 s) (pAll : ∀ p, P p) (rAll : ∀ r, R r)
    (e : execBrownOutReset s = .next t) : Within P R s0 t := by
  unfold execBrownOutReset at e; injection e with e; subst e
  repeat' first
    | with_reducible assumption | with_reducible refine brownOut_within ?_ pAll rAll

theorem execPinReset_within (h : Within P R s0 s) (pAll : ∀ p, P p) (rAll : ∀ r, R r)
    (e : execPinReset x1 s = .next t) : Within P R s0 t := by
  unfold execPinReset at e; injection e with e; subst e
  repeat' first
    | with_reducible assumption | with_reducible refine pinReset_within ?_ pAll rAll

theorem execSoftwareReset_within (h : Within P R s0 s) (pAll : ∀ p, P p) (rAll : ∀ r, R r)
    (e : execSoftwareReset x1 s = .next t) : Within P R s0 t := by
  unfold execSoftwareReset at e; injection e with e; subst e
  repeat' first
    | with_reducible assumption | with_reducible refine regPut_within ?_ pAll rAll

theorem execEnclaveReset_within (h : Within P R s0 s) (pAll : ∀ p, P p) (rAll : ∀ r, R r)
    (e : execEnclaveReset s = .next t) : Within P R s0 t := by
  unfold execEnclaveReset at e; injection e with e; subst e
  repeat' first
    | with_reducible assumption | with_reducible refine enclaveReset_within ?_ pAll rAll

theorem execBootComplete_within (h : Within P R s0 s) (p_mem : P .mem) (p_merger : P .merger) (p_safety : P .safety)
    (p_router : P .router) (p_drawbar : P .drawbar) (p_slots : P .slots) (p_lanes : P .lanes) (p_phys : P .phys)
    (p_cal : P .cal) (p_coach : P .coach) (p_ic : P .ic) (p_nvm : P .nvm) (p_enclave : P .enclave) (p_host : P .host)
    (p_tw : P .tw) (rAll : ∀ r, R r) (e : execBootComplete s = .next t) : Within P R s0 t := by
  unfold execBootComplete at e; injection e with e; subst e
  repeat' first
    | with_reducible assumption
    | with_reducible refine bootComplete_within ?_ p_mem p_merger p_safety p_router p_drawbar
                        p_slots p_lanes p_phys p_cal p_coach p_ic p_nvm p_enclave p_host p_tw rAll

theorem execA1Start_within (h : Within P R s0 s) (p_acc : P .acc) (p_ic : P .ic) (p_power : P .power)
    (e : execA1Start x1 x2 s = .next t) : Within P R s0 t := by
  unfold execA1Start at e; injection e with e; subst e
  repeat' first
    | with_reducible assumption | with_reducible refine regPut_at (fun _ _ h => ?_) ?_ p_acc p_power
    | with_reducible refine a1Start_within ?_ p_ic | with_reducible refine within_pair ?_ (by assumption)
    | simp only [writeReg, readReg, nvWrite, nvRead]

theorem execNvmOpen_within (h : Within P R s0 s) (p_acc : P .acc) (p_safety : P .safety) (p_slots : P .slots)
    (p_ic : P .ic) (p_power : P .power) (p_nvm : P .nvm) (p_host : P .host) (p_tw : P .tw) (r_nv_STAT : R (.nv .STAT))
    (r_nv_DIRTY : R (.nv .DIRTY)) (e : execNvmOpen x1 x2 s = .next t) : Within P R s0 t := by
  unfold execNvmOpen at e; injection e with e; subst e
  repeat' first
    | with_reducible assumption | with_reducible refine regPut_at (fun _ _ h => ?_) ?_ p_acc p_power
    | with_reducible refine nvCommand_within ?_ p_safety p_slots p_ic p_power p_nvm p_host p_tw
                        r_nv_STAT r_nv_DIRTY
    | with_reducible refine within_pair ?_ (by assumption) | simp only [writeReg, readReg, nvWrite, nvRead]

theorem execNvmErase_within (h : Within P R s0 s) (p_acc : P .acc) (p_safety : P .safety) (p_slots : P .slots)
    (p_ic : P .ic) (p_power : P .power) (p_nvm : P .nvm) (p_host : P .host) (p_tw : P .tw) (r_nv_STAT : R (.nv .STAT))
    (r_nv_DIRTY : R (.nv .DIRTY)) (e : execNvmErase x1 s = .next t) : Within P R s0 t := by
  unfold execNvmErase at e; injection e with e; subst e
  repeat' first
    | with_reducible assumption | with_reducible refine regPut_at (fun _ _ h => ?_) ?_ p_acc p_power
    | with_reducible refine nvCommand_within ?_ p_safety p_slots p_ic p_power p_nvm p_host p_tw
                        r_nv_STAT r_nv_DIRTY
    | with_reducible refine within_pair ?_ (by assumption) | simp only [writeReg, readReg, nvWrite, nvRead]

theorem execNvmProgram_within (h : Within P R s0 s) (p_acc : P .acc) (p_safety : P .safety) (p_slots : P .slots)
    (p_ic : P .ic) (p_power : P .power) (p_nvm : P .nvm) (p_host : P .host) (p_tw : P .tw) (r_nv_STAT : R (.nv .STAT))
    (r_nv_DIRTY : R (.nv .DIRTY)) (e : execNvmProgram x1 s = .next t) : Within P R s0 t := by
  unfold execNvmProgram at e; injection e with e; subst e
  repeat' first
    | with_reducible assumption | with_reducible refine regPut_at (fun _ _ h => ?_) ?_ p_acc p_power
    | with_reducible refine nvCommand_within ?_ p_safety p_slots p_ic p_power p_nvm p_host p_tw
                        r_nv_STAT r_nv_DIRTY
    | with_reducible refine within_pair ?_ (by assumption) | simp only [writeReg, readReg, nvWrite, nvRead]

theorem execNvmCommit_within (h : Within P R s0 s) (p_acc : P .acc) (p_safety : P .safety) (p_slots : P .slots)
    (p_ic : P .ic) (p_power : P .power) (p_nvm : P .nvm) (p_host : P .host) (p_tw : P .tw) (r_nv_STAT : R (.nv .STAT))
    (r_nv_DIRTY : R (.nv .DIRTY)) (e : execNvmCommit x1 x2 s = .next t) : Within P R s0 t := by
  unfold execNvmCommit at e; injection e with e; subst e
  repeat' first
    | with_reducible assumption | with_reducible refine regPut_at (fun _ _ h => ?_) ?_ p_acc p_power
    | with_reducible refine nvCommand_within ?_ p_safety p_slots p_ic p_power p_nvm p_host p_tw
                        r_nv_STAT r_nv_DIRTY
    | with_reducible refine within_pair ?_ (by assumption) | simp only [writeReg, readReg, nvWrite, nvRead]

theorem execNvmStore_within (h : Within P R s0 s) (pAll : ∀ p, P p) (rAll : ∀ r, R r)
    (e : execNvmStore x1 x2 s = .next t) : Within P R s0 t := by
  unfold execNvmStore at e; injection e with e; subst e
  repeat' first
    | with_reducible assumption | with_reducible refine storeCommand_within ?_ pAll rAll

theorem execNvmClose_within (h : Within P R s0 s) (p_acc : P .acc) (p_safety : P .safety) (p_slots : P .slots)
    (p_ic : P .ic) (p_power : P .power) (p_nvm : P .nvm) (p_host : P .host) (p_tw : P .tw) (r_nv_STAT : R (.nv .STAT))
    (r_nv_DIRTY : R (.nv .DIRTY)) (e : execNvmClose x1 x2 s = .next t) : Within P R s0 t := by
  unfold execNvmClose at e; injection e with e; subst e
  repeat' first
    | with_reducible assumption | with_reducible refine regPut_at (fun _ _ h => ?_) ?_ p_acc p_power
    | with_reducible refine nvCommand_within ?_ p_safety p_slots p_ic p_power p_nvm p_host p_tw
                        r_nv_STAT r_nv_DIRTY
    | with_reducible refine within_pair ?_ (by assumption) | simp only [writeReg, readReg, nvWrite, nvRead]

theorem execNvmOperationDone_within (h : Within P R s0 s) (p_mem : P .mem) (p_safety : P .safety) (p_ic : P .ic)
    (p_nvm : P .nvm) (p_host : P .host) (p_tw : P .tw) (r_nv_STAT : R (.nv .STAT))
    (e : execNvmOperationDone x1 s = .next t) : Within P R s0 t := by
  unfold execNvmOperationDone at e; injection e with e; subst e
  repeat' first
    | with_reducible assumption
    | with_reducible refine nvDone_within ?_ p_mem p_safety p_ic p_nvm p_host p_tw r_nv_STAT

theorem execStorePageWritten_within (h : Within P R s0 s) (p_mem : P .mem) (p_safety : P .safety) (p_slots : P .slots)
    (p_ic : P .ic) (p_nvm : P .nvm) (p_host : P .host) (p_tw : P .tw) (rAll : ∀ r, R r)
    (e : execStorePageWritten x1 x2 s = .next t) : Within P R s0 t := by
  unfold execStorePageWritten at e; injection e with e; subst e
  repeat' first
    | with_reducible assumption
    | with_reducible refine storePageWritten_within ?_ p_mem p_safety p_slots p_ic p_nvm p_host p_tw rAll

theorem execSettingsWrite_within (h : Within P R s0 s) (pAll : ∀ p, P p) (rAll : ∀ r, R r)
    (e : execSettingsWrite x1 x2 x3 x4 x5 s = .next t) : Within P R s0 t := by
  unfold execSettingsWrite at e; injection e with e; subst e
  repeat' first
    | with_reducible assumption | with_reducible refine busWrite_within ?_ pAll rAll

end Sys2Proof.Machine
end

