-- ==== Sys2Proof/Laws/WithinEnclaveRows.lean ====
section
/-! SUPPORT. What each operation of Machine/EnclaveRows.lean can change: one lemma per operation (see Laws/WithinOps.lean). -/
namespace Sys2Proof.Machine
set_option Elab.async false

set_option linter.unusedVariables false
set_option linter.unusedSimpArgs false

variable {P : Part → Prop} {R : Reg → Prop} {s0 s t : State}

theorem execHash_within (h : Within P R s0 s) (p_acc : P .acc) (p_safety : P .safety) (p_ic : P .ic)
    (p_power : P .power) (p_enclave : P .enclave) (p_tw : P .tw) (r_se_STAT : R (.se .STAT))
    (e : execHash x1 x2 x3 s = .next t) : Within P R s0 t := by
  unfold execHash at e; injection e with e; subst e
  repeat' first
    | with_reducible assumption
    | with_reducible refine mailbox_within ?_ p_acc p_safety p_ic p_power p_enclave p_tw r_se_STAT

theorem execVerify_within (h : Within P R s0 s) (p_acc : P .acc) (p_safety : P .safety) (p_ic : P .ic)
    (p_power : P .power) (p_enclave : P .enclave) (p_tw : P .tw) (r_se_STAT : R (.se .STAT))
    (e : execVerify x1 x2 x3 s = .next t) : Within P R s0 t := by
  unfold execVerify at e; injection e with e; subst e
  repeat' first
    | with_reducible assumption
    | with_reducible refine mailbox_within ?_ p_acc p_safety p_ic p_power p_enclave p_tw r_se_STAT

theorem execCmac_within (h : Within P R s0 s) (p_acc : P .acc) (p_safety : P .safety) (p_ic : P .ic)
    (p_power : P .power) (p_enclave : P .enclave) (p_tw : P .tw) (r_se_STAT : R (.se .STAT))
    (e : execCmac x1 x2 x3 s = .next t) : Within P R s0 t := by
  unfold execCmac at e; injection e with e; subst e
  repeat' first
    | with_reducible assumption
    | with_reducible refine mailbox_within ?_ p_acc p_safety p_ic p_power p_enclave p_tw r_se_STAT

theorem execCtr_within (h : Within P R s0 s) (p_acc : P .acc) (p_safety : P .safety) (p_ic : P .ic)
    (p_power : P .power) (p_enclave : P .enclave) (p_tw : P .tw) (r_se_STAT : R (.se .STAT))
    (e : execCtr x1 x2 x3 s = .next t) : Within P R s0 t := by
  unfold execCtr at e; injection e with e; subst e
  repeat' first
    | with_reducible assumption
    | with_reducible refine mailbox_within ?_ p_acc p_safety p_ic p_power p_enclave p_tw r_se_STAT

theorem execRandom_within (h : Within P R s0 s) (p_acc : P .acc) (p_safety : P .safety) (p_ic : P .ic)
    (p_power : P .power) (p_enclave : P .enclave) (p_tw : P .tw) (r_se_STAT : R (.se .STAT))
    (e : execRandom x1 x2 x3 s = .next t) : Within P R s0 t := by
  unfold execRandom at e; injection e with e; subst e
  repeat' first
    | with_reducible assumption
    | with_reducible refine mailbox_within ?_ p_acc p_safety p_ic p_power p_enclave p_tw r_se_STAT

theorem execKeyInstall_within (h : Within P R s0 s) (p_acc : P .acc) (p_safety : P .safety) (p_ic : P .ic)
    (p_power : P .power) (p_enclave : P .enclave) (p_tw : P .tw) (r_se_STAT : R (.se .STAT))
    (e : execKeyInstall x1 x2 x3 s = .next t) : Within P R s0 t := by
  unfold execKeyInstall at e; injection e with e; subst e
  repeat' first
    | with_reducible assumption
    | with_reducible refine mailbox_within ?_ p_acc p_safety p_ic p_power p_enclave p_tw r_se_STAT

theorem execKeyRevoke_within (h : Within P R s0 s) (p_acc : P .acc) (p_safety : P .safety) (p_ic : P .ic)
    (p_power : P .power) (p_enclave : P .enclave) (p_tw : P .tw) (r_se_STAT : R (.se .STAT))
    (e : execKeyRevoke x1 x2 x3 s = .next t) : Within P R s0 t := by
  unfold execKeyRevoke at e; injection e with e; subst e
  repeat' first
    | with_reducible assumption
    | with_reducible refine mailbox_within ?_ p_acc p_safety p_ic p_power p_enclave p_tw r_se_STAT

theorem execKeyInfo_within (h : Within P R s0 s) (p_acc : P .acc) (p_safety : P .safety) (p_ic : P .ic)
    (p_power : P .power) (p_enclave : P .enclave) (p_tw : P .tw) (r_se_STAT : R (.se .STAT))
    (e : execKeyInfo x1 x2 x3 s = .next t) : Within P R s0 t := by
  unfold execKeyInfo at e; injection e with e; subst e
  repeat' first
    | with_reducible assumption
    | with_reducible refine mailbox_within ?_ p_acc p_safety p_ic p_power p_enclave p_tw r_se_STAT

theorem execSetmin_within (h : Within P R s0 s) (p_acc : P .acc) (p_safety : P .safety) (p_ic : P .ic)
    (p_power : P .power) (p_enclave : P .enclave) (p_tw : P .tw) (r_se_STAT : R (.se .STAT))
    (e : execSetmin x1 x2 x3 s = .next t) : Within P R s0 t := by
  unfold execSetmin at e; injection e with e; subst e
  repeat' first
    | with_reducible assumption
    | with_reducible refine mailbox_within ?_ p_acc p_safety p_ic p_power p_enclave p_tw r_se_STAT

theorem execWinset_within (h : Within P R s0 s) (p_acc : P .acc) (p_safety : P .safety) (p_ic : P .ic)
    (p_power : P .power) (p_enclave : P .enclave) (p_tw : P .tw) (r_se_STAT : R (.se .STAT))
    (e : execWinset x1 x2 x3 s = .next t) : Within P R s0 t := by
  unfold execWinset at e; injection e with e; subst e
  repeat' first
    | with_reducible assumption
    | with_reducible refine mailbox_within ?_ p_acc p_safety p_ic p_power p_enclave p_tw r_se_STAT

theorem execAdvance_within (h : Within P R s0 s) (p_acc : P .acc) (p_safety : P .safety) (p_ic : P .ic)
    (p_power : P .power) (p_enclave : P .enclave) (p_tw : P .tw) (r_se_STAT : R (.se .STAT))
    (e : execAdvance x1 x2 x3 s = .next t) : Within P R s0 t := by
  unfold execAdvance at e; injection e with e; subst e
  repeat' first
    | with_reducible assumption
    | with_reducible refine mailbox_within ?_ p_acc p_safety p_ic p_power p_enclave p_tw r_se_STAT

theorem execDecommission_within (h : Within P R s0 s) (p_acc : P .acc) (p_safety : P .safety) (p_ic : P .ic)
    (p_power : P .power) (p_enclave : P .enclave) (p_tw : P .tw) (r_se_STAT : R (.se .STAT))
    (e : execDecommission x1 x2 x3 s = .next t) : Within P R s0 t := by
  unfold execDecommission at e; injection e with e; subst e
  repeat' first
    | with_reducible assumption
    | with_reducible refine mailbox_within ?_ p_acc p_safety p_ic p_power p_enclave p_tw r_se_STAT

theorem execMailboxDone_within (h : Within P R s0 s) (pAll : ∀ p, P p) (rAll : ∀ r, R r)
    (e : execMailboxDone x1 s = .next t) : Within P R s0 t := by
  unfold execMailboxDone at e; injection e with e; subst e
  repeat' first
    | with_reducible assumption | with_reducible refine mailboxDone_within ?_ pAll rAll

theorem execSeclockSet_within (h : Within P R s0 s) (p_acc : P .acc) (p_safety : P .safety) (p_ic : P .ic)
    (p_power : P .power) (p_tw : P .tw) (r_se_SECCTL : R (.se .SECCTL)) (e : execSeclockSet x1 x2 s = .next t) :
    Within P R s0 t := by
  unfold execSeclockSet at e; injection e with e; subst e
  repeat' first
    | with_reducible assumption | with_reducible refine regPut_at (fun _ _ h => ?_) ?_ p_acc p_power
    | with_reducible refine secctlWrite_within ?_ p_safety p_ic p_tw r_se_SECCTL
    | with_reducible refine within_pair ?_ (by assumption) | simp only [writeReg, readReg, seWrite]

theorem execSecdbgChallenge_within (h : Within P R s0 s) (p_enclave : P .enclave)
    (e : execSecdbgChallenge s = .next t) : Within P R s0 t := by
  unfold execSecdbgChallenge at e; injection e with e; subst e
  repeat' first
    | with_reducible assumption | with_reducible refine debugChallenge_within ?_ p_enclave

theorem execSecdbgResponse_within (h : Within P R s0 s) (p_safety : P .safety) (p_enclave : P .enclave)
    (e : execSecdbgResponse x1 x2 s = .next t) : Within P R s0 t := by
  unfold execSecdbgResponse at e; injection e with e; subst e
  repeat' first
    | with_reducible assumption | with_reducible refine debugResponse_within ?_ p_safety p_enclave

theorem execEntropyFail_within (h : Within P R s0 s) (p_safety : P .safety) (p_ic : P .ic) (p_enclave : P .enclave)
    (p_tw : P .tw) (r_al_FSTAT : R (.al .FSTAT)) (e : execEntropyFail x1 s = .next t) : Within P R s0 t := by
  unfold execEntropyFail at e; injection e with e; subst e
  repeat' first
    | with_reducible assumption | with_reducible refine entropyFail_within ?_ p_safety p_ic p_enclave p_tw r_al_FSTAT

theorem execEnclaveSensorTrip_within (h : Within P R s0 s) (pAll : ∀ p, P p) (rAll : ∀ r, R r)
    (e : execEnclaveSensorTrip x1 s = .next t) : Within P R s0 t := by
  unfold execEnclaveSensorTrip at e; injection e with e; subst e
  repeat' first
    | with_reducible assumption | with_reducible refine enclaveTrip_within ?_ pAll rAll

end Sys2Proof.Machine
end

