-- ==== Sys2Proof/WellFormed.lean ====
section
/-! DEFINITION. Operand values that a command can have: access sizes, numbers of conversions, levels and bytes that the
hardware can deliver. The machine is total on every command; an ill-formed one stands for nothing that can happen. -/
namespace Sys2Proof

/-- An access moves 8, 16 or 32 bits (R4). -/
def accessSize (size : Nat) : Bool := size == 1 || size == 2 || size == 4

/-- Level codes are 8 bits (R299, DB_RXLEVEL). -/
def levelCode (level : Nat) : Bool := decide (level ≤ 255)

/-- The operands of a capture (R307). -/
def captureWf (how : CaptureCase) : Bool :=
  match how with
  | .sync matching level => decide (matching ≤ 16) && levelCode level
  | .level lowest => levelCode lowest

/-- SPEED and CLEAR have no task input (R442). -/
def notTask (via : SlotVia) : Bool :=
  match via with
  | .register _ => true
  | .task _ => false
  | .service _ _ => true

/-- Fewer sampling edges follow the last whole word of 32 bits, or slot of 64 (R353, R382). -/
def frameWf (f : HostFrame) : Bool :=
  match f with
  | .direct _ _ _ extra => decide (extra < 32)
  | .chain _ _ _ extra => decide (extra < 64)

/-- The operands of a command can occur. -/
def wellFormed (i : Instr) : Bool :=
  match i with
  | .stampHighChange => true
  | .epochWrite => true
  | .stampHandover => true
  | .wideValueRead _ _ => true
  | .wideValueWrite _ _ _ => true
  | .selectWrite _ _ _ => true
  | .registerWrite _ _ size _ => accessSize size
  | .stalledAccessComplete _ => true
  | .laneEnable _ _ => true
  | .laneStop _ _ => true
  | .laneCommit _ => true
  | .laneRestart _ => true
  | .laneTestnow _ => true
  | .scanCycleStart _ _ => true
  | .settleEnd _ => true
  | .conversionComplete _ _ _ _ => true
  | .withheldWordRelease _ => true
  | .laneSubstComplete _ => true
  | .laneTimerTick _ => true
  | .referenceTestStart _ => true
  | .referenceTestDone _ _ _ => true
  | .laneRetest _ => true
  | .laneRetestDone _ values _ => values.length == 18
  | .temperatureReading _ => true
  | .calRunRequest _ _ => true
  | .calLaneSelect => true
  | .calRunStart => true
  | .calRunEnd codes _ _ => codes.length == 18
  | .loanEnd _ => true
  | .staleWordDue _ => true
  | .holdResume _ => true
  | .calSetsWrite _ _ _ => true
  | .dacCodeWrite _ _ => true
  | .trimWrite _ _ _ => true
  | .nop _ _ => true
  | .wait _ _ => true
  | .move _ _ => true
  | .scale _ _ => true
  | .fir _ _ => true
  | .biq _ _ => true
  | .cic _ _ => true
  | .rect _ _ => true
  | .env _ _ => true
  | .thr _ _ => true
  | .cnt _ _ => true
  | .peak _ _ => true
  | .lut _ _ => true
  | .recStep _ _ => true
  | .sq _ _ => true
  | .sqrt _ _ => true
  | .dly _ _ => true
  | .evt _ _ => true
  | .jmp _ _ => true
  | .clr _ _ => true
  | .invalidOperation _ => true
  | .emitAfterStall _ => true
  | .couplingWordArrive _ _ => true
  | .carriageSubstComplete _ => true
  | .outletWordRelease _ _ => true
  | .trainStart _ _ => true
  | .trainStartComplete _ => true
  | .trainStop _ _ => true
  | .trainDrained _ => true
  | .drainCut _ => true
  | .spareBistRound _ _ => true
  | .carriageRetest _ _ => true
  | .carriageRetestDone _ _ => true
  | .diagnosticWrite _ _ _ _ => true
  | .consistVerify _ => true
  | .applyFullImage _ => true
  | .applyShuntImage _ _ => true
  | .applySlot _ _ => true
  | .consistAbort _ => true
  | .consistCheckDone => true
  | .fullLoadTrainsStopped => true
  | .fullLoadWritten => true
  | .inPlaceShuntStopped => true
  | .inPlaceShuntLoaded => true
  | .handoverStagingLoaded => true
  | .handoverOldStopped => true
  | .handoverTimeout => true
  | .stagingConfigWrite _ _ _ => true
  | .slotFwd _ => true
  | .slotRev _ => true
  | .slotOff _ => true
  | .slotSpeed via _ => notTask via
  | .slotClear via => notTask via
  | .slotPinch _ => true
  | .coastEnd _ => true
  | .reverseEnd _ => true
  | .reportTick _ => true
  | .positionWrite _ _ => true
  | .coolantEnable _ _ => true
  | .coolantStep => true
  | .dryRestart _ => true
  | .serviceRequestTaken _ => true
  | .recallGo _ _ => true
  | .recallStop _ => true
  | .recallSave _ _ => true
  | .recallTimeout => true
  | .homingGo _ => true
  | .homingStop _ => true
  | .homingTimeout _ => true
  | .autoHomingStart _ => true
  | .recordArrive => true
  | .recordWrite => true
  | .overflowExit => true
  | .cursorEnable _ _ _ => true
  | .cursorAck _ _ _ => true
  | .swRecordCommit _ _ => true
  | .horizonWrite _ _ => true
  | .almanacWrite => true
  | .almanacLogCommit _ _ => true
  | .watchdogEnable _ _ _ => true
  | .watchdogKick _ _ _ => true
  | .watchdogExpire _ => true
  | .xtalFail => true
  | .pllFail _ => true
  | .vrcFail _ => true
  | .x32Fail => true
  | .lockstepMismatch _ => true
  | .faultPinRelease => true
  | .faultReady _ _ => true
  | .softwareFault _ _ => true
  | .phyEnable _ _ _ => true
  | .phyDisable _ _ _ => true
  | .candidateFound _ matching level _ => decide (matching ≤ 8) && levelCode level
  | .syncFound _ matching level rival _ => decide (matching ≤ 16) && levelCode level && levelCode (rival.getD 0)
  | .syncDeadline _ => true
  | .headerDecoded _ _ _ => true
  | .receptionComplete _ bytes _ _ => decide (bytes.length ≤ 38)
  | .capture _ how => captureWf how
  | .transmissionEnd _ => true
  | .blankEnd _ => true
  | .txOvercurrent _ => true
  | .listenerDetect => true
  | .exchangeStart _ => true
  | .responseTimeout _ => true
  | .commandCommit _ _ _ => true
  | .timetableRun _ _ _ => true
  | .timetableHalt _ _ _ => true
  | .enumGo _ _ _ => true
  | .enumStop _ _ _ => true
  | .storedCommandTrigger _ _ => true
  | .auidWrite _ _ _ => true
  | .frameSelect => true
  | .statusPoll => true
  | .hello f => frameWf f
  | .readReg f => frameWf f
  | .writeReg f => frameWf f
  | .readBatch f => frameWf f
  | .loadConsistChunk f => frameWf f
  | .loadConsistVerify f => frameWf f
  | .loadConsistApply f => frameWf f
  | .shunt f => frameWf f
  | .store f _ => frameWf f
  | .powerReq f => frameWf f
  | .sync f _ => frameWf f
  | .almanacRead f => frameWf f
  | .notifyCfg f => frameWf f
  | .sessionOpen f => frameWf f
  | .sessionClose f => frameWf f
  | .noOperation f => frameWf f
  | .longCommandDone => true
  | .hostSwirq _ _ => true
  | .hostPortConfig _ _ => true
  | .twStatus k => decide (k.acked ≤ 255)
  | .twHello k => decide (k.acked ≤ 255)
  | .twPointer bytes => decide (bytes.length ≤ 257)
  | .twReadReg k => decide (k.acked ≤ 255)
  | .twWriteReg bytes => decide (bytes.length ≤ 257)
  | .twReadBatch k => decide (k.acked ≤ 255)
  | .twBatchAgain k => decide (k.acked ≤ 255)
  | .twLoadConsistChunk bytes => decide (bytes.length ≤ 257)
  | .twLoadConsistVerify bytes => decide (bytes.length ≤ 257)
  | .twLoadConsistApply bytes => decide (bytes.length ≤ 257)
  | .twShunt bytes => decide (bytes.length ≤ 257)
  | .twStore bytes _ => decide (bytes.length ≤ 257)
  | .twPowerReq bytes => decide (bytes.length ≤ 257)
  | .twSync bytes _ => decide (bytes.length ≤ 257)
  | .twSyncRead k => decide (k.acked ≤ 255)
  | .twAlmanacPtr bytes => decide (bytes.length ≤ 257)
  | .twAlmanacRead k => decide (k.acked ≤ 255)
  | .twNotifyCfg bytes => decide (bytes.length ≤ 257)
  | .twLongDone => true
  | .stretchTimeout _ => true
  | .busTimeout => true
  | .addressMatch => true
  | .twTakeover => true
  | .matcherRelease => true
  | .calmAddressWake => true
  | .hostNotify _ => true
  | .twSwirqSet _ _ => true
  | .profileTrigger _ => true
  | .profileGo _ => true
  | .sensorFrameStart => true
  | .sensorFrameEnd _ => true
  | .windowRead _ _ size => accessSize size
  | .windowWrite _ _ size _ => accessSize size
  | .pageBufferIdle => true
  | .flashStatusPoll _ => true
  | .flashOperationTimeout => true
  | .flashEraseSector _ _ => true
  | .flashEraseBlock _ _ => true
  | .flashEraseDevice _ => true
  | .flashProgramBuffer _ => true
  | .cacheInvalidate _ => true
  | .modeFault _ => true
  | .profileBufferWrite _ _ _ => true
  | .eventDelivery => true
  | .softwarePublish _ _ _ => true
  | .gateWrite _ _ => true
  | .routeEntryWrite _ _ _ => true
  | .timerStart _ => true
  | .timerGroupStart _ _ => true
  | .timerStop _ => true
  | .timerClear _ => true
  | .timerCapture _ => true
  | .timerCountEvent _ => true
  | .timerWrap _ => true
  | .compareFire _ => true
  | .compareWrite _ _ _ => true
  | .reloadWrite _ _ => true
  | .timerConfigWrite _ _ _ => true
  | .outputLevelWrite _ _ => true
  | .captureRead _ => true
  | .interruptRoute => true
  | .interruptClaim _ _ => true
  | .interruptComplete _ _ _ => true
  | .softwareInterruptSet _ _ => true
  | .sourceConfigWrite _ _ _ => true
  | .coreAcceptWrite _ _ _ => true
  | .coreResetRequest _ _ _ => true
  | .coreFaultReset _ _ => true
  | .coreRestart _ => true
  | .wakeLatchSet _ => true
  | .coreWfi _ => true
  | .coreWake _ => true
  | .fenceI _ => true
  | .requestGale _ => true
  | .requestBreeze _ => true
  | .requestLull _ => true
  | .requestCalm _ => true
  | .vaneWakeRequest _ _ => true
  | .vaneCalmRequest _ _ => true
  | .handshakeCommit => true
  | .handshakeRefuse => true
  | .handshakeTimeout => true
  | .lullEntered => true
  | .lullExit => true
  | .pllLocked => true
  | .breezeReached => true
  | .calmEntered => true
  | .calmWake => true
  | .domainIdleOff _ => true
  | .domainWake _ => true
  | .retentionCheckDone _ _ _ => true
  | .padRelease _ _ => true
  | .clockSourceWrite _ _ => true
  | .monitorScan _ => true
  | .vaneCaptureEdge _ _ => true
  | .wakePinChange _ _ => true
  | .rtcAlarm => true
  | .powerOnReset _ => true
  | .brownOutReset => true
  | .pinReset _ => true
  | .softwareReset _ => true
  | .enclaveReset => true
  | .bootComplete => true
  | .a1Start _ _ => true
  | .nvmOpen _ _ => true
  | .nvmErase _ => true
  | .nvmProgram _ => true
  | .nvmCommit _ _ => true
  | .nvmStore _ _ => true
  | .nvmClose _ _ => true
  | .nvmOperationDone _ => true
  | .storePageWritten _ _ => true
  | .settingsWrite _ _ _ size _ => accessSize size
  | .hash _ _ _ => true
  | .verify _ _ _ => true
  | .cmac _ _ _ => true
  | .ctr _ _ _ => true
  | .random _ _ _ => true
  | .keyInstall _ _ _ => true
  | .keyRevoke _ _ _ => true
  | .keyInfo _ _ _ => true
  | .setmin _ _ _ => true
  | .winset _ _ _ => true
  | .advance _ _ _ => true
  | .decommission _ _ _ => true
  | .mailboxDone _ => true
  | .seclockSet _ _ => true
  | .secdbgChallenge => true
  | .secdbgResponse _ _ => true
  | .entropyFail _ => true
  | .enclaveSensorTrip _ => true
  | .readClearAccess _ _ size => accessSize size
  | .secondWatchCandidate _ matching level => decide (matching ≤ 8) && levelCode level
  | .secondWatchSync _ matching level => decide (matching ≤ 16) && levelCode level
  | .secondWatchDeadline _ => true
  | .badopFrame _ f => frameWf f
  | .twUnknownCode _ => true
  | .crystalRunning => true
  | .x32Start => true

end Sys2Proof
end

