-- ==== Sys2Proof/Tests/Slice0.lean ====
section
/-! SUPPORT. Tests: ill-formed commands that the check refuses, and for each statement concrete states and operands that meet
the hypotheses of its clauses, with the result that the spec gives there. -/
namespace Sys2Proof.Tests
open Machine
set_option maxRecDepth 100000
set_option Elab.async false

/-- The command goes on, and its next state passes the test. -/
def okNext (o : Host.Outcome State Fault Refusal) (f : State → Bool) : Bool :=
  match o with
  | .next t => f t
  | _ => false

/-- `WriteReaches` as a test. -/
def wr (a : Accessor) (r : Reg) (v : Word) (s : State) : Bool :=
  decide (gate a r true s = .ok) && decide ((postponed r v s).2 = 0)

theorem wr_reaches (a : Accessor) (r : Reg) (v : Word) (s : State) (h : wr a r v s = true) : WriteReaches a r v s := by
  simp only [wr, Bool.and_eq_true, decide_eq_true_eq] at h
  exact h

/-- `ReadReaches` as a test. -/
def rd (a : Accessor) (r : Reg) (s : State) : Bool := decide (gate a r false s = .ok)

theorem rd_reaches (a : Accessor) (r : Reg) (s : State) (h : rd a r s = true) : ReadReaches a r s := by
  simpa [rd, ReadReaches] using h

/-- `NothingWaits` as a test. -/
def idleWait (s : State) : Bool := s.power.waiting.isEmpty && s.host.issue.isNone && s.tw.issue.isNone

theorem idleWait_nothing (s : State) (h : idleWait s = true) : NothingWaits s := by
  simp only [idleWait, Bool.and_eq_true, List.isEmpty_iff, Option.isNone_iff_eq_none] at h
  exact ⟨h.1.1, h.1.2, h.2⟩

/-- The tables are in canonical form. -/
def sane (s : State) : Bool := decide (RegFile.wf s.regs) && decide (Memory.wf s.mem)

/-- The hub at a stamp, with the boot finished. -/
def hubAt (n : Nat) : State :=
  { State.reset with
    clk := { State.reset.clk with bus := BitVec.ofNat 48 n, edge := n }
    nvm := { State.reset.nvm with booting := false } }

/-- An access was answered with `done`. -/
def didIt (a : Accessor) (t : State) : Bool := decide (lastAnswer a t = .done)

/-! ### WellFormed refuses -/

def someFrame : HostFrame := .direct 0 0 [] 0
def badFrame : HostFrame := .direct 0 0 [] 32
def badTake : TwTake := { acked := 256, pec := false, extra := 0 }
def manyBytes : List Byte := List.replicate 258 0

theorem refuses_size : wellFormed (.registerWrite .a0 0 3 0) = false ∧ wellFormed (.windowRead .a0 0 8) = false ∧
    wellFormed (.windowWrite .a0 0 0 0) = false ∧ wellFormed (.settingsWrite .a0 0 0 3 0) = false ∧
    wellFormed (.readClearAccess .a0 0 5) = false ∧ wellFormed (.registerWrite .a0 0 4 0) = true := by decide
theorem refuses_lengths : wellFormed (.laneRetestDone 0 [] true) = false ∧ wellFormed (.calRunEnd [] 0 true) = false ∧
    wellFormed (.receptionComplete 0 (List.replicate 39 0) [] false) = false := by decide
theorem refuses_levels : levelCode 256 = false ∧ wellFormed (.candidateFound 0 9 0 false) = false ∧
    wellFormed (.syncFound 0 17 0 none false) = false ∧ wellFormed (.secondWatchCandidate 0 8 256) = false ∧
    wellFormed (.secondWatchSync 0 17 0) = false := by decide
theorem refuses_capture : wellFormed (.capture 0 (.sync 17 0)) = false ∧ wellFormed (.capture 0 (.level 256)) = false := by decide
theorem refuses_task : wellFormed (.slotSpeed (.task 0) 0) = false ∧ wellFormed (.slotClear (.task 0)) = false := by decide
theorem refuses_frame : wellFormed (.hello badFrame) = false ∧ wellFormed (.badopFrame 0 (.chain 0 0 0 64)) = false ∧
    wellFormed (.hello someFrame) = true := by decide
theorem refuses_take : wellFormed (.twStatus badTake) = false := by decide
theorem refuses_two_wire_bytes : wellFormed (.twPointer manyBytes) = false := by decide

/-- The command table gives no bits, so no word spells a command. -/
theorem test_no_word_spells : decodeTableWord 32 0 = none ∧ State.reset.withFetchWord 32 0 = State.reset := ⟨rfl, rfl⟩

/-! ### Clocks, queue and registers (chapters 00 and 01) -/

/-- For Obligations.StepRunsFrontCommand. -/
theorem witness_StepRunsFrontCommand :
    let s := { State.reset with pending := [.entropyFail true, .enclaveReset] }
    s.pending = .entropyFail true :: [.enclaveReset] ∧
    okNext (step s) (fun t => t.enclave.entFail && decide (t.pending = [.enclaveReset])) = true := by decide

/-- An idle step counts a BUSCLK edge, nothing in Off or without any clock, and an X32 edge while BUSCLK stands still.
For Obligations.EmptyQueueTicks. -/
theorem witness_EmptyQueueTicks :
    let s := State.reset
    let off := updPower (fun p => { p with hub := .off }) s
    let dead := { s with clk := { s.clk with busOn := false, x32On := false } }
    let calm := { s with clk := { s.clk with busOn := false, source := .vane, x32On := true } }
    s.pending = [] ∧ okNext (step s) (fun t => t.clk.bus == 1) = true ∧
    okNext (step off) (fun t => t.clk.bus == 0) = true ∧ okNext (step dead) (fun t => decide (t.clk = dead.clk)) = true ∧
    okNext (step calm) (fun t => t.clk.vane == 2929 && t.clk.bus == 0) = true := by decide +kernel

/-- For Obligations.SixteenX32Edges. -/
theorem witness_SixteenX32Edges : State.reset.clk.acc < 16 ∧ (Nat.repeat vaneCount 16 State.reset.clk).vane = 46875 ∧
    (vaneCount { State.reset.clk with acc := 5 }).vane = 2930 ∧ (vaneCount { State.reset.clk with acc := 4 }).vane = 2929 := by
  decide

/-- For Obligations.StepKeepsSound. -/
theorem witness_StepKeepsSound : Sound State.reset := by
  refine ⟨⟨?_, ?_⟩, ⟨?_, ?_, ?_⟩⟩ <;> decide

/-- A read of STAMPL takes the snapshot of STAMPH of its accessor only; the low write commits the staged alarm word.
For Obligations.WideValueAccesses. -/
theorem witness_WideValueAccesses :
    let s := hubAt (7 * 2 ^ 32 + 5)
    let w := s.setReg (.vn .ALARMH) (holdU .a0) 9
    rd .a0 (.pw .STAMPL) s = true ∧ sane s = true ∧
    okNext (exec (.wideValueRead .a0 .stamp) s) (fun t => decide (lastAnswer .a0 t = .data 5) &&
      t.reg (.pw .STAMPH) (accU .a0) == 7 && t.reg (.pw .STAMPH) (accU .a1) == 0) = true ∧
    sane w = true ∧ wr .a0 (.vn .ALARML) 4 w = true ∧
    okNext (exec (.wideValueWrite .a0 .alarm 4) w) (fun t => t.reg (.vn .ALARML) == 4 && t.reg (.vn .ALARMH) == 9) = true := by
  decide

/-- For Obligations.WideValueAccesses. -/
theorem witness_PositionWrite :
    let s := updSlot 3 (fun x => { x with valid := false, doubt := true, corr := 5 }) (State.reset.setReg (.ds .SEL) (accU .a0) 3)
    wr .a0 (.ds .POSL) 77 s = true ∧ selSlot .a0 s = 3 ∧
    okNext (exec (.positionWrite .a0 77) s) (fun t => (t.slots[(3 : Fin 32)]).pos == 77 && (t.slots[(3 : Fin 32)]).valid &&
      !(t.slots[(3 : Fin 32)]).doubt && (t.slots[(3 : Fin 32)]).corr == 0) = true := by decide

/-- A select value inside the range is taken; one outside is ignored, at both ends of the range.
For Obligations.SelectWrites. -/
theorem witness_SelectWrites :
    let s := State.reset
    sane s = true ∧ wr .a0 (.ln .SEL) 33 s = true ∧ wr .host (.db .ASEL) 0 s = true ∧
    okNext (exec (.selectWrite .a0 .lanes 33) s) (fun t => t.reg (.ln .SEL) (accU .a0) == 33) = true ∧
    okNext (exec (.selectWrite .a0 .lanes 34) s) (fun t => t.reg (.ln .SEL) (accU .a0) == 0) = true ∧
    okNext (exec (.selectWrite .host (.actuators 1) 31) s) (fun t => t.reg (.db .ASEL) (6 + accU .host) == 31) = true ∧
    okNext (exec (.selectWrite .host (.actuators 1) 32) s)
      (fun t => t.reg (.db .ASEL) (6 + accU .host) == State.reset.reg (.db .ASEL) (6 + accU .host)) = true := by decide

/-- A write that reaches, one with no register at its word, one the Vane may not make, one that stalls in Lull.
For Obligations.RegisterWritesAndStalls. -/
theorem witness_RegisterWrites :
    let s := State.reset
    let lull := { s with clk := { s.clk with busOn := false } }
    idleWait s = true ∧ regionOf 0x40010000 4 = .registers ∧ sees .a0 .registers s = true ∧
    (match regAt 0x40010000 with
      | some (some x, _) => wr .a0 x.reg 5 s && decide (gate .vane x.reg true s = .busError) &&
          decide (gate .a0 x.reg true lull = .stall)
      | _ => false) = true ∧
    okNext (exec (.registerWrite .a0 0x40010000 4 5) s) (didIt .a0) = true ∧
    okNext (exec (.registerWrite .a0 0x40010000 2 5) s) (fun t => decide (lastAnswer .a0 t = .busError)) = true ∧
    okNext (exec (.registerWrite .vane 0x40010000 4 5) s) (fun t => decide (lastAnswer .vane t = .busError)) = true ∧
    okNext (exec (.registerWrite .a0 0x40010000 4 5) lull) (fun t => (t.acc[accIx .a0]).stalled.isSome) = true := by decide

/-- The stalled write completes once BUSCLK runs.
For Obligations.RegisterWritesAndStalls. -/
theorem witness_StalledAccesses :
    let s := State.reset.stall .a0 { addr := 0x40010000, size := 4, write := some 5 }
    (s.acc[accIx .a0]).stalled = some { addr := 0x40010000, size := 4, write := some 5 } ∧
    (match regAt 0x40010000 with
      | some (some x, _) => wr .a0 x.reg 5 s
      | _ => false) = true ∧
    okNext (exec (.stalledAccessComplete .a0) s) (fun t => (t.acc[accIx .a0]).stalled.isNone && didIt .a0 t) = true := by decide

/-- A read of a counter that a read clears, by A0 and by the debug port.
For Obligations.ReadClearAccesses. -/
theorem witness_ReadClear :
    let s := updEnc (fun e => { e with dbgOpen := true }) (State.reset.setReg (.rk .LATE) 0 3)
    let a : Nat := regAddr (.rk .LATE) 0 0
    sane s = true ∧ regionOf a 4 = .registers ∧ sees .a0 .registers s = true ∧ sees .debug .registers s = true ∧
    (match regAt a with
      | some (some x, _) => decide (counterUnit .a0 x s = some 0) && rd .a0 x.reg s
      | _ => false) = true ∧
    okNext (exec (.readClearAccess .a0 (BitVec.ofNat 32 a) 4) s) (fun t => decide (lastAnswer .a0 t = .data 3) && t.reg (.rk .LATE) == 0) = true ∧
    okNext (exec (.readClearAccess .debug (BitVec.ofNat 32 a) 4) s) (fun t => decide (lastAnswer .debug t = .data 3) && t.reg (.rk .LATE) == 3) = true := by
  decide

/-- For Obligations.StampHandoverAndEpoch. -/
theorem witness_StampHandover :
    let h := updMerger (fun m => { m with restartDue := false }) (hubAt 5)
    let s := { h with clk := { h.clk with source := .vane, vane := 0x200000007, handoverDue := true } }
    s.clk.source = .vane ∧ s.clk.busOn = true ∧ s.clk.handoverDue = true ∧ stHi s.now ≠ s.merger.highDone ∧
    okNext (exec .stampHandover s) (fun t => t.clk.bus == 0x200000007 && t.now == s.now && !t.clk.handoverDue &&
      decide (t.merger.epochDue = some s.now)) = true ∧
    idleWait s = true := by decide

/-- For Obligations.StampHandoverAndEpoch. -/
theorem witness_EpochBarrier :
    let s := updMerger (fun m => { m with restartDue := false }) (hubAt (3 * 2 ^ 32 + 1))
    let w := updMerger (fun m => { m with barrier := some 0x300000000, restartDue := false }) (hubAt (3 * 2 ^ 32 + 1000000))
    stHi s.now ≠ s.merger.highDone ∧ s.merger.barrier = none ∧
    okNext (exec .stampHighChange s) (fun t => decide (t.merger.barrier = some 0x300000000)) = true ∧
    sane w = true ∧ mergerWrites w = true ∧ frontsPast w 0x300000000 = true ∧ 3 ≤ queueFree w ∧ w.merger.head < queueWords ∧
    okNext (exec .epochWrite w) (fun t => t.merger.highDone == 3 && t.merger.head == 3 && queueWord t 2 == 3) = true := by decide

/-! ### Lanes and calibration (chapters 02 and 03) -/

/-- Lane 0 enabled, with one entry of two samples of one conversion each. -/
def laneHub (n : Nat) : State := (hubAt n).setReg (.ln .ENABLE) 0 1

/-- The same lane in a phase. -/
def laneIn (n : Nat) (p : LanePhase) : State :=
  updLane 0 (fun l => { l with phase := p, wordsLeft := 2 }) (laneHub n)

/-- For Obligations.LanesStartAndStop. -/
theorem witness_LaneEnable :
    let s := hubAt 9
    sane s = true ∧ wr .a0 (.ln .ENABLE) 0x8001 s = true ∧ s.cal.phase = .idle ∧
    (∀ k : Fin 16, laneOn s k = false ∧ (s.lanes[k]).parked = false ∧ (s.lanes[k]).phase = .off ∧ (s.lanes[k]).commit = false ∧
      (s.phys[(s.lanes[k]).serving]).cond = .inService k) ∧
    okNext (exec (.laneEnable .a0 0x8001) s) (fun t => t.reg (.ln .ENABLE) == 0x8001 &&
      decide ((t.lanes[(15 : Fin 16)]).phase = .settling) && (t.lanes[(15 : Fin 16)]).visitAt == 9 &&
      decide ((t.lanes[(14 : Fin 16)]).phase = .off)) = true := by decide

/-- For Obligations.LanesStartAndStop. -/
theorem witness_LaneStop :
    let s := updLane 0 (fun l => { l with sum := 7, count := 1 }) (laneIn 9 .converting)
    sane s = true ∧ wr .a0 (.ln .ENABLE) 0 s = true ∧ laneOn s 0 = true ∧
    okNext (exec (.laneStop .a0 1) s) (fun t => t.reg (.ln .ENABLE) == 0 && decide ((t.lanes[(0 : Fin 16)]).phase = .off) &&
      (t.lanes[(0 : Fin 16)]).sum == 0 && (t.lanes[(0 : Fin 16)]).count == 0) = true := by decide

/-- LN_CMD of the last lane and of the first select value past the lanes.
For Obligations.LaneCommands. -/
theorem witness_LaneCommands :
    let s := (laneIn 9 .converting).setReg (.ln .SEL) (accU .a0) 15
    let u := (laneIn 9 .converting).setReg (.ln .SEL) (accU .a0) 16
    let r := laneIn 9 .converting
    wr .a0 (.ln .CMD) 1 s = true ∧ wr .a0 (.ln .CMD) 2 r = true ∧ wr .a0 (.ln .CMD) 4 u = true ∧ selOf (.ln .SEL) .a0 s = 15 ∧
    selOf (.ln .SEL) .a0 u = 16 ∧ selOf (.ln .SEL) .a0 r = 0 ∧
    okNext (exec (.laneCommit .a0) s) (fun t => (t.lanes[(15 : Fin 16)]).commit && didIt .a0 t) = true ∧
    okNext (exec (.laneTestnow .a0) s) (fun t => (t.phys[(15 : Fin 18)]).testDue) = true ∧
    okNext (exec (.laneRestart .a0) r) (fun t => decide ((t.lanes[(0 : Fin 16)]).phase = .settling)) = true ∧
    okNext (exec (.laneRestart .a0) (updLane 0 (fun l => { l with phase := .connecting }) r))
      (fun t => (t.lanes[(0 : Fin 16)]).heldRestart) = true ∧
    okNext (exec (.laneTestnow .a0) u) (fun t => didIt .a0 t && !(t.phys[(15 : Fin 18)]).testDue) = true := by decide

/-- A trigger starts a scan cycle of an idle lane, is missed by a busy one; a period of 0 starts the next cycle at once.
For Obligations.ScanCyclesAndConversions. -/
theorem witness_ScanCycles :
    let s := laneIn 100 .idle
    laneOn s 0 = true ∧ testing s (s.lanes[(0 : Fin 16)]).serving = false ∧ laneTriggered s 0 = false ∧
    (s.lanes[(0 : Fin 16)]).list.period = 0 ∧
    okNext (exec (.scanCycleStart 0 false) s) (fun t => decide ((t.lanes[(0 : Fin 16)]).phase = .settling)) = true ∧
    okNext (exec (.scanCycleStart 0 true) s) (fun t => (t.lanes[(0 : Fin 16)]).visitAt == 100) = true ∧
    okNext (exec (.scanCycleStart 0 true) (laneIn 100 .settling)) (fun t => t.rbit (.ln .STAT) 0 6) = true ∧
    okNext (exec (.settleEnd 0) (laneIn 48 .settling)) (fun t => decide ((t.lanes[(0 : Fin 16)]).phase = .converting)) = true ∧
    okNext (exec (.settleEnd 0) (laneIn 47 .settling)) (fun t => decide ((t.lanes[(0 : Fin 16)]).phase = .settling)) = true := by
  decide

/-- One of several conversions of a sample; and the last one, whose value is the rounded mean of 24 bits.
For Obligations.ScanCyclesAndConversions. -/
theorem witness_Conversions :
    let many := laneIn 100 .converting
    let s := updLane 0 (fun l => { l with list := { l.list with entries := Vector.replicate 8 0x80 } }) many
    (s.lanes[(0 : Fin 16)]).cal ≠ .hold ∧ (s.phys[(s.lanes[(0 : Fin 16)]).serving]).since = none ∧
    (s.lanes[(0 : Fin 16)]).count + 1 = scDec (curEntry s.lanes[(0 : Fin 16)]) ∧ s.rfld (.ln .CTRL) 0 31 30 = 0 ∧
    okNext (exec (.conversionComplete 0 0x7FFF true false) s) (fun t => t.reg (.ln .LAST) 0 == 0x7FFF0040 &&
      decide ((t.lanes[(0 : Fin 16)]).lastStamp = some 60) && (t.lanes[(0 : Fin 16)]).wordsLeft == 1) = true ∧
    okNext (exec (.conversionComplete 0 0x8001 true true) s) (fun t => t.reg (.ln .LAST) 0 == 0x80010040 && t.rbit (.ln .STAT) 0 1) = true ∧
    (many.lanes[(0 : Fin 16)]).count + 1 < scDec (curEntry many.lanes[(0 : Fin 16)]) ∧
    okNext (exec (.conversionComplete 0 5 true false) many) (fun t => (t.lanes[(0 : Fin 16)]).sum == 5 && (t.lanes[(0 : Fin 16)]).count == 1) = true := by
  decide

/-- The second inconsistent conversion within eleven fences the lane and takes a spare.
For Obligations.LaneSubstitutions. -/
theorem witness_LaneFault :
    let s := updPhys 0 (fun p => { p with since := some 10 }) (laneIn 5000 .converting)
    (s.lanes[(0 : Fin 16)]).cal = .none ∧ (s.phys[(0 : Fin 18)]).since = some 10 ∧ (s.phys[(0 : Fin 18)]).cond = .inService 0 ∧
    s.cal.phase = .idle ∧ freeLanes s = [16, 17] ∧
    okNext (exec (.conversionComplete 0 0 false false) s) (fun t => decide ((t.phys[(0 : Fin 18)]).cond = .fenced) &&
      (t.phys[(0 : Fin 18)]).cause == 1 && decide ((t.phys[(16 : Fin 18)]).cond = .inService 0) &&
      decide ((t.lanes[(0 : Fin 16)]).serving = 16) && decide ((t.lanes[(0 : Fin 16)]).phase = .connecting)) = true := by decide

/-- For Obligations.LaneSubstitutions. -/
theorem witness_SubstitutionEnds :
    let x : LaneSubst := { fenced := 0, spare := 16, cause := 1, fromLoan := false, chosen := 77, gapStart := none, idle := false, firstWord := none, loanCut := false }
    let s := updLane 0 (fun l => { l with subst := some x, serving := 16 }) (laneIn 5000 .settling)
    let w : LaneWord := { word := 0x1200, stamp := 90, phys := 0, step := 48, clear := true, last := false }
    let v := updLane 0 (fun l => { l with withheld := [w] }) (laneIn 5000 .converting)
    sane s = true ∧ (s.lanes[(0 : Fin 16)]).phase ≠ .connecting ∧ x.loanCut = false ∧
    okNext (exec (.laneSubstComplete 0) s) (fun t => (t.lanes[(0 : Fin 16)]).subst.isNone && t.rbit (.ln .FAULTS) 0 0 &&
      t.rbit (.ca .RUN) 0 0 && t.merger.arriving.any (fun r => r.typ == tLaneSubst && r.stamp == 77)) = true ∧
    (v.lanes[(0 : Fin 16)]).withheld = [w] ∧ v.rfld (.ln .CTRL) 0 31 30 = 0 ∧
    okNext (exec (.withheldWordRelease 0) v) (fun t => t.reg (.ln .LAST) 0 == 0x1200 && (t.lanes[(0 : Fin 16)]).withheld.isEmpty) = true := by
  decide

/-- The first reading, the run request, the choice of a lane with and without a loan, and the start of the run.
For Obligations.Calibrations. -/
theorem witness_CalibrationStarts :
    let s := hubAt 100
    let v := ((laneIn 100 .converting).setReg (.ca .TEMP) 0 0x80000100).setReg (.ca .RUN) 0 1
    let solo := (v.setReg (.ln .ENABLE) 0 0)
    let w := updCal (fun c => { c with phase := .waiting, lane := 0, mode := 3, phys := 0, t0 := 0 })
      (((hubAt 2304).setReg (.ca .TEMP) 0 0x80000100).setReg (.ca .RUN) 0 1)
    sane s = true ∧ tempValid s = false ∧ wr .a0 (.ca .RUN) 3 s = true ∧
    okNext (exec (.temperatureReading 0x1234) s) (fun t => t.reg (.ca .TEMP) == 0x80001234 && t.cal.firstValid == 100) = true ∧
    okNext (exec (.calRunRequest .a0 3) s) (fun t => t.reg (.ca .RUN) == 3) = true ∧
    tempValid v = true ∧ calCandidates v = [0] ∧ calCandidates solo = [0] ∧ freeLanes v = [16, 17] ∧
    okNext (exec .calLaneSelect v) (fun t => decide (t.cal.phase = .waiting) && t.cal.mode == 2 && decide (t.cal.spare = some 16)) = true ∧
    okNext (exec .calLaneSelect solo) (fun t => t.cal.mode == 3 && t.cal.spare.isNone) = true ∧
    us 24 ≤ sinceTicks w.cal.t0 w.now ∧ atPoint w.lanes[w.cal.lane] = true ∧ testing w w.cal.phys = false ∧
    okNext (exec .calRunStart w) (fun t => decide (t.cal.phase = .running) && t.reg (.ca .RUN) == 0 && t.cal.temp == 0x80000100) = true := by
  decide

def calRunning (n : Nat) : State :=
  updCal (fun c => { c with phase := .running, lane := 2, mode := 3, phys := 2, t0 := 0, temp := 0x80000100 }) (hubAt n)

/-- A run that passes at the edge of the verification limit, and one that fails.
For Obligations.Calibrations. -/
theorem witness_CalibrationEnds :
    let s := calRunning (us 180)
    let codes : List Int := List.replicate 18 63
    sane s = true ∧ codes.length = 18 ∧ us 180 ≤ sinceTicks s.cal.t0 s.now ∧ (s.phys[s.cal.phys]).cond = .inService 2 ∧
    okNext (exec (.calRunEnd codes (expectRef + 4194) true) s) (fun t => t.reg (.ca .LTEMP) 2 == 0x40000100 && decide (t.cal.phase = .idle)) = true ∧
    okNext (exec (.calRunEnd codes 0 false) s) (fun t => t.reg (.ca .LTEMP) 2 == 0xC0000100 && decide ((t.phys[(2 : Fin 18)]).cond = .fenced) &&
      (t.phys[(2 : Fin 18)]).cause == 3) = true := by decide

/-- Folding at the reference temperature keeps all codes inside 0 to 63.
For Obligations.ScanCyclesAndConversions. -/
theorem witness_Interpolation : (∀ j ∈ setsAt 100, (0 : Int) ≤ ((fun _ => 32 : Nat → Nat) j : Int) + 31 ∧
    (((fun _ => 32 : Nat → Nat) j : Nat) : Int) + 31 ≤ 63) ∧ interp (fun _ => 63) 100 = 63 := by decide

/-- For Obligations.HoldsLoansAndReferenceTests. -/
theorem witness_HoldsAndLoans :
    let loan := updPhys 16 (fun p => { p with cond := .loan 0 }) (updLane 0 (fun l => { l with cal := .loan 0, serving := 16, calEnd := some 0 }) (laneIn 60000 .idle))
    let hold := updLane 0 (fun l => { l with cal := .hold, calEnd := some 0, wordsLeft := 2 }) (laneIn 60000 .converting)
    (loan.lanes[(0 : Fin 16)]).cal = .loan 0 ∧ calSettled loan 0 = true ∧ atPoint loan.lanes[(0 : Fin 16)] = true ∧
    okNext (exec (.loanEnd 0) loan) (fun t => decide ((t.lanes[(0 : Fin 16)]).serving = 0) && decide ((t.phys[(16 : Fin 18)]).cond = .free)) = true ∧
    sane hold = true ∧ hold.rfld (.ln .CTRL) 0 31 30 = 0 ∧ calSettled hold 0 = true ∧
    okNext (exec (.staleWordDue 0) hold) (fun t => (t.lanes[(0 : Fin 16)]).wordsLeft == 1 && decide ((t.lanes[(0 : Fin 16)]).lastStamp = some 59960)) = true ∧
    okNext (exec (.holdResume 0) hold) (fun t => decide ((t.lanes[(0 : Fin 16)]).cal = .none) &&
      t.merger.arriving.any (fun r => r.typ == tStaleEnd)) = true := by decide

/-- Writes of trim sets, the DAC code and the trims: by a secure accessor, by another, and during the lane's run.
For Obligations.HoldsLoansAndReferenceTests. -/
theorem witness_TrimWrites :
    let s := hubAt 100
    let run := calRunning 100
    sane s = true ∧ wr .a0 (.ca .SETS) 0xFFFFFFFF s = true ∧ wr .a0 (.ca .DACVAL) 0xFFFFF s = true ∧
    wr .a0 (.ca .TRIMREF) 0x1FF s = true ∧ secure .a0 s = true ∧ secure .a1 s = false ∧ run.cal.lane.val = 50 / 25 ∧
    okNext (exec (.calSetsWrite .a0 399 0xFFFFFFFF) s) (fun t => t.reg (.ca .SETS) 399 == 0x3F3F) = true ∧
    okNext (exec (.calSetsWrite .a0 0 0xFFFFFFFF) s) (fun t => t.reg (.ca .SETS) 0 == 0x3F3F3F3F) = true ∧
    okNext (exec (.calSetsWrite .a0 50 1) run) (fun t => t.rbit (.ca .STAT) 0 4 && t.reg (.ca .SETS) 50 == run.reg (.ca .SETS) 50) = true ∧
    okNext (exec (.dacCodeWrite .a0 0xFFFFF) s) (fun t => t.reg (.ca .DACVAL) == 0xFFF && t.cal.dac == 0xFFF) = true ∧
    okNext (exec (.trimWrite .a0 .reference 0x1FF) s) (fun t => t.reg (.ca .TRIMREF) == 0xFF) = true ∧
    okNext (exec (.trimWrite .a1 .reference 0x1FF) s) (fun t => t.reg (.ca .TRIMREF) == s.reg (.ca .TRIMREF)) = true := by decide

/-- A reference test at the limit passes, one count further is made again, and the second failure fences.
For Obligations.HoldsLoansAndReferenceTests. -/
theorem witness_ReferenceTests :
    let s := updPhys 17 (fun p => { p with testDue := true }) (hubAt 100)
    let t0 : RefTest := { again := false, gain := none }
    let u := updPhys 17 (fun p => { p with test := some t0 }) s
    let v := updPhys 17 (fun p => { p with test := some { t0 with again := true } }) s
    (s.phys[(17 : Fin 18)]).cond = .free ∧ suspended s 17 = false ∧ (u.phys[(17 : Fin 18)]).since = none ∧
    okNext (exec (.laneTimerTick 17) (hubAt 100)) (fun t => (t.phys[(17 : Fin 18)]).testDue) = true ∧
    okNext (exec (.referenceTestStart 17) s) (fun t => decide ((t.phys[(17 : Fin 18)]).test = some t0)) = true ∧
    okNext (exec (.referenceTestDone 17 (BitVec.ofInt 24 (expectRef + 41943)) true) u) (fun t => (t.phys[(17 : Fin 18)]).testPass) = true ∧
    okNext (exec (.referenceTestDone 17 (BitVec.ofInt 24 (expectRef + 41944)) true) u)
      (fun t => decide ((t.phys[(17 : Fin 18)]).test = some { t0 with again := true })) = true ∧
    okNext (exec (.referenceTestDone 17 (BitVec.ofInt 24 (expectRef - 41944)) true) v)
      (fun t => decide ((t.phys[(17 : Fin 18)]).cond = .fenced) && (t.phys[(17 : Fin 18)]).cause == 2) = true := by decide

/-- For Obligations.HoldsLoansAndReferenceTests. -/
theorem witness_Retest :
    let s := updPhys 17 (fun p => { p with cond := .fenced, cause := 2 }) ((hubAt 100).setReg (.ln .SEL) (accU .a0) 33)
    let u := updPhys 17 (fun p => { p with cond := .retesting }) (hubAt 100)
    let good : List (BitVec 24) := (List.range 18).map (fun i => BitVec.ofInt 24 (retestExpect i))
    wr .a0 (.ln .PCMD) 1 s = true ∧ selPhys .a0 s = 17 ∧ good.length = 18 ∧
    okNext (exec (.laneRetest .a0) s) (fun t => decide ((t.phys[(17 : Fin 18)]).cond = .retesting)) = true ∧
    okNext (exec (.laneRetestDone 17 good true) u) (fun t => decide ((t.phys[(17 : Fin 18)]).cond = .free)) = true ∧
    okNext (exec (.laneRetestDone 17 good false) u) (fun t => decide ((t.phys[(17 : Fin 18)]).cond = .fenced) && (t.phys[(17 : Fin 18)]).cause == 4) = true := by
  decide

/-! ### Carriages (chapter 04) -/

/-- A micro-program entry (R122). -/
def micro (op src dst base len cond imm : Nat) : BitVec 64 :=
  BitVec.ofNat 64 (op * 2 ^ 58 + src * 2 ^ 55 + dst * 2 ^ 52 + base * 2 ^ 43 + len * 2 ^ 36 + cond * 2 ^ 32 + imm)

/-- Position 0 serves logical carriage 0 in train 0, which runs, with one entry and a value in X. -/
def carHub (m : BitVec 64) (x : Word) : State :=
  updTrain 0 (fun t => { t with state := .running, members := [0] })
    (updCar 0 (fun c => { c with cond := .serving, prog := [m], x := x, sx := some 48 }) (hubAt 5000))

/-- A store word of position 0. -/
def store0 (i : Nat) (w : Word) (s : State) : State := s.writeWord (carAddr 0 i) w

/-- `Executes` as a test. -/
def runs (op : Nat) (s : State) : Bool :=
  carRuns s 0 && decide ((s.coach.cars[(0 : Fin 68)]).stalled = none) && (present s 0).op == op &&
  condTrue s.coach.cars[(0 : Fin 68)] (present s 0) && !(readsBad s 0 (present s 0))

theorem runs_executes (op : Nat) (s : State) (h : runs op s = true) : Executes op 0 s := by
  simp only [runs, Bool.and_eq_true, decide_eq_true_eq, beq_iff_eq, Bool.not_eq_true'] at h
  exact ⟨⟨h.1.1.1.1, h.1.1.1.2, h.1.1.2⟩, h.1.2, h.2⟩

/-- Position 0 after a command. -/
def car0 (t : State) : Carriage := t.coach.cars[(0 : Fin 68)]

/-- For Obligations.CarriageArithmetic. -/
theorem test_nop_jmp_clr :
    let j := carHub (micro 0x12 0 0 0 0 0 63) 5
    let c := updCar 0 (fun c => { c with acc := 9, flags := 0xF }) (carHub (micro 0x13 0 0 0 0 0 0x80000000) 5)
    runs 0x00 (carHub (micro 0 0 0 0 0 0 0) 5) = true ∧ runs 0x12 j = true ∧ runs 0x13 c = true ∧
    okNext (exec (.nop 0 .clean) (carHub (micro 0 0 0 0 0 0 0) 5)) (fun t => (car0 t).pc == 1) = true ∧
    okNext (exec (.jmp 0 .clean) j) (fun t => (car0 t).pc == 63) = true ∧
    okNext (exec (.clr 0 .clean) c) (fun t => (car0 t).acc == 0 && (car0 t).flags == 0 && (car0 t).x == 5) = true := by decide

/-- MOVE of X into ACC; SCALE of -3 by 2 with SH 1; both with DST X (2) or ACC (3).
For Obligations.CarriageArithmetic. -/
theorem test_move_scale :
    let m := carHub (micro 0x02 4 3 0 0 0 0) 0xFFFFFFFD
    let k := carHub (micro 0x03 0 2 0 0 0 0x01000002) 0xFFFFFFFD
    let big := carHub (micro 0x03 0 2 0 0 0 0x00000002) 0x7FFFFFFF
    runs 0x02 m = true ∧ runs 0x03 k = true ∧ (present m 0).src = 4 ∧
    okNext (exec (.move 0 .clean) m) (fun t => (car0 t).acc == 0xFFFFFFFFFFFFFFFD) = true ∧
    okNext (exec (.scale 0 .clean) k) (fun t => (car0 t).x == 0xFFFFFFFD && (car0 t).pc == 1) = true ∧
    okNext (exec (.scale 0 .clean) big) (fun t => (car0 t).x == 0x7FFFFFFF && !(car0 t).sat) = true := by decide

/-- RECT of the most negative number saturates; SQ adds to ACC; SQRT is the floor.
For Obligations.CarriageArithmetic. -/
theorem test_rect_sq_sqrt :
    let r := carHub (micro 0x07 0 2 0 0 0 0) 0x80000000
    let q := updCar 0 (fun c => { c with acc := 1 }) (carHub (micro 0x0E 0 2 0 0 0 0) 0xFFFFFFFF)
    let v := updCar 0 (fun c => { c with acc := 15 }) (carHub (micro 0x0F 0 2 0 0 0 0) 0)
    runs 0x07 r = true ∧ runs 0x0E q = true ∧ runs 0x0F v = true ∧
    okNext (exec (.rect 0 .clean) r) (fun t => (car0 t).x == 0x7FFFFFFF) = true ∧
    okNext (exec (.sq 0 .clean) q) (fun t => (car0 t).acc == 2) = true ∧
    okNext (exec (.sqrt 0 .clean) v) (fun t => (car0 t).x == 3) = true := by decide

/-- A port with a stamp and its data word, one with a data word alone, one with a mark in front, and an empty one.
For Obligations.CarriageStreams. -/
theorem test_wait_move_port :
    let w := carHub (micro 0x01 0 2 0 0 0 0) 5
    let two : List PortWord := [{ side := .stamp, word := 960 }, { side := .data true 0, word := 77 }]
    let one : List PortWord := [{ side := .mark, word := 0 }, { side := .data false 2, word := 78 }]
    let s2 := updCar 0 (fun c => { c with fifo := c.fifo.set 0 two }) w
    let s1 := updCar 0 (fun c => { c with fifo := c.fifo.set 0 one, inStamp := c.inStamp.set 0 960 }) w
    let m := updCar 0 (fun c => { c with fifo := c.fifo.set 0 two }) (carHub (micro 0x02 0 3 0 0 0 0) 5)
    runs 0x01 w = true ∧ runs 0x02 m = true ∧ (present w 0).src ≤ 3 ∧ (present w 0).dst = 2 ∧
    takeData 0 (dropMarks two) = some (77, 960, true, []) ∧ takeData 960 (dropMarks one) = some (78, 1056, false, []) ∧
    okNext (exec (.wait 0 .clean) s2) (fun t => (car0 t).x == 77 && decide ((car0 t).sx = some 960) && (car0 t).owed[0]) = true ∧
    okNext (exec (.wait 0 .clean) s1) (fun t => (car0 t).x == 78 && decide ((car0 t).sx = some 1056)) = true ∧
    okNext (exec (.move 0 .clean) m) (fun t => (car0 t).acc == 77) = true ∧
    okNext (exec (.wait 0 .clean) w) (fun t => (car0 t).pc == 0 && (car0 t).x == 5) = true := by decide

/-- What an emission sends is what the receiver takes, near (48 to 3024 ticks) and far.
For Obligations.CarriageStreams. -/
theorem test_words_for : wordsFor (some 0) 48 7 false = [{ side := .data false 1, word := 7 }] ∧
    wordsFor (some 0) 3024 7 true = [{ side := .data true 63, word := 7 }] ∧
    wordsFor (some 0) 3072 7 true = [{ side := .stamp, word := 3072 }, { side := .data true 0, word := 7 }] := by decide

/-- A stalled emission goes when there is room, and a word arrives at its port and at its outlet.
For Obligations.CarriageStreams. -/
theorem test_couplings :
    let s := updCar 0 (fun c => { c with stalled := some { dst := 0, value := 3 } }) (carHub (micro 0 0 0 0 0 0 0) 5)
    let w : PortWord := { side := .mark, word := 0 }
    let f := updCoach (fun c => { c with flights := [{ dst := .port 0 2, word := w, sender := 1 }] }) (carHub (micro 0 0 0 0 0 0 0) 5)
    let o := updCoach (fun c => { c with flights := [{ dst := .outlet 0 3, word := w, sender := 1 }] }) (carHub (micro 0 0 0 0 0 0 0) 5)
    roomFor s (emission s 0 0 3) = true ∧
    okNext (exec (.emitAfterStall 0) s) (fun t => (car0 t).stalled.isNone) = true ∧
    okNext (exec (.couplingWordArrive (.port 0 2) false) f) (fun t => decide ((car0 t).fifo[2] = [w]) && (car0 t).owed[1] &&
      t.coach.flights.isEmpty) = true ∧
    okNext (exec (.couplingWordArrive (.outlet 0 3) false) o) (fun t => decide ((t.coach.trains[(0 : Fin 16)]).outq[3] = [w])) = true := by
  decide

/-- FIR of two taps 2 and 3 over X = 5 and the line value 7; the last word of a decimation by 2 computes, the first does not.
For Obligations.CarriageFilters. -/
theorem test_fir :
    let s := store0 0 2 (store0 1 3 (store0 2 7 (carHub (micro 0x04 0 2 0 2 0 1) 5)))
    let d := carHub (micro 0x04 0 2 0 2 0 2) 5
    runs 0x04 s = true ∧ (present s 0).len = 2 ∧ (carWord s 0 4).toNat < 2 ∧ (present s 0).base + 2 * 2 + 1 ≤ 512 ∧
    okNext (exec (.fir 0 .clean) s) (fun t => (car0 t).x == 31 && carWord t 0 3 == 5 && carWord t 0 4 == 1) = true ∧
    okNext (exec (.fir 0 .clean) d) (fun t => (car0 t).x == 5 && (hiddenAt (car0 t) 0).phase == 1) = true := by decide

/-- THR above and below; CNT of a rise; PEAK at the end of its length; LUT halfway between two points.
For Obligations.CarriageTables. -/
theorem test_thr_cnt_peak_lut :
    let thr := store0 0 4 (store0 1 2 (carHub (micro 0x09 0 0 0 0 0 1) 5))
    let cnt := store0 0 9 (updCar 0 (fun c => { c with flags := 1 }) (carHub (micro 0x0A 0 2 0 0 0 0) 5))
    let pk := store0 0 3 (store0 2 1 (carHub (micro 0x0B 0 2 0 2 0 0) 5))
    let lut := store0 0 10 (store0 1 30 (carHub (micro 0x0C 0 2 0 1 0 0) 0))
    runs 0x09 thr = true ∧ runs 0x0A cnt = true ∧ runs 0x0B pk = true ∧ runs 0x0C lut = true ∧
    okNext (exec (.thr 0 .clean) thr) (fun t => (car0 t).flags == 2) = true ∧
    okNext (exec (.thr 0 .clean) (store0 0 5 thr)) (fun t => (car0 t).flags == 0) = true ∧
    okNext (exec (.cnt 0 .clean) cnt) (fun t => carWord t 0 0 == 10 && (car0 t).x == 10) = true ∧
    okNext (exec (.peak 0 .clean) pk) (fun t => carWord t 0 0 == 5 && carWord t 0 1 == 1 && carWord t 0 2 == 0 && (car0 t).x == 5) = true ∧
    okNext (exec (.lut 0 .clean) lut) (fun t => (car0 t).x == 20) = true := by decide

/-- BIQ with b0 = 1, DLY by one place, EVT and REC.
For Obligations.CarriageFilters and Obligations.CarriageTables. -/
theorem test_biq_dly_evt_rec :
    let biq := store0 0 1 (carHub (micro 0x05 0 2 0 1 0 0) 5)
    let dly := store0 0 9 (carHub (micro 0x10 0 2 0 1 0 0) 5)
    let evt := carHub (micro 0x11 0 0 0 0 0 2) 5
    let rec_ := store0 0 0x30 (carHub (micro 0x0D 0 0 0 0 0 0) 5)
    runs 0x05 biq = true ∧ runs 0x10 dly = true ∧ runs 0x11 evt = true ∧ runs 0x0D rec_ = true ∧
    okNext (exec (.biq 0 .clean) biq) (fun t => (car0 t).x == 5 && carWord t 0 5 == 5) = true ∧
    okNext (exec (.dly 0 .clean) dly) (fun t => (car0 t).x == 9 && carWord t 0 0 == 5 && carWord t 0 1 == 0) = true ∧
    okNext (exec (.evt 0 .clean) evt) (fun t => t.router.inflight.any (fun q => q.producer == 2 && q.output == 2)) = true ∧
    okNext (exec (.recStep 0 .clean) rec_) (fun t => (car0 t).rs == 3) = true := by decide

/-- A false COND passes on; a program error and a residue error fence, and a spare takes the train.
For Obligations.CarriageChecks. -/
theorem test_carriage_checks :
    let skip := carHub (micro 0x07 0 2 0 0 8 0) 0xFFFFFFFF
    let sc := carHub (micro 0x03 0 2 0 0 0 1) 5
    let bad := carHub (micro 0x3F 0 0 0 0 0 0) 5
    (present skip 0).cond = 8 ∧ condTrue (car0 skip) (present skip 0) = false ∧ (present bad 0).op = 0x3F ∧
    chooseSpare sc 0 = some 64 ∧
    okNext (exec (.rect 0 .clean) skip) (fun t => (car0 t).x == 0xFFFFFFFF && (car0 t).pc == 1) = true ∧
    okNext (exec (.scale 0 .residue) sc) (fun t => decide ((car0 t).cond = .fenced) && (car0 t).cause == 1 &&
      decide (t.coach.serve[(0 : Fin 64)] = some 64) && decide ((t.coach.trains[(0 : Fin 16)]).state = .warming)) = true ∧
    okNext (exec (.scale 0 .programParity) sc) (fun t => (car0 t).cause == 3) = true ∧
    okNext (exec (.invalidOperation 0) bad) (fun t => (car0 t).cause == 3) = true := by decide +kernel

/-- For Obligations.TrainsStartAndStop. -/
theorem test_trains :
    let ready := updTrain 0 (fun t => { t with state := .ready, settle := 3 }) (carHub 0 5)
    let starting := updTrain 0 (fun t => { t with starting := true }) ready
    let run := carHub (micro 0x01 0 2 0 0 0 0) 5
    let drain := updTrain 0 (fun t => { t with state := .draining, drainAt := 0 }) { run with clk := { run.clk with bus := 9600 } }
    wr .a0 (.cw .TSTART) 1 ready = true ∧ wr .a0 (.cw .TSTOP) 1 run = true ∧ ready.coach.loader.hand = none ∧
    trainQuiet drain 0 = true ∧
    okNext (exec (.trainStart .a0 1) ready) (fun t => (t.coach.trains[(0 : Fin 16)]).starting) = true ∧
    okNext (exec (.trainStartComplete 0) starting) (fun t => decide ((t.coach.trains[(0 : Fin 16)]).state = .warming) &&
      (t.coach.trains[(0 : Fin 16)]).wleft == 3 && (car0 t).x == 0) = true ∧
    okNext (exec (.trainStop .a0 1) run) (fun t => decide ((t.coach.trains[(0 : Fin 16)]).state = .draining)) = true ∧
    okNext (exec (.trainDrained 0) drain) (fun t => decide ((t.coach.trains[(0 : Fin 16)]).state = .stopped)) = true ∧
    okNext (exec (.drainCut 0) drain) (fun t => decide ((t.coach.trains[(0 : Fin 16)]).state = .stopped)) = true := by decide +kernel


/-- CIC of one stage: integrator 3 + 5, comb against 2; a first word of a decimation by 2 only integrates. ENV takes half of
the step to a magnitude of 100.
For Obligations.CarriageFilters. -/
theorem test_cic_env :
    let cic := store0 0 3 (store0 1 2 (carHub (micro 0x06 0 2 0 0 0 0x11) 5))
    let held := store0 0 3 (store0 1 2 (carHub (micro 0x06 0 2 0 0 0 0x21) 5))
    let env := carHub (micro 0x08 0 2 0 0 0 0x8000) 0xFFFFFF9C
    runs 0x06 cic = true ∧ runs 0x06 held = true ∧ runs 0x08 env = true ∧
    okNext (exec (.cic 0 .clean) cic) (fun t => (car0 t).x == 6 && carWord t 0 0 == 8 && carWord t 0 1 == 8) = true ∧
    okNext (exec (.cic 0 .clean) held) (fun t => (car0 t).x == 5 && carWord t 0 0 == 8 && carWord t 0 1 == 2 && (hiddenAt (car0 t) 0).phase == 1) = true ∧
    okNext (exec (.env 0 .clean) env) (fun t => (car0 t).x == 50 && carWord t 0 0 == 50) = true := by decide
/-! ### Substitution, outlets and the loader (chapters 04 and 05) -/

/-- Train 0 in the substitution of logical carriage 0 by spare 64, with a cache that holds a program for it. -/
def substHub : State :=
  let x : TrainSubst := { parts := [{ logical := 0, fenced := 0, spare := 64, cause := 1, chosen := 77 }], starts := Vector.replicate 4 none, firsts := Vector.replicate 4 none, loaded := false, stopAt := none }
  updTrain 0 (fun t => { t with state := .warming, members := [0], settle := 2, subst := some x })
    (updCar 64 (fun c => { c with cond := .serving, logical := 0 })
      (updCoach (fun c => { c with serve := c.serve.set 0 (some 64), loader := { c.loader with cacheValid := true } }) (hubAt 5000)))

/-- For Obligations.SubstitutesSparesAndOutlets. -/
theorem witness_BistAndRetest :
    let bist := (hubAt 5000).setReg (.cw .CTRL) 0 1
    let fenced := updCar 67 (fun c => { c with cond := .fenced, cause := 1 }) (hubAt 5000)
    let testing := updCar 67 (fun c => { c with cond := .retesting }) (hubAt 5000)
    sane bist = true ∧ (bist.coach.cars[(67 : Fin 68)]).cond = .spare ∧ wr .a0 (.cw .PCMD) (at_ 1 31 ||| at_ 67 0) fenced = true ∧
    okNext (exec (.spareBistRound 3 false) bist) (fun t => decide ((t.coach.cars[(67 : Fin 68)]).cond = .fenced) &&
      (t.coach.cars[(67 : Fin 68)]).cause == 5 && t.rbit (.cw .STAT) 0 5) = true ∧
    okNext (exec (.carriageRetest .a0 67) fenced) (fun t => decide ((t.coach.cars[(67 : Fin 68)]).cond = .retesting)) = true ∧
    okNext (exec (.carriageRetestDone 67 true) testing) (fun t => decide ((t.coach.cars[(67 : Fin 68)]).cond = .spare)) = true ∧
    okNext (exec (.carriageRetestDone 67 false) testing) (fun t => (t.coach.cars[(67 : Fin 68)]).cause == 6) = true := by decide

/-- For Obligations.SubstitutesSparesAndOutlets. -/
theorem witness_DiagnosticWrite :
    let live := carHub 0 5
    let idle := hubAt 5000
    sane live = true ∧ live.power.dom[(2 : Fin 5)] = true ∧
    okNext (exec (.diagnosticWrite .a0 0 511 9) live) (fun t => t.rbit (.cw .STAT) 0 7 && carWord t 0 511 == 0) = true ∧
    okNext (exec (.diagnosticWrite .a1 0 511 9) idle) (fun t => carWord t 0 511 == 9 && didIt .a1 t) = true := by decide

/-- For Obligations.SubstitutesSparesAndOutlets. -/
theorem witness_SubstitutionLoads :
    let s := substHub
    sane s = true ∧ s.coach.serve[(0 : Fin 64)] = some 64 ∧ s.coach.loader.hand = none ∧
    ((s.coach.trains[(0 : Fin 16)]).subst.map (fun x => (x.parts.length, x.loaded, x.stopAt))) = some (1, false, none) := by decide

/-- A word with a stamp leaves the outlet as a MEASURE record, and counts one warm-up word.
For Obligations.SubstitutesSparesAndOutlets. -/
theorem witness_OutletRelease :
    let q : List PortWord := [{ side := .stamp, word := 4000 }, { side := .data false 0, word := 7 }]
    let s := updTrain 0 (fun t => { t with state := .warming, wleft := 1, outlets := t.outlets.set 0 0x80010000, outq := t.outq.set 0 q }) (carHub 0 5)
    (s.coach.trains[(0 : Fin 16)]).outlets[0].getLsbD 16 = true ∧ s.coach.loader.hand = none ∧
    takeData 0 (dropMarks q) = some (7, 4000, false, []) ∧
    okNext (exec (.outletWordRelease 0 0) s) (fun t => decide ((t.coach.trains[(0 : Fin 16)]).state = .running) &&
      t.merger.arriving.any (fun r => r.typ == tMeasure && r.stamp == 4000 && r.body.getD 1 0 == 7)) = true := by decide

def ldIn (p : LdPhase) (f : Loader → Loader) : State := updLoader (fun l => f { l with phase := p }) (hubAt 5000)

/-- For Obligations.LoaderCommands. -/
theorem witness_LoaderCommands :
    let idle := ldIn .idle id
    let busy := ldIn .loading id
    let checking := ldIn .checking (fun l => { l with locked := true, cmd := 1 })
    wr .a0 (.cw .LDCMD) 1 idle = true ∧ wr .a0 (.cw .LDCMD) 0x14 idle = true ∧ wr .a0 (.cw .LDCMD) 5 checking = true ∧
    sane idle = true ∧
    okNext (exec (.consistVerify .a0) idle) (fun t => decide (t.coach.loader.phase = .checking) && t.coach.loader.locked && t.coach.loader.cmd == 1) = true ∧
    okNext (exec (.applySlot .a0 1) idle) (fun t => t.coach.loader.source == 2 && !t.coach.loader.locked) = true ∧
    okNext (exec (.applyFullImage .a0) busy) (fun t => t.coach.loader.result == 10 && t.rbit (.cw .LDSTAT) 0 2) = true ∧
    okNext (exec (.applyShuntImage .a0 false) (ldIn .idle (fun l => { l with staged := true })))
      (fun t => t.coach.loader.result == 9 && !t.coach.loader.staged) = true ∧
    okNext (exec (.consistAbort .a0) checking) (fun t => t.coach.loader.result == 13 && decide (t.coach.loader.phase = .idle) && !t.coach.loader.locked) = true ∧
    okNext (exec (.consistAbort .a0) (ldIn .idle (fun l => { l with staged := true }))) (fun t => !t.coach.loader.staged) = true ∧
    okNext (exec (.consistAbort .a0) busy) (fun t => decide (t.coach.loader = busy.coach.loader)) = true := by decide

/-- The empty staging buffer fails its check; the staging base takes the last bank that a buffer may use, not the cache's.
For Obligations.LoadsAndShunts. -/
theorem witness_CheckAndStaging :
    let s := ldIn .checking (fun l => { l with cmd := 1 })
    let i := ldIn .idle id
    checkImage (jobBytes s) (jobLength s) false s ≠ 0 ∧
    okNext (exec .consistCheckDone s) (fun t => decide (t.coach.loader.phase = .idle) && t.rbit (.cw .LDSTAT) 0 2) = true ∧
    wr .a0 (.cw .STGBASE) 0x20100000 i = true ∧
    okNext (exec (.stagingConfigWrite .a0 false 0x20100000) i) (fun t => t.reg (.cw .STGBASE) == 0x20100000) = true ∧
    okNext (exec (.stagingConfigWrite .a0 false 0x20140000) i) (fun t => t.reg (.cw .STGBASE) == i.reg (.cw .STGBASE)) = true := by decide

/-- An image of one train with one carriage. -/
def smallImage (full : Bool) : Image :=
  { full := full, autostart := false, ident := 5, serial := 6, baseId := 0, trainMask := 2, startMask := 0, cars := [{ car := 3, prog := [0], store := [], mask := [] }], routes := [], trains := [{ num := 1, head := 3, settle := 4, members := 8, outlets := List.replicate 4 0, evouts := List.replicate 4 0 }], lanes := [], taps := [], drives := [], events := [] }

/-- For Obligations.LoadsAndShunts. -/
theorem witness_FullLoad :
    let s := ldIn .stopping (fun l => { l with image := some (smallImage true), cmd := 2 })
    let w := updTrain 1 (fun t => { t with state := .loading, members := [3] })
      (updCar 3 (fun c => { c with cond := .serving, logical := 3, train := 1 }) (ldIn .loading (fun l => { l with image := some (smallImage true), source := 3, cmd := 2 })))
    (∀ n : Fin 16, trainAtRest s.coach.trains[n] = true) ∧ ((smallImage true).trains.map (fun x => x.num)).Nodup ∧
    okNext (exec .fullLoadTrainsStopped s) (fun t => decide (t.coach.loader.phase = .loading) &&
      decide ((t.coach.trains[(1 : Fin 16)]).state = .loading) && decide ((t.coach.trains[(1 : Fin 16)]).members = [3]) &&
      decide ((t.coach.cars[(3 : Fin 68)]).cond = .serving)) = true ∧
    sane w = true ∧ trainUnfit w 1 = false ∧
    okNext (exec .fullLoadWritten w) (fun t => decide (t.coach.loader.phase = .idle) && t.coach.loader.result == 0 &&
      t.reg (.cw .ACTID) == 5 && t.reg (.cw .ACTSRC) == 3 && decide ((t.coach.trains[(1 : Fin 16)]).state = .ready)) = true := by
  decide +kernel

/-- For Obligations.LoadsAndShunts. -/
theorem witness_InPlaceShunt :
    let s := ldIn .stopping (fun l => { l with image := some (smallImage false), cmd := 3 })
    let w := updTrain 1 (fun t => { t with state := .loading, members := [3] })
      (updCar 3 (fun c => { c with cond := .serving, logical := 3, train := 1 }) (ldIn .loading (fun l => { l with image := some (smallImage false), source := 3, cmd := 3, cacheValid := true })))
    (∀ n : Fin 16, trainAtRest s.coach.trains[n] = true) ∧ (smallImage false).trainMask.testBit 1 = true ∧
    okNext (exec .inPlaceShuntStopped s) (fun t => decide (t.coach.loader.phase = .loading) &&
      decide ((t.coach.trains[(1 : Fin 16)]).state = .loading)) = true ∧
    okNext (exec .inPlaceShuntLoaded w) (fun t => t.coach.loader.result == 0 && t.rbit (.cw .ACTSRC) 0 31 &&
      decide ((t.coach.trains[(1 : Fin 16)]).state = .ready)) = true := by decide +kernel

def handHub (passed : Bool) (n : Nat) : State :=
  let h : Handover := { n := 0, m := 1, e0 := 0, passed := passed, sw := 0, atE := 0, oldDone := Vector.replicate 4 true }
  let s := updLoader (fun l => { l with phase := .handover, hand := some h }) (hubAt n)
  updTrain 0 (fun t => { t with state := .running }) s

/-- For Obligations.Handovers. -/
theorem witness_Handovers :
    let loaded := updTrain 1 (fun t => { t with state := .loading }) (handHub false 5000)
    let q : List PortWord := [{ side := .stamp, word := 4000 }, { side := .data false 0, word := 7 }]
    let switch := updTrain 1 (fun t => { t with state := .warming, wleft := 1, members := [4], outq := t.outq.set 0 q }) (handHub false 5000)
    let old := updTrain 1 (fun t => { t with state := .draining }) (handHub true 9600)
    trainUnfit loaded 1 = false ∧ sane switch = true ∧ sane old = true ∧ 9600 ≤ sinceTicks 0 old.now ∧
    okNext (exec .handoverStagingLoaded loaded) (fun t => (t.coach.trains[(1 : Fin 16)]).starting &&
      decide ((t.coach.trains[(1 : Fin 16)]).state = .ready)) = true ∧
    okNext (exec (.outletWordRelease 1 0) switch) (fun t => decide ((t.coach.trains[(0 : Fin 16)]).members = [4]) &&
      t.reg (.cw .SHSTAMP) == 4000 && decide ((t.coach.trains[(1 : Fin 16)]).state = .draining)) = true ∧
    okNext (exec .handoverOldStopped old) (fun t => decide ((t.coach.trains[(1 : Fin 16)]).state = .empty) &&
      decide (t.coach.loader.phase = .idle) && t.safety.pending.any (fun e => e.code == 0x402)) = true ∧
    okNext (exec .handoverTimeout (handHub false (96000 * (((hubAt 0).reg (.cw .SHCTRL)).toNat / 65536))))
      (fun t => t.coach.loader.result == 12 && decide ((t.coach.trains[(1 : Fin 16)]).state = .empty)) = true := by decide +kernel

/-! ### Drive slots and services (chapter 06) -/

/-- Drive slot 31, selected by A0, enabled or not, in a motion state. -/
def slotHub (n : Nat) (on : Bool) (m : MState) : State :=
  updSlot 31 (fun x => { x with mstate := m })
    (((hubAt n).setReg (.ds .SEL) (accU .a0) 31).setReg (.ds .CFG) 31 (at_ (b2n on) 31))

def slot31 (t : State) : Slot := t.slots[(31 : Fin 32)]

/-- The command reaches slot 31. -/
def at31 (code value : Nat) (s : State) : Bool := wr .a0 (.ds .CMD) (at_ code 28 ||| at_ value 0) s && decide (selSlot .a0 s = 31)

theorem at31_reaches (code value : Nat) (s : State) (h : at31 code value s = true) :
    SlotReached code value 31 s (.register .a0) := by
  simp only [at31, Bool.and_eq_true, decide_eq_true_eq] at h
  exact ⟨wr_reaches _ _ _ _ h.1, h.2⟩

/-- For Obligations.SlotCommands. -/
theorem witness_SlotCommands :
    let s := slotHub 5000 true .idle
    let r := slotHub 5000 true .runFwd
    let o := updSlot 31 (fun x => { x with owner := 1 }) s
    let tr := slotHub 5000 false .tripped
    sane s = true ∧ at31 1 0 s = true ∧ at31 2 0 s = true ∧ at31 3 0 r = true ∧ at31 4 0xFFFF s = true ∧ at31 5 0 tr = true ∧
    (slot31 s).actEdge ≠ s.clk.edge ∧ (slot31 s).owner = 0 ∧ slotOn s 31 = true ∧
    okNext (exec (.slotFwd (.register .a0)) s) (fun t => decide ((slot31 t).mstate = .runFwd) &&
      t.router.inflight.any (fun q => q.producer == 3 && q.inst == 31 && q.output == 0)) = true ∧
    okNext (exec (.slotRev (.task 31)) s) (fun t => decide ((slot31 t).mstate = .runRev) && (slot31 t).backward) = true ∧
    okNext (exec (.slotFwd (.register .a0)) r) (fun t => t.rbit (.ds .STAT) 31 5 && decide ((slot31 t).mstate = .runFwd)) = true ∧
    okNext (exec (.slotOff (.register .a0)) r) (fun t => decide ((slot31 t).mstate = .coast)) = true ∧
    okNext (exec (.slotFwd (.register .a0)) o) (fun t => t.rbit (.ds .STAT) 31 5) = true ∧
    okNext (exec (.slotFwd (.service 0 31)) o) (fun t => decide ((slot31 t).mstate = .runFwd)) = true ∧
    okNext (exec (.slotOff (.register .a0)) (updSlot 31 (fun x => { x with owner := 1 }) r)) (fun t => (slot31 t).owner == 0) = true ∧
    okNext (exec (.slotSpeed (.register .a0) 0xFFFF) s) (fun t => didIt .a0 t && !t.rbit (.ds .STAT) 31 5) = true ∧
    okNext (exec (.slotClear (.register .a0)) tr) (fun t => decide ((slot31 t).mstate = .idle)) = true ∧
    okNext (exec (.slotClear (.register .a0)) r) (fun t => t.rbit (.ds .STAT) 31 5) = true := by decide

/-- A pinch while the guarded direction runs reverses; while the other runs it coasts; a reversal is not pinched again.
For Obligations.SlotPinchAndTimes. -/
theorem witness_Pinch :
    let en (s : State) : State := s.setReg (.ds .PINCH) 31 0x80050001
    let s := en (slotHub 5000 true .runFwd)
    let v := updSlot 31 (fun x => { x with pinchPos := 0, pos := 5, pinchAt := 0 }) (en (slotHub 96000 true .reverse))
    let w := updSlot 31 (fun x => { x with pos := 4 }) v
    sane s = true ∧ s.rbit (.ds .PINCH) 31 31 = true ∧ s.rbit (.ds .PINCH) 31 30 = false ∧
    okNext (exec (.slotPinch 31) s) (fun t => decide ((slot31 t).mstate = .reverse) && t.rbit (.ds .STAT) 31 4 && t.rbit (.ds .EVENTS) 0 31) = true ∧
    okNext (exec (.slotPinch 31) (en (slotHub 5000 true .runRev))) (fun t => decide ((slot31 t).mstate = .coast)) = true ∧
    okNext (exec (.slotPinch 31) (slotHub 5000 true .idle)) (fun t => decide ((slot31 t).mstate = .idle) && !t.rbit (.ds .STAT) 31 4) = true ∧
    okNext (exec (.slotPinch 31) v) (fun t => decide ((slot31 t).mstate = .reverse)) = true ∧
    v.rfld (.ds .PINCH) 31 29 16 = 5 ∧
    okNext (exec (.reverseEnd 31) v) (fun t => decide ((slot31 t).mstate = .coast) && t.merger.arriving.isEmpty) = true ∧
    okNext (exec (.reverseEnd 31) w) (fun t => decide ((slot31 t).mstate = .coast) && !t.merger.arriving.isEmpty) = true := by decide

/-- The coast estimate of two counted ripples; the periodic report.
For Obligations.SlotPinchAndTimes. -/
theorem witness_CoastAndReport :
    let s := updSlot 31 (fun x => { x with motion := 0, words := 2, offPavg := 96000, coastM := 0, pos := 10 })
      (((slotHub 192000 true .coast).setReg (.ds .SPEED) 31 2).setReg (.ds .RIPCFG) 31 2)
    let r := updSlot 31 (fun x => { x with reportAt := 0 }) ((slotHub 96000 true .idle).setReg (.ds .REPORT) 31 0x00018001)
    sane s = true ∧ s.rfld (.ds .SPEED) 31 15 0 = 2 ∧ s.prRun.state ≠ 1 ∧ s.rfld (.ds .CFG) 31 30 28 = 0 ∧
    okNext (exec (.coastEnd 31) s) (fun t => decide ((slot31 t).mstate = .idle) && (slot31 t).pos == 11) = true ∧
    r.rfld (.ds .REPORT) 31 31 16 = 1 ∧
    okNext (exec (.reportTick 31) r) (fun t => (slot31 t).due == 1 && t.merger.arriving.any (fun x => x.typ == tMeasure)) = true := by
  decide

/-- Ripple intervals against p = 1000 with bounds 8/16 and 24/16: short, equal to a bound, one missed, too many missed.
For Obligations.RippleCountAndCoolantLoop. -/
theorem witness_RippleCount :
    let s := updSlot 31 (fun x => { x with first := false, k := 4, pAvg := 1000, sLast := 0, pos := 100 })
      ((slotHub 5000 true .runFwd).setReg (.ds .RIPCFG) 31 0x08181000)
    let pos (n : Stamp) : Word := (slot31 (countWord 31 true 1 n s)).pos
    sane s = true ∧ s.rfld (.ds .RIPCFG) 31 31 24 = 8 ∧ s.rfld (.ds .RIPCFG) 31 23 16 = 24 ∧ s.rfld (.ds .RIPCFG) 31 15 12 = 1 ∧
    pos 499 = 100 ∧ pos 500 = 101 ∧ pos 1500 = 101 ∧ pos 2000 = 102 ∧ pos 2499 = 102 ∧
    (slot31 (countWord 31 true 1 2499 s)).doubt = false ∧ pos 2500 = 101 ∧ (slot31 (countWord 31 true 1 2500 s)).doubt = true := by
  decide

/-- For Obligations.RippleCountAndCoolantLoop. -/
theorem witness_CoolantLoop :
    let s := (hubAt 96000).setReg (.ds .CLDRV) 0 0x9F
    let on := (((s.setReg (.ds .CLCTL) 0 0x80000000).setReg (.ds .CLSET) 0 0x00500001).setReg (.ds .CLGAIN) 0 0x00640000).setReg (.ds .CLTEMP) 0 0x9F
    let hot := ((on.setReg (.ds .QUANT) 31 0xA).setReg (.ds .VALFLG) 31 1).setReg (.ds .VAL) (31 * 8) 90
    let dry := updLoop (fun l => { l with pumps := l.pumps.set 0 { stopped := true, retries := 0, fault := false, at_ := 0 } })
      ({ on with clk := { on.clk with bus := 96000000 } }.setReg (.ds .CLDRY) 0 0x00010000)
    sane s = true ∧ wr .a0 (.ds .CLCTL) 0x80000000 s = true ∧ loopSlots s = [31] ∧
    okNext (exec (.coolantEnable .a0 0x80000000) s) (fun t => (slot31 t).owner == 1 && t.rbit (.ds .CLCTL) 0 31 && t.loop.u == 0) = true ∧
    okNext (exec (.coolantEnable .a0 0) on) (fun t => !t.rbit (.ds .CLCTL) 0 31) = true ∧
    hottest hot = some 90 ∧ hottest on = none ∧ on.rfld (.ds .CLSET) 0 15 0 = 1 ∧
    okNext (exec .coolantStep hot) (fun t => t.loop.u == 10 && t.loop.tmax == 90) = true ∧
    okNext (exec .coolantStep on) (fun t => t.loop.lost == 1) = true ∧
    okNext (exec .coolantStep (updLoop (fun l => { l with lost := 2 }) on)) (fun t => t.loop.u == 1000) = true ∧
    clSlot dry .CLDRV 0 = some 31 ∧ 96000 * 1000 * dry.rfld (.ds .CLDRY) 0 31 16 ≤ ticks 0 dry.now ∧
    okNext (exec (.dryRestart 0) dry) (fun t => !t.loop.pumps[0].stopped && t.loop.pumps[0].retries == 1 &&
      decide ((slot31 t).mstate = .runFwd)) = true := by decide

/-- For Obligations.RecallAndHoming. -/
theorem witness_Recall :
    let s := updSlot 31 (fun x => { x with valid := true, pos := 7 }) ((hubAt 96000).setReg (.ds .PRSLOT) 0 0x9F)
    let go := (s.setReg (.ds .PRCTL) 0 (at_ 1 31 ||| at_ 2 28)).setReg (.ds .PRMEM) 16 9000
    let run := updRecall (fun r => { r with state := 1, started := 0 }) (updSlot 31 (fun x => { x with owner := 2 }) s)
    sane go = true ∧ wr .a0 (.ds .PRCTL) (at_ 1 31 ||| at_ 3 28) s = true ∧ prEntries go = [(0, 31)] ∧
    go.rfld (.ds .PRPAR) 0 31 24 < ((go.reg (.ds .PRMEM) 16).toInt - (slot31 go).pos.toInt).natAbs ∧
    okNext (exec (.recallGo .a0 3) s) (fun t => t.rbit (.ds .PRCTL) 0 31 && t.rfld (.ds .PRCTL) 0 29 28 == 3) = true ∧
    okNext (exec (.serviceRequestTaken false) go) (fun t => t.prRun.state == 1 && t.prRun.mem == 2 && (slot31 t).owner == 2 &&
      !t.rbit (.ds .PRCTL) 0 31) = true ∧
    okNext (exec (.serviceRequestTaken false) (updSlot 31 (fun x => { x with doubt := true }) go)) (fun t => t.prRun.state == 4) = true ∧
    okNext (exec (.serviceRequestTaken false) (updSlot 31 (fun x => { x with owner := 3 }) go))
      (fun t => !t.rbit (.ds .PRCTL) 0 31 && (slot31 t).owner == 3) = true ∧
    wr .a0 (.ds .PRCTL) (at_ 1 30) run = true ∧
    okNext (exec (.recallStop .a0) run) (fun t => t.prRun.state == 3 && (slot31 t).owner == 0) = true ∧
    okNext (exec (.recallSave .a0 1) s) (fun t => t.reg (.ds .PRMEM) 8 == 7) = true ∧
    okNext (exec (.recallSave .a0 1) (updSlot 31 (fun x => { x with doubt := true }) s)) (fun t => t.rbit (.ds .PRSTAT) 0 8) = true := by
  decide

/-- For Obligations.RecallAndHoming. -/
theorem witness_RecallTimeout :
    let s := updRecall (fun r => { r with state := 1, started := 0 }) ((hubAt (96000 * 100)).setReg (.ds .PRPAR) 0 1)
    sane s = true ∧ 96000 * 100 * s.rfld (.ds .PRPAR) 0 15 0 ≤ ticks s.prRun.started s.now ∧
    okNext (exec .recallTimeout s) (fun t => t.prRun.state == 3 && t.prRun.code == 6) = true := by decide

/-- For Obligations.RecallAndHoming. -/
theorem witness_Homing :
    let s := (((hubAt 96000).setReg (.ds .FHMASK) 0 0x80000000).setReg (.ds .FHPAR) 0 0x1001)
    let go := s.setReg (.ds .FHCTL) 0 0x80000000
    let auto := updSlot 31 (fun x => { x with doubt := true, freeDoubt := true }) (s.setReg (.ds .FHCTL) 0 0x20000000)
    let seek := updHoming (fun h => { h with running := true, phase := h.phase.set 31 .seeking, since := h.since.set 31 0 })
      (updSlot 31 (fun x => { x with owner := 3, mstate := .runRev }) ({ s with clk := { s.clk with bus := 9600000 } }))
    sane go = true ∧ wr .a0 (.ds .FHCTL) 0x80000000 s = true ∧ (slot31 go).owner = 0 ∧ (slot31 go).mstate = .idle ∧
    0 < go.rfld (.ds .FHPAR) 0 15 12 ∧ homable auto 31 = true ∧
    okNext (exec (.homingGo .a0) s) (fun t => t.rbit (.ds .FHCTL) 0 31) = true ∧
    okNext (exec (.serviceRequestTaken true) go) (fun t => t.homing.running && (slot31 t).owner == 3 && !t.rbit (.ds .FHCTL) 0 31) = true ∧
    okNext (exec (.autoHomingStart (.slot 31)) auto) (fun t => t.homing.running && decide ((slot31 t).mstate = .runRev)) = true ∧
    okNext (exec (.homingStop .a0) seek) (fun t => !t.homing.running && (slot31 t).owner == 0) = true ∧
    96000 * 100 * seek.rfld (.ds .FHPAR) 0 11 0 ≤ ticks seek.homing.since[31] seek.now ∧
    okNext (exec (.homingTimeout 31) seek) (fun t => decide (t.homing.phase[31] = .failed) && decide ((slot31 t).mstate ≠ .runRev)) = true := by
  decide

/-! ### Records, almanac, watchdogs and monitors (chapter 07) -/

/-- No record of a reset is due any more. -/
def quietHub (n : Nat) : State := updMerger (fun m => { m with restartDue := false }) (hubAt n)

def someRec (cls : RecClass) (source : Nat) (stamp : Stamp) : Rec :=
  { cls := cls, typ := 2, source := source, stamp := stamp, body := [7], now := false }

/-- A record at the front is held; one tick below it becomes a GAP and counts.
For Obligations.RecordsJudgedAndWritten. -/
theorem witness_RecordArrive :
    let s := quietHub 1000000
    let f := front s .acq
    let ok := updMerger (fun m => { m with arriving := [someRec .acq 3 f] }) s
    let late := updMerger (fun m => { m with arriving := [someRec .acq 3 (f - 1)] }) s
    sane ok = true ∧ stLt f f = false ∧ stLt (f - 1) f = true ∧
    okNext (exec .recordArrive ok) (fun t => decide (t.merger.held = [someRec .acq 3 f]) && t.merger.arriving.isEmpty) = true ∧
    okNext (exec .recordArrive late) (fun t => t.merger.held.any (fun r => r.typ == tGap && r.source == 3 && r.stamp == f) &&
      t.rfld (.rk .LATE) 0 15 0 == 1 && t.rbit (.rk .STAT) 0 4) = true := by decide

/-- Two records of one stamp go out by source number; a full queue begins an overflow; an overflow ends.
For Obligations.RecordsJudgedAndWritten. -/
theorem witness_RecordWrite :
    let s := quietHub 1000000
    let r := someRec .acq 3 5
    let q := someRec .acq 2 5
    let two := updMerger (fun m => { m with held := [r, q] }) s
    let full := updMerger (fun m => { m with held := [r], cursors := m.cursors.map (fun (c : Cursor) => { c with avail := 65534 }) })
      (s.setReg (.rk .CnCTRL) 2 0x80000000)
    let o : Overflow := { records := 2, words := 6, lo := 5, hi := 9, cursors := 0 }
    let lost := updMerger (fun m => { m with overflow := some o }) s
    sane two = true ∧ Sparse.rising two.merger.seqs = true ∧ mergerWrites two = true ∧ two.merger.head < queueWords ∧
    two.merger.held.filter (dueRec two) = [r, q] ∧ 6 ≤ queueFree two ∧
    okNext (exec .recordWrite two) (fun t => t.merger.head == 6 && fld (queueWord t 0) 19 12 == 2 && fld (queueWord t 3) 19 12 == 3 &&
      queueWord t 2 == 7 && seqOf t 2 == 1) = true ∧
    queueFree full = 2 ∧ full.merger.held.filter (dueRec full) = [r] ∧
    okNext (exec .recordWrite full) (fun t => t.merger.overflow.isSome && t.rbit (.rk .STAT) 0 5 && t.merger.head == 0) = true ∧
    lost.rfld (.rk .OVFREE) 0 16 0 ≤ queueFree lost ∧ 10 ≤ queueFree lost ∧
    okNext (exec .overflowExit lost) (fun t => t.merger.overflow.isNone && queueWord t 2 == 2 && t.safety.pending.any (fun e => e.code == 0x501)) = true := by
  decide +kernel

/-- For Obligations.CursorsAndCommits. -/
theorem witness_CursorsAndCommits :
    let s := quietHub 1000000
    let on := updMerger (fun m => { m with cursors := m.cursors.set 2 { m.cursors[2] with avail := 3 } })
      ((s.setReg (.rk .CnCTRL) 2 0x80000000).writeWord queueBase (header 2 3 5 0))
    sane on = true ∧ wr .a0 (.rk .CnCTRL) 0x80000001 s = true ∧ wr .a0 (.rk .CnACK) 3 on = true ∧ recLen on 0 = 3 ∧
    wr .a0 (.rk .SWHDR) (at_ 0x0E 26 ||| at_ 0x71 12) s = true ∧ wr .a0 (.rk .HORIZON) 1920 s = true ∧
    okNext (exec (.cursorEnable .a0 2 0x80000001) s) (fun t => t.reg (.rk .CnCTRL) 2 == 0x80000001 && (t.merger.cursors[2]).avail == 0) = true ∧
    okNext (exec (.cursorAck .a0 2 3) on) (fun t => (t.merger.cursors[2]).index == 3 && (t.merger.cursors[2]).avail == 0) = true ∧
    okNext (exec (.cursorAck .a0 2 4) on) (fun t => t.rbit (.rk .CnSTAT) 2 29) = true ∧
    okNext (exec (.cursorAck .a1 2 3) on) (fun t => t.rbit (.rk .CnSTAT) 2 29) = true ∧
    okNext (exec (.swRecordCommit .a0 (at_ 0x0E 26 ||| at_ 0x73 12)) s) (fun t => t.merger.arriving.any (fun r => r.typ == 0x0E && r.source == 0x73)) = true ∧
    okNext (exec (.swRecordCommit .a0 (at_ 0x0E 26 ||| at_ 0x70 12)) s) (fun t => t.rbit (.rk .STAT) 0 2) = true ∧
    okNext (exec (.swRecordCommit .host (at_ 0x0E 26 ||| at_ 0x71 12)) s) (fun t => t.rbit (.rk .STAT) 0 2) = true ∧
    okNext (exec (.horizonWrite .a0 1920) s) (fun t => t.rfld (.rk .HORIZON) 0 17 0 == 1920) = true ∧
    okNext (exec (.horizonWrite .a0 192001) s) (fun t => t.rfld (.rk .HORIZON) 0 17 0 == s.rfld (.rk .HORIZON) 0 17 0) = true := by
  decide

/-- Of two entries with one stamp the lower source goes first; the last place of the ring is followed by the first.
For Obligations.AlmanacAndWatchdogs. -/
theorem witness_Almanac :
    let x : AlmEntry := { stamp := 9, code := 0x803, cls := 2, source := 0xE6, data := 5 }
    let y : AlmEntry := { stamp := 9, code := 0x901, cls := 0, source := 0xE5, data := 6 }
    let s := { (hubAt 100).setReg (.al .WIDX) 0 1023 with safety := { (hubAt 100).safety with pending := [x, y] } }
    sane s = true ∧ s.power.vaneOn = true ∧ s.nvm.booting = false ∧ y.source < x.source ∧
    okNext (exec .almanacWrite s) (fun t => decide (t.safety.pending = [x]) && t.reg (.al .WIDX) == 0 && t.reg (.al .COUNT) == 1 &&
      t.readWord 0x24003FF0 == 9 && t.readWord 0x24003FF8 == 0x6E5) = true ∧
    wr .a0 (.al .LOGH) 0xF0330055 s = true ∧
    okNext (exec (.almanacLogCommit .a0 0xF0330055) (hubAt 100)) (fun t => t.safety.pending.any (fun e => e.code == 0xF03 && e.source == 0x55)) = true ∧
    okNext (exec (.almanacLogCommit .a0 0xEFF30055) (hubAt 100)) (fun t => t.safety.pending.isEmpty) = true ∧
    okNext (exec (.almanacLogCommit .a0 0xF0340055) (hubAt 100)) (fun t => t.safety.pending.isEmpty) = true := by decide

/-- A watchdog of 2 ms: kicked at a quarter and one tick before it, with the wrong key, by another processor, and expired.
For Obligations.AlmanacAndWatchdogs. -/
theorem witness_Watchdogs :
    let s := (hubAt 1000)
    let on (n : Nat) : State := { (hubAt n).setReg (.al .WDCTL) 0 0x80000002 with safety := { (hubAt n).safety with kicked := #v[true, false, false] } }
    wr .a0 (.al .WDCTL) 0x80000005 s = true ∧ wr .a0 (.al .WDKICK) 0xA5A5 s = true ∧ sane (on 48000) = true ∧
    (s.ic.cores[0]).stopped = false ∧ s.power.vaneOn = true ∧
    okNext (exec (.watchdogEnable .a0 0 5) s) (fun t => t.reg (.al .WDCTL) 0 == 0x80000005 && t.safety.kick[0] == 1000) = true ∧
    okNext (exec (.watchdogKick .a0 0 0xA5A5) (on 48000)) (fun t => t.safety.kick[0] == 48000) = true ∧
    okNext (exec (.watchdogKick .a0 0 0xA5A5) (on 47999)) (fun t => t.rbit (.al .FSTAT) 0 0 && (t.ic.cores[0]).inReset &&
      t.safety.pending.any (fun e => e.code == 0x801 && e.data == 0x200)) = true ∧
    okNext (exec (.watchdogKick .a0 0 1) (on 48000)) (fun t => t.safety.pending.any (fun e => e.data == 0x300)) = true ∧
    okNext (exec (.watchdogKick .a1 0 0xA5A5) (on 48000)) (fun t => t.safety.kick[0] == 0 && didIt .a1 t) = true ∧
    okNext (exec (.watchdogExpire 0) (on 192000)) (fun t => t.rbit (.al .FSTAT) 0 0 && t.rfld (.ic .CPUSTATx) 0 31 28 == 1) = true ∧
    okNext (exec (.watchdogExpire 0) (on 191999)) (fun t => t.safety.pending.isEmpty) = true := by decide +kernel

/-- For Obligations.MonitorsAndFaultPin. -/
theorem witness_Monitors :
    let s := hubAt 100
    let low (n : Nat) : State := { hubAt n with safety := { (hubAt n).safety with pinLow := true, lowSince := 0 } }
    sane s = true ∧ s.power.hub = .on ∧ (s.setReg (.pw .CLK) 0 1).rbit (.pw .CLK) 0 0 = true ∧
    okNext (exec .xtalFail (s.setReg (.pw .CLK) 0 1)) (fun t => !t.rbit (.pw .CLK) 0 0 && t.rbit (.al .FSTAT) 0 4) = true ∧
    okNext (exec (.vrcFail 849) s) (fun t => t.rbit (.al .FSTAT) 0 6) = true ∧
    okNext (exec (.vrcFail 1151) s) (fun t => t.rbit (.al .FSTAT) 0 6) = true ∧
    okNext (exec .x32Fail { s with clk := { s.clk with x32On := true } }) (fun t => !t.clk.x32On && t.rbit (.al .FSTAT) 0 7) = true ∧
    okNext (exec (.lockstepMismatch 0x1234) s) (fun t => t.rbit (.al .FSTAT) 0 3 && (t.ic.cores[2]).inReset &&
      t.safety.pending.any (fun e => e.code == 0x802 && e.data == 0x1234)) = true ∧
    faultCond ((low 96000).setReg (.al .FCTL) 0 1) = false ∧
    okNext (exec .faultPinRelease ((low 96000).setReg (.al .FCTL) 0 1)) (fun t => !t.safety.pinLow) = true ∧
    okNext (exec .faultPinRelease ((low 95999).setReg (.al .FCTL) 0 1)) (fun t => t.safety.pinLow) = true ∧
    wr .a0 (.al .FCTL) 1 s = true ∧
    okNext (exec (.faultReady .a0 0) s) (fun t => t.rbit (.al .FCTL) 0 0) = true ∧
    okNext (exec (.softwareFault .a0 0) s) (fun t => t.rbit (.al .FSTAT) 0 15 && t.safety.pinLow) = true := by decide +kernel

/-- For Obligations.MonitorsAndFaultPin. -/
theorem witness_PllFail :
    let s := hubAt 100
    s.power.hub = .on ∧ s.clk.busOn = true ∧ sane s = true ∧
    okNext (exec (.pllFail 969) s) (fun t => t.nvm.pllFault && t.nvm.booting && t.rbit (.nv .RSTCAUSE) 0 3) = true ∧
    okNext (exec (.pllFail 970) s) (fun t => !t.nvm.pllFault) = true := by decide +kernel

/-! ### Drawbar links (chapters 08 and 09) -/

/-- Bus 1 with its modem in a state. -/
def linkIn (n : Nat) (p : PhyState) (f : Phy → Phy) : State :=
  updPhy 1 (fun x => f { x with state := p }) ((quietHub n).setReg (.db .PHYCFG) 1 0x80000000)

def bus1 (t : State) : Drawbar := t.drawbar[(1 : Fin 2)]

/-- For Obligations.ReceiverStates. -/
theorem witness_PhyEnable :
    let s := quietHub 5000
    let on := linkIn 5000 .listen id
    sane s = true ∧ wr .a0 (.db .PHYCFG) 0x80000001 s = true ∧ (bus1 s).phy.state = .off ∧ s.power.dom[domLink 1] = true ∧
    okNext (exec (.phyEnable .a0 1 1) s) (fun t => decide ((bus1 t).phy.state = .listen) && t.reg (.db .PHYCFG) 1 == 0x80000001) = true ∧
    okNext (exec (.phyDisable .a0 1 0) on) (fun t => decide ((bus1 t).phy.state = .off) && !t.rbit (.db .PHYCFG) 1 31) = true := by decide

/-- Seven of eight symbols at the level threshold are a candidate; six, or one level less, are none.
For Obligations.ReceiverStates. -/
theorem witness_Candidates :
    let s := linkIn 5000 .listen id
    let lv := s.rfld (.db .RXCFG) 1 23 16
    sane s = true ∧ 0 < lv ∧ lv ≤ 255 ∧
    okNext (exec (.candidateFound 1 7 lv true) s) (fun t => decide ((bus1 t).phy.state = .sync) && t.rfld (.db .CNT) 4 31 16 == 1 &&
      t.rbit (.db .PHYFLG) 1 2) = true ∧
    okNext (exec (.candidateFound 1 6 lv false) s) (fun t => decide ((bus1 t).phy.state = .listen)) = true ∧
    okNext (exec (.candidateFound 1 7 (lv - 1) false) s) (fun t => decide ((bus1 t).phy.state = .listen)) = true := by decide

/-- For Obligations.ReceiverStates. -/
theorem witness_SyncAndHeader :
    let s := linkIn 5000 .sync id
    let n := s.rfld (.db .RXCFG) 1 12 8
    let hd := linkIn 5000 .header id
    let good := packHeader 3 2 32 5 1 false
    sane s = true ∧ 0 < n ∧ n ≤ 16 ∧ fld good 13 12 = 1 ∧ fld good 23 18 = 32 ∧
    okNext (exec (.syncFound 1 n 255 none false) s) (fun t => decide ((bus1 t).phy.state = .header) && t.rfld (.db .RXLEVEL) 1 7 0 == 255) = true ∧
    okNext (exec (.syncFound 1 (n - 1) 255 none false) s) (fun t => decide ((bus1 t).phy.state = .sync)) = true ∧
    okNext (exec (.syncDeadline 1) s) (fun t => decide ((bus1 t).phy.state = .listen) && t.rfld (.db .CNT) 5 31 16 == 1) = true ∧
    okNext (exec (.blankEnd 1) (linkIn 5000 .blank id)) (fun t => decide ((bus1 t).phy.state = .listen)) = true ∧
    okNext (exec (.headerDecoded 1 good false) hd) (fun t => decide ((bus1 t).phy.state = .body) && decide ((bus1 t).phy.head = some good)) = true ∧
    okNext (exec (.headerDecoded 1 (packHeader 3 2 33 5 1 false) false) hd) (fun t => decide ((bus1 t).phy.state = .listen) && t.rfld (.db .CNT) 5 15 0 == 1) = true ∧
    okNext (exec (.headerDecoded 1 (packHeader 3 2 32 5 0 false) false) hd) (fun t => decide ((bus1 t).phy.state = .listen)) = true := by decide

/-- For Obligations.SecondWatchAndCapture. -/
theorem witness_Listener :
    let s := updPower (fun p => { p with hub := .lull }) ((hubAt 5000).setReg (.db .LSNCFG) 0 0x80000000)
    sane s = true ∧ s.power.exit = .none ∧ s.power.listener = false ∧ s.power.vaneOn = true ∧ s.rbit (.db .LSNCFG) 0 31 = true ∧
    okNext (exec .listenerDetect s) (fun t => t.power.listener && t.rbit (.vn .WSTAT) 0 7) = true := by decide

/-- The second watch, its sync with and without capture, a capture by level at the limit, and its deadline.
For Obligations.SecondWatchAndCapture. -/
theorem witness_SecondWatch :
    let w : Watch := { level := 200, foundAt := 0 }
    let cap (s : State) : State := (s.setReg (.db .CAPCFG) 1 0x80000002).setReg (.db .RXLEVEL) 1 100
    let s := linkIn 6143 .body (fun x => { x with watch := some w, head := some 0 })
    let n := s.rfld (.db .RXCFG) 1 12 8
    sane s = true ∧ (bus1 s).phy.watch = some w ∧
    okNext (exec (.secondWatchCandidate 1 7 255) (linkIn 5000 .header id)) (fun t => (bus1 t).phy.watch.isSome) = true ∧
    okNext (exec (.secondWatchSync 1 n 104) (cap s)) (fun t => decide ((bus1 t).phy.state = .header) && t.rfld (.db .RXLEVEL) 1 7 0 == 104 &&
      t.rfld (.db .CNT) 6 31 16 == 1) = true ∧
    okNext (exec (.secondWatchSync 1 n 103) (cap s)) (fun t => decide ((bus1 t).phy.state = .body) && t.rfld (.db .CNT) 6 15 0 == 1) = true ∧
    okNext (exec (.secondWatchSync 1 n 9) (linkIn 6000 .sync (fun x => { x with watch := some w }))) (fun t => decide ((bus1 t).phy.state = .header)) = true ∧
    okNext (exec (.capture 1 (.level 104)) (cap s)) (fun t => decide ((bus1 t).phy.state = .sync)) = true ∧
    okNext (exec (.capture 1 (.level 104)) (cap (linkIn 6144 .body (fun x => { x with watch := some w })))) (fun t => decide ((bus1 t).phy.state = .body)) = true ∧
    okNext (exec (.secondWatchDeadline 1) s) (fun t => (bus1 t).phy.watch.isNone && t.rfld (.db .CNT) 5 31 16 == 1) = true := by decide

def someCmd : DbCmd := { urgent := false, poll := false, payload := [9], commit := 0, seq := none, fc := 0, tries := 0, stored := none }

/-- A slot waits on bus 1, which listens, 100 microseconds after the last exchange. -/
def slotOf (w : DbWork) : State :=
  updBus 1 (fun d => { d with slot := some w, exchEnd := some 0 }) (linkIn 9600 .listen id)

/-- `MayStart` as a test. -/
def mayStart (w : DbWork) (s : State) : Bool :=
  decide ((bus1 s).slot = some w) && (bus1 s).exch.isNone && decide ((bus1 s).phy.state ≠ .off) &&
  (bus1 s).exchEnd.all (fun t => decide (9600 ≤ (s.now - t).toNat)) && !(s.power.parked)[7]! && s.clk.edge % 3 == 0

/-- For Obligations.ExchangesStartAndEnd. -/
theorem witness_ExchangeStarts :
    let cmd := updAct 1 5 (fun a => { a with queue := [someCmd], state := 2 }) (slotOf (.command 5))
    let held := updPhy 1 (fun p => { p with heldOff := true }) (slotOf (.poll 5))
    let early := updBus 1 (fun d => { d with exchEnd := some 1 }) (slotOf (.poll 5))
    mayStart (.command 5) cmd = true ∧ mayStart (.poll 31) (slotOf (.poll 31)) = true ∧ mayStart .contention (slotOf .contention) = true ∧
    mayStart (.poll 5) held = true ∧
    okNext (exec (.exchangeStart 1) cmd) (fun t => (bus1 t).exch.any (fun x => x.addr == 5 && x.ptype == 1 && x.seq == 1) && (bus1 t).phy.driving) = true ∧
    okNext (exec (.exchangeStart 1) (slotOf (.poll 31))) (fun t => (bus1 t).exch.any (fun x => x.addr == 31 && x.ptype == 0)) = true ∧
    okNext (exec (.exchangeStart 1) (slotOf .contention)) (fun t => (bus1 t).exch.any (fun x => x.addr == 0) && (bus1 t).ackAddr == 0) = true ∧
    okNext (exec (.exchangeStart 1) (updBus 1 (fun d => { d with walk := true }) (slotOf (.probe 3 2)))) (fun t => (bus1 t).exch.any (fun x => x.ptype == 4)) = true ∧
    okNext (exec (.exchangeStart 1) (slotOf .release)) (fun t => (bus1 t).exch.any (fun x => x.ptype == 1 && !x.answered)) = true ∧
    okNext (exec (.exchangeStart 1) held) (fun t => (bus1 t).exch.isNone && t.merger.arriving.any (fun r => r.typ == tLinkLost)) = true ∧
    okNext (exec (.exchangeStart 1) early) (fun t => (bus1 t).exch.isNone && (bus1 t).slot.isSome) = true := by decide +kernel

def pollOf (te : Option Stamp) : Exchange :=
  { work := .poll 5, addr := 5, ptype := 0, seq := 3, ver := 1, tag := false, fc := 0, tries := 0, answered := true, te := te, candidate := false }

/-- The end of a transmission, trips of the driver (the third within 100 ms holds it off), and the response timeout.
For Obligations.ExchangesStartAndEnd. -/
theorem witness_ExchangeEnds :
    let tx := updBus 1 (fun d => { d with exch := some (pollOf none) }) (linkIn 67200 .transmit (fun p => { p with driving := true }))
    let trip := updPhy 1 (fun p => { p with trips := [67100, 67000] }) tx
    let wait (n : Nat) : State := updBus 1 (fun d => { d with exch := some (pollOf (some 0)) }) (linkIn n .listen id)
    let cmd (k : Nat) : State := updAct 1 5 (fun a => { a with queue := [{ someCmd with tries := k }], state := 2 })
      (updBus 1 (fun d => { d with exch := some { pollOf (some 0) with work := .command 5, ptype := 1 } }) ((linkIn 67200 .listen id).setReg (.db .ACFG) 37 (at_ 1 28)))
    sane tx = true ∧ (bus1 tx).phy.driving = true ∧ looped (bus1 tx).phy = false ∧ (cmd 0).rfld (.db .ACFG) 37 29 28 = 1 ∧
    okNext (exec (.transmissionEnd 1) tx) (fun t => decide ((bus1 t).phy.state = .blank) && decide ((bus1 t).exch = some (pollOf (some 67200)))) = true ∧
    okNext (exec (.txOvercurrent 1) tx) (fun t => t.rbit (.db .PHYFLG) 1 3 && !(bus1 t).phy.heldOff) = true ∧
    okNext (exec (.txOvercurrent 1) trip) (fun t => (bus1 t).phy.heldOff && t.safety.pending.any (fun e => e.code == 0x601 && e.data == 3)) = true ∧
    okNext (exec (.responseTimeout 1) (wait 67200)) (fun t => (bus1 t).exch.isNone && ((bus1 t).acts[5]).misses == 1) = true ∧
    okNext (exec (.responseTimeout 1) (wait 67199)) (fun t => (bus1 t).exch.isSome) = true ∧
    okNext (exec (.responseTimeout 1) (cmd 0)) (fun t => ((bus1 t).acts[5]).queue.map (fun c => c.tries) == [1]) = true ∧
    okNext (exec (.responseTimeout 1) (cmd 1)) (fun t => ((bus1 t).acts[5]).queue.isEmpty && t.rbit (.db .LOST) 1 5) = true := by decide +kernel

/-- A reply that completes a command, a wrong CRC, and an alarm.
For Obligations.ReceptionsCompleted. -/
theorem witness_Receptions :
    let h := packHeader 5 2 2 3 1 false
    let al := packHeader 6 3 0 9 1 false
    let body : List Byte := [1, 2]
    let good := body ++ crc16Bytes (wordBytes h ++ body)
    let bad := body ++ [0, 0]
    let rx (h : Word) : State := linkIn 67200 .body (fun p => { p with head := some h, syncStamp := 60000 })
    let cmd := updAct 1 5 (fun a => { a with queue := [someCmd], state := 3, misses := 2 })
      (updBus 1 (fun d => { d with exch := some { pollOf (some 0) with work := .command 5, ptype := 1 } }) (rx h))
    let poll := updBus 1 (fun d => { d with exch := some (pollOf (some 0)) }) (rx h)
    sane cmd = true ∧ good.length = bodyBytes h ∧ crc16 (wordBytes h ++ good.take 4) = 0 ∧ crc16 (wordBytes h ++ bad.take 4) ≠ 0 ∧
    hasTag h = false ∧ fld h 26 24 = 2 ∧ fld al 26 24 = 3 ∧
    okNext (exec (.receptionComplete 1 good [] false) cmd) (fun t => (bus1 t).exch.isNone && ((bus1 t).acts[5]).queue.isEmpty &&
      ((bus1 t).acts[5]).misses == 0 && ((bus1 t).acts[5]).state == 2 && decide ((bus1 t).phy.state = .listen)) = true ∧
    okNext (exec (.receptionComplete 1 bad [] false) (rx h)) (fun t => t.merger.arriving.isEmpty) = true ∧
    okNext (exec (.receptionComplete 1 bad [] false) poll) (fun t => (bus1 t).exch.isNone &&
      t.merger.arriving.any (fun r => r.typ == tLinkLost && fld (r.body.getD 0 0) 19 16 == 3)) = true ∧
    okNext (exec (.receptionComplete 1 (crc16Bytes (wordBytes al)) [] false) (rx al)) (fun t => t.rbit (.db .ALARM) 1 6 && (bus1 t).ackAddr == 6 &&
      ((bus1 t).acts[6]).alseq == 9) = true := by decide +kernel

/-- For Obligations.QueuesAndWalks. -/
theorem witness_Queues :
    let sel := (linkIn 5000 .listen id).setReg (.db .ASEL) (6 + accU .a0) 5
    let s := updAct 1 5 (fun a => { a with state := 2 }) (sel.setReg (.db .ACMD) ((6 + accU .a0) * 8) 0x04030201)
    let full := updAct 1 5 (fun a => { a with queue := List.replicate 8 someCmd }) s
    sane s = true ∧ wr .a0 (.db .ACMDH) 4 s = true ∧ asel .a0 1 s = 5 ∧ fits s 1 5 4 = true ∧ poolUsed (bus1 s) < 64 ∧
    okNext (exec (.commandCommit .a0 1 4) s) (fun t => ((bus1 t).acts[5]).queue.map (fun c => c.payload) == [[1, 2, 3, 4]]) = true ∧
    okNext (exec (.commandCommit .a0 1 33) s) (fun t => t.rbit (.db .LSTAT) 1 8) = true ∧
    okNext (exec (.commandCommit .a0 1 0) s) (fun t => t.rbit (.db .LSTAT) 1 8) = true ∧
    okNext (exec (.commandCommit .a0 1 4) sel) (fun t => t.rbit (.db .LSTAT) 1 8) = true ∧
    okNext (exec (.commandCommit .a0 1 4) full) (fun t => t.rbit (.db .LSTAT) 1 6) = true := by decide +kernel

/-- For Obligations.QueuesAndWalks. -/
theorem witness_StoredCommands :
    let s := updAct 1 5 (fun a => { a with state := 2 }) ((linkIn 5000 .listen id).setReg (.db .STCMD) 15 0x85041234)
    let off := s.setReg (.db .STCMD) 15 0x05041234
    sane s = true ∧ storedBusy s 1 7 = false ∧ ix 32 (fld (0x85041234 : Word) 28 24) = (5 : Fin 32) ∧ fits s 1 5 3 = true ∧
    okNext (exec (.storedCommandTrigger 1 7) s) (fun t => ((bus1 t).acts[5]).queue.map (fun c => (c.payload, c.urgent)) == [([4, 0x34, 0x12], true)]) = true ∧
    okNext (exec (.storedCommandTrigger 1 7) off) (fun t => ((bus1 t).acts[5]).queue.isEmpty) = true ∧
    storedBusy (updAct 1 5 (fun a => { a with queue := [{ someCmd with stored := some 7 }] }) s) 1 7 = true ∧
    okNext (exec (.storedCommandTrigger 1 7) (updAct 1 5 (fun a => { a with queue := [{ someCmd with stored := some 7 }] }) s))
      (fun t => t.rbit (.ev .STAT) 0 2) = true := by decide +kernel

/-- For Obligations.QueuesAndWalks. -/
theorem witness_TimetableAndWalk :
    let s := linkIn 5000 .listen id
    let on := s.setReg (.db .LCFG) 1 0x80000001
    let tt := on.setReg (.db .TT) 16 0x80
    let walk := updBus 1 (fun d => { d with walk := true, stack := [(0, 0)] }) s
    sane s = true ∧ wr .a0 (.db .LCFG) 0x80000001 s = true ∧ wr .a0 (.db .ENCTL) 0x80000000 tt = true ∧ wr .a0 (.db .AUID) 77 s = true ∧
    okNext (exec (.timetableRun .a0 1 1) s) (fun t => t.rbit (.db .LCFG) 1 31 && (bus1 t).ttNext == 0) = true ∧
    okNext (exec (.timetableHalt .a0 1 1) on) (fun t => !t.rbit (.db .LCFG) 1 31) = true ∧
    okNext (exec (.enumGo .a0 1 0) tt) (fun t => (bus1 t).walk && (bus1 t).enState == 1) = true ∧
    okNext (exec (.enumGo .a0 1 0) on) (fun t => !(bus1 t).walk && (bus1 t).enState == 3) = true ∧
    okNext (exec (.enumStop .a0 1 0) walk) (fun t => !(bus1 t).walk && (bus1 t).stack.isEmpty) = true ∧
    ((bus1 s).acts[asel .a0 1 s]).state = 0 ∧
    okNext (exec (.auidWrite .a0 1 77) s) (fun t => ((bus1 t).acts[asel .a0 1 s]).state == 1) = true ∧
    okNext (exec (.auidWrite .a0 1 77) (updAct 1 (asel .a0 1 s) (fun a => { a with state := 2 }) s)) (fun t => t.reg (.db .AUID) (32 + (asel .a0 1 s).val) == 0) = true := by
  decide +kernel

/-! ### Host port (chapter 10) -/

/-- A host port in direct mode with an agreed version, and a booted bank. -/
def hostHub (v : Nat) : State :=
  updNvm (fun n => { n with booted := some 0 })
    (((quietHub 5000).setReg (.hp .CFG) 0 0x80000000).setReg (.hp .VER) 0 (BitVec.ofNat 32 v))

/-- `DirectPort` as a test. -/
def direct (s : State) : Bool :=
  hostOn s && !(chained s) && !(recovery s) && s.host.session.isNone && decide (1 ≤ s.rfld (.hp .VER) 0 7 0)

theorem direct_port (s : State) (h : direct s = true) : DirectPort s := by
  simp only [direct, Bool.and_eq_true, decide_eq_true_eq, Bool.not_eq_true', Option.isNone_iff_eq_none] at h
  exact ⟨h.1.1.1.1, h.1.1.1.2, h.1.1.2, h.1.2, h.2⟩

/-- Word 1 of a command frame. -/
def word1 (op a0 a1 : Nat) : Word :=
  at_ (crc16 (wordBe (at_ op 24 ||| at_ a0 0) ++ [BitVec.ofNat 8 (a1 / 256), BitVec.ofNat 8 a1])).toNat 16 ||| at_ a1 0

/-- A command frame with its check words right. -/
def frame (op a0 a1 : Nat) (body : List Word) : HostFrame :=
  .direct (BitVec.ofNat 24 a0) (word1 op a0 a1) (body ++ [at_ (crcWords body) 0]) 0

/-- It is one in the sense of `FrameOf`.
For Obligations.HostFramesAndResults. -/
theorem witness_FrameOf : FrameOf 4 0 66 [] (frame 4 0 66 []) :=
  ⟨by decide, by decide, at_ (crcWords []) 0, rfl, by decide⟩

/-- The command last received, and its result. -/
def hostEnded (op r : Nat) (t : State) : Bool := t.rfld (.hp .RESULT) 0 15 8 == op && t.rfld (.hp .RESULT) 0 7 0 == r

/-- For Obligations.HostFramesAndResults. -/
theorem witness_HostFrames :
    let s := hostHub 2
    direct s = true ∧ sane s = true ∧ idleWait s = true ∧ s.power.hub ≠ .calm ∧ (hostHub 1).rfld (.hp .VER) 0 7 0 = 1 ∧
    okNext (exec .frameSelect s) (fun t => t.host.selected) = true ∧
    okNext (exec .statusPoll s) (fun t => t.host.out.length == 1 && !t.host.selected) = true ∧
    okNext (exec (.hello (.direct 1 (word1 1 1 0) [] 31)) s) (fun t => t.rbit (.hp .STAT) 0 1 && t.rfld (.hp .FRAMES) 0 15 0 == 1) = true ∧
    okNext (exec (.hello (.direct 1 0 [] 0)) s) (hostEnded 1 2) = true ∧
    okNext (exec (.powerReq (.direct 0 (word1 8 0 0) [1] 0)) s) (hostEnded 8 3) = true ∧
    okNext (exec (.powerReq (.direct 0 (word1 8 0 0) [] 0)) s) (fun t => hostEnded 8 1 t && t.rbit (.hp .STAT) 0 2) = true ∧
    okNext (exec (.badopFrame 13 (frame 13 0 0 [])) s) (hostEnded 13 4) = true ∧
    okNext (exec (.badopFrame 0 (frame 0 0 0 [])) s) (hostEnded 0 4) = true ∧
    okNext (exec (.shunt (frame 6 0 0 [])) (hostHub 1)) (hostEnded 6 5) = true ∧
    okNext (exec (.sessionOpen (frame 12 1 0 [0, 0])) (hostHub 1)) (hostEnded 12 5) = true ∧
    okNext (exec (.hello (frame 1 0 0 [0, 0])) s) (hostEnded 1 6) = true ∧
    okNext (exec (.powerReq (frame 8 4 0 [])) s) (hostEnded 8 6) = true := by decide +kernel

/-- For Obligations.HostCommands. -/
theorem witness_HostCommands :
    let s := hostHub 2
    let w := s.setReg (.hp .WIN) 0 0xC4010401
    let ch := s.setReg (.hp .CFG) 0 0xC0000000
    direct w = true ∧ governing false false 0x40104 w = some 0xC4010401 ∧ governing true false 0x40104 w = some 0xC4010401 ∧
    governing false false 0x40104 s = none ∧ rangeEnd 0xC4010401 = 0x40200 ∧ hostOn ch = true ∧ chained ch = true ∧
    (match regAt 0x40040104 with
      | some (some q, _) => rd .host q.reg w && decide (q.reg = .rk .CnWMARK)
      | _ => false) = true ∧
    okNext (exec (.hello (frame 1 255 0 [0, 0])) s) (fun t => hostEnded 1 0 t && t.rfld (.hp .VER) 0 7 0 == 3) = true ∧
    okNext (exec (.readReg (frame 2 0x40104 1 [0])) s) (hostEnded 2 7) = true ∧
    okNext (exec (.readReg (frame 2 0x40104 1 [0])) w) (hostEnded 2 0) = true ∧
    okNext (exec (.readReg (frame 2 0x401FC 2 [0, 0])) w) (hostEnded 2 8) = true ∧
    okNext (exec (.writeReg (frame 3 0x40104 1 [0x1FFFF])) w) (fun t => hostEnded 3 0 t && t.reg (.rk .CnWMARK) 0 == 0x1FFFF) = true ∧
    okNext (exec (.writeReg (frame 3 0x40104 1 [5])) s) (hostEnded 3 7) = true ∧
    okNext (exec (.powerReq (frame 8 3 0 [])) s) (hostEnded 8 0) = true ∧
    okNext (exec (.sync (frame 9 0 0 [0, 0]) 3) s) (fun t => hostEnded 9 0 t && t.reg (.hp .SYNCL) == 4997 && t.rfld (.hp .SYNCH) 0 31 16 == 1) = true ∧
    okNext (exec (.almanacRead (frame 10 1023 1 (List.replicate 4 0))) s) (hostEnded 10 0) = true ∧
    okNext (exec (.notifyCfg (frame 11 0xFFFF 0 [])) s) (fun t => hostEnded 11 0 t && t.reg (.hp .NMASK) == 0x7F) = true ∧
    okNext (exec (.noOperation (.chain 0 0 0 0)) ch) (fun t => hostEnded 0 0 t && t.host.out.length == 2) = true := by decide +kernel

/-- An empty queue, one record, and the same response sent again.
For Obligations.HostBatchesLongCommandsSessions. -/
theorem witness_Batches :
    let s := (hostHub 2).setReg (.rk .CnCTRL) 0 0x80000000
    let one := updMerger (fun m => { m with cursors := m.cursors.set 0 { m.cursors[0] with avail := 3 } }) (s.writeWord queueBase (header 2 3 5 0))
    let u : Unacked := { bytes := ofWords [7, 8], queued := 0, epoch := true }
    let sent := updHost (fun h => { h with sent := h.sent.set 0 (some u) }) s
    let acked := updHost (fun h => { h with sent := h.sent.set 0 (some { u with queued := 12 }) }) one
    direct s = true ∧ (s.merger.cursors[0]).avail = 0 ∧ recLen one (one.merger.cursors[0]).index = 3 ∧ (one.merger.cursors[0]).offset = 0 ∧
    okNext (exec (.readBatch (frame 4 0 66 (List.replicate 66 0))) s) (fun t => hostEnded 4 0 t && (t.host.sent[0]).isNone &&
      t.host.out.getD 2 0 == 0xFC1FFFFF) = true ∧
    okNext (exec (.readBatch (frame 4 0 66 (List.replicate 66 0))) one) (fun t => (t.host.sent[0]).any (fun x => x.queued == 12) &&
      (t.merger.cursors[0]).avail == 3) = true ∧
    okNext (exec (.readBatch (frame 4 0x800000 66 (List.replicate 66 0))) sent) (fun t => t.host.out.getD 2 0 == 7 && t.host.out.getD 3 0 == 8) = true ∧
    okNext (exec (.readBatch (.direct 0 (word1 4 0 66) [] 1)) acked) (fun t => (t.host.sent[0]).isNone && (t.merger.cursors[0]).avail == 0) = true := by
  decide +kernel

/-- For Obligations.HostBatchesLongCommandsSessions. -/
theorem witness_LongCommands :
    let s := (hostHub 2).setReg (.cw .STGBASE) 0 0x20000000
    let busy := s.setReg (.hp .LONG) 0 0x00800000
    let ended := updHost (fun h => { h with longOut := some 9 }) busy
    direct s = true ∧ chunkPlace 0x20000000 4096 = true ∧ chunkPlace 0x20120000 4 = false ∧ s.power.dom[domFab] = true ∧
    s.coach.loader.phase = .idle ∧
    okNext (exec (.loadConsistChunk (frame 5 0 1 [0x12345678])) s) (fun t => hostEnded 5 0 t && t.readWord 0x20000000 == 0x12345678 &&
      t.rfld (.cw .STGLEN) 0 18 0 == 4) = true ∧
    okNext (exec (.loadConsistChunk (frame 5 0 1 [5])) (updLoader (fun l => { l with locked := true }) s)) (hostEnded 5 9) = true ∧
    okNext (exec (.loadConsistVerify (frame 5 0x400000 0 [])) s) (fun t => hostEnded 5 0 t && t.rbit (.hp .LONG) 0 23 &&
      decide (t.coach.loader.phase = .checking)) = true ∧
    okNext (exec (.loadConsistVerify (frame 5 0x400000 0 [])) busy) (hostEnded 5 9) = true ∧
    okNext (exec (.loadConsistApply (frame 5 0x800000 0 [])) s) (hostEnded 5 10) = true ∧
    okNext (exec (.shunt (frame 6 1 0 [])) s) (hostEnded 6 10) = true ∧
    okNext (exec (.store (frame 7 0 0 []) true) s) (fun t => hostEnded 7 0 t && t.nvm.op.isSome) = true ∧
    okNext (exec .longCommandDone ended) (fun t => t.rfld (.hp .LONG) 0 15 0 == 9 && !t.rbit (.hp .LONG) 0 23 && t.rbit (.hp .STAT) 0 0) = true := by
  decide +kernel

/-- For Obligations.HostBatchesLongCommandsSessions. -/
theorem witness_Sessions :
    let k : KeySlot := { typ := 2, usage := 128, origin := 1, key := List.replicate 16 3 }
    let s := updEnc (fun e => { e with slots := e.slots.set 31 k }) (hostHub 3)
    let x : Session := { slot := 31, key := List.replicate 16 3, ctr := 0 }
    let o := updHost (fun h => { h with session := some x }) s
    direct s = true ∧ hasUsage s.enclave.slots[(31 : Fin 32)] 2 128 = true ∧ s.enclave.entFail = false ∧ x.ctr < 0xFFFFFFFE ∧
    s.rfld (.hp .VER) 0 7 0 = 3 ∧ hostOn o = true := by decide +kernel

/-- For Obligations.HostFramesAndResults. -/
theorem witness_HostPortWrites :
    let s := hostHub 2
    wr .a0 (.hp .SWIRQ) 1 s = true ∧ wr .a0 (.hp .CFG) 0xC0000000 s = true ∧ s.rbit (.hp .CFG) 0 31 = true ∧
    okNext (exec (.hostSwirq .a0 1) s) (fun t => t.rbit (.hp .NSRC) 0 6) = true ∧
    okNext (exec (.hostSwirq .a0 0) s) (fun t => !t.rbit (.hp .NSRC) 0 6) = true ∧
    okNext (exec (.hostPortConfig .a0 0xC0000000) s) (fun t => t.rbit (.hp .CFG) 0 31 && !t.rbit (.hp .CFG) 0 30) = true := by
  decide +kernel

/-! ### Two-wire port (chapter 11) -/

def twHub : State := updNvm (fun n => { n with booted := some 0 }) ((quietHub 9600).setReg (.tw .CFG) 0 0x80000000)

def twEnded (code r : Nat) (t : State) : Bool := t.rfld (.tw .RESULT) 0 15 8 == code && t.rfld (.tw .RESULT) 0 7 0 == r

/-- A command too short, one too long, one with a wrong PEC, one whose required PEC is missing, one with a bad count.
For Obligations.TwoWireWrites. -/
theorem witness_TwWrites :
    let s := twHub
    let pec := s.setReg (.tw .CFG) 0 0xA0000000
    sane s = true ∧ twOn s = true ∧ idleWait s = true ∧ pec.rbit (.tw .CFG) 0 29 = true ∧ s.rbit (.tw .CFG) 0 29 = false ∧
    okNext (exec (.twNotifyCfg [1]) s) (twEnded 16 1) = true ∧
    okNext (exec (.twNotifyCfg [1, 0, 0, 0]) s) (twEnded 16 1) = true ∧
    okNext (exec (.twNotifyCfg [1, 0, (crc8 ([BitVec.ofNat 8 0x70, 16] ++ [1, 0])) + 1]) s) (fun t => t.rfld (.tw .RESULT) 0 7 0 == 3 && t.rbit (.tw .STAT) 0 4) = true ∧
    okNext (exec (.twNotifyCfg [1, 0]) pec) (fun t => t.rfld (.tw .RESULT) 0 7 0 == 3) = true ∧
    okNext (exec (.twNotifyCfg [127, 0]) s) (fun t => twEnded 16 0 t && t.reg (.tw .NMASK) == 127) = true ∧
    okNext (exec (.twPointer [5, 0, 0, 0, 1]) s) (twEnded 2 6) = true ∧
    okNext (exec (.twPointer [4, 0, 0, 0, 1, 2, 3]) s) (twEnded 2 1) = true ∧
    okNext (exec (.twPointer []) s) (twEnded 2 1) = true ∧
    okNext (exec (.twPointer [4, 4, 1, 4, 63]) s) (fun t => twEnded 2 0 t && t.rfld (.tw .PTR) 0 31 26 == 63 && t.rfld (.tw .PTR) 0 23 0 == 0x40104) = true := by
  decide +kernel

/-- For Obligations.TwoWireWrites. -/
theorem witness_TwCommands :
    let s := (twHub.setReg (.tw .PTR) 0 0x04040104).setReg (.cw .STGBASE) 0 0x20000000
    let w := s.setReg (.hp .WIN) 0 0xC4010401
    s.rfld (.tw .PTR) 0 23 0 = 0x40104 ∧ governing true false 0x40104 s = none ∧ governing true false 0x40104 w = some 0xC4010401 ∧
    okNext (exec (.twWriteReg (4 :: wordBytes 5)) s) (twEnded 4 7) = true ∧
    okNext (exec (.twWriteReg (4 :: wordBytes 5)) w) (fun t => twEnded 4 0 t && t.reg (.rk .CnWMARK) 0 == 5 && t.rfld (.tw .PTR) 0 23 0 == 0x40108) = true ∧
    okNext (exec (.twLoadConsistChunk (6 :: 0 :: 0 :: ofWords [0x12345678])) s) (fun t => twEnded 7 0 t && t.readWord 0x20000000 == 0x12345678) = true ∧
    okNext (exec (.twLoadConsistVerify [1]) s) (fun t => twEnded 8 0 t && t.coach.loader.port == 2) = true ∧
    okNext (exec (.twLoadConsistApply [2]) s) (twEnded 8 10) = true ∧
    okNext (exec (.twShunt [0]) s) (twEnded 9 10) = true ∧
    okNext (exec (.twStore [] true) s) (fun t => twEnded 10 0 t && t.nvm.op.isSome) = true ∧
    okNext (exec (.twStore [] true) (s.setReg (.tw .LONG) 0 0x00800000)) (twEnded 10 9) = true ∧
    okNext (exec (.twPowerReq [3]) s) (twEnded 11 0) = true ∧
    okNext (exec (.twSync [] 2) s) (fun t => twEnded 12 0 t && t.reg (.tw .SYNCL) == 9598) = true ∧
    okNext (exec (.twAlmanacPtr [5, 0x10]) s) (fun t => twEnded 14 0 t && t.reg (.tw .APTR) == 0x1005) = true := by decide +kernel

def take (n : Nat) : TwTake := { acked := n, pec := false, extra := 0 }

/-- For Obligations.TwoWireReadsAndWatch. -/
theorem witness_TwReads :
    let s := (twHub.setReg (.tw .PTR) 0 0x04040104).setReg (.tw .APTR) 0 0x13FF
    let w := s.setReg (.hp .WIN) 0 0xC4010401
    okNext (exec (.twStatus (take 2)) s) (fun t => t.tw.out.length == 2) = true ∧
    okNext (exec (.twStatus { acked := 2, pec := true, extra := 1 }) s) (fun t => t.tw.out.length == 3 && t.rbit (.tw .STAT) 0 8) = true ∧
    okNext (exec (.twHello (take 8)) s) (fun t => t.tw.out.take 5 == [8, 0x02, 0x02, 0x40, 0x96]) = true ∧
    okNext (exec (.twReadReg (take 4)) s) (fun t => twEnded 3 7 t && t.tw.out == [4, 0, 0, 0, 0]) = true ∧
    okNext (exec (.twReadReg (take 3)) (w.setReg (.rk .CnWMARK) 0 9)) (fun t => twEnded 3 0 t && t.tw.out == [4, 9, 0, 0, 0] && t.rfld (.tw .PTR) 0 23 0 == 0x40108) = true ∧
    okNext (exec (.twSyncRead (take 8)) (s.setReg (.tw .SYNCL) 0 7)) (fun t => t.tw.out == [8, 7, 0, 0, 0, 0, 0, 0, 0]) = true ∧
    okNext (exec (.twAlmanacRead (take 16)) s) (fun t => t.tw.out.length == 17 && t.rfld (.tw .APTR) 0 9 0 == 0) = true := by decide +kernel

/-- For Obligations.TwoWireReadsAndWatch. -/
theorem witness_TwBatches :
    let s := (twHub.setReg (.rk .CnCTRL) 1 0x80000000).setReg (.tw .BCFG) 0 255
    let one := updMerger (fun m => { m with cursors := m.cursors.set 1 { m.cursors[1] with avail := 3 } }) (s.writeWord queueBase (header 2 3 5 0))
    twOn one = true ∧ one.tw.sent = none ∧ recLen one 0 = 3 ∧ 4 * 3 + 12 ≤ one.rfld (.tw .BCFG) 0 7 0 ∧ one.rbit (.tw .CFG) 0 28 = false ∧
    okNext (exec (.twReadBatch (take 0)) s) (fun t => t.tw.out == [0]) = true ∧
    okNext (exec (.twReadBatch (take 24)) one) (fun t => t.tw.out.getD 0 0 == 24 && (t.merger.cursors[1]).avail == 0 && (t.merger.cursors[1]).index == 3) = true ∧
    okNext (exec (.twReadBatch (take 24)) (one.setReg (.tw .CFG) 0 0x90000000)) (fun t => t.tw.sent.isSome && (t.merger.cursors[1]).avail == 3) = true ∧
    okNext (exec (.twBatchAgain (take 24)) one) (fun t => t.rbit (.tw .STAT) 0 5) = true := by decide +kernel

/-- For Obligations.TwoWireReadsAndWatch. -/
theorem witness_TwWatch :
    let s := twHub
    let lull := updPower (fun p => { p with hub := .lull }) (s.setReg (.tw .CFG) 0 0x80000000)
    let held := updTw (fun x => { x with held := some 3840 }) s
    let calm := updPower (fun p => { p with hub := .calm }) s
    let note (n : Nat) : State := updTw (fun x => { x with notify := true, tries := n }) s
    lull.power.exit = .none ∧ lull.tw.held = none ∧ reached held (3840 + 5760) = true ∧ s.power.parked[9] = false ∧
    okNext (exec (.stretchTimeout 3) s) (fun t => t.rbit (.tw .STAT) 0 9 && t.rfld (.tw .RESULT) 0 7 0 == 9) = true ∧
    okNext (exec .busTimeout s) (fun t => t.rbit (.tw .STAT) 0 10) = true ∧
    okNext (exec (.twUnknownCode 0x11) s) (fun t => t.rbit (.tw .STAT) 0 5) = true ∧
    okNext (exec .addressMatch lull) (fun t => t.tw.held.isSome && t.power.twMatch) = true ∧
    okNext (exec .twTakeover held) (fun t => t.tw.held.isNone) = true ∧
    okNext (exec .matcherRelease held) (fun t => t.tw.held.isNone && t.rbit (.tw .STAT) 0 9) = true ∧
    okNext (exec .calmAddressWake calm) (fun t => decide (t.power.hub = .lull) && t.rbit (.pw .WAKE) 0 5) = true ∧
    okNext (exec (.hostNotify .sent) (note 0)) (fun t => !t.tw.notify && t.tw.out.length == 3) = true ∧
    okNext (exec (.hostNotify .arb) (note 6)) (fun t => t.tw.notify && t.tw.tries == 7 && t.rfld (.tw .NOTIFYLOST) 0 15 0 == 1) = true ∧
    okNext (exec (.hostNotify .nack) (note 7)) (fun t => t.rbit (.tw .STAT) 0 11 && t.rfld (.tw .NOTIFYLOST) 0 31 16 == 1) = true ∧
    okNext (exec (.twSwirqSet .a0 1) s) (fun t => t.rbit (.tw .NSRC) 0 6) = true ∧
    okNext (exec .twLongDone (updTw (fun x => { x with longOut := some 4 }) (s.setReg (.tw .LONG) 0 0x00800000)))
      (fun t => t.rfld (.tw .LONG) 0 15 0 == 4 && !t.rbit (.tw .LONG) 0 23) = true := by decide +kernel

/-! ### Sensor port and flash window (chapter 12) -/

/-- Profile 15 selected by A0, enabled and bound to a channel. -/
def spHub (n : Nat) : State :=
  ((((hubAt n).setReg (.sp .SEL) (accU .a0) 15).setReg (.sp .PCFG) 15 0x80080000).setReg (.sp .CFG) 0 0x80000000)

def framed (w : SpWork) (s : State) : State :=
  updSp (fun p => { p with frame := some { work := w, out := [], endAt := 0, selHigh := 4 } }) s

/-- For Obligations.SensorProfiles. -/
theorem witness_ProfileTriggers :
    let s := spHub 5000
    let pend := updSp (fun p => { p with pend := p.pend.set 15 true }) s
    sane s = true ∧ wr .a0 (.sp .PCMD) 1 s = true ∧ selProfile .a0 s = 15 ∧ s.rbit (.sp .PCFG) 15 31 = true ∧ s.rbit (.sp .PCFG) 15 19 = true ∧
    okNext (exec (.profileTrigger 15) s) (fun t => t.sensor.pend[15]) = true ∧
    okNext (exec (.profileTrigger 15) pend) (fun t => t.rbit (.ev .SPMISS) 0 15 && t.rbit (.ev .STAT) 0 2) = true ∧
    okNext (exec (.profileTrigger 14) s) (fun t => !t.sensor.pend[14]) = true ∧
    okNext (exec (.profileGo .a0) s) (fun t => t.sensor.pend[15]) = true := by decide

/-- For Obligations.SensorProfiles. -/
theorem witness_SensorFrames :
    let s := updSp (fun p => { p with pend := p.pend.set 15 true }) ((spHub 5000).setReg (.sp .PPHASE) 15 0x01000002)
    let rx := framed (.profile 15) (((spHub 5000).setReg (.sp .PPHASE) 15 2).setReg (.sp .PCFG) 15 0x80001400)
    let buf := rx.setReg (.sp .PBUF) 15 0x20000000
    stLe (stAdd s.sensor.selHigh (s.rfld (.sp .CFG) 0 7 0)) s.now = true ∧ s.sensor.op = none ∧ s.rfld (.sp .PPHASE) 15 25 24 = 1 ∧
    okNext (exec .sensorFrameStart s) (fun t => t.sensor.frame.any (fun x => decide (x.work = .profile 15) && x.out.length == 1) && !t.sensor.pend[15]) = true ∧
    sane buf = true ∧ buf.rfld (.sp .PPHASE) 15 12 0 = 2 ∧ buf.rbit (.sp .PCFG) 15 10 = true ∧ sramRangeOk 0x20000000 2 = true ∧
    okNext (exec (.sensorFrameEnd [1, 2]) buf) (fun t => t.sensor.frame.isNone && t.rbit (.sp .PSTAT) 15 1 && t.readByte 0x20000001 == 2 &&
      t.merger.arriving.any (fun r => r.typ == tMeasure && r.source == 0xCF)) = true := by decide +kernel

/-- The first and last byte of the banks that a buffer may use.
For Obligations.SensorProfiles. -/
theorem witness_ProfileBuffers :
    let s := (spHub 5000).setReg (.sp .PPHASE) 15 4
    wr .a0 (.sp .PBUF) 0x20000000 s = true ∧ wr .a0 (.sp .PPHASE) 4096 s = true ∧
    sramRangeOk 0x200BFFFC 4 = true ∧ sramRangeOk 0x200BFFFC 5 = false ∧ sramRangeOk 0x20100000 4 = true ∧ sramRangeOk 0x1FFFFFFC 4 = false ∧
    okNext (exec (.profileBufferWrite .a0 false 0x200BFFFC) s) (fun t => t.reg (.sp .PBUF) 15 == 0x200BFFFC) = true ∧
    okNext (exec (.profileBufferWrite .a0 false 0x200C0000) s) (fun t => t.reg (.sp .PBUF) 15 == s.reg (.sp .PBUF) 15) = true ∧
    okNext (exec (.profileBufferWrite .a0 true 4097) s) (fun t => t.reg (.sp .PPHASE) 15 == s.reg (.sp .PPHASE) 15) = true := by decide

/-- For Obligations.FlashWindow. -/
theorem witness_ModeFault :
    let s := framed (.profile 15) ((spHub 5000).setReg (.sp .CFG) 0 0xC0000000)
    sane s = true ∧ s.rbit (.sp .CFG) 0 30 = true ∧ s.sensor.op = none ∧
    okNext (exec (.modeFault true) s) (fun t => t.sensor.frame.isNone && t.rbit (.sp .STAT) 0 1 && t.rbit (.sp .PSTAT) 15 3) = true ∧
    okNext (exec (.modeFault true) (spHub 5000)) (fun t => t.sensor.smmLow) = true := by decide +kernel

/-- For Obligations.FlashWindow. -/
theorem witness_WindowAccesses :
    let s := spHub 5000
    let line : CacheLine := { line := 1, bytes := List.replicate 32 9 }
    let hit := updSp (fun p => { p with cache := [line] }) s
    let b : PageBuf := { start := 0x100, bytes := List.replicate 252 7, last := 0 }
    let buf := updSp (fun p => { p with buf := some b }) s
    regionOf 0x60000020 4 = .window ∧ sees .a0 .window s = true ∧
    okNext (exec (.windowRead .a0 0x20 4) hit) (fun t => decide (lastAnswer .a0 t = .bytes [9, 9, 9, 9])) = true ∧
    okNext (exec (.windowRead .a0 0x40 4) hit) (fun t => (t.acc[accIx .a0]).stalled.isSome) = true ∧
    okNext (exec (.windowRead .a0 0x20 4) (s.setReg (.sp .CFG) 0 0)) (fun t => decide (lastAnswer .a0 t = .busError) && t.rbit (.sp .STAT) 0 2) = true ∧
    okNext (exec (.windowRead .a0 0x1000000 4) s) (fun t => decide (lastAnswer .a0 t = .busError)) = true ∧
    okNext (exec (.windowWrite .a0 0x20 4 0x04030201) s) (fun t => t.sensor.buf.any (fun b => b.start == 0x20 && b.bytes == [1, 2, 3, 4])) = true ∧
    okNext (exec (.windowWrite .a0 0x1FC 4 5) buf) (fun t => t.sensor.buf.isNone && t.sensor.op.any (fun o => o.code == 1 && o.bytes.length == 256)) = true ∧
    okNext (exec (.windowRead .a0 0x20 4) buf) (fun t => t.sensor.op.isSome && t.sensor.buf.isNone) = true := by decide +kernel

/-- For Obligations.FlashWindow. -/
theorem witness_FlashOperations :
    let b : PageBuf := { start := 0x100, bytes := [7], last := 0 }
    let buf (n : Nat) : State := updSp (fun p => { p with buf := some b }) (spHub n)
    let o : FlashOp := { code := 2, addr := 0, bytes := [], step := .polling, pollStart := 0, nextPoll := 0 }
    let poll := framed .poll (updSp (fun p => { p with op := some o }) (spHub 5000))
    let busy (n : Nat) : State := (updSp (fun p => { p with op := some o }) (spHub n)).setReg (.sp .FPOLL) 0 1
    wr .a0 (.sp .FCMD) (0x10000000 ||| 0x3FFFFFF) (spHub 5000) = true ∧ sane poll = true ∧
    okNext (exec .pageBufferIdle (buf (us 50))) (fun t => t.sensor.op.any (fun x => x.code == 1 && x.addr == 0x100)) = true ∧
    okNext (exec .pageBufferIdle (buf (us 50 - 1))) (fun t => t.sensor.op.isNone) = true ∧
    okNext (exec (.flashStatusPoll 0xFF) poll) (fun t => t.sensor.op.isSome && t.sensor.frame.isNone) = true ∧
    okNext (exec (.flashStatusPoll 0) poll) (fun t => t.sensor.op.isNone && t.rbit (.sp .FSTAT) 0 0) = true ∧
    okNext (exec .flashOperationTimeout (busy (ms 10))) (fun t => t.sensor.op.isNone && t.rbit (.sp .FSTAT) 0 2) = true ∧
    okNext (exec .flashOperationTimeout (busy (ms 10 - 1))) (fun t => t.sensor.op.isSome) = true ∧
    okNext (exec (.flashEraseSector .a0 0x3FFFFFF) (spHub 5000)) (fun t => t.sensor.op.any (fun x => x.code == 2 && x.addr == 0x3FFFFFF)) = true ∧
    okNext (exec (.flashEraseBlock .a0 5) (buf 0)) (fun t => t.sensor.op.any (fun x => x.code == 1) && t.sensor.after.any (fun x => x.code == 3)) = true ∧
    okNext (exec (.flashEraseDevice .a0) (spHub 5000)) (fun t => t.sensor.op.any (fun x => x.code == 4)) = true ∧
    okNext (exec (.flashProgramBuffer .a0) (buf 0)) (fun t => t.sensor.op.any (fun x => x.code == 1)) = true ∧
    okNext (exec (.cacheInvalidate .a0) (updSp (fun p => { p with cache := [{ line := 1, bytes := [] }] }) (spHub 5000))) (fun t => t.sensor.cache.isEmpty) = true := by
  decide +kernel

/-! ### Event router (chapter 13) -/

def pubOn (c : Fin 64) (hop : Nat) : Publication := ⟨some c, 0, true, hop, false, 4, 3, 0, 0, false⟩

/-- One publication on channel 63, whose gate is open. -/
def routerHub (hop : Nat) : State :=
  { (hubAt 5000).setReg (.ev .GATE) 0 0xFF with router := { inflight := [pubOn 63 hop], gateHeld := none, last := [] } }

/-- For Obligations.RouterDelivers. -/
theorem witness_RouterDelivers :
    let s := (routerHub 0).setReg (.ev .CTRL) 0 4
    let sub (w : Word) : State := s.setReg (.ev .SUB) (63 * 8) w
    sane s = true ∧ dueEdge (pubOn 63 0) ≤ s.clk.edge ∧ s.power.parked[11] = false ∧ s.rfld (.ev .CTRL) 0 2 0 = 4 ∧
    okNext (exec .eventDelivery s) (fun t => t.rbit (.ev .SEENH) 0 31 && t.rfld (.ev .CCNT) 63 31 16 == 1) = true ∧
    okNext (exec .eventDelivery ((routerHub 5).setReg (.ev .CTRL) 0 4)) (fun t => t.rbit (.ev .CSTAT) 63 3 && t.rbit (.ev .STAT) 0 3) = true ∧
    okNext (exec .eventDelivery (s.setReg (.ev .GATE) 0 0x7F)) (fun t => t.rbit (.ev .CSTAT) 63 2 && t.rfld (.ev .CCNT) 63 15 0 == 1) = true ∧
    okNext (exec .eventDelivery (sub 0x80070000)) (fun t => t.merger.arriving.any (fun r => r.typ == tEvent && r.source == 0xBF)) = true ∧
    okNext (exec .eventDelivery (sub 0x8008000F)) (fun t => (t.ic.sources[ix 160 15]).latch) = true ∧
    okNext (exec .eventDelivery (sub 0x80040500)) (fun t => (t.timers[(5 : Fin 16)]).run) = true ∧
    okNext (exec .eventDelivery (s.setReg (.sp .PCFG) 2 (0x80080000 ||| at_ 63 13))) (fun t => t.sensor.pend[2]) = true ∧
    okNext (exec .eventDelivery { s with router := { s.router with inflight := [pubOn 63 1, pubOn 63 0] } })
      (fun t => t.rbit (.ev .CSTAT) 63 1 && t.rfld (.ev .LASTINF) 63 31 29 == 1 && t.rfld (.ev .CCNT) 63 31 16 == 1) = true := by decide +kernel

/-- For Obligations.RouterDelivers. -/
theorem witness_RouterWrites :
    let s := (hubAt 5000).setReg (.ev .SEL) (accU .a0) 63
    let theirs := s.setReg (.ev .CCFG) 63 (at_ 1 30)
    let busy := { s with router := { s.router with inflight := [pubOn 63 0] } }
    wr .a0 (.ev .SWPUBH) 0x80000000 s = true ∧ wr .a0 (.ev .GATE) 0xFF s = true ∧ wr .a0 (.ev .PUB) 0x80040F03 s = true ∧
    wr .a0 (.ev .SUB) 0x80040F04 s = true ∧ mayWriteChannel .a0 63 s = true ∧ mayWriteChannel .a0 63 theirs = false ∧
    okNext (exec (.softwarePublish .a0 true 0x80000000) s) (fun t => t.router.inflight.any (fun p => decide (p.channel = some 63) && p.sw)) = true ∧
    okNext (exec (.softwarePublish .a0 true 0x80000000) theirs) (fun t => t.router.inflight.isEmpty && t.rbit (.ev .STAT) 0 0) = true ∧
    okNext (exec (.gateWrite .a0 0xA5) s) (fun t => t.reg (.ev .GATE) == 0xA5) = true ∧
    okNext (exec (.gateWrite .a0 0xA5) busy) (fun t => t.router.gateHeld.isSome) = true ∧
    okNext (exec (.gateWrite .a0 0) (s.setReg (.ev .CCFG) 63 0xC0000000)) (fun t => t.reg (.ev .GATE) == 0x80) = true ∧
    okNext (exec (.routeEntryWrite .a0 (.pub 3) 0x80040F03) s) (fun t => t.reg (.ev .PUB) (63 * 8 + 3) == 0x80040F03) = true ∧
    okNext (exec (.routeEntryWrite .a0 (.pub 3) 0x80040F04) s) (fun t => t.reg (.ev .PUB) (63 * 8 + 3) == s.reg (.ev .PUB) (63 * 8 + 3)) = true ∧
    okNext (exec (.routeEntryWrite .a0 (.sub 7) 0x80040F04) s) (fun t => t.rbit (.ev .SUB) (63 * 8 + 7) 31 && t.rfld (.ev .SUB) (63 * 8 + 7) 23 0 == 0x040F04) = true ∧
    okNext (exec (.routeEntryWrite .a0 (.sub 7) 0x80040F05) s) (fun t => !t.rbit (.ev .SUB) (63 * 8 + 7) 31) = true ∧
    okNext (exec (.routeEntryWrite .a0 (.sub 7) 0x80040F04) theirs) (fun t => t.rbit (.ev .STAT) 0 0) = true := by decide +kernel


/-! ### Timers (chapter 14) -/

/-- Timer 15 in a state of the test's choice, selected by A0. -/
def timHub (f : Timer → Timer) : State :=
  let s := hubAt 5000
  { s with timers := upd s.timers (15 : Fin 16) f }.setReg (.tm .SEL) (accU .a0) 15

/-- What the test reads of timer 15. -/
def t15 (t : State) : Timer := t.timers[(15 : Fin 16)]

/-- For Obligations.TimersRunAndCapture. -/
theorem witness_TimersRunAndCapture :
    let s := ((timHub (fun x => { x with count := 7, reload := 9 })).setReg (.tm .CMPA) 15 7).setReg (.tm .OUT) 15 0x40
    let late := ((timHub (fun x => { x with count := 7, reload := 9 })).setReg (.tm .CMPA) 15 0xFFFFFFFF).setReg (.tm .CMPB) 15 9
    let going := timHub (fun x => { x with run := true, count := 5, reload := 9, pend := true, full := true })
    let edges := going.setReg (.tm .CFG) 15 0x28000000
    sane s = true ∧ selTimer .a0 s = 15 ∧ wr .a0 (.tm .CMD) 1 s = true ∧ wr .a0 (.tm .CMD) 8 s = true ∧
    wr .a0 (.tm .GSTART) 0x8001 s = true ∧ rd .a0 (.tm .CAP) s = true ∧ s.power.parked[12] = false ∧
    okNext (exec (.timerStart (.register .a0)) s) (fun t => (t15 t).run && (t15 t).aFired && t.rbit (.tm .OUT) 15 31 && t.rbit (.tm .STAT) 15 4 && t.router.inflight.length == 1) = true ∧
    okNext (exec (.timerStart (.task 15)) late) (fun t => (t15 t).run && !(t15 t).aFired && t.rbit (.tm .STAT) 15 1 && t.router.inflight.isEmpty) = true ∧
    okNext (exec (.timerStart (.task 15)) going) (fun t => decide (t.timers = going.timers)) = true ∧
    okNext (exec (.timerGroupStart .a0 0x8001) s) (fun t => (t15 t).run && t.timers[(0 : Fin 16)].run && !t.timers[(1 : Fin 16)].run && (t15 t).count == 7) = true ∧
    okNext (exec (.timerStop (.register .a0)) (going.setReg (.tm .OUT) 15 1)) (fun t => !(t15 t).run && t.rbit (.tm .OUT) 15 31 && (t15 t).count == 5) = true ∧
    okNext (exec (.timerStop (.task 15)) (s.setReg (.tm .OUT) 15 1)) (fun t => !(t15 t).run && !t.rbit (.tm .OUT) 15 31) = true ∧
    okNext (exec (.timerClear (.register .a0)) ((going.setReg (.tm .RELOAD) 15 3).setReg (.tm .CMPA) 15 4)) (fun t => (t15 t).count == 0 && (t15 t).run && (t15 t).reload == 3 && !(t15 t).pend && t.rbit (.tm .STAT) 15 1) = true ∧
    okNext (exec (.timerCapture (.register .a0)) going) (fun t => t.reg (.tm .CAP) 15 == 5 && t.rbit (.tm .STAT) 15 0 && t.rbit (.tm .STAT) 15 7 && (t15 t).capStamp == 5000) = true ∧
    okNext (exec (.timerCapture (.task 15)) s) (fun t => (t15 t).full && !t.rbit (.tm .STAT) 15 0) = true ∧
    okNext (exec (.timerCapture (.pin 15 false)) edges) (fun t => t.reg (.tm .CAP) 15 == 5) = true ∧
    okNext (exec (.timerCapture (.pin 15 true)) (edges.setReg (.tm .CFG) 15 0x24000000)) (fun t => decide (t.reg (.tm .CAP) 15 = going.reg (.tm .CAP) 15)) = true ∧
    okNext (exec (.captureRead .a0) (going.setReg (.tm .CAP) 15 77)) (fun t => decide (lastAnswer .a0 t = .data 77) && !(t15 t).full) = true := by
  decide +kernel

/-- For Obligations.TimersCountAndWrites. -/
theorem witness_TimersCountAndWrites :
    let ev := (timHub (fun x => { x with run := true, count := 8, reload := 9, pre := 1 })).setReg (.tm .CFG) 15 0x40010000
    let last := ((timHub (fun x => { x with run := true, count := 9, reload := 9, pend := true })).setReg (.tm .RELOAD) 15 4).setReg (.tm .CMPA) 15 0
    let near := ((timHub (fun x => { x with run := true, count := 8, reload := 9 })).setReg (.tm .CMPA) 15 9).setReg (.tm .CMPB) 15 9
    let one := (near.setReg (.tm .CMPB) 15 3).setReg (.tm .OUT) 15 0x40
    let still := timHub (fun x => { x with count := 8, reload := 9 })
    sane ev = true ∧ wr .a0 (.tm .CMPA) 8 near = true ∧ wr .a0 (.tm .CMPB) 8 near = true ∧ wr .a0 (.tm .RELOAD) 2 near = true ∧
    wr .a0 (.tm .CNT) 6 still = true ∧ wr .a0 (.tm .CFG) 0x40000000 still = true ∧ wr .a0 (.tm .OUT) 0x80000000 still = true ∧
    okNext (exec (.timerCountEvent 15) ev) (fun t => (t15 t).count == 9 && (t15 t).pre == 0) = true ∧
    okNext (exec (.timerCountEvent 15) (ev.setReg (.tm .CFG) 15 0x40FF0000)) (fun t => (t15 t).count == 8 && (t15 t).pre == 2) = true ∧
    okNext (exec (.timerCountEvent 15) (ev.setReg (.tm .CFG) 15 0)) (fun t => (t15 t).pre == 1) = true ∧
    okNext (exec (.timerCountEvent 15) (last.setReg (.tm .CFG) 15 0x40000000)) (fun t => (t15 t).count == 0 && t.rbit (.tm .STAT) 15 6 && t.router.inflight.any (fun q => q.output == 2)) = true ∧
    okNext (exec (.timerWrap 15) last) (fun t => (t15 t).count == 0 && (t15 t).reload == 4 && !(t15 t).pend && t.rbit (.tm .STAT) 15 6 && (t15 t).aFired && t.router.inflight.any (fun q => q.output == 0)) = true ∧
    okNext (exec (.timerWrap 15) near) (fun t => (t15 t).count == 8) = true ∧
    okNext (exec (.compareFire 15) one) (fun t => (t15 t).count == 9 && (t15 t).aFired && !(t15 t).bFired && t.rbit (.tm .OUT) 15 31 && t.rbit (.tm .STAT) 15 4) = true ∧
    okNext (exec (.compareFire 15) (one.setReg (.tm .OUT) 15 0x80000080)) (fun t => !t.rbit (.tm .OUT) 15 31) = true ∧
    okNext (exec (.compareFire 15) still) (fun t => (t15 t).count == 8) = true ∧
    okNext (exec (.compareWrite .a0 false 8) near) (fun t => (t15 t).aFired && t.router.inflight.any (fun q => q.output == 0) && t.reg (.tm .CMPA) 15 == 8) = true ∧
    okNext (exec (.compareWrite .a0 true 10) near) (fun t => !(t15 t).bFired && t.rbit (.tm .STAT) 15 1) = true ∧
    okNext (exec (.compareWrite .a0 true 9) near) (fun t => !(t15 t).bFired && !t.rbit (.tm .STAT) 15 1) = true ∧
    okNext (exec (.compareWrite .a0 true 0) still) (fun t => !(t15 t).bFired && t.router.inflight.isEmpty) = true ∧
    okNext (exec (.reloadWrite .a0 2) near) (fun t => (t15 t).pend && (t15 t).reload == 9 && t.reg (.tm .RELOAD) 15 == 2) = true ∧
    okNext (exec (.reloadWrite .a0 2) (near.setReg (.tm .CFG) 15 0x80000000)) (fun t => (t15 t).reload == 2 && t.rbit (.tm .STAT) 15 2 && t.rbit (.tm .STAT) 15 1) = true ∧
    okNext (exec (.timerConfigWrite .a0 true 6) still) (fun t => (t15 t).count == 6) = true ∧
    okNext (exec (.timerConfigWrite .a0 true 6) near) (fun t => (t15 t).count == 8 && t.rbit (.tm .STAT) 15 3) = true ∧
    okNext (exec (.timerConfigWrite .a0 false 0xFFFF0000) still) (fun t => t.reg (.tm .CFG) 15 == still.reg (.tm .CFG) 15) = true ∧
    okNext (exec (.timerConfigWrite .a0 false 0x5A010000) still) (fun t => t.rfld (.tm .CFG) 15 31 16 == 0x5801) = true ∧
    okNext (exec (.outputLevelWrite .a0 0xFFFFFFFF) still) (fun t => t.reg (.tm .OUT) 15 == 0x800003FF) = true := by
  decide +kernel

/-! ### Interrupts and processors (chapter 15) -/

/-- Source 80 latched at priority 5 for A0 and A1, both accepting and out of reset, and source 95 at priority 5 for A0. -/
def irqHub (routed : Option (Fin 3)) : State :=
  let s := hubAt 5000
  let one (x : IntSource) : IntSource := { x with latch := true, routed := routed }
  let cores := upd (upd s.ic.cores (0 : Fin 3) (fun c => { c with inReset := false })) (1 : Fin 3) (fun c => { c with inReset := false })
  let s := { s with ic := { s.ic with cores := cores, sources := upd (upd s.ic.sources (80 : Fin 160) one) (95 : Fin 160) one } }
  (((s.setReg (.ic .SRC) 80 0x305).setReg (.ic .SRC) 95 0x105).setReg (.ic .CPUCTLx) 0 0x80000000).setReg (.ic .CPUCTLx) 1 0x80000000

/-- A core in a state of the test's choice. -/
def coreHub (x : Fin 3) (f : Core → Core) (s : State) : State := { s with ic := { s.ic with cores := upd s.ic.cores x f } }

/-- For Obligations.InterruptsServed. -/
theorem witness_InterruptsServed :
    let s := irqHub none
    let serve (y : IntSource) : IntSource := { y with service := some 0, prio := 9, routed := none }
    let busy := { s with ic := { s.ic with sources := upd s.ic.sources (5 : Fin 160) serve } }
    let stopped := coreHub 1 (fun c => { c with stopped := true }) (coreHub 0 (fun c => { c with inReset := true }) (s.setReg (.ic .CPUCTLx) 0 0))
    let wake := (hubAt 5000).setReg (.vn .WAKECFG) 0 0x80000000
    sane s = true ∧ s.clk.busOn = true ∧ isPending s 80 = true ∧ coreLevel busy 0 = 9 ∧ coreLevel s 0 = 0 ∧
    okNext (exec .interruptRoute s) (fun t => decide (t.ic.sources[(80 : Fin 160)].routed = some 0) && decide (t.ic.sources[(95 : Fin 160)].routed = some 0)) = true ∧
    okNext (exec .interruptRoute busy) (fun t => decide (t.ic.sources[(80 : Fin 160)].routed = some 1) && decide (t.ic.sources[(95 : Fin 160)].routed = none)) = true ∧
    okNext (exec .interruptRoute stopped) (fun t => decide (t.ic.sources[(95 : Fin 160)].routed = some 1)) = true ∧
    okNext (exec .interruptRoute (s.setReg (.ic .THRx) 0 5)) (fun t => decide (t.ic.sources[(80 : Fin 160)].routed = some 1)) = true ∧
    rd .a0 (.ic .CLAIMx) (irqHub (some 0)) = true ∧
    okNext (exec (.interruptClaim .a0 0) (irqHub (some 0))) (fun t => decide (lastAnswer .a0 t = .data 0x80500050) && decide (t.ic.sources[(80 : Fin 160)].service = some 0) && !t.ic.sources[(80 : Fin 160)].latch) = true ∧
    okNext (exec (.interruptClaim .a0 1) (irqHub (some 1))) (fun t => decide (lastAnswer .a0 t = .data 0)) = true ∧
    wr .a0 (.ic .COMPLETEx) 5 busy = true ∧
    okNext (exec (.interruptComplete .a0 0 5) busy) (fun t => decide (t.ic.sources[(5 : Fin 160)].service = none)) = true ∧
    okNext (exec (.interruptComplete .a0 1 5) busy) (fun t => t.rbit (.ic .STAT) 0 0) = true ∧
    wr .a0 (.ic .SWSET) 0x8001 s = true ∧
    okNext (exec (.softwareInterruptSet .a0 0x8002) s) (fun t => t.ic.sources[(81 : Fin 160)].latch && t.ic.sources[(95 : Fin 160)].arrivals == 1 && t.ic.sources[(81 : Fin 160)].arrivals == 0) = true ∧
    wr .a0 (.ic .SRC) 0xFFFFFFFF s = true ∧
    okNext (exec (.sourceConfigWrite .a0 95 0xFFFFFFFF) s) (fun t => t.reg (.ic .SRC) 95 == 0x70F) = true ∧
    okNext (exec (.sourceConfigWrite .a0 96 0xFFFFFFFF) s) (fun t => t.reg (.ic .SRC) 96 == 0) = true ∧
    okNext (exec (.wakeLatchSet (.pin 3)) wake) (fun t => t.ic.sources[(67 : Fin 160)].latch && t.rbit (.vn .WSTAT) 0 3) = true ∧
    okNext (exec (.wakeLatchSet (.pin 3)) (hubAt 5000)) (fun t => !t.ic.sources[(67 : Fin 160)].latch) = true ∧
    okNext (exec (.wakeLatchSet .hostSelect) (hubAt 5000)) (fun t => t.ic.sources[(70 : Fin 160)].latch && t.rbit (.vn .WSTAT) 0 6) = true := by
  decide +kernel

/-- For Obligations.ProcessorsResetAndWait. -/
theorem witness_ProcessorsResetAndWait :
    let s := irqHub none
    let fall := coreHub 1 (fun c => { c with inReset := true, restartAt := some 5000 }) s
    let breeze := { s with power := { s.power with floorBreeze := true } }
    let asleep := coreHub 1 (fun c => { c with stopped := true, wfi := true, wakeAt := some 5000 }) s
    let quiet := (s.setReg (.ic .CPUCTLx) 0 0).setReg (.ic .CPUCTLx) 1 0
    sane s = true ∧ wr .a0 (.ic .CPUCTLx) 0x80000000 s = true ∧ wr .a0 (.ic .CPUCTLx) 1 s = true ∧
    okNext (exec (.coreAcceptWrite .a0 1 0) s) (fun t => !t.rbit (.ic .CPUCTLx) 1 31) = true ∧
    okNext (exec (.coreResetRequest .a0 1 1) s) (fun t => t.ic.cores[(1 : Fin 3)].inReset && decide (t.ic.cores[(1 : Fin 3)].restartAt = some 5032) && t.rfld (.ic .CPUSTATx) 1 31 28 == 4 && t.ic.sources[(78 : Fin 160)].latch) = true ∧
    okNext (exec (.coreResetRequest .a0 2 1) s) (fun t => decide (t.ic.cores = s.ic.cores)) = true ∧
    okNext (exec (.coreFaultReset 1 .lockup) s) (fun t => t.rfld (.ic .CPUSTATx) 1 31 28 == 3) = true ∧
    okNext (exec (.coreFaultReset 1 (.tcm 0x10010004)) (s.writeByte 0x10010004 9)) (fun t => t.rfld (.ic .CPUSTATx) 1 31 28 == 2 && t.readByte 0x10010004 == 0 && t.rbit (.al .FSTAT) 0 9) = true ∧
    okNext (exec (.coreFaultReset 1 .lockup) fall) (fun t => decide (t.ic.cores = fall.ic.cores)) = true ∧
    okNext (exec (.coreRestart 1) fall) (fun t => !t.ic.cores[(1 : Fin 3)].inReset && decide (t.ic.cores[(1 : Fin 3)].restartAt = none)) = true ∧
    okNext (exec (.coreRestart 1) (coreHub 1 (fun c => { c with restartAt := some 5001 }) fall)) (fun t => t.ic.cores[(1 : Fin 3)].inReset) = true ∧
    okNext (exec (.coreWfi 1) quiet) (fun t => t.ic.cores[(1 : Fin 3)].wfi && !t.ic.cores[(1 : Fin 3)].stopped) = true ∧
    okNext (exec (.coreWfi 1) breeze) (fun t => t.ic.cores[(1 : Fin 3)].stopped && t.ic.cores[(1 : Fin 3)].stoppedAt == 5000) = true ∧
    okNext (exec (.coreWfi 1) (irqHub (some 1))) (fun t => !t.ic.cores[(1 : Fin 3)].wfi) = true ∧
    okNext (exec (.coreWake 1) asleep) (fun t => !t.ic.cores[(1 : Fin 3)].stopped && !t.ic.cores[(1 : Fin 3)].wfi) = true ∧
    okNext (exec (.coreWake 1) s) (fun t => decide (t.ic.cores = s.ic.cores)) = true ∧
    okNext (exec (.fenceI 1) (coreHub 1 (fun c => { c with icache := true }) s)) (fun t => !t.ic.cores[(1 : Fin 3)].icache) = true := by
  decide +kernel

/-! ### Power states (chapter 16) -/

/-- The hub with a power state of the test's choice. -/
def pwHub (f : PowerSt → PowerSt) : State := { hubAt 5000 with power := f (hubAt 5000).power }

/-- For Obligations.PowerRequests. -/
theorem witness_PowerRequests :
    let s := pwHub id
    let shake (n : Nat) := pwHub (fun p => { p with phase := .handshake, target := n, e0 := 4000, floorBreeze := true })
    let past := pwHub (fun p => { p with phase := .committed, target := 2, ec := 4000 })
    let lull := pwHub (fun p => { p with hub := .lull, floorBreeze := true })
    let all := pwHub (fun p => { p with phase := .handshake, target := 2, e0 := 4000, acked := Vector.ofFn (fun i => decide (i.val ≤ 15)), parked := Vector.ofFn (fun i => decide (i.val ≤ 15)) })
    let ready := { all with lanes := Vector.ofFn (fun k => { all.lanes[k] with parked := true }) }
    let still := coreHub 1 (fun c => { c with stopped := true }) s
    sane s = true ∧ idleWait s = true ∧ wr .a0 (.pw .REQ) 2 s = true ∧ wr .vane (.pw .REQ) 2 lull = true ∧
    wr .a0 (.vn .CTRL) 0xA0000000 s = true ∧ wr .a0 (.vn .CTRL) 0x40000000 s = true ∧
    okNext (exec (.requestGale .a0) (still.setReg (.ic .CPUCTLx) 1 0x80000000)) (fun t => !t.power.floorBreeze && decide (t.ic.cores[(1 : Fin 3)].wakeAt = some 5480)) = true ∧
    okNext (exec (.requestBreeze .a0) s) (fun t => t.power.floorBreeze) = true ∧
    okNext (exec (.requestLull .a0) s) (fun t => decide (t.power.phase = .handshake) && t.power.target == 2 && t.power.e0 == 5000 && t.power.floorBreeze) = true ∧
    okNext (exec (.requestCalm .a0) (shake 3)) (fun t => t.rbit (.pw .STAT) 0 3 && t.power.target == 3) = true ∧
    okNext (exec (.requestCalm .a0) (shake 2)) (fun t => t.rfld (.pw .STAT) 0 22 20 == 4 && t.power.target == 3 && t.power.e0 == 5000) = true ∧
    okNext (exec (.requestGale .a0) (shake 2)) (fun t => t.rfld (.pw .STAT) 0 22 20 == 4 && decide (t.power.phase = .idle) && !t.power.floorBreeze) = true ∧
    okNext (exec (.requestLull .a0) past) (fun t => t.rbit (.pw .STAT) 0 3 && decide (t.power.queued = none)) = true ∧
    okNext (exec (.requestGale .a0) past) (fun t => decide (t.power.queued = some 0)) = true ∧
    okNext (exec (.requestCalm .vane) lull) (fun t => decide (t.power.after = some 3) && decide (t.power.exit = .pll)) = true ∧
    okNext (exec (.requestCalm .host) s) (fun t => decide (t.power = s.power)) = true ∧
    okNext (exec (.vaneWakeRequest .vane 0xA0000000) lull) (fun t => t.rbit (.pw .WAKE) 0 13 && decide (t.power.exit = .pll) && t.rbit (.vn .CTRL) 0 29) = true ∧
    okNext (exec (.vaneWakeRequest .vane 0x80000000) s) (fun t => decide (t.power = s.power)) = true ∧
    okNext (exec (.vaneCalmRequest .vane 0x40000000) s) (fun t => decide (t.power.phase = .handshake) && t.power.target == 3) = true ∧
    okNext (exec (.vaneCalmRequest .vane 0x40000000) lull) (fun t => decide (t.power.after = some 3)) = true ∧
    okNext (exec .handshakeCommit ready) (fun t => decide (t.power.phase = .committed) && t.power.ec == 5000) = true ∧
    okNext (exec .handshakeCommit (coreHub 1 (fun c => { c with inReset := false }) (shake 2))) (fun t => decide (t.power.phase = .handshake)) = true ∧
    refusing (sampleBlocks (ready.setReg (.pw .HOLD) 0 2)) = some 17 ∧
    okNext (exec .handshakeRefuse (ready.setReg (.pw .HOLD) 0 2)) (fun t => t.rfld (.pw .STAT) 0 22 20 == 2 && t.rfld (.pw .STAT) 0 19 15 == 17 && t.rbit (.pw .STAT) 0 2) = true ∧
    refusing (sampleBlocks ready) = none ∧
    okNext (exec .handshakeRefuse ready) (fun t => decide (t.power.phase = .handshake)) = true ∧
    lacking (sampleBlocks (coreHub 1 (fun c => { c with inReset := false }) ready)) = some 17 ∧
    okNext (exec .handshakeTimeout ((coreHub 1 (fun c => { c with inReset := false }) ready).setReg (.pw .CTRL) 0 0)) (fun t => t.rfld (.pw .STAT) 0 22 20 == 3 && t.rfld (.pw .STAT) 0 19 15 == 17) = true ∧
    okNext (exec .handshakeTimeout (ready.setReg (.pw .CTRL) 0 1)) (fun t => decide (t.power.phase = .handshake)) = true := by
  decide +kernel

/-- For Obligations.DomainsPadsAndWakes. -/
theorem witness_DomainsPadsAndWakes :
    let s := pwHub (fun p => { p with dom := upd p.dom (2 : Fin 5) (fun _ => true) })
    let timed := s.setReg (.pw .DOMCTL) 0 4
    let off := pwHub (fun p => { p with dom := upd p.dom (2 : Fin 5) (fun _ => false) })
    let waits := { off with acc := upd off.acc (0 : Fin 6) (fun x => { x with stalled := some ⟨0x40002108, 4, none⟩ }) }
    let codes : Vector (BitVec 12) 8 := Vector.replicate 8 0x800
    let mon (y : MonChan) := ({ hubAt 5000 with power := { (hubAt 5000).power with hub := .lull, mon := { (hubAt 5000).power.mon with run := true, chans := Vector.replicate 8 y } } }).setReg (.vn .CH) 7 0x80000001 |>.setReg (.vn .THR) 7 0x08000400
    let low : MonChan := { state := false, valid := true, y := 0x8000, cnt := 0 }
    let cap := (pwHub (fun p => { p with hub := .lull })).setReg (.vn .CAPCFG) 3 0x80000001
    let pins := s.setReg (.vn .WAKECFG) 0 0x80000000
    sane s = true ∧ wr .a0 (.pw .PADREL) 5 s = true ∧ wr .a0 (.pw .CLK) 3 s = true ∧ domainBusy timed 2 = false ∧
    okNext (exec (.domainIdleOff 2) timed) (fun t => !t.power.dom[(2 : Fin 5)]) = true ∧
    okNext (exec (.domainIdleOff 2) s) (fun t => t.power.dom[(2 : Fin 5)]) = true ∧
    okNext (exec (.domainWake 2) waits) (fun t => t.power.dom[(2 : Fin 5)] && t.power.busyAt[(2 : Fin 5)] == 5000) = true ∧
    okNext (exec (.padRelease .a0 5) (pwHub (fun p => { p with pads := { p.pads with groups := 7 } }))) (fun t => t.power.pads.groups == 2) = true ∧
    okNext (exec (.clockSourceWrite .a0 3) s) (fun t => !t.rbit (.pw .CLK) 0 0) = true ∧
    okNext (exec (.clockSourceWrite .a0 3) (s.setReg (.pw .CLK) 0 0x80000002)) (fun t => t.reg (.pw .CLK) 0 == 0x80000003) = true ∧
    okNext (exec .crystalRunning (s.setReg (.pw .CLK) 0 2)) (fun t => t.rbit (.pw .CLK) 0 31) = true ∧
    okNext (exec .crystalRunning s) (fun t => !t.rbit (.pw .CLK) 0 31) = true ∧
    okNext (exec .x32Start s) (fun t => t.clk.x32On && t.rbit (.al .CLKSTAT) 0 3) = true ∧
    okNext (exec (.monitorScan codes) (mon low)) (fun t => t.power.mon.chans[(7 : Fin 8)].state && t.rbit (.vn .WSTAT) 0 12) = true ∧
    okNext (exec (.monitorScan codes) ((mon low).setReg (.vn .CH) 7 0x80001001)) (fun t => !t.power.mon.chans[(7 : Fin 8)].state && t.power.mon.chans[(7 : Fin 8)].cnt == 1) = true ∧
    okNext (exec (.monitorScan codes) (mon { low with valid := false })) (fun t => t.power.mon.chans[(7 : Fin 8)].valid && t.power.mon.chans[(7 : Fin 8)].y == 0x8000) = true ∧
    okNext (exec (.monitorScan codes) s) (fun t => decide (t.power.mon = s.power.mon)) = true ∧
    okNext (exec (.vaneCaptureEdge 3 true) cap) (fun t => t.rfld (.vn .CAPCNT) 3 15 0 == 1 && t.rbit (.vn .WSTAT) 0 11 && t.ic.sources[(75 : Fin 160)].latch) = true ∧
    okNext (exec (.vaneCaptureEdge 3 true) (cap.setReg (.vn .CAPCFG) 3 0x90000001)) (fun t => t.rfld (.vn .CAPCNT) 3 15 0 == 0) = true ∧
    okNext (exec (.wakePinChange 3 true) pins) (fun t => t.power.wakePin[(3 : Fin 4)] && t.rbit (.vn .WSTAT) 0 3 && t.ic.sources[(67 : Fin 160)].latch) = true ∧
    okNext (exec (.wakePinChange 3 false) pins) (fun t => decide (t.power = pins.power)) = true ∧
    okNext (exec .rtcAlarm ((s.setReg (.vn .ALARMH) 0 0x80000000).setReg (.vn .ALARML) 0 5000)) (fun t => t.rbit (.vn .WSTAT) 0 4) = true ∧
    okNext (exec .rtcAlarm ((s.setReg (.vn .ALARMH) 0 0x80000000).setReg (.vn .ALARML) 0 5001)) (fun t => !t.rbit (.vn .WSTAT) 0 4) = true := by
  decide +kernel

/-- For Obligations.LullAndCalm. -/
theorem witness_LullAndCalm :
    let past (n : Nat) := { hubAt 50000 with power := { (hubAt 50000).power with phase := .committed, target := n, ec := 4000 } }
    let bytes := ((past 2).setReg (.pw .RETCFG) 0 0x0001FFFE).writeBytes 0x2001FFFF [7, 8]
    let lull (x : ExitPhase) := pwHub (fun p => { p with hub := .lull, exit := x, wakeDue := 16 })
    let calm := pwHub (fun p => { p with hub := .calm, wakeDue := 16, vaneOn := false })
    let block (k : Fin 16) := (pwHub (fun p => { p with blocked := upd p.blocked k (fun _ => true) })).writeBytes 0x2400FFFF [7]
    sane bytes = true ∧
    okNext (exec .lullEntered bytes) (fun t => decide (t.power.hub = .lull) && !t.clk.busOn && decide (t.clk.source = .vane) && t.now == 50000 && t.readByte 0x2001FFFF == 0 && t.readByte 0x20020000 == 8 && t.rfld (.pw .STAT) 0 22 20 == 1) = true ∧
    okNext (exec .lullEntered (past 3)) (fun t => decide (t.power.hub = .on)) = true ∧
    okNext (exec .lullExit (lull .none)) (fun t => decide (t.power.exit = .pll) && t.rbit (.pw .WAKE) 0 4 && t.power.wakeDue == 0) = true ∧
    okNext (exec .pllLocked (lull .pll)) (fun t => t.clk.busOn && decide (t.power.exit = .clocks) && t.power.blocked[(11 : Fin 16)] && !t.power.blocked[(12 : Fin 16)]) = true ∧
    okNext (exec .breezeReached (lull .clocks)) (fun t => decide (t.power.hub = .on) && t.power.floorBreeze && t.rbit (.pw .STAT) 0 1 && t.power.dom[(4 : Fin 5)]) = true ∧
    okNext (exec .calmEntered (past 3)) (fun t => decide (t.power.hub = .calm) && !t.power.vaneOn && t.now == 50000) = true ∧
    okNext (exec .calmWake calm) (fun t => decide (t.power.hub = .lull) && t.power.vaneOn && t.rbit (.pw .WAKE) 0 4 && t.power.blocked[(12 : Fin 16)]) = true ∧
    okNext (exec (.retentionCheckDone 15 true true) (block 15)) (fun t => !t.power.blocked[(15 : Fin 16)] && t.rbit (.pw .RETSTAT) 0 31 && t.readByte 0x2400FFFF == 7) = true ∧
    okNext (exec (.retentionCheckDone 15 false false) (block 15)) (fun t => t.rbit (.pw .RETSTAT) 0 15 && t.readByte 0x2400FFFF == 0 && t.rbit (.pw .WAKE) 0 16) = true ∧
    okNext (exec (.retentionCheckDone 15 true false) (lull .none)) (fun t => decide (t.power = (lull .none).power)) = true := by
  decide +kernel

/-! ### Reset, boot and storage (chapter 17) -/

/-- A valid marker of a bank with SEQ `n`. -/
def withMarker (b : Fin 2) (n : Nat) (s : State) : State :=
  let g := leBytes 0xA5C39640 4 ++ leBytes n 4 ++ List.replicate 20 0
  s.writeBytes (markerBase b) (g ++ leBytes (crc32 g).toNat 4)

/-- A firmware header of 128 bytes with the entry offset 0x40, signed by key slot 5. -/
def withFirmware (b : Fin 2) (s : State) : State :=
  let s := s.writeBytes (bankBase b) (leBytes 0xF3A09640 4 ++ leBytes 64 4 ++ leBytes 128 4 ++ leBytes 7 4 ++
    leBytes 0x96400004 4 ++ leBytes 0x40 4 ++ leBytes 0x40 4 ++ [5] ++ List.replicate 35 0)
  { s with enclave := { s.enclave with slots := upd s.enclave.slots (5 : Fin 32) (fun _ => ⟨1, 1, 1, List.replicate 64 9⟩) } }

/-- A hub at its boot. -/
def bootHub : State :=
  { State.reset with clk := { State.reset.clk with bus := 5000, edge := 5000 }, nvm := { State.reset.nvm with booting := true } }

/-- For Obligations.ResetsAndBoot. -/
theorem witness_ResetsAndBoot :
    let s := ((hubAt 5000).writeBytes 0x2400FFFF [7]).writeBytes 0x08000000 [5]
    sane s = true ∧ wr .a0 (.nv .SYSRST) 0xC3A5 s = true ∧ wr .a0 (.nv .A1START) 0x20000101 s = true ∧
    okNext (exec (.powerOnReset 8) s) (fun t => t.nvm.booting && t.now == 0 && t.reg (.tw .ADDR) 0 == 0x840 && t.readByte 0x2400FFFF == 0 && t.readByte 0x08000000 == 5) = true ∧
    okNext (exec .brownOutReset s) (fun t => t.reg (.nv .RSTCAUSE) 0 == 3 && t.readByte 0x2400FFFF == 0 && t.now == 5000) = true ∧
    okNext (exec .enclaveReset s) (fun t => t.reg (.nv .RSTCAUSE) 0 == 0x21 && t.readByte 0x2400FFFF == 7) = true ∧
    okNext (exec (.pinReset 199) s) (fun t => !t.nvm.booting) = true ∧
    okNext (exec (.pinReset 1000) s) (fun t => t.nvm.booting && t.reg (.nv .RSTCAUSE) 0 == 5) = true ∧
    okNext (exec (.softwareReset .a0) s) (fun t => t.nvm.booting && t.reg (.nv .RSTCAUSE) 0 == 0x11) = true := by
  decide +kernel

/-- The banks to boot.
For Obligations.ResetsAndBoot. -/
theorem witness_BootOrder :
    let markers := withMarker 1 9 (withMarker 0 8 bootHub)
    bootOrder markers = [1, 0] ∧ bootOrder (withMarker 1 8 (withMarker 0 8 bootHub)) = [0, 1] ∧ bootOrder bootHub = [] ∧
    (bootOrder markers).all (fun b => verifyFirmware markers b == 1) = true := by
  decide +kernel

/-- A boot that finds no good image, from a hub with two marked banks, and one out of its time.
For Obligations.ResetsAndBoot. -/
theorem witness_BootFails :
    let markers := withMarker 1 9 (withMarker 0 8 bootHub)
    bootHub.nvm.booting = true ∧ bootHub.clk.busOn = true ∧ okNext (exec .bootComplete (hubAt 5000)) (fun t => decide (t.nvm.booted = none)) = true ∧
    okNext (exec .bootComplete markers) (fun t => !t.nvm.booting && !t.ic.cores[(0 : Fin 3)].inReset && t.rfld (.nv .BOOTSTAT) 0 31 28 == 2 && t.reg (.hp .CFG) 0 == 0x80000000) = true := by
  decide +kernel

/-- A core started by its entry register.
For Obligations.ResetsAndBoot. -/
theorem witness_CoreStart :
    let s := hubAt 5000
    okNext (exec (.a1Start .a0 0x20000101) s) (fun t => decide (t.ic.cores[(1 : Fin 3)].restartAt = some 5032) && t.ic.a1Entry == 0x20000100) = true ∧
    okNext (exec (.a1Start .a1 0x20000101) s) (fun t => decide (t.ic = s.ic)) = true := by
  decide +kernel

/-- The header and the key of the image are in order, so the boot goes on to the signature.
For Obligations.ResetsAndBoot. -/
theorem witness_firmware : let s := withFirmware 1 (withMarker 1 9 bootHub)
    bootOrder s = [1] ∧ firmwareHeadOk (bankByte s 1) = true ∧ (bankByte s 1 0x1C).toNat = 5 ∧
    (s.enclave.slots[(5 : Fin 32)]).typ = 1 ∧ s.enclave.life = 2 ∧ s.enclave.katFails = 0 ∧ u32 (bankByte s 1) 0x0C = 7 ∧
    s.enclave.minFw = 0 := by decide +kernel

/-- Where the signature holds, that image passes: the hypotheses about a verified bank are met together.
For Obligations.ResetsAndBoot. -/
theorem witness_firmware_verified (s : State) (b : Fin 2) (h : firmwareHeadOk (bankByte s b) = true)
    (slot : (bankByte s b 0x1C).toNat < 32)
    (key : (s.enclave.slots[ix 32 (bankByte s b 0x1C).toNat]).typ = 1 ∧
      (s.enclave.slots[ix 32 (bankByte s b 0x1C).toNat]).usage.testBit 0 = true)
    (signed : Config.ecdsaOk (s.enclave.slots[ix 32 (bankByte s b 0x1C).toNat]).key
      (digest (bytesAt (bankByte s b) 0 (u32 (bankByte s b) 0x08 - 64)))
      (bytesAt (bankByte s b) (u32 (bankByte s b) 0x08 - 64) 64) = true)
    (newer : s.enclave.minFw.toNat ≤ u32 (bankByte s b) 0x0C) : verifyFirmware s b = 0 := by
  have low : ¬ 32 ≤ (bankByte s b 0x1C).toNat := by omega
  have old : ¬ u32 (bankByte s b) 0x0C < s.enclave.minFw.toNat := by omega
  have usable : ¬ ((s.enclave.slots[ix 32 (bankByte s b 0x1C).toNat]).typ ≠ 1 ∨
      (s.enclave.slots[ix 32 (bankByte s b 0x1C).toNat]).usage.testBit 0 = false) := by rw [key.1, key.2]; decide
  have good : ¬ Config.ecdsaOk (s.enclave.slots[ix 32 (bankByte s b 0x1C).toNat]).key
      (digest (bytesAt (bankByte s b) 0 (u32 (bankByte s b) 0x08 - 64)))
      (bytesAt (bankByte s b) (u32 (bankByte s b) 0x08 - 64) 64) = false := by rw [signed]; decide
  unfold verifyFirmware
  rw [if_neg (by rw [h]; decide), if_neg low, if_neg usable, if_neg good, if_neg old]

/-- The hub with an NVM state of the test's choice. -/
def nvHub (f : Nvm → Nvm) : State := { hubAt 5000 with nvm := f (hubAt 5000).nvm }

/-- For Obligations.StorageOperations. -/
theorem witness_StorageOperations :
    let s := (nvHub (fun n => { n with open_ := upd n.open_ (1 : Fin 2) (fun _ => true), booted := some 0 })).setReg (.nv .ADDR) 0 0x1BDFF0
    let op (o : NvOp) := nvHub (fun n => { n with op := some o, open_ := upd n.open_ (1 : Fin 2) (fun _ => true), booted := some 0 })
    let o : NvOp := ⟨1, 1, 0x1BDFF0, [1, 2, 3, 4], 4000, [], [], false, 0⟩
    let dirty := s.setReg (.nv .DIRTY) 0 0x40000000
    sane s = true ∧ wr .a0 (.nv .CMD) 0x10000001 s = true ∧ wr .a0 (.nv .CMD) 0x50000000 s = true ∧
    okNext (exec (.nvmOpen .a0 1) s) (fun t => t.nvm.op.any (fun x => x.op == 1)) = true ∧
    okNext (exec (.nvmOpen .a0 0) s) (fun t => t.rfld (.nv .STAT) 0 27 24 == 10 && t.nvm.op.isNone) = true ∧
    okNext (exec (.nvmOpen .a0 1) (op o)) (fun t => t.rfld (.nv .STAT) 0 27 24 == 8) = true ∧
    okNext (exec (.nvmErase .a0) s) (fun t => t.nvm.op.any (fun x => x.op == 2 && x.addr == 0x1BDFF0)) = true ∧
    okNext (exec (.nvmErase .a0) (s.setReg (.nv .ADDR) 0 0x1BE000)) (fun t => t.rfld (.nv .STAT) 0 27 24 == 10) = true ∧
    okNext (exec (.nvmErase .a0) (s.setReg (.nv .ADDR) 0 0)) (fun t => t.rfld (.nv .STAT) 0 27 24 == 7) = true ∧
    okNext (exec (.nvmProgram .a0) s) (fun t => t.nvm.op.any (fun x => x.op == 3)) = true ∧
    okNext (exec (.nvmProgram .a0) (s.setReg (.nv .ADDR) 0 0x1BDFF8)) (fun t => t.rfld (.nv .STAT) 0 27 24 == 12) = true ∧
    okNext (exec (.nvmProgram .a0) (s.writeBytes 0x081BDFFF [1])) (fun t => t.rfld (.nv .STAT) 0 27 24 == 11) = true ∧
    okNext (exec (.nvmCommit .a0 1) s) (fun t => t.nvm.op.any (fun x => x.op == 4) && t.nvm.commitAct) = true ∧
    okNext (exec (.nvmCommit .a0 0) s) (fun t => t.rfld (.nv .STAT) 0 27 24 == 7) = true ∧
    okNext (exec (.nvmClose .a0 1) s) (fun t => !t.nvm.open_[(1 : Fin 2)] && t.rbit (.nv .STAT) 0 0) = true ∧
    okNext (exec (.nvmStore .a0 true) dirty) (fun t => t.nvm.op.any (fun x => decide (x.pages = [30])) && !t.rbit (.nv .DIRTY) 0 30) = true ∧
    okNext (exec (.nvmStore .a0 false) s) (fun t => t.nvm.op.any (fun x => x.pages.isEmpty)) = true ∧
    okNext (exec (.nvmStore .a0 false) dirty) (fun t => t.nvm.op.isNone && t.rfld (.nv .STAT) 0 27 24 == 9) = true ∧
    okNext (exec (.nvmOperationDone true) (op o)) (fun t => t.nvm.op.isNone && t.nvm.open_[(1 : Fin 2)] && t.rbit (.nv .STAT) 0 0) = true ∧
    okNext (exec (.nvmOperationDone true) ((op { o with op := 2 }).writeBytes 0x081BDFFF [1, 2])) (fun t => t.readByte 0x081BDFFF == 0xFF && t.readByte 0x081BE000 == 2) = true ∧
    okNext (exec (.nvmOperationDone true) (op { o with op := 3 })) (fun t => t.readWord 0x081BDFFC == 4 && t.nvm.op.isNone) = true ∧
    verifyFirmware (op { o with op := 4 }) 1 = 1 ∧
    okNext (exec (.nvmOperationDone true) (op { o with op := 4 })) (fun t => t.rfld (.nv .STAT) 0 27 24 == 1 && t.nvm.open_[(1 : Fin 2)]) = true ∧
    okNext (exec (.nvmOperationDone true) s) (fun t => decide (t.nvm = s.nvm)) = true ∧
    currentCopy (op { o with op := 5, pages := [30], buffer := List.replicate 2040 1 }) 30 = none ∧
    wr .a0 (.nv .CMD) 0x50000000 s = true ∧ sees .a0 .sram s = true ∧ s.power.blocked[9] = false ∧
    okNext (exec (.settingsWrite .a0 30 2036 4 0x01020304) s) (fun t => t.readWord (0x20120000 + 0x800 * 30 + 2036) == 0x01020304 && t.rbit (.nv .DIRTY) 0 30) = true ∧
    okNext (exec (.settingsWrite .a0 30 2040 1 7) s) (fun t => decide (lastAnswer .a0 t = .busError)) = true ∧
    okNext (exec (.settingsWrite .a0 31 0 1 7) s) (fun t => decide (lastAnswer .a0 t = .busError)) = true := by
  decide +kernel

/-! ### Security enclave (chapter 18) -/

/-- The hub with an enclave state of the test's choice. -/
def seHub (f : Enclave → Enclave) : State := { hubAt 500000 with enclave := f (hubAt 500000).enclave }

/-- A running job of A0 with a length, its buffer in bank 0 and its destination in bank 5. -/
def seJob (cmd len : Nat) : EncJob := ⟨cmd, 5, len, 0x20000000, 0x200A0000, 0, .a0, 1000⟩

/-- Key slots 0 (root), 5 (as the test has it). -/
def seRun (cmd len life : Nat) (k : KeySlot) : State :=
  seHub (fun e => { e with life := life, job := some (seJob cmd len), slots := upd (upd e.slots (0 : Fin 32) (fun _ => ⟨1, 8, 0, []⟩)) (5 : Fin 32) (fun _ => k) })

/-- For Obligations.MailboxCommandsStart. -/
theorem witness_MailboxCommandsStart :
    let s := seHub id
    let busy := seRun 1 64 2 KeySlot.reset
    sane s = true ∧ wr .a0 (.se .CMD) (at_ 0x31 24 ||| at_ 31 16 ||| (0xFFFF : BitVec 16).setWidth 32) s = true ∧
    wr .a0 (.se .SECCTL) 0x80000000 s = true ∧
    okNext (exec (.hash .a0 31 0xFFFF) s) (fun t => t.enclave.job.any (fun j => j.cmd == 1 && j.slot == 31 && j.len == 0xFFFF)) = true ∧
    okNext (exec (.random .a1 0 32) s) (fun t => t.enclave.owner == 1) = true ∧
    okNext (exec (.hash .a0 31 64) busy) (fun t => decide (t.enclave = busy.enclave) && t.rbit (.se .STAT) 0 4) = true ∧
    okNext (exec (.seclockSet .a0 0x80000000) s) (fun t => t.rbit (.se .SECCTL) 0 31 && !(secure .a0 t)) = true ∧
    okNext (exec (.seclockSet .a1 0x80000000) s) (fun t => !t.rbit (.se .SECCTL) 0 31) = true := by
  decide +kernel

/-- For Obligations.MailboxResults. -/
theorem witness_MailboxResults :
    let run (cmd len : Nat) (k : KeySlot) := seRun cmd len 2 k
    let pub : KeySlot := ⟨1, 3, 1, []⟩
    let sym : KeySlot := ⟨2, 48, 1, []⟩
    let res (n : Nat) (o : Host.Outcome State Fault Refusal) := okNext o (fun t => t.enclave.job.isNone && t.enclave.result == n && t.rbit (.se .STAT) 0 (if n = 0 then 1 else 2))
    let go (s : State) := exec (.mailboxDone true) s
    let rec_ (slot : Nat) := ((seRun 0x10 140 1 KeySlot.reset).writeBytes 0x20000000 (leBytes State.reset.nvm.factory.uid.toNat 8 ++ [BitVec.ofNat 8 slot, 1, 1, 0] ++ List.replicate 64 3))
    sane (run 3 16 sym) = true ∧ encWaits (run 3 16 sym) = false ∧ jobTicks (seJob 3 16) = 72 ∧ jobTicks (seJob 2 0) = 336000 ∧
    buffersOk (seJob 3 16) = true ∧ buffersOk { seJob 3 16 with dest := 0x200C0000 } = false ∧
    buffersOk (seJob 0x10 140) = true ∧ secure .a0 (run 3 16 sym) = true ∧
    res 1 (go (run 0x77 0 pub)) = true ∧ res 3 (go (run 2 0 KeySlot.reset)) = true ∧ res 3 (go (run 3 16 pub)) = true ∧
    hasUsage sym 2 16 = true ∧ hasUsage sym 2 32 = true ∧ hasUsage pub 1 3 = true ∧
    res 3 (go (run 4 16 pub)) = true ∧ res 2 (go (run 5 1025 pub)) = true ∧ res 2 (go (run 5 0 pub)) = true ∧
    res 7 (go { run 5 1024 pub with enclave := { (run 5 1024 pub).enclave with entFail := true } }) = true ∧
    res 3 (go (run 0x12 0 KeySlot.reset)) = true ∧ res 0 (go (run 0x12 0 sym)) = true ∧
    res 0 (go (run 0x20 1 pub)) = true ∧ res 6 (go (run 0x30 0 pub)) = true ∧ res 6 (go (seRun 0x31 0 1 pub)) = true ∧
    okNext (go (seRun 0x30 0 1 pub)) (fun t => t.enclave.life == 2 && t.nvm.booting) = true ∧
    res 2 (go ((run 0x21 0 pub).writeBytes 0x20000000 [0x00, 0x0E, 0x00, 0x0E])) = true ∧
    okNext (go ((run 0x21 0 pub).writeBytes 0x20000000 [0x01, 0x02, 0x01, 0x02])) (fun t => t.reg (.hp .WIN) 0 == 0x02010201 && t.enclave.result == 0) = true ∧
    recordOk (keyRecord (rec_ 6) 0x20000000) true true = true ∧
    res 0 (go (rec_ 6)) = true ∧ okNext (go (rec_ 6)) (fun t => t.enclave.slots[(6 : Fin 32)].typ == 1) = true ∧
    res 2 (go (rec_ 32)) = true ∧ res 8 (exec (.mailboxDone false) (rec_ 6)) = true ∧ res 4 (go ((rec_ 6).writeBytes 0x2000008B [1])) = true := by
  decide +kernel

/-- For Obligations.DebugPortAndEnclaveFaults. -/
theorem witness_DebugPortAndEnclaveFaults :
    let s := seHub id
    let asked := seHub (fun e => { e with challenge := some (List.replicate 16 7), slots := upd e.slots (31 : Fin 32) (fun _ => ⟨2, 0x100, 1, []⟩) })
    let boot := { s with nvm := { s.nvm with booting := true } }
    sane s = true ∧ s.enclave.life = 2 ∧ s.enclave.dbgOpen = false ∧
    okNext (exec .secdbgChallenge s) (fun t => t.enclave.challenge.any (fun c => c.length == 16)) = true ∧
    okNext (exec .secdbgChallenge (seHub (fun e => { e with dbgFails := 3 }))) (fun t => t.enclave.challenge.isNone) = true ∧
    okNext (exec (.secdbgResponse 30 0) asked) (fun t => t.enclave.dbgFails == 1 && t.enclave.challenge.isNone && !t.enclave.dbgOpen) = true ∧
    okNext (exec (.secdbgResponse 30 0) s) (fun t => t.enclave.dbgFails == 0) = true ∧
    okNext (exec (.entropyFail true) s) (fun t => t.enclave.entFail && t.rbit (.al .FSTAT) 0 14) = true ∧
    okNext (exec (.enclaveSensorTrip .temperature) s) (fun t => t.nvm.booting && t.rbit (.nv .RSTCAUSE) 0 5 && t.safety.pending.any (fun e => e.code == 0xA07 && e.data == 3)) = true ∧
    okNext (exec (.enclaveSensorTrip .ecdsa) s) (fun t => !t.nvm.booting && t.enclave.katFails == 0) = true ∧
    okNext (exec (.enclaveSensorTrip .ecdsa) boot) (fun t => t.enclave.katFails == 1 && t.safety.pending.any (fun e => e.code == 0xA06 && e.data == 3)) = true := by
  decide +kernel

/-- The right response opens the port: the MAC is the one that the key gives.
For Obligations.DebugPortAndEnclaveFaults. -/
theorem witness_response (s : State) (slot : Fin 32) (c : List Byte) (h : s.enclave.challenge = some c)
    (k : (s.enclave.slots[slot]).typ = 2 ∧ bit (BitVec.ofNat 16 (s.enclave.slots[slot]).usage) 8 = true) :
    ∃ mac, (s.enclave.slots[slot]).typ = 2 ∧ bit (BitVec.ofNat 16 (s.enclave.slots[slot]).usage) 8 = true ∧
      Config.cmac (s.enclave.slots[slot]).key (c ++ leBytes s.nvm.factory.uid.toNat 8) = mac ∧ s.enclave.challenge = some c :=
  ⟨_, k.1, k.2, rfl, h⟩
end Sys2Proof.Tests
end

section
/-! PROOFS. Frames of an access: how RegsBut and PartsBut compose, and what an answer and a read-clear leave alone. On top
of them, what a read of a read-clear counter does (R7, R10, R39). -/
namespace Sys2Proof.Machine

/-! ### Frames -/

theorem Part.same_refl (p : Part) (s : State) : p.same s s := by
  cases p <;> rfl

theorem Part.same_trans {p : Part} {s t u : State} (h : p.same s t) (k : p.same t u) : p.same s u := by
  cases p <;> exact Eq.trans k h

theorem PartsBut.trans {l m : List Part} {s t u : State} (h : PartsBut l s t) (k : PartsBut m t u) :
    PartsBut (l ++ m) s u := fun p hp => by
  rw [List.mem_append, not_or] at hp
  exact Part.same_trans (h p hp.1) (k p hp.2)

theorem RegsBut.trans {l m : List (Reg × Nat)} {s t u : State} (h : RegsBut l s t) (k : RegsBut m t u) :
    RegsBut (l ++ m) s u := fun r v hr => by
  rw [List.mem_append, not_or] at hr
  exact (k r v hr.2).trans (h r v hr.1)

/-! ### Setting a register -/

theorem setReg_regsBut (s : State) (r : Reg) (u : Nat) (w : Word) : RegsBut [(r, u)] s (s.setReg r u w) :=
  fun q v h => reg_setReg_other s r q u v w (by
    rw [List.mem_singleton, Prod.mk.injEq] at h
    exact Decidable.not_and_iff_not_or_not.1 h)

theorem setReg_partsBut (s : State) (r : Reg) (u : Nat) (w : Word) : PartsBut [] s (s.setReg r u w) :=
  fun p _ => by cases p <;> rfl

/-! ### Answering an access -/

@[simp] theorem lastAnswer_answer_same (s : State) (a : Accessor) (w : Answer) : lastAnswer a (s.answer a w) = w := by
  simp [lastAnswer, upd]

theorem answer_regsBut (s : State) (a : Accessor) (w : Answer) : RegsBut [] s (s.answer a w) :=
  fun q v _ => State.answer_reg s a w q v

theorem answer_partsBut (s : State) (a : Accessor) (w : Answer) : PartsBut [.acc] s (s.answer a w) := fun p hp => by
  cases p with
  | acc => exact absurd (List.mem_singleton_self _) hp
  | _ => rfl

/-! ### The read-clear of R7 -/

/-- The debug port clears nothing (R10). -/
@[simp] theorem readClear_debug (s : State) (r : Reg) (u : Nat) : s.readClear .debug r u = s := if_pos rfl

theorem readClear_of_ne_debug (s : State) {a : Accessor} (h : a ≠ .debug) (r : Reg) (u : Nat) :
    s.readClear a r u = s.setReg r u (s.reg r u &&& ~~~(BitVec.ofNat 32 r.info.rc)) := if_neg h

theorem reg_readClear_same (s : State) (a : Accessor) (r : Reg) (u : Nat) (h : RegFile.wf s.regs) :
    (s.readClear a r u).reg r u =
      if a = .debug then s.reg r u else s.reg r u &&& ~~~(BitVec.ofNat 32 r.info.rc) := by
  by_cases ha : a = .debug
  · subst ha; simp
  · rw [readClear_of_ne_debug s ha, reg_setReg_same _ _ _ _ h, if_neg ha]

theorem readClear_regsBut (s : State) (a : Accessor) (r : Reg) (u : Nat) : RegsBut [(r, u)] s (s.readClear a r u) := by
  by_cases ha : a = .debug
  · subst ha; exact fun _ _ _ => by rw [readClear_debug]
  · rw [readClear_of_ne_debug s ha]; exact setReg_regsBut _ _ _ _

theorem readClear_partsBut (s : State) (a : Accessor) (r : Reg) (u : Nat) : PartsBut [] s (s.readClear a r u) := by
  by_cases ha : a = .debug
  · subst ha; rw [readClear_debug]; exact fun p _ => p.same_refl s
  · rw [readClear_of_ne_debug s ha]; exact setReg_partsBut _ _ _ _

/-! ### Reading a read-clear counter -/

/-- LN_ICNT is in the logical window: it reads its lane when LN_SEL selects one (R37). -/
theorem lnSelected_ICNT {a : Accessor} {s : State} (h : selOf (.ln .SEL) a s ≤ 15) : lnSelected a .ICNT s = true :=
  decide_eq_true h

/-- Every register that `counterUnit` names returns its unit and then clears it; the cases are those of `counterUnit`. -/
theorem readReg_of_counterUnit {a : Accessor} {x : RegRef} {s : State} {u : Nat} (h : counterUnit a x s = some u) :
    readReg a x s = (s.reg x.reg u, s.readClear a x.reg u) := by
  obtain ⟨r, i, bus⟩ := x
  unfold counterUnit at h
  dsimp only at h
  split at h
  case h_1 => -- LN_ICNT
    obtain ⟨hsel, hu⟩ := Option.ite_none_right_eq_some.1 h
    cases hu
    simp [readReg, lnRead, lnSelected_ICNT hsel]
  case h_5 => -- DB_CNT
    obtain ⟨-, hu⟩ := Option.ite_none_right_eq_some.1 h
    cases hu
    rfl
  case h_12 => cases h -- no counter
  all_goals -- the other counters: their row of the block's read function is the right side
    cases h
    rfl

/-- A 32-bit read of a register that its accessor sees and reaches performs `readReg` and answers with its value. -/
theorem busRead_register {a : Accessor} {addr : Nat} {x : RegRef} {rep : Reg} {s : State}
    (hregion : regionOf addr 4 = .registers) (halign : addr % 4 = 0) (hsees : sees a .registers s = true)
    (hat : regAt addr = some (some x, rep)) (hreach : ReadReaches a x.reg s) :
    busRead a addr 4 s = (readReg a x s).2.answer a (.data (readReg a x s).1) := by
  have hgate : gate a x.reg false s = .ok := hreach
  simp [busRead, regRead, sizeOk, hregion, halign, hsees, hat, hgate]

end Sys2Proof.Machine

namespace Sys2Proof.Proofs
open Machine

/-- Settles O10: the read answers with the counter and leaves what the read-clear leaves (nothing cleared for the debug
port). -/
theorem readClearAccesses : Obligations.ReadClearAccesses := by
  unfold Obligations.ReadClearAccesses
  intro a addr x rep u s hwf hregion halign hsees hat hunit hreach
  have hread : busRead a addr.toNat 4 s = (s.readClear a x.reg u).answer a (.data (s.reg x.reg u)) := by
    rw [busRead_register hregion halign hsees hat hreach, readReg_of_counterUnit hunit]
  refine ⟨(s.readClear a x.reg u).answer a (.data (s.reg x.reg u)), congrArg _ hread, ?_, ?_, ?_, ?_⟩
  · exact lastAnswer_answer_same _ _ _
  · rw [State.answer_reg, reg_readClear_same s a x.reg u hwf]
  · exact (readClear_regsBut _ _ _ _).trans (answer_regsBut _ _ _)
  · exact (readClear_partsBut _ _ _ _).trans (answer_partsBut _ _ _)

end Sys2Proof.Proofs
end

section
/-! PROOFS. What a step does and keeps: a command always answers a next state, whatever it changes it changes as `Within`
says, and so every step keeps the canonical forms and the laws of the clocks (R19, R21). -/
namespace Sys2Proof.Machine

variable {P : Part → Prop} {R : Reg → Prop} {s0 s t : State}

/-! ### Every command goes on -/

/-- No command ends in a fault or a refusal. -/
theorem exec_next (c : Instr) (s : State) : ∃ t, exec c s = .next t := by
  cases c <;> exact ⟨_, rfl⟩

/-- A command stays within any set of parts and registers that leaves none out; so it keeps the canonical forms, the clock's
laws and the queue. One case per command, by the law of its row. -/
theorem exec_within (h : Within P R s0 s) (pAll : ∀ p, P p) (rAll : ∀ r, R r) (c : Instr) (e : exec c s = .next t) :
    Within P R s0 t := by
  cases c with
  | stampHighChange => exact execStampHighChange_within h (pAll _) e
  | epochWrite => apply execEpochWrite_within h (e := e) <;> apply_assumption
  | stampHandover => exact execStampHandover_within h pAll rAll e
  | wideValueRead => apply execWideValueRead_within h (e := e) <;> apply_assumption
  | wideValueWrite => apply execWideValueWrite_within h (e := e) <;> apply_assumption
  | selectWrite => apply execSelectWrite_within h (e := e) <;> apply_assumption
  | registerWrite => exact execRegisterWrite_within h pAll rAll e
  | stalledAccessComplete => exact execStalledAccessComplete_within h pAll rAll e
  | laneEnable => apply execLaneEnable_within h (e := e) <;> apply_assumption
  | laneStop => apply execLaneStop_within h (e := e) <;> apply_assumption
  | laneCommit => apply execLaneCommit_within h (e := e) <;> apply_assumption
  | laneRestart => apply execLaneRestart_within h (e := e) <;> apply_assumption
  | laneTestnow => apply execLaneTestnow_within h (e := e) <;> apply_assumption
  | scanCycleStart => apply execScanCycleStart_within h (e := e) <;> apply_assumption
  | settleEnd => apply execSettleEnd_within h (e := e) <;> apply_assumption
  | conversionComplete => apply execConversionComplete_within h (e := e) <;> apply_assumption
  | withheldWordRelease => apply execWithheldWordRelease_within h (e := e) <;> apply_assumption
  | laneSubstComplete => apply execLaneSubstComplete_within h (e := e) <;> apply_assumption
  | laneTimerTick => exact execLaneTimerTick_within h (pAll _) e
  | referenceTestStart => exact execReferenceTestStart_within h (pAll _) e
  | referenceTestDone => apply execReferenceTestDone_within h (e := e) <;> apply_assumption
  | laneRetest => apply execLaneRetest_within h (e := e) <;> apply_assumption
  | laneRetestDone => exact execLaneRetestDone_within h (pAll _) (pAll _) e
  | temperatureReading => apply execTemperatureReading_within h (e := e) <;> apply_assumption
  | calRunRequest => apply execCalRunRequest_within h (e := e) <;> apply_assumption
  | calLaneSelect => apply execCalLaneSelect_within h (e := e) <;> apply_assumption
  | calRunStart => apply execCalRunStart_within h (e := e) <;> apply_assumption
  | calRunEnd => apply execCalRunEnd_within h (e := e) <;> apply_assumption
  | loanEnd => exact execLoanEnd_within h (pAll _) (pAll _) e
  | staleWordDue => apply execStaleWordDue_within h (e := e) <;> apply_assumption
  | holdResume => exact execHoldResume_within h (pAll _) (pAll _) e
  | calSetsWrite => apply execCalSetsWrite_within h (e := e) <;> apply_assumption
  | dacCodeWrite => apply execDacCodeWrite_within h (e := e) <;> apply_assumption
  | trimWrite => apply execTrimWrite_within h (e := e) <;> apply_assumption
  | nop => apply execNop_within h (e := e) <;> apply_assumption
  | wait => apply execWait_within h (e := e) <;> apply_assumption
  | move => apply execMove_within h (e := e) <;> apply_assumption
  | scale => apply execScale_within h (e := e) <;> apply_assumption
  | fir => apply execFir_within h (e := e) <;> apply_assumption
  | biq => apply execBiq_within h (e := e) <;> apply_assumption
  | cic => apply execCic_within h (e := e) <;> apply_assumption
  | rect => apply execRect_within h (e := e) <;> apply_assumption
  | env => apply execEnv_within h (e := e) <;> apply_assumption
  | thr => apply execThr_within h (e := e) <;> apply_assumption
  | cnt => apply execCnt_within h (e := e) <;> apply_assumption
  | peak => apply execPeak_within h (e := e) <;> apply_assumption
  | lut => apply execLut_within h (e := e) <;> apply_assumption
  | recStep => apply execRec_within h (e := e) <;> apply_assumption
  | sq => apply execSq_within h (e := e) <;> apply_assumption
  | sqrt => apply execSqrt_within h (e := e) <;> apply_assumption
  | dly => apply execDly_within h (e := e) <;> apply_assumption
  | evt => apply execEvt_within h (e := e) <;> apply_assumption
  | jmp => apply execJmp_within h (e := e) <;> apply_assumption
  | clr => apply execClr_within h (e := e) <;> apply_assumption
  | invalidOperation => apply execInvalidOperation_within h (e := e) <;> apply_assumption
  | emitAfterStall => exact execEmitAfterStall_within h (pAll _) e
  | couplingWordArrive => apply execCouplingWordArrive_within h (e := e) <;> apply_assumption
  | carriageSubstComplete => apply execCarriageSubstComplete_within h (e := e) <;> apply_assumption
  | outletWordRelease => apply execOutletWordRelease_within h (e := e) <;> apply_assumption
  | trainStart => apply execTrainStart_within h (e := e) <;> apply_assumption
  | trainStartComplete => apply execTrainStartComplete_within h (e := e) <;> apply_assumption
  | trainStop => apply execTrainStop_within h (e := e) <;> apply_assumption
  | trainDrained => exact execTrainDrained_within h (pAll _) e
  | drainCut => apply execDrainCut_within h (e := e) <;> apply_assumption
  | spareBistRound => apply execSpareBistRound_within h (e := e) <;> apply_assumption
  | carriageRetest => apply execCarriageRetest_within h (e := e) <;> apply_assumption
  | carriageRetestDone => exact execCarriageRetestDone_within h (pAll _) e
  | diagnosticWrite => exact execDiagnosticWrite_within h pAll rAll e
  | consistVerify => apply execConsistVerify_within h (e := e) <;> apply_assumption
  | applyFullImage => apply execApplyFullImage_within h (e := e) <;> apply_assumption
  | applyShuntImage => apply execApplyShuntImage_within h (e := e) <;> apply_assumption
  | applySlot => apply execApplySlot_within h (e := e) <;> apply_assumption
  | consistAbort => apply execConsistAbort_within h (e := e) <;> apply_assumption
  | consistCheckDone => apply execConsistCheckDone_within h (e := e) <;> apply_assumption
  | fullLoadTrainsStopped => apply execFullLoadTrainsStopped_within h (e := e) <;> apply_assumption
  | fullLoadWritten => apply execFullLoadWritten_within h (e := e) <;> apply_assumption
  | inPlaceShuntStopped => apply execInPlaceShuntStopped_within h (e := e) <;> apply_assumption
  | inPlaceShuntLoaded => apply execInPlaceShuntLoaded_within h (e := e) <;> apply_assumption
  | handoverStagingLoaded => apply execHandoverStagingLoaded_within h (e := e) <;> apply_assumption
  | handoverOldStopped => apply execHandoverOldStopped_within h (e := e) <;> apply_assumption
  | handoverTimeout => apply execHandoverTimeout_within h (e := e) <;> apply_assumption
  | stagingConfigWrite => exact execStagingConfigWrite_within h pAll rAll e
  | slotFwd => apply execSlotFwd_within h (e := e) <;> apply_assumption
  | slotRev => apply execSlotRev_within h (e := e) <;> apply_assumption
  | slotOff => apply execSlotOff_within h (e := e) <;> apply_assumption
  | slotSpeed => apply execSlotSpeed_within h (e := e) <;> apply_assumption
  | slotClear => apply execSlotClear_within h (e := e) <;> apply_assumption
  | slotPinch => apply execSlotPinch_within h (e := e) <;> apply_assumption
  | coastEnd => apply execCoastEnd_within h (e := e) <;> apply_assumption
  | reverseEnd => apply execReverseEnd_within h (e := e) <;> apply_assumption
  | reportTick => exact execReportTick_within h (pAll _) (pAll _) e
  | positionWrite => apply execPositionWrite_within h (e := e) <;> apply_assumption
  | coolantEnable => apply execCoolantEnable_within h (e := e) <;> apply_assumption
  | coolantStep => apply execCoolantStep_within h (e := e) <;> apply_assumption
  | dryRestart => apply execDryRestart_within h (e := e) <;> apply_assumption
  | serviceRequestTaken => apply execServiceRequestTaken_within h (e := e) <;> apply_assumption
  | recallGo => apply execRecallGo_within h (e := e) <;> apply_assumption
  | recallStop => apply execRecallStop_within h (e := e) <;> apply_assumption
  | recallSave => apply execRecallSave_within h (e := e) <;> apply_assumption
  | recallTimeout => apply execRecallTimeout_within h (e := e) <;> apply_assumption
  | homingGo => apply execHomingGo_within h (e := e) <;> apply_assumption
  | homingStop => apply execHomingStop_within h (e := e) <;> apply_assumption
  | homingTimeout => apply execHomingTimeout_within h (e := e) <;> apply_assumption
  | autoHomingStart => apply execAutoHomingStart_within h (e := e) <;> apply_assumption
  | recordArrive => apply execRecordArrive_within h (e := e) <;> apply_assumption
  | recordWrite => apply execRecordWrite_within h (e := e) <;> apply_assumption
  | overflowExit => apply execOverflowExit_within h (e := e) <;> apply_assumption
  | cursorEnable => apply execCursorEnable_within h (e := e) <;> apply_assumption
  | cursorAck => apply execCursorAck_within h (e := e) <;> apply_assumption
  | swRecordCommit => apply execSwRecordCommit_within h (e := e) <;> apply_assumption
  | horizonWrite => apply execHorizonWrite_within h (e := e) <;> apply_assumption
  | almanacWrite => apply execAlmanacWrite_within h (e := e) <;> apply_assumption
  | almanacLogCommit => apply execAlmanacLogCommit_within h (e := e) <;> apply_assumption
  | watchdogEnable => apply execWatchdogEnable_within h (e := e) <;> apply_assumption
  | watchdogKick => apply execWatchdogKick_within h (e := e) <;> apply_assumption
  | watchdogExpire => apply execWatchdogExpire_within h (e := e) <;> apply_assumption
  | xtalFail => apply execXtalFail_within h (e := e) <;> apply_assumption
  | pllFail => exact execPllFail_within h pAll rAll e
  | vrcFail => apply execVrcFail_within h (e := e) <;> apply_assumption
  | x32Fail => apply execX32Fail_within h (e := e) <;> apply_assumption
  | lockstepMismatch => apply execLockstepMismatch_within h (e := e) <;> apply_assumption
  | faultPinRelease => exact execFaultPinRelease_within h (pAll _) e
  | faultReady => apply execFaultReady_within h (e := e) <;> apply_assumption
  | softwareFault => apply execSoftwareFault_within h (e := e) <;> apply_assumption
  | phyEnable => apply execPhyEnable_within h (e := e) <;> apply_assumption
  | phyDisable => apply execPhyDisable_within h (e := e) <;> apply_assumption
  | candidateFound => apply execCandidateFound_within h (e := e) <;> apply_assumption
  | syncFound => apply execSyncFound_within h (e := e) <;> apply_assumption
  | syncDeadline => exact execSyncDeadline_within h (pAll _) (rAll _) e
  | headerDecoded => apply execHeaderDecoded_within h (e := e) <;> apply_assumption
  | receptionComplete => apply execReceptionComplete_within h (e := e) <;> apply_assumption
  | capture => apply execCapture_within h (e := e) <;> apply_assumption
  | transmissionEnd => exact execTransmissionEnd_within h (pAll _) e
  | blankEnd => exact execBlankEnd_within h (pAll _) e
  | txOvercurrent => apply execTxOvercurrent_within h (e := e) <;> apply_assumption
  | listenerDetect => apply execListenerDetect_within h (e := e) <;> apply_assumption
  | exchangeStart => apply execExchangeStart_within h (e := e) <;> apply_assumption
  | responseTimeout => apply execResponseTimeout_within h (e := e) <;> apply_assumption
  | commandCommit => apply execCommandCommit_within h (e := e) <;> apply_assumption
  | timetableRun => apply execTimetableRun_within h (e := e) <;> apply_assumption
  | timetableHalt => apply execTimetableHalt_within h (e := e) <;> apply_assumption
  | enumGo => apply execEnumGo_within h (e := e) <;> apply_assumption
  | enumStop => apply execEnumStop_within h (e := e) <;> apply_assumption
  | storedCommandTrigger => apply execStoredCommandTrigger_within h (e := e) <;> apply_assumption
  | auidWrite => apply execAuidWrite_within h (e := e) <;> apply_assumption
  | frameSelect => apply execFrameSelect_within h (e := e) <;> apply_assumption
  | statusPoll => exact execStatusPoll_within h (pAll _) e
  | hello => exact execHello_within h pAll rAll e
  | readReg => exact execReadReg_within h pAll rAll e
  | writeReg => exact execWriteReg_within h pAll rAll e
  | readBatch => exact execReadBatch_within h pAll rAll e
  | loadConsistChunk => exact execLoadConsistChunk_within h pAll rAll e
  | loadConsistVerify => exact execLoadConsistVerify_within h pAll rAll e
  | loadConsistApply => exact execLoadConsistApply_within h pAll rAll e
  | shunt => exact execShunt_within h pAll rAll e
  | store => exact execStore_within h pAll rAll e
  | powerReq => exact execPowerReq_within h pAll rAll e
  | sync => exact execSync_within h pAll rAll e
  | almanacRead => exact execAlmanacRead_within h pAll rAll e
  | notifyCfg => exact execNotifyCfg_within h pAll rAll e
  | sessionOpen => exact execSessionOpen_within h pAll rAll e
  | sessionClose => exact execSessionClose_within h pAll rAll e
  | noOperation => exact execNoOperation_within h pAll rAll e
  | longCommandDone => apply execLongCommandDone_within h (e := e) <;> apply_assumption
  | hostSwirq => apply execHostSwirq_within h (e := e) <;> apply_assumption
  | hostPortConfig => apply execHostPortConfig_within h (e := e) <;> apply_assumption
  | twStatus => apply execTwStatus_within h (e := e) <;> apply_assumption
  | twHello => apply execTwHello_within h (e := e) <;> apply_assumption
  | twPointer => apply execTwPointer_within h (e := e) <;> apply_assumption
  | twReadReg => apply execTwReadReg_within h (e := e) <;> apply_assumption
  | twWriteReg => exact execTwWriteReg_within h pAll rAll e
  | twReadBatch => apply execTwReadBatch_within h (e := e) <;> apply_assumption
  | twBatchAgain => apply execTwBatchAgain_within h (e := e) <;> apply_assumption
  | twLoadConsistChunk => apply execTwLoadConsistChunk_within h (e := e) <;> apply_assumption
  | twLoadConsistVerify => apply execTwLoadConsistVerify_within h (e := e) <;> apply_assumption
  | twLoadConsistApply => apply execTwLoadConsistApply_within h (e := e) <;> apply_assumption
  | twShunt => apply execTwShunt_within h (e := e) <;> apply_assumption
  | twStore => apply execTwStore_within h (e := e) <;> apply_assumption
  | twPowerReq => exact execTwPowerReq_within h pAll rAll e
  | twSync => apply execTwSync_within h (e := e) <;> apply_assumption
  | twSyncRead => apply execTwSyncRead_within h (e := e) <;> apply_assumption
  | twAlmanacPtr => apply execTwAlmanacPtr_within h (e := e) <;> apply_assumption
  | twAlmanacRead => apply execTwAlmanacRead_within h (e := e) <;> apply_assumption
  | twNotifyCfg => apply execTwNotifyCfg_within h (e := e) <;> apply_assumption
  | twLongDone => apply execTwLongDone_within h (e := e) <;> apply_assumption
  | stretchTimeout => apply execStretchTimeout_within h (e := e) <;> apply_assumption
  | busTimeout => apply execBusTimeout_within h (e := e) <;> apply_assumption
  | addressMatch => apply execAddressMatch_within h (e := e) <;> apply_assumption
  | twTakeover => apply execTwTakeover_within h (e := e) <;> apply_assumption
  | matcherRelease => apply execMatcherRelease_within h (e := e) <;> apply_assumption
  | calmAddressWake => apply execCalmAddressWake_within h (e := e) <;> apply_assumption
  | hostNotify => apply execHostNotify_within h (e := e) <;> apply_assumption
  | twSwirqSet => apply execTwSwirqSet_within h (e := e) <;> apply_assumption
  | profileTrigger => apply execProfileTrigger_within h (e := e) <;> apply_assumption
  | profileGo => apply execProfileGo_within h (e := e) <;> apply_assumption
  | sensorFrameStart => exact execSensorFrameStart_within h (pAll _) e
  | sensorFrameEnd => apply execSensorFrameEnd_within h (e := e) <;> apply_assumption
  | windowRead => apply execWindowRead_within h (e := e) <;> apply_assumption
  | windowWrite => exact execWindowWrite_within h pAll rAll e
  | pageBufferIdle => exact execPageBufferIdle_within h (pAll _) e
  | flashStatusPoll => apply execFlashStatusPoll_within h (e := e) <;> apply_assumption
  | flashOperationTimeout => apply execFlashOperationTimeout_within h (e := e) <;> apply_assumption
  | flashEraseSector => apply execFlashEraseSector_within h (e := e) <;> apply_assumption
  | flashEraseBlock => apply execFlashEraseBlock_within h (e := e) <;> apply_assumption
  | flashEraseDevice => apply execFlashEraseDevice_within h (e := e) <;> apply_assumption
  | flashProgramBuffer => apply execFlashProgramBuffer_within h (e := e) <;> apply_assumption
  | cacheInvalidate => apply execCacheInvalidate_within h (e := e) <;> apply_assumption
  | modeFault => apply execModeFault_within h (e := e) <;> apply_assumption
  | profileBufferWrite => exact execProfileBufferWrite_within h pAll rAll e
  | eventDelivery => apply execEventDelivery_within h (e := e) <;> apply_assumption
  | softwarePublish => exact execSoftwarePublish_within h pAll rAll e
  | gateWrite => apply execGateWrite_within h (e := e) <;> apply_assumption
  | routeEntryWrite => apply execRouteEntryWrite_within h (e := e) <;> apply_assumption
  | timerStart => apply execTimerStart_within h (e := e) <;> apply_assumption
  | timerGroupStart => apply execTimerGroupStart_within h (e := e) <;> apply_assumption
  | timerStop => apply execTimerStop_within h (e := e) <;> apply_assumption
  | timerClear => apply execTimerClear_within h (e := e) <;> apply_assumption
  | timerCapture => apply execTimerCapture_within h (e := e) <;> apply_assumption
  | timerCountEvent => apply execTimerCountEvent_within h (e := e) <;> apply_assumption
  | timerWrap => apply execTimerWrap_within h (e := e) <;> apply_assumption
  | compareFire => apply execCompareFire_within h (e := e) <;> apply_assumption
  | compareWrite => exact execCompareWrite_within h pAll rAll e
  | reloadWrite => apply execReloadWrite_within h (e := e) <;> apply_assumption
  | timerConfigWrite => exact execTimerConfigWrite_within h pAll rAll e
  | outputLevelWrite => apply execOutputLevelWrite_within h (e := e) <;> apply_assumption
  | captureRead => exact execCaptureRead_within h (pAll _) (pAll _) e
  | interruptRoute => exact execInterruptRoute_within h (pAll _) e
  | interruptClaim => exact execInterruptClaim_within h (pAll _) (pAll _) e
  | interruptComplete => apply execInterruptComplete_within h (e := e) <;> apply_assumption
  | softwareInterruptSet => apply execSoftwareInterruptSet_within h (e := e) <;> apply_assumption
  | sourceConfigWrite => apply execSourceConfigWrite_within h (e := e) <;> apply_assumption
  | coreAcceptWrite => apply execCoreAcceptWrite_within h (e := e) <;> apply_assumption
  | coreResetRequest => apply execCoreResetRequest_within h (e := e) <;> apply_assumption
  | coreFaultReset => apply execCoreFaultReset_within h (e := e) <;> apply_assumption
  | coreRestart => exact execCoreRestart_within h (pAll _) e
  | wakeLatchSet => apply execWakeLatchSet_within h (e := e) <;> apply_assumption
  | coreWfi => exact execCoreWfi_within h (pAll _) e
  | coreWake => exact execCoreWake_within h (pAll _) (pAll _) e
  | fenceI => exact execFenceI_within h (pAll _) e
  | requestGale => exact execRequestGale_within h pAll rAll e
  | requestBreeze => exact execRequestBreeze_within h pAll rAll e
  | requestLull => exact execRequestLull_within h pAll rAll e
  | requestCalm => exact execRequestCalm_within h pAll rAll e
  | vaneWakeRequest => apply execVaneWakeRequest_within h (e := e) <;> apply_assumption
  | vaneCalmRequest => apply execVaneCalmRequest_within h (e := e) <;> apply_assumption
  | handshakeCommit => apply execHandshakeCommit_within h (e := e) <;> apply_assumption
  | handshakeRefuse => exact execHandshakeRefuse_within h pAll rAll e
  | handshakeTimeout => exact execHandshakeTimeout_within h pAll rAll e
  | lullEntered => apply execLullEntered_within h (e := e) <;> apply_assumption
  | lullExit => apply execLullExit_within h (e := e) <;> apply_assumption
  | pllLocked => exact execPllLocked_within h (pAll _) (pAll _) e
  | breezeReached => exact execBreezeReached_within h pAll rAll e
  | calmEntered => exact execCalmEntered_within h pAll rAll e
  | calmWake => apply execCalmWake_within h (e := e) <;> apply_assumption
  | domainIdleOff => apply execDomainIdleOff_within h (e := e) <;> apply_assumption
  | domainWake => exact execDomainWake_within h pAll rAll e
  | retentionCheckDone => apply execRetentionCheckDone_within h (e := e) <;> apply_assumption
  | padRelease => exact execPadRelease_within h (pAll _) (pAll _) e
  | clockSourceWrite => apply execClockSourceWrite_within h (e := e) <;> apply_assumption
  | monitorScan => apply execMonitorScan_within h (e := e) <;> apply_assumption
  | vaneCaptureEdge => apply execVaneCaptureEdge_within h (e := e) <;> apply_assumption
  | wakePinChange => apply execWakePinChange_within h (e := e) <;> apply_assumption
  | rtcAlarm => apply execRtcAlarm_within h (e := e) <;> apply_assumption
  | powerOnReset => exact execPowerOnReset_within h pAll rAll e
  | brownOutReset => exact execBrownOutReset_within h pAll rAll e
  | pinReset => exact execPinReset_within h pAll rAll e
  | softwareReset => exact execSoftwareReset_within h pAll rAll e
  | enclaveReset => exact execEnclaveReset_within h pAll rAll e
  | bootComplete => apply execBootComplete_within h (e := e) <;> apply_assumption
  | a1Start => apply execA1Start_within h (e := e) <;> apply_assumption
  | nvmOpen => apply execNvmOpen_within h (e := e) <;> apply_assumption
  | nvmErase => apply execNvmErase_within h (e := e) <;> apply_assumption
  | nvmProgram => apply execNvmProgram_within h (e := e) <;> apply_assumption
  | nvmCommit => apply execNvmCommit_within h (e := e) <;> apply_assumption
  | nvmStore => exact execNvmStore_within h pAll rAll e
  | nvmClose => apply execNvmClose_within h (e := e) <;> apply_assumption
  | nvmOperationDone => apply execNvmOperationDone_within h (e := e) <;> apply_assumption
  | storePageWritten => apply execStorePageWritten_within h (e := e) <;> apply_assumption
  | settingsWrite => exact execSettingsWrite_within h pAll rAll e
  | hash => apply execHash_within h (e := e) <;> apply_assumption
  | verify => apply execVerify_within h (e := e) <;> apply_assumption
  | cmac => apply execCmac_within h (e := e) <;> apply_assumption
  | ctr => apply execCtr_within h (e := e) <;> apply_assumption
  | random => apply execRandom_within h (e := e) <;> apply_assumption
  | keyInstall => apply execKeyInstall_within h (e := e) <;> apply_assumption
  | keyRevoke => apply execKeyRevoke_within h (e := e) <;> apply_assumption
  | keyInfo => apply execKeyInfo_within h (e := e) <;> apply_assumption
  | setmin => apply execSetmin_within h (e := e) <;> apply_assumption
  | winset => apply execWinset_within h (e := e) <;> apply_assumption
  | advance => apply execAdvance_within h (e := e) <;> apply_assumption
  | decommission => apply execDecommission_within h (e := e) <;> apply_assumption
  | mailboxDone => exact execMailboxDone_within h pAll rAll e
  | seclockSet => apply execSeclockSet_within h (e := e) <;> apply_assumption
  | secdbgChallenge => exact execSecdbgChallenge_within h (pAll _) e
  | secdbgResponse => exact execSecdbgResponse_within h (pAll _) (pAll _) e
  | entropyFail => apply execEntropyFail_within h (e := e) <;> apply_assumption
  | enclaveSensorTrip => exact execEnclaveSensorTrip_within h pAll rAll e
  | readClearAccess => apply execReadClearAccess_within h (e := e) <;> apply_assumption
  | secondWatchCandidate => exact execSecondWatchCandidate_within h (pAll _) e
  | secondWatchSync => apply execSecondWatchSync_within h (e := e) <;> apply_assumption
  | secondWatchDeadline => exact execSecondWatchDeadline_within h (pAll _) (rAll _) e
  | badopFrame => exact execBadopFrame_within h pAll rAll e
  | twUnknownCode => apply execTwUnknownCode_within h (e := e) <;> apply_assumption
  | crystalRunning => apply execCrystalRunning_within h (e := e) <;> apply_assumption
  | x32Start => apply execX32Start_within h (e := e) <;> apply_assumption

/-! ### The invariant -/

theorem Within.sound (h : Within P R s t) (hs : Sound s) : Sound t :=
  { mem := h.mem hs.mem, regs := h.regs hs.regs, clock := h.clock hs.clock }

/-- The invariant does not look at the queue. -/
theorem Sound.setPending (h : Sound s) (q : List Instr) : Sound { s with pending := q } :=
  { mem := h.mem, regs := h.regs, clock := h.clock }

theorem exec_sound (hs : Sound s) (c : Instr) (e : exec c s = .next t) : Sound t :=
  (exec_within (P := fun _ => True) (R := fun _ => True) (within_refl s) (fun _ => trivial) (fun _ => trivial) c e).sound hs

theorem idle_sound (hs : Sound s) : Sound (idle s) :=
  (idle_within (P := fun _ => True) (R := fun _ => True) (within_refl s) (fun _ => trivial) (fun _ => trivial)).sound hs

/-! ### The step's two cases -/

theorem step_of_pending_nil (h : s.pending = []) : step s = .next (idle s) := by
  simp only [step, h]

theorem step_of_pending_cons {c : Instr} {rest : List Instr} (h : s.pending = c :: rest) :
    step s = exec c { s with pending := rest } := by
  simp only [step, h]

end Sys2Proof.Machine

namespace Sys2Proof.Proofs
open Machine

/-- Settles O1: the second case of `step`. -/
theorem stepRunsFrontCommand : Obligations.StepRunsFrontCommand :=
  fun _ _ _ h => step_of_pending_cons h

/-- Settles O4: nothing is listed in either table, BUSCLK runs, and the accumulator and the phase stand at 0. -/
theorem resetIsSound : Obligations.ResetIsSound :=
  ⟨{ mem := rfl, regs := rfl, clock := { source := nofun, acc := by decide, phase := by decide } }, rfl⟩

/-- Settles O5: a clock edge and every command keep the invariant, which does not look at the queue. -/
theorem stepKeepsSound : Obligations.StepKeepsSound := by
  unfold Obligations.StepKeepsSound
  intro s hs
  cases hq : s.pending with
  | nil => exact ⟨idle s, step_of_pending_nil hq, idle_sound hs⟩
  | cons c rest =>
    obtain ⟨t, ht⟩ := exec_next c { s with pending := rest }
    exact ⟨t, (step_of_pending_cons hq).trans ht, exec_sound (hs.setPending rest) c ht⟩

end Sys2Proof.Proofs
end

section
/-! PROOFS. X32 edges while the Vane counter is the stamp source: 2,929 ticks and 11/16 each (R21). -/
namespace Sys2Proof.Machine

/-- An X32 edge adds 2,929 ticks and 11/16, whole sixteenths carried by the accumulator. -/
theorem vaneCount_eq {c : Clock} (h : c.acc < 16) :
    vaneCount c = { c with acc := (c.acc + 11) % 16, vane := stAdd c.vane (2929 + (c.acc + 11) / 16) } := by
  unfold vaneCount
  split
  case isTrue hcarry =>
    rw [show (c.acc + 11) % 16 = c.acc + 11 - 16 by omega, show (c.acc + 11) / 16 = 1 by omega]
  case isFalse hcarry =>
    rw [show (c.acc + 11) % 16 = c.acc + 11 by omega, show (c.acc + 11) / 16 = 0 by omega]

theorem stAdd_stAdd (t : Stamp) (m n : Nat) : stAdd (stAdd t m) n = stAdd t (m + n) := by
  simp only [stAdd, BitVec.add_assoc, ← BitVec.ofNat_add]

/-- `n` X32 edges: the accumulator carries once for every whole tick in `n` times 11/16. -/
theorem vaneCount_repeat {c : Clock} (h : c.acc < 16) (n : Nat) :
    Nat.repeat vaneCount n c =
      { c with acc := (c.acc + 11 * n) % 16, vane := stAdd c.vane (2929 * n + (c.acc + 11 * n) / 16) } := by
  induction n with
  | zero => simp [Nat.repeat, stAdd, Nat.mod_eq_of_lt h, Nat.div_eq_of_lt h]
  | succ n ih =>
    have hacc : ((c.acc + 11 * n) % 16 + 11) % 16 = (c.acc + 11 * (n + 1)) % 16 := by omega
    have hticks : 2929 * n + (c.acc + 11 * n) / 16 + (2929 + ((c.acc + 11 * n) % 16 + 11) / 16) =
      2929 * (n + 1) + (c.acc + 11 * (n + 1)) / 16 := by omega
    rw [Nat.repeat, ih, vaneCount_eq (Nat.mod_lt _ (by decide)), stAdd_stAdd]
    dsimp only
    rw [hacc, hticks]

end Sys2Proof.Machine

namespace Sys2Proof.Proofs
open Machine

/-- Settles O3: sixteen edges are 16 times 2,929 ticks and 16 times 11/16, which is 11 carries whatever the accumulator. -/
theorem sixteenX32Edges : Obligations.SixteenX32Edges := by
  unfold Obligations.SixteenX32Edges
  intro c h
  have hacc : (c.acc + 11 * 16) % 16 = c.acc := by omega
  have hticks : 2929 * 16 + (c.acc + 11 * 16) / 16 = 46875 := by omega
  have hone : 2929 + (c.acc + 11) / 16 = if 16 ≤ c.acc + 11 then 2930 else 2929 := by split <;> omega
  rw [vaneCount_eq h, vaneCount_repeat h, hacc, hticks, hone]
  exact ⟨rfl, rfl, rfl, rfl, rfl, rfl⟩

end Sys2Proof.Proofs
end

section
/-! PROOFS. Wide values (R38): a low-word read snapshots the higher words into the accessor's own holding units, and a
low-word write commits the whole value (R208, R510). -/
namespace Sys2Proof.Machine

/-! ### Units of an accessor -/

theorem accIx_inj {a b : Accessor} (h : accIx a = accIx b) : a = b := by
  cases a <;> cases b <;> cases h <;> rfl

theorem accU_inj {a b : Accessor} (h : accU a = accU b) : a = b := accIx_inj (Fin.ext h)

theorem accU_lt (a : Accessor) : accU a < 6 := (accIx a).isLt

theorem holdU_inj {a b : Accessor} (h : holdU a = holdU b) : a = b := accU_inj (Nat.add_left_cancel h)

/-! ### A read that snapshots -/

/-- What a low-word read of a wide value leaves: the low word `w.1` in the answer, `w.2` in the holding units of `a`, and
the holding units of the other accessors as they were; `words b` are the words as `b` sees them. -/
def Snapshots (a : Accessor) (words : Accessor → Word × List (Reg × Nat × Word)) (s t : State) : Prop :=
  lastAnswer a t = .data (words a).1 ∧ (∀ e ∈ (words a).2, t.reg e.1 e.2.1 = e.2.2) ∧
    ∀ b, b ≠ a → ∀ e ∈ (words b).2, t.reg e.1 e.2.1 = s.reg e.1 e.2.1

/-- A value of two words: the read sets the accessor's one holding unit. -/
theorem snapshots_single {a : Accessor} {x : RegRef} {s t : State} {r : Reg} {unit : Accessor → Nat}
    {lo hi : Accessor → Word} (hwf : RegFile.wf s.regs) (hunit : ∀ b, unit b = unit a → b = a)
    (ht : t = (readReg a x s).2.answer a (.data (readReg a x s).1))
    (hread : readReg a x s = (lo a, s.setReg r (unit a) (hi a))) :
    Snapshots a (fun b => (lo b, [(r, unit b, hi b)])) s t := by
  rw [hread] at ht
  subst ht
  refine ⟨lastAnswer_answer_same _ _ _, ?_, ?_⟩
  · intro e he
    obtain rfl := List.mem_singleton.1 he
    exact reg_setReg_same _ _ _ _ hwf
  · intro b hb e he
    obtain rfl := List.mem_singleton.1 he
    exact reg_setReg_other _ _ _ _ _ _ (.inr fun h => hb (hunit b h))

/-! ### A run of units -/

/-- Setting `n` consecutive units of a register keeps the canonical form. -/
theorem wf_setUnits {s : State} (h : RegFile.wf s.regs) (r : Reg) (base n : Nat) (f : Nat → Word) :
    RegFile.wf ((List.range n).foldl (fun s j => s.setReg r (base + j) (f j)) s).regs := by
  induction n with
  | zero => exact h
  | succ n ih => rw [List.range_succ, List.foldl_append]; exact RegFile.wf_setReg _ _ _ _ ih

theorem reg_setUnits_other (s : State) (r : Reg) (base n : Nat) (f : Nat → Word) {q : Reg} {v : Nat}
    (h : q ≠ r ∨ v < base ∨ base + n ≤ v) :
    ((List.range n).foldl (fun s j => s.setReg r (base + j) (f j)) s).reg q v = s.reg q v := by
  induction n with
  | zero => rfl
  | succ n ih =>
    rw [List.range_succ, List.foldl_append]
    exact (reg_setReg_other _ _ _ _ _ _ (h.imp_right (by omega))).trans (ih (h.imp_right (by omega)))

theorem reg_setUnits_same {s : State} (h : RegFile.wf s.regs) (r : Reg) (base n : Nat) (f : Nat → Word) {j : Nat}
    (hj : j < n) : ((List.range n).foldl (fun s j => s.setReg r (base + j) (f j)) s).reg r (base + j) = f j := by
  induction n with
  | zero => exact absurd hj (Nat.not_lt_zero j)
  | succ n ih =>
    rw [List.range_succ, List.foldl_append]
    obtain hlt | rfl := Nat.lt_succ_iff_lt_or_eq.1 hj
    · exact (reg_setReg_other _ _ _ _ _ _ (.inr (by omega))).trans (ih hlt)
    · exact reg_setReg_same _ _ _ _ (wf_setUnits h r base j f)

theorem readReg_AR_first (a : Accessor) (b : Fin 2) (s : State) :
    readReg a { reg := .db .AR, i := 0, bus := b } s =
      ((s.drawbar[b].acts[asel a b s].last).getD 0 0, (List.range 10).foldl (fun t j =>
        t.setReg (.db .AR) ((b.val * 6 + accU a) * 16 + j) ((s.drawbar[b].acts[asel a b s].last).getD j 0)) s) := rfl

/-- The last packet of an actuator: ten words, of which the accessor holds nine (R349). -/
theorem snapshots_packet {a : Accessor} {b : Fin 2} {s : State} (hwf : RegFile.wf s.regs)
    (hreach : ReadReaches a (.db .AR) s) :
    Snapshots a (fun c => wideWords c s (.packet b)) s (busGet a (.db .AR) b s) := by
  rw [busGet_reaches hreach b, readReg_AR_first]
  refine ⟨lastAnswer_answer_same _ _ _, ?_, ?_⟩
  · intro e he
    obtain ⟨j, hj, rfl⟩ := List.mem_map.1 he
    have hj : j + 1 < 10 := Nat.succ_lt_succ (List.mem_range.1 hj)
    rw [State.answer_reg]
    exact reg_setUnits_same hwf (.db .AR) _ 10 (fun j => (s.drawbar[b].acts[asel a b s].last).getD j 0) hj
  · intro c hc e he
    obtain ⟨j, hj, rfl⟩ := List.mem_map.1 he
    have hj := List.mem_range.1 hj
    rw [State.answer_reg]
    have hne : accU c ≠ accU a := fun h => hc (accU_inj h)
    refine reg_setUnits_other s (.db .AR) _ 10 (fun j => (s.drawbar[b].acts[asel a b s].last).getD j 0) (.inr ?_)
    change (b.val * 6 + accU c) * 16 + (j + 1) < _ ∨ _ ≤ (b.val * 6 + accU c) * 16 + (j + 1)
    omega

theorem readReg_TMEML (a : Accessor) (n : Fin 16) (s : State) :
    readReg a { reg := .cw .TMEML, i := n.val, bus := 0 } s =
      (memberMask s.coach.trains[n] 0, s.setReg (.cw .TMEMH) (accU a) (memberMask s.coach.trains[n] 32)) := by
  simp [readReg, cwRead, snapshot]

theorem readReg_ACCL (a : Accessor) (p : Fin 68) (s : State) :
    readReg a { reg := .cw .ACCL, i := p.val, bus := 0 } s =
      ((s.coach.cars[p]).acc.setWidth 32,
        s.setReg (.cw .ACCH) (accU a) (((s.coach.cars[p]).acc >>> 32).setWidth 32)) := by
  simp [readReg, cwRead, snapshot]

/-- A low-word read that reaches its block takes the snapshot, whichever the wide value. -/
theorem wideRead_snapshots {a : Accessor} {w : WideValue} {s : State} (hwf : RegFile.wf s.regs)
    (hreach : ReadReaches a (wideReg w) s) : Snapshots a (fun b => wideWords b s w) s (wideRead a w s) := by
  have hacc : ∀ b, accU b = accU a → b = a := fun _ => accU_inj
  have hhold : ∀ b, holdU b = holdU a → b = a := fun _ => holdU_inj
  cases w with
  | stamp => exact snapshots_single hwf hacc (regGet_reaches hreach 0) rfl
  | members n => exact snapshots_single hwf hacc (regGet_reaches hreach n.val) (readReg_TMEML a n s)
  | accumulator p => exact snapshots_single hwf hacc (regGet_reaches hreach p.val) (readReg_ACCL a p s)
  | position => exact snapshots_single hwf hacc (regGet_reaches hreach 0) rfl
  | captureStamp => exact snapshots_single hwf hacc (regGet_reaches hreach 0) rfl
  | oldest => exact snapshots_single hwf hacc (regGet_reaches hreach 0) rfl
  | uid => exact snapshots_single hwf hacc (regGet_reaches hreach 0) rfl
  | hostSync => exact snapshots_single hwf hhold (regGet_reaches hreach 0) rfl
  | twSync => exact snapshots_single hwf hhold (regGet_reaches hreach 0) rfl
  | alarm => exact snapshots_single hwf hhold (regGet_reaches hreach 0) rfl
  | lastEvent =>
    exact snapshots_single hwf (fun _ h => accU_inj (Nat.add_left_cancel h)) (regGet_reaches hreach 0) rfl
  | packet b => exact snapshots_packet hwf hreach

/-! ### A write of the whole value -/

theorem getElem_upd_same {α : Type} {n : Nat} (v : Vector α n) (i : Fin n) (f : α → α) : (upd v i f)[i] = f v[i] := by
  simp [upd]

theorem getElem_upd_other {α : Type} {n : Nat} (v : Vector α n) (f : α → α) {i j : Fin n} (h : j ≠ i) :
    (upd v i f)[j] = v[j] := by
  have hne : i.val ≠ j.val := fun e => h (Fin.ext e.symm)
  simp [upd, hne]

theorem writePosition_same (d : Fin 32) (v : Word) (s : State) :
    (writePosition d v s).slots[d] = { s.slots[d] with
      pos := v, valid := true, doubt := false, corr := 0, taken := false,
      dirty := s.slots[d].dirty || s.rbit (.ds .CFG) d.val 27 } :=
  getElem_upd_same _ _ _

theorem writePosition_other {d e : Fin 32} (v : Word) (s : State) (h : e ≠ d) :
    (writePosition d v s).slots[e] = s.slots[e] :=
  getElem_upd_other _ _ h

theorem PartsBut.mono {l m : List Part} {s t : State} (h : PartsBut l s t) (hlm : l ⊆ m) : PartsBut m s t :=
  fun p hp => h p fun hl => hp (hlm hl)

theorem writePosition_partsBut (d : Fin 32) (v : Word) (s : State) : PartsBut [.slots] s (writePosition d v s) :=
  fun p hp => by
    cases p with
    | slots => exact absurd (List.mem_singleton_self _) hp
    | _ => rfl

/-- What the alarm and its two levels may touch beside the stored words (R510). -/
theorem levelsFrom_frame (before s : State) :
    Within (fun p => p ∈ [.safety, .ic, .power, .tw]) (fun r => r = .vn .WSTAT) s (levelsFrom before s) :=
  levelsFrom_within (within_refl s) (by simp) (by simp) (by simp) (by simp) rfl

/-- The register file and the parts after a write of VN_ALARML (R38, R510). -/
theorem alarmWrite_commits (a : Accessor) (i : Nat) (v : Word) {s : State} (hwf : RegFile.wf s.regs) :
    let t := vnPlain a .ALARML i v s
    t.reg (.vn .ALARML) 0 = v ∧ t.reg (.vn .ALARMH) 0 = s.reg (.vn .ALARMH) (holdU a) ∧ t.slots = s.slots ∧
      t.mem = s.mem := by
  have hlow := RegFile.wf_setReg s (.vn .ALARML) 0 v hwf
  have hf := levelsFrom_frame s
    ((s.setReg (.vn .ALARML) 0 v).setReg (.vn .ALARMH) 0 (s.reg (.vn .ALARMH) (holdU a)))
  refine ⟨?_, ?_, (hf.parts .slots).resolve_left (by simp), (hf.parts .mem).resolve_left (by simp)⟩
  · refine ((hf.file (.vn .ALARML) 0).resolve_left (by simp)).trans ?_
    rw [reg_setReg_other _ _ _ _ _ _ (.inl (by decide)), reg_setReg_same _ _ _ _ hwf]
  · exact ((hf.file (.vn .ALARMH) 0).resolve_left (by simp)).trans (reg_setReg_same _ _ _ _ hlow)

end Sys2Proof.Machine

namespace Sys2Proof.Proofs
open Machine

/-- Settles O7: the snapshot of each wide value, and the commits of the position and of the alarm. -/
theorem wideValueAccesses : Obligations.WideValueAccesses := by
  unfold Obligations.WideValueAccesses
  refine ⟨?_, ?_, ?_⟩
  · intro a w s hwf hreach
    exact ⟨wideRead a w s, rfl, wideRead_snapshots hwf hreach⟩
  · intro a v s hreach
    have hput : regPut a (.ds .POSL) 0 v s = (writePosition (selSlot a s) v s).answer a .done := regPut_reaches hreach 0
    refine ⟨(writePosition (selSlot a s) v s).answer a .done, congrArg _ hput, congrArg _ hput,
      lastAnswer_answer_same _ _ _, ?_, fun r u _ => rfl, ?_⟩
    · simp only [State.answer_slots, writePosition_same, true_and]
      exact fun e he => writePosition_other v s he
    · exact ((writePosition_partsBut _ v s).trans (answer_partsBut _ a .done)).mono (by simp)
  · intro a v s hwf hreach
    obtain ⟨hlow, hhigh, hslots, hmem⟩ := alarmWrite_commits a 0 v hwf
    exact ⟨(vnPlain a .ALARML 0 v s).answer a .done, congrArg _ (regPut_reaches hreach 0),
      lastAnswer_answer_same _ _ _, hlow, hhigh, hslots, hmem⟩

end Sys2Proof.Proofs
end

section
/-! PROOFS. Register writes by address (R34 to R36, R40), what waits for a domain (R35), and the edge that lets nothing go
when nothing waits. -/
namespace Sys2Proof.Machine

/-! ### Work that waits -/

theorem waiting_filter_eq_self {p : PowerSt} (h : p.waiting = []) (f : Waiting → Bool) :
    { p with waiting := p.waiting.filter f } = p := by
  rw [h, List.filter_nil, ← h]

theorem performIssues_of_none {s : State} (hhost : s.host.issue = none) (htw : s.tw.issue = none) :
    performIssues s = s := by
  simp only [performIssues, hhost, htw]

/-- With no postponed work and no long command waiting, an edge lets nothing go. -/
theorem performWaiting_of_nothingWaits {s : State} (h : NothingWaits s) : performWaiting s = s := by
  obtain ⟨hwaiting, hhost, htw⟩ := h
  have hdue : s.power.waiting.filter (waitOver s) = [] := by rw [hwaiting, List.filter_nil]
  simp only [performWaiting, updPower, hdue, waiting_filter_eq_self hwaiting, List.foldl_nil]
  exact performIssues_of_none hhost htw

theorem NothingWaits.answer {s : State} (h : NothingWaits s) (a : Accessor) (w : Answer) : NothingWaits (s.answer a w) := h

theorem NothingWaits.stall {s : State} (h : NothingWaits s) (a : Accessor) (x : Access) : NothingWaits (s.stall a x) := h

/-! ### Addresses -/

/-- The register region is one range of addresses (R32). -/
theorem regionOf_eq_registers_iff (addr size : Nat) :
    regionOf addr size = .registers ↔ 0x40000000 ≤ addr ∧ addr + size ≤ 0x40110000 := by
  have hsram : sramBase = 0x20000000 := rfl
  simp only [regionOf, decide_eq_true_eq]
  repeat' split
  all_goals simp only [reduceCtorEq, false_iff, true_iff]
  all_goals omega

/-- An access that starts in the register region at a word is in it at every smaller size too. -/
theorem regionOf_registers_mono {addr size : Nat} (h : regionOf addr 4 = .registers) (hsize : size ≤ 4) :
    regionOf addr size = .registers := by
  rw [regionOf_eq_registers_iff] at h ⊢
  omega

/-! ### Writes by address -/

/-- Only whole aligned words of the register blocks are written (R34). -/
theorem busWrite_narrow {a : Accessor} {addr size : Nat} {v : Word} {s : State} (hregion : regionOf addr 4 = .registers)
    (hsees : sees a .registers s = true) (hsize : size = 1 ∨ size = 2) :
    busWrite a addr size v s = s.answer a .busError := by
  have hsmall : regionOf addr size = .registers := regionOf_registers_mono hregion (by omega)
  have hne : size ≠ 4 := by omega
  simp [busWrite, hsmall, hsees, hne]

section
variable {a : Accessor} {addr : Nat} {v : Word} {x : RegRef} {rep : Reg} {s : State}
  (hregion : regionOf addr 4 = .registers) (halign : addr % 4 = 0) (hsees : sees a .registers s = true)
include hregion halign hsees

/-- A word write at an address that names a register is that register's write, through its gate. -/
theorem busWrite_register (hat : regAt addr = some (some x, rep)) :
    busWrite a addr 4 v s = regWrite a x.reg { addr := addr, size := 4, write := some v } (writeReg a x) s := by
  simp [busWrite, sizeOk, hregion, halign, hsees, hat]

/-- A word write at an offset of a block that names no register has no effect behind the block's gate (R34). -/
theorem busWrite_unnamed (hat : regAt addr = some (none, rep)) :
    busWrite a addr 4 v s = regWrite a rep { addr := addr, size := 4, write := some v } (fun _ s => s) s := by
  simp [busWrite, sizeOk, hregion, halign, hsees, hat]

end

/-! ### The three outcomes of the gate -/

section
variable {a : Accessor} {r : Reg} {x : Access} {v : Word} {s : State} {eff : Word → State → State}

theorem regWrite_reaches (hx : x.write = some v) (h : WriteReaches a r v s) :
    regWrite a r x eff s = (eff v s).answer a .done := by
  obtain ⟨hgate, hnone⟩ := h
  simp [regWrite, hx, hgate, hnone]

theorem regWrite_busError (h : gate a r true s = .busError) : regWrite a r x eff s = s.answer a .busError := by
  simp [regWrite, h]

theorem regWrite_stall (h : gate a r true s = .stall) : regWrite a r x eff s = s.stall a x := by
  simp [regWrite, h]

end

theorem exec_registerWrite (a : Accessor) (addr : Word) (size : Nat) (v : Word) (s : State) :
    exec (.registerWrite a addr size v) s = .next (performWaiting (busWrite a addr.toNat size v s)) := rfl

/-! ### A stalled access that is taken up again -/

/-- The accessor's stalled access is dropped. -/
def State.unstall (s : State) (a : Accessor) : State :=
  { s with acc := upd s.acc (accIx a) (fun y => { y with stalled := none }) }

theorem unstall_stalled (s : State) (a : Accessor) : ((s.unstall a).acc[accIx a]).stalled = none :=
  congrArg AccessorState.stalled (getElem_upd_same s.acc (accIx a) _)

theorem unstall_partsBut (s : State) (a : Accessor) : PartsBut [.acc] s (s.unstall a) := fun p hp => by
  cases p with
  | acc => exact absurd (List.mem_singleton_self _) hp
  | _ => rfl

theorem sees_unstall (b : Accessor) (r : Region) (s : State) (a : Accessor) : sees b r (s.unstall a) = sees b r s := rfl

/-- What stands in a write's way does not depend on the stalled accesses. -/
theorem WriteReaches.unstall {a : Accessor} {r : Reg} {v : Word} {s : State} (h : WriteReaches a r v s) (b : Accessor) :
    WriteReaches a r v (s.unstall b) := h

theorem exec_stalledAccessComplete (a : Accessor) (s : State) :
    exec (.stalledAccessComplete a) s = .next (stalledComplete a s) := rfl

theorem stalledComplete_of_none {a : Accessor} {s : State} (h : (s.acc[accIx a]).stalled = none) :
    stalledComplete a s = s := by
  simp only [stalledComplete, h]

theorem stalledComplete_write {a : Accessor} {s : State} {addr size : Nat} {v : Word}
    (h : (s.acc[accIx a]).stalled = some { addr := addr, size := size, write := some v }) :
    stalledComplete a s = busWrite a addr size v (s.unstall a) := by
  simp only [stalledComplete, h, State.unstall]

end Sys2Proof.Machine

namespace Sys2Proof.Proofs
open Machine

/-- Settles O9: a write's outcome is its gate's, and a stalled write is made again on the state without the stall. -/
theorem registerWritesAndStalls : Obligations.RegisterWritesAndStalls := by
  unfold Obligations.RegisterWritesAndStalls
  refine ⟨?_, ?_, ?_⟩
  · intro a addr v s hwaits hregion halign hsees
    refine ⟨?_, ?_, ?_, ?_, ?_⟩
    · intro x rep hat hreach
      rw [exec_registerWrite, busWrite_register hregion halign hsees hat, regWrite_reaches rfl hreach]
    · intro rep hat hreach
      rw [exec_registerWrite, busWrite_unnamed hregion halign hsees hat, regWrite_reaches rfl hreach,
        performWaiting_of_nothingWaits (hwaits.answer _ _)]
    · intro x rep hat hgate
      rw [exec_registerWrite, busWrite_register hregion halign hsees hat, regWrite_busError hgate,
        performWaiting_of_nothingWaits (hwaits.answer _ _)]
    · intro x rep hat hgate
      rw [exec_registerWrite, busWrite_register hregion halign hsees hat, regWrite_stall hgate,
        performWaiting_of_nothingWaits (hwaits.stall _ _)]
    · intro size hsize
      rw [exec_registerWrite, busWrite_narrow hregion hsees hsize, performWaiting_of_nothingWaits (hwaits.answer _ _)]
  · intro a s hnone
    rw [exec_stalledAccessComplete, stalledComplete_of_none hnone]
  · intro a addr v x rep s hstalled hregion halign hsees hat hreach
    refine ⟨s.unstall a, unstall_partsBut s a, fun _ _ _ => rfl, unstall_stalled s a, ?_⟩
    rw [exec_stalledAccessComplete, stalledComplete_write hstalled,
      busWrite_register hregion halign ((sees_unstall a .registers s a).trans hsees) hat,
      regWrite_reaches rfl (hreach.unstall a)]

end Sys2Proof.Proofs
end

section
/-! PROOFS. Words in memory and in the batch queue's ring: what a write leaves to be read (R4, R249). -/
namespace Sys2Proof.Machine

/-! ### Words -/

theorem toNat_byteOf (w : Word) (i : Nat) : (byteOf w i).toNat = w.toNat / 2 ^ (8 * i) % 256 := by
  simp [byteOf]

/-- The four bytes of a word make the word again (R4). -/
@[simp] theorem bytesWord_wordBytes (w : Word) : bytesWord (wordBytes w) = w := by
  have hw : w.toNat < 2 ^ 32 := w.isLt
  apply BitVec.eq_of_toNat_eq
  simp only [bytesWord, wordBytes, leNat, toNat_byteOf, BitVec.toNat_ofNat]
  omega

theorem readByte_congr {s t : State} (h : t.mem = s.mem) (x : Nat) : t.readByte x = s.readByte x := by
  simp only [State.readByte, h]

theorem readWord_congr {s t : State} {a b : Nat} (h : ∀ i < 4, t.readByte (b + i) = s.readByte (a + i)) :
    t.readWord b = s.readWord a := by
  unfold State.readWord State.readBytes
  rw [List.map_congr_left fun i hi => h i (List.mem_range.1 hi)]

theorem readByte_writeWord_other (s : State) (a x : Nat) (w : Word) (h : x < a ∨ a + 4 ≤ x) :
    (s.writeWord a w).readByte x = s.readByte x :=
  readByte_writeBytes_other s a x (wordBytes w) h

theorem writeWord_mem_wf (s : State) (a : Nat) (w : Word) (h : Memory.wf s.mem) : Memory.wf (s.writeWord a w).mem :=
  writeBytes_mem_wf s a (wordBytes w) h

/-- A word written is read back. -/
theorem readWord_writeWord_same (s : State) (a : Nat) (w : Word) (h : Memory.wf s.mem) :
    (s.writeWord a w).readWord a = w := by
  have hbytes : (s.writeWord a w).readBytes a 4 = wordBytes w := by
    refine List.ext_getElem rfl fun i hi _ => ?_
    have hi : i < 4 := by simpa [State.readBytes] using hi
    simp only [State.readBytes, List.getElem_map, List.getElem_range]
    exact readByte_writeBytes_same s a i (wordBytes w) h hi
  rw [State.readWord, hbytes, bytesWord_wordBytes]

theorem readWord_writeWord_other (s : State) (a b : Nat) (w : Word) (h : b + 4 ≤ a ∨ a + 4 ≤ b) :
    (s.writeWord a w).readWord b = s.readWord b :=
  readWord_congr fun i hi => readByte_writeWord_other s a (b + i) w (by omega)

/-! ### The ring -/

theorem queueWord_congr {s t : State} (h : t.mem = s.mem) (i : Nat) : queueWord t i = queueWord s i :=
  readWord_congr fun _ _ => readByte_congr h _

theorem writeQueue_mem_wf (s : State) (i : Nat) (ws : List Word) (h : Memory.wf s.mem) :
    Memory.wf (s.writeQueue i ws).mem := by
  induction ws generalizing s i with
  | nil => exact h
  | cons w ws ih => exact ih _ _ (writeWord_mem_wf s _ w h)

/-- A byte outside the words written keeps its value. -/
theorem readByte_writeQueue_other (s : State) (i x : Nat) (ws : List Word)
    (h : ∀ j < ws.length, x < queueBase + 4 * ((i + j) % queueWords) ∨ queueBase + 4 * ((i + j) % queueWords) + 4 ≤ x) :
    (s.writeQueue i ws).readByte x = s.readByte x := by
  induction ws generalizing s i with
  | nil => rfl
  | cons w ws ih =>
    have hrest := ih (s.writeWord (queueBase + 4 * (i % queueWords)) w) (i + 1) fun j hj => by
      simpa [Nat.add_assoc, Nat.add_comm 1 j] using h (j + 1) (Nat.succ_lt_succ hj)
    exact hrest.trans (readByte_writeWord_other _ _ _ _ (h 0 (Nat.succ_pos _)))

/-- A ring word that is not written keeps its value. -/
theorem queueWord_writeQueue_other (s : State) (i k : Nat) (ws : List Word)
    (h : ∀ j < ws.length, (i + j) % queueWords ≠ k % queueWords) :
    queueWord (s.writeQueue i ws) k = queueWord s k :=
  readWord_congr fun b hb => readByte_writeQueue_other s i _ ws fun j hj => by
    have := h j hj
    omega

/-- Words written into the ring, no more than it holds, are read back in their order. -/
theorem queueWord_writeQueue (s : State) (i j : Nat) (ws : List Word) (h : Memory.wf s.mem)
    (hlen : ws.length ≤ queueWords) (hj : j < ws.length) : queueWord (s.writeQueue i ws) (i + j) = ws[j] := by
  induction ws generalizing s i j with
  | nil => exact absurd hj (Nat.not_lt_zero j)
  | cons w ws ih =>
    rw [List.length_cons] at hlen hj
    cases j with
    | zero =>
      refine (queueWord_writeQueue_other _ (i + 1) i ws fun j hj => ?_).trans (readWord_writeWord_same s _ w h)
      change (i + 1 + j) % 65536 ≠ i % 65536
      have hlen : ws.length + 1 ≤ 65536 := hlen
      omega
    | succ j =>
      have hrest := ih (s.writeWord (queueBase + 4 * (i % queueWords)) w) (i + 1) j (writeWord_mem_wf s _ w h) (by omega)
        (by omega)
      rwa [Nat.add_assoc, Nat.add_comm 1 j] at hrest

end Sys2Proof.Machine
end

section
/-! PROOFS. The stamp handover (R23, R27), the epoch barrier and its EPOCH record (R246). -/
namespace Sys2Proof.Machine

/-! ### The handover -/

/-- Step 4 of R23: the BUSCLK counter takes the Vane counter's value and is the stamp source. -/
def handOver (s : State) : State :=
  { s with clk := { s.clk with bus := s.clk.vane, source := .bus, handoverDue := false } }

/-- R27: an EPOCH with the handover's stamp is due where the high bits have changed since the last one made. -/
def oweEpoch (s : State) : State :=
  if stHi s.now ≠ s.merger.highDone ∧ s.merger.restartDue = false then
    updMerger (fun m => { m with epochDue := some s.now }) s else s

/-- Lanes that were parked for Lull start again behind the handover. -/
def releaseLanes (s : State) : State :=
  if s.power.parked[1] && s.power.phase == .idle then
    (List.finRange 16).foldl (fun s k => restartLane k s)
      (updPower (fun p => { p with parked := p.parked.set! 1 false }) s)
  else s

theorem stampHandover_of_due {s : State} (hsource : s.clk.source = .vane) (hbus : s.clk.busOn = true)
    (hdue : s.clk.handoverDue = true) : stampHandover s = releaseLanes (oweEpoch (handOver s)) :=
  if_pos ⟨hsource, hbus, hdue⟩

theorem stampHandover_of_not_due {s : State} (h : s.clk.source = .bus ∨ s.clk.handoverDue = false) :
    stampHandover s = s :=
  if_neg fun ⟨hsource, _, hdue⟩ => by simp [hsource, hdue] at h

theorem now_congr {s t : State} (h : t.clk = s.clk) : t.now = s.now := by
  simp only [State.now, h]

/-- The present stamp does not change: both counters hold it. -/
theorem now_handOver {s : State} (h : s.clk.source = .vane) : (handOver s).now = s.now := by
  simp only [State.now, handOver, h]

theorem oweEpoch_clk (s : State) : (oweEpoch s).clk = s.clk := by
  unfold oweEpoch
  split <;> rfl

theorem oweEpoch_power (s : State) : (oweEpoch s).power = s.power := by
  unfold oweEpoch
  split <;> rfl

theorem oweEpoch_epochDue {s : State} (hhigh : stHi s.now ≠ s.merger.highDone) (hrestart : s.merger.restartDue = false) :
    (oweEpoch s).merger.epochDue = some s.now := by
  rw [oweEpoch, if_pos ⟨hhigh, hrestart⟩]
  rfl

/-- Restarting lanes leaves the clocks alone. -/
theorem releaseLanes_clk (s : State) : (releaseLanes s).clk = s.clk := by
  have hframe : Within (fun p => p ≠ .clk) (fun _ => True) s (releaseLanes s) := by
    unfold releaseLanes
    split
    · refine within_foldl (fun t k ht => ?_) (updPower_within (within_refl s) (by decide))
      apply restartLane_within ht <;> simp
    · exact within_refl s
  exact (hframe.parts .clk).resolve_left (by simp)

theorem releaseLanes_of_not_parked {s : State} (h : s.power.parked[1] = false) : releaseLanes s = s := by
  simp [releaseLanes, h]

/-! ### The epoch barrier -/

theorem stampHighChange_sets_barrier {s : State} (hsource : s.clk.source = .bus) (hbarrier : s.merger.barrier = none)
    (hrestart : s.merger.restartDue = false) (hdue : s.merger.epochDue = none) (hhigh : stHi s.now ≠ s.merger.highDone) :
    stampHighChange s =
      updMerger (fun m => { m with barrier := some (BitVec.ofNat 48 (stHi s.now * 2 ^ 32)) }) s := by
  simp [stampHighChange, hsource, hbarrier, hrestart, hdue, hhigh]

theorem updMerger_eq_self {f : Merger → Merger} {s : State} (h : f s.merger = s.merger) : updMerger f s = s := by
  rw [updMerger, h]

theorem firstsMade_of_none {s : State} (hrestart : s.merger.restartDue = false) (hdue : s.merger.epochDue = none) :
    firstsMade s = s := by
  have hsame : { s.merger with restartDue := false, epochDue := none } = s.merger := by rw [← hrestart, ← hdue]
  simp only [firstsMade, hrestart, hdue, Option.isSome_none, Bool.or_false, Bool.false_eq_true, if_false]
  exact updMerger_eq_self hsame

/-- With nothing arriving, held or put first, an edge writes only what leads. -/
theorem writeDue_lead {s : State} (harriving : s.merger.arriving = []) (hheld : s.merger.held = [])
    (hrestart : s.merger.restartDue = false) (hdue : s.merger.epochDue = none) (lead : List Rec) :
    writeDue lead s = noteEvents (writeAll lead s).1 (writeAll lead s).2 := by
  have hsame : updMerger (fun m => { m with held := [] }) s = s :=
    updMerger_eq_self (by rw [← hheld])
  have hnone : ∀ c, dueOf s c = [] := fun c => by rw [dueOf, hheld]; rfl
  simp only [writeDue, harriving, List.length_nil, judgeAll, firstRecords, hrestart, hdue, hnone, hheld,
    firstsMade_of_none hrestart hdue, Bool.false_eq_true, if_false, List.filter_nil, List.append_nil, List.nil_append, hsame]

/-- A record that finds room is written. -/
theorem writeAll_singleton {s : State} {r : Rec} (hflow : s.merger.overflow = none)
    (hroom : r.body.length + 2 ≤ queueFree s) : writeAll [r] s = ([r.typ], putRec r s) := by
  simp [writeAll, writeRec, hflow, Nat.not_lt.2 hroom]

/-! ### Writing one record (R237, R243) -/

/-- What a record adds to the queue stays what it is while only other parts change. -/
theorem Queues.congr {ws : List Word} {s t u : State} (h : Queues ws s t) (hmerger : u.merger = t.merger)
    (hmem : u.mem = t.mem) : Queues ws s u := by
  obtain ⟨hhead, hwords, hother⟩ := h
  refine ⟨hmerger ▸ hhead, fun i hi => (queueWord_congr hmem _).trans (hwords i hi), fun x hx => ?_⟩
  exact (readByte_congr hmem x).trans (hother x hx)

theorem writeQueue_merger (s : State) (i : Nat) (ws : List Word) : (s.writeQueue i ws).merger = s.merger :=
  ((State.writeQueue_within (P := (· = .mem)) (R := fun _ => False) (within_refl s) rfl).parts .merger).resolve_left nofun

theorem putRec_head (r : Rec) (s : State) :
    (putRec r s).merger.head = (s.merger.head + (r.body.length + 2)) % queueWords := by
  simp only [putRec, writeQueue_merger]

/-- A record that is written is in the ring at the head, and no other byte of memory has changed. -/
theorem putRec_queues {r : Rec} {s : State} (hwf : Memory.wf s.mem) (hlen : r.body.length + 2 ≤ queueWords) :
    Queues (recWords r (seqOf s r.source)) s (putRec r s) := by
  have hmem : (putRec r s).mem = (s.writeQueue s.merger.head (recWords r (seqOf s r.source))).mem := by
    simp only [putRec, recWords]
  refine ⟨putRec_head r s, fun i hi => ?_, fun x hx => ?_⟩
  · rw [queueWord_congr hmem, List.getD_eq_getElem?_getD, List.getElem?_eq_getElem hi, Option.getD_some]
    exact queueWord_writeQueue s s.merger.head i (recWords r (seqOf s r.source)) hwf hlen hi
  · exact (readByte_congr hmem x).trans (readByte_writeQueue_other s _ x _ hx)

theorem putRec_barrier (r : Rec) (s : State) : (putRec r s).merger.barrier = s.merger.barrier := by
  simp only [putRec, writeQueue_merger]

theorem putRec_highDone (r : Rec) (s : State) : (putRec r s).merger.highDone = s.merger.highDone := by
  simp only [putRec, writeQueue_merger]

theorem putRec_epochHigh {r : Rec} (h : r.typ = tEpoch) (s : State) :
    (putRec r s).merger.epochHigh = fld (r.body.headD 0) 15 0 := by
  simp [putRec, h]

/-- A field of 16 bits is read back from the word that it was put in. -/
theorem fld_at_low {v : Nat} (h : v < 2 ^ 16) : fld (at_ v 0) 15 0 = v := by
  simp only [fld, at_, BitVec.toNat_ofNat]
  omega

theorem stHi_lt (t : Stamp) : stHi t < 2 ^ 16 := by
  have := t.isLt
  unfold stHi
  omega

/-- Note events touch neither the merger nor memory. -/
theorem noteEvents_frame (types : List Nat) (s : State) :
    (noteEvents types s).merger = s.merger ∧ (noteEvents types s).mem = s.mem := by
  have hframe : Within (· ∈ [.safety, .router, .ic, .tw]) (fun _ => True) s (noteEvents types s) :=
    noteEvents_within (within_refl s) (by simp) (by simp) (by simp) (by simp) trivial
  exact ⟨(hframe.parts .merger).resolve_left (by simp), (hframe.parts .mem).resolve_left (by simp)⟩

/-- EPOCH_WRITE at a barrier that every front has passed, with nothing else to write and room in the queue (R246). -/
theorem epochWrite_writes {b : Stamp} {s : State} (hbarrier : s.merger.barrier = some b) (hwrites : mergerWrites s = true)
    (hpast : frontsPast s b = true) (harriving : s.merger.arriving = []) (hheld : s.merger.held = [])
    (hrestart : s.merger.restartDue = false) (hdue : s.merger.epochDue = none) (hflow : s.merger.overflow = none)
    (hroom : 3 ≤ queueFree s) :
    epochWrite s = noteEvents [tEpoch] (putRec (epochRec b) (endBarrier b s)) := by
  have hlead := writeDue_lead (s := endBarrier b s) harriving hheld hrestart hdue [epochRec b]
  have hone := writeAll_singleton (s := endBarrier b s) (r := epochRec b) hflow hroom
  rw [epochWrite, hbarrier]
  simp only [hwrites, hpast, Bool.and_self, if_true, hlead, hone]
  rfl

end Sys2Proof.Machine

namespace Sys2Proof.Proofs
open Machine

/-- Settles O11: the handover, the work let go with it, the barrier, and the EPOCH that ends it. -/
theorem stampHandoverAndEpoch : Obligations.StampHandoverAndEpoch := by
  unfold Obligations.StampHandoverAndEpoch
  refine ⟨⟨?_, ?_, ?_⟩, ?_, ?_⟩
  · intro s hsource hbus hdue
    have hclk : (stampHandover s).clk = (handOver s).clk := by
      rw [stampHandover_of_due hsource hbus hdue, releaseLanes_clk, oweEpoch_clk]
    refine ⟨stampHandover s, rfl, hclk, (now_congr hclk).trans (now_handOver hsource), ?_⟩
    intro hrestart hhigh hparked
    have hnow : (handOver s).now = s.now := now_handOver hsource
    have hparked : (oweEpoch (handOver s)).power.parked[1] = false := by rw [oweEpoch_power]; exact hparked
    rw [stampHandover_of_due hsource hbus hdue, releaseLanes_of_not_parked hparked, ← hnow]
    exact oweEpoch_epochDue (hnow ▸ hhigh) hrestart
  · intro s h
    exact congrArg (fun t => Host.Outcome.next (performWaiting t)) (stampHandover_of_not_due h)
  · intro s h
    exact performWaiting_of_nothingWaits h
  · intro s hsource hbarrier hrestart hdue hhigh
    exact congrArg _ (stampHighChange_sets_barrier hsource hbarrier hrestart hdue hhigh)
  · intro b s hwf hbarrier hwrites hpast harriving hheld hrestart hdue hflow hroom _
    obtain ⟨hmerger, hmem⟩ := noteEvents_frame [tEpoch] (putRec (epochRec b) (endBarrier b s))
    have hput : Queues (recWords (epochRec b) (seqOf s srcRecords)) s (putRec (epochRec b) (endBarrier b s)) :=
      putRec_queues (s := endBarrier b s) hwf (show 3 ≤ queueWords by decide)
    obtain ⟨hhead, hwords, hother⟩ := hput.congr hmerger hmem
    refine ⟨noteEvents [tEpoch] (putRec (epochRec b) (endBarrier b s)), congrArg _ (epochWrite_writes hbarrier hwrites
      hpast harriving hheld hrestart hdue hflow hroom), ?_, ?_, ?_, hhead, hwords 0 (Nat.succ_pos _), hwords 1 ?_,
      hwords 2 ?_, hother⟩
    · rw [hmerger, putRec_barrier]; rfl
    · rw [hmerger, putRec_highDone]; rfl
    · rw [hmerger, putRec_epochHigh rfl]; exact fld_at_low (stHi_lt b)
    · exact Nat.succ_lt_succ (Nat.succ_pos _)
    · exact Nat.lt_succ_self _

end Sys2Proof.Proofs
end

section
/-! PROOFS. Rules of the acquisition lanes: an update of one lane, a visit and a cycle as such updates, a closed SAMPLES
record, and a pass over every lane (R63, R67 to R72, R240). -/
namespace Sys2Proof.Machine

/-! ### One lane -/

theorem updLane_lane_same (k : Fin 16) (f : Lane → Lane) (s : State) : (updLane k f s).lanes[k] = f s.lanes[k] :=
  getElem_upd_same _ _ _

theorem updLane_lane_other {j k : Fin 16} (f : Lane → Lane) (s : State) (h : j ≠ k) :
    (updLane k f s).lanes[j] = s.lanes[j] :=
  getElem_upd_other _ _ h

theorem updLane_updLane (k : Fin 16) (f g : Lane → Lane) (s : State) :
    updLane k g (updLane k f s) = updLane k (fun l => g (f l)) s := by
  simp [updLane, upd]

theorem upd_eq_self {α : Type} {n : Nat} {v : Vector α n} {i : Fin n} {f : α → α} (h : f v[i] = v[i]) : upd v i f = v := by
  rw [upd]
  simpa using congrArg (fun x => v.set i.val x i.isLt) h

theorem updLane_congr {k : Fin 16} {f g : Lane → Lane} {s : State} (h : f s.lanes[k] = g s.lanes[k]) :
    updLane k f s = updLane k g s := by
  have hlanes : upd s.lanes k f = upd s.lanes k g := congrArg (fun l => s.lanes.set k.val l k.isLt) h
  rw [updLane, hlanes]
  rfl

theorem updLane_eq_self {k : Fin 16} {f : Lane → Lane} {s : State} (h : f s.lanes[k] = s.lanes[k]) : updLane k f s = s := by
  rw [updLane, upd_eq_self h]

theorem updLane_regsBut (k : Fin 16) (f : Lane → Lane) (s : State) : RegsBut [] s (updLane k f s) :=
  fun r u _ => updLane_reg k f s r u

theorem updLane_partsBut (k : Fin 16) (f : Lane → Lane) (s : State) : PartsBut [.lanes] s (updLane k f s) := fun p hp => by
  cases p with
  | lanes => exact absurd (List.mem_singleton_self _) hp
  | _ => rfl

theorem updPhys_regsBut (p : Fin 18) (f : PhysLane → PhysLane) (s : State) : RegsBut [] s (updPhys p f s) :=
  fun r u _ => updPhys_reg p f s r u

theorem updPhys_partsBut (p : Fin 18) (f : PhysLane → PhysLane) (s : State) : PartsBut [.phys] s (updPhys p f s) :=
  fun q hq => by
    cases q with
    | phys => exact absurd (List.mem_singleton_self _) hq
    | _ => rfl

/-! ### Visits and cycles -/

/-- The lane at the start of a cycle: a visit of entry 0 begins at `t`, with these codes (R63, R67). -/
def Lane.atCycle (settled : Bool) (t : Stamp) (codes : Vector Nat 18) (l : Lane) : Lane :=
  { l with
    heldStart := false, heldRestart := false,
    phase := if settled then .converting else .settling, entry := 0, visitAt := t,
    vpar := l.parity[0], parity := upd l.parity 0 (fun b => !b), sum := 0, count := 0, clip := false, dirty := false,
    wordsLeft := scCount l.list.entries[0], first := true, codes := codes }

/-- The stream starts at `t`, and the schedule is counted from there (R68, R71, R72). -/
def Lane.atStream (t : Stamp) (l : Lane) : Lane := { l with streamStart := t, lastStamp := none, schedE := t }

/-- A run of cycles starts afresh at `t` (R63, R71). -/
def Lane.atRun (t : Stamp) (l : Lane) : Lane :=
  { l.atStream t with parity := Vector.replicate 8 false, withheld := [], lastFresh := Vector.replicate 8 none }

/-- With no list to load, the start of a cycle changes the one lane only. -/
theorem beginCycle_of_not_commit {k : Fin 16} {s : State} (h : (s.lanes[k]).commit = false) (settled : Bool) :
    beginCycle k settled s = updLane k (Lane.atCycle settled s.now (laneCodes s k)) s := by
  have hload : loadList k s = s := if_pos (by rw [h]; rfl)
  rw [beginCycle, hload]
  exact updLane_updLane _ _ _ _

theorem beginCycle_updLane {k : Fin 16} {s : State} {f : Lane → Lane} (h : (f s.lanes[k]).commit = false) (settled : Bool) :
    beginCycle k settled (updLane k f s) =
      updLane k (fun l => Lane.atCycle settled s.now (laneCodes s k) (f l)) s := by
  rw [beginCycle_of_not_commit ((congrArg Lane.commit (updLane_lane_same k f s)).trans h)]
  exact updLane_updLane _ _ _ _

theorem startRun_of_not_commit {k : Fin 16} {s : State} (h : (s.lanes[k]).commit = false) :
    startRun k s = updLane k (fun l => Lane.atCycle false s.now (laneCodes s k) (l.atRun s.now)) s :=
  beginCycle_updLane (f := Lane.atRun s.now) h false

/-! ### SAMPLES records -/

theorem closeSamples_lanes (k : Fin 16) (s : State) :
    (closeSamples k s).lanes = upd s.lanes k (fun l => { l with open_ := none }) := by
  unfold closeSamples
  split
  case h_1 hnone => exact (upd_eq_self (by rw [← hnone])).symm
  case h_2 o hsome => rfl

theorem closeSamples_holds (k : Fin 16) (s : State) : (closeSamples k s).merger.holds = s.merger.holds := by
  unfold closeSamples
  split <;> rfl

theorem mem_arriving_closeSamples {r : Rec} {s : State} (h : r ∈ s.merger.arriving) (k : Fin 16) :
    r ∈ (closeSamples k s).merger.arriving := by
  unfold closeSamples
  split
  · exact h
  · exact List.mem_append_left _ h

/-! ### Every lane in turn -/

section
variable {P : Part → Prop} {R : Reg → Prop} {u : State} {f : State → Fin 16 → State} {Q : Fin 16 → Lane → Prop}
  (hstep : ∀ t k, Within P R u t → t.lanes[k] = u.lanes[k] →
    Within P R u (f t k) ∧ Q k (f t k).lanes[k] ∧ ∀ j : Fin 16, j ≠ k → (f t k).lanes[j] = t.lanes[j])
include hstep

/-- A pass over lanes, each of which its own step takes to `Q`, when every step changes its own lane only. -/
theorem lanes_foldl (ks : List (Fin 16)) (hnodup : ks.Nodup) (t : State) (ht : Within P R u t)
    (hsame : ∀ k ∈ ks, t.lanes[k] = u.lanes[k]) :
    Within P R u (ks.foldl f t) ∧ (∀ k ∈ ks, Q k (ks.foldl f t).lanes[k]) ∧
      ∀ j : Fin 16, j ∉ ks → (ks.foldl f t).lanes[j] = t.lanes[j] := by
  induction ks generalizing t with
  | nil => exact ⟨ht, fun _ h => (List.not_mem_nil h).elim, fun _ _ => rfl⟩
  | cons k ks ih =>
    obtain ⟨hk, hnodup⟩ := List.nodup_cons.1 hnodup
    obtain ⟨hwithin, hown, hothers⟩ := hstep t k ht (hsame k List.mem_cons_self)
    have hne : ∀ j ∈ ks, j ≠ k := fun j hj e => hk (e ▸ hj)
    obtain ⟨hwithin, hQ, hleft⟩ := ih hnodup (f t k) hwithin fun j hj =>
      (hothers j (hne j hj)).trans (hsame j (List.mem_cons_of_mem _ hj))
    refine ⟨hwithin, fun j hj => ?_, fun j hj => ?_⟩
    · obtain rfl | hj := List.mem_cons.1 hj
      · rw [List.foldl_cons, hleft _ hk]; exact hown
      · exact hQ j hj
    · rw [List.mem_cons, not_or] at hj
      exact (hleft j hj.2).trans (hothers j hj.1)

/-- The pass over all lanes from a state `u`. -/
theorem all_lanes_foldl :
    Within P R u ((List.finRange 16).foldl f u) ∧ ∀ k, Q k ((List.finRange 16).foldl f u).lanes[k] := by
  obtain ⟨hwithin, hQ, -⟩ := lanes_foldl hstep (List.finRange 16) (List.nodup_finRange 16) u (within_refl u)
    fun _ _ => rfl
  exact ⟨hwithin, fun k => hQ k (List.mem_finRange k)⟩

end

end Sys2Proof.Machine
end

section
/-! PROOFS. The commands of LN_CMD on the selected logical lane, and their lack of effect while LN_SEL names a physical one
(R37, R70, R72, R77, R87). -/
namespace Sys2Proof.Machine

/-! ### LN_CMD -/

/-- A write of LN_CMD that reaches the lanes commands the selected logical lane. -/
theorem regPut_CMD_selected {a : Accessor} {v : Word} {s : State} (hreach : WriteReaches a (.ln .CMD) v s)
    (hsel : selOf (.ln .SEL) a s ≤ 15) :
    regPut a (.ln .CMD) 0 v s = (writeLnCmd (selLane a s) v s).answer a .done := by
  have hlogical : lnSelected a .CMD s = true := decide_eq_true hsel
  rw [regPut_reaches hreach]
  simp only [writeReg, lnWrite, hlogical, Bool.not_true, Bool.false_eq_true, if_false]

/-- While LN_SEL names a physical lane it commands nothing (R37). -/
theorem regPut_CMD_unselected {a : Accessor} {v : Word} {s : State} (hreach : WriteReaches a (.ln .CMD) v s)
    (hsel : 16 ≤ selOf (.ln .SEL) a s) : regPut a (.ln .CMD) 0 v s = s.answer a .done := by
  have hphysical : lnSelected a .CMD s = false := decide_eq_false (Nat.not_le.2 hsel)
  rw [regPut_reaches hreach]
  simp only [writeReg, lnWrite, hphysical, Bool.not_false, if_true]

theorem writeLnCmd_commit (k : Fin 16) (s : State) :
    writeLnCmd k 1 s = updLane k (fun l => { l with commit := true }) s := rfl

theorem writeLnCmd_restart (k : Fin 16) (s : State) : writeLnCmd k 2 s = laneRestart k s := rfl

theorem writeLnCmd_testnow (k : Fin 16) (s : State) :
    writeLnCmd k 4 s = updPhys (s.lanes[k]).serving (fun x => { x with testDue := true }) s := rfl

/-! ### RESTART -/

/-- What RESTART makes of a lane at `t` (R72, R87). -/
def Lane.restarted (t : Stamp) (codes : Vector Nat 18) (l : Lane) : Lane :=
  match l.phase with
  | .off => l
  | .stopped => l
  | .connecting => { l with heldRestart := true }
  | _ => (l.atStream t).atCycle false t codes

theorem Lane.restarted_connecting {l : Lane} (h : l.phase = .connecting) (t : Stamp) (codes : Vector Nat 18) :
    l.restarted t codes = { l with heldRestart := true } := by
  rw [Lane.restarted, h]

theorem Lane.restarted_scanning {l : Lane} (h : l.phase = .idle ∨ l.phase = .settling ∨ l.phase = .converting) (t : Stamp)
    (codes : Vector Nat 18) : l.restarted t codes = (l.atStream t).atCycle false t codes := by
  rw [Lane.restarted]
  obtain h | h | h := h <;> rw [h]

/-- With no list to load, RESTART changes the one lane only. -/
theorem laneRestart_of_not_commit {k : Fin 16} {s : State} (h : (s.lanes[k]).commit = false) :
    laneRestart k s = updLane k (Lane.restarted s.now (laneCodes s k)) s := by
  have hscan (hphase : (s.lanes[k]).phase = .idle ∨ (s.lanes[k]).phase = .settling ∨ (s.lanes[k]).phase = .converting) :
      beginCycle k false (updLane k (Lane.atStream s.now) s) = updLane k (Lane.restarted s.now (laneCodes s k)) s := by
    rw [beginCycle_updLane (f := Lane.atStream s.now) h]
    exact updLane_congr (Lane.restarted_scanning hphase _ _).symm
  rw [laneRestart]
  split
  case h_1 hphase => exact (updLane_eq_self (by rw [Lane.restarted, hphase])).symm
  case h_2 hphase => exact (updLane_eq_self (by rw [Lane.restarted, hphase])).symm
  case h_3 hphase => exact updLane_congr (Lane.restarted_connecting hphase _ _).symm
  case h_4 hoff hstopped hconnecting =>
    refine hscan ?_
    cases hphase : (s.lanes[k]).phase with
    | off => exact absurd hphase hoff
    | stopped => exact absurd hphase hstopped
    | connecting => exact absurd hphase hconnecting
    | idle => exact .inl rfl
    | settling => exact .inr (.inl rfl)
    | converting => exact .inr (.inr rfl)

end Sys2Proof.Machine

namespace Sys2Proof.Proofs
open Machine

/-- Settles O13: each command of LN_CMD is one update of the selected lane, or of the physical lane that serves it. -/
theorem laneCommands : Obligations.LaneCommands := by
  unfold Obligations.LaneCommands
  refine ⟨?_, ?_, ?_, ?_⟩
  · intro a s hreach hsel
    have hput := (regPut_CMD_selected hreach hsel).trans (congrArg (State.answer · a .done) (writeLnCmd_commit _ s))
    exact ⟨_, congrArg Host.Outcome.next hput, lastAnswer_answer_same _ _ _, rfl,
      (updLane_regsBut _ _ _).trans (answer_regsBut _ _ _),
      ((updLane_partsBut _ _ _).trans (answer_partsBut _ _ _)).mono (by simp)⟩
  · intro a s hreach hsel
    have hput := (regPut_CMD_selected hreach hsel).trans (congrArg (State.answer · a .done) (writeLnCmd_testnow _ s))
    exact ⟨_, congrArg Host.Outcome.next hput, lastAnswer_answer_same _ _ _, rfl,
      (updPhys_regsBut _ _ _).trans (answer_regsBut _ _ _),
      ((updPhys_partsBut _ _ _).trans (answer_partsBut _ _ _)).mono (by simp)⟩
  · intro a s hreach hsel k hcommit
    have hput := (regPut_CMD_selected hreach hsel).trans (congrArg (State.answer · a .done)
      ((writeLnCmd_restart k s).trans (laneRestart_of_not_commit hcommit)))
    have hlane := updLane_lane_same k (Lane.restarted s.now (laneCodes s k)) s
    refine ⟨_, congrArg Host.Outcome.next hput, lastAnswer_answer_same _ _ _, fun j hj => updLane_lane_other _ s hj,
      fun hphase => ?_, fun hphase => ?_, (updLane_regsBut _ _ _).trans (answer_regsBut _ _ _),
      ((updLane_partsBut _ _ _).trans (answer_partsBut _ _ _)).mono (by simp)⟩
    · exact hlane.trans (Lane.restarted_connecting hphase _ _)
    · rw [State.answer_lanes, hlane, Lane.restarted_scanning hphase]
      exact ⟨rfl, rfl, rfl, rfl, rfl, rfl, rfl, rfl⟩
  · intro a s hsel
    exact ⟨fun h => congrArg _ (regPut_CMD_unselected h hsel), fun h => congrArg _ (regPut_CMD_unselected h hsel),
      fun h => congrArg _ (regPut_CMD_unselected h hsel)⟩

end Sys2Proof.Proofs
end

section
/-! PROOFS. Writes of LN_ENABLE: every lane that the write sets starts a run at that edge, and every lane that it clears
stops (R71). -/
namespace Sys2Proof.Machine

/-! ### The pass of a write -/

/-- One lane's part in a write of LN_ENABLE over `old`. -/
def enableLane (v old : Word) (s : State) (k : Fin 16) : State :=
  if bit v k.val && !(bit old k.val) then laneStart k s
  else if !(bit v k.val) && bit old k.val then laneStop k s else s

theorem writeEnable_eq_foldl (v : Word) (s : State) :
    writeEnable v s =
      (List.finRange 16).foldl (enableLane v (s.reg (.ln .ENABLE))) (s.setReg (.ln .ENABLE) 0 (v &&& 0xFFFF)) := rfl

theorem enableLane_start {v old : Word} {k : Fin 16} (hnew : bit v k.val = true) (hold : bit old k.val = false)
    (s : State) : enableLane v old s k = laneStart k s := by
  simp [enableLane, hnew, hold]

theorem enableLane_stop {v old : Word} {k : Fin 16} (hnew : bit v k.val = false) (hold : bit old k.val = true)
    (s : State) : enableLane v old s k = laneStop k s := by
  simp [enableLane, hnew, hold]

theorem enableLane_keep {v old : Word} {k : Fin 16} (h : bit v k.val = bit old k.val) (s : State) :
    enableLane v old s k = s := by
  simp [enableLane, h]

theorem regPut_ENABLE {a : Accessor} {v : Word} {s : State} (h : WriteReaches a (.ln .ENABLE) v s) :
    regPut a (.ln .ENABLE) 0 v s = (writeEnable v s).answer a .done :=
  regPut_reaches h 0

theorem bit_or_mask (old : Word) (mask : BitVec 16) (k : Fin 16) :
    bit (old ||| mask.setWidth 32) k.val = (bit old k.val || mask.getLsbD k.val) := by
  have hk : k.val < 32 := by omega
  simp [bit, hk]

theorem bit_andNot_mask (old : Word) (mask : BitVec 16) (k : Fin 16) :
    bit (old &&& ~~~(mask.setWidth 32)) k.val = (bit old k.val && !mask.getLsbD k.val) := by
  have hk : k.val < 32 := by omega
  simp [bit, hk]

theorem bit_or_mask_of_not_set {old : Word} {mask : BitVec 16} {k : Fin 16}
    (h : ¬(mask.getLsbD k.val = true ∧ bit old k.val = false)) :
    bit (old ||| mask.setWidth 32) k.val = bit old k.val := by
  rw [bit_or_mask]
  cases hold : bit old k.val with
  | true => rfl
  | false => exact Bool.eq_false_iff.2 fun hmask => h ⟨hmask, hold⟩

theorem bit_andNot_mask_of_not_cleared {old : Word} {mask : BitVec 16} {k : Fin 16}
    (h : ¬(mask.getLsbD k.val = true ∧ bit old k.val = true)) :
    bit (old &&& ~~~(mask.setWidth 32)) k.val = bit old k.val := by
  rw [bit_andNot_mask]
  cases hold : bit old k.val with
  | true => rw [Bool.eq_false_iff.2 fun hmask => h ⟨hmask, hold⟩]; rfl
  | false => rfl

/-! ### Starting -/

/-- A lane that its physical lane serves starts a run at once. -/
theorem laneStart_of_inService {k : Fin 16} {s : State} (hidle : s.cal.phase = .idle)
    (hparked : (s.lanes[k]).parked = false) (hserved : (s.phys[(s.lanes[k]).serving]).cond = .inService k)
    (hphase : (s.lanes[k]).phase ≠ .connecting) :
    laneStart k s = startRun k s := by
  have hfree : (calBusyWith s k && s.cal.phase == .running) = false := by rw [hidle]; exact Bool.and_false _
  simp only [laneStart, hfree, hparked, hserved, hphase, Bool.false_eq_true, if_false, if_true]

/-- What a write of LN_ENABLE makes of a lane that it sets (R63, R67, R71). -/
def Lane.Starts (t : Stamp) (l m : Lane) : Prop :=
  m.phase = .settling ∧ m.entry = 0 ∧ m.visitAt = t ∧ m.streamStart = t ∧ m.schedE = t ∧ m.lastStamp = none ∧
  m.withheld = [] ∧ m.sum = 0 ∧ m.count = 0 ∧ m.vpar = false ∧ m.wordsLeft = scCount l.list.entries[0] ∧
  m.list = l.list ∧ m.serving = l.serving

theorem Lane.starts_atRun (l : Lane) (t : Stamp) (codes : Vector Nat 18) : l.Starts t ((l.atRun t).atCycle false t codes) :=
  ⟨rfl, rfl, rfl, rfl, rfl, rfl, rfl, rfl, rfl, rfl, rfl, rfl, rfl⟩

/-! ### Stopping -/

/-- What a stop leaves of a lane (R71, R109); a lane without a spare, or still connecting one, keeps its phase. -/
def Lane.Stops (l m : Lane) : Prop :=
  (m.phase = .off ∨ (m.phase = l.phase ∧ (m.phase = .connecting ∨ m.phase = .stopped))) ∧
  m.withheld = [] ∧ m.sum = 0 ∧ m.count = 0 ∧ m.open_ = none ∧ m.cal = .none ∧ m.heldStart = false

/-- The lane's stream is discarded (R71). -/
def Lane.discarded (l : Lane) : Lane :=
  { l with
    phase := if l.phase = .connecting then .connecting else if l.phase = .stopped then .stopped else .off,
    withheld := [], sum := 0, count := 0, clip := false, dirty := false, cal := .none, calEnd := none,
    heldStart := false, heldRestart := false }

/-- The hold or loan of a lane that stops is over (R109). -/
def endCal (k : Fin 16) (l : Lane) (s : State) : State :=
  match l.cal with
  | .hold => staleMark tStaleEnd k 2 s
  | .loan home => updLane k (fun l => { l with serving := home }) (updPhys l.serving (fun x => { x with cond := .free }) s)
  | .none => s

theorem laneStop_eq (k : Fin 16) (s : State) :
    laneStop k s = updLane k Lane.discarded (endCal k s.lanes[k] (closeSamples k s)) := rfl

theorem endCal_lane_same (k : Fin 16) (l : Lane) {s : State} (h : (s.lanes[k]).open_ = none) :
    ((endCal k l s).lanes[k]).phase = (s.lanes[k]).phase ∧ ((endCal k l s).lanes[k]).open_ = none := by
  unfold endCal
  split
  case h_1 =>
    have hlane : (staleMark tStaleEnd k 2 s).lanes[k] = _ := congrArg (·[k]) (closeSamples_lanes k s)
    rw [hlane, getElem_upd_same]
    exact ⟨rfl, rfl⟩
  case h_2 => rw [updLane_lane_same]; exact ⟨rfl, h⟩
  case h_3 => exact ⟨rfl, h⟩

theorem endCal_lane_other {j k : Fin 16} (l : Lane) (s : State) (h : j ≠ k) :
    (endCal k l s).lanes[j] = s.lanes[j] := by
  unfold endCal
  split
  case h_1 =>
    change (closeSamples k s).lanes[j] = _
    rw [closeSamples_lanes, getElem_upd_other _ _ h]
  case h_2 => rw [updLane_lane_other _ _ h]; rfl
  case h_3 => rfl

theorem Lane.stops_discarded {l m : Lane} (hphase : m.phase = l.phase) (hopen : m.open_ = none) : l.Stops m.discarded := by
  refine ⟨?_, rfl, rfl, rfl, hopen, rfl, rfl⟩
  rw [← hphase]
  unfold Lane.discarded
  split
  case isTrue h => exact .inr ⟨h.symm, .inl rfl⟩
  case isFalse =>
    split
    case isTrue h => exact .inr ⟨h.symm, .inr rfl⟩
    case isFalse => exact .inl rfl

theorem laneStop_stops (k : Fin 16) (s : State) : (s.lanes[k]).Stops (laneStop k s).lanes[k] := by
  have hclosed : ((closeSamples k s).lanes[k]).phase = (s.lanes[k]).phase ∧ ((closeSamples k s).lanes[k]).open_ = none := by
    rw [closeSamples_lanes, getElem_upd_same]
    exact ⟨rfl, rfl⟩
  obtain ⟨hphase, hopen⟩ := endCal_lane_same k s.lanes[k] hclosed.2
  rw [laneStop_eq, updLane_lane_same]
  exact Lane.stops_discarded (hphase.trans hclosed.1) hopen

theorem laneStop_lane_other {j k : Fin 16} (s : State) (h : j ≠ k) : (laneStop k s).lanes[j] = s.lanes[j] := by
  rw [laneStop_eq, updLane_lane_other _ _ h, endCal_lane_other _ _ h, closeSamples_lanes, getElem_upd_other _ _ h]

/-! ### The two commands -/

/-- Setting lanes that are off, with the calibration engine idle and every one served: each starts a run, and nothing but
lanes and LN_ENABLE changes. -/
theorem writeEnable_set {mask : BitVec 16} {s : State} (hidle : s.cal.phase = .idle)
    (hready : ∀ k : Fin 16, mask.getLsbD k.val = true → laneOn s k = false →
      (s.lanes[k]).parked = false ∧ (s.lanes[k]).phase = .off ∧ (s.lanes[k]).commit = false ∧
        (s.phys[(s.lanes[k]).serving]).cond = .inService k) :
    let v := s.reg (.ln .ENABLE) ||| mask.setWidth 32
    let t := writeEnable v s
    Within (· = .lanes) (fun _ => False) (s.setReg (.ln .ENABLE) 0 (v &&& 0xFFFF)) t ∧
    ∀ k : Fin 16, if mask.getLsbD k.val = true ∧ laneOn s k = false then (s.lanes[k]).Starts s.now t.lanes[k]
      else t.lanes[k] = s.lanes[k] := by
  intro v t
  refine all_lanes_foldl (f := enableLane v (s.reg (.ln .ENABLE)))
    (Q := fun k m => if mask.getLsbD k.val = true ∧ laneOn s k = false then (s.lanes[k]).Starts s.now m
      else m = s.lanes[k]) fun u k hu hlane => ?_
  have hbit : bit v k.val = (laneOn s k || mask.getLsbD k.val) := bit_or_mask _ mask k
  have hclk : u.clk = s.clk := (hu.parts .clk).resolve_left (by simp)
  have hphys : u.phys = s.phys := (hu.parts .phys).resolve_left (by simp)
  have hcal : u.cal = s.cal := (hu.parts .cal).resolve_left (by simp)
  have hlane : u.lanes[k] = s.lanes[k] := hlane
  split
  case isTrue hset =>
    obtain ⟨hmask, hoff⟩ := hset
    obtain ⟨hparked, hphase, hcommit, hserved⟩ := hready k hmask hoff
    have hstart : enableLane v (s.reg (.ln .ENABLE)) u k = _ :=
      (enableLane_start (by rw [hbit, hmask, Bool.or_true]) hoff u).trans
        ((laneStart_of_inService (by rw [hcal, hidle]) (by rw [hlane, hparked]) (by simpa only [hlane, hphys] using hserved)
          (by rw [hlane, hphase]; decide)).trans (startRun_of_not_commit (by rw [hlane, hcommit])))
    rw [hstart, updLane_lane_same, hlane, now_congr hclk]
    exact ⟨updLane_within hu rfl, Lane.starts_atRun _ _ _, fun j hj => updLane_lane_other _ u hj⟩
  case isFalse hkeep =>
    rw [enableLane_keep (bit_or_mask_of_not_set hkeep)]
    exact ⟨hu, hlane, fun _ _ => rfl⟩

/-- Clearing lanes: each that was enabled stops, and only the merger, lanes, physical lanes and LN_ENABLE change. -/
theorem writeEnable_clear (mask : BitVec 16) (s : State) :
    let v := s.reg (.ln .ENABLE) &&& ~~~(mask.setWidth 32)
    let t := writeEnable v s
    Within (· ∈ [.merger, .lanes, .phys]) (fun _ => False) (s.setReg (.ln .ENABLE) 0 (v &&& 0xFFFF)) t ∧
    ∀ k : Fin 16, if mask.getLsbD k.val = true ∧ laneOn s k = true then (s.lanes[k]).Stops t.lanes[k]
      else t.lanes[k] = s.lanes[k] := by
  intro v t
  refine all_lanes_foldl (f := enableLane v (s.reg (.ln .ENABLE)))
    (Q := fun k m => if mask.getLsbD k.val = true ∧ laneOn s k = true then (s.lanes[k]).Stops m
      else m = s.lanes[k]) fun u k hu hlane => ?_
  have hbit : bit v k.val = (laneOn s k && !mask.getLsbD k.val) := bit_andNot_mask _ mask k
  have hlane : u.lanes[k] = s.lanes[k] := hlane
  split
  case isTrue hclear =>
    obtain ⟨hmask, hon⟩ := hclear
    rw [enableLane_stop (by rw [hbit, hmask]; exact Bool.and_false _) hon, ← hlane]
    exact ⟨laneStop_within hu (by simp) (by simp) (by simp), laneStop_stops k u, fun j hj => laneStop_lane_other u hj⟩
  case isFalse hkeep =>
    rw [enableLane_keep (bit_andNot_mask_of_not_cleared hkeep)]
    exact ⟨hu, hlane, fun _ _ => rfl⟩

theorem writeEnable_reg {P : Part → Prop} {v : Word} {s t : State} (hwf : RegFile.wf s.regs)
    (h : Within P (fun _ => False) (s.setReg (.ln .ENABLE) 0 v) t) : t.reg (.ln .ENABLE) = v :=
  ((h.file _ _).resolve_left id).trans (reg_setReg_same _ _ _ _ hwf)

end Sys2Proof.Machine

namespace Sys2Proof.Proofs
open Machine

/-- Settles O12: one pass over the lanes, in which each lane starts, stops or stays by its own bit. -/
theorem lanesStartAndStop : Obligations.LanesStartAndStop := by
  unfold Obligations.LanesStartAndStop
  refine ⟨?_, ?_⟩
  · intro a mask s hwf hreach hidle hready
    obtain ⟨hwithin, hlanes⟩ := writeEnable_set hidle hready
    exact ⟨_, congrArg Host.Outcome.next (regPut_ENABLE hreach), lastAnswer_answer_same _ _ _,
      (State.answer_reg _ _ _ _ _).trans (writeEnable_reg hwf hwithin),
      (hwithin.parts .phys).resolve_left (by simp), hlanes⟩
  · intro a mask s hwf hreach
    obtain ⟨hwithin, hlanes⟩ := writeEnable_clear mask s
    exact ⟨_, congrArg Host.Outcome.next (regPut_ENABLE hreach), lastAnswer_answer_same _ _ _,
      (State.answer_reg _ _ _ _ _).trans (writeEnable_reg hwf hwithin),
      (hwithin.parts .mem).resolve_left (by simp), hlanes⟩

end Sys2Proof.Proofs
end

section
/-! PROOFS. Rules that the fault of a lane needs: raised flags (R9, R477), the pool of free lanes, fenced lanes (R82), the
acquisition front and a declared recovery (R242, R245), and what closing a record leaves alone (R240). -/
namespace Sys2Proof.Machine

/-! ### Raised flags -/

/-- Beside its register, a raised flag reaches FAULT_N, the notify level and its interrupt source only. -/
theorem orReg_frame (s : State) (r : Reg) (u m : Nat) :
    Within (· ∈ [.safety, .ic, .tw]) (fun _ => False) (s.setReg r u (s.reg r u ||| BitVec.ofNat 32 m)) (s.orReg r u m) := by
  have hnotice := twNotice_within (x1 := s) (faultPin_within (P := (· ∈ [.safety, .ic, .tw])) (R := fun _ => False)
    (within_refl (s.setReg r u (s.reg r u ||| BitVec.ofNat 32 m))) (by simp)) (by simp)
  unfold State.orReg
  dsimp only
  split
  · split
    · exact hnotice
    · exact arrive_within hnotice (by simp)
  · exact hnotice

theorem reg_orReg_same {s : State} (hwf : RegFile.wf s.regs) (r : Reg) (u m : Nat) :
    (s.orReg r u m).reg r u = s.reg r u ||| BitVec.ofNat 32 m :=
  (((orReg_frame s r u m).file r u).resolve_left id).trans (reg_setReg_same _ _ _ _ hwf)

theorem rbit_orReg_same {s : State} (hwf : RegFile.wf s.regs) (r : Reg) (u : Nat) {i : Nat} (hi : i < 32) :
    (s.orReg r u (2 ^ i)).rbit r u i = true := by
  rw [State.rbit, reg_orReg_same hwf, bit, BitVec.getLsbD_or, BitVec.getLsbD_ofNat, Nat.testBit_two_pow_self]
  simp [hi]

theorem orReg_merger (s : State) (r : Reg) (u m : Nat) : (s.orReg r u m).merger = s.merger :=
  ((orReg_frame s r u m).parts .merger).resolve_left (by simp)

theorem rbit_congr {s t : State} {r : Reg} {u : Nat} (h : t.reg r u = s.reg r u) (i : Nat) :
    t.rbit r u i = s.rbit r u i := by
  rw [State.rbit, State.rbit, h]

/-! ### Free lanes, fronts and recoveries -/

theorem poolWord_congr {s t : State} (h : t.phys = s.phys) : poolWord t = poolWord s := by
  simp only [poolWord, h]

theorem cond_of_mem_freeLanes {q : Fin 18} {s : State} (h : q ∈ freeLanes s) : (s.phys[q]).cond = .free :=
  eq_of_beq (List.mem_filter.1 h).2

theorem fencePhys_same (p : Fin 18) (cause : Nat) (s : State) :
    (fencePhys p cause s).phys[p] =
      { s.phys[p] with cond := .fenced, cause := cause, test := none, testDue := false, since := none } :=
  getElem_upd_same _ _ _

theorem fencePhys_other {p q : Fin 18} (cause : Nat) (s : State) (h : q ≠ p) : (fencePhys p cause s).phys[q] = s.phys[q] :=
  getElem_upd_other _ _ h

/-- Fencing a lane that is not free leaves the pool as it is. -/
theorem freeLanes_fencePhys {p : Fin 18} {s : State} (h : (s.phys[p]).cond ≠ .free) (cause : Nat) :
    freeLanes (fencePhys p cause s) = freeLanes s := by
  refine List.filter_congr fun q _ => ?_
  by_cases hq : q = p
  · subst hq
    rw [fencePhys_same, beq_eq_false_iff_ne.2 h]
    rfl
  · rw [fencePhys_other cause s hq]

theorem acqFront_congr {s t : State} (hclk : t.clk = s.clk) (hholds : t.merger.holds = s.merger.holds)
    (hreg : t.reg (.rk .HORIZON) = s.reg (.rk .HORIZON)) : acqFront t = acqFront s := by
  simp only [acqFront, plainFront, State.rfld, hholds, now_congr hclk, hreg]

/-- The hold of a recovery declared now, with a substitution record to come (R245). -/
def substHold (source : Nat) (start : Stamp) (s : State) : RecoveryHold :=
  { source := source, stream := 0, stamp := stMax start (acqFront s), start := start, moved := stLt start (acqFront s),
    needGap := true, needSubst := true }

theorem declareHold_holds (source : Nat) (start : Stamp) (s : State) :
    (declareHold source 0 start true s).merger.holds = s.merger.holds ++ [substHold source start s] := by
  unfold declareHold
  dsimp only
  split
  · rw [orReg_merger]; rfl
  · rfl

theorem closeSamples_frame (k : Fin 16) (s : State) :
    Within (· ∈ [.merger, .lanes]) (fun _ => False) s (closeSamples k s) :=
  closeSamples_within (within_refl s) (by simp) (by simp)

theorem closeSamples_clk (k : Fin 16) (s : State) : (closeSamples k s).clk = s.clk :=
  ((closeSamples_frame k s).parts .clk).resolve_left (by simp)

theorem closeSamples_phys (k : Fin 16) (s : State) : (closeSamples k s).phys = s.phys :=
  ((closeSamples_frame k s).parts .phys).resolve_left (by simp)

theorem closeSamples_serving (k : Fin 16) (s : State) : ((closeSamples k s).lanes[k]).serving = (s.lanes[k]).serving := by
  rw [closeSamples_lanes, getElem_upd_same]

end Sys2Proof.Machine
end

section
/-! PROOFS. Substitution of a lane: fencing and the spare (R75, R82), its completion with its records and flags (R83, R84,
R97), and the release of a withheld word (R65, R76). -/
namespace Sys2Proof.Machine

/-! ### Fencing and the spare -/

/-- A lane whose serving lane `p` has been declared faulty at `t` connects the spare `q` (R82 steps 1 and 2). -/
def Lane.substituted (p q : Fin 18) (cause : Nat) (t gap : Stamp) (l : Lane) : Lane :=
  { l with
    phase := .connecting, serving := q, withheld := [], sum := 0, count := 0, clip := false, dirty := false,
    cal := .none, calEnd := none,
    subst := some { fenced := p, spare := q, cause := cause, fromLoan := false, chosen := t, gapStart := some gap,
                    idle := false, firstWord := none, loanCut := false } }

/-- Lane `p`, which serves `k`, is fenced (R82 step 1). -/
def fenceServing (k : Fin 16) (p : Fin 18) (cause : Nat) (s : State) : State :=
  publish prLane k.val 1 (fencePhys p cause s)

/-- The free lane `q` is put in service for lane `k` in the place of `p` (R82 step 2). -/
def spareInService (k : Fin 16) (p q : Fin 18) (cause : Nat) (s : State) : State :=
  updLane k (Lane.substituted p q cause s.now (laneGapStart s.lanes[k]))
    (updPhys q (fun x => { x with cond := .inService k, cause := 0, test := none })
      (closeSamples k (fenceServing k p cause s)))

/-- The spare is in service and the recovery is declared (R245). -/
def laneSubstituted (k : Fin 16) (p q : Fin 18) (cause : Nat) (s : State) : State :=
  tapGap k (declareHold k.val 0 (laneGapStart s.lanes[k]) true (spareInService k p q cause s))

/-- A scanning lane whose serving lane is faulty takes a free spare. -/
theorem laneFault_of_free {k : Fin 16} {p q : Fin 18} {cause : Nat} {rest : List (Fin 18)} {s : State}
    (hidle : s.cal.phase = .idle) (hphase : (s.lanes[k]).phase = .converting) (hbusy : (s.phys[p]).cond ≠ .free)
    (hfree : freeLanes s = q :: rest) : laneFault k p cause s = laneSubstituted k p q cause s := by
  rw [laneSubstituted, spareInService, fenceServing]
  generalize hu : publish prLane k.val 1 (fencePhys p cause s) = u
  have hwaiting : (calBusyWith s k && s.cal.phase == .waiting) = false := by rw [hidle]; exact Bool.and_false _
  have hpool : freeLanes u = q :: rest := hu ▸ (freeLanes_fencePhys hbusy cause).trans hfree
  have hcond : (u.phys[q]).cond = .free := cond_of_mem_freeLanes (by rw [hpool]; exact List.mem_cons_self)
  have hchoose : chooseLane u = some (q, false) := by rw [chooseLane, hpool]
  have hlane : u.lanes[k] = s.lanes[k] := hu ▸ rfl
  have hclk : u.clk = s.clk := hu ▸ rfl
  have hscan : ((s.lanes[k]).phase == .idle || (s.lanes[k]).phase == .off) = false := by rw [hphase]; rfl
  have hnow (f : PhysLane → PhysLane) : (updPhys q f (closeSamples k u)).now = s.now :=
    now_congr ((closeSamples_clk k u).trans hclk)
  simp only [laneFault, hwaiting, hu, hchoose, hcond, hlane, hscan, hnow, Bool.false_eq_true, if_false]
  rfl

/-- A second inconsistent conversion declares the serving lane faulty with cause 1 (R75). -/
theorem conversion_of_second_inconsistency {k : Fin 16} {n : Nat} {s : State} (hphase : (s.lanes[k]).phase = .converting)
    (hcal : (s.lanes[k]).cal = .none) (htest : testing s (s.lanes[k]).serving = false)
    (hsince : (s.phys[(s.lanes[k]).serving]).since = some n)
    (hcond : (s.phys[(s.lanes[k]).serving]).cond = .inService k) (code : BitVec 16) (cmOut : Bool) :
    conversion k code false cmOut s = laneFault k (s.lanes[k]).serving 1 s := by
  have hgoes : ¬((s.lanes[k]).phase ≠ .converting ∨ (s.lanes[k]).cal = .hold ∨
      testing s (s.lanes[k]).serving = true) := by
    rw [hphase, hcal, htest]
    decide
  have hnote : noteConsistency (s.lanes[k]).serving false s = (true, s) := by simp only [noteConsistency, hsince]
  have hdeclare : declarePhysFault (s.lanes[k]).serving 1 s = laneFault k (s.lanes[k]).serving 1 s := by
    simp only [declarePhysFault, hcond]
  simp only [conversion, if_neg hgoes, hnote, if_true, hdeclare]

/-- What changes while the spare is put in service. -/
theorem spareInService_frame (k : Fin 16) (p q : Fin 18) (cause : Nat) (s : State) :
    Within (· ∈ [.router, .merger, .lanes, .phys]) (fun _ => False) s (spareInService k p q cause s) := by
  refine updLane_within (updPhys_within (closeSamples_within
    (publish_within (updPhys_within (within_refl s) ?_) ?_) ?_ ?_) ?_) ?_ <;> simp

theorem spareInService_holds (k : Fin 16) (p q : Fin 18) (cause : Nat) (s : State) :
    (spareInService k p q cause s).merger.holds = s.merger.holds :=
  closeSamples_holds k (fenceServing k p cause s)

theorem spareInService_phys (k : Fin 16) (p q : Fin 18) (cause : Nat) (s : State) :
    (spareInService k p q cause s).phys =
      upd (fencePhys p cause s).phys q (fun x => { x with cond := .inService k, cause := 0, test := none }) := by
  rw [spareInService, updLane_phys, updPhys_phys, closeSamples_phys]
  rfl

theorem spareInService_lane (k : Fin 16) (p q : Fin 18) (cause : Nat) (s : State) :
    (spareInService k p q cause s).lanes[k] =
      Lane.substituted p q cause s.now (laneGapStart s.lanes[k]) (closeSamples k (fenceServing k p cause s)).lanes[k] :=
  updLane_lane_same _ _ _

theorem spareInService_lane_other {j k : Fin 16} (p q : Fin 18) (cause : Nat) (s : State) (h : j ≠ k) :
    (spareInService k p q cause s).lanes[j] = s.lanes[j] := by
  rw [spareInService, updLane_lane_other _ _ h, updPhys_lanes, closeSamples_lanes, getElem_upd_other _ _ h]
  rfl

theorem spareInService_acqFront (k : Fin 16) (p q : Fin 18) (cause : Nat) (s : State) :
    acqFront (spareInService k p q cause s) = acqFront s := by
  have hframe := spareInService_frame k p q cause s
  exact acqFront_congr ((hframe.parts .clk).resolve_left (by simp)) (spareInService_holds k p q cause s)
    ((hframe.file _ _).resolve_left id)

/-- Declaring the recovery and marking the taps leaves lanes and physical lanes alone (R131, R245). -/
theorem laneSubstituted_frame (k : Fin 16) (p q : Fin 18) (cause : Nat) (s : State) :
    Within (· ∈ [.merger, .safety, .ic, .tw, .coach]) (· = .rk .STAT) (spareInService k p q cause s)
      (laneSubstituted k p q cause s) := by
  refine tapGap_within (declareHold_within (within_refl _) ?_ ?_ ?_ ?_ rfl) ?_ <;> simp

theorem laneSubstituted_lanes (k : Fin 16) (p q : Fin 18) (cause : Nat) (s : State) :
    (laneSubstituted k p q cause s).lanes = (spareInService k p q cause s).lanes :=
  ((laneSubstituted_frame k p q cause s).parts .lanes).resolve_left (by simp)

theorem laneSubstituted_phys (k : Fin 16) (p q : Fin 18) (cause : Nat) (s : State) :
    (laneSubstituted k p q cause s).phys =
      upd (fencePhys p cause s).phys q (fun x => { x with cond := .inService k, cause := 0, test := none }) :=
  (((laneSubstituted_frame k p q cause s).parts .phys).resolve_left (by simp)).trans (spareInService_phys k p q cause s)

theorem laneSubstituted_holds (k : Fin 16) (p q : Fin 18) (cause : Nat) (s : State) :
    (laneSubstituted k p q cause s).merger.holds = s.merger.holds ++ [substHold k.val (laneGapStart s.lanes[k]) s] := by
  refine (declareHold_holds k.val (laneGapStart s.lanes[k]) (spareInService k p q cause s)).trans ?_
  rw [spareInService_holds, substHold, substHold, spareInService_acqFront]

/-! ### Completion -/

/-- The GAP that ends a substitution, where words were lost (R83). -/
def substGap (k : Fin 16) (x : LaneSubst) (s : State) : State :=
  match x.gapStart with
  | none => s
  | some start => match x.firstWord with
    | some e => emitGap 1 k.val 0 false start e (closeSamples k s)
    | none => emitGap 1 k.val 0 true start start (closeSamples k s)

/-- The state after the substitution of lane `k` is over (R82 step 5). -/
def substCompleted (k : Fin 16) (x : LaneSubst) (s : State) : State :=
  updLane k (fun l => { l with subst := none }) (calPend k (laneSubstRecord k x (substGap k x s)))

/-- A substitute that has connected: the GAP, the record and the pending calibration, and the substitution is over. -/
theorem laneSubstComplete_of_connected {k : Fin 16} {x : LaneSubst} {s : State} (hsubst : (s.lanes[k]).subst = some x)
    (hphase : (s.lanes[k]).phase ≠ .connecting) (hcut : x.loanCut = false) :
    laneSubstComplete k s = substCompleted k x s := by
  simp only [laneSubstComplete, hsubst, if_neg hphase, hcut, Bool.false_eq_true, if_false]
  rfl

theorem substGap_frame (k : Fin 16) (x : LaneSubst) (s : State) :
    Within (· ∈ [.merger, .lanes]) (fun _ => False) s (substGap k x s) := by
  unfold substGap
  split
  · exact within_refl s
  · split <;> exact emitGap_within (closeSamples_frame k s) (by simp)

theorem substGap_phys (k : Fin 16) (x : LaneSubst) (s : State) : (substGap k x s).phys = s.phys :=
  ((substGap_frame k x s).parts .phys).resolve_left (by simp)

theorem substGap_serving (k : Fin 16) (x : LaneSubst) (s : State) :
    ((substGap k x s).lanes[k]).serving = (s.lanes[k]).serving := by
  have hemit (isOpen : Bool) (start stop : Stamp) :
      (emitGap 1 k.val 0 isOpen start stop (closeSamples k s)).lanes = (closeSamples k s).lanes :=
    ((emitGap_within (P := (· = .merger)) (R := fun _ => False) (within_refl _) rfl).parts .lanes).resolve_left nofun
  unfold substGap
  split
  · rfl
  · split <;> rw [hemit, closeSamples_serving]

theorem emitGap_arriving (cause source stream : Nat) (isOpen : Bool) (start stop : Stamp) (s : State) :
    ∃ r ∈ (emitGap cause source stream isOpen start stop s).merger.arriving, r.typ = tGap ∧ r.source = source := by
  unfold emitGap
  split <;> exact ⟨_, List.mem_append_right _ List.mem_cons_self, rfl, rfl⟩

theorem substGap_arriving {x : LaneSubst} (h : x.gapStart ≠ none) (k : Fin 16) (s : State) :
    ∃ r ∈ (substGap k x s).merger.arriving, r.typ = tGap ∧ r.source = k.val := by
  unfold substGap
  split
  case h_1 hnone => exact absurd hnone h
  case h_2 => split <;> exact emitGap_arriving _ _ _ _ _ _ _

/-- The LANE_SUBST record (R84, R239). -/
def laneSubstRec (k : Fin 16) (x : LaneSubst) (pool : Word) : Rec :=
  { cls := .acq, typ := tLaneSubst, source := k.val, stamp := x.chosen, now := false,
    body := [at_ k.val 28 ||| at_ x.fenced.val 23 ||| at_ x.spare.val 18 ||| at_ x.cause 14 |||
      at_ (b2n x.fromLoan) 13, pool] }

theorem laneSubstRecord_frame (k : Fin 16) (x : LaneSubst) (s : State) :
    Within (· ∈ [.safety, .ic, .tw, .merger]) (· ∈ [.ln .STAT, .ln .FAULTS]) (closeSamples k s)
      (laneSubstRecord k x s) := by
  refine almanac_within (laneFlag_within (State.orReg_within (emit_within (within_refl _) ?_) ?_ ?_ ?_ ?_) ?_ ?_ ?_ ?_) ?_
  all_goals simp

theorem laneSubstRecord_arriving (k : Fin 16) (x : LaneSubst) (s : State) :
    (laneSubstRecord k x s).merger.arriving = (closeSamples k s).merger.arriving ++ [laneSubstRec k x (poolWord s)] := by
  change (State.orReg _ _ _ _).merger.arriving = _
  rw [orReg_merger, orReg_merger]
  rfl

theorem laneSubstRecord_serving (k : Fin 16) (x : LaneSubst) (s : State) :
    ((laneSubstRecord k x s).lanes[k]).serving = (s.lanes[k]).serving := by
  have hlanes : (laneSubstRecord k x s).lanes = (closeSamples k s).lanes :=
    ((laneSubstRecord_frame k x s).parts .lanes).resolve_left (by simp)
  rw [hlanes, closeSamples_serving]

/-- LN_FAULTS and LN_STAT.FAULT of the lane are set by one after the other. -/
theorem faultFlags_set {s : State} (hwf : RegFile.wf s.regs) (k : Fin 16) :
    let t := laneFlag k (2 ^ 4) (s.orReg (.ln .FAULTS) 0 (2 ^ k.val))
    t.rbit (.ln .FAULTS) 0 k.val = true ∧ t.rbit (.ln .STAT) k.val 4 = true := by
  have hk : k.val < 32 := by omega
  have hfaults : RegFile.wf (s.orReg (.ln .FAULTS) 0 (2 ^ k.val)).regs :=
    (orReg_frame s (.ln .FAULTS) 0 (2 ^ k.val)).regs (RegFile.wf_setReg _ _ _ _ hwf)
  have hstat (v : State) : Within (· ∈ [.safety, .ic, .tw]) (· = .ln .STAT) v (laneFlag k (2 ^ 4) v) := by
    refine laneFlag_within (within_refl v) ?_ ?_ ?_ rfl <;> simp
  refine ⟨?_, rbit_orReg_same hfaults (.ln .STAT) k.val (by decide)⟩
  exact (rbit_congr (((hstat _).file (.ln .FAULTS) 0).resolve_left nofun) k.val).trans
    (rbit_orReg_same hwf (.ln .FAULTS) 0 hk)

theorem laneSubstRecord_flags {s : State} (hwf : RegFile.wf s.regs) (k : Fin 16) (x : LaneSubst) :
    (laneSubstRecord k x s).rbit (.ln .FAULTS) 0 k.val = true ∧ (laneSubstRecord k x s).rbit (.ln .STAT) k.val 4 = true :=
  faultFlags_set (s := emit .acq tLaneSubst k.val x.chosen (laneSubstRec k x (poolWord s)).body (closeSamples k s))
    ((closeSamples_frame k s).regs hwf) k

theorem calPend_frame (k : Fin 16) (s : State) :
    Within (· ∈ [.safety, .ic, .tw]) (· = .ca .RUN) s (calPend k s) := by
  refine calPend_within (within_refl s) ?_ ?_ ?_ rfl <;> simp

theorem substCompleted_phys (k : Fin 16) (x : LaneSubst) (s : State) : (substCompleted k x s).phys = s.phys := calc
  _ = (laneSubstRecord k x (substGap k x s)).phys := ((calPend_frame k _).parts .phys).resolve_left (by simp)
  _ = (closeSamples k (substGap k x s)).phys := ((laneSubstRecord_frame k x _).parts .phys).resolve_left (by simp)
  _ = (substGap k x s).phys := closeSamples_phys k _
  _ = s.phys := substGap_phys k x s

theorem substCompleted_serving (k : Fin 16) (x : LaneSubst) (s : State) :
    ((substCompleted k x s).lanes[k]).serving = (s.lanes[k]).serving := by
  have hlanes : (calPend k (laneSubstRecord k x (substGap k x s))).lanes = (laneSubstRecord k x (substGap k x s)).lanes :=
    ((calPend_frame k _).parts .lanes).resolve_left (by simp)
  rw [substCompleted, updLane_lane_same, hlanes]
  exact (laneSubstRecord_serving k x _).trans (substGap_serving k x s)

theorem substCompleted_flags {s : State} (hwf : RegFile.wf s.regs) (k : Fin 16) (x : LaneSubst) :
    (substCompleted k x s).rbit (.ln .FAULTS) 0 k.val = true ∧ (substCompleted k x s).rbit (.ln .STAT) k.val 4 = true ∧
      (substCompleted k x s).rbit (.ca .RUN) 0 k.val = true := by
  have hgap : RegFile.wf (substGap k x s).regs := (substGap_frame k x s).regs hwf
  have hrecord : RegFile.wf (laneSubstRecord k x (substGap k x s)).regs :=
    (laneSubstRecord_frame k x _).regs ((closeSamples_frame k _).regs hgap)
  obtain ⟨hfaults, hstat⟩ := laneSubstRecord_flags hgap k x
  have hpend := calPend_frame k (laneSubstRecord k x (substGap k x s))
  refine ⟨?_, ?_, rbit_orReg_same hrecord (.ca .RUN) 0 (by omega)⟩
  · exact (rbit_congr ((hpend.file (.ln .FAULTS) 0).resolve_left nofun) k.val).trans hfaults
  · exact (rbit_congr ((hpend.file (.ln .STAT) k.val).resolve_left nofun) 4).trans hstat

theorem substCompleted_records (k : Fin 16) (x : LaneSubst) (s : State) :
    laneSubstRec k x (poolWord s) ∈ (substCompleted k x s).merger.arriving ∧
      (x.gapStart ≠ none → ∃ r ∈ (substCompleted k x s).merger.arriving, r.typ = tGap ∧ r.source = k.val) := by
  have harriving : (substCompleted k x s).merger.arriving =
      (closeSamples k (substGap k x s)).merger.arriving ++ [laneSubstRec k x (poolWord (substGap k x s))] := by
    have hmerger : (substCompleted k x s).merger = (laneSubstRecord k x (substGap k x s)).merger := orReg_merger _ _ _ _
    rw [hmerger, laneSubstRecord_arriving]
  rw [harriving, poolWord_congr (substGap_phys k x s)]
  refine ⟨List.mem_append_right _ List.mem_cons_self, fun hgap => ?_⟩
  obtain ⟨r, hr, hgap⟩ := substGap_arriving hgap k s
  exact ⟨r, List.mem_append_left _ (mem_arriving_closeSamples hr k), hgap⟩

/-! ### A withheld word -/

/-- What a released word leaves in its lane (R65). -/
def Lane.released (w : LaneWord) (l : Lane) : Lane :=
  { l with
    lastStamp := some w.stamp
    lastFresh := if bit w.word 7 then l.lastFresh else upd l.lastFresh (ix 8 (fld w.word 4 2)) (fun _ => some w.word)
    subst := l.subst.map (fun x =>
      if x.firstWord.isNone && l.phase != .connecting then { x with firstWord := some w.stamp } else x) }

/-- Bits 31 and 30 of a register whose field of the two is 0: a lane's words go to no record and to no tap (R65). -/
theorem rbit_of_rfld_zero {s : State} {r : Reg} {u : Nat} (h : s.rfld r u 31 30 = 0) :
    s.rbit r u 31 = false ∧ s.rbit r u 30 = false := by
  have hfld : (s.reg r u).toNat / 2 ^ 30 % 2 ^ 2 = 0 := h
  have hbits : (s.reg r u).toNat / 2 ^ 31 % 2 ≠ 1 ∧ (s.reg r u).toNat / 2 ^ 30 % 2 ≠ 1 := by omega
  exact ⟨(Nat.testBit_eq_decide_div_mod_eq).trans (decide_eq_false hbits.1),
    (Nat.testBit_eq_decide_div_mod_eq).trans (decide_eq_false hbits.2)⟩

/-- A word that goes to no record and no tap is in LN_LAST only. -/
theorem releaseWord_of_no_destination {k : Fin 16} {s : State} (h : s.rfld (.ln .CTRL) k.val 31 30 = 0) (w : LaneWord) :
    releaseWord k w s = updLane k (Lane.released w) (s.setReg (.ln .LAST) k.val w.word) := by
  have hctrl : (s.setReg (.ln .LAST) k.val w.word).reg (.ln .CTRL) k.val = s.reg (.ln .CTRL) k.val :=
    reg_setReg_other _ _ _ _ _ _ (.inl (by decide))
  obtain ⟨hrecord, htap⟩ := rbit_of_rfld_zero h
  have hrecord : (s.setReg (.ln .LAST) k.val w.word).rbit (.ln .CTRL) k.val 31 = false :=
    (rbit_congr hctrl 31).trans hrecord
  have htap : (s.setReg (.ln .LAST) k.val w.word).rbit (.ln .CTRL) k.val 30 = false :=
    (rbit_congr hctrl 30).trans htap
  have hlane (f : Lane → Lane) (i : Nat) (v : State) :
      (updLane k f v).rbit (.ln .CTRL) k.val i = v.rbit (.ln .CTRL) k.val i := rfl
  simp only [releaseWord, hlane, hrecord, htap, Bool.false_eq_true, if_false]
  rfl

/-- The one withheld word of a lane, cleared and without destination, is released. -/
theorem releaseCleared_single {k : Fin 16} {w : LaneWord} {s : State} (hword : (s.lanes[k]).withheld = [w])
    (hclear : w.clear = true) (hctrl : s.rfld (.ln .CTRL) k.val 31 30 = 0) :
    releaseCleared k (s.lanes[k]).withheld.length s =
      updLane k (fun l => Lane.released w { l with withheld := [] }) (s.setReg (.ln .LAST) k.val w.word) := by
  simp only [hword, List.length_singleton, releaseCleared, hclear, if_true]
  exact (releaseWord_of_no_destination (s := updLane k (fun l => { l with withheld := [] }) s) hctrl w).trans
    (updLane_updLane k (fun l => { l with withheld := [] }) (Lane.released w) (s.setReg (.ln .LAST) k.val w.word))

end Sys2Proof.Machine

namespace Sys2Proof.Proofs
open Machine

/-- Settles O15: the fault of a scanning lane with a free spare, the completion, and the release. -/
theorem laneSubstitutions : Obligations.LaneSubstitutions := by
  unfold Obligations.LaneSubstitutions
  refine ⟨?_, ?_, ?_⟩
  · intro k code cmOut q rest n s l hphase hcal htest hsince hcond hidle hfree
    have hbusy : (s.phys[l.serving]).cond ≠ .free := by rw [hcond]; nofun
    have hq : q ≠ l.serving := fun e => hbusy (e ▸ cond_of_mem_freeLanes (by rw [hfree]; exact List.mem_cons_self))
    have hfault := (conversion_of_second_inconsistency hphase hcal htest hsince hcond code cmOut).trans
      (laneFault_of_free hidle hphase hbusy hfree)
    have hphys := laneSubstituted_phys k l.serving q 1 s
    refine ⟨_, congrArg Host.Outcome.next hfault, ?_, ?_, ?_, fun p hpq hp => ?_, ?_⟩
    · rw [hphys, getElem_upd_other _ _ hq.symm, fencePhys_same]
    · rw [hphys, getElem_upd_other _ _ hq.symm, fencePhys_same]
    · rw [hphys, getElem_upd_same]
    · rw [hphys, getElem_upd_other _ _ hpq, fencePhys_other 1 s hp]
    · rw [laneSubstituted_lanes, spareInService_lane]
      exact ⟨rfl, rfl, rfl, rfl, rfl, ⟨_, rfl, rfl, rfl, rfl, rfl, rfl, rfl, rfl⟩,
        fun j hj => spareInService_lane_other l.serving q 1 s hj,
        _, laneSubstituted_holds k l.serving q 1 s, rfl, rfl, rfl, rfl, rfl, rfl, rfl⟩
  · intro k x s hwf hsubst hphase hcut
    obtain ⟨hfaults, hfault, hrun⟩ := substCompleted_flags hwf k x
    obtain ⟨hrecord, hgap⟩ := substCompleted_records k x s
    exact ⟨_, congrArg Host.Outcome.next (laneSubstComplete_of_connected hsubst hphase hcut),
      congrArg Lane.subst (updLane_lane_same _ _ _), substCompleted_serving k x s, substCompleted_phys k x s, hfaults,
      hfault, hrun, ⟨_, hrecord, rfl, rfl, rfl, rfl⟩, hgap⟩
  · intro k w s hwf hword hclear hctrl
    refine ⟨_, congrArg Host.Outcome.next (releaseCleared_single hword hclear hctrl), ?_, reg_setReg_same _ _ _ _ hwf, ?_,
      setReg_regsBut _ _ _ _, ?_, fun j hj => updLane_lane_other _ _ hj⟩
    · rw [updLane_lane_same]; rfl
    · rw [updLane_lane_same]; rfl
    · exact ((setReg_partsBut s _ _ _).trans (updLane_partsBut k _ _)).mono (by simp)

end Sys2Proof.Proofs
end

section
/-! PROOFS. A failed calibration run of one lane while the loan of another stands with no end of its run recorded (R107 to
R109): the substitution that takes the loaned spare aborts once more, and RESULT reads 2. -/
namespace Sys2Proof.Machine

/-- At t0 + 54 µs of a run of lane 0, which is not enabled. Lane 1 was selected with a loan, disabled, measured, and
enabled during its run: that aborted the run, gave lane 1 the last free lane 17, and left spare 16 on loan with no end of
the run. -/
def strandedLoan : State :=
  updPhys 17 (fun p => { p with cond := .inService 1 })
    (updPhys 16 (fun p => { p with cond := .loan 1 })
      (updLane 1 (fun l => { l with cal := .loan 1, serving := 17, calEnd := none })
        (updCal (fun c => { c with phase := .running, lane := 0, mode := 3, phys := 0, t0 := 0 })
          { State.reset with clk := { State.reset.clk with bus := BitVec.ofNat 48 (us 54) } })))

/-- The failed run fences lane 0, whose substitute is the loaned spare 16; its leaving finds no end of a run and aborts. -/
theorem calEnd_strandedLoan :
    (calEnd (List.replicate 18 32) expectRef false strandedLoan).reg (.ca .LTEMP) 0 = at_ 2 30 := by
  decide

end Sys2Proof.Machine

namespace Sys2Proof.Proofs
open Machine

/-- Refutes O16: where the run fails, CA_LTEMP reads RESULT 2 and not 3 if the substitute is a spare whose loan to another
lane has no recorded end, since the spare's early leaving then aborts the run that has just failed (R108). -/
theorem not_calibrations : ¬ Obligations.Calibrations := by
  unfold Obligations.Calibrations
  intro h
  obtain ⟨-, -, hfail, -⟩ := h
  obtain ⟨t, hexec, -, hresult, -⟩ := hfail (List.replicate 18 32) expectRef 0 strandedLoan (by decide) rfl (by decide)
    rfl rfl nofun
  obtain rfl : calEnd (List.replicate 18 32) expectRef false strandedLoan = t := Host.Outcome.next.inj hexec
  exact absurd (calEnd_strandedLoan.symm.trans hresult) (by decide)

end Sys2Proof.Proofs
end

section
/-! PROOFS. The ends of loans and holds and the STALE words of a held lane (R105, R106); writes of the trim sets, of the DAC
code and of the trims (R112, R113, R115). -/
namespace Sys2Proof.Machine

/-! ### The end of a loan -/

/-- The home lane takes the next word (R105). -/
def Lane.servedAtHome (home : Fin 18) (codes : Vector Nat 18) (l : Lane) : Lane :=
  { l with cal := .none, calEnd := none, serving := home, codes := codes }

theorem loanEnd_of_settled {k : Fin 16} {home : Fin 18} {s : State} (hcal : (s.lanes[k]).cal = .loan home)
    (hsettled : calSettled s k = true) (hpoint : atPoint s.lanes[k] = true) :
    loanEnd k s = updLane k (Lane.servedAtHome home (laneCodes s k))
      (updPhys (s.lanes[k]).serving (fun x => { x with cond := .free }) s) := by
  simp only [loanEnd, hcal, hsettled, hpoint, Bool.and_self, if_true]
  rfl

/-! ### A word of a held lane -/

/-- What a STALE word repeats: the last fresh value of the entry in progress, or 0 (R106). -/
def Lane.staleValue (l : Lane) : Int :=
  match l.lastFresh[l.entry] with
  | some w => w.toInt / 256
  | none => 0

/-- The word that falls due at `t` in a held lane, 40 ticks after its stamp (R57, R106). -/
def Lane.staleWordAt (k : Fin 16) (t : Stamp) (l : Lane) : LaneWord :=
  { word := sampleWord l.staleValue true false (decide (l.serving ≠ homeLane k)) l.entry l.vpar l.first,
    stamp := stSub t 40, phys := l.serving, step := 48 * scDec (curEntry l), clear := true, last := l.wordsLeft == 1 }

/-- A word of the visit has fallen due. -/
def Lane.wordTaken (l : Lane) : Lane := { l with first := false, wordsLeft := l.wordsLeft - 1 }

/-- STALE is bit 7 of a sample word (R62). -/
theorem bit_sampleWord_stale (value : Int) (clip subst : Bool) (entry : Fin 8) (vpar first : Bool) :
    bit (sampleWord value true clip subst entry vpar first) 7 = true := by
  have hstale : bit (at_ (b2n true) 7) 7 = true := rfl
  simp only [bit, sampleWord, BitVec.getLsbD_or] at hstale ⊢
  simp only [hstale, Bool.or_true, Bool.true_or]

/-- A STALE word is no fresh value (R106). -/
theorem Lane.released_lastFresh_of_stale {w : LaneWord} (h : bit w.word 7 = true) (l : Lane) :
    (l.released w).lastFresh = l.lastFresh := if_pos h

theorem finishWord_of_none_withheld {k : Fin 16} {w : LaneWord} {s : State} (hclear : w.clear = true)
    (hnone : (s.lanes[k]).withheld = []) : finishWord k w s = releaseWord k w s := by
  simp only [finishWord, hclear, hnone, List.isEmpty_nil, Bool.and_self, if_true]

/-- A STALE word inside a visit, with nothing withheld before it and without destination, is in LN_LAST only. -/
theorem staleWord_of_no_destination {k : Fin 16} {s : State} (hcal : (s.lanes[k]).cal = .hold)
    (hphase : (s.lanes[k]).phase = .converting) (hnone : (s.lanes[k]).withheld = []) (hleft : 2 ≤ (s.lanes[k]).wordsLeft)
    (hctrl : s.rfld (.ln .CTRL) k.val 31 30 = 0) :
    let w := (s.lanes[k]).staleWordAt k s.now
    staleWord k s = updLane k (fun l => l.wordTaken.released w) (s.setReg (.ln .LAST) k.val w.word) := by
  intro w
  have hgoes : (s.lanes[k]).cal = .hold ∧ (s.lanes[k]).phase = .converting := ⟨hcal, hphase⟩
  have hnone : ((updLane k Lane.wordTaken s).lanes[k]).withheld = [] := by rw [updLane_lane_same]; exact hnone
  calc staleWord k s
    _ = finishWord k w (updLane k Lane.wordTaken s) := by
      rw [staleWord, if_pos hgoes, if_neg (by omega)]
      rfl
    _ = releaseWord k w (updLane k Lane.wordTaken s) := finishWord_of_none_withheld rfl hnone
    _ = updLane k (Lane.released w) ((updLane k Lane.wordTaken s).setReg (.ln .LAST) k.val w.word) :=
      releaseWord_of_no_destination (s := updLane k Lane.wordTaken s) hctrl w
    _ = updLane k (fun l => l.wordTaken.released w) (s.setReg (.ln .LAST) k.val w.word) :=
      updLane_updLane k Lane.wordTaken (Lane.released w) (s.setReg (.ln .LAST) k.val w.word)

/-! ### The end of a hold -/

theorem staleMark_lanes (typ : Nat) (k : Fin 16) (reason : Nat) (s : State) :
    (staleMark typ k reason s).lanes = upd s.lanes k (fun l => { l with open_ := none }) :=
  closeSamples_lanes k s

theorem staleMark_arriving (typ : Nat) (k : Fin 16) (reason : Nat) (s : State) :
    ∃ r ∈ (staleMark typ k reason s).merger.arriving, r.typ = typ ∧ r.source = k.val ∧ r.stamp = s.now :=
  ⟨_, List.mem_append_right _ List.mem_cons_self, rfl, rfl, rfl⟩

theorem Within.regsBut_nil {P : Part → Prop} {s t : State} (h : Within P (fun _ => False) s t) : RegsBut [] s t :=
  fun r u _ => (h.file r u).resolve_left id

theorem Within.partsBut {l : List Part} {R : Reg → Prop} {s t : State} (h : Within (· ∈ l) R s t) : PartsBut l s t :=
  fun p hp => (h.parts p).resolve_left hp

/-- Conversion resumes (R106). -/
def Lane.resumed (codes : Vector Nat 18) (l : Lane) : Lane := { l with cal := .none, calEnd := none, codes := codes }

theorem holdResume_of_settled {k : Fin 16} {s : State} (hcal : (s.lanes[k]).cal = .hold) (hsettled : calSettled s k = true)
    (hphase : (s.lanes[k]).phase = .converting) :
    holdResume k s = updLane k (Lane.resumed (laneCodes (staleMark tStaleEnd k 0 s) k)) (staleMark tStaleEnd k 0 s) :=
  if_pos ⟨hcal, hsettled, hphase⟩

theorem holdResume_resumes {k : Fin 16} {s : State} (hcal : (s.lanes[k]).cal = .hold)
    (hsettled : calSettled s k = true) (hphase : (s.lanes[k]).phase = .converting) :
    ((holdResume k s).lanes[k]).cal = .none ∧ ((holdResume k s).lanes[k]).phase = .converting ∧
      ∃ r ∈ (holdResume k s).merger.arriving, r.typ = tStaleEnd ∧ r.source = k.val ∧ r.stamp = s.now := by
  rw [holdResume_of_settled hcal hsettled hphase, updLane_lane_same, staleMark_lanes, getElem_upd_same]
  exact ⟨rfl, hphase, staleMark_arriving tStaleEnd k 0 s⟩

theorem holdResume_frame (k : Fin 16) (s : State) :
    Within (· ∈ [.lanes, .merger]) (fun _ => False) s (holdResume k s) :=
  holdResume_within (within_refl s) (by simp) (by simp)

/-! ### CA_SETS and CA_DACVAL -/

/-- During the lane's run a write of its sets only sets SETBUSY (R113). -/
theorem writeSets_of_busy {i : Nat} {s : State} (h : s.cal.phase = .running ∧ s.cal.lane.val = i / 25) (v : Word) :
    writeSets i v s = s.orReg (.ca .STAT) 0 (2 ^ 4) := if_pos h

theorem writeSets_of_not_busy {i : Nat} {s : State} (h : ¬(s.cal.phase = .running ∧ s.cal.lane.val = i / 25))
    (v : Word) : writeSets i v s = s.setReg (.ca .SETS) i (v &&& (if i % 5 = 4 then 0x3F3F else 0x3F3F3F3F)) := if_neg h

theorem writeDac_of_running {s : State} (h : s.cal.phase = .running) (v : Word) :
    writeDac v s = s.setReg (.ca .DACVAL) 0 (v &&& 0xFFF) := if_pos h

theorem writeDac_of_not_running {s : State} (h : s.cal.phase ≠ .running) (v : Word) :
    writeDac v s = updCal (fun c => { c with dac := v.toNat % 4096 }) (s.setReg (.ca .DACVAL) 0 (v &&& 0xFFF)) := by
  have hdac : fld v 11 0 = v.toNat % 4096 := congrArg (· % 4096) (Nat.div_one v.toNat)
  rw [writeDac, if_neg (by exact h), hdac]

theorem writeDac_dac (v : Word) (s : State) :
    (writeDac v s).cal.dac = if s.cal.phase = .running then s.cal.dac else v.toNat % 4096 := by
  split
  case isTrue h => rw [writeDac_of_running h]; rfl
  case isFalse h => rw [writeDac_of_not_running h]; rfl

theorem writeDac_reg (v : Word) (s : State) (r : Reg) (u : Nat) :
    (writeDac v s).reg r u = (s.setReg (.ca .DACVAL) 0 (v &&& 0xFFF)).reg r u := by
  by_cases h : s.cal.phase = .running
  · rw [writeDac_of_running h]
  · rw [writeDac_of_not_running h]; rfl

theorem writeDac_partsBut (v : Word) (s : State) : PartsBut [.cal] s (writeDac v s) :=
  (writeDac_within (R := fun _ => True) (within_refl s) (by simp) trivial).partsBut

/-! ### Trims -/

/-- The register of a trim (R112). -/
def trimReg : TrimName → CaReg
  | .reference => .TRIMREF | .temperature => .TRIMTS | .vrc => .TRIMVRC | .drawbar => .TRIMDB | .sets => .SETINIT

/-- The bits of a trim that a secure owner writes (R112). -/
def trimMask : TrimName → Word
  | .reference => 0xFF | .temperature => 0x3FF | .vrc => 0xFF | .drawbar => 0x3F3F | .sets => 0

theorem trimWrite_eq (a : Accessor) (which : TrimName) (v : Word) (s : State) :
    trimWrite a which v s = regPut a (.ca (trimReg which)) 0 v s := by
  cases which <;> rfl

theorem writeReg_trim (a : Accessor) (which : TrimName) (v : Word) (s : State) :
    writeReg a { reg := .ca (trimReg which), i := 0, bus := 0 } v s =
      s.plainWrite (secure a s) (.ca (trimReg which)) 0 v := by
  cases which <;> rfl

/-- Bits that only a secure owner writes keep their value under any other write (R6, R7). -/
theorem applyWrite_of_rws {i : RegInfo} (hrw : i.rw = 0) (hw1c : i.w1c = 0) (hw1s : i.w1s = 0) (secure : Bool)
    (old v : Word) :
    applyWrite i secure old v =
      if secure = true then (old &&& ~~~(BitVec.ofNat 32 i.rws)) ||| (v &&& BitVec.ofNat 32 i.rws) else old := by
  cases secure <;>
    simp only [applyWrite, hrw, hw1c, hw1s, Bool.false_eq_true, if_true, if_false, Nat.zero_or, BitVec.not_zero,
      BitVec.and_zero, BitVec.and_allOnes, BitVec.or_zero]

theorem applyWrite_trim (which : TrimName) (secure : Bool) (old v : Word) :
    applyWrite (Reg.info (.ca (trimReg which))) secure old v =
      if secure = true then (old &&& ~~~(trimMask which)) ||| (v &&& trimMask which) else old := by
  cases which <;> exact applyWrite_of_rws rfl rfl rfl secure old v

theorem setReg_answer_frame (s : State) (a : Accessor) (r : Reg) (u : Nat) (w : Word) :
    RegsBut [(r, u)] s ((s.setReg r u w).answer a .done) ∧ PartsBut [.acc] s ((s.setReg r u w).answer a .done) :=
  ⟨(setReg_regsBut s r u w).trans (answer_regsBut _ a .done),
    (setReg_partsBut s r u w).trans (answer_partsBut _ a .done)⟩

/-- A trim's write by any accessor (R112). -/
theorem trimWrite_reaches {a : Accessor} {which : TrimName} {v : Word} {s : State} (hwf : RegFile.wf s.regs)
    (hreach : WriteReaches a (.ca (trimReg which)) v s) :
    ∃ t, exec (.trimWrite a which v) s = .next t ∧ lastAnswer a t = .done ∧
      t.reg (.ca (trimReg which)) = (if secure a s = true
        then (s.reg (.ca (trimReg which)) &&& ~~~(trimMask which)) ||| (v &&& trimMask which)
        else s.reg (.ca (trimReg which))) ∧
      RegsBut [(.ca (trimReg which), 0)] s t ∧ PartsBut [.acc] s t := by
  have hput := trimWrite_eq a which v s
  rw [regPut_reaches hreach, writeReg_trim, State.plainWrite, applyWrite_trim] at hput
  exact ⟨_, congrArg Host.Outcome.next hput, lastAnswer_answer_same _ _ _, reg_setReg_same _ _ _ _ hwf,
    setReg_answer_frame _ _ _ _ _⟩

end Sys2Proof.Machine
end

section
/-! PROOFS. Reference tests of free spares, from the lane timer to the second failure (R77 to R81), and the retest of a
fenced lane (R88). On top of all, the statement about holds, loans and tests. -/
namespace Sys2Proof.Machine

theorem updPhys_lane_same (p : Fin 18) (f : PhysLane → PhysLane) (s : State) : (updPhys p f s).phys[p] = f s.phys[p] :=
  getElem_upd_same _ _ _

theorem updPhys_updPhys (p : Fin 18) (f g : PhysLane → PhysLane) (s : State) :
    updPhys p g (updPhys p f s) = updPhys p (fun x => g (f x)) s := by
  simp [updPhys, upd]

/-! ### The start of a test -/

theorem laneTimerTick_of_in_use {p : Fin 18} {s : State} (hfenced : (s.phys[p]).cond ≠ .fenced)
    (hretesting : (s.phys[p]).cond ≠ .retesting) :
    laneTimerTick p s = updPhys p (fun x => { x with testDue := true }) s := by
  unfold laneTimerTick
  split
  case h_1 h => exact absurd h hfenced
  case h_2 h => exact absurd h hretesting
  case h_3 => rfl

theorem servedLane_of_free {p : Fin 18} {s : State} (h : (s.phys[p]).cond = .free) : servedLane s p = none := by
  rw [servedLane, h]

/-- No lane goes on after the test of a free spare. -/
theorem afterTest_of_free {p : Fin 18} {s : State} (h : (s.phys[p]).cond = .free) : afterTest p s = s := by
  rw [afterTest, servedLane_of_free h]

/-- The test that a free spare starts: an odd-numbered one of source 30, of which the gains follow each other, except during
a calibration run; else one of source 29 (R78). -/
def PhysLane.spareTest (running : Prop) [Decidable running] (x : PhysLane) : RefTest :=
  { gain := if x.tests % 2 = 1 ∧ ¬running then some (x.oddFree % 6) else none, again := false }

theorem testStart_of_free {p : Fin 18} {s : State} (hfree : (s.phys[p]).cond = .free) (hdue : (s.phys[p]).testDue = true)
    (htest : (s.phys[p]).test = none) (hsuspended : suspended s p = false) (hparked : s.power.parked[1] = false) :
    testStart p s = updPhys p (fun x => { x with
      testDue := false, test := some ((s.phys[p]).spareTest (s.cal.phase = .running)) }) s := by
  simp only [testStart, servedLane_of_free hfree, hfree, hdue, htest, hsuspended, hparked, Option.isNone_none,
    Bool.not_false, and_self, if_true]
  rfl

/-! ### The result of a test -/

/-- The value that a test expects (R78). -/
def RefTest.expected (x : RefTest) : Int :=
  match x.gain with
  | some g => expectDac g
  | none => expectRef

/-- A result within 41,943 of its expected value (R78, R88). -/
def NearValue (value expected : Int) : Prop := -41943 ≤ value - expected ∧ value - expected ≤ 41943

theorem natAbs_le_iff_nearValue {value expected : Int} :
    (value - expected).natAbs ≤ 41943 ↔ NearValue value expected := by
  unfold NearValue
  omega

theorem not_nearValue_iff {value expected : Int} :
    ¬NearValue value expected ↔ value - expected < -41943 ∨ 41943 < value - expected := by
  unfold NearValue
  omega

/-- A consistent conversion of a lane with no inconsistency to clear changes nothing (R75). -/
theorem noteConsistency_of_clear {p : Fin 18} {s : State} (h : (s.phys[p]).since = none) :
    noteConsistency p true s = (false, s) := by
  simp only [noteConsistency, h]

section
variable {p : Fin 18} {value : Int} {x : RefTest} {s : State} (hfree : (s.phys[p]).cond = .free)
  (htest : (s.phys[p]).test = some x) (hsince : (s.phys[p]).since = none)
include hfree htest hsince

/-- A free spare passes its test: it is counted, and the gains of its odd-numbered tests go on (R78). -/
theorem testDone_of_near (hnear : NearValue value x.expected) :
    testDone p value true s = updPhys p (fun y => { y with
      testValue := value, testPass := true, test := none, tests := y.tests + 1,
      oddFree := if x.gain.isSome then y.oddFree + 1 else y.oddFree }) s := by
  obtain ⟨gain, again⟩ := x
  have hsame : ((updPhys p (fun y => { y with testValue := value, testPass := true }) s).phys[p]).cond = .free := by
    rw [updPhys_lane_same, hfree]
  cases gain <;> simp only [RefTest.expected] at hnear <;>
    simp only [testDone, htest, noteConsistency_of_clear hsince, natAbs_le_iff_nearValue, hnear, hsame, updPhys_updPhys,
      decide_true, Bool.false_eq_true, if_true, if_false]
  all_goals exact afterTest_of_free (by rw [updPhys_lane_same, hfree])

/-- A free spare fails its first test, which is made again (R79). -/
theorem testDone_of_first_failure (hfar : ¬NearValue value x.expected) (hfirst : x.again = false) :
    testDone p value true s = updPhys p (fun y => { y with
      testValue := value, testPass := false, test := some { x with again := true } }) s := by
  obtain ⟨gain, again⟩ := x
  have hserved : servedLane (updPhys p (fun y => { y with testValue := value, testPass := false }) s) p = none :=
    servedLane_of_free (by rw [updPhys_lane_same, hfree])
  cases gain <;> simp only [RefTest.expected] at hfar hfirst <;>
    simp only [testDone, htest, noteConsistency_of_clear hsince, natAbs_le_iff_nearValue, hfar, hserved, hfirst,
      updPhys_updPhys, decide_false, Bool.false_eq_true, if_false]

/-- A free spare fails the repeat: it is fenced with cause 2 (R79, R81). -/
theorem testDone_of_second_failure (hfar : ¬NearValue value x.expected) (hagain : x.again = true) :
    testDone p value true s = almanac 0x103 1 almSafety (p.val * 2 ^ 8 + 2 * 2 ^ 24)
      (fencePhys p 2 (updPhys p (fun y => { y with testValue := value, testPass := false }) s)) := by
  obtain ⟨gain, again⟩ := x
  have hsame : ((updPhys p (fun y => { y with testValue := value, testPass := false }) s).phys[p]).cond = .free := by
    rw [updPhys_lane_same, hfree]
  cases gain <;> simp only [RefTest.expected] at hfar hagain <;>
    simp only [testDone, htest, noteConsistency_of_clear hsince, natAbs_le_iff_nearValue, hfar,
      servedLane_of_free hsame, hagain, declarePhysFault, hsame, decide_false, Bool.false_eq_true, if_true, if_false]

end

/-! ### Retests -/

theorem regPut_PCMD_retest {a : Accessor} {s : State} (hreach : WriteReaches a (.ln .PCMD) 1 s)
    (hsel : 16 ≤ selOf (.ln .SEL) a s) : regPut a (.ln .PCMD) 0 1 s = (laneRetest (selPhys a s) s).answer a .done := by
  have hphysical : lnSelected a .PCMD s = true := decide_eq_true hsel
  rw [regPut_reaches hreach]
  simp only [writeReg, lnWrite, hphysical, Bool.not_true, Bool.false_eq_true, if_false]
  rfl

theorem laneRetest_of_fenced {p : Fin 18} {s : State} (h : (s.phys[p]).cond = .fenced) :
    laneRetest p s = updPhys p (fun x => { x with cond := .retesting }) s := if_pos h

theorem laneRetest_of_not_fenced {p : Fin 18} {s : State} (h : (s.phys[p]).cond ≠ .fenced) : laneRetest p s = s :=
  if_neg h

/-- The eighteen results of a retest pass (R88). -/
def RetestPasses (values : List (BitVec 24)) (consistent : Bool) : Prop :=
  consistent = true ∧ ∀ i < 18, NearValue (values.getD i 0).toInt (retestExpect i)

theorem retest_all_iff (values : List (BitVec 24)) (consistent : Bool) :
    (consistent && (List.range 18).all (fun i =>
      decide (((values.map (fun x => x.toInt)).getD i 0 - retestExpect i).natAbs ≤ 41943))) = true ↔
    RetestPasses values consistent := by
  have hvalue (i : Nat) : (values.map (fun x => x.toInt)).getD i 0 = (values.getD i 0).toInt := by
    rw [List.getD_eq_getElem?_getD, List.getD_eq_getElem?_getD, List.getElem?_map]
    cases values[i]? <;> rfl
  simp only [Bool.and_eq_true, List.all_eq_true, List.mem_range, decide_eq_true_eq, hvalue,
    natAbs_le_iff_nearValue, RetestPasses]

section
variable {p : Fin 18} {values : List (BitVec 24)} {consistent : Bool} {s : State}
  (hretesting : (s.phys[p]).cond = .retesting)
include hretesting

theorem laneRetestDone_of_passes (h : RetestPasses values consistent) :
    laneRetestDone p (values.map (fun x => x.toInt)) consistent s =
      almanac 0x104 0 almSafety (p.val * 2 ^ 8) (updPhys p (fun x => { x with cond := .free, cause := 0 }) s) := by
  rw [laneRetestDone, if_pos hretesting]
  exact if_pos ((retest_all_iff values consistent).2 h)

theorem laneRetestDone_of_fails (h : ¬RetestPasses values consistent) :
    laneRetestDone p (values.map (fun x => x.toInt)) consistent s =
      updPhys p (fun x => { x with cond := .fenced, cause := 4 }) s := by
  rw [laneRetestDone, if_pos hretesting]
  exact if_neg fun hall => h ((retest_all_iff values consistent).1 hall)

end

end Sys2Proof.Machine

namespace Sys2Proof.Proofs
open Machine

/-- Settles O17: loans, holds and register writes by their one outcome each; a test and a retest by the distance of each
result from what it expects. -/
theorem holdsLoansAndReferenceTests : Obligations.HoldsLoansAndReferenceTests := by
  unfold Obligations.HoldsLoansAndReferenceTests
  refine ⟨⟨?_, ?_, ?_, ?_, ?_, ?_⟩, ?_, ?_, ?_, ?_, ?_⟩
  · -- the end of a loan
    intro k home s hcal hsettled hpoint
    have hlane := updLane_lane_same k (Lane.servedAtHome home (laneCodes s k))
      (updPhys (s.lanes[k]).serving (fun x => { x with cond := .free }) s)
    exact ⟨_, congrArg Host.Outcome.next (loanEnd_of_settled hcal hsettled hpoint), congrArg Lane.cal hlane,
      congrArg Lane.serving hlane, rfl, fun j hj => updLane_lane_other _ _ hj,
      (updPhys_regsBut _ _ _).trans (updLane_regsBut _ _ _),
      ((updPhys_partsBut _ _ _).trans (updLane_partsBut _ _ _)).mono (by simp)⟩
  · -- a STALE word
    intro k s hwf hcal hphase hnone hleft hctrl
    have hlane := updLane_lane_same k (fun l => l.wordTaken.released ((s.lanes[k]).staleWordAt k s.now))
      (s.setReg (.ln .LAST) k.val ((s.lanes[k]).staleWordAt k s.now).word)
    have hfresh := Lane.released_lastFresh_of_stale (w := (s.lanes[k]).staleWordAt k s.now)
      (bit_sampleWord_stale _ _ _ _ _ _) (s.lanes[k]).wordTaken
    exact ⟨_, congrArg Host.Outcome.next (staleWord_of_no_destination hcal hphase hnone hleft hctrl),
      reg_setReg_same _ _ _ _ hwf, congrArg Lane.lastStamp hlane, congrArg Lane.wordsLeft hlane,
      (congrArg Lane.lastFresh hlane).trans hfresh, (setReg_regsBut _ _ _ _).trans (updLane_regsBut _ _ _),
      ((setReg_partsBut _ _ _ _).trans (updLane_partsBut _ _ _)).mono (by simp)⟩
  · -- the end of a hold
    intro k s hcal hsettled hphase
    obtain ⟨hnone, hconverting, hrecord⟩ := holdResume_resumes hcal hsettled hphase
    exact ⟨_, rfl, hnone, hconverting, hrecord, (holdResume_frame k s).regsBut_nil, (holdResume_frame k s).partsBut⟩
  · -- CA_SETS
    intro a j v s hwf hreach
    refine ⟨(writeSets j.val v s).answer a .done, congrArg Host.Outcome.next (regPut_reaches hreach j.val),
      lastAnswer_answer_same _ _ _, fun hbusy => ?_, fun hfree => ?_⟩
    · rw [writeSets_of_busy hbusy]
      exact ⟨rbit_orReg_same hwf (.ca .STAT) 0 (by decide), fun i =>
        (((orReg_frame s (.ca .STAT) 0 (2 ^ 4)).file (.ca .SETS) i).resolve_left id).trans
          (reg_setReg_other _ _ _ _ _ _ (.inl (by decide)))⟩
    · rw [writeSets_of_not_busy hfree]
      exact ⟨reg_setReg_same _ _ _ _ hwf, setReg_answer_frame _ _ _ _ _⟩
  · -- CA_DACVAL
    intro a v s hwf hreach
    exact ⟨(writeDac v s).answer a .done, congrArg Host.Outcome.next (regPut_reaches hreach 0),
      lastAnswer_answer_same _ _ _, (writeDac_reg v s _ _).trans (reg_setReg_same _ _ _ _ hwf), writeDac_dac v s,
      fun r u hr => (writeDac_reg v s r u).trans (setReg_regsBut _ _ _ _ r u hr),
      ((writeDac_partsBut v s).trans (answer_partsBut _ _ _)).mono (by simp)⟩
  · -- the trims
    intro a which v s hwf
    cases which <;> exact trimWrite_reaches hwf
  · -- the lane timer
    intro p s hfenced hretesting
    exact congrArg Host.Outcome.next (laneTimerTick_of_in_use hfenced hretesting)
  · -- the start of a test
    intro p s hfree hdue htest hsuspended hparked
    refine ⟨_, congrArg Host.Outcome.next (testStart_of_free hfree hdue htest hsuspended hparked), ?_, ?_,
      fun q hq => getElem_upd_other _ _ hq, updPhys_regsBut _ _ _, updPhys_partsBut _ _ _⟩
    · rw [updPhys_lane_same]
    · rw [updPhys_lane_same]
      exact ⟨_, rfl, rfl, rfl⟩
  · -- the result of a test
    intro p value x s hfree htest hsince expected
    refine ⟨fun hlow hhigh => ?_, fun hfar => ?_⟩
    · refine ⟨_, congrArg Host.Outcome.next (testDone_of_near hfree htest hsince ⟨hlow, hhigh⟩), ?_⟩
      rw [updPhys_lane_same]
      exact ⟨rfl, rfl, rfl, rfl, hfree, updPhys_regsBut _ _ _, updPhys_partsBut _ _ _⟩
    · have hfar : ¬NearValue value.toInt x.expected := not_nearValue_iff.2 hfar
      cases hagain : x.again with
      | false =>
        refine ⟨_, congrArg Host.Outcome.next (testDone_of_first_failure hfree htest hsince hfar hagain), ?_⟩
        rw [updPhys_lane_same]
        exact ⟨rfl, fun _ => ⟨rfl, hfree⟩, nofun⟩
      | true =>
        have hfenced := fencePhys_same p 2
          (updPhys p (fun y => { y with testValue := value.toInt, testPass := false }) s)
        rw [updPhys_lane_same] at hfenced
        exact ⟨_, congrArg Host.Outcome.next (testDone_of_second_failure hfree htest hsince hfar hagain),
          congrArg PhysLane.testPass hfenced, nofun, fun _ => ⟨congrArg PhysLane.test hfenced,
            congrArg PhysLane.cond hfenced, congrArg PhysLane.cause hfenced⟩⟩
  · -- LANE_RETEST
    intro a s hreach hsel p
    have hput : exec (.laneRetest a) s = .next ((laneRetest p s).answer a .done) :=
      congrArg Host.Outcome.next (regPut_PCMD_retest hreach hsel)
    refine ⟨fun hfenced => ?_, fun hother => ?_⟩
    · rw [laneRetest_of_fenced hfenced] at hput
      exact ⟨_, hput, lastAnswer_answer_same _ _ _, rfl, (updPhys_regsBut _ _ _).trans (answer_regsBut _ _ _),
        ((updPhys_partsBut _ _ _).trans (answer_partsBut _ _ _)).mono (by simp)⟩
    · rwa [laneRetest_of_not_fenced hother] at hput
  · -- the result of a retest
    intro p values consistent s hretesting _
    by_cases hpass : RetestPasses values consistent
    · refine ⟨_, congrArg Host.Outcome.next (laneRetestDone_of_passes hretesting hpass),
        ⟨fun _ => ?_, fun h => absurd hpass h⟩, fun q hq => getElem_upd_other _ _ hq, rfl⟩
      exact ⟨congrArg PhysLane.cond (updPhys_lane_same _ _ _), congrArg PhysLane.cause (updPhys_lane_same _ _ _)⟩
    · refine ⟨_, congrArg Host.Outcome.next (laneRetestDone_of_fails hretesting hpass),
        ⟨fun h => absurd h hpass, fun _ => ?_⟩, fun q hq => getElem_upd_other _ _ hq, rfl⟩
      exact ⟨congrArg PhysLane.cond (updPhys_lane_same _ _ _), congrArg PhysLane.cause (updPhys_lane_same _ _ _)⟩

end Sys2Proof.Proofs
end

section
/-! PROOFS. Rules of the consist loader: an update of its state, the end of its command with a result, a command that begins
or finds another one running, and CONSIST_ABORT (R182, R193, R615). -/
namespace Sys2Proof.Machine

/-! ### Frames -/

theorem updLoader_regsBut (f : Loader → Loader) (s : State) : RegsBut [] s (updLoader f s) := fun _ _ _ => rfl

theorem updLoader_partsBut (f : Loader → Loader) (s : State) : PartsBut [.coach] s (updLoader f s) :=
  (updLoader_within (R := fun _ => True) (within_refl s) (by simp)).partsBut

theorem updLoader_wf {s : State} (hwf : RegFile.wf s.regs) (f : Loader → Loader) : RegFile.wf (updLoader f s).regs := hwf

theorem updLoader_coach (f : Loader → Loader) (s : State) :
    (updLoader f s).coach = { s.coach with loader := f s.coach.loader } := rfl

theorem orReg_regsBut (s : State) (r : Reg) (u m : Nat) : RegsBut [(r, u)] s (s.orReg r u m) :=
  (setReg_regsBut _ _ _ _).trans (orReg_frame s r u m).regsBut_nil

theorem orReg_partsBut (s : State) (r : Reg) (u m : Nat) : PartsBut [.safety, .ic, .tw] s (s.orReg r u m) :=
  (setReg_partsBut _ _ _ _).trans (orReg_frame s r u m).partsBut

theorem orReg_coach (s : State) (r : Reg) (u m : Nat) : (s.orReg r u m).coach = s.coach :=
  orReg_partsBut s r u m .coach (by simp)

/-- Raising a flag leaves the almanac entries that wait. -/
theorem orReg_pending (s : State) (r : Reg) (u m : Nat) : (s.orReg r u m).safety.pending = s.safety.pending := by
  have hpin (t : State) : (faultPin t).safety.pending = t.safety.pending := by
    unfold faultPin
    split <;> rfl
  have hnotice (t t' : State) : (twNotice t t').safety = t'.safety := by
    unfold twNotice
    split <;> rfl
  have harrive (t t' : State) (n : Fin 160) : (arrive t n t').safety = t'.safety := by
    unfold arrive
    split <;> rfl
  unfold State.orReg
  dsimp only
  split
  · split
    · rw [hnotice, hpin]; rfl
    · rw [harrive, hnotice, hpin]; rfl
  · rw [hnotice, hpin]; rfl

theorem rbit_orReg_of_eq_pow {s : State} (hwf : RegFile.wf s.regs) (r : Reg) (u : Nat) {m i : Nat} (hm : m = 2 ^ i)
    (hi : i < 32) : (s.orReg r u m).rbit r u i = true := hm ▸ rbit_orReg_same hwf r u hi

/-! ### The end of a command -/

/-- The loader after its command has ended with a result (R174, R182). -/
def Loader.finished (code : Nat) (l : Loader) : Loader :=
  { l with
    phase := .idle, port := 0, locked := l.locked && l.cmd == 4, staged := l.staged && l.cmd == 4, result := code,
    image := none, hand := none, startsLeft := [], enables := [] }

theorem longOutcome_frame (port out : Nat) (s : State) :
    Within (· ∈ [.host, .tw]) (fun _ => False) s (longOutcome port out s) :=
  longOutcome_within (within_refl s) (by simp) (by simp)

theorem longOutcome_coach (port out : Nat) (s : State) : (longOutcome port out s).coach = s.coach :=
  (longOutcome_frame port out s).partsBut .coach (by simp)

theorem longOutcome_safety (port out : Nat) (s : State) : (longOutcome port out s).safety = s.safety :=
  (longOutcome_frame port out s).partsBut .safety (by simp)

theorem loaderFinish_coach (code : Nat) (s : State) :
    (loaderFinish code s).coach = { s.coach with loader := s.coach.loader.finished code } := by
  rw [loaderFinish, orReg_coach, updLoader_coach, longOutcome_coach]
  rfl

theorem loaderFinish_pending (code : Nat) (s : State) :
    (loaderFinish code s).safety.pending = s.safety.pending := by
  rw [loaderFinish, orReg_pending, updLoader, updCoach_safety, longOutcome_safety]

theorem loaderFinish_regsBut (code : Nat) (s : State) : RegsBut [(.cw .LDSTAT, 0)] s (loaderFinish code s) :=
  ((longOutcome_frame _ _ _).regsBut_nil.trans (updLoader_regsBut _ _)).trans (orReg_regsBut _ _ _ _)

theorem loaderFinish_partsBut (code : Nat) (s : State) :
    PartsBut [.coach, .safety, .ic, .tw, .host] s (loaderFinish code s) :=
  (loaderFinish_within (R := fun _ => True) (within_refl s) (by simp) (by simp) (by simp) (by simp) (by simp)
    trivial).partsBut

/-- A result other than 0 sets CW_LDSTAT.FAIL (R174). -/
theorem loaderFinish_fail {code : Nat} (hcode : code ≠ 0) {s : State} (hwf : RegFile.wf s.regs) :
    (loaderFinish code s).rbit (.cw .LDSTAT) 0 2 = true := by
  have hflag : (if code = 0 then 2 else 4) = 2 ^ 2 := if_neg hcode
  exact rbit_orReg_of_eq_pow (updLoader_wf ((longOutcome_frame _ _ _).regs hwf) _) _ _ hflag (by decide)

/-! ### A command begins -/

theorem regPut_LDCMD {a : Accessor} {v : Word} {s : State} (h : WriteReaches a (.cw .LDCMD) v s) :
    regPut a (.cw .LDCMD) 0 v s = (writeLdCmd v s).answer a .done :=
  regPut_reaches h 0

/-- The commands that start a check: instruction, CW_LDCMD word, CMD, and the source code that CW_ACTSRC takes (R181). -/
def loadCommands (a : Accessor) : List (Instr × Word × Nat × Nat) :=
  [(.consistVerify a, 0x01, 1, 3), (.applyFullImage a, 0x02, 2, 3), (.applyShuntImage a false, 0x03, 3, 3),
    (.applyShuntImage a true, 0x23, 3, 3), (.applySlot a 0, 0x04, 4, 1), (.applySlot a 1, 0x14, 4, 2)]

/-- Each of them is the write of its word, whose CMD is 1 to 4 and whose SLOT gives the source. -/
theorem of_mem_loadCommands {a : Accessor} {i : Instr} {v : Word} {cmd src : Nat} (h : (i, v, cmd, src) ∈ loadCommands a) :
    (∀ s, exec i s = .next (regPut a (.cw .LDCMD) 0 v s)) ∧ fld v 3 0 = cmd ∧ 1 ≤ cmd ∧ cmd ≤ 4 ∧
      src = if cmd = 4 then 1 + b2n (bit v 4) else 3 := by
  simp only [loadCommands, List.mem_cons, List.not_mem_nil, or_false, Prod.mk.injEq] at h
  obtain ⟨rfl, rfl, rfl, rfl⟩ | ⟨rfl, rfl, rfl, rfl⟩ | ⟨rfl, rfl, rfl, rfl⟩ | ⟨rfl, rfl, rfl, rfl⟩ |
    ⟨rfl, rfl, rfl, rfl⟩ | ⟨rfl, rfl, rfl, rfl⟩ := h <;> exact ⟨fun _ => rfl, by decide⟩

section
variable {v : Word} {s : State} (hlow : 1 ≤ fld v 3 0) (hhigh : fld v 3 0 ≤ 4)
include hlow hhigh

/-- Any command while another one runs ends with BUSY (R193). -/
theorem writeLdCmd_of_busy (hbusy : s.coach.loader.phase ≠ .idle) :
    writeLdCmd v s = (updLoader (fun l => { l with result := 10 }) s).orReg (.cw .LDSTAT) 0 4 := by
  rw [writeLdCmd, if_neg (by omega), if_neg (by omega), if_pos hbusy]

/-- A verify, an apply of a slot and an apply of an image that is not staged start the whole check (R181, R182). -/
theorem writeLdCmd_begins (hidle : s.coach.loader.phase = .idle)
    (hcheck : s.coach.loader.staged = true → fld v 3 0 = 1 ∨ fld v 3 0 = 4) :
    writeLdCmd v s = beginLoad (fld v 3 0) (b2n (bit v 4)) (bit v 5) s := by
  have hwhole : ¬(s.coach.loader.staged && (fld v 3 0 == 2 || fld v 3 0 == 3)) = true := by
    simp only [Bool.and_eq_true, Bool.or_eq_true, beq_iff_eq]
    rintro ⟨hstaged, hcmd⟩
    have := hcheck hstaged
    omega
  rw [writeLdCmd, if_neg (by omega), if_neg (by omega), if_neg (not_not_intro hidle)]
  exact if_neg hwhole

end

/-- An apply of the staged image takes the image's check as done (R182). -/
theorem writeLdCmd_applies_staged {v : Word} {s : State} (hidle : s.coach.loader.phase = .idle)
    (hstaged : s.coach.loader.staged = true) (hcmd : fld v 3 0 = 2 ∨ fld v 3 0 = 3) :
    writeLdCmd v s = applyStaged (beginLoad (fld v 3 0) (b2n (bit v 4)) (bit v 5) s) := by
  have happly : (s.coach.loader.staged && (fld v 3 0 == 2 || fld v 3 0 == 3)) = true := by
    simpa only [hstaged, Bool.true_and, Bool.or_eq_true, beq_iff_eq] using hcmd
  rw [writeLdCmd, if_neg (by omega), if_neg (by omega), if_neg (not_not_intro hidle)]
  exact if_pos happly

/-- An image of the other KIND than the apply's ends with CONFLICT (R182). -/
theorem applyImage_of_other_kind {s : State} (h : s.coach.loader.cmd = 3 ↔ (unpack (jobBytes s)).full = true) :
    applyImage s = loaderFinish 9 s := if_pos (propext h)

theorem applyStaged_of_other_kind {s : State} (h : s.coach.loader.cmd = 3 ↔ (unpack (jobBytes s)).full = true) :
    applyStaged s = loaderFinish 9 s := by
  rw [applyStaged, applyImage_of_other_kind h, ite_self]

theorem jobBytes_of_staging {s : State} (h : s.coach.loader.cmd ≠ 4) : jobBytes s = stagedBytes s :=
  funext fun _ => if_neg h

/-- Every command but an apply of a slot locks the staging buffer (R182). -/
theorem beginLoad_locked (cmd slot : Nat) (handover : Bool) (s : State) :
    (beginLoad cmd slot handover s).coach.loader.locked = (s.coach.loader.locked || decide (cmd ≠ 4)) := by
  have hslot : (cmd != 4) = decide (cmd ≠ 4) := by simp [bne, Bool.beq_eq_decide_eq]
  exact congrArg (s.coach.loader.locked || ·) hslot

theorem beginLoad_regsBut (cmd slot : Nat) (handover : Bool) (s : State) : RegsBut [] s (beginLoad cmd slot handover s) :=
  updLoader_regsBut _ _

theorem beginLoad_partsBut (cmd slot : Nat) (handover : Bool) (s : State) :
    PartsBut [.coach] s (beginLoad cmd slot handover s) :=
  updLoader_partsBut _ _

/-- An apply of a staged image of the other KIND: CONFLICT in place of the load (R182). -/
theorem writeLdCmd_of_other_kind {v : Word} {s : State} (hidle : s.coach.loader.phase = .idle)
    (hstaged : s.coach.loader.staged = true)
    (hkind : fld v 3 0 = 2 ∧ (unpack (stagedBytes s)).full = false ∨ fld v 3 0 = 3 ∧ (unpack (stagedBytes s)).full = true) :
    writeLdCmd v s = loaderFinish 9 (beginLoad (fld v 3 0) (b2n (bit v 4)) (bit v 5) s) := by
  rw [writeLdCmd_applies_staged hidle hstaged (hkind.imp And.left And.left)]
  have hcmd : (beginLoad (fld v 3 0) (b2n (bit v 4)) (bit v 5) s).coach.loader.cmd = fld v 3 0 := rfl
  refine applyStaged_of_other_kind ?_
  rw [jobBytes_of_staging (by omega), hcmd]
  change _ ↔ (unpack (stagedBytes s)).full = true
  obtain ⟨hcmd, hfull⟩ | ⟨hcmd, hfull⟩ := hkind <;> simp [hcmd, hfull]

/-! ### CONSIST_ABORT -/

theorem exec_consistAbort {a : Accessor} {s : State} (h : WriteReaches a (.cw .LDCMD) 5 s) :
    exec (.consistAbort a) s = .next ((loaderAbort s).answer a .done) :=
  congrArg Host.Outcome.next (regPut_LDCMD h)

theorem loaderAbort_of_checking {s : State} (h : s.coach.loader.phase = .checking) :
    loaderAbort s = updLoader (fun l => { l with locked := false, staged := false }) (loaderFinish 13 s) := by
  simp only [loaderAbort, h]

theorem loaderAbort_of_idle {s : State} (h : s.coach.loader.phase = .idle) :
    loaderAbort s = updLoader (fun l => { l with locked := false, staged := false }) s := by
  simp only [loaderAbort, h]

/-- A full load and an in-place shunt are not aborted (R615). -/
theorem loaderAbort_of_loading {s : State} (h : s.coach.loader.phase = .stopping ∨ s.coach.loader.phase = .loading) :
    loaderAbort s = s := by
  obtain h | h := h <;> simp only [loaderAbort, h]

end Sys2Proof.Machine
end

section
/-! PROOFS. The end of an image check and the start of a full load: a failed check, a passed verify, the stop of every
running train and the clearing of LN_ENABLE (R174, R180, R186 step 1). -/
namespace Sys2Proof.Machine

/-! ### Results of a check -/

/-- The result that CONSIST_CHECK_DONE comes to (R181). -/
def jobResult (s : State) : Nat := checkImage (jobBytes s) (jobLength s) s.coach.loader.byHandover s

theorem slotFailed_frame (code : Nat) (s : State) :
    Within (· ∈ [.safety]) (fun _ => False) s (slotFailed code s) :=
  slotFailed_within (within_refl s) (by simp)

theorem slotFailed_coach (code : Nat) (s : State) : (slotFailed code s).coach = s.coach :=
  (slotFailed_frame code s).partsBut .coach (by simp)

/-- A slot that fails its check makes almanac entry 0x401 (R180, R270). -/
theorem slotFailed_logs {code : Nat} (hcode : code ≠ 0) {s : State} (hslot : s.coach.loader.cmd = 4) :
    ∃ e ∈ (slotFailed code s).safety.pending, e.code = 0x401 := by
  rw [slotFailed, if_pos ⟨hslot, hcode⟩]
  exact ⟨_, List.mem_append_right _ List.mem_cons_self, rfl⟩

section
variable {s : State} (hchecking : s.coach.loader.phase = .checking)
include hchecking

theorem checkDone_of_failed (hcode : jobResult s ≠ 0) :
    checkDone s = loaderFinish (jobResult s) (slotFailed (jobResult s) s) := by
  rw [checkDone, if_neg (not_not_intro hchecking)]
  exact if_pos hcode

/-- A passed verify stages the image and keeps its lock (R181, R182). -/
theorem checkDone_of_verified (hcode : jobResult s = 0) (hverify : s.coach.loader.cmd = 1) :
    checkDone s = (updLoader (fun l => { l with
      phase := .idle, port := 0, staged := true, kind := b2n (imShunt (jobBytes (longOutcome s.coach.loader.port 0 s))),
      result := 0 })
      (longOutcome s.coach.loader.port 0 s)).orReg (.cw .LDSTAT) 0 2 := by
  have hcode : checkImage (jobBytes s) (jobLength s) s.coach.loader.byHandover s = 0 := hcode
  simp only [checkDone, hchecking, hcode, hverify, ne_eq, not_true_eq_false, if_false, if_true]

theorem checkDone_of_applied (hcode : jobResult s = 0) (happly : s.coach.loader.cmd ≠ 1) :
    checkDone s = applyImage s := by
  rw [checkDone, if_neg (not_not_intro hchecking)]
  exact (if_neg (not_not_intro hcode)).trans (if_neg happly)

end

theorem applyImage_of_full {s : State} (hcmd : s.coach.loader.cmd ≠ 3) (hfull : (unpack (jobBytes s)).full = true) :
    applyImage s = startFull (unpack (jobBytes s)) s := by
  have hkind : ¬(s.coach.loader.cmd = 3) = ((unpack (jobBytes s)).full = true) := fun h => hcmd (h.mpr hfull)
  rw [applyImage, if_neg hkind, if_pos hfull]

/-! ### Stopping every train -/

/-- A train without a substitution after a stop at `t` (R140, R142). -/
def Train.stoppedAt (t : Stamp) (quiet : Bool) (r : Train) : Train :=
  if r.starting then { r with stopHeld := true }
  else if trainLive r then { r with state := .draining, drainAt := t, quiet := quiet }
  else r

theorem Train.stoppedAt_of_starting {r : Train} (h : r.starting = true) (t : Stamp) (quiet : Bool) :
    r.stoppedAt t quiet = { r with stopHeld := true } := if_pos h

theorem Train.stoppedAt_of_live {r : Train} (hstarting : r.starting = false) (hlive : trainLive r = true) (t : Stamp)
    (quiet : Bool) : r.stoppedAt t quiet = { r with state := .draining, drainAt := t, quiet := quiet } := by
  rw [Train.stoppedAt, hstarting, if_neg Bool.false_ne_true, if_pos hlive]

theorem Train.stoppedAt_of_resting {r : Train} (hstarting : r.starting = false) (hlive : trainLive r = false) (t : Stamp)
    (quiet : Bool) : r.stoppedAt t quiet = r := by
  rw [Train.stoppedAt, hstarting, hlive, if_neg Bool.false_ne_true, if_neg Bool.false_ne_true]

theorem Train.stoppedAt_subst (t : Stamp) (quiet : Bool) (r : Train) : (r.stoppedAt t quiet).subst = r.subst := by
  unfold Train.stoppedAt
  split
  · rfl
  · split <;> rfl

theorem Train.stoppedAt_state (t : Stamp) (quiet : Bool) (r : Train) :
    (r.stoppedAt t quiet).state =
      if (r.state = .running ∨ r.state = .warming) ∧ r.starting = false then .draining else r.state := by
  have hlive : trainLive r = true ↔ r.state = .running ∨ r.state = .warming := by simp [trainLive]
  unfold Train.stoppedAt
  cases hstarting : r.starting with
  | true => simp
  | false =>
    simp only [hlive, and_true, Bool.false_eq_true, if_false]
    split <;> rfl

theorem stopTrainSlots_coach (n : Nat) (s : State) : (stopTrainSlots n s).coach = s.coach :=
  ((stopTrainSlots_within (P := (· ≠ .coach)) (R := fun _ => True) (within_refl s) nofun nofun nofun nofun nofun nofun
    trivial).parts .coach).resolve_left (fun h => h rfl)

/-- A stop of a train without a substitution changes its entry of the train table only. -/
theorem trainStop_coach {n : Fin 16} {s : State} (hsubst : (s.coach.trains[n]).subst = none) (quiet : Bool) :
    (trainStop n quiet s).coach =
      { s.coach with trains := upd s.coach.trains n (Train.stoppedAt s.now quiet) } := by
  have hupd (f : Train → Train) (h : (s.coach.trains[n]).stoppedAt s.now quiet = f s.coach.trains[n]) :
      upd s.coach.trains n (Train.stoppedAt s.now quiet) = upd s.coach.trains n f :=
    congrArg (fun x => s.coach.trains.set n.val x n.isLt) h
  unfold trainStop
  dsimp only
  cases hstarting : (s.coach.trains[n]).starting with
  | true =>
    rw [hupd (fun r => { r with stopHeld := true }) (Train.stoppedAt_of_starting hstarting _ _), if_pos rfl]
    rfl
  | false =>
    cases hlive : trainLive s.coach.trains[n] with
    | true =>
      rw [hupd (fun r => { r with state := .draining, drainAt := s.now, quiet := quiet })
        (Train.stoppedAt_of_live hstarting hlive _ _)]
      simp only [hsubst, Bool.not_true, Bool.false_eq_true, if_false, stopTrainSlots_coach]
      rfl
    | false =>
      rw [upd_eq_self (Train.stoppedAt_of_resting hstarting hlive _ _)]
      rfl

theorem trainStop_frame (n : Fin 16) (quiet : Bool) (s : State) :
    Within (· ∈ [.safety, .router, .drawbar, .slots, .coach, .ic, .tw]) (· = .db .LSTAT) s (trainStop n quiet s) :=
  trainStop_within (within_refl s) (by simp) (by simp) (by simp) (by simp) (by simp) (by simp) (by simp) rfl

/-- A vector after a pass that changes each of its listed entries once. -/
theorem getElem_foldl_upd {α : Type} {n : Nat} (f : α → α) (ks : List (Fin n)) (hnodup : ks.Nodup) (v : Vector α n)
    (j : Fin n) : (ks.foldl (fun v k => upd v k f) v)[j] = if j ∈ ks then f v[j] else v[j] := by
  induction ks generalizing v with
  | nil => simp
  | cons k ks ih =>
    obtain ⟨hk, hnodup⟩ := List.nodup_cons.1 hnodup
    rw [List.foldl_cons, ih hnodup]
    by_cases hj : j = k
    · subst hj
      rw [if_neg hk, getElem_upd_same, if_pos List.mem_cons_self]
    · simp only [getElem_upd_other _ _ hj, List.mem_cons, hj, false_or]

/-- Stops of trains none of which is substituting act on the train table one by one. -/
theorem foldl_trainStop_coach (quiet : Bool) (ks : List (Fin 16)) (s : State)
    (hsubst : ∀ n : Fin 16, (s.coach.trains[n]).subst = none) :
    (ks.foldl (fun s n => trainStop n quiet s) s).coach =
      { s.coach with trains := ks.foldl (fun v n => upd v n (Train.stoppedAt s.now quiet)) s.coach.trains } := by
  induction ks generalizing s with
  | nil => rfl
  | cons k ks ih =>
    have hstop := trainStop_coach (hsubst k) quiet
    have hnow : (trainStop k quiet s).now = s.now :=
      now_congr ((trainStop_frame k quiet s).partsBut .clk (by simp))
    have hkeep (n : Fin 16) : ((trainStop k quiet s).coach.trains[n]).subst = none := by
      rw [hstop]
      by_cases hn : n = k
      · subst hn
        exact (congrArg Train.subst (getElem_upd_same _ _ _)).trans ((Train.stoppedAt_subst _ _ _).trans (hsubst n))
      · exact (congrArg Train.subst (getElem_upd_other _ _ hn)).trans (hsubst n)
    rw [List.foldl_cons, ih _ hkeep, hstop, hnow]
    rfl

/-- Every train is stopped (R186 step 1). -/
def stopAll (quiet : Bool) (s : State) : State := (List.finRange 16).foldl (fun s n => trainStop n quiet s) s

theorem stopAll_wf {s : State} (hwf : RegFile.wf s.regs) (quiet : Bool) : RegFile.wf (stopAll quiet s).regs :=
  (within_foldl (P := fun _ => True) (R := fun _ => True)
    (fun _ _ h => trainStop_within h trivial trivial trivial trivial trivial trivial trivial trivial)
    (within_refl s)).regs hwf

theorem stopAll_cars {s : State} (hsubst : ∀ n : Fin 16, (s.coach.trains[n]).subst = none) (quiet : Bool) :
    (stopAll quiet s).coach.cars = s.coach.cars := by
  rw [stopAll, foldl_trainStop_coach quiet _ s hsubst]

theorem stopAll_train {s : State} (hsubst : ∀ n : Fin 16, (s.coach.trains[n]).subst = none) (quiet : Bool) (n : Fin 16) :
    (stopAll quiet s).coach.trains[n] = (s.coach.trains[n]).stoppedAt s.now quiet := by
  rw [stopAll, foldl_trainStop_coach quiet _ s hsubst]
  exact (getElem_foldl_upd _ _ (List.nodup_finRange 16) _ n).trans (if_pos (List.mem_finRange n))

/-! ### The start of a full load -/

/-- A write of 0 to LN_ENABLE stops every lane that was enabled and changes no train (R71). -/
theorem writeEnable_zero (s : State) :
    Within (· ∈ [.merger, .lanes, .phys]) (fun _ => False) (s.setReg (.ln .ENABLE) 0 0) (writeEnable 0 s) := by
  rw [writeEnable_eq_foldl]
  refine within_foldl (fun u k hu => ?_) (within_refl _)
  have hclear : bit (0 : Word) k.val = false := by simp [bit]
  cases hold : bit (s.reg (.ln .ENABLE)) k.val with
  | true =>
    rw [enableLane_stop hclear hold]
    exact laneStop_within hu (by simp) (by simp) (by simp)
  | false =>
    rw [enableLane_keep (hclear.trans hold.symm)]
    exact hu

theorem writeEnable_zero_coach (s : State) : (writeEnable 0 s).coach = s.coach :=
  (writeEnable_zero s).partsBut .coach (by simp)

theorem startFull_eq (im : Image) (s : State) :
    startFull im s =
      updLoader (fun l => { l with phase := .stopping, image := some im }) (writeEnable 0 (stopAll true s)) := rfl

/-- The load waits for the trains and holds its image. -/
theorem startFull_loader (im : Image) (s : State) :
    (startFull im s).coach.loader.phase = .stopping ∧ (startFull im s).coach.loader.image = some im := by
  rw [startFull_eq, updLoader_coach]
  exact ⟨rfl, rfl⟩

theorem startFull_cars (im : Image) {s : State} (hsubst : ∀ n : Fin 16, (s.coach.trains[n]).subst = none) :
    (startFull im s).coach.cars = s.coach.cars := by
  rw [startFull_eq, updLoader_coach, writeEnable_zero_coach, stopAll_cars hsubst]

theorem startFull_train (im : Image) {s : State} (hsubst : ∀ n : Fin 16, (s.coach.trains[n]).subst = none) (n : Fin 16) :
    (startFull im s).coach.trains[n] = (s.coach.trains[n]).stoppedAt s.now true := by
  rw [startFull_eq, updLoader_coach, writeEnable_zero_coach, ← stopAll_train hsubst true n]

theorem startFull_ENABLE (im : Image) {s : State} (hwf : RegFile.wf s.regs) : (startFull im s).reg (.ln .ENABLE) = 0 :=
  writeEnable_reg (s := stopAll true s) (t := writeEnable 0 (stopAll true s)) (stopAll_wf hwf true) (writeEnable_zero _)

end Sys2Proof.Machine
end

section
/-! PROOFS. Writes of the staging registers (R194). On top of all, the statement about the loader's commands. -/
namespace Sys2Proof.Machine

/-! ### The staging range -/

/-- The range that a write of a staging register asks for. -/
def stagingBase (r : CwReg) (v : Word) (s : State) : Nat :=
  if r = .STGBASE then (v &&& 0xFFFFF000).toNat else (s.reg (.cw .STGBASE)).toNat

def stagingLen (r : CwReg) (v : Word) (s : State) : Nat :=
  if r = .STGLEN then fld v 18 0 else s.rfld (.cw .STGLEN) 0 18 0

/-- A range in system SRAM outside the banks of R194. -/
def StagingFree (base len : Nat) : Prop :=
  0x20000000 ≤ base ∧ base < 0x20180000 ∧ base + len ≤ 0x20180000 ∧ len ≤ 262144 ∧
  ∀ b ∈ [6, 7, 9, 10, 11], base + max len 1 ≤ 0x20000000 + 0x20000 * b ∨ 0x20000000 + 0x20000 * (b + 1) ≤ base

theorem stagingOk_iff (base len : Nat) : stagingOk base len = true ↔ StagingFree base len := by
  have hbank (b : Nat) : 0x20000000 + 0x20000 * b + 0x20000 = 0x20000000 + 0x20000 * (b + 1) := by omega
  simp only [stagingOk, StagingFree, Bool.and_eq_true, Bool.or_eq_true, decide_eq_true_eq, List.all_eq_true, hbank]
  exact ⟨fun ⟨⟨hlow, hend, hbase, hlen⟩, hbanks⟩ => ⟨hlow, hbase, hend, hlen, hbanks⟩,
    fun ⟨hlow, hbase, hend, hlen, hbanks⟩ => ⟨⟨hlow, hend, hbase, hlen⟩, hbanks⟩⟩

theorem fld_low_19 (v : Word) : fld v 18 0 = v.toNat % 524288 := congrArg (· % 524288) (Nat.div_one _)

/-- A word without its low 12 bits. -/
theorem toNat_and_page (v : Word) : (v &&& 0xFFFFF000).toNat = v.toNat / 4096 * 4096 := by
  have hmask : ∀ i < 32, (0xFFFFF000 : Word).getLsbD i = decide (12 ≤ i) := by decide
  have hshift : v &&& (0xFFFFF000 : Word) = v >>> 12 <<< 12 := by
    refine BitVec.eq_of_getLsbD_eq fun i hi => ?_
    rw [BitVec.getLsbD_and, hmask i hi, BitVec.getLsbD_shiftLeft, BitVec.getLsbD_ushiftRight]
    by_cases hpage : 12 ≤ i
    · have hsplit : 12 + (i - 12) = i := by omega
      have hbelow : ¬i < 12 := by omega
      simp only [hpage, hbelow, hsplit, hi, decide_true, decide_false, Bool.and_true, Bool.true_and, Bool.not_false]
    · have hbelow : i < 12 := by omega
      simp only [hpage, hbelow, decide_true, decide_false, Bool.and_false, Bool.not_true, Bool.false_and]
  rw [hshift, BitVec.toNat_shiftLeft, BitVec.toNat_ushiftRight, Nat.shiftRight_eq_div_pow, Nat.shiftLeft_eq]
  omega

/-! ### The write -/

theorem writeStaging_eq (r : CwReg) (v : Word) (s : State) :
    writeStaging r v s =
      if s.coach.loader.staged || s.coach.loader.phase != .idle || !stagingOk (stagingBase r v s) (stagingLen r v s) then s
      else s.plainWrite false (.cw r) 0 v := rfl

theorem writeStaging_stores {r : CwReg} {v : Word} {s : State} (hstaged : s.coach.loader.staged = false)
    (hidle : s.coach.loader.phase = .idle) (hfree : StagingFree (stagingBase r v s) (stagingLen r v s)) :
    writeStaging r v s = s.plainWrite false (.cw r) 0 v := by
  simp [writeStaging_eq, hstaged, hidle, (stagingOk_iff _ _).2 hfree]

theorem writeStaging_ignored {r : CwReg} {v : Word} {s : State}
    (h : s.coach.loader.staged = true ∨ s.coach.loader.phase ≠ .idle ∨ ¬StagingFree (stagingBase r v s) (stagingLen r v s)) :
    writeStaging r v s = s := by
  rw [← stagingOk_iff, Bool.not_eq_true] at h
  rw [writeStaging_eq, if_pos]
  simpa [or_assoc] using h

theorem writeStaging_regsBut (r : CwReg) (v : Word) (s : State) : RegsBut [(.cw r, 0)] s (writeStaging r v s) := by
  rw [writeStaging_eq]
  split
  · exact fun _ _ _ => rfl
  · exact setReg_regsBut _ _ _ _

theorem writeStaging_partsBut (r : CwReg) (v : Word) (s : State) : PartsBut [] s (writeStaging r v s) :=
  (writeStaging_within (P := (· ∈ [])) (R := fun _ => True) (within_refl s) trivial).partsBut

/-- Bits of access type RW take the value, and every other bit keeps its own (R6, R7). -/
theorem applyWrite_of_rw {i : RegInfo} (hrws : i.rws = 0) (hw1c : i.w1c = 0) (hw1s : i.w1s = 0) (secure : Bool)
    (old v : Word) :
    applyWrite i secure old v = (old &&& ~~~(BitVec.ofNat 32 i.rw)) ||| (v &&& BitVec.ofNat 32 i.rw) := by
  simp only [applyWrite, hrws, hw1c, hw1s, Nat.or_zero, ite_self, BitVec.and_zero, BitVec.not_zero, BitVec.and_allOnes,
    BitVec.or_zero]

/-- What a write of a staging register does, stored or ignored (R194). -/
theorem stagingWrite_outcome {a : Accessor} {r : CwReg} {v stored : Word} {base len : Nat} {s : State}
    (hr : r = .STGBASE ∨ r = .STGLEN) (hwf : RegFile.wf s.regs) (hreach : WriteReaches a (.cw r) v s)
    (hbase : stagingBase r v s = base) (hlen : stagingLen r v s = len)
    (hstored : applyWrite (Reg.info (.cw r)) false (s.reg (.cw r)) v = stored) :
    ∃ t, (.next (regPut a (.cw r) 0 v s) : Host.Outcome State Fault Refusal) = .next t ∧ lastAnswer a t = .done ∧
      RegsBut [(.cw r, 0)] s t ∧ PartsBut [.acc] s t ∧
      (s.coach.loader.staged = false → s.coach.loader.phase = .idle → StagingFree base len → t.reg (.cw r) = stored) ∧
      (s.coach.loader.staged = true ∨ s.coach.loader.phase ≠ .idle ∨ ¬StagingFree base len →
        t.reg (.cw r) = s.reg (.cw r)) := by
  subst hbase hlen hstored
  have hput : regPut a (.cw r) 0 v s = (writeStaging r v s).answer a .done := by
    obtain rfl | rfl := hr <;> exact regPut_reaches hreach 0
  refine ⟨_, congrArg Host.Outcome.next hput, lastAnswer_answer_same _ _ _,
    (writeStaging_regsBut r v s).trans (answer_regsBut _ _ _),
    (writeStaging_partsBut r v s).trans (answer_partsBut _ _ _), fun hstaged hidle hfree => ?_, fun hnot => ?_⟩
  · rw [State.answer_reg, writeStaging_stores hstaged hidle hfree, State.plainWrite, reg_setReg_same _ _ _ _ hwf]
  · rw [State.answer_reg, writeStaging_ignored hnot]

end Sys2Proof.Machine

namespace Sys2Proof.Proofs
open Machine

/-- Settles O25: each command by its one outcome in the loader's phase, each end of a check by its result, and a staging
write by its range. -/
theorem loaderCommands : Obligations.LoaderCommands := by
  unfold Obligations.LoaderCommands
  refine ⟨?_, ?_, ?_, ?_⟩
  · -- verify and apply
    intro a i v cmd src s hmem hreach
    obtain ⟨hexec, rfl, hlow, hhigh, rfl⟩ := of_mem_loadCommands hmem
    have hput : exec i s = .next ((writeLdCmd v s).answer a .done) :=
      (hexec s).trans (congrArg Host.Outcome.next (regPut_LDCMD hreach))
    refine ⟨fun hidle hcheck => ?_, fun hidle hstaged hwf hkind => ?_, fun hbusy hwf => ?_⟩
    · rw [writeLdCmd_begins hlow hhigh hidle hcheck] at hput
      exact ⟨_, hput, lastAnswer_answer_same _ _ _, rfl, rfl, rfl, rfl, beginLoad_locked _ _ _ _, rfl, rfl, rfl,
        (beginLoad_regsBut _ _ _ _).trans (answer_regsBut _ _ _),
        ((beginLoad_partsBut _ _ _ _).trans (answer_partsBut _ _ _)).mono (by simp)⟩
    · rw [writeLdCmd_of_other_kind hidle hstaged hkind] at hput
      have hstaging : (fld v 3 0 == 4) = false := beq_false_of_ne (by omega)
      refine ⟨_, hput, lastAnswer_answer_same _ _ _, ?_⟩
      rw [State.answer_coach, loaderFinish_coach]
      exact ⟨rfl, rfl, (congrArg _ hstaging).trans (Bool.and_false _), (congrArg _ hstaging).trans (Bool.and_false _),
        loaderFinish_fail (by decide) hwf, rfl, rfl,
        ((beginLoad_regsBut _ _ _ _).trans (loaderFinish_regsBut _ _)).trans (answer_regsBut _ _ _)⟩
    · rw [writeLdCmd_of_busy hlow hhigh hbusy] at hput
      refine ⟨_, hput, lastAnswer_answer_same _ _ _, ?_⟩
      rw [State.answer_coach, orReg_coach]
      have hflag := rbit_orReg_of_eq_pow (m := 4) (i := 2) (updLoader_wf hwf fun l => { l with result := 10 })
        (.cw .LDSTAT) 0 rfl (by decide)
      exact ⟨rfl, hflag, rfl, rfl, orReg_partsBut _ _ _ _ .lanes (by simp), orReg_partsBut _ _ _ _ .slots (by simp),
        ((updLoader_regsBut _ _).trans (orReg_regsBut _ _ _ _)).trans (answer_regsBut _ _ _)⟩
  · -- CONSIST_ABORT
    intro a s hwf hreach
    have hput := exec_consistAbort hreach
    refine ⟨fun hchecking => ?_, fun hidle => ?_, fun hloading => ?_⟩
    · rw [loaderAbort_of_checking hchecking] at hput
      refine ⟨_, hput, lastAnswer_answer_same _ _ _, ?_⟩
      rw [State.answer_coach, updLoader_coach, loaderFinish_coach]
      exact ⟨rfl, rfl, rfl, rfl, loaderFinish_fail (by decide) hwf, rfl, rfl,
        ((loaderFinish_regsBut _ _).trans (updLoader_regsBut _ _)).trans (answer_regsBut _ _ _)⟩
    · rw [loaderAbort_of_idle hidle] at hput
      exact ⟨_, hput, lastAnswer_answer_same _ _ _, rfl, rfl, rfl,
        (updLoader_regsBut _ _).trans (answer_regsBut _ _ _),
        ((updLoader_partsBut _ _).trans (answer_partsBut _ _ _)).mono (by simp)⟩
    · rwa [loaderAbort_of_loading hloading] at hput
  · -- CONSIST_CHECK_DONE
    intro s hwf hchecking l code
    refine ⟨fun hcode => ?_, fun hcode hverify => ?_, fun hcode hcmd hfull _ hsubst => ?_⟩
    · have hslot := slotFailed_frame code s
      refine ⟨_, congrArg Host.Outcome.next (checkDone_of_failed hchecking hcode), ?_⟩
      rw [loaderFinish_coach, slotFailed_coach, loaderFinish_pending]
      exact ⟨rfl, rfl, loaderFinish_fail hcode (hslot.regs hwf), rfl, rfl,
        hslot.regsBut_nil.trans (loaderFinish_regsBut _ _),
        (hslot.partsBut.trans (loaderFinish_partsBut _ _)).mono (by simp), slotFailed_logs hcode⟩
    · refine ⟨_, congrArg Host.Outcome.next (checkDone_of_verified hchecking hcode hverify), ?_⟩
      rw [orReg_coach, updLoader_coach, longOutcome_coach]
      have hlong := longOutcome_frame s.coach.loader.port 0 s
      exact ⟨rfl, rfl, rfl, rfl,
        rbit_orReg_of_eq_pow (m := 2) (i := 1) (updLoader_wf (hlong.regs hwf) _) _ _ rfl (by decide), rfl, rfl,
        (hlong.regsBut_nil.trans (updLoader_regsBut _ _)).trans (orReg_regsBut _ _ _ _)⟩
    · have hcmd : s.coach.loader.cmd = 2 ∨ s.coach.loader.cmd = 4 := hcmd
      have hload : checkDone s = startFull (unpack (jobBytes s)) s :=
        (checkDone_of_applied hchecking hcode (by omega)).trans (applyImage_of_full (by omega) hfull)
      obtain ⟨hphase, himage⟩ := startFull_loader (unpack (jobBytes s)) s
      exact ⟨_, congrArg Host.Outcome.next hload, hphase, himage, startFull_ENABLE _ hwf, startFull_cars _ hsubst, fun n =>
        (congrArg Train.state (startFull_train _ hsubst n)).trans (Train.stoppedAt_state _ _ _)⟩
  · -- CW_STGBASE and CW_STGLEN
    intro a length v s hwf r hreach
    cases length with
    | false =>
      exact stagingWrite_outcome (.inl rfl) hwf hreach (toNat_and_page v) (fld_low_19 _)
        (applyWrite_of_rw rfl rfl rfl _ _ _)
    | true =>
      exact stagingWrite_outcome (.inr rfl) hwf hreach rfl (fld_low_19 v) (applyWrite_of_rw rfl rfl rfl _ _ _)

end Sys2Proof.Proofs
end
